-- ==== Sys2Proof/Word.lean ====
section
/-!
DEFINITION. The word types of the module and the plain data that every other file shares: bytes, binary32 patterns,
128-bit commands, sparse tables, format codes and exact values.
-/

namespace Sys2Proof

/-- A byte of any memory of the module. -/
abbrev Byte := BitVec 8

/-- A binary32 bit pattern (R44): an accumulator element, a Limber lane, a conversion parameter. -/
abbrev F32 := BitVec 32

/-- A 128-bit command or one word of a program step (R24, R160). -/
abbrev W128 := BitVec 128

/-- A 16-bit token or credit counter (R20). -/
abbrev Ctr := BitVec 16

/-- A sparse table: the listed keys in rising order, each with a value that differs from the table's default. -/
abbrev Tab (α : Type) := List (Nat × α)

/-- The ten number formats of R43. -/
inductive Format where
  | fp32 | bf16 | e4m3 | e5m2 | mx8e4m3 | mx8e5m2 | mx6e3m2 | mx6e2m3 | mx4 | mxint8
  deriving DecidableEq, Repr

/-- An exact value: a NaN, an infinity, or plus or minus `mag` times two to the `exp`. -/
inductive Val where
  | nan
  | inf (neg : Bool)
  | fin (neg : Bool) (mag : Nat) (exp : Int)
  deriving DecidableEq, Repr

/-- The CONVERT status record of R57; `first` is 64 × row + column of the first special element. -/
structure Stat where
  special   : Bool := false
  saturated : Bool := false
  first     : Nat := 0
  count     : Nat := 0
  deriving DecidableEq, Repr

/-- The parameters of CONVERT (R52, R53), clip bounds always present: R70 makes the infinities mean no clipping. -/
structure ConvParams where
  s      : F32
  b      : F32
  lo     : F32
  hi     : F32
  fmt    : Format
  tscale : Nat
  deriving DecidableEq, Repr

end Sys2Proof
end

