-- ==== Sys2Proof/Syntax.lean ====
section
/-!
DEFINITION. The commands of the block, one constructor per row of the table of commands, and the plain data their
operands carry.
-/

namespace Sys2Proof

/-- A shell of R19 that runs a stream of 128-bit words: the task on a core, or a unit's program for one context. -/
inductive Shell where
  | core (n : Nat)
  | unit (uid ctx : Nat)
  deriving DecidableEq, Repr

/-- The two moments of a stream command (R28, R30): its dispatch from the head of a shell's stream, and its start in
its unit, named by the number it took at dispatch. -/
inductive Moment where
  | dispatch (sh : Shell)
  | start (id : Nat)
  deriving DecidableEq, Repr

/-- The two moments of a step that accesses memory as it starts; the start carries the place of the first access that fails beyond
correction, if one does (R150). -/
inductive StepMoment where
  | dispatch (sh : Shell)
  | start (id : Nat) (err : Option Nat)
  deriving DecidableEq, Repr

/-- A Charun Link frame (R182, R183): header and payload. -/
structure Frame where
  header  : Nat
  payload : List Nat
  deriving DecidableEq, Repr

/-- A Planer-link transfer (R226): header and data. -/
structure Xfer where
  header : Nat
  data   : List Nat
  deriving DecidableEq, Repr

/-- A read request as it reaches a Planer (R227), and whether the bytes it names fail beyond correction (R150). -/
structure ReadReq where
  xfer : Xfer
  err  : Bool
  deriving DecidableEq, Repr

/-- A flash block that the FTL empties, and its bytes that are still valid (R146). -/
structure BlockMove where
  block : Nat
  bytes : Nat
  deriving DecidableEq, Repr

/-- A frame on the management port (R343). -/
structure MgmtFrame where
  bytes : List Nat
  deriving DecidableEq, Repr


/-- The commands: one constructor per row of spec/opcode_table.json; the rule named is the row's. -/
inductive Instr where
  /-- NOP (R26): Shell control command that does nothing beyond the waits, takes and posts of its header. -/
  | nop (sh : Shell)
  /-- SETTLE (R26): Shell control command that dispatches only once every earlier command of its stream has
  completed. -/
  | settle (sh : Shell)
  /-- STEPMARK (R27): Marks a step boundary of a stream, checks the step order and STOP_STEP, and moves the step
  pins. -/
  | stepmark (sh : Shell)
  /-- END (R26): Ends a stream or program; the task's core is freed once earlier commands complete. -/
  | endStream (sh : Shell)
  /-- COMMAND_COMPLETE (R30): A dispatched command or step completes, its effects become visible and its post or
  credit return is issued. -/
  | commandComplete (id : Nat)
  /-- POST_ARRIVAL (R32): A token post reaches its counter through a binding and adds POSTN. -/
  | postArrival (i : Nat)
  /-- CREDIT_RETURN (R36): A credit return adds POSTN to a credit counter. -/
  | creditReturn (i : Nat)
  /-- STOP_STEP_WRITE (R219): A write of STOP_STEP changes the step at which STEPMARKs stop, from the next SCLK
  cycle. -/
  | stopStepWrite (path ctx v : Nat)
  /-- MMA (R68): Matrix engine command that accumulates A × B into an accumulator tile after the scoreboard admits
  it. -/
  | mma (m : Moment) (sampled : Bool)
  /-- MMA_ROW_ISSUE (R61): One A row issues through the cell array and updates a tile row under the accumulation
  rule. -/
  | mmaRowIssue (e : Nat)
  /-- PRELOAD (R69): Opens a tile from a scratchpad bias or residual, decoded to fp32. -/
  | preload (m : Moment) (sampled : Bool)
  /-- DRAIN (R72): Converts a tile into a scratchpad slot with a conversion set and writes the drain record. -/
  | drain (m : Moment)
  /-- TOPK (R74): Merges the top k values of each tile row, with their positions, into a scratchpad list. -/
  | topk (m : Moment)
  /-- TILEREL (R75): Releases a tile without reading it. -/
  | tilerel (m : Moment)
  /-- CVTSC (R71): Sets the scale and bias of a conversion set when it reaches the head of the engine queue. -/
  | cvtsc (m : Moment)
  /-- CVTCL (R71): Sets the clip bounds and the FP8 scale of a conversion set when it reaches the head of the
  queue. -/
  | cvtcl (m : Moment)
  /-- VLD (R104): Limber load of a scratchpad slot's elements, decoded to fp32, into a vector register. -/
  | vld (m : Moment)
  /-- VST (R105): Limber store of a register through CONVERT into a slot, by whole MX blocks. -/
  | vst (m : Moment)
  /-- VSTAT (R106): Writes a status accumulator as a record, passes it to the Scaler, and clears the accumulator. -/
  | vstat (m : Moment)
  /-- VIMM (R95): Loads an fp32 immediate into the active lanes. -/
  | vimm (m : Moment)
  /-- VSEL (R100): Selects each lane from one of two registers by a mask. -/
  | vsel (m : Moment)
  /-- VADD (R97): Lane-wise fp32 addition. -/
  | vadd (m : Moment)
  /-- VSUB (R97): Lane-wise fp32 subtraction. -/
  | vsub (m : Moment)
  /-- VMUL (R97): Lane-wise fp32 multiplication. -/
  | vmul (m : Moment)
  /-- VFMA (R97): Lane-wise fused multiply-add with one rounding. -/
  | vfma (m : Moment)
  /-- VFNMA (R97): Lane-wise negated fused multiply-add with one rounding. -/
  | vfnma (m : Moment)
  /-- VMAX (R99): Lane-wise maximum with NaN propagation. -/
  | vmax (m : Moment)
  /-- VMIN (R99): Lane-wise minimum with NaN propagation. -/
  | vmin (m : Moment)
  /-- VABS (R97): Clears the sign bit in each active lane. -/
  | vabs (m : Moment)
  /-- VNEG (R97): Inverts the sign bit in each active lane. -/
  | vneg (m : Moment)
  /-- VDIV (R97): Lane-wise correctly rounded division. -/
  | vdiv (m : Moment)
  /-- VSQRT (R97): Lane-wise correctly rounded square root. -/
  | vsqrt (m : Moment)
  /-- VRCP (R98): Lane-wise reciprocal within 1 ulp. -/
  | vrcp (m : Moment)
  /-- VRSQRT (R98): Lane-wise reciprocal square root within 1 ulp. -/
  | vrsqrt (m : Moment)
  /-- VEXP2 (R98): Lane-wise power of two within 2 ulp. -/
  | vexp2 (m : Moment)
  /-- VLOG2 (R98): Lane-wise base-2 logarithm within 2 ulp. -/
  | vlog2 (m : Moment)
  /-- VEXP (R98): Lane-wise natural exponential within 2 ulp. -/
  | vexp (m : Moment)
  /-- VTANH (R98): Lane-wise hyperbolic tangent within 2 ulp. -/
  | vtanh (m : Moment)
  /-- VERF (R98): Lane-wise error function within 3 ulp. -/
  | verf (m : Moment)
  /-- VRSUM (R102): Row sum by the fixed tree, plus the third operand. -/
  | vrsum (m : Moment)
  /-- VRMAX (R102): Row maximum by the fixed tree, combined with the third operand. -/
  | vrmax (m : Moment)
  /-- VRMIN (R102): Row minimum by the fixed tree, combined with the third operand. -/
  | vrmin (m : Moment)
  /-- VRDOT (R102): Row sum of lane products by the fixed tree, plus the third operand. -/
  | vrdot (m : Moment)
  /-- VCMP (R99): Writes mask bits from a comparison of two registers. -/
  | vcmp (m : Moment)
  /-- KOP (R101): Applies a logical function bit by bit to two masks. -/
  | kop (m : Moment)
  /-- KCOL (R101): Builds a mask of lanes within a column range and a row range. -/
  | kcol (m : Moment)
  /-- FILL (R157): Move-port command that copies a descriptor window into a scratchpad slot, filling kerf
  positions. -/
  | fill (m : Moment) (err : Option Nat)
  /-- SPILL (R157): Move-port command that writes the valid elements of a slot into a descriptor window. -/
  | spill (m : Moment) (err : Option Nat)
  /-- WINSET (R156): Sets two coordinates of a window register at dispatch. -/
  | winset (sh : Shell)
  /-- MOVE (R168): Mover step that copies or converts a box of cant windows between descriptors across tiers. -/
  | move (m : Moment) (err : Option Nat)
  /-- STAGE (R162): Mover step that marks a region BUSY and starts copying it from its home into a pool frame. -/
  | stage (m : Moment)
  /-- STAGE_COMPLETE (R162): The staging copy ends: the region becomes STAGED, clean and not BUSY, and the post is
  issued. -/
  | stageComplete (id : Nat) (err : Option Nat)
  /-- EVICT (R164): Mover step that marks a staged region BUSY and waits for earlier accesses to drain. -/
  | evict (m : Moment)
  /-- EVICT_DRAIN_END (R164): The earlier accesses have completed and the write-back of dirty pages begins. -/
  | evictDrainEnd (id : Nat)
  /-- EVICT_COMPLETE (R164): The write-back ends; the region is unstaged and its frame returns to the pool. -/
  | evictComplete (id : Nat) (err : Option Nat)
  /-- CLEAN (R165): Mover step that writes back dirty pages while keeping the region staged. -/
  | clean (m : Moment)
  /-- CLEAN_COMPLETE (R165): The CLEAN ends, DIRTY is recomputed and the post is issued. -/
  | cleanComplete (id : Nat) (err : Option Nat)
  /-- DESC_CREATE (R121): Validates DESC_IMAGE and installs it at DESC_NUM, or refuses it with a reason. -/
  | descCreate (path ctx : Nat)
  /-- DESC_DESTROY (R117): Destroys a descriptor, making it pending until no dispatched command holds a copy. -/
  | descDestroy (path ctx v : Nat)
  /-- C6_FLUSH (R136): Starts dropping the cached C6 translations. -/
  | c6Flush (path ctx : Nat)
  /-- C6_FLUSH_COMPLETE (R136): Every earlier command has completed and the cache is empty; C6_FLUSH reads 0. -/
  | c6FlushComplete (ctx : Nat)
  /-- MAP (R151): REGION_CMD action that gives a region its home from REGION_ARG. -/
  | mapRegion (path : Nat)
  /-- UNMAP (R151): REGION_CMD action that sets a region's Tier Map entry to 0. -/
  | unmap (path : Nat)
  /-- TRIM (R151): REGION_CMD action that discards the contents of a flash logical region. -/
  | trim (path : Nat)
  /-- DISCARD (R151): REGION_CMD action that drops a staged copy without write-back and clears DIRTY and LOST. -/
  | discard (path : Nat)
  /-- ALLOC_GRANT (R152): ALLOC_CMD action that grants consecutive mapped regions to a context. -/
  | allocGrant (path ctx : Nat)
  /-- ALLOC_RELEASE (R152): ALLOC_CMD action that releases an allocation when no descriptor holds it and none of
  its regions is staged. -/
  | allocRelease (path ctx : Nat)
  /-- FRAME_TO_POOL (R154): FRAME_CMD action that puts a FREE Landing frame into a context's pool. -/
  | frameToPool (path ctx : Nat)
  /-- FRAME_TO_FREE (R154): FRAME_CMD action that returns an empty pool frame to FREE. -/
  | frameToFree (path : Nat)
  /-- HOSTWIN_ADDR_WRITE (R149): Sets a host window's bus address, refused while a mapped region names the window. -/
  | hostwinAddrWrite (path v : Nat)
  /-- FLASH_SCRUB_NOW (R174): Starts a full flash scrub pass on a Planer. -/
  | flashScrubNow (path q : Nat)
  /-- FLASH_BACKGROUND_SCRUB (R146): The FTL reads and checks written blocks and relocates weak ones. -/
  | flashBackgroundScrub (q : Nat) (read : List (Nat × Nat)) (weak : List BlockMove) (uncorr : Nat) (passEnd : Bool)
  /-- READ_DISTURB_RELOCATION (R146): A block read 200,000 times since its last erase is relocated. -/
  | readDisturbRelocation (q : Nat) (b : BlockMove)
  /-- STATIC_WEAR_LEVELLING (R146): The coldest block's data is moved when the erase-count spread exceeds 150. -/
  | staticWearLevelling (q : Nat) (b : BlockMove)
  /-- GARBAGE_COLLECTION (R146): The FTL reclaims flash blocks in the background. -/
  | garbageCollection (q block bytes spare uncorr : Nat)
  /-- DDR_PATROL_SCRUB (R145): The Planer scrubs its DDR once per 24 powered hours. -/
  | ddrPatrolScrub (q corrected uncorr : Nat)
  /-- CODEWORD_RECEIVE (R179): A lane codeword is decoded and its CCW updates ACK, NAK, lane map, credits and
  state. -/
  | codewordReceive (lane message parity : Nat)
  /-- FRAME_RECEIVE (R185): A frame is accepted or discarded by LSEQ and link CRC, and ACK or NAK is set. -/
  | frameReceive (link : Nat) (f : Frame) (crc : Nat)
  /-- FRAME_SEND (R187): A frame starts on a virtual channel once its credits allow. -/
  | frameSend (link : Nat)
  /-- RETRANSMIT_TIMEOUT (R186): ACK has not advanced for 20 µs, so the oldest outstanding frames are resent. -/
  | retransmitTimeout (link : Nat)
  /-- LANE_LOSS_OF_LOCK (R190): A lane loses FEC lock, and the link narrows or enters FAULT. -/
  | laneLossOfLock (lane : Nat)
  /-- LANE_ERROR_THRESHOLD (R190): A lane's uncorrectable codeword rate over 10⁸ codewords passes 10⁻⁶, and the
  link narrows or enters FAULT. -/
  | laneErrorThreshold (lane : Nat)
  /-- LINK_TRAIN (R189): LINK_CMD 1 moves a DISABLED or FAULT link to TRAINING. -/
  | linkTrain (path link : Nat)
  /-- LINK_DISABLE (R189): LINK_CMD 2 moves a link to DISABLED. -/
  | linkDisable (path link : Nat)
  /-- LINK_RETRAIN (R191): LINK_CMD 3 retrains an UP or DEGRADED link, keeping its link state. -/
  | linkRetrain (path link : Nat)
  /-- TRAINING_COMPLETE (R189): Training ends with the link UP or DEGRADED. -/
  | trainingComplete (link lanes : Nat)
  /-- TRAINING_TIMEOUT (R189): Training fails within 200 ms; the link enters FAULT and TRAIN_FAIL is reported. -/
  | trainingTimeout (link : Nat)
  /-- RETRAIN_COMPLETE (R191): A retrained link reaches its minimum width and resends its outstanding frames from
  ACK + 1. -/
  | retrainComplete (link lanes : Nat)
  /-- RETRAIN_TIMEOUT (R191): A retrain misses the minimum width within 200 ms; the link enters FAULT and its
  buffer is discarded. -/
  | retrainTimeout (link : Nat)
  /-- DATA (R195): A received DATA frame is checked and its payload is reduced, parked or written for its open
  step. -/
  | dataFrame (plane : Nat)
  /-- END_FRAME (R209): A received END frame's stripe CRC-64 is checked against the payload accepted. -/
  | endFrame (plane : Nat)
  /-- ECRED (R203): A received ECRED frame raises the per-destination frame grant for a collective. -/
  | ecredFrame (plane : Nat)
  /-- BEAT (R211): A received BEAT frame restarts the member's progress count. -/
  | beatFrame (plane : Nat)
  /-- ABORT (R212): A received ABORT frame aborts the stand with cause ABORT_RECEIVED. -/
  | abortFrame (plane : Nat)
  /-- COMMIT_FRAME (R210): A received COMMIT frame counts a member toward the open commit round. -/
  | commitFrame (plane : Nat)
  /-- CREDIT (R204): A received CREDIT frame returns remote credits to a bound Yarder credit counter. -/
  | creditFrame (plane : Nat)
  /-- EPOCH_CMD (R196): Sets a new stand epoch and clears FENCED when the fence token and conditions match. -/
  | epochCmd (path ctx : Nat)
  /-- MEMBER_ENTRY_WRITE (R196): Writes a member-table entry, refused while a collective is open or on a duplicate
  identifier. -/
  | memberEntryWrite (path ctx v : Nat)
  /-- SELF_WRITE (R196): Writes the context's own position in the member table. -/
  | selfWrite (path ctx v : Nat)
  /-- BEAT_TIMER (R211): Every 50 µs a BEAT is sent to every other VALID member. -/
  | beatTimer (ctx : Nat)
  /-- NO_PROGRESS (R212): An open step's awaited member has been silent for 500 µs, and the stand aborts. -/
  | noProgress (ctx member : Nat)
  /-- RS (R205): Reduce-scatter collective step that sends pieces to their owners round by round. -/
  | rs (m : StepMoment)
  /-- AG (R210): All-gather collective step. -/
  | ag (m : StepMoment)
  /-- AR (R210): All-reduce collective step, ONESHOT or reduce-scatter plus gather. -/
  | ar (m : StepMoment)
  /-- SEND (R210): Sends COUNT elements to the member at position PEER. -/
  | sendStep (m : StepMoment)
  /-- RECV (R210): Receives COUNT elements from a SEND into DDESC. -/
  | recvStep (m : Moment)
  /-- A2A (R210): All-to-all collective step driven by a count table. -/
  | a2a (m : StepMoment)
  /-- RING (R210): Ring collective step that passes blocks to the successor over N − 1 rounds. -/
  | ring (m : StepMoment)
  /-- COMMIT (R241): Commit collective step that dispatches only past the commit gate and exchanges COMMIT frames. -/
  | commitStep (m : Moment)
  /-- COLLECTIVE_COMPLETE (R202): A collective step completes once output, link ACKs and stripe checks are all
  done, and it posts. -/
  | collectiveComplete (id : Nat)
  /-- COMMIT_COMPLETE (R242): The commit round completes: COMMITTED_STEP becomes s and STEPSET is sent to the
  Planers. -/
  | commitComplete (id : Nat)
  /-- RD_REQ (R227): Planer receives a request to read LEN bytes at a tier address. -/
  | rdReq (q : Nat) (x : ReadReq)
  /-- RD_DATA (R227): Die receives the data of a Planer read. -/
  | rdData (q : Nat) (x : Xfer)
  /-- WR_DATA (R227): Planer receives write data for DDR or flash. -/
  | wrData (q : Nat) (x : Xfer)
  /-- WR_ACK (R227): Die receives notice that a write is complete, and for flash durable. -/
  | wrAck (q : Nat) (x : Xfer)
  /-- GRAD (R236): Planer receives a whole granule of reduced gradient and checks its CRC, step, APPLIED and TORN
  state. -/
  | grad (q : Nat) (x : Xfer)
  /-- EMIT_TRANSFER (R237): Die receives new bf16 weights from a Planer and writes them to the Landing buffer. -/
  | emitTransfer (q : Nat) (x : Xfer)
  /-- GRAN_DONE (R237): Die receives a granule-prepared message and counts it toward its slot. -/
  | granDone (q : Nat) (x : Xfer)
  /-- ERR (R227): Die receives notice that a Planer request or granule failed, with a fault code. -/
  | errTransfer (q : Nat) (x : Xfer)
  /-- STEPSET (R242): Planer receives a new step value and sets its step counter for the context. -/
  | stepset (q : Nat) (x : Xfer)
  /-- GRANULE_HANDOFF (R237): Planer port checks a granule's placement and sends it once no region is in motion. -/
  | granuleHandoff (id : Nat)
  /-- GRANULE_APPLY (R237): Once pins on the target buffer are 0, the Planer runs the update stream on the granule. -/
  | granuleApply (q i : Nat)
  /-- GRANULE_COMPLETE (R237): Record written and emission acknowledged, so APPLIED is set and GRAN_DONE is sent. -/
  | granuleComplete (q i : Nat)
  /-- SET_STEP (R245): STEP_CMD 1 sets counters, COMMITTED_STEP and APPLIED to STEP_ARG and clears TORN and
  SKEW_LATCH. -/
  | setStep (path ctx : Nat)
  /-- ROLL_FORWARD (R245): STEP_CMD 2 advances COMMITTED_STEP and the counters by one step when every granule is
  prepared. -/
  | rollForward (path ctx : Nat)
  /-- EMIT (R245): STEP_CMD 3 re-emits v1 of every granule into the committed buffer. -/
  | emitStep (path ctx : Nat)
  /-- SNAPSHOT (R245): STEP_CMD 4 copies every state record to the snapshot area. -/
  | snapshot (path ctx : Nat)
  /-- RESTORE (R245): STEP_CMD 5 copies the snapshot back, then runs SET_STEP and EMIT. -/
  | restoreStep (path ctx : Nat)
  /-- STEP_ACTION_COMPLETE (R247): The copy or emission of a STEP_CMD action ends and STEP_CMD reads 2 or 3. -/
  | stepActionComplete (ctx : Nat)
  /-- WEIGHT_LOAD (R252): WLOAD_CMD 1 starts loading weight version WVER + 1 into the other buffer. -/
  | weightLoad (path ctx : Nat)
  /-- WEIGHT_SWITCH (R252): WLOAD_CMD 2 makes the loading version the one taken at the next admission. -/
  | weightSwitch (path ctx : Nat)
  /-- REVERT (R252): WLOAD_CMD 3 makes the version held in the other buffer the next one. -/
  | revert (path ctx : Nat)
  /-- SLOT_FILL_START (R253): A slot buffer becomes FILLING once its pins are 0, and one LGO token is posted. -/
  | slotFillStart (ctx : Nat)
  /-- SLOT_READY (R253): An acquired LDONE token marks the lowest FILLING slot READY. -/
  | slotReady (ctx : Nat)
  /-- BATCH_SUBMIT (R257): BATCH_CMD checks BATCH_IMAGE and accepts the batch or refuses it. -/
  | batchSubmit (path ctx : Nat)
  /-- BATCH_ADMIT (R258): The sequencer admits a batch: takes the switch, pins, processes joins, writes the table
  and posts BSTART. -/
  | batchAdmit (ctx : Nat) (order : List Nat)
  /-- SLOT_TOKEN_POST (R259): A slot token is posted once its buffer is READY and lower slots have been posted. -/
  | slotTokenPost (ctx : Nat)
  /-- BATCH_COMPLETE (R262): With BDONE_N tokens acquired, pins and leaving reservations are released and the
  result becomes READY. -/
  | batchComplete (ctx : Nat)
  /-- RES_ACK (R267): A write of RES_SEQ acknowledges a READY result, making it CONSUMED. -/
  | resAck (path r v : Nat)
  /-- RES_WORD_READ (R267): A read of RES_WORD on a READY or CONSUMED result counts in RES_READS. -/
  | resWordRead (path r : Nat)
  /-- PLAN_LOAD (R273): PLAN_CMD 1 validates a plan image and installs it, replacing an earlier plan. -/
  | planLoad (path ctx : Nat)
  /-- UNLOAD (R282): PLAN_CMD 2 stops dispatching and waits for the context's work to end. -/
  | unload (path ctx : Nat)
  /-- UNLOAD_COMPLETE (R282): Dispatched work has ended; cores, save records, pins, descriptors and the image are
  freed. -/
  | unloadComplete (ctx busy : Nat)
  /-- RESUME (R282): PLAN_CMD 3 clears HELD and evaluates each head again. -/
  | resumePlan (path ctx : Nat)
  /-- PREEMPT (R282): PLAN_CMD 4 pre-empts a placed context whatever its slice, priority or hold. -/
  | preempt (path ctx : Nat)
  /-- CANCEL (R282): PLAN_CMD 5 ends a pre-emption drain and resumes dispatching. -/
  | cancel (path ctx : Nat)
  /-- CLEAR_PLACEMENT (R282): PLAN_CMD 6 erases PLACE_MAP. -/
  | clearPlacement (path ctx : Nat)
  /-- TALLY_CLEAR (R285): Zeroes the context's Tally counters. -/
  | tallyClear (path ctx : Nat)
  /-- PLACEMENT (R274): A waiting context is placed on eligible cores of all its clusters at once. -/
  | placement (ctx : Nat)
  /-- CORE_CLEAR_COMPLETE (R276): The 2,048-ACLK clearing of a freshly placed core ends and dispatch may begin. -/
  | coreClearComplete (n : Nat)
  /-- SCHEDULER_EVALUATE (R278): The pre-emption policy chooses victims for waiters and gives free cores to
  waiters. -/
  | schedulerEvaluate
  /-- SLICE_EXPIRY (R278): A placed context's SLICE_SCLK runs out, which triggers policy evaluation. -/
  | sliceExpiry (ctx : Nat)
  /-- SAVE_START (R279): A core's drain ends and its move port begins writing the task's save record. -/
  | saveStart (n busy : Nat)
  /-- SAVE_COMPLETE (R279): Every save record is written; the cores are free and the context is SAVED. -/
  | saveComplete (ctx : Nat)
  /-- RESTORE_COMPLETE (R279): A restored task's record is read back and dispatch resumes at the saved head. -/
  | restoreComplete (n : Nat)
  /-- PREEMPT_OVERRUN (R281): A drain reaching 1.6 ms reports SCHED PREEMPT_OVERRUN once and keeps waiting. -/
  | preemptOverrun (ctx : Nat)
  /-- SCALER_RECORD (R294): The Scaler processes a status record and makes SPECIAL, ACC_OVERFLOW or SATURATED
  findings. -/
  | scalerRecord
  /-- SCALER_EXPORT (R298): SCALER_XFER 1 writes the Scaler state to a tier address. -/
  | scalerExport (path ctx : Nat)
  /-- SCALER_IMPORT (R298): SCALER_XFER 2 reads the Scaler state back from a tier address. -/
  | scalerImport (path ctx : Nat)
  /-- SCALER_WINDOW_WRITE (R310): A write of SCALER_WINDOW sets the window length and empties the windows. -/
  | scalerWindowWrite (path ctx v : Nat)
  /-- CHECK_START (R301): A queued capture starts replaying on an engine of the next cluster. -/
  | checkStart (cap e : Nat)
  /-- CHECK_COMPLETE (R301): The replay ends and its digest is compared with the original's. -/
  | checkComplete (cap flip : Nat)
  /-- ARBITRATION_COMPLETE (R302): The arbiter's replay ends and a verdict charges an engine or sets COMMIT_HOLD. -/
  | arbitrationComplete (cap e flip : Nat)
  /-- XCHK_EXPORT (R304): XCHK_CMD 1 copies a kept capture to XCHK_ADDR. -/
  | xchkExport (path : Nat)
  /-- XCHK_RUN (R304): XCHK_CMD 2 runs the capture at XCHK_ADDR and writes XCHK_DIGEST. -/
  | xchkRun (path : Nat)
  /-- BLAZE_SIGN (R308): The Camp finishes signing a blaze record, which becomes readable. -/
  | blazeSign
  /-- FAULT_RECORD_READ (R335): A read of FAULT_RECORD marks that record read for FAULT_LOST. -/
  | faultRecordRead (path : Nat)
  /-- W1C_FLAG_CLEAR (R342): A write of 1 clears a W1C flag, and a set in the same cycle wins. -/
  | w1cFlagClear (path idx sub : Nat) (hwSet : Option Nat)
  /-- SNAG_DECLARE (R315): A wait-for cycle still for SNAG_STABLE_LCLK is declared; its contexts are held, a
  record written and a dump started. -/
  | snagDeclare (cycle : List (Nat × Nat))
  /-- DUMP_CMD (R318): Starts a dump into the older dump slot. -/
  | dumpCmd (path v : Nat)
  /-- OBSERVATION_READ_TIMEOUT (R319): An observation read unanswered after 64 SCLK is written as zeros and marked
  UNREADABLE. -/
  | observationReadTimeout (node ctx read : Nat)
  /-- DUMP_COMPLETE (R321): A dump ends and its slot reads READY. -/
  | dumpComplete
  /-- DUMP_RELEASE (R318): Releases the dump slot named by DUMP_SEL. -/
  | dumpRelease (path v : Nat)
  /-- FB_CORE (R323): FB_CMD 1 requests a core firebreak reset. -/
  | fbCore (path : Nat)
  /-- FB_CLUSTER (R323): FB_CMD 2 requests a cluster firebreak reset. -/
  | fbCluster (path : Nat)
  /-- FB_LANDING_STACK (R323): FB_CMD 3 requests a Landing stack firebreak reset. -/
  | fbLandingStack (path : Nat)
  /-- FB_LINK_PLANE (R323): FB_CMD 4 requests a link plane firebreak reset. -/
  | fbLinkPlane (path : Nat)
  /-- FB_PLANER (R323): FB_CMD 5 requests a Planer firebreak reset. -/
  | fbPlaner (path : Nat)
  /-- FB_DIE (R323): FB_CMD 6 requests a die firebreak reset. -/
  | fbDie (path : Nat)
  /-- FB_MODULE (R323): FB_CMD 7 requests a module firebreak reset. -/
  | fbModule (path : Nat)
  /-- FIREBREAK_RESET (R322): After its dump, the firebreak's units go in scope and are reset. -/
  | firebreakReset
  /-- FIREBREAK_COMPLETE (R322): The reset finishes and FB_CMD reads 2. -/
  | firebreakComplete
  /-- REPLAY_START (R327): REPLAY_CMD 1 starts isolation on REPLAY_CTX. -/
  | replayStart (path : Nat)
  /-- REPLAY_END (R327): REPLAY_CMD 2 ends isolation. -/
  | replayEnd (path : Nat)
  /-- REGISTER_WRITE (R333): A write to a dictionary object without a row of its own is checked and applied or
  refused. -/
  | registerWrite (path idx sub v : Nat)
  /-- BAR0_READ_REQUEST (R337): A BAR0 memory read request is served from shadows, or answered with Unsupported
  Request. -/
  | bar0ReadRequest (off dws be : Nat) (locked : Bool)
  /-- BAR0_WRITE_REQUEST (R337): A BAR0 memory write request is split into slot writes, or discarded and refused
  whole. -/
  | bar0WriteRequest (off be : Nat) (data : List Nat) (poisoned : Bool)
  /-- U64_SLOT_READ (R339): A BAR0 read of a 64-bit slot returns the low word and latches the high word into
  DICT_HI. -/
  | u64SlotRead (idx sub : Nat)
  /-- SEG_OPEN_READ (R340): SEG_CMD 1 opens a wide object for reading, copying it when short. -/
  | segOpenRead (k : Nat)
  /-- SEG_OPEN_WRITE (R340): SEG_CMD 2 opens a wide object for writing with a zeroed buffer. -/
  | segOpenWrite (k : Nat)
  /-- SEG_COMMIT (R340): SEG_CMD 3 writes the channel buffer to the object as one write. -/
  | segCommit (k : Nat)
  /-- SEG_CLOSE (R340): SEG_CMD 4 closes the segment channel. -/
  | segClose (k : Nat)
  /-- SEG_WINDOW_WRITE (R340): A window write stores 4 B in the channel buffer at SEG_OFFSET. -/
  | segWindowWrite (k w v : Nat)
  /-- MGMT_FRAME_RECEIVE (R343): A frame on the management port is accepted or discarded and counted. -/
  | mgmtFrameReceive (f : MgmtFrame)
  /-- NEIGHBOR_SOLICITATION (R343): A Neighbor Solicitation for a module address is answered with an Advertisement. -/
  | neighborSolicitation (f : MgmtFrame)
  /-- ECHO_REQUEST (R343): An ICMPv6 Echo Request is answered with an Echo Reply. -/
  | echoRequest (f : MgmtFrame)
  /-- BDP_REQUEST (R349): A BDP request is checked by tag and SEQ, queued, executed or answered from cache. -/
  | bdpRequest (d : List Nat) (src : Nat)
  /-- BDP_READ (R346): BDP READ operation returns up to 1,024 B of an object. -/
  | bdpRead (sess : Nat)
  /-- BDP_WRITE (R346): BDP WRITE operation writes a whole object. -/
  | bdpWrite (sess : Nat)
  /-- NOTIFY_SEND (R351): At most every 10 ms, a NOTIFY reports changed event counters. -/
  | notifySend
  /-- MGMT_KEY_WRITE (R348): Sets the management key, resets every session floor and cache, and sets KEY_STATE. -/
  | mgmtKeyWrite (path : Nat) (key : Nat)
  /-- DOE_DISCOVERY (R382): A DOE Discovery request is answered. -/
  | doeDiscovery (index : Nat)
  /-- DOE_BDP_OPERATION (R382): A DOE type 01h request runs one permitted BDP operation. -/
  | doeBdpOperation (d : List Nat)
  /-- POWER_CMD_RUN (R358): POWER_CMD 1 starts the exit to RUN. -/
  | powerCmdRun (path : Nat)
  /-- POWER_CMD_FALLOW (R358): POWER_CMD 2 starts the entry to FALLOW. -/
  | powerCmdFallow (path : Nat)
  /-- POWER_CMD_DORMANT (R358): POWER_CMD 3 starts the entry to DORMANT. -/
  | powerCmdDormant (path : Nat)
  /-- POWER_TRANSITION_COMPLETE (R358): A power state entry or exit ends and POWER_CMD reads 2. -/
  | powerTransitionComplete
  /-- WAKE_ON_ACCESS (R362): An unserved access with its WAKE_ON_ACCESS bit set wakes the module to RUN. -/
  | wakeOnAccess (src : Nat)
  /-- CORE_GATE_OFF (R356): A core domain idle for GATE_DELAY_KCLK is switched off. -/
  | coreGateOff (n : Nat)
  /-- CLUSTER_GATE_OFF (R356): A cluster domain is switched off when all its cores are off and no program uses it. -/
  | clusterGateOff (c : Nat)
  /-- DOMAIN_POWER_ON_COMPLETE (R356): A core or cluster domain finishes switching on, releasing a waiting
  placement or check. -/
  | domainPowerOnComplete (d : Nat)
  /-- SENSOR_SAMPLE (R363): The Lookout samples its sensors and updates the reported means. -/
  | sensorSample (sensor : Nat) (raw : Int)
  /-- OVERCURRENT_TRIP (R365): A phase or input overcurrent switches off the die rails and trips the module. -/
  | overcurrentTrip (rail phase : Nat)
  /-- POWER_STAGE_SHUTDOWN (R366): An overcurrent on rail 10, or a persisting input overcurrent, switches every
  output off and latches the rail. -/
  | powerStageShutdown (rail : Nat)
  /-- INPUT_VOLTAGE (R360): The input has been outside 48–58 V for 1 ms, so POWER INPUT_VOLTAGE is latched. -/
  | inputVoltage (mv : Nat)
  /-- INPUT_POWER_LOSS (R360): Input below 44 V, above 60 V, or VIN_MATE unmated is a loss of input power. -/
  | inputPowerLoss
  /-- POWER_ON (R373): Input power applied after a loss starts the module from its boot ROM. -/
  | powerOn
  /-- PLL_LOSS_OF_LOCK (R361): A PLL loses lock and gates its clocks. -/
  | pllLossOfLock (pll : Nat)
  /-- PLL_RELOCK (R361): A PLL relocks and its units resume. -/
  | pllRelock (pll : Nat)
  /-- REFCLK_STOP (R361): REFCLK stops and every clock, LCLK included, stops. -/
  | refclkStop
  /-- CRUISE_SURVEY (R369): Every CRUISE_PERIOD_H powered hours, a survey of every cluster begins. -/
  | cruiseSurvey
  /-- CRUISE_CMD (R369): CRUISE_CMD 1 starts a survey of every cluster now. -/
  | cruiseCmd (path : Nat)
  /-- CLUSTER_SURVEY_COMPLETE (R369): A cluster's survey ends and GUARD is raised when slack falls short. -/
  | clusterSurveyComplete (c : Nat) (slacks : List Int)
  /-- SCRUB_EXCURSION (R367): In a sleep state, a near scrub deadline powers a Planer for a scrub pass. -/
  | scrubExcursion (q : Nat)
  /-- SCRUB_EXCURSION_COMPLETE (R367): The excursion's pass completes and the domains return to their state. -/
  | scrubExcursionComplete (q : Nat)
  /-- MAC_ENERGY_WINDOW (R371): A qualifying 1 s window ends and MAC_ENERGY is updated. -/
  | macEnergyWindow (energy rows : Nat)
  /-- POWERED_HOURS (R353): Each powered hour adds 1 to POWERED_HOURS. -/
  | poweredHours
  /-- BOOT_STAGE_COMPLETE (R374): A start-up stage ends and BOOT_STATE advances. -/
  | bootStageComplete
  /-- BOOT_TIMEOUT (R376): READY not reached within 30 s, or a failed stage, resets into the other bank. -/
  | bootTimeout (code : Nat)
  /-- FW_BEGIN (R383): FW_CMD 1 opens a firmware session and erases the target bank. -/
  | fwBegin (path : Nat)
  /-- FW_ERASE_COMPLETE (R383): The target bank's erase ends. -/
  | fwEraseComplete
  /-- FW_CHUNK_WRITE (R383): A FW_CHUNK write programs 1,024 B at FW_OFFSET. -/
  | fwChunkWrite (path : Nat) (data : Nat)
  /-- FW_VERIFY (R383): FW_CMD 2 verifies the bundle and makes the bank PENDING with TRIES 2. -/
  | fwVerify (path : Nat)
  /-- FW_ABORT (R383): FW_CMD 3 closes the firmware session, leaving the bank INVALID. -/
  | fwAbort (path : Nat)
  /-- CONFIRM (R384): FW_CMD 4 raises SVN_FLOOR, revokes key slots and makes the trial bank ACTIVE. -/
  | fwConfirm (path : Nat)
  /-- FW_SWITCH (R383): FW_CMD 5 makes the INACTIVE bank PENDING. -/
  | fwSwitch (path : Nat)
  /-- ATT_CMD (R381): Starts building signed attestation evidence over the path's nonce. -/
  | attCmd (path : Nat)
  /-- EVIDENCE_READY (R381): The evidence is signed and ATT_CMD reads 2. -/
  | evidenceReady (path : Nat)
  /-- SELFTEST (R385): SELFTEST_CMD 1 starts the built-in engine and Limber test. -/
  | selftest (path : Nat)
  /-- SELFTEST_COMPLETE (R385): The self-test ends and failing engines and Limbers are marked. -/
  | selftestComplete (engines limbers : List Nat)
  /-- PROBE_ENABLE (R387): PROBE_CMD 1 checks the unlock object and enables the probe scope. -/
  | probeEnable (path : Nat)
  /-- PROBE_DISABLE (R387): PROBE_CMD 2 sets PROBE_STATE to 0. -/
  | probeDisable (path : Nat)
  /-- MSIX_UNMASK (R395): A vector's mask clears and its pending message is sent. -/
  | msixUnmask (v : Nat)
  /-- COMPLETION_TIMEOUT (R396): A host DMA completion times out and the step fails as MEM HOST_ACCESS. -/
  | completionTimeout (id : Nat)
  /-- PERST_ASSERT (R373): PERST# asserted stops every unit at once. -/
  | perstAssert
  /-- PERST_RELEASE (R374): PERST# released starts the module from its boot ROM. -/
  | perstRelease
  /-- PCIE_HOT_RESET (R397): Hot Reset, Link Disable or Surprise Down resets configuration space and the MSI-X
  table only. -/
  | pcieHotReset
  /-- D3HOT_ENTRY (R397): In D3hot, BAR0 and BAR2 requests get Unsupported Request. -/
  | d3hotEntry
  /-- REFCLK_RETURN (R361): REFCLK returns after stopping; LCLK resumes, the PLLs relock within 1 ms and the
  module resumes from its held state. -/
  | refclkReturn
  /-- PORT_LINK_UP (R354): The 1000BASE-T1 management port link comes up and PORT_STATE reads 1. -/
  | portLinkUp
  /-- PORT_LINK_DOWN (R354): The 1000BASE-T1 management port link goes down and PORT_STATE reads 0. -/
  | portLinkDown
  /-- D3HOT_EXIT (R397): The host returns the function from D3hot to D0 (No_Soft_Reset = 1), and BAR0 and BAR2
  requests are served again. -/
  | d3hotExit
  /-- FW_UNIT_PROGRAMMED (R383): A queued 1,024-B firmware unit finishes programming into the boot flash, freeing
  a place in the 16-unit queue. -/
  | fwUnitProgrammed
  deriving DecidableEq, Repr

end Sys2Proof
end

