-- ==== Sys2Proof/Decode.lean ====
section
/-!
DEFINITION. The command that a word spells. The table of commands gives no row any bits (its `fields` are empty): a
command comes from a pin, a frame, a register write or a moment inside the module, none of which is a word, so no word
spells one (log entry 58).
-/

namespace Sys2Proof

/-- The command that the low `nbits` bits of `w` spell by the table's bits: none. -/
def decodeTableWord (_nbits _w : Nat) : Option Instr := none

end Sys2Proof
end

