-- ==== Sys2Proof/Machine/Bits.lean ====
section
/-!
DEFINITION. Bit fields, sign extension and byte order (R6, R7), CRC-32C (R80) and the CRC-64 of R209.
-/

namespace Sys2Proof

/-- Bits [hi:lo] of a number (R6). -/
def bits (x hi lo : Nat) : Nat := (x >>> lo) % 2 ^ (hi + 1 - lo)

/-- One bit of a number. -/
def bit (x n : Nat) : Bool := (x >>> n) % 2 = 1

/-- A Boolean as a bit. -/
def b2n (b : Bool) : Nat := if b then 1 else 0

/-- A two's-complement number of width w. -/
def signExt (w x : Nat) : Int := if x < 2 ^ (w - 1) then (x : Int) else (x : Int) - 2 ^ w

/-- An integer as a two's-complement pattern of width w. -/
def toTwos (w : Nat) (x : Int) : Nat := (x % (2 ^ w : Nat)).toNat

/-- The number whose bytes are listed least significant first (R7). -/
def leNat : List Nat → Nat
  | [] => 0
  | b :: t => b + 256 * leNat t

/-- The n bytes of a number, least significant first (R7). -/
def leBytes : Nat → Nat → List Nat
  | 0, _ => []
  | n + 1, x => x % 256 :: leBytes n (x / 256)

/-- n divided by d, rounded up. -/
def ceilDiv (n d : Nat) : Nat := (n + d - 1) / d

/-- Field [hi:lo] of a 128-bit command word (R24). -/
def fld (w : W128) (hi lo : Nat) : Nat := bits w.toNat hi lo

/-- Eight reflected CRC steps over a register. -/
def crcBits (poly : Nat) : Nat → Nat → Nat
  | 0, c => c
  | n + 1, c => crcBits poly n (if c % 2 = 1 then (c / 2) ^^^ poly else c / 2)

/-- A reflected CRC register after a list of bytes. -/
def crcBytes (poly : Nat) (c : Nat) : List Nat → Nat
  | [] => c
  | b :: t => crcBytes poly (crcBits poly 8 (c ^^^ b)) t

/-- The running register of CRC-32C (R80), before its final inversion. -/
def crc32cRun (c : Nat) (bs : List Nat) : Nat := crcBytes 0x82F63B78 c bs

/-- CRC-32C: initial value FFFFFFFFh and final inversion (R80). -/
def crc32c (bs : List Nat) : Nat := crc32cRun 0xFFFFFFFF bs ^^^ 0xFFFFFFFF

/-- The running register of the CRC-64 of R209. -/
def crc64Run (c : Nat) (bs : List Nat) : Nat := crcBytes 0xC96C5795D7870F42 c bs

/-- The CRC-64 of R209: initial value all ones and final inversion. -/
def crc64 (bs : List Nat) : Nat := crc64Run 0xFFFFFFFFFFFFFFFF bs ^^^ 0xFFFFFFFFFFFFFFFF

end Sys2Proof
end

