-- ==== Sys2Proof/Machine/State.lean ====
section
/-!
DEFINITION. The state of the module as plain data, the reasons a step can stop, and the state right after reset.
-/

namespace Sys2Proof.Machine

/-- The machine's own stops. -/
inductive Fault where
  /-- A mover or a Planer touched a byte of a region whose home is NONE. Raised by the tier operations of
  Machine/Tier.lean; safe: MAP and UNMAP keep mapped what an allocation holds (R151, R152). -/
  | unmapped
  deriving DecidableEq, Repr

/-- Commands that have no meaning as given. -/
inductive Refusal where
  /-- The command has no meaning yet. Raised by Dispatch alone; safe. -/
  | notModelled (mnemonic : String)
  /-- An operand lies outside the numbering of R10, R19 or R336, so that it names no unit, context, path or object.
  Raised by the meanings through `need`; safe: no sender of R336 can name such a thing. -/
  | illFormed
  deriving DecidableEq, Repr

/-! ### Memories -/

/-- A range of bytes whose contents the spec leaves undefined: byte a reads `Config.freeByte seed (a - lo + off)`. -/
structure Hole where
  lo   : Nat
  len  : Nat
  seed : Nat
  off  : Nat
  deriving DecidableEq, Repr

/-- A byte memory: the listed bytes in rising order, none inside a hole and none 0, and the holes. -/
structure Mem where
  cells : List Host.Cell := []
  holes : List Hole := []
  deriving DecidableEq, Repr

/-! ### Cores (R66 to R109) -/

/-- Tile states of R82. -/
inductive TileState where
  | free | opened | closing
  deriving DecidableEq, Repr

/-- One accumulator tile: state, owner, elements keyed 64 × row + column, overflow flags (R78), operand hash (R80), and
the capture of its sampled group (R299). -/
structure Tile where
  st     : TileState := .free
  owner  : Nat := 0
  els    : Tab F32 := []
  ovfPos : Bool := false
  ovfNeg : Bool := false
  first  : Nat := 0
  count  : Nat := 0
  hash   : Nat := 0
  cap    : Option Nat := none
  deriving DecidableEq, Repr

/-- A conversion set with its plan-start values (R70). -/
structure ConvSet where
  s      : F32 := 0x3F800000
  b      : F32 := 0
  lo     : F32 := 0xFF800000
  hi     : F32 := 0x7F800000
  tscale : Nat := 0x7F
  deriving DecidableEq, Repr

/-- What a task holds on its core: the scratchpad (R128), tiles keyed 8 × engine + tile, conversion sets keyed
16 × engine + set, vector lanes keyed 256 × register + lane, masks k1 to k15, status accumulators (R89), window
coordinates keyed 4 × register + dimension (R156). A save record holds the same (R279). -/
structure CoreData where
  pad   : Mem := {}
  tiles : Tab Tile := []
  sets  : Tab ConvSet := []
  lanes : Tab F32 := []
  masks : Tab (BitVec 256) := []
  sas   : Tab Stat := []
  wins  : Tab (BitVec 32) := []
  deriving DecidableEq, Repr

/-- A save record (R279): the task's data, and the bytes that its place in the save regions was given. -/
structure SaveRec where
  data : CoreData := {}
  area : Mem := {}
  deriving DecidableEq, Repr

/-- What a core is doing for the task placed on it. -/
inductive CorePhase where
  | free | clearing | running | draining | saving | saved | restoring
  deriving DecidableEq, Repr

/-- A core: its phase, the context and the task index in the core's cluster, the physical engine positions that field
values 0, 1, ... name (R275), its data, and LAST_STEPMARK of the task that last left it (R41; log entry 76). -/
structure Core where
  phase : CorePhase := .free
  ctx   : Nat := 0
  task  : Nat := 0
  engs  : List Nat := []
  lastMark : Nat := 0
  data  : CoreData := {}
  deriving DecidableEq, Repr

/-! ### Shells (R19 to R41) -/

/-- A command stream or unit program of a context: position in 128-bit words, last STEPMARK, whether END has
dispatched, and whether the head's scoreboard wait has been counted (R83). -/
structure Stream where
  pos    : Nat := 0
  mark   : Option Nat := none
  ended  : Bool := false
  sbWait : Bool := false
  deriving DecidableEq, Repr

/-- The queue of a dispatched command (R28, R29). -/
inductive QueueId where
  | none | engine (j : Nat) | limber | movePort | unit
  deriving DecidableEq, Repr

/-- How far a dispatched command has come. -/
inductive Phase where
  | queued | running | drained | done
  deriving DecidableEq, Repr

/-- A descriptor as a command keeps it (R117): its number and its 512-bit image. -/
structure DescCopy where
  num   : Nat
  image : Nat
  deriving DecidableEq, Repr

/-- A dispatched command or step that has not completed. `owner` is the shell: 16 × cluster + task for a core stream,
the unit identifier of R19 for a program. `core` is the physical core. `rows` counts the A rows an MMA has issued,
`bimg` is its stationary buffer, `pos` its place in its stream in 128-bit words, `conv` the conversion set that a started
DRAIN takes (R71), `pages` the pages whose dirty bits a CLEAN has cleared (R165). -/
structure Flight where
  id      : Nat
  ctx     : Nat
  owner   : Nat
  core    : Nat := 0
  queue   : QueueId := .none
  words   : List W128
  phase   : Phase := .queued
  pos     : Nat := 0
  rows    : Nat := 0
  bimg    : Mem := {}
  conv    : ConvSet := {}
  descs   : List DescCopy := []
  origin  : List Int := []
  regions : List Nat := []
  pages   : List Nat := []
  deriving DecidableEq, Repr

/-- A token post or credit return on its way (R32, R36). -/
structure Post where
  ctx      : Nat
  producer : Nat
  target   : Nat
  counter  : Nat
  amount   : Nat
  credit   : Bool
  deriving DecidableEq, Repr

/-! ### Descriptors, allocations, tiers (R110 to R174) -/

/-- State of a descriptor table entry (R114, R117). -/
inductive DescState where
  | free | live | pending
  deriving DecidableEq, Repr

/-- A descriptor table entry. -/
structure DescEntry where
  st    : DescState := .free
  image : Nat := 0
  deriving DecidableEq, Repr

/-- An allocation: consecutive regions; a count of 0 means unused (R152). -/
structure Alloc where
  first : Nat := 0
  count : Nat := 0
  deriving DecidableEq, Repr

/-- Homes of R142. -/
inductive Home where
  | none | landing | ddr | flash | host
  deriving DecidableEq, Repr

/-- What holds a region BUSY (R142, R162 to R165). -/
inductive BusyBy where
  | idle | stage | evict | clean
  deriving DecidableEq, Repr

/-- A Tier Map entry (R142) with the dirty 4 KiB pages of its staged copy (R163). -/
structure Region where
  home      : Home := .none
  staged    : Bool := false
  dirty     : Bool := false
  busy      : BusyBy := .idle
  lost      : Bool := false
  owner     : Nat := 0
  allocated : Bool := false
  planer    : Nat := 0
  frame     : Nat := 0
  homeFrame : Nat := 0
  pages     : Tab Bool := []
  deriving DecidableEq, Repr

/-- Frame states of R143; a pool frame may be reserved by a running STAGE (R162). -/
inductive FrameUse where
  | free | pool (ctx : Nat) (reserved : Bool) | home (region : Nat) | staged (ctx region : Nat)
  deriving DecidableEq, Repr

/-- A block of a Planer's flash: its erases since the run began, and its reads since its last erase (R146). -/
structure FlashBlock where
  erased : Nat := 0
  reads  : Nat := 0
  deriving DecidableEq, Repr

/-! ### Contexts (R271 to R285) -/

/-- Context states of R285. -/
inductive CtxState where
  | empty | loading | waiting | placed | saving | saved | restoring | unloading
  deriving DecidableEq, Repr

/-- A context: its state and hold, the loaded plan image as kept in the reserved Landing frames (R271), the image of a
LOAD that waits for the earlier plan to unload, the cores of its tasks (16 × cluster + task to core + 1), PLACE_MAP
(R283), save records (R279), the SCLK of the drain under way (R281), the sequence numbers that order waiters and victims (R278), whether a firebreak has broken it
(R324), the dispatch number up to which a C6_FLUSH waits, the C6 translation table as of the last completed flush (R136),
and the ECRED grants of collectives that have not opened here (R195, R203; log entry 84). -/
structure Ctx where
  st        : CtxState := .empty
  held      : Bool := false
  holdFault : Nat := 0
  image     : Mem := {}
  len       : Nat := 0
  nextImage : Option (Mem × Nat) := none
  places    : Tab Nat := []
  placeMap  : Tab Nat := []
  mapped    : Bool := false
  saves     : Tab SaveRec := []
  drain     : Nat := 0
  since     : Nat := 0
  sliceDone : Bool := false
  firstWait : Bool := false
  overrun   : Bool := false
  preempted : Bool := false
  broken    : Bool := false
  c6Mark    : Option Nat := none
  c6Old     : Mem := {}
  early     : Tab Nat := []
  deriving DecidableEq, Repr

/-! ### Faults, checks, the Scaler (R286 to R310) -/

/-- A fault record (R290), with whether the host has read it. -/
structure FaultRec where
  seq    : Nat
  code   : Nat
  kind   : Nat
  source : Nat
  ctx    : Option Nat
  held   : Bool
  abort  : Bool
  blaze  : Bool
  count  : Nat
  step   : Nat
  epoch  : Nat
  inc    : Nat
  detail : Nat
  read   : Bool
  deriving DecidableEq, Repr

/-- What a blaze record of a verdict adds (R307, keys 12 to 18). -/
structure Verdict where
  verdict   : Nat
  engines   : List Nat
  opHash    : Nat
  cants     : List Nat
  digests   : List Nat
  formats   : List Nat
  confirmed : Nat
  deriving DecidableEq, Repr

/-- A blaze record: its number, its fault, the payload bytes, whether the Camp has signed it, whether it has been
read (R306 to R308). -/
structure Blaze where
  seq     : Nat
  payload : List Nat
  signed  : Bool
  read    : Bool
  deriving DecidableEq, Repr

/-- Phases of a capture: its group runs, it waits for a check, the check runs, it waits for arbitration, it is kept
(R300 to R304). -/
inductive CapPhase where
  | capturing | queued | checking (e : Nat) | arbitrating (e : Nat) | kept
  deriving DecidableEq, Repr

/-- A capture of a sampled group (R300): with what its slot holds, the command images, the conversion set of the DRAIN, bytes 0
to 15 of its record, the PRELOAD source rows, the A and B rows in issue order, the output slot. -/
structure Capture where
  id      : Nat
  ctx     : Nat
  engine  : Nat
  tile    : Nat
  step    : Nat
  bytes   : Nat
  cants   : List Nat
  cur     : Nat
  formats : List Nat
  digest  : Nat
  hash    : Nat
  check   : Nat
  phase   : CapPhase
  cmds    : List W128 := []
  conv    : ConvSet := {}
  record  : List Nat := []
  pre     : List Nat := []
  ops     : List Nat := []
  image   : List Nat := []
  deriving DecidableEq, Repr

/-! ### Links, stands, collectives (R175 to R214) -/

/-- States of a link (R189). -/
inductive LinkSt where
  | disabled | training | up | degraded | fault | retraining
  deriving DecidableEq, Repr

/-- A frame that waits on a virtual channel, and the step that sends it. -/
structure OutFrame where
  frame  : Frame
  flight : Option Nat
  deriving DecidableEq, Repr

/-- A frame in a retransmission buffer: its LSEQ, the step that sends it, how often it has been sent, and whether every
resend so far was one of R191's (R186). -/
structure TxFrame where
  lseq   : Nat
  frame  : Frame
  flight : Option Nat
  sends  : Nat
  deriving DecidableEq, Repr

/-- One lane of a link: the scramblers of both directions (R177), the CWSEQ that its next codeword should bring, and the LANE
that the far end calls it (R179). -/
structure LaneSt where
  txScr : Nat := 0
  rxScr : Nat := 0
  rxCw  : Nat := 0
  far   : Option Nat := none
  deriving DecidableEq, Repr

/-- A unit of a link's received byte stream: CWSEQ, lane, and the bytes unless the codeword was beyond correction (R178, R180). -/
structure RxUnit where
  cw    : Nat
  lane  : Nat
  bytes : Option (List Nat)
  deriving DecidableEq, Repr

/-- One end of a link: state, active and excluded lanes, LSEQ counters, NAK in both directions, credit counts by virtual
channel, the highest CWSEQ decoded, frames sent and not acknowledged, control and DATA frames that wait, frames accepted and
not yet handled (R178 to R191); the LANEMAP that the far end sent last (R179), the codewords sent since training, lanes,
bytes that wait for codewords, units received whose row is not complete, the byte stream received and not yet cut into
frames (a byte of a lost codeword missing), the CWSEQ of its next row, and whether its frame starts are known (R180,
R181). -/
structure Link where
  st     : LinkSt := .disabled
  lanes  : Nat := 0
  cut    : Nat := 0
  txSeq  : Nat := 0
  rxSeq  : Nat := 0
  nak    : Bool := false
  farNak : Option Nat := none
  used0  : Nat := 0
  used1  : Nat := 0
  lim0   : Nat := 0
  lim1   : Nat := 0
  got0   : Nat := 0
  got1   : Nat := 0
  cwseq  : Option Nat := none
  buf    : List TxFrame := []
  vc1    : List OutFrame := []
  vc0    : List OutFrame := []
  inbox  : List Frame := []
  far    : Option Nat := none
  cw     : Nat := 0
  lane   : Tab LaneSt := []
  tx     : List Nat := []
  units  : List RxUnit := []
  rx     : List (Option Nat) := []
  rxNext : Option Nat := none
  sync   : Bool := true
  deriving DecidableEq, Repr

/-- A frame of an open step that has not started: its destination position, plane and round, and whether it is the END of
its stripe (R205, R209). -/
structure OutEntry where
  dest  : Nat
  plane : Nat
  round : Nat
  last  : Bool
  frame : Frame
  deriving DecidableEq, Repr

/-- An accepted DATA frame of an open step, in order of arrival: the sender's position, how many ENDs of its stripe's
plane came before it, and the frame. -/
structure RxFrame where
  pos   : Nat
  phase : Nat
  frame : Frame
  deriving DecidableEq, Repr

/-- An open collective step (R202): the flight that it is, its wire format and tensor scale (R218), whether it has started,
its own elements as they enter the result, with whether their decode saturated (R59), frames to send, frames sent and granted keyed 16 × position + plane (R203), frames received with their counts, stripe
CRCs and ENDs keyed the same way, COMMITs accepted, the phase or the rounds done, RING sends begun and releases
relayed. -/
structure CollStep where
  id      : Nat
  ctx     : Nat
  yarder  : Nat
  fmt     : Nat
  tsc     : Nat
  started : Bool := false
  own     : List (F32 × Bool) := []
  out     : List OutEntry := []
  sent    : Tab Nat := []
  grant   : Tab Nat := []
  rx      : List RxFrame := []
  cnt     : Tab Nat := []
  crc     : Tab Nat := []
  ends    : Tab Nat := []
  commits : List Nat := []
  phase   : Nat := 0
  rounds  : Nat := 0
  relayed : Nat := 0
  deriving DecidableEq, Repr

/-! ### The Planers (R224 to R247) -/

/-- A granule's APPLIED (none: the value at installation), APPLIED_EPOCH and TORN (R231, R238). -/
structure GranState where
  applied : Option Nat := none
  epoch   : Nat := 0
  torn    : Bool := false
  deriving DecidableEq, Repr

/-- An installed layer slot: owner, image, APPLIED at installation, granules, granules whose GRAN_DONE counts towards the
prepared post, and the pins of its two buffers (R230, R231, R237, R240). -/
structure Slot where
  owner : Option Nat := none
  image : Nat := 0
  base  : Nat := 0
  grans : Tab GranState := []
  done  : List Nat := []
  pin0  : Nat := 0
  pin1  : Nat := 0
  deriving DecidableEq, Repr

/-- An installed update stream: owner and words (R232). -/
structure UStream where
  owner : Option Nat := none
  words : List W128 := []
  deriving DecidableEq, Repr

/-- How far a granule in a receive buffer has come: it waits, it is APPLYING, or its gradient is only re-emitted; with
whether its emission has been acknowledged (R236, R237). -/
inductive GranPhase where
  | waiting | applying (acked : Bool) | reemit (acked : Bool)
  deriving DecidableEq, Repr

/-- A granule of reduced gradient, at a Planer port or in a receive buffer; the TAG of its transfer, and whether its placement
fault has been reported under the hold that it set (R226, R237). -/
structure Granule where
  id    : Nat
  q     : Nat
  ctx   : Nat
  slot  : Nat
  gran  : Nat
  step  : Nat
  epoch : Nat
  fmt   : Nat
  tsc   : Nat
  data  : List Nat
  phase : GranPhase
  tag   : Nat := 0
  told  : Bool := false
  deriving DecidableEq, Repr

/-- A tier request at a Planer that waits behind a granule or a request on the same DDR bytes: its place in the order of arrival,
the transfer, and whether the read fails beyond correction (R150, R227). -/
structure TierReq where
  id  : Nat
  q   : Nat
  x   : Xfer
  err : Bool
  deriving DecidableEq, Repr

/-! ### Serving (R248 to R270) -/

/-- States of a slot buffer (R251). -/
inductive BufState where
  | empty | filling | ready
  deriving DecidableEq, Repr

/-- An accepted batch (R257 to R262): its image, the result object that reports it, whether it has been admitted, its
weight version, the slots it pins, how many slot tokens have been posted, BDONE tokens acquired, and the counts and the
deferred bitmap kept for its result. -/
structure Batch where
  image    : Nat
  result   : Nat
  admitted : Bool := false
  version  : Nat := 0
  pins     : List Nat := []
  posted   : Nat := 0
  bdone    : Nat := 0
  active   : Nat := 0
  deferred : Nat := 0
  defMap   : Nat := 0
  deriving DecidableEq, Repr

/-- A serving context's sequencer (R249 to R262): whether it serves, the serving record, slot buffers and their versions
keyed 2 × slot + buffer, slots whose fill of the running load has started, a pending switch, the last accepted
BATCH_SEQ, the running and the queued batch, key/value reservations by sequence slot as regions with their frames. -/
structure Serving where
  on      : Bool := false
  record  : Nat := 0
  bufs    : Tab BufState := []
  vers    : Tab Nat := []
  started : Nat := 0
  switch  : Bool := false
  lastSeq : Option Nat := none
  batches : List Batch := []
  kv      : List (Nat × List (Nat × Nat)) := []
  deriving DecidableEq, Repr

/-! ### Dumps, the Snag, power, start-up, access (R311 to R397) -/

/-- States of a dump slot (R329). -/
inductive DumpSt where
  | empty | writing | ready | released
  deriving DecidableEq, Repr

/-- A slot of the dump store (R318, R320); while it is written, the section of the next observation read by the offset of its
header, and the read's number in it. -/
structure DumpSlot where
  st    : DumpSt := .empty
  cause : Nat := 0
  seq   : Nat := 0
  kind  : Nat := 0
  bad   : List (Nat × Nat × Nat) := []
  len   : Nat := 0
  data  : Mem := {}
  sec   : Nat := 64
  read  : Nat := 0
  deriving DecidableEq, Repr

/-- A Snag record with its suspects (R316, R317). -/
structure SnagRec where
  seq      : Nat
  bytes    : List Nat
  suspects : Nat
  deriving DecidableEq, Repr

/-- The Snag and isolation: the declared cycles that still stand, nodes as node ID and context; of the last sample the progress
counts, the token, acquired and credit counters, the number of waiting nodes, and every edge with the samples for which it has
stood with nothing changed since its first; records newest first, replay outcomes newest first and whether the running isolation
has its outcome; whether the dump of a requested firebreak has been taken (R314 to R317, R322, R328, R329). -/
structure SnagState where
  cycles  : List (List (Nat × Nat)) := []
  last    : Tab Nat := []
  tok     : Tab Ctr := []
  acq     : Tab Ctr := []
  cred    : Tab Ctr := []
  waiting : Nat := 0
  watch   : List (((Nat × Nat) × (Nat × Nat)) × Nat) := []
  records : List SnagRec := []
  log     : List Nat := []
  noted   : Bool := false
  dumped  : Bool := false
  deriving DecidableEq, Repr

/-- States of a firmware bank (R376). -/
inductive BankSt where
  | invalid | inactive | pending | active
  deriving DecidableEq, Repr

/-- The boot flash and an open firmware session (R376, R383, R384), and the path and nonce of the attestation under way
(R381). -/
structure Firmware where
  bank0  : BankSt := .active
  bank1  : BankSt := .invalid
  tries  : Nat := 0
  img0   : Mem := { holes := [{ lo := 0, len := 67108864, seed := 0, off := 0 }] }
  img1   : Mem := { holes := [{ lo := 0, len := 67108864, seed := 1, off := 0 }] }
  sess   : Option Nat := none
  len    : Nat := 0
  erased : Bool := false
  units  : Tab Bool := []
  queue  : List (Nat × Nat) := []
  att    : Option (Nat × Nat) := none
  deriving DecidableEq, Repr

/-- What start-up measures and draws: MR0 to MR7, BOOT_DIGEST, the measurement log oldest first as register, event type,
version, digest (R378), PROBE_CHALLENGE (R386). -/
structure Boot where
  mrs       : List Nat := [0, 0, 0, 0, 0, 0, 0, 0]
  digest    : Nat := 0
  log       : List (Nat × Nat × Nat × Nat) := []
  challenge : Nat := 0
  deriving DecidableEq, Repr

/-- What the power system remembers beside its objects: domains 0 to 135 that are off, domains switching on, the last
raw samples of a sensor newest first, warnings given, faults latched while the Camp is off, a wake latched during an
entry, the state that a transition leads to, the power stage's trip latch, the Planer on a scrub excursion, clusters left
to survey, survey histories, and the last margin warnings; of each Planer's flash scrub, FLASH_SCRUB_AGE at the start of the pass
under way and the hours of the last complete pass; the SCLK cycles that have passed, and the energy meters of the input (0) and of
rail r (1 + r) in units of 2.5 × 10^-12 J and mJ (R355 to R372; log entry 9). -/
structure Power where
  off      : Tab Bool := []
  turning  : Tab Bool := []
  samples  : Tab (List Int) := []
  warned   : Tab Bool := []
  inputLow : Bool := false
  latched  : List (Nat × Nat) := []
  wake     : Option Nat := none
  target   : Option Nat := none
  stage    : Option Nat := none
  excursion : Option Nat := none
  survey   : List Nat := []
  due      : Bool := false
  history  : Tab (List (Nat × Nat)) := []
  warnHead : Tab Nat := []
  plls     : Tab Bool := []
  scrubFrom : Tab Nat := []
  scrubLen  : Tab Nat := []
  sclk     : Nat := 0
  energy   : Tab Nat := []
  deriving DecidableEq, Repr

/-- A segment channel: closed, or open with its target and buffer; a target longer than 16,384 bytes is read in place
(R340). -/
structure Seg where
  mode   : Nat := 0
  target : Nat := 0
  len    : Nat := 0
  buf    : List Nat := []
  place  : Option Nat := none
  deriving DecidableEq, Repr

/-- A BDP session: its SEQ floor, the value kept in the non-volatile store, the cached response (R349). -/
structure Session where
  floor : Nat := 0
  stored : Nat := 0
  cache : Option (List Nat) := none
  deriving DecidableEq, Repr

/-- A request in the Camp's queue (R350): session, message, next operation, body of the response so far. -/
structure BdpReq where
  sess  : Nat
  src   : Nat
  bytes : List Nat
  next  : Nat := 0
  body  : List Nat := []
  skip  : Bool := false
  deriving DecidableEq, Repr

/-- What leaves the module. -/
inductive Output where
  | msix (vector : Nat)
  | frame (link : Nat) (f : Frame)
  | codeword (lane word : Nat)
  | xfer (q : Nat) (x : Xfer)
  | bdp (dest : Nat) (bytes : List Nat)
  | mgmt (bytes : List Nat)
  | completion (status : Nat) (bytes : List Nat)
  | doe (bytes : List Nat)
  deriving DecidableEq, Repr

/-- The fault path: last SEQ, ring newest first, error history newest first, blaze records newest first (R290 to
R292, R306 to R308). -/
structure FaultState where
  seq      : Nat := 0
  ring     : List FaultRec := []
  history  : List FaultRec := []
  blazeSeq : Nat := 0
  blazes   : List Blaze := []
  deriving DecidableEq, Repr

/-- Scaler state of a context and layer slot (R296, R297): the pending histogram, the window newest first, the choice
for the step to come, and the choice used in the current step. -/
structure ScalerSlot where
  pend    : Tab Nat := []
  pendSat : Bool := false
  used    : Option (Nat × Nat) := none
  window  : List (Tab Nat × Bool) := []
  choice  : Nat × Nat := (1, 0)
  deriving DecidableEq, Repr

/-- A status record on its way to the Scaler (R293, R294). -/
structure ScalerIn where
  ctx    : Nat
  kind   : Nat
  source : Nat
  item   : Nat
  stat   : Stat
  ovf    : Bool
  ovfPos : Nat
  deriving DecidableEq, Repr

/-- A step record of R298. -/
structure StepRec where
  step     : Nat
  epoch    : Nat
  det      : Bool
  reasons  : Nat
  checks   : Nat
  mismatch : Nat
  special  : Nat
  overflow : Nat
  entries  : List (Nat × Nat × Nat × Bool)
  deriving DecidableEq, Repr

/-- Scaler state of a context: counts of the current step, the step records newest first, the committed step whose
state was imported or must be (R298), and checks not ended. -/
structure ScalerCtx where
  reasons  : Nat := 0
  checks   : Nat := 0
  mismatch : Nat := 0
  special  : Nat := 0
  overflow : Nat := 0
  records  : List StepRec := []
  missing  : Bool := false
  deriving DecidableEq, Repr

/-- The module's surroundings as its pins show them (R360, R361, R373, R391, R402): REFCLK present, the root PLL in
lock, input power present, PERST# asserted; whether INCARNATION has counted this start-up (R192). -/
structure Env where
  refclk  : Bool := true
  rootPll : Bool := true
  vin     : Bool := true
  perst   : Bool := false
  counted : Bool := false
  deriving DecidableEq, Repr

/-- The state of the module. Dictionary objects (R331 to R334) by key, per-path instances beside them; cores, streams
keyed 256 × context + owner, token, acquired and credit counters (R20), posts on their way, dispatched commands, the
dispatch counter `nextId`, the turns of the unit shells, and at 256 + c of Yarder c's frames, as the context served last plus
1 (R277), at 512 + c of the checks of cluster c, as the engine that took the last plus 1 (R301), the progress counts of the Snag's
nodes (R311); contexts, descriptor tables keyed 4096 × context + number, allocations, Tier Map, frames,
host windows; the four byte spaces of R143 to R149, flash blocks keyed 2^32 × Planer + block (R146); faults, captures, the Scaler; MSI-X vectors opened and pending (R395);
surroundings, isolated context (R328), units of a running firebreak (R322); links, open steps, stand members keyed by
position (R193), beat turns (R211); layer slots, update streams, granules at the ports and in receive buffers, the step
pins (R240), COMMITs accepted as context, N and position (R242), Planer requests open as Planer and tag, and those that wait in the order of arrival (R227); serving,
dump store, Snag, firmware, boot, power; segments, BDP sessions and queue, what the last NOTIFY told (R351); D3hot (R394),
running STEP_CMD actions and snapshots as slots with images (R245). The
last four before the queue are the model's own: the counter that orders waiters, the counter of free values, what has left
the module, and the queue itself. -/
structure State where
  objs     : Tab Nat := []
  pobjs    : Tab Nat := []
  cores    : Tab Core := []
  streams  : Tab Stream := []
  tok      : Tab Ctr := []
  acq      : Tab Ctr := []
  cred     : Tab Ctr := []
  posts    : List Post := []
  flights  : List Flight := []
  nextId   : Nat := 1
  turns    : Tab Nat := []
  work     : Tab Nat := []
  ctxs     : Tab Ctx := []
  descs    : Tab DescEntry := []
  allocs   : Tab Alloc := []
  tmap     : Tab Region := []
  frames   : Tab FrameUse := []
  hostWins : Tab Nat := []
  landing  : Mem := {}
  ddr      : Mem := {}
  flash    : Mem := {}
  host     : Mem := {}
  ftl      : Tab FlashBlock := []
  faults   : FaultState := {}
  captures : List Capture := []
  scaler   : Tab ScalerSlot := []
  scalerC  : Tab ScalerCtx := []
  scalerQ  : List ScalerIn := []
  msixOpen : Tab Bool := []
  msixPend : Tab Bool := []
  env      : Env := {}
  isolated : Option Nat := none
  downUnits : List Nat := []
  links    : Tab Link := []
  colls    : List CollStep := []
  members  : Tab Nat := []
  beatTurn : Tab Nat := []
  slots    : Tab Slot := []
  ustreams : Tab UStream := []
  portQ    : List Granule := []
  rxBuf    : List Granule := []
  stepPin  : Tab Nat := []
  commits  : List (Nat × Nat × Nat) := []
  reqs     : List (Nat × Nat) := []
  tierQ    : List TierReq := []
  serving  : Tab Serving := []
  dumps    : Tab DumpSlot := []
  snag     : SnagState := {}
  firmware : Firmware := {}
  boot     : Boot := {}
  power    : Power := {}
  segs     : Tab Seg := []
  sess     : Tab Session := []
  bdpQ     : List BdpReq := []
  notified : Tab Nat := []
  d3hot    : Bool := false
  stepRun  : Tab Nat := []
  snaps    : Tab (List (Nat × Nat)) := []
  seqNo    : Nat := 0
  free     : Nat := 2
  out      : List Output := []
  pending  : List Instr := []
  deriving DecidableEq, Repr

/-- The module right after input power is applied: in its boot ROM, every table empty, every object at its default (R17,
R373, R374; log entry 3). -/
def State.reset : State := {}

end Sys2Proof.Machine
end

