-- ==== Sys2Proof/Machine/Flags.lean ====
section
/-!
DEFINITION. The flags of an accumulator tile (R78) and the words that show them.
-/

namespace Sys2Proof.Machine

/-- The code of a tile state (R82). -/
def TileState.code : TileState → Nat
  | .free => 0 | .opened => 1 | .closing => 2

/-- Records one saturation event of a tile at position 64 × row + column: the sign's flag stays set, the first event is
kept, the count stops at 1,023 (R78). -/
def Tile.overflow (t : Tile) (neg : Bool) (pos : Nat) : Tile :=
  { t with
    ovfPos := t.ovfPos || !neg
    ovfNeg := t.ovfNeg || neg
    first := if t.ovfPos || t.ovfNeg then t.first else pos
    count := min 1023 (t.count + 1) }

/-- Clears the flags word and the operand hash (R78, R80). -/
def Tile.clearFlags (t : Tile) : Tile :=
  { t with ovfPos := false, ovfNeg := false, first := 0, count := 0, hash := 0 }

/-- The flags word of a tile (R78); OWNER reads 0 when FREE. -/
def Tile.flagsWord (t : Tile) : Nat :=
  t.st.code * 2 ^ 30 + (if t.st = .free then 0 else t.owner) * 2 ^ 24 + b2n t.ovfPos * 2 ^ 23 + b2n t.ovfNeg * 2 ^ 22
    + (t.first / 64) * 2 ^ 16 + (t.first % 64) * 2 ^ 10 + t.count

end Sys2Proof.Machine
end

