-- ==== Sys2Proof/Config.lean ====
section
/-!
DEFINITION. What one module or one moment fixes and the spec leaves open: constants without a body, so that no proof can
lean on a value of theirs.
-/

namespace Sys2Proof.Config

/-- The value of a byte whose contents the spec calls undefined or does not keep: a function of the loss that made it
so and of its place in the lost range (R151, R212, R323; log entry 6). -/
opaque freeByte : Nat → Nat → Byte

/-- A value the spec does not fix, one per use of the state's counter of free values (log entry 8). -/
opaque freeValue : Nat → Nat

/-- The value of a dictionary object whose card gives `per module` or `per boot` as its default (log entry 4). -/
opaque moduleConst : Nat → Nat

/-- The fixed functions of R98 on ordinary inputs: opcode and binary32 input to binary32 result, within the error
bounds of R98 (log entry 12). -/
opaque vecFn : Nat → F32 → F32

/-- Whether an Ed25519 signature verifies: key identity, message, signature bytes (R377, R383, R386). -/
opaque edVerify : Nat → List Nat → List Nat → Bool

/-- Whether an ML-DSA-65 signature verifies: key identity, message, signature bytes (R377, R383, R386). -/
opaque mlVerify : Nat → List Nat → List Nat → Bool

/-- The module's own Ed25519 signature of a message under one of its keys, 64 bytes as a number (R306, R381). -/
opaque edSign : Nat → List Nat → Nat

/-- The module's own ML-DSA-65 signature of a message under one of its keys, 3,309 bytes as a number (R306, R381). -/
opaque mlSign : Nat → List Nat → Nat

/-- Whether an access through a C6 descriptor uses the translation entry of before the last changes to the table: a function
of the dispatch counter and of the 64-B address (R136; log entry 21). -/
opaque c6Stale : Nat → Nat → Bool

/-- The units of 64 B that a link's receiver grants beyond those it has consumed, on each virtual channel (R187; log entry
96). -/
opaque linkWindow : Nat

/-- The flash block that holds a 16 KiB unit: a function of Planer, unit and bytes programmed so far, since every program may move
it (R146; log entry 94). -/
opaque flashBlock : Nat → Nat → Nat → Nat

/-- The erase count of a flash block of a Planer when the run begins (R146, R174; log entry 94). -/
opaque flashErases : Nat → Nat → Nat

/-- The number of blocks of a Planer's flash, which the spec does not give (R146; log entry 94). -/
opaque flashBlocks : Nat

/-- Whether the k-th 64-B transfer of a memory (3300h + q, 3500h + s) meets an error that is corrected (R145, R174; log
entry 95). -/
opaque eccHit : Nat → Nat → Bool

/-- The ACLK that the k-th VLD or VST of a core loses in bank arbitration (R108; log entry 111). -/
opaque bankLost : Nat → Nat → Nat

end Sys2Proof.Config
end

