-- ==== Sys2Proof/Machine/Approx.lean ====
section
/-!
DEFINITION. The functions of R98 in fixed point with 128 fraction bits, good to far below one unit in the last place of a
binary32 result: what the error bounds of R98 are measured against (log entry 12).
-/

namespace Sys2Proof

/-- The product of two fixed-point values. -/
def fixMul (a b : Int) : Int := a * b / 2 ^ 128

/-- ln 2. -/
def fixLn2 : Int := 0xb17217f7d1cf79abc9e3b39803f2f6af
/-- log2 e. -/
def fixLog2e : Int := 0x171547652b82fe1777d0ffda0d23a7d12
/-- 2 / √π. -/
def fixTwoOverRootPi : Int := 0x120dd750429b6d11ae3a914fed7fd8688

/-- (-1)^neg × m × 2^e in fixed point. -/
def finFix (neg : Bool) (m : Nat) (e : Int) : Int :=
  let v : Nat := if 0 ≤ e + 128 then m * 2 ^ (e + 128).toNat else m / 2 ^ (-(e + 128)).toNat
  if neg then -(v : Int) else v

/-- 2^x for x in fixed point, as m × 2^e: the whole part is the exponent, the fraction f gives the series of e^(f ln 2). -/
def exp2Fix (x : Int) : Nat × Int :=
  let t := fixMul (x % 2 ^ 128) fixLn2
  let r := (List.range 40).foldl (fun (st : Int × Int) (k : Nat) =>
    let u := fixMul st.2 t / ((k : Int) + 1)
    (st.1 + u, u)) ((2 : Int) ^ 128, (2 : Int) ^ 128)
  (r.1.toNat, x / 2 ^ 128 - 128)

/-- log2 of m × 2^e for m above 0, in fixed point: with p the power of two below m, ln (m / p) is twice the inverse hyperbolic
tangent of (m - p) / (m + p). -/
def log2Fix (m : Nat) (e : Int) : Int :=
  let l := Nat.log2 m
  let p : Int := 2 ^ l
  let s := ((m : Int) - p) * 2 ^ 128 / (m + p)
  let q := fixMul s s
  let r := (List.range 45).foldl (fun (st : Int × Int) (k : Nat) =>
    (st.1 + st.2 / (2 * (k : Int) + 1), fixMul st.2 q)) ((0 : Int), s)
  ((l : Int) + e) * 2 ^ 128 + fixMul (2 * r.1) fixLog2e

/-- tanh of a fixed-point x from 0 to below 10: (E - 1) / (E + 1) with E = e^(2x). -/
def tanhFix (x : Int) : Nat :=
  let r := exp2Fix (fixMul (2 * x) fixLog2e)
  let y : Int := (r.1 : Int) * 2 ^ (r.2 + 128).toNat
  ((y - 2 ^ 128) * 2 ^ 128 / (y + 2 ^ 128)).toNat

/-- erf x / x for a fixed-point x from 0 to below 4, by its power series. -/
def erfRatioFix (x : Int) : Nat :=
  let z := fixMul x x
  let r := (List.range 110).foldl (fun (st : Int × Int) (k : Nat) =>
    (st.1 + st.2 / (2 * (k : Int) + 1), -(fixMul st.2 z) / ((k : Int) + 1))) ((0 : Int), (2 : Int) ^ 128)
  (fixMul r.1 fixTwoOverRootPi).toNat

end Sys2Proof
end

