-- ==== Sys2Proof/Machine/Float.lean ====
section
/-!
DEFINITION. Exact arithmetic on values and the one rounding of the die, to nearest with ties to even (R44, R45, R54);
Limber's lane arithmetic (R97 to R99) and the accumulation rule of the cell array (R76).
-/

namespace Sys2Proof

/-- The format of a code of R43; the codes Ah to Fh are reserved. -/
def Format.ofCode : Nat → Option Format
  | 0 => some .fp32 | 1 => some .bf16 | 2 => some .e4m3 | 3 => some .e5m2 | 4 => some .mx8e4m3
  | 5 => some .mx8e5m2 | 6 => some .mx6e3m2 | 7 => some .mx6e2m3 | 8 => some .mx4 | 9 => some .mxint8
  | _ => none

/-- The code of a format (R43). -/
def Format.code : Format → Nat
  | .fp32 => 0 | .bf16 => 1 | .e4m3 => 2 | .e5m2 => 3 | .mx8e4m3 => 4
  | .mx8e5m2 => 5 | .mx6e3m2 => 6 | .mx6e2m3 => 7 | .mx4 => 8 | .mxint8 => 9

/-- Bits of one element (R43). -/
def Format.width : Format → Nat
  | .fp32 => 32 | .bf16 => 16 | .mx6e3m2 => 6 | .mx6e2m3 => 6 | .mx4 => 4 | _ => 8

/-- Exponent bits E of R44. -/
def Format.expBits : Format → Nat
  | .fp32 => 8 | .bf16 => 8 | .e4m3 => 4 | .mx8e4m3 => 4 | .e5m2 => 5 | .mx8e5m2 => 5
  | .mx6e3m2 => 3 | .mx6e2m3 => 2 | .mx4 => 2 | .mxint8 => 0

/-- Mantissa bits M of R44. -/
def Format.manBits : Format → Nat
  | .fp32 => 23 | .bf16 => 7 | .e4m3 => 3 | .mx8e4m3 => 3 | .e5m2 => 2 | .mx8e5m2 => 2
  | .mx6e3m2 => 2 | .mx6e2m3 => 3 | .mx4 => 1 | .mxint8 => 6

/-- Exponent bias of R44. -/
def Format.bias : Format → Nat
  | .fp32 => 127 | .bf16 => 127 | .e4m3 => 7 | .mx8e4m3 => 7 | .e5m2 => 15 | .mx8e5m2 => 15
  | .mx6e3m2 => 3 | .mx6e2m3 => 1 | .mx4 => 1 | .mxint8 => 0

/-- The emax column of R44, 0 for MXINT8 (R47). -/
def Format.emax : Format → Int
  | .fp32 => 127 | .bf16 => 127 | .e4m3 => 8 | .mx8e4m3 => 8 | .e5m2 => 15 | .mx8e5m2 => 15
  | .mx6e3m2 => 4 | .mx6e2m3 => 2 | .mx4 => 2 | .mxint8 => 0

/-- The code of the largest finite value without its sign (R44; 127/64 for MXINT8, R47). -/
def Format.maxCode : Format → Nat
  | .fp32 => 0x7F7FFFFF | .bf16 => 0x7F7F | .e4m3 => 0x7E | .mx8e4m3 => 0x7E | .e5m2 => 0x7B | .mx8e5m2 => 0x7B
  | .mx6e3m2 => 0x1F | .mx6e2m3 => 0x1F | .mx4 => 7 | .mxint8 => 0x7F

/-- The canonical NaN of R45, where the format has a NaN. -/
def Format.nanCode : Format → Option Nat
  | .fp32 => some 0x7FC00000 | .bf16 => some 0x7FC0 | .e4m3 => some 0x7F | .mx8e4m3 => some 0x7F
  | .e5m2 => some 0x7F | .mx8e5m2 => some 0x7F | _ => none

/-- The code of plus infinity, where the format has one (R45). -/
def Format.infCode : Format → Option Nat
  | .fp32 => some 0x7F800000 | .bf16 => some 0x7F80 | .e5m2 => some 0x7C | .mx8e5m2 => some 0x7C | _ => none

/-- Formats 4h to 9h carry one scale per block of 32 (R43). -/
def Format.isMx : Format → Bool
  | .mx8e4m3 | .mx8e5m2 | .mx6e3m2 | .mx6e2m3 | .mx4 | .mxint8 => true
  | _ => false

/-- Formats 2h and 3h carry one scale per tensor (R51). -/
def Format.isFp8 : Format → Bool
  | .e4m3 | .e5m2 => true
  | _ => false

/-- The value of an element code without its scale (R44, R45, R47). -/
def decodeElem (f : Format) (code : Nat) : Val :=
  match f with
  | .mxint8 => let k := signExt 8 (code % 256); .fin (k < 0) k.natAbs (-6)
  | _ =>
    let m := f.manBits
    let neg := bit code (f.width - 1)
    let ef := bits code (f.width - 2) m
    let mf := code % 2 ^ m
    let top := 2 ^ f.expBits - 1
    let special : Bool := match f with
      | .fp32 | .bf16 | .e5m2 | .mx8e5m2 => ef = top
      | .e4m3 | .mx8e4m3 => ef = top && mf = 7
      | _ => false
    if special then
      match f with
      | .e4m3 | .mx8e4m3 => .nan
      | _ => if mf = 0 then .inf neg else .nan
    else if ef = 0 then .fin neg mf (1 - (f.bias : Int) - m)
    else .fin neg (2 ^ m + mf) ((ef : Int) - f.bias - m)

/-- A value under an E8M0 scale code (R48, R50): code FFh makes it a NaN. -/
def scaleBy (sc : Nat) : Val → Val
  | .nan => .nan
  | .inf n => if sc = 255 then .nan else .inf n
  | .fin n m e => if sc = 255 then .nan else .fin n m (e + (sc : Int) - 127)

/-- floor(log2) of mag × 2^exp; mag is not 0. -/
def flog2 (m : Nat) (e : Int) : Int := (Nat.log2 m : Int) + e

/-- m shifted right by n, rounded to nearest with ties to even. -/
def rneShift (m n : Nat) : Nat :=
  let q := m >>> n
  let r := m % 2 ^ n
  let h := 2 ^ n
  if 2 * r > h then q + 1 else if 2 * r = h && n ≠ 0 then q + q % 2 else q

/-- m × 2^e as a whole number of units 2^q, rounded to nearest even. -/
def toUnits (m : Nat) (e q : Int) : Nat :=
  if q ≤ e then m <<< (e - q).toNat else rneShift m (q - e).toNat

/-- Rounds m × 2^e to a grid of M mantissa bits whose smallest unit is 2^emin, exponent unbounded above (R54, step 5):
the result is k units of 2^q. -/
def roundGrid (manBits : Nat) (emin : Int) (m : Nat) (e : Int) : Nat × Int :=
  if m = 0 then (0, emin) else
    let q := max (flog2 m e - manBits) emin
    let k := toUnits m e q
    if k = 2 ^ (manBits + 1) then (2 ^ manBits, q + 1) else (k, q)

/-- The smallest unit exponent of a format: that of its subnormals (R44), 2^-6 for MXINT8 (R47). -/
def Format.eminUnit (f : Format) : Int :=
  match f with
  | .mxint8 => -6
  | _ => 1 - (f.bias : Int) - f.manBits

/-- The unsigned code of k units of 2^q on a format's grid, unbounded above. -/
def gridCode (f : Format) (k : Nat) (q : Int) : Nat :=
  if k < 2 ^ f.manBits then k else (q - f.eminUnit + 1).toNat * 2 ^ f.manBits + (k - 2 ^ f.manBits)

/-- Rounding and saturation of one finite value to a format (R54, steps 5 to 7): its code, and whether it saturated.
MXINT8 rounds to multiples of 2^-6 whatever the exponent. Zero is the all-zero code. -/
def encodeFin (f : Format) (neg : Bool) (m : Nat) (e : Int) : Nat × Bool :=
  match f with
  | .mxint8 =>
    let k := toUnits m e (-6)
    let kk := min k 127
    (if neg then (256 - kk) % 256 else kk, k > 127)
  | _ =>
    let r := roundGrid f.manBits f.eminUnit m e
    let c := gridCode f r.1 r.2
    let cc := min c f.maxCode
    (if cc = 0 then 0 else if neg then cc + 2 ^ (f.width - 1) else cc, c > f.maxCode)

/-- The binary32 pattern of plus or minus infinity. -/
def infBits (neg : Bool) : F32 := if neg then 0xFF800000 else 0x7F800000

/-- The canonical binary32 NaN (R46). -/
def nanBits : F32 := 0x7FC00000

/-- The value of a binary32 pattern. -/
def valOf (x : F32) : Val := decodeElem .fp32 x.toNat

/-- The sign bit of a pattern. -/
def signOf (x : F32) : Bool := bit x.toNat 31

/-- Rounds once to binary32, saturating at the largest finite value (R54, step 1): pattern, and whether it saturated.
A zero keeps no sign. -/
def toF32Sat : Val → F32 × Bool
  | .nan => (nanBits, false)
  | .inf n => (infBits n, false)
  | .fin n m e => let r := encodeFin .fp32 n m e; (BitVec.ofNat 32 r.1, r.2)

/-- Rounds once to binary32, overflowing to infinity and keeping the sign of zero (R97). -/
def toF32 : Val → F32
  | .nan => nanBits
  | .inf n => infBits n
  | .fin n m e =>
    let r := encodeFin .fp32 false m e
    let c := if r.2 then 0x7F800000 else r.1
    BitVec.ofNat 32 (if n then c + 2 ^ 31 else c)

/-- An exact finite sum; an exact zero is negative only when both terms are (round to nearest). -/
def addFin (n1 : Bool) (m1 : Nat) (e1 : Int) (n2 : Bool) (m2 : Nat) (e2 : Int) : Val :=
  let e := min e1 e2
  let a : Int := m1 <<< (e1 - e).toNat
  let b : Int := m2 <<< (e2 - e).toNat
  let x := (if n1 then -a else a) + (if n2 then -b else b)
  if x = 0 then .fin (n1 && n2) 0 e else .fin (x < 0) x.natAbs e

/-- The exact sum of two values. -/
def Val.add : Val → Val → Val
  | .nan, _ => .nan
  | _, .nan => .nan
  | .inf a, .inf b => if a = b then .inf a else .nan
  | .inf a, .fin .. => .inf a
  | .fin .., .inf b => .inf b
  | .fin n1 m1 e1, .fin n2 m2 e2 => addFin n1 m1 e1 n2 m2 e2

/-- The exact product of two values. -/
def Val.mul : Val → Val → Val
  | .nan, _ => .nan
  | _, .nan => .nan
  | .inf a, .inf b => .inf (a ^^ b)
  | .inf a, .fin n m _ => if m = 0 then .nan else .inf (a ^^ n)
  | .fin n m _, .inf b => if m = 0 then .nan else .inf (n ^^ b)
  | .fin n1 m1 e1, .fin n2 m2 e2 => .fin (n1 ^^ n2) (m1 * m2) (e1 + e2)

/-- The value with its sign inverted. -/
def Val.neg : Val → Val
  | .nan => .nan
  | .inf a => .inf (!a)
  | .fin n m e => .fin (!n) m e

/-- a ÷ b with enough digits and a sticky last digit, so that one rounding to binary32 is correct (R97). -/
def Val.div : Val → Val → Val
  | .nan, _ => .nan
  | _, .nan => .nan
  | .inf _, .inf _ => .nan
  | .inf a, .fin n _ _ => .inf (a ^^ n)
  | .fin n _ _, .inf b => .fin (n ^^ b) 0 0
  | .fin n1 m1 e1, .fin n2 m2 e2 =>
    if m2 = 0 then (if m1 = 0 then .nan else .inf (n1 ^^ n2))
    else
      let sh := Nat.log2 m2 + 70
      let a := m1 <<< sh
      .fin (n1 ^^ n2) (2 * (a / m2) + b2n (a % m2 ≠ 0)) (e1 - e2 - sh - 1)

/-- The integer square root, one result bit at a time from bit n - 1 down. -/
def isqrt (x : Nat) : Nat → Nat → Nat
  | 0, r => r
  | n + 1, r => let c := r + 2 ^ n; isqrt x n (if c * c ≤ x then c else r)

/-- The square root with a sticky last digit (R97); the root of a negative number is NaN, of a zero that zero. -/
def Val.sqrt : Val → Val
  | .nan => .nan
  | .inf n => if n then .nan else .inf false
  | .fin n m e =>
    if m = 0 then .fin n 0 e
    else if n then .nan
    else
      let sh := if e % 2 = 0 then 64 else 65
      let a := m <<< sh
      let r := isqrt a (Nat.log2 a / 2 + 1) 0
      .fin false (2 * r + b2n (r * r ≠ a)) ((e - sh) / 2 - 1)

/-- a < b for values that are not NaN; zeros of both signs are equal. -/
def Val.lt : Val → Val → Bool
  | .nan, _ => false
  | _, .nan => false
  | .inf a, .inf b => a && !b
  | .inf a, .fin .. => a
  | .fin .., .inf b => !b
  | a@(.fin ..), .fin n2 m2 e2 =>
    match a.add (.fin (!n2) m2 e2) with
    | .fin n m _ => n && m ≠ 0
    | _ => false

/-- Whether a value is a NaN. -/
def Val.isNan : Val → Bool
  | .nan => true
  | _ => false

/-- Whether a value is finite. -/
def Val.isFin : Val → Bool
  | .fin .. => true
  | _ => false

/-- Whether a value is an infinity. -/
def Val.isInf : Val → Bool
  | .inf _ => true
  | _ => false

/-- Whether a value is a zero. -/
def Val.isZero : Val → Bool
  | .fin _ m _ => m = 0
  | _ => false

/-- Equality of values; zeros of both signs are equal, a NaN equals nothing. -/
def Val.eqv (a b : Val) : Bool := !a.isNan && !b.isNan && !a.lt b && !b.lt a

/-- min(max(t, lo), hi) (R54, step 3); a NaN passes through. -/
def Val.clip (lo hi t : Val) : Val :=
  if t.isNan then .nan else
    let u := if t.lt lo then lo else t
    if hi.lt u then hi else u

/-! Limber lane operations (R97 to R99) on binary32 patterns. -/

/-- VADD (R97). -/
def f32Add (a b : F32) : F32 := toF32 ((valOf a).add (valOf b))
/-- VSUB (R97). -/
def f32Sub (a b : F32) : F32 := toF32 ((valOf a).add (valOf b).neg)
/-- VMUL (R97). -/
def f32Mul (a b : F32) : F32 := toF32 ((valOf a).mul (valOf b))
/-- VFMA: one rounding (R97). -/
def f32Fma (a b c : F32) : F32 := toF32 (((valOf a).mul (valOf b)).add (valOf c))
/-- VFNMA: one rounding (R97). -/
def f32Fnma (a b c : F32) : F32 := toF32 (((valOf a).mul (valOf b)).neg.add (valOf c))
/-- VDIV (R97). -/
def f32Div (a b : F32) : F32 := toF32 ((valOf a).div (valOf b))
/-- VSQRT (R97). -/
def f32Sqrt (a : F32) : F32 := toF32 (valOf a).sqrt

/-- VMAX: NaN when either operand is one, +0 above -0 (R99). -/
def f32Max (a b : F32) : F32 :=
  let x := valOf a; let y := valOf b
  if x.isNan || y.isNan then nanBits
  else if x.lt y then b else if y.lt x then a
  else if signOf a then b else a

/-- VMIN: NaN when either operand is one, -0 below +0 (R99). -/
def f32Min (a b : F32) : F32 :=
  let x := valOf a; let y := valOf b
  if x.isNan || y.isNan then nanBits
  else if x.lt y then a else if y.lt x then b
  else if signOf a then a else b

/-- A NaN made canonical (R97). -/
def f32Canon (a : F32) : F32 := if (valOf a).isNan then nanBits else a

/-- VABS: the sign bit cleared, then a NaN made canonical (R97). -/
def f32Abs (a : F32) : F32 := f32Canon (a &&& 0x7FFFFFFF)

/-- VNEG: the sign bit inverted, then a NaN made canonical (R97). -/
def f32Neg (a : F32) : F32 := f32Canon (a ^^^ 0x80000000)

/-- Whether a binary32 value is finite, has the sign of an exact result and lies within k units of its own last place of it
(R98). The unit in the last place of a binary32 pattern is the exponent that `valOf` gives it; the sticky last digit of the
exact result stands for what lies below. -/
def f32Near (k : Nat) (x : F32) (r : Val) : Bool :=
  match valOf x, r with
  | .fin nx mx ex, .fin nr mr er =>
    nx = nr && (match addFin nx mx ex (!nr) mr er with
      | .fin _ md ed => md ≤ k * 2 ^ (ex - ed).toNat
      | _ => false)
  | _, _ => false

/-- A fixed function of R98 on an ordinary input: the free function's answer where it lies within k units in the last place
of the exact result, else the correctly rounded result; an overflow is an infinity (R97). -/
def withinUlps (k : Nat) (free : F32) (exact : Val) : F32 :=
  let c := toF32 exact
  if (valOf c).isInf then c else if f32Near k free exact then free else c

/-- VRCP (R98): the special values, then a result within 1 ulp of the exact reciprocal; above 2^126 it is a subnormal. -/
def f32Rcp (a : F32) : F32 :=
  match valOf a with
  | .nan => nanBits
  | .inf _ => 0
  | .fin n m e =>
    if m = 0 then infBits n
    else
      let r := (Val.fin false 1 0).div (.fin n m e)
      let c := withinUlps 1 (Config.vecFn 0x73 a) r
      if 0x7E800000 < a.toNat % 2 ^ 31 && 0x00800000 ≤ c.toNat % 2 ^ 31 then toF32 r else c

/-- VRSQRT (R98): the special values, then a result within 1 ulp of the exact reciprocal root. The root is taken of the
reciprocal with sticky digits, so that one rounding gives the nearest result. -/
def f32Rsqrt (a : F32) : F32 :=
  match valOf a with
  | .nan => nanBits
  | .inf n => if n then nanBits else 0
  | .fin n m e =>
    if m = 0 then infBits n
    else if n then nanBits
    else withinUlps 1 (Config.vecFn 0x74 a) ((Val.fin false 1 0).div (.fin false m e)).sqrt

/-- The exact result of VEXP2 (75h) or VEXP on a finite input to far below a unit in the last place; an infinity on overflow,
and a value that rounds to 0 far below the subnormals. -/
def expExact (op : Nat) (n : Bool) (m : Nat) (e : Int) : Val :=
  let x := finFix n m e
  let y := if op = 0x75 then x else fixMul x fixLog2e
  if 128 ≤ y / 2 ^ 128 then .inf false
  else if y / 2 ^ 128 < -160 then .fin false 1 (-200)
  else let r := exp2Fix y; .fin false r.1 r.2

/-- VEXP2 and VEXP (R98): the special values, +∞ on overflow, then a result within 2 ulp of the exact one. -/
def f32Exp (op : Nat) (a : F32) : F32 :=
  match valOf a with
  | .nan => nanBits
  | .inf n => if n then 0 else infBits false
  | .fin n m e => if m = 0 then 0x3F800000 else withinUlps 2 (Config.vecFn op a) (expExact op n m e)

/-- VLOG2 (R98): the special values, exact at powers of two, then a result within 2 ulp of the exact one. -/
def f32Log2 (a : F32) : F32 :=
  match valOf a with
  | .nan => nanBits
  | .inf n => if n then nanBits else infBits false
  | .fin n m e =>
    if m = 0 then infBits true
    else if n then nanBits
    else if m = 2 ^ Nat.log2 m then
      let k := flog2 m e
      toF32 (.fin (k < 0) k.natAbs 0)
    else
      let y := log2Fix m e
      withinUlps 2 (Config.vecFn 0x76 a) (.fin (y < 0) y.natAbs (-128))

/-- The exact result of VTANH (78h) or VERF on a finite input other than 0 to far below a unit in the last place: tanh x is
just below x under 2^-30 and just below 1 from 10 on, erf x just below 1 from 4 on. -/
def sigmoidExact (op : Nat) (n : Bool) (m : Nat) (e : Int) : Val :=
  let x := finFix false m e
  let one : Val := .fin n (2 ^ 100 - 1) (-100)
  if op = 0x78 then
    if x < 2 ^ 98 then .fin n (m * 2 ^ 70 - 1) (e - 70)
    else if 10 * 2 ^ 128 ≤ x then one
    else .fin n (tanhFix x) (-128)
  else if 4 * 2 ^ 128 ≤ x then one
  else .fin n (erfRatioFix x * m) (e - 128)

/-- VTANH and VERF (R98): the special values, then a result within 2 or 3 ulp of the exact one. -/
def f32Sigmoid (op : Nat) (a : F32) : F32 :=
  match valOf a with
  | .nan => nanBits
  | .inf n => if n then 0xBF800000 else 0x3F800000
  | .fin n m e =>
    if m = 0 then a else withinUlps (if op = 0x78 then 2 else 3) (Config.vecFn op a) (sigmoidExact op n m e)

/-- VCMP FUNC (R96, R99); 111b is reserved and refused when the plan is written. -/
def f32Cmp (func : Nat) (a b : F32) : Bool :=
  let x := valOf a; let y := valOf b
  match func with
  | 0 => x.eqv y
  | 1 => !x.eqv y
  | 2 => x.lt y
  | 3 => x.lt y || x.eqv y
  | 4 => x.isNan || y.isNan
  | 5 => x.isInf
  | 6 => x.isFin
  | _ => false

/-! The accumulation rule of the cell array (R76). -/

/-- The largest floor(log2) over the terms that are finite and not zero, where there is one. -/
def maxLog : List Val → Option Int
  | [] => none
  | .fin _ m e :: t =>
    if m = 0 then maxLog t
    else match maxLog t with
      | none => some (flog2 m e)
      | some x => some (max (flog2 m e) x)
  | _ :: t => maxLog t

/-- A term aligned and truncated toward zero: sign × floor(|t| × 2^(50 − E)) (R76, step 3). -/
def alignTerm (top : Int) : Val → Int
  | .fin n m e =>
    let sh := e + 50 - top
    let q : Int := if 0 ≤ sh then ((m <<< sh.toNat : Nat) : Int) else ((m >>> (-sh).toNat : Nat) : Int)
    if n then -q else q
  | _ => 0

/-- One accumulator update of R76: the new element, and whether it saturated. -/
def accumulate (terms : List Val) : F32 × Bool :=
  if terms.any Val.isNan || (terms.contains (.inf false) && terms.contains (.inf true)) then (nanBits, false)
  else if terms.contains (.inf false) then (infBits false, false)
  else if terms.contains (.inf true) then (infBits true, false)
  else match maxLog terms with
    | none => (0, false)
    | some top =>
      let q := (terms.map (alignTerm top)).foldl (· + ·) 0
      if q = 0 then (0, false) else toF32Sat (.fin (q < 0) q.natAbs (top - 50))

end Sys2Proof
end

