-- ==== Sys2Proof/Machine/Convert.lean ====
section
/-!
DEFINITION. CONVERT (R52 to R59), the packing of elements (R49), and the slot geometry of R65 and R127.
-/

namespace Sys2Proof

/-- A block of converted elements: element codes, the block's scale code, the status. -/
abbrev Converted := List Nat × Nat × Stat

/-- The merge of two status records (R106): order does not matter. -/
def Stat.merge (a b : Stat) : Stat :=
  { special := a.special || b.special
    saturated := a.saturated || b.saturated
    first := if a.special && b.special then min a.first b.first else if a.special then a.first else b.first
    count := min 4096 (a.count + b.count) }

/-- The 32-bit word of a status record (R57). -/
def Stat.word (s : Stat) : Nat :=
  b2n s.special * 2 ^ 31 + b2n s.saturated * 2 ^ 30 + (s.first / 64) * 2 ^ 24 + (s.first % 64) * 2 ^ 18 + s.count * 2 ^ 5

/-- The status record of a 32-bit word (R57). -/
def Stat.ofWord (w : Nat) : Stat :=
  { special := bit w 31, saturated := bit w 30, first := bits w 29 24 * 64 + bits w 23 18, count := bits w 17 5 }

/-- Step 1 of R54: the fused scale and bias, rounded once to binary32. -/
def convT (p : ConvParams) (x : Val) : F32 × Bool := toF32Sat ((x.mul (valOf p.s)).add (valOf p.b))

/-- The block exponent of R55 from the clipped values of a block. -/
def blockExp (f : Format) (ts : List Val) : Int :=
  match maxLog ts with
  | none => 0
  | some l => max (-127) (min 127 (l - f.emax))

/-- Steps 5 to 8 of R54 on one clipped value under the exponent x. -/
def encodeT (f : Format) (x : Int) : Val → Nat × Bool
  | .nan => (f.nanCode.getD 0, false)
  | .inf n =>
    match f.infCode with
    | some c => (if n then c + 2 ^ (f.width - 1) else c, false)
    | none => (f.nanCode.getD 0, false)
  | .fin n m e => encodeFin f n m (e - x)

/-- Whether a format has a NaN of its own (R45). -/
def Format.hasNan (f : Format) : Bool := f.nanCode.isSome

/-- A value after the fused scale, bias and clip (R54). -/
def convClip (p : ConvParams) (v : Val) : Val := Val.clip (valOf p.lo) (valOf p.hi) (valOf (convT p v).1)

/-- The exponent under which clipped values are encoded: the tensor scale, the block's, or none (R51, R55). -/
def convX (p : ConvParams) (cl : List Val) : Int :=
  if p.fmt.isFp8 then (p.tscale : Int) - 127 else if p.fmt.isMx then blockExp p.fmt cl else 0

/-- Whether a block becomes the NaN block: its format has no NaN and a clipped value is special (R45, R56). -/
def convNan (p : ConvParams) (cl : List Val) : Bool := !p.fmt.hasNan && cl.any (fun v => !v.isFin)

/-- The status of elements that are converted under an exponent, each with its position 64 × row + column (R57). -/
def convStat (p : ConvParams) (x : Int) (nan : Bool) (xs : List (Nat × Val)) : Stat :=
  let sp := (xs.map (fun e => (e.1, (convT p e.2).1))).filter (fun e => !(valOf e.2).isFin)
  { special := sp ≠ []
    saturated := xs.any (fun e => (convT p e.2).2) || (!nan && xs.any (fun e => (encodeT p.fmt x (convClip p e.2)).2))
    first := (sp.map (fun e => e.1)).foldl min (match sp with | [] => 0 | e :: _ => e.1)
    count := sp.length }

/-- CONVERT on one output block, or on any run of elements of a format without blocks (R54 to R57). Each input carries
its position 64 × row + column; only valid elements are given. -/
def convert (p : ConvParams) (xs : List (Nat × Val)) : Converted :=
  let cl := xs.map (fun e => convClip p e.2)
  let x := convX p cl
  let nan := convNan p cl
  (if nan then cl.map (fun _ => 0) else cl.map (fun v => (encodeT p.fmt x v).1),
    if nan then 255 else (x + 127).toNat, convStat p x nan xs)

/-- CONVERT's parameters for a plain change of format: s = 1, b = 0, no clip (R59, R104). -/
def plainParams (f : Format) (tscale : Nat) : ConvParams :=
  { s := 0x3F800000, b := 0, lo := 0xFF800000, hi := 0x7F800000, fmt := f, tscale := tscale }

/-- A stored value decoded to binary32 (R59): pattern, and whether it saturated or is special. -/
def decodeF32 (pos : Nat) (v : Val) : F32 × Stat :=
  let r := convert (plainParams .fp32 127) [(pos, v)]
  (BitVec.ofNat 32 (r.1.headD 0), r.2.2)

/-- Element number i of a packed array at a byte address (R49). -/
def elemAt (rd : Nat → Nat) (f : Format) (base i : Nat) : Nat :=
  let o := i * f.width
  let b := base + o / 8
  (leNat ((List.range ((o % 8 + f.width + 7) / 8)).map (fun k => rd (b + k))) >>> (o % 8)) % 2 ^ f.width

/-- The number formed by packing element codes of width w, first element lowest (R49). -/
def packNat (w : Nat) : List Nat → Nat
  | [] => 0
  | c :: t => c % 2 ^ w + 2 ^ w * packNat w t

/-- The bytes of a packed run of element codes; the run fills whole bytes (R49). -/
def packCodes (f : Format) (cs : List Nat) : List Nat := leBytes (cs.length * f.width / 8) (packNat f.width cs)

/-- Bytes of one 64-element slot row (R127). -/
def Format.rowBytes (f : Format) : Nat := 8 * f.width

/-- Bytes of a slot (R65). -/
def Format.slotBytes (f : Format) : Nat := 64 * f.rowBytes + (if f.isMx then 128 else 0)

/-- The stored element (r, c) of a slot at byte address a, with its scale, as an exact value; tsc is the tensor scale of
formats 2h and 3h (R50, R51, R127). -/
def slotVal (rd : Nat → Nat) (f : Format) (tsc a r c : Nat) : Val :=
  let v := decodeElem f (elemAt rd f (a + r * f.rowBytes) c)
  if f.isMx then scaleBy (rd (a + 64 * f.rowBytes + 2 * r + c / 32)) v
  else if f.isFp8 then scaleBy tsc v else v

/-- Element (r, c) of an operand read rip (x = false) or crosscut (x = true) (R64). -/
def operandVal (rd : Nat → Nat) (f : Format) (tsc a : Nat) (x : Bool) (r c : Nat) : Val :=
  if x then slotVal rd f tsc a c r else slotVal rd f tsc a r c

/-- The bytes that half h of operand row r gives to the operand hash (R80). -/
def hashHalf (rd : Nat → Nat) (f : Format) (a : Nat) (x : Bool) (r h : Nat) : List Nat :=
  let cols := (List.range 32).map (fun k => 32 * h + k)
  let code := fun c => if x then elemAt rd f (a + c * f.rowBytes) r else elemAt rd f (a + r * f.rowBytes) c
  let sc := a + 64 * f.rowBytes
  packCodes f (cols.map code) ++
    (if !f.isMx then []
     else if x then cols.map (fun c => rd (sc + 2 * c + r / 32))
     else [rd (sc + 2 * r + h)])

/-- The bytes that operand row r gives to the operand hash (R80). -/
def hashRow (rd : Nat → Nat) (f : Format) (a : Nat) (x : Bool) (r : Nat) : List Nat :=
  hashHalf rd f a x r 0 ++ hashHalf rd f a x r 1

/-- The kerf fill code of R125: KFILL 0 zero, 1 the lowest finite value, 2 the highest. -/
def kerfCode (f : Format) (kfill : Nat) : Nat :=
  match kfill with
  | 1 => match f with
    | .mxint8 => 0x81
    | _ => f.maxCode + 2 ^ (f.width - 1)
  | 2 => f.maxCode
  | _ => 0

/-- The scale of a block wholly kerf (R125). -/
def kerfScale (kfill : Nat) : Nat := if kfill = 0 then 0x7F else 0xFE

end Sys2Proof
end

