-- ==== Sys2Proof/Machine/Tab.lean ====
section
/-!
DEFINITION. Operations on sparse tables: reading with a default, writing in canonical form, and clearing by key.
-/

namespace Sys2Proof.Tab

variable {α : Type}

/-- The value at a key; an unlisted key holds the default. -/
def get (d : α) : Tab α → Nat → α
  | [], _ => d
  | (k, v) :: t, a => if k = a then v else get d t a

/-- Removes a key. -/
def erase : Tab α → Nat → Tab α
  | [], _ => []
  | (k, v) :: t, a => if k = a then erase t a else (k, v) :: erase t a

/-- Inserts a value in key order; the key is not listed. -/
def insert : Tab α → Nat → α → Tab α
  | [], a, v => [(a, v)]
  | (k, w) :: t, a, v => if a < k then (a, v) :: (k, w) :: t else (k, w) :: insert t a v

/-- Writes a value, keeping the canonical form: writing the default removes the entry. -/
def put [DecidableEq α] (d : α) (t : Tab α) (a : Nat) (v : α) : Tab α :=
  if v = d then erase t a else insert (erase t a) a v

/-- Keeps the entries whose key satisfies a test. -/
def keep (p : Nat → Bool) (t : Tab α) : Tab α := t.filter (fun e => p e.1)

/-- Removes every key from `lo` up to but not including `lo + n`. -/
def dropRange (lo n : Nat) (t : Tab α) : Tab α := keep (fun k => k < lo || lo + n ≤ k) t

/-- The entries whose key lies from `lo` up to but not including `lo + n`, moved down by `lo`. -/
def slice (lo n : Nat) (t : Tab α) : Tab α :=
  (keep (fun k => lo ≤ k && k < lo + n) t).map (fun e => (e.1 - lo, e.2))

/-- Applies a change to the value at a key. -/
def update [DecidableEq α] (d : α) (t : Tab α) (a : Nat) (f : α → α) : Tab α := put d t a (f (get d t a))

end Sys2Proof.Tab
end

