-- ==== Sys2Proof/Machine/Mem.lean ====
section
/-!
DEFINITION. Byte memories: reading, writing, clearing, copying and losing the contents of a range. Every operation keeps
the canonical form `Mem.wf`.
-/

namespace Sys2Proof.Machine

/-- Whether an address lies in a hole. -/
def Hole.has (h : Hole) (a : Nat) : Bool := h.lo ≤ a && a < h.lo + h.len

/-- The byte at an address: the listed byte; in a hole, a free byte (log entry 6); else 0 (log entry 5). -/
def Mem.read (m : Mem) (a : Nat) : Byte :=
  match m.cells.find? (fun c => c.1 = a) with
  | some c => c.2
  | none =>
    match m.holes.find? (fun h => h.has a) with
    | some h => Config.freeByte h.seed (a - h.lo + h.off)
    | none => 0

/-- The byte at an address as a number. -/
def Mem.rd (m : Mem) (a : Nat) : Nat := (m.read a).toNat

/-- The n bytes from an address up. -/
def Mem.readBytes (m : Mem) (a n : Nat) : List Nat := (List.range n).map (fun k => m.rd (a + k))

/-- The little-endian number of n bytes (R7). -/
def Mem.readLe (m : Mem) (a n : Nat) : Nat := leNat (m.readBytes a n)

/-- What remains of a hole outside a range. -/
def Hole.cut (lo n : Nat) (h : Hole) : List Hole :=
  let l : Hole := { lo := h.lo, len := min h.len (lo - h.lo), seed := h.seed, off := h.off }
  let r : Hole := { lo := max h.lo (lo + n), len := h.lo + h.len - max h.lo (lo + n), seed := h.seed
                    off := h.off + (max h.lo (lo + n) - h.lo) }
  [l, r].filter (fun x => x.len ≠ 0)

/-- What remains of the holes outside a range. -/
def cutHoles (lo n : Nat) (hs : List Hole) : List Hole := if n = 0 then hs else hs.flatMap (Hole.cut lo n)

/-- The listed form of a run of bytes at an address: zeros are not listed. -/
def freshCells : Nat → List Nat → List Host.Cell
  | _, [] => []
  | a, b :: t => if b % 256 = 0 then freshCells (a + 1) t else (a, BitVec.ofNat 8 b) :: freshCells (a + 1) t

/-- The memory with the listed cells and holes of a range replaced. -/
def Mem.splice (m : Mem) (lo n : Nat) (cs : List Host.Cell) (hs : List Hole) : Mem :=
  { cells := m.cells.filter (fun c => c.1 < lo) ++ cs ++ m.cells.filter (fun c => lo + n ≤ c.1)
    holes := cutHoles lo n m.holes ++ hs }

/-- Writes bytes from an address up. -/
def Mem.writeBytes (m : Mem) (a : Nat) (bs : List Nat) : Mem := m.splice a bs.length (freshCells a bs) []

/-- Writes one byte. -/
def Mem.write (m : Mem) (a b : Nat) : Mem := m.writeBytes a [b]

/-- Writes a little-endian number of n bytes (R7). -/
def Mem.writeLe (m : Mem) (a n x : Nat) : Mem := m.writeBytes a (leBytes n x)

/-- Makes a range read 0. -/
def Mem.zero (m : Mem) (lo n : Nat) : Mem := m.splice lo n [] []

/-- Makes the contents of a range undefined. -/
def Mem.lose (m : Mem) (lo n seed : Nat) : Mem :=
  m.splice lo n [] (if n = 0 then [] else [{ lo := lo, len := n, seed := seed, off := 0 }])

/-- The part of a hole inside a range, moved to another place. -/
def Hole.moved (lo n dlo : Nat) (h : Hole) : List Hole :=
  let a := max h.lo lo
  let b := min (h.lo + h.len) (lo + n)
  if a < b then [{ lo := dlo + (a - lo), len := b - a, seed := h.seed, off := h.off + (a - h.lo) }] else []

/-- Copies n bytes from one memory into another. -/
def Mem.copy (src : Mem) (lo n : Nat) (dst : Mem) (dlo : Nat) : Mem :=
  dst.splice dlo n
    ((src.cells.filter (fun c => lo ≤ c.1 && c.1 < lo + n)).map (fun c => (dlo + (c.1 - lo), c.2)))
    (src.holes.flatMap (Hole.moved lo n dlo))

/-- The listed cells are in rising order. -/
def cellsSorted : List Host.Cell → Bool
  | [] => true
  | [_] => true
  | c :: d :: t => c.1 < d.1 && cellsSorted (d :: t)

/-- The canonical form: cells in rising order, none equal to what an unlisted byte reads as, none inside a hole. -/
def Mem.wf (m : Mem) : Bool :=
  cellsSorted m.cells && m.cells.all (fun c => c.2 ≠ 0 && m.holes.all (fun h => !h.has c.1))

end Sys2Proof.Machine
end

