-- ==== Sys2Proof/Machine/Operands.lean ====
section
/-!
DEFINITION. Operand forms: engine operand slots (R64, R65), whole-slot conversion (R72, R127), the element and scale
places of tensor descriptors (R110 to R112, R124), and the fields of descriptor images.
-/

namespace Sys2Proof.Machine

/-- The fields of an MMA body (R68). -/
structure MmaBody where
  eng  : Nat
  tile : Nat
  zero : Bool
  afmt : Format
  bfmt : Format
  ax   : Bool
  bx   : Bool
  kc   : Nat
  a    : Nat
  b    : Nat
  atsc : Nat
  btsc : Nat
  deriving DecidableEq, Repr

/-- Reads an MMA body; a reserved format code, refused when the plan is written (R67), reads as fp32. -/
def mmaBody (w : W128) : MmaBody :=
  { eng := fld w 77 76, tile := fld w 75 73, zero := fld w 72 72 = 1
    afmt := (Format.ofCode (fld w 71 68)).getD .fp32, bfmt := (Format.ofCode (fld w 67 64)).getD .fp32
    ax := fld w 63 63 = 1, bx := fld w 62 62 = 1, kc := fld w 61 56, a := 64 * fld w 55 40, b := 64 * fld w 39 24
    atsc := fld w 23 16, btsc := fld w 15 8 }

/-- Row i of an A operand slot as exact values (R60, R64). -/
def operandRow (m : Mem) (f : Format) (tsc a : Nat) (x : Bool) (i : Nat) : List Val :=
  (List.range 64).map (fun k => operandVal m.rd f tsc a x i k)

/-- Column j of a B operand slot as exact values (R61, R64). -/
def operandCol (m : Mem) (f : Format) (tsc a : Nat) (x : Bool) (j : Nat) : List Val :=
  (List.range 64).map (fun k => operandVal m.rd f tsc a x k j)

/-- A whole 64 × 64 slot as converted: value bytes, scale bytes, status (R54 to R57, R127). -/
abbrev SlotImage := List Nat × List Nat × Stat

/-- One slot row of exact values converted, by 32-element blocks for formats 4h to 9h. -/
def convertRow (p : ConvParams) (r : Nat) (vals : List Val) : SlotImage :=
  let xs := vals.mapIdx (fun c v => (64 * r + c, v))
  if p.fmt.isMx then
    let b0 := convert p (xs.take 32)
    let b1 := convert p (xs.drop 32)
    (packCodes p.fmt (b0.1 ++ b1.1), [b0.2.1, b1.2.1], b0.2.2.merge b1.2.2)
  else
    let b := convert p xs
    (packCodes p.fmt b.1, [], b.2.2)

/-- A tile of values converted row by row (R72). -/
def convertSlot (p : ConvParams) (rows : List (List Val)) : SlotImage :=
  let cs := rows.mapIdx (fun r v => convertRow p r v)
  (cs.flatMap (fun c => c.1), cs.flatMap (fun c => c.2.1), cs.foldl (fun a c => a.merge c.2.2) {})

/-- The bytes of a slot image: values, then scales (R127). -/
def slotImageBytes (i : SlotImage) : List Nat := i.1 ++ i.2.1

/-! ### Descriptors (R110 to R112) -/

/-- The fields of a descriptor image (R110). No record of R290, R306 or R307 has a place for TAG (log entry 88). -/
structure Desc where
  dir     : Nat
  c6      : Bool
  kfill   : Nat
  fmtCode : Nat
  tscale  : Nat
  alloc   : Nat
  salloc  : Nat
  ndim    : Nat
  tag     : Nat
  base    : Nat
  sbase   : Nat
  size    : List Nat
  stride  : List Int
  sstride : List Int
  deriving DecidableEq, Repr

/-- Reads a 512-bit descriptor image (R110); dimension 0 has no stride field. -/
def descOf (x : Nat) : Desc :=
  { dir := bits x 511 510, c6 := bit x 509, kfill := bits x 508 507, fmtCode := bits x 506 503
    tscale := bits x 502 495, alloc := bits x 494 487, salloc := bits x 486 479, ndim := bits x 478 476
    tag := bits x 475 460, base := bits x 415 376, sbase := bits x 375 336
    size := [bits x 335 312, bits x 311 288, bits x 287 264, bits x 263 240]
    stride := [0, signExt 40 (bits x 239 200), signExt 40 (bits x 199 160), signExt 40 (bits x 159 120)]
    sstride := [0, signExt 40 (bits x 119 80), signExt 40 (bits x 79 40), signExt 40 (bits x 39 0)] }

/-- The format of a descriptor; a reserved code never becomes live (R121). -/
def Desc.fmt (d : Desc) : Format := (Format.ofCode d.fmtCode).getD .fp32

/-- The size along a dimension; a dimension not in use counts as size 1 (R110). -/
def Desc.sizeOf (d : Desc) (k : Nat) : Nat := if k < d.ndim then d.size.getD k 1 else 1

/-- Bytes of a packed row (R111). -/
def Desc.packed (d : Desc) : Nat := d.sizeOf 0 * d.fmt.width / 8

/-- ROWB: a row rounded up to whole 64-B units (R111). -/
def Desc.rowb (d : Desc) : Nat := 64 * ceilDiv d.packed 64

/-- SROWB: a scale row rounded up to whole 64-B units (R112). -/
def Desc.srowb (d : Desc) : Nat := 64 * ceilDiv (ceilDiv (d.sizeOf 0) 32) 64

/-- The offset of the dimensions above 0 in bytes, for either array (R111, R112). -/
def strideSum (strides xs : List Int) : Int :=
  64 * ((List.range 4).map (fun k => xs.getD k 0 * strides.getD k 0)).foldl (· + ·) 0

/-- The byte address of the packed row that holds element x (R111). -/
def Desc.rowAddr (d : Desc) (x : List Int) : Int := 64 * (d.base : Int) + strideSum d.stride (x.set 0 0)

/-- The address of the scale byte of element x's block (R112). -/
def Desc.scaleAddr (d : Desc) (x : List Int) : Int :=
  64 * (d.sbase : Int) + x.getD 0 0 / 32 + strideSum d.sstride (x.set 0 0)

/-- Whether a position lies inside the tensor; every other position is kerf (R124). -/
def Desc.valid (d : Desc) (x : List Int) : Bool :=
  (List.range 4).all (fun k => 0 ≤ x.getD k 0 && x.getD k 0 < (d.sizeOf k : Int))

/-- Tensor position of window element (r, c) for a row dimension and an origin (R124). -/
def winPos (rd : Nat) (o : List Int) (r c : Nat) : List Int :=
  (List.range 4).map (fun k =>
    o.getD k 0 + (if k = 0 then (c : Int) else 0) + (if k = rd then (r : Int) else 0))

/-- Whether window element (r, c) is valid: inside the tensor, and row 0 where NDIM = 1 (R124). -/
def Desc.winValid (d : Desc) (rd : Nat) (o : List Int) (r c : Nat) : Bool :=
  (d.ndim ≠ 1 || r = 0) && d.valid (winPos rd o r c)

end Sys2Proof.Machine
end

