-- ==== Sys2Proof/Machine/Cbor.lean ====
section
/-!
DEFINITION. The CBOR items of blaze records (R306, R307): deterministic encoding of RFC 8949, section 4.2.1, which the
standard stores most significant byte first.
-/

namespace Sys2Proof

/-- The n bytes of a number, most significant first. -/
def beBytes (n x : Nat) : List Nat := (leBytes n x).reverse

/-- The head of a CBOR item: major type and argument, in the shortest form. -/
def cborHead (major n : Nat) : List Nat :=
  if n < 24 then [32 * major + n]
  else if n < 2 ^ 8 then [32 * major + 24, n]
  else if n < 2 ^ 16 then (32 * major + 25) :: beBytes 2 n
  else if n < 2 ^ 32 then (32 * major + 26) :: beBytes 4 n
  else (32 * major + 27) :: beBytes 8 n

/-- An unsigned integer. -/
def cborUint (n : Nat) : List Nat := cborHead 0 n

/-- An integer. -/
def cborInt (x : Int) : List Nat := if 0 ≤ x then cborHead 0 x.toNat else cborHead 1 (-1 - x).toNat

/-- A byte string. -/
def cborBytes (bs : List Nat) : List Nat := cborHead 2 bs.length ++ bs

/-- A text string. -/
def cborText (bs : List Nat) : List Nat := cborHead 3 bs.length ++ bs

/-- An array of encoded items. -/
def cborArray (xs : List (List Nat)) : List Nat := cborHead 4 xs.length ++ xs.flatten

/-- A map from small unsigned keys in rising order to encoded items. -/
def cborMap (xs : List (Nat × List Nat)) : List Nat :=
  cborHead 5 xs.length ++ xs.flatMap (fun e => cborUint e.1 ++ e.2)

end Sys2Proof
end

