-- ==== Sys2Proof/Machine/PlanImage.lean ====
section
/-!
DEFINITION. Reading a loaded plan image (R271, R272, R405): header, sections, streams, programs, route tables and counter
bindings. Every reader is a total function of the image's bytes.
-/

namespace Sys2Proof.Machine

/-- Byte offset of a section (R271). -/
def imgSecOff (m : Mem) (k : Nat) : Nat := m.readLe (32 + 8 * k) 4

/-- Length of a section in bytes; 0 when absent (R271). -/
def imgSecLen (m : Mem) (k : Nat) : Nat := m.readLe (36 + 8 * k) 4

/-- FLAGS of the header (R271). -/
def imgFlags (m : Mem) : Nat := m.readLe 4 4

/-- DETERMINISTIC (R271). -/
def imgDet (m : Mem) : Bool := bit (imgFlags m) 0

/-- PREEMPTIBLE (R271). -/
def imgPreemptible (m : Mem) : Bool := bit (imgFlags m) 1

/-- ACT_MODE (R173, R271). -/
def imgActMode (m : Mem) : Nat := bits (imgFlags m) 3 2

/-- SERVING (R271). -/
def imgServing (m : Mem) : Bool := bit (imgFlags m) 4

/-- SAVE_FIRST (R271). -/
def imgSaveFirst (m : Mem) : Nat := m.readLe 8 4

/-- TASK_COUNT of a cluster (R271). -/
def imgTasks (m : Mem) (c : Nat) : Nat := m.rd (12 + c)

/-- The tasks of the plan as owner keys 16 × cluster + task, in the order of their entries (R272). -/
def imgTaskList (m : Mem) : List Nat :=
  (List.range 8).flatMap (fun c => (List.range (imgTasks m c)).map (fun t => 16 * c + t))

/-- The byte offset of a task's entry (R272). -/
def imgTaskEntry (m : Mem) (owner : Nat) : Nat :=
  imgSecOff m 0 + 16 * (((List.range (owner / 16)).map (imgTasks m)).foldl (· + ·) 0 + owner % 16)

/-- NENG of a task (R272). -/
def imgNeng (m : Mem) (owner : Nat) : Nat := m.rd (imgTaskEntry m owner + 10)

/-- Section and entry number of a unit shell's program (R405): Skidders, Yarders, Planer ports, host DMA engine. -/
def unitSection (u : Nat) : Option (Nat × Nat) :=
  if 0x80 ≤ u && u ≤ 0x87 then some (3, u - 0x80)
  else if 0x88 ≤ u && u ≤ 0x8F then some (4, u - 0x88)
  else if 0x90 ≤ u && u ≤ 0x93 then some (5, u - 0x90)
  else if u = 0x94 then some (6, 0) else none

/-- Byte offset and length in 128-bit words of an owner's stream or program; none when the plan has none. -/
def imgStream (m : Mem) (owner : Nat) : Option (Nat × Nat) :=
  if owner < 128 then
    if owner % 16 < imgTasks m (owner / 16) then
      let e := imgTaskEntry m owner
      some (imgSecOff m 0 + m.readLe e 4, m.readLe (e + 4) 4)
    else none
  else match unitSection owner with
    | none => none
    | some (k, i) =>
      if imgSecLen m k = 0 then none else
        let e := imgSecOff m k + 16 * i
        let n := m.readLe (e + 4) 4
        if n = 0 then none else some (imgSecOff m k + m.readLe e 4, n)

/-- The owners of every stream and program of a plan. -/
def imgOwners (m : Mem) : List Nat :=
  imgTaskList m ++ (((List.range 21).map (· + 128)).filter (fun u => (imgStream m u).isSome))

/-- The 128-bit word at a word position of an owner's stream (R24); 0 past its end. -/
def imgWord (m : Mem) (owner pos : Nat) : W128 :=
  match imgStream m owner with
  | some (o, n) => if pos < n then BitVec.ofNat 128 (m.readLe (o + 16 * pos) 16) else 0
  | none => 0

/-- The route table index of an owner (R272, R405). -/
def imgRouteTable (m : Mem) (owner : Nat) : Nat :=
  if owner < 128 then m.readLe (imgTaskEntry m owner + 8) 2
  else match unitSection owner with
    | none => 0
    | some (k, i) => m.readLe (imgSecOff m k + 16 * i + 8) 2

/-- Route entry k of an owner (R38). -/
def imgRoute (m : Mem) (owner k : Nat) : Nat :=
  m.readLe (imgSecOff m 1 + 256 * imgRouteTable m owner + 4 * k) 4

/-- A counter binding entry as its sixteen bytes (R405). -/
structure BindEntry where
  flags    : Nat
  owner    : Nat
  counter  : Nat
  party    : Nat
  partyKey : Nat
  capacity : Nat
  group    : Nat
  position : Nat
  remote   : Nat
  deriving DecidableEq, Repr

/-- The key of a task or a unit from its two bytes in a binding (R405). -/
def partyKeyOf (isTask : Bool) (b0 b1 : Nat) : Nat := if isTask then 16 * b0 + b1 else b0

/-- Binding entry i (R405). -/
def imgBind (m : Mem) (i : Nat) : BindEntry :=
  let a := imgSecOff m 2 + 16 * i
  { flags := m.rd a
    owner := partyKeyOf (m.rd (a + 1) = 0) (m.rd (a + 2)) (m.rd (a + 3))
    counter := m.rd (a + 4)
    party := m.rd (a + 5)
    partyKey := partyKeyOf (m.rd (a + 5) = 0) (m.rd (a + 6)) (m.rd (a + 7))
    capacity := m.readLe (a + 8) 2
    group := m.readLe (a + 10) 2
    position := m.readLe (a + 12) 2
    remote := m.rd (a + 14) }

/-- Every binding entry (R405). -/
def imgBinds (m : Mem) : List BindEntry := (List.range (imgSecLen m 2 / 16)).map (imgBind m)

/-- Whether a binding entry is for a credit counter (R405). -/
def BindEntry.isCredit (b : BindEntry) : Bool := bit b.flags 0

/-- Whether a token counter is bound as a relay (R204, R405). -/
def BindEntry.isRelay (b : BindEntry) : Bool := bit b.flags 1

/-- Whether a binding names a producer or consumer: a task, all tasks of a cluster, or a unit of 80h to 94h (R35, R37; a
unit ID below 80h is a core, which bindings never name, R22, and is refused at LOAD, log entry 85). -/
def BindEntry.names (b : BindEntry) (who : Nat) : Bool :=
  match b.party with
  | 0 => who < 128 && b.partyKey = who
  | 1 => who < 128 && who / 16 = b.partyKey
  | 2 => 128 ≤ who && b.partyKey = who
  | _ => false

/-- The bindings of one counter of an owner. -/
def imgBindsOf (m : Mem) (owner k : Nat) (credit : Bool) : List BindEntry :=
  (imgBinds m).filter (fun b => b.owner = owner && b.counter = k && b.isCredit = credit)

end Sys2Proof.Machine
end

