-- ==== Sys2Proof/Machine/Ops.lean ====
section
/-!
DEFINITION. The shared operations over the state: dictionary objects, flags and counters, contexts, cores, dispatched
commands, interrupt vectors, fault records, blaze records and holds.
-/

namespace Sys2Proof.Machine

/-! ### Dictionary objects -/

/-- The key of object idx.sub (R13). -/
def okey (idx sub : Nat) : Nat := idx * 256 + sub

/-- The key of an object's instance on an access path (R336). -/
def pkey (path k : Nat) : Nat := path * 2 ^ 24 + k

/-- A character of a serial number: a digit or an upper-case letter (R353). -/
def serialChar (n : Nat) : Nat := if n % 36 < 10 then 0x30 + n % 36 else 0x37 + n % 36

/-- The serial number that a constant of the module stands for: letters and digits, padded with spaces to 16 characters
(R353). -/
def serialNumber (c : Nat) : Nat :=
  leNat ((List.range 16).map (fun j => if j < c % 17 then serialChar (c / 17 / 36 ^ j) else 0x20))

/-- Days of a month. -/
def monthDays (y m : Nat) : Nat :=
  if m = 2 then (if y % 4 = 0 && (y % 100 ≠ 0 || y % 400 = 0) then 29 else 28) else if [4, 6, 9, 11].contains m then 30 else 31

/-- The date that a constant of the module stands for, as decimal digits yyyymmdd (R353). -/
def buildDate (c : Nat) : Nat :=
  let y := c % 10000
  let m := c / 10000 % 12 + 1
  y * 10000 + m * 100 + c / 120000 % monthDays y m + 1

/-- The default of an object (R17): the default of its card, or the value that log entry 3 names. -/
def objDefault (k : Nat) : Nat :=
  let i := k / 256
  let j := k % 256
  if 0x2000 ≤ i && i < 0x2040 then (if j = 7 then 4000000 else if j = 8 then 0xFF else 0)
  else if 0x2100 ≤ i && i < 0x2140 then (if j = 9 then 0xFFFFFFFF else 0)
  else if 0x2400 ≤ i && i < 0x2800 then (if j = 7 then 0xFF else 0)
  else if 0x3200 ≤ i && i < 0x3240 then (if j = 2 then 0xFF else 0)
  else if 0x32C0 ≤ i && i < 0x3300 then (if j = 0x0A then 0xFFFFFFFF else 0)
  else if 0x3400 ≤ i && i < 0x3404 then (if j = 1 then 114688 else if j = 7 then 125 else 0)
  else if 0x4100 ≤ i && i < 0x4140 then (if j = 2 then 1 else 0)
  else if 0x5100 ≤ i && i < 0x5140 then (if j = 5 then 0xA1080000 else if j = 0x0A then 8 else 0)
  else if 0x6400 ≤ i && i < 0x6408 then
    (if j = 6 then 0xFFFFFFFF else if j = 1 then Config.moduleConst k % 2 ^ 32
     else if j = 2 then Config.moduleConst k % 2 ^ 8 else 0)
  else match k with
    | 0x100001 => leNat [0x54, 0x48, 0x2D, 0x43, 0x39, 0x4D, 0x2D, 0x33, 0x38, 0x34, 0x20, 0x20, 0x20, 0x20, 0x20, 0x20]
    | 0x100002 => serialNumber (Config.moduleConst k)
    | 0x100003 => Config.moduleConst k % 2 ^ 24 * 2 ^ 8
    | 0x100006 => 0x0100
    | 0x100007 => Config.moduleConst k % 2 ^ 48
    | 0x100008 => buildDate (Config.moduleConst k)
    | 0x130001 => 1
    | 0x130005 => 64
    | 0x130006 => 30911
    | 0x13000F => 30911
    | 0x148002 => 1
    | 0x300001 => 6080
    | 0x301101 => 64
    | 0x329003 => 0xFF
    | 0x400003 => 1
    | 0x400004 => 4
    | 0x400005 => 6
    | 0x400006 => 256
    | 0x500007 => 0xFF
    | 0x501001 => 64
    | 0x501002 => 2
    | 0x560001 => 1
    | 0x560002 => 1250000
    | 0x560009 => 0xFF
    | 0x600004 => 3
    | 0x600007 => 200000
    | 0x600008 => 0xFF
    | 0x630003 => 1000
    | 0x648002 => 24
    | 0x648003 => 800000
    | 0x648004 => 4
    | 0x648005 => 40
    | 0x650002 => 240
    | 0x650004 => 0x3FC00000
    | 0x650005 => 830
    | 0x650006 => 858
    | 0x650007 => 0x3F778D50
    | 0x660001 => 24
    | _ => 0

/-- The value of an object. -/
def State.obj (s : State) (k : Nat) : Nat := Tab.get (objDefault k) s.objs k

/-- Sets an object. -/
def State.setObj (s : State) (k v : Nat) : State := { s with objs := Tab.put (objDefault k) s.objs k v }

/-- Adds to an object that wraps at w bits. -/
def State.addObj (s : State) (k w n : Nat) : State := s.setObj k ((s.obj k + n) % 2 ^ w)

/-- The value of a path's instance of an object (R336). -/
def State.pobj (s : State) (path k : Nat) : Nat := Tab.get (objDefault k) s.pobjs (pkey path k)

/-- Sets a path's instance of an object (R336). -/
def State.setPobj (s : State) (path k v : Nat) : State :=
  { s with pobjs := Tab.put (objDefault k) s.pobjs (pkey path k) v }

/-- A hardware set of a W1C flag: the flag is set and its 16-bit event counter counts the set (R16). -/
def State.setFlag (s : State) (k kev : Nat) : State := (s.setObj k 1).addObj kev 16 1

/-- A fresh free value (log entry 8). -/
def State.fresh (s : State) : Nat × State := (Config.freeValue s.free, { s with free := s.free + 1 })

/-- Makes a range of a memory undefined with a seed of its own (log entry 6). -/
def State.seed (s : State) : Nat × State := (s.free, { s with free := s.free + 1 })

/-! ### Contexts, cores, streams, dispatched commands -/

/-- A context. -/
def State.ctx (s : State) (i : Nat) : Ctx := Tab.get {} s.ctxs i

/-- Changes a context. -/
def State.updCtx (s : State) (i : Nat) (f : Ctx → Ctx) : State := { s with ctxs := Tab.update {} s.ctxs i f }

/-- A core. -/
def State.core (s : State) (n : Nat) : Core := Tab.get {} s.cores n

/-- Changes a core. -/
def State.updCore (s : State) (n : Nat) (f : Core → Core) : State := { s with cores := Tab.update {} s.cores n f }

/-- Changes the data of a core. -/
def State.updData (s : State) (n : Nat) (f : CoreData → CoreData) : State :=
  s.updCore n (fun c => { c with data := f c.data })

/-- The key of a stream: context and owner. -/
def skey (ctx owner : Nat) : Nat := ctx * 256 + owner

/-- A stream or program of a context. -/
def State.stream (s : State) (ctx owner : Nat) : Stream := Tab.get {} s.streams (skey ctx owner)

/-- The task leaves core n, which becomes free and keeps the task's LAST_STEPMARK (R41, R279, R282). -/
def State.leaveCore (s : State) (n : Nat) : State :=
  let c := s.core n
  s.updCore n (fun x => { x with
    phase := .free
    lastMark := if c.phase = .free then c.lastMark else ((s.stream c.ctx (16 * (n / 16) + c.task)).mark).getD 0 })

/-- Changes a stream. -/
def State.updStream (s : State) (ctx owner : Nat) (f : Stream → Stream) : State :=
  { s with streams := Tab.update {} s.streams (skey ctx owner) f }

/-- A dispatched command by its number. -/
def State.flight (s : State) (id : Nat) : Option Flight := s.flights.find? (fun f => f.id = id)

/-- A node ID: kind in [15:12], instance in [11:0] (R311). -/
def nodeId (kind inst : Nat) : Nat := kind * 4096 + inst

/-- The node ID of a unit of R19 (R311). -/
def unitNodeId (u : Nat) : Nat :=
  if u < 0x80 then nodeId 0 u
  else if u < 0x88 then nodeId 4 (u - 0x80)
  else if u < 0x90 then nodeId 5 (u - 0x88)
  else if u < 0x94 then nodeId 6 (u - 0x90)
  else nodeId 7 0

/-- The node ID of the unit that executes a dispatched command (R311). -/
def Flight.nodeId (f : Flight) : Nat :=
  match f.queue with
  | .engine j => Machine.nodeId 1 (4 * f.core + j)
  | .limber => Machine.nodeId 2 f.core
  | .movePort => Machine.nodeId 3 f.core
  | _ => unitNodeId (if f.owner < 128 then f.core else f.owner)

/-- The key of a node's progress count: the nodes of a core have one for every context (R311). -/
def workKey (node ctx : Nat) : Nat := node * 64 + (if node / 4096 < 4 then 0 else ctx % 64)

/-- A table of progress counts after a node has worked (R311). -/
def worked (t : Tab Nat) (node ctx : Nat) : Tab Nat := Tab.put 0 t (workKey node ctx) (Tab.get 0 t (workKey node ctx) + 1)

/-- A node works for a context: its progress count changes (R311). -/
def State.noteWork (s : State) (node ctx : Nat) : State := { s with work := worked s.work node ctx }

/-- The progress counts after the unit of a dispatched command has worked on it (R311). -/
def State.workOn (s : State) (id : Nat) : Tab Nat :=
  match s.flight id with
  | some f => worked s.work f.nodeId f.ctx
  | none => s.work

/-- Changes a dispatched command, on which its unit works. -/
def State.updFlight (s : State) (id : Nat) (g : Flight → Flight) : State :=
  { s with flights := s.flights.map (fun f => if f.id = id then g f else f), work := s.workOn id }

/-- Removes a dispatched command: it has completed or been ended. -/
def State.dropFlight (s : State) (id : Nat) : State :=
  { s with flights := s.flights.filter (fun f => f.id ≠ id), work := s.workOn id }

/-- The opcode of a dispatched command (R24). -/
def Flight.op (f : Flight) : Nat := match f.words with | [] => 0 | w :: _ => fld w 127 120

/-- The first word of a dispatched command. -/
def Flight.w0 (f : Flight) : W128 := f.words.headD 0

/-- The key of a token counter, an acquired count or a credit counter: context, owner, counter (R20, R277). -/
def ckey (ctx owner k : Nat) : Nat := skey ctx owner * 256 + k

/-- Tokens available on a counter (R31). -/
def State.avail (s : State) (ctx owner k : Nat) : Nat :=
  (Tab.get 0 s.tok (ckey ctx owner k) - Tab.get 0 s.acq (ckey ctx owner k)).toNat

/-- Credits held on a credit counter (R36). -/
def State.credits (s : State) (ctx owner k : Nat) : Nat := (Tab.get 0 s.cred (ckey ctx owner k)).toNat

/-- The marks of a context's streams (R27). -/
def State.marks (s : State) (ctx : Nat) : List Nat :=
  s.streams.filterMap (fun e => if e.1 / 256 = ctx then e.2.mark else none)

/-- The context's current step: the smallest step number last marked among its streams (R27). -/
def State.curStep (s : State) (ctx : Nat) : Option Nat :=
  match s.marks ctx with
  | [] => none
  | m :: t => some (t.foldl min m)

/-- Whether a plan is loaded on a context. -/
def State.loaded (s : State) (ctx : Nat) : Bool := (s.ctx ctx).len ≠ 0

/-- Whether a firebreak's reset or a hang keeps a unit of R19 from working (R322). -/
def State.unitDown (s : State) (u : Nat) : Bool := s.downUnits.contains u

/-- The number that stands for the Landing among the units in scope; no unit of R19 has it (R322). -/
def landingUnit : Nat := 0x100

/-! ### Interrupt vectors (R395) -/

/-- Signals an MSI-X vector: a masked vector keeps its pending bit, an open one sends its message; FFh is none. -/
def State.signal (s : State) (v : Nat) : State :=
  if v ≥ 64 then s
  else if Tab.get false s.msixOpen v then { s with out := s.out ++ [.msix v] }
  else { s with msixPend := Tab.put false s.msixPend v true }

/-! ### Faults (R288 to R292), blaze records (R306, R307) -/

/-- The Blaze column of R289. -/
def hasBlaze (code : Nat) : Bool :=
  [0x1003, 0x1004, 0x2001, 0x2002, 0x2003, 0x2006, 0x2007, 0x4001, 0x4002, 0x4003, 0x4009, 0x400A, 0x6001, 0x6002,
   0x6003, 0x6004, 0x7003, 0x7005, 0x8001, 0x8003].contains code

/-- The classes and codes that go into the error history (R292). -/
def inHistory (code : Nat) : Bool :=
  code / 4096 = 2 || code / 4096 = 6 || code / 4096 = 7 || code = 0x4009 || code = 0x400A

/-- INCARNATION (R192). -/
def State.incarnation (s : State) : Nat := s.obj (okey 0x4000 2)

/-- EPOCH of a context's stand (R192). -/
def State.epoch (s : State) (ctx : Nat) : Nat := s.obj (okey (0x4100 + ctx) 1)

/-- The 512-bit map of fenced engines (R88, R307). -/
def State.fencedMap (s : State) : Nat :=
  s.objs.foldl (fun a e => if 0x900009 ≤ e.1 && e.1 < 0x920009 && e.1 % 256 = 9 && e.2 = 1
    then a + 2 ^ (e.1 / 256 - 0x9000) else a) 0

/-- The keys of a verdict in a blaze record: those without a value are left out, and the operand-pattern hashes too where they
are not wanted (R307). -/
def Verdict.keys (v : Verdict) (cants : Bool) : List (Nat × List Nat) :=
  [(12, cborUint v.verdict), (13, cborArray (v.engines.map cborUint)), (14, cborUint v.opHash)] ++
  (if cants && v.cants ≠ [] then [(15, cborArray (v.cants.map cborUint))] else []) ++
  [(16, cborArray (v.digests.map (fun d => cborBytes (leBytes 8 d))))] ++
  (if v.formats ≠ [] then [(17, cborArray (v.formats.map cborUint))] else []) ++ [(18, cborUint v.confirmed)]

/-- The payload of a blaze record (R307), with or without key 15. -/
def State.blazeMap (s : State) (seq : Nat) (r : FaultRec) (v : Option Verdict) (cants : Bool) : List Nat :=
  cborMap (
    [(1, cborUint 1), (2, cborUint seq), (3, cborText (leBytes 16 (s.obj (okey 0x1000 2)))), (4, cborUint r.inc),
     (5, cborUint r.code), (6, cborUint r.seq)] ++
    (match r.ctx with
     | some c => [(7, cborUint c), (8, cborUint r.epoch), (9, cborUint r.step)]
     | none => []) ++
    [(10, cborUint r.kind), (11, cborUint r.source)] ++
    (match v with
     | some v => v.keys cants
     | none => []) ++
    [(19, cborBytes (leBytes 64 s.fencedMap)),
     (20, cborMap [(1, cborInt (signExt 32 (s.obj (okey 0x6300 1)))), (2, cborUint (s.obj (okey 0x6020 1))),
       (3, cborUint (s.obj (okey 0x6400 2)))]),
     (21, cborBytes (leBytes 48 s.boot.digest)), (22, cborUint r.detail)])

/-- The payload of a blaze record: at most 1,024 B, for which key 15 gives way where a group had too many K cants (R306, R307; log
entry 102). -/
def State.blazePayload (s : State) (seq : Nat) (r : FaultRec) (v : Option Verdict) : List Nat :=
  let p := s.blazeMap seq r v true
  if p.length ≤ 1024 then p else s.blazeMap seq r v false

/-- Keeps the 64 most recent blaze records; one overwritten before being read adds 1 to BLAZE_LOST (R308). -/
def State.pushBlaze (s : State) (r : FaultRec) (v : Option Verdict) : State :=
  let n := s.faults.blazeSeq + 1
  let all : List Blaze := { seq := n, payload := s.blazePayload n r v, signed := false, read := false } :: s.faults.blazes
  let lost := ((all.drop 64).filter (fun b => !b.read)).length
  let s1 : State := { s with faults := { s.faults with blazeSeq := n, blazes := all.take 64 } }
  s1.addObj (okey 0x5400 5) 32 lost

/-- Whether a new fault merges into the newest record (R291). -/
def FaultRec.merges (r : FaultRec) (code kind source : Nat) (ctx : Option Nat) : Bool :=
  r.code = code && r.kind = kind && r.source = source && r.ctx = ctx && r.count < 65535

/-- Raises FAULT_PENDING with its event counter and FAULT_MSIX (R291). -/
def State.faultNotice (s : State) : State :=
  let s1 := s.setFlag (okey 0x5000 5) (okey 0x5000 6)
  s1.signal (s1.obj (okey 0x5000 7))

/-- Puts a new record into the ring of 1,024; one replaced before it was read adds 1 to FAULT_LOST (R291). Records of
R292 also enter the error history of 64. -/
def State.pushFault (s : State) (r : FaultRec) : State :=
  let all := r :: s.faults.ring
  let lost := ((all.drop 1024).filter (fun x => !x.read)).length
  let s1 : State := { s with faults := { s.faults with
    seq := r.seq
    ring := all.take 1024
    history := if inHistory r.code then (r :: s.faults.history).take 64 else s.faults.history } }
  s1.addObj (okey 0x5000 4) 32 lost

/-- Writes one fault record (R290, R291): code, source kind and number, context, DETAIL, whether it holds the context
and whether it aborts the stand; a blaze record where R289 marks one, with the verdict's keys where there is one. -/
def State.reportV (s : State) (code kind source : Nat) (ctx : Option Nat) (detail : Nat) (held abort : Bool)
    (v : Option Verdict) : State :=
  let fresh : FaultRec :=
    { seq := s.faults.seq + 1, code := code, kind := kind, source := source, ctx := ctx, held := held, abort := abort
      blaze := hasBlaze code, count := 1
      step := match ctx with | some c => (s.curStep c).getD 0 | none => 0
      epoch := match ctx with | some c => s.epoch c | none => 0
      inc := s.incarnation, detail := detail, read := false }
  let s1 : State := match s.faults.ring with
    | [] => s.pushFault fresh
    | r :: t =>
      if r.merges code kind source ctx then
        { s with faults := { s.faults with ring :=
          { r with count := r.count + 1, held := r.held || held, abort := r.abort || abort
                   blaze := r.blaze || hasBlaze code } :: t } }
      else s.pushFault fresh
  let s2 := if hasBlaze code then s1.pushBlaze (match s1.faults.ring with
      | [] => fresh
      | r :: _ => { fresh with seq := r.seq }) v else s1
  s2.faultNotice

/-- Writes one fault record without a verdict (R290, R291). -/
def State.report (s : State) (code kind source : Nat) (ctx : Option Nat) (detail : Nat) (held abort : Bool) : State :=
  s.reportV code kind source ctx detail held abort none

/-- The first outcome of an isolated run: 1 PASSED, 2 HUNG, 3 FAULTED, appended to REPLAY_LOG with EVENT_MSIX (R328,
R329). -/
def State.noteReplay (s : State) (ctx outcome code num : Nat) : State :=
  if s.isolated ≠ some ctx || s.snag.noted then s
  else
    let e := outcome * 2 ^ 62 + ctx * 2 ^ 56 + code * 2 ^ 40 + num % 2 ^ 32
    let s1 : State := { s with snag := { s.snag with log := (e :: s.snag.log).take 8, noted := true } }
    s1.signal (s1.obj (okey (0x2000 + ctx) 8))

/-- Holds a context: HELD, HOLD_FAULT of the first fault, EVENT_MSIX when it becomes held (R38, R285); an isolated run has
then FAULTED (R328). -/
def State.hold (s : State) (ctx code : Nat) : State :=
  if (s.ctx ctx).held then s
  else ((s.updCtx ctx (fun c => { c with held := true, holdFault := code })).signal (s.obj (okey (0x2000 + ctx) 8))).noteReplay
    ctx 3 code 0

/-- Reports a fault of a shell that holds its context. The source is the unit of R19: a core for a task. -/
def State.holdShell (s : State) (code unit ctx detail : Nat) : State :=
  (s.report code 1 unit (some ctx) detail true false).hold ctx code

/-- Reports a fault of the Camp that refuses a write (SOURCE_KIND 7h). -/
def State.refuse (s : State) (code : Nat) (ctx : Option Nat) (detail : Nat) : State :=
  s.report code 7 0 ctx detail false false

/-! ### Links that a step needs (R190) -/

/-- A link: 0 to 15 the fabric planes, 16 to 19 the Planer links. -/
def State.link (s : State) (n : Nat) : Link := Tab.get {} s.links n

/-- Whether a link carries frames. -/
def Link.live (l : Link) : Bool := l.st = .up || l.st = .degraded

/-- Whether a region's home can be reached: the Planer link of a DDR or flash home carries frames (R190). -/
def State.homeUp (s : State) (g : Region) : Bool :=
  match g.home with
  | .ddr => (s.link (16 + g.planer)).live
  | .flash => (s.link (16 + g.planer)).live
  | _ => true

/-! ### Access to the dictionary (R323, R333, R334, R352, R362, R375, R376) -/

/-- Whether the indices of start-up stages 1 to 3 hold an index (R375). -/
def servedInBoot (i : Nat) : Bool :=
  i = 0x1000 || i = 0x1300 || (0x1400 ≤ i && i ≤ 0x14FF) || i = 0x5700 || i = 0x5800 || (0x6000 ≤ i && i ≤ 0x66FF)
    || (0x7000 ≤ i && i ≤ 0x70FF)

/-- Whether the Lookout serves an index in FALLOW, DORMANT and TRIPPED (R362). -/
def servedAsleep (i : Nat) : Bool :=
  i = 0x1000 || (0x1200 ≤ i && i ≤ 0x1207) || i = 0x1210 || i = 0x1300 || (0x1400 ≤ i && i ≤ 0x14FF) || i = 0x5700
    || (0x6000 ≤ i && i ≤ 0x66FF) || i = 0x7000

/-- Whether RECOVERY serves an index on BAR0 (R376). -/
def servedInRecovery (path i : Nat) : Bool :=
  path = 0 && (i = 0x1000 || (0x1200 ≤ i && i ≤ 0x1207) || i = 0x1210 || i = 0x1480 || i = 0x1481)

/-- Whether a die firebreak reset is running (R323, R352). -/
def State.dieResetting (s : State) : Bool :=
  s.obj (okey 0x5800 4) = 2 && 6 ≤ s.obj (okey 0x5800 5) / 2 ^ 24

/-- How an access to an index is served: 0 served, 9h ASLEEP, Ah RESETTING (R347), FFh not answered at all. With the root PLL
unlocked the always-on domain alone runs, on LCLK, and serves what it serves asleep (R361, R362; log entry 106). -/
def State.access (s : State) (path i : Nat) : Nat :=
  if s.env.perst || !s.env.vin || !s.env.refclk then 0xFF
  else match s.obj (okey 0x1480 1) with
    | 0 => 0xFF
    | 5 => if servedInRecovery path i then 0 else 0xA
    | 4 =>
      if s.dieResetting then
        (if i = 0x1000 || i = 0x1300 || i = 0x5700 || i = 0x5800 then 0 else 0xA)
      else if 2 ≤ s.obj (okey 0x6000 1) then (if servedAsleep i then 0 else 9)
      else if !s.env.rootPll && !servedAsleep i then 0xFF
      else 0
    | _ => if servedInBoot i then 0 else 0xA

/-- Begins the exit of a sleep state; the code is that of LAST_WAKE (R358, R362). A scrub excursion stops (R367). -/
def State.beginExit (s : State) (code : Nat) : State :=
  { s.setObj (okey 0x6000 5) code with power := { s.power with target := some 0, excursion := none, wake := none } }

/-- Whether an exit from TRIPPED is refused: PACKAGE_TEMP is at or above 70.0 °C (R358). -/
def State.hot (s : State) : Bool :=
  s.obj (okey 0x6000 1) = 4 && 700 ≤ signExt 32 (s.obj (okey 0x6300 6))

/-- WAKE_ON_ACCESS of a source, 0 BAR0 or 1 BDP: an access that is not served wakes a sleeping module whose bit is set; during
an entry the wake is latched (R358, R362). -/
def State.wakeBy (s : State) (src : Nat) : State :=
  if 1 < src || s.obj (okey 0x1480 1) ≠ 4 || s.obj (okey 0x6000 1) < 2 || !bit (s.obj (okey 0x6000 4)) src
      || s.power.target = some 0 then s
  else if s.hot then s.setObj (okey 0x6000 3) 5
  else if s.power.target.isSome then { s with power := { s.power with wake := some (3 + src) } }
  else s.beginExit (3 + src)

/-- What an access that is not served leaves: the module, or its wake (R362); DOE wakes nothing. -/
def State.unserved (s : State) (path i : Nat) : State :=
  if s.access path i = 9 && path < 17 then s.wakeBy (if path = 0 then 0 else 1) else s

/-- A refused write: DICT_REFUSAL, DICT_REFUSED with its event counter, DICT_REFUSALS, and SCHED BAD_COMMAND with the
refusal as DETAIL (R333). -/
def State.dictRefuse (s : State) (path k reason : Nat) : State :=
  let v := reason * 2 ^ 60 + path % 32 * 2 ^ 55 + k / 256 * 2 ^ 39 + k % 256 * 2 ^ 31
  ((((s.setObj (okey 0x1210 4) v).setFlag (okey 0x1210 2) (okey 0x1210 3)).addObj (okey 0x1210 5) 32 1).refuse 0x5001
    none v)

/-- A write of an action to a CMD object on a path: not served, refused while the CMD reads 1, else the action (R334). -/
def State.onCmd (s : State) (path k : Nat) (act : State → State) : State :=
  if s.access path (k / 256) ≠ 0 then s.unserved path (k / 256)
  else if s.obj k = 1 then s.dictRefuse path k 5
  else act s

/-- A write to another object on a path: not served, refused with a reason of R347, or applied. -/
def State.onWrite (s : State) (path k : Nat) (reason : Option Nat) (act : State → State) : State :=
  if s.access path (k / 256) ≠ 0 then s.unserved path (k / 256)
  else match reason with
    | some r => s.dictRefuse path k r
    | none => act s

/-! ### Outcomes -/

/-- The outcome of a command whose operands lie within the numbering, and the refusal of one whose operands do not. -/
def need (ok : Bool) (s : State) : Host.Outcome State Fault Refusal := if ok then .next s else .refused .illFormed

end Sys2Proof.Machine
end

