-- ==== Sys2Proof/Machine/Shell.lean ====
section
/-!
DEFINITION. The shells: dispatch of the head command (R28, R29), acquisition of tokens and credits (R31, R36), posts and
credit returns (R32 to R38), completion (R30), the end of streams (R26) and rest at a step boundary (R219, R220).
-/

namespace Sys2Proof.Machine

/-- Whether the die runs: READY, in RUN or IDLE, with REFCLK and the root PLL, no die reset and no change of power state running
(R322, R357, R358, R361, R374). -/
def State.dieRuns (s : State) : Bool :=
  s.obj (okey 0x1480 1) = 4 && s.obj (okey 0x6000 1) ≤ 1 && s.env.refclk && s.env.rootPll && !s.dieResetting
    && s.power.target.isNone

/-- The head of a shell's stream: the context, the owner key of the stream, the unit identifier of R19, the physical
core, and the words of the command. -/
structure Head where
  ctx   : Nat
  owner : Nat
  unit  : Nat
  core  : Nat
  words : List W128
  deriving DecidableEq, Repr

/-- The first word of a head. -/
def Head.w (h : Head) : W128 := h.words.headD 0

/-- The words of a step: LEN of a mover or collective step counts those that follow word 0 (R160, R199). -/
def stepWords (owner : Nat) (w : W128) : Nat :=
  if owner < 128 then 1 else if 0x98 ≤ fld w 127 120 then 1 + fld w 77 76 else 1

/-- The words at the position of a stream. -/
def State.headWords (s : State) (ctx owner : Nat) : List W128 :=
  let m := (s.ctx ctx).image
  let p := (s.stream ctx owner).pos
  (List.range (stepWords owner (imgWord m owner p))).map (fun k => imgWord m owner (p + k))

/-- Whether a stream still has a head: loaded, present, not past its END (R26). -/
def State.hasHead (s : State) (ctx owner : Nat) : Bool :=
  s.loaded ctx && !(s.stream ctx owner).ended && (imgStream (s.ctx ctx).image owner).isSome

/-- The context and owner that a shell serves now. -/
def State.shellOwner (s : State) : Shell → Option (Nat × Nat × Nat × Nat)
  | .core n =>
    let c := s.core n
    if c.phase = .free then none else some (c.ctx, 16 * (n / 16) + c.task, n, n)
  | .unit uid ctx => if 128 ≤ uid then some (ctx, uid, uid, 0) else none

/-- The head of a shell's stream, whether or not it may dispatch. -/
def State.head (s : State) (sh : Shell) : Option Head :=
  match s.shellOwner sh with
  | none => none
  | some (ctx, owner, unit, core) =>
    if s.hasHead ctx owner then
      some { ctx := ctx, owner := owner, unit := unit, core := core, words := s.headWords ctx owner }
    else none

/-- The power domain of a unit: the core, or the cluster of a Skidder or Yarder (R355). -/
def unitDomain (u : Nat) : Option Nat := if u < 128 then some u else if u < 144 then some (128 + u % 8) else none

/-- Whether a unit's power domain is off (R356). -/
def State.unitOff (s : State) (u : Nat) : Bool :=
  match unitDomain u with
  | some d => Tab.get false s.power.off d
  | none => false

/-- Switches an off domain on (R356). -/
def State.turnOn (s : State) (d : Nat) : State :=
  if Tab.get false s.power.off d then
    { s with power := { s.power with turning := Tab.put false s.power.turning d true } }
  else s

/-- Whether the host or the scheduler keeps a head from dispatching: hold (R38), save (R279), unload (R282), isolation
(R327), a shell in scope of a reset (R322) or off (R356). A rest at a STEPMARK (R219) is checked with the STEPMARK. -/
def State.barred (s : State) (h : Head) : Bool :=
  let c := s.ctx h.ctx
  !s.dieRuns || c.held || c.st = .unloading || c.st = .loading
    || (h.owner < 128 && (c.st ≠ .placed || (s.core h.core).phase ≠ .running))
    || (match s.isolated with | some i => i ≠ h.ctx | none => false)
    || s.unitDown h.unit || s.unitOff h.unit

/-- R28 (a). -/
def State.condTokens (s : State) (h : Head) : Bool :=
  fld h.w 111 104 = 0 || fld h.w 111 104 ≤ s.avail h.ctx h.owner (fld h.w 119 112)

/-- R28 (b). -/
def State.condCredits (s : State) (h : Head) : Bool :=
  fld h.w 97 92 = 0 || fld h.w 97 92 ≤ s.credits h.ctx h.owner (fld h.w 103 98)

/-- Commands waiting to start in a queue of a core. -/
def State.queued (s : State) (core : Nat) (q : QueueId) : Nat :=
  (s.flights.filter (fun f => f.owner < 128 && f.core = core && f.queue = q && f.phase = .queued)).length

/-- Steps waiting to start in a unit shell's queue, of one context or of all. -/
def State.unitQueued (s : State) (uid : Nat) (ctx : Option Nat) : Nat :=
  (s.flights.filter (fun f => f.owner = uid && f.phase = .queued
    && (match ctx with | some c => f.ctx = c | none => true))).length

/-- Whether a context's head step on a unit meets R28 (a) and (b) and asks for a queue entry (R277). -/
def State.wantsEntry (s : State) (uid c : Nat) : Bool :=
  match s.head (.unit uid c) with
  | some h => 3 < fld h.w 127 120 && !s.barred h && s.condTokens h && s.condCredits h
  | none => false

/-- Whether another context's head step on a unit waits for an entry (R277). -/
def State.otherWaits (s : State) (uid ctx : Nat) : Bool := (List.range 64).any (fun c => c ≠ ctx && s.wantsEntry uid c)

/-- The numbers below 64 in the order of a round-robin whose last turn went to context `last - 1`. -/
def turnOrder (last : Nat) : List Nat := (List.range 64).map (fun k => (last + k) % 64)

/-- Whether the entries left on a unit serve every context that asks for one, or the turn is this context's (R277). -/
def State.unitTurn (s : State) (uid ctx : Nat) : Bool :=
  let asks := (turnOrder (Tab.get 0 s.turns uid)).filter (fun c => c = ctx || (s.wantsEntry uid c && s.unitQueued uid (some c) < 4))
  s.unitQueued uid none + asks.length ≤ 8 || asks.head? = some ctx

/-- R28 (c): a free entry of the queue; on a unit shell at most 4 of the 8 while another context's head waits, and entries in
turn (R277). -/
def State.condQueue (s : State) (h : Head) (q : QueueId) : Bool :=
  match q with
  | .none => true
  | .unit => s.unitQueued h.unit none < 8 &&
      (s.unitQueued h.unit (some h.ctx) < 4 || !s.otherWaits h.unit h.ctx) && s.unitTurn h.unit h.ctx
  | _ => s.queued h.core q < 8

/-- The acquisition of tokens and credits, all or nothing, the turn of a unit shell, and the advance of the stream (R28, R31,
R36, R277); the shell has worked (R311). -/
def State.acquire (s : State) (h : Head) : State :=
  let kt := ckey h.ctx h.owner (fld h.w 119 112)
  let kc := ckey h.ctx h.owner (fld h.w 103 98)
  let s1 : State := { s with
    acq := Tab.put 0 s.acq kt (Tab.get 0 s.acq kt + BitVec.ofNat 16 (fld h.w 111 104))
    cred := Tab.put 0 s.cred kc (Tab.get 0 s.cred kc - BitVec.ofNat 16 (fld h.w 97 92))
    turns := if h.unit < 128 then s.turns else Tab.put 0 s.turns h.unit (h.ctx + 1)
    work := worked s.work (unitNodeId h.unit) h.ctx }
  s1.updStream h.ctx h.owner (fun t => { t with pos := t.pos + h.words.length, sbWait := false })

/-- Reports a fault that keeps a head from dispatching and holds its context. -/
def State.holdHead (s : State) (h : Head) (code detail : Nat) : State := s.holdShell code h.unit h.ctx detail

/-! ### Posts -/

/-- The unit of an owner: the core of a placed task, or the unit itself. A fault raised for a task that has no core (it waits,
is saved or has ended) has source 0 (R280 names none; log entry 85). -/
def State.unitOf (s : State) (ctx owner : Nat) : Nat :=
  if owner < 128 then Tab.get 0 (s.ctx ctx).places owner - 1 else owner

/-- Whether a route entry can be posted through: VALID, a TARGET that is not reserved, a task that its cluster's list holds,
and a unit of 80h to 94h, since route tables never name cores (R19, R22, R38; log entry 85). -/
def routeNames (m : Mem) (e : Nat) : Bool :=
  bit e 31 && (match bits e 30 29 with
    | 0 => bits e 25 18 < imgTasks m (bits e 28 26)
    | 1 => true
    | 2 => 0x80 ≤ bits e 25 18 && bits e 25 18 ≤ 0x94
    | _ => false)

/-- The owners that a route entry of a context reaches (R38). All tasks of a cluster are those that have not ended: placed, or
waiting or saved with their counters kept (R280; log entry 85). -/
def State.routeTargets (s : State) (ctx e : Nat) : List Nat :=
  match bits e 30 29 with
  | 0 => [16 * bits e 28 26 + bits e 25 18]
  | 1 => ((List.range (imgTasks (s.ctx ctx).image (bits e 28 26))).map (fun t => 16 * bits e 28 26 + t)).filter
      (fun o => !((s.stream ctx o).ended && Tab.get 0 (s.ctx ctx).places o = 0))
  | 2 => [bits e 25 18]
  | _ => []

/-- The shell of an owner works: a unit's, or that of the core of a placed task (R311). -/
def State.shellWork (s : State) (ctx owner : Nat) : State :=
  if owner < 128 && Tab.get 0 (s.ctx ctx).places owner = 0 then s else s.noteWork (unitNodeId (s.unitOf ctx owner)) ctx

/-- Issues the post of a completed command: tokens to a local counter or through a route entry, or a credit return
(R24, R38). -/
def State.issuePost (s : State) (ctx owner : Nat) (w : W128) : State :=
  let k := fld w 89 82
  let n := fld w 81 78
  match fld w 91 90 with
  | 0 => s
  | 1 => { s.shellWork ctx owner with posts := s.posts ++
      [{ ctx := ctx, producer := owner, target := owner, counter := k, amount := n, credit := false }] }
  | kind =>
    let m := (s.ctx ctx).image
    let e := imgRoute m owner (k % 64)
    if !routeNames m e then s.holdShell 0x5004 (s.unitOf ctx owner) ctx 0
    else { s.shellWork ctx owner with posts := s.posts ++ (s.routeTargets ctx e).map (fun t =>
      { ctx := ctx, producer := owner, target := t, counter := bits e 17 10, amount := n, credit := kind = 3 }) }

/-- Whether the shell of an owner is in scope of a firebreak reset (R322). -/
def State.ownerDown (s : State) (ctx owner : Nat) : Bool :=
  if owner < 128 then
    (match Tab.get 0 (s.ctx ctx).places owner with
    | 0 => false
    | n + 1 => s.unitDown n)
  else s.unitDown owner

/-- A token post reaches its counter (R32, R33, R35); a broken context's posts are discarded (R324), as are those into a
unit in scope (R322). -/
def State.applyToken (s : State) (p : Post) : State :=
  if !s.loaded p.ctx || (s.ctx p.ctx).broken || s.ownerDown p.ctx p.target then s
  else if (imgBindsOf (s.ctx p.ctx).image p.target p.counter false).any (fun b => b.names p.producer) then
    let k := ckey p.ctx p.target p.counter
    let s1 : State := { s with tok := Tab.put 0 s.tok k (Tab.get 0 s.tok k + BitVec.ofNat 16 p.amount) }
    if s1.avail p.ctx p.target p.counter > 32767 then s1.holdShell 0x5003 (s.unitOf p.ctx p.target) p.ctx 0 else s1
  else s.holdShell 0x5004 (s.unitOf p.ctx p.target) p.ctx 0

/-- A credit return reaches its counter (R36, R37); a broken context's are discarded (R324), as are those into a unit in
scope (R322). -/
def State.applyCredit (s : State) (p : Post) : State :=
  if !s.loaded p.ctx || (s.ctx p.ctx).broken || s.ownerDown p.ctx p.target then s
  else match (imgBindsOf (s.ctx p.ctx).image p.target p.counter true).filter (fun b => b.names p.producer) with
    | [] => s.holdShell 0x5004 (s.unitOf p.ctx p.target) p.ctx 0
    | b :: _ =>
      let k := ckey p.ctx p.target p.counter
      let v := (Tab.get 0 s.cred k).toNat + p.amount
      if v > b.capacity then s.holdShell 0x5005 (s.unitOf p.ctx p.target) p.ctx 0
      else { s with cred := Tab.put 0 s.cred k (BitVec.ofNat 16 v) }

/-- Whether post i may arrive: posts of one producer to one counter arrive in the order of their issue (R34). -/
def postReady (ps : List Post) (i : Nat) : Bool :=
  match ps[i]? with
  | none => false
  | some p => (ps.take i).all (fun q =>
      !(q.ctx = p.ctx && q.producer = p.producer && q.target = p.target && q.counter = p.counter
        && q.credit = p.credit))

/-! ### Rest, completion, the end of a stream -/

/-- Whether a head is a STEPMARK above STOP_STEP (R219). -/
def State.stopped (s : State) (ctx : Nat) (w : W128) : Bool :=
  fld w 127 120 = 0x02 && s.obj (okey (0x2100 + ctx) 9) < fld w 31 0

/-- The STEPMARK numbers at which streams of a context wait under R219. -/
def State.stoppedMarks (s : State) (ctx : Nat) : List Nat :=
  (imgOwners (s.ctx ctx).image).filterMap (fun o =>
    let w := (s.headWords ctx o).headD 0
    if s.hasHead ctx o && s.stopped ctx w then some (fld w 31 0) else none)

/-- Whether a context rests (R220): every stream waits at a STEPMARK or has ended, and no command of it is in a queue
or running, whether or not its tasks are placed (log entry 25). -/
def State.rests (s : State) (ctx : Nat) : Bool :=
  s.loaded ctx && (s.flights.filter (fun f => f.ctx = ctx)).isEmpty
    && (imgOwners (s.ctx ctx).image).all (fun o => !s.hasHead ctx o || s.stopped ctx ((s.headWords ctx o).headD 0))

/-- Brings RESTING and REST_STEP up to date and signals EVENT_MSIX when the context comes to rest (R220, R285); an
isolated run has then PASSED (R328). -/
def State.restCheck (s : State) (ctx : Nat) : State :=
  let k := okey (0x2100 + ctx) 0x0A
  let k' := okey (0x2100 + ctx) 0x0B
  if s.rests ctx then
    let step := match s.stoppedMarks ctx with
      | [] => (s.curStep ctx).getD 0
      | m :: t => t.foldl min m - 1
    let s1 := if s.obj k = 1 then s else s.signal (s.obj (okey (0x2000 + ctx) 8))
    ((s1.setObj k 1).setObj k' step).noteReplay ctx 1 0 step
  else (s.setObj k 0).setObj k' 0

/-- The index of a context's own objects (R285). -/
def ctxIdx (ctx : Nat) : Nat := 0x2000 + ctx

/-- The cores that hold a context's tasks. -/
def State.coresOf (s : State) (ctx : Nat) : List Nat :=
  (s.cores.filter (fun e => e.2.phase ≠ .free && e.2.ctx = ctx)).map (fun e => e.1)

/-- Whether a core of a context still drains (R279). -/
def State.drains (s : State) (ctx : Nat) : Bool :=
  (s.ctx ctx).st = .saving && (s.coresOf ctx).any (fun n =>
    (s.core n).phase = .draining || (s.core n).phase = .clearing)

/-- A drain of a context has lasted n SCLK more (R281). -/
def State.drainMore (s : State) (ctx n : Nat) : State := s.updCtx ctx (fun c => { c with drain := c.drain + n })

/-- A drain of a context ends: the longest drain, and the excess over 160,000 SCLK (R281, R284); its time is counted by the
ticks since the request (log entry 9). -/
def State.countDrain (s : State) (ctx : Nat) : State :=
  let i := ctxIdx ctx
  let drain := (s.ctx ctx).drain
  let s1 := s.setObj (okey i 0x18) (max (s.obj (okey i 0x18)) (drain % 2 ^ 32))
  if 160000 < drain then (s1.addObj (okey i 0x16) 32 1).addObj (okey i 0x17) 64 (drain - 160000) else s1

/-- Frees the core of a task whose stream has ended and whose commands have all completed (R26); the last draining core of a
pre-emption may leave so (R281). -/
def State.freeEnded (s : State) (ctx owner : Nat) : State :=
  let p := Tab.get 0 (s.ctx ctx).places owner
  if owner < 128 && (s.stream ctx owner).ended && p ≠ 0
      && (s.flights.filter (fun f => f.ctx = ctx && f.owner = owner)).isEmpty then
    let t := (s.leaveCore (p - 1)).updCtx ctx
      (fun c => { c with places := Tab.put 0 c.places owner 0 })
    if s.drains ctx && !t.drains ctx then t.countDrain ctx else t
  else s

/-- Whether a dispatched command of a context holds a copy of a descriptor (R117). -/
def State.copyHeld (s : State) (ctx n : Nat) : Bool :=
  s.flights.any (fun f => f.ctx = ctx && f.descs.any (fun d => d.num = n))

/-- Frees the pending descriptors of a list that no dispatched command holds any more (R117). -/
def State.releaseCopies (s : State) (ctx : Nat) (ds : List DescCopy) : State :=
  ds.foldl (fun t d =>
    if (Tab.get {} t.descs (ctx * 4096 + d.num)).st = .pending && !t.copyHeld ctx d.num
    then { t with descs := Tab.put {} t.descs (ctx * 4096 + d.num) {} } else t) s

/-- A command completes: it releases its copies, its post is issued (R30), its stream may end and its context rest. -/
def State.complete (s : State) (f : Flight) : State :=
  ((((s.dropFlight f.id).releaseCopies f.ctx f.descs).issuePost f.ctx f.owner f.w0).freeEnded f.ctx f.owner).restCheck
    f.ctx

/-- A command ends without completing (R117, R150): it releases its copies and posts nothing. -/
def State.endFlight (s : State) (f : Flight) : State :=
  (((s.dropFlight f.id).releaseCopies f.ctx f.descs).freeEnded f.ctx f.owner).restCheck f.ctx

/-- Whether a moment is the start of a command of a given kind. -/
def startsAs (m : Moment) (p : Nat → Bool) : Bool := match m with | .dispatch _ => false | .start id => p id

/-! ### Dispatch -/

/-- A command as it enters its queue. -/
def Head.flight (h : Head) (q : QueueId) : Flight :=
  { id := 0, ctx := h.ctx, owner := h.owner, core := h.core, queue := q, words := h.words }

/-- Puts a dispatched command at the end of the dispatch order. -/
def State.launch (s : State) (f : Flight) : State :=
  { s with flights := s.flights ++ [{ f with id := s.nextId }], nextId := s.nextId + 1 }

/-- The head that may dispatch now as opcode `op`: not barred, with its tokens, credits and queue entry (R28). -/
def State.readyHead (s : State) (sh : Shell) (op : Nat) (q : Head → QueueId) : Option Head :=
  match s.head sh with
  | none => none
  | some h =>
    if fld h.w 127 120 = op && !s.barred h && s.condTokens h && s.condCredits h && s.condQueue h (q h)
    then some h else none

/-- Dispatches a ready head through a check of its own: an error is the state in which the head stays (a wait, or a
fault and its hold), else the command as it enters the queue and the state it leaves (R28). -/
def State.dispatch (s : State) (sh : Shell) (op : Nat) (q : Head → QueueId)
    (check : Head → Except State (Flight × State)) : State :=
  match s.readyHead sh op q with
  | none => s
  | some h =>
    match check h with
    | .error t => t
    | .ok (f, t) => (((t.acquire h).launch { f with pos := (s.stream h.ctx h.owner).pos }).restCheck h.ctx)

/-- A command that takes no queue entry and completes at once: its effect, then its post (R26, R28, R156). -/
def State.dispatchNow (s : State) (sh : Shell) (op : Nat) (check : Head → Except State State) : State :=
  match s.readyHead sh op (fun _ => .none) with
  | none => s
  | some h =>
    match check h with
    | .error t => t
    | .ok t => (((t.acquire h).issuePost h.ctx h.owner h.w).freeEnded h.ctx h.owner).restCheck h.ctx

/-- Whether every earlier command of a stream has completed (R26). -/
def State.streamIdle (s : State) (h : Head) : Bool :=
  (s.flights.filter (fun f => f.ctx = h.ctx && f.owner = h.owner)).isEmpty

/-! ### The rows of shell control -/

/-- NOP (R26). -/
def nop (s : State) (sh : Shell) : State := s.dispatchNow sh 0x00 (fun _ => .ok s)

/-- SETTLE dispatches only once every earlier command of its stream has completed (R26, R28). -/
def settle (s : State) (sh : Shell) : State :=
  s.dispatchNow sh 0x01 (fun h => if s.streamIdle h then .ok s else .error s)

/-- STEPMARK (R27, R219): the step order, STOP_STEP, and the mark; step pins move with it through `onMark`. -/
def stepmark (onMark : State → Head → Nat → Except State State) (s : State) (sh : Shell) : State :=
  s.dispatchNow sh 0x02 (fun h =>
    let n := fld h.w 31 0
    if s.stopped h.ctx h.w then .error s
    else
      let bad : Bool := match (s.stream h.ctx h.owner).mark with
        | some m => n ≠ m + 1
        | none => false
      if bad then .error (s.holdHead h 0x5002 0)
      else match onMark s h n with
        | .error t => .error t
        | .ok t => .ok (t.updStream h.ctx h.owner (fun x => { x with mark := some n })))

/-- END: the stream has ended; its core is freed when every earlier command has completed (R26). -/
def endStream (s : State) (sh : Shell) : State :=
  s.dispatchNow sh 0x03 (fun h => .ok (s.updStream h.ctx h.owner (fun x => { x with ended := true })))

/-- POST_ARRIVAL of post i (R32 to R35). -/
def postArrival (s : State) (i : Nat) : State :=
  match s.posts[i]? with
  | none => s
  | some p =>
    if postReady s.posts i && !p.credit && s.dieRuns then
      (({ s with posts := s.posts.eraseIdx i } : State).applyToken p)
    else s

/-- CREDIT_RETURN of post i (R36, R37). -/
def creditReturn (s : State) (i : Nat) : State :=
  match s.posts[i]? with
  | none => s
  | some p =>
    if postReady s.posts i && p.credit && s.dieRuns then
      (({ s with posts := s.posts.eraseIdx i } : State).applyCredit p)
    else s

end Sys2Proof.Machine
end

