-- ==== Sys2Proof/Machine/Engine.lean ====
section
/-!
DEFINITION. The matrix engines: the tile scoreboard (R82), row issue and accumulation (R61, R76 to R80), PRELOAD, DRAIN,
TOPK, TILEREL and the conversion sets (R68 to R75, R84), and the capture of sampled groups (R299, R300).
-/

namespace Sys2Proof.Machine

/-- The key of a tile in a core's tile table. -/
def tileKey (pos tile : Nat) : Nat := 8 * pos + tile

/-- A tile of a core. -/
def State.tile (s : State) (n k : Nat) : Tile := Tab.get {} (s.core n).data.tiles k

/-- Changes a tile of a core. -/
def State.updTile (s : State) (n k : Nat) (f : Tile → Tile) : State :=
  s.updData n (fun d => { d with tiles := Tab.update {} d.tiles k f })

/-- The physical engine position that field value j names on a core (R275). -/
def State.engPos (s : State) (n j : Nat) : Nat := (s.core n).engs.getD j j

/-- The engine position of a head or a dispatched engine command. -/
def State.cmdEng (s : State) (n : Nat) (w : W128) : Nat := s.engPos n (fld w 77 76)

/-- The tile key that an engine command names. -/
def State.cmdTile (s : State) (n : Nat) (w : W128) : Nat := tileKey (s.cmdEng n w) (fld w 75 73)

/-- How an engine command treats its tile (R82). -/
inductive TileUse where
  | opening | continuing | releasing | none
  deriving DecidableEq, Repr

/-- The row of R82's table that a command stands in. -/
def tileUse (w : W128) : TileUse :=
  match fld w 127 120 with
  | 0x10 => if fld w 72 72 = 1 then .opening else .continuing
  | 0x11 => .opening
  | 0x12 => if fld w 72 71 = 1 then .releasing else .continuing
  | 0x13 => if fld w 72 71 = 1 then .releasing else .continuing
  | 0x14 => .releasing
  | _ => .none

/-- What the scoreboard answers (R82). -/
inductive Admission where
  | pass | wait | refuse | foreign
  deriving DecidableEq, Repr

/-- The scoreboard's answer on one tile for a context (R82). -/
def admission (u : TileUse) (t : Tile) (ctx : Nat) : Admission :=
  if u = .none then .pass
  else if t.st ≠ .free && t.owner ≠ ctx then .foreign
  else match u, t.st with
    | .opening, .free => .pass
    | .opening, .closing => .wait
    | .opening, .opened => .refuse
    | _, .opened => .pass
    | _, _ => .refuse

/-! ### Sampling (R299, R300) -/

/-- Whether a capture slot of a cluster can be had: 16 per cluster, a kept capture giving way once its context's
COMMIT_HOLD is clear (R300, R302). -/
def State.freeSlots (s : State) (c : Nat) : List Capture :=
  let inC := s.captures.filter (fun k => k.engine / 64 = c)
  if inC.length < 16 then s.captures
  else match inC.find? (fun k => k.phase = .kept && s.obj (okey (0x5100 + k.ctx) 1) = 0) with
    | some k => s.captures.filter (fun x => x.id ≠ k.id)
    | none => []

/-- Opens a tile for a context, sampling the group when the draw says so (R78, R82, R299, R300). -/
def State.openTile (s : State) (n pos tile ctx : Nat) (w : W128) (sampled : Bool) : State :=
  let e := 4 * n + pos
  let fresh := fun (cap : Option Nat) (_ : Tile) =>
    ({ st := .opened, owner := ctx, cap := cap } : Tile)
  if sampled && s.obj (okey 0x5010 1) ≠ 0 then
    let room := (s.captures.filter (fun k => k.engine / 64 = n / 16)).length < 16 || s.freeSlots (n / 16) ≠ []
    if room then
      let cap : Capture :=
        { id := s.nextId, ctx := ctx, engine := e, tile := tile, step := (s.curStep ctx).getD 0, bytes := 0
          cants := [], cur := 0, formats := [], digest := 0, hash := 0, check := 0, phase := .capturing
          cmds := [w] }
      let s1 : State := { s with captures := s.freeSlots (n / 16) ++ [cap], nextId := s.nextId + 1 }
      s1.updTile n (tileKey pos tile) (fresh (some cap.id))
    else (s.addObj (okey 0x5010 4) 64 1).updTile n (tileKey pos tile) (fresh none)
  else s.updTile n (tileKey pos tile) (fresh none)

/-- Changes a capture. -/
def State.updCapture (s : State) (id : Nat) (f : Capture → Capture) : State :=
  { s with captures := s.captures.map (fun c => if c.id = id then f c else c) }

/-- The move port writes n bytes of a capture, in the class of the cores (R174, R300). -/
def State.writeCapture (s : State) (id n : Nat) (f : Capture → Capture) : State :=
  (s.updCapture id f).addObj (okey 0x3510 2) 64 n

/-- The operand bytes that a capture slot holds (R300). -/
def captureMax : Nat := 2060288

/-- Drops a capture. -/
def State.dropCapture (s : State) (id : Nat) : State :=
  { s with captures := s.captures.filter (fun c => c.id ≠ id) }

/-- A sample whose group does not fit a capture slot is dropped and counted (R300). -/
def State.skipCapture (s : State) (core k cid : Nat) : State :=
  ((s.dropCapture cid).addObj (okey 0x5010 4) 64 1).updTile core k (fun t => { t with cap := none })

/-- Drops the captures of tiles that are discarded (R299, R303). -/
def State.dropTileCaps (s : State) (ts : Tab Tile) : State :=
  { s with captures := s.captures.filter (fun c => !ts.any (fun e => e.2.cap = some c.id)) }

/-! ### Dispatch of engine commands -/

/-- The scoreboard at the head of a stream (R82, R83): refusals hold the context, a wait counts once. -/
def State.scoreboard (s : State) (h : Head) : Except State Unit :=
  let pos := s.cmdEng h.core h.w
  let t := s.tile h.core (s.cmdTile h.core h.w)
  let e := 4 * h.core + pos
  match admission (tileUse h.w) t h.ctx with
  | .pass => .ok ()
  | .foreign => .error (s.holdHead h 0x5006 (e * 8 + fld h.w 75 73))
  | .refuse => .error (s.holdHead h 0x5007 (e * 8 + fld h.w 75 73))
  | .wait =>
    if (s.stream h.ctx h.owner).sbWait then .error s
    else .error ((s.addObj (okey (0x9000 + e) 4) 32 1).updStream h.ctx h.owner (fun x => { x with sbWait := true }))

/-- The tile's change when an engine command dispatches (R82). -/
def State.claimTile (s : State) (h : Head) (sampled : Bool) : State :=
  match tileUse h.w with
  | .opening => s.openTile h.core (s.cmdEng h.core h.w) (fld h.w 75 73) h.ctx h.w sampled
  | .releasing => s.updTile h.core (s.cmdTile h.core h.w) (fun t => { t with st := .closing })
  | _ => s

/-- Dispatch of an engine command: the scoreboard as the command reaches the head, then R28 (R82). -/
def State.dispatchEngine (s : State) (sh : Shell) (op : Nat) (sampled : Bool) : State :=
  match s.head sh with
  | none => s
  | some h0 =>
    if fld h0.w 127 120 ≠ op || s.barred h0 then s
    else match s.scoreboard h0 with
      | .error t => t
      | .ok _ =>
        s.dispatch sh op (fun h => .engine (s.cmdEng h.core h.w))
          (fun h => .ok (h.flight (.engine (s.cmdEng h.core h.w)), s.claimTile h sampled))

/-! ### Start of engine commands -/

/-- Whether a dispatched command is first in its queue to start: queues start in order (R28, R63, R94, R159). -/
def State.firstQueued (s : State) (f : Flight) : Bool :=
  match s.flights.find? (fun g => g.core = f.core && g.queue = f.queue && g.phase = .queued) with
  | some g => g.id = f.id
  | none => false

/-- The queued command of an identifier that may start now as opcode `op` on its core. -/
def State.startable (s : State) (id op : Nat) : Option Flight :=
  match s.flight id with
  | none => none
  | some f =>
    if f.op = op && f.phase = .queued && s.firstQueued f && s.dieRuns && !s.unitDown f.core then some f else none

/-- Running MMAs of an engine queue. -/
def State.mmas (s : State) (core : Nat) (q : QueueId) : List Flight :=
  s.flights.filter (fun g => g.core = core && g.queue = q && g.op = 0x10 && g.phase = .running)

/-- The issue pipeline takes the next MMA when the MMA ahead has its last K cant loaded (R63), and one of the two stationary
buffers is not taken by a running MMA (R62). -/
def State.issueFree (s : State) (f : Flight) : Bool :=
  (s.mmas f.core f.queue).length < 2 && (s.mmas f.core f.queue).all (fun g => 64 * ((mmaBody g.w0).kc - 1) ≤ g.rows)

/-- A read-out reads a tile only after every earlier MMA of the queue on it has issued all its rows (R81). -/
def State.tileQuiet (s : State) (f : Flight) : Bool :=
  (s.mmas f.core f.queue).all (fun g => f.id < g.id || fld g.w0 75 73 ≠ fld f.w0 75 73 || 64 * (mmaBody g.w0).kc ≤ g.rows)

/-- Whether an opcode runs in the read-out pipeline (R63). -/
def isReadout (op : Nat) : Bool := 0x12 ≤ op && op ≤ 0x14

/-- The read-out of an engine that has started and not yet read its last row; the pipeline serves one at a time (R63). -/
def State.readout (s : State) (core : Nat) (q : QueueId) : Option Flight :=
  s.flights.find? (fun g => g.core = core && g.queue = q && isReadout g.op && g.phase = .running)

/-- MMA starts in the issue pipeline (R63, R68). -/
def startMma (s : State) (id : Nat) : State :=
  match s.startable id 0x10 with
  | none => s
  | some f => if s.issueFree f then s.updFlight id (fun g => { g with phase := .running }) else s

/-- Writes one row of a tile: elements that differ from before, and the saturations in column order (R76, R78). -/
def Tile.writeRow (t : Tile) (i : Nat) (row : List (F32 × Bool)) : Tile :=
  (row.mapIdx (fun c x => (c, x))).foldl (fun u e =>
    let v : Tile := { u with els := Tab.put 0 u.els (64 * i + e.1) e.2.1 }
    if e.2.2 then v.overflow (signOf e.2.1) (64 * i + e.1) else v) t

/-- Records n saturations of an engine: ACC_SAT and its event counter, to which each event adds 1 (R79, R342). -/
def State.noteSat (s : State) (e n : Nat) : State :=
  if n = 0 then s else (s.setObj (okey (0x9000 + e) 7) 1).addObj (okey (0x9000 + e) 8) 16 n

/-- The issue of A row number r of a started MMA (R61, R76, R80): row i of cant c, the stationary buffer being loaded at
the cant's first row; the hash takes each A row as it issues and the cant's B rows with its last row (log entry 15). -/
def State.issueRow (s : State) (f : Flight) : State :=
  let b := mmaBody f.w0
  let pos := s.cmdEng f.core f.w0
  let e := 4 * f.core + pos
  let k := tileKey pos b.tile
  let i := f.rows % 64
  let c := f.rows / 64
  let pad := (s.core f.core).data.pad
  let bimg := if i = 0 then pad.copy (b.b + c * b.bfmt.slotBytes) b.bfmt.slotBytes {} 0 else f.bimg
  let aAddr := b.a + c * b.afmt.slotBytes
  let arow := operandRow pad b.afmt b.atsc aAddr b.ax i
  let t := s.tile f.core k
  let row := (List.range 64).map (fun j =>
    accumulate (valOf (Tab.get 0 t.els (64 * i + j)) ::
      List.zipWith Val.mul arow (operandCol bimg b.bfmt b.btsc 0 b.bx j)))
  let hashed := hashRow pad.rd b.afmt aAddr b.ax i ++
    (if i = 63 then (List.range 64).flatMap (hashRow bimg.rd b.bfmt 0 b.bx) else [])
  let run := fun (x : Nat) => crc32cRun (x ^^^ 0xFFFFFFFF) hashed ^^^ 0xFFFFFFFF
  let t1 := t.writeRow i row
  let s1 := s.updTile f.core k (fun _ => { t1 with hash := run t.hash })
  let s2 := (s1.noteSat e (row.countP (fun x => x.2))).addObj (okey (0x9000 + e) 3) 64 1
  let s3 := match t.cap with
    | none => s2
    | some cid =>
      if s2.captures.any (fun x => x.id = cid && captureMax < x.bytes + hashed.length) then s2.skipCapture f.core k cid
      else s2.writeCapture cid hashed.length (fun x =>
        let cur := run (if i = 0 then 0 else x.cur)
        { x with bytes := x.bytes + hashed.length, cur := cur
                 cants := if i = 63 then x.cants ++ [cur] else x.cants
                 formats := [b.afmt.code, b.bfmt.code, b2n b.ax, b2n b.bx, x.cants.length + b2n (i = 63)]
                 cmds := if f.rows = 0 && !b.zero then x.cmds ++ [f.w0] else x.cmds
                 ops := x.ops ++ hashed })
  s3.updFlight f.id (fun g => { g with
    rows := f.rows + 1, bimg := bimg, phase := if f.rows + 1 = 64 * b.kc then .done else .running })

/-- PRELOAD starts and opens its rows (R69); a saturation of R59 is recorded with its sign (R78), once for each row it is
written to, also where BCAST writes one source row to 64 (log entry 86). -/
def startPreload (s : State) (id : Nat) : State :=
  match s.startable id 0x11 with
  | none => s
  | some f =>
    let w := f.w0
    let fmt := (Format.ofCode (fld w 72 69)).getD .fp32
    let a := 64 * fld w 66 51
    let pad := (s.core f.core).data.pad
    let pos := s.cmdEng f.core w
    let k := s.cmdTile f.core w
    let rowOf := fun i => (operandRow pad fmt (fld w 50 43) a (fld w 68 68 = 1) (if fld w 67 67 = 1 then 0 else i)).map
      (fun v => let d := decodeF32 0 v; (d.1, d.2.saturated))
    let rows := (List.range 64).map rowOf
    let t := (rows.mapIdx (fun i r => (i, r))).foldl (fun u e => u.writeRow e.1 e.2) (s.tile f.core k)
    let s1 := s.updTile f.core k (fun _ => t)
    let s2 := s1.noteSat (4 * f.core + pos) (rows.flatten.countP (fun x => x.2))
    let pre := (List.range (if fld w 67 67 = 1 then 1 else 64)).flatMap (hashRow pad.rd fmt a (fld w 68 68 = 1))
    let s3 := match t.cap with
      | none => s2
      | some cid => s2.writeCapture cid pre.length (fun x => { x with pre := pre })
    s3.updFlight id (fun g => { g with phase := .done })

/-- The conversion set of a core (R70). -/
def CoreData.set (d : CoreData) (pos k : Nat) : ConvSet := Tab.get {} d.sets (16 * pos + k)

/-- The CONVERT parameters that a DRAIN takes from a set (R70). -/
def ConvSet.params (c : ConvSet) (f : Format) : ConvParams :=
  { s := c.s, b := c.b, lo := c.lo, hi := c.hi, fmt := f, tscale := c.tscale }

/-- The rows of a tile as exact values. -/
def Tile.rows (t : Tile) : List (List Val) :=
  (List.range 64).map (fun r => (List.range 64).map (fun c => valOf (Tab.get 0 t.els (64 * r + c))))

/-- The drain record (R73): status, flags, engine, tile, format and set, hash, then zeros. -/
def drainRecord (st : Stat) (flags e tile ofmt set hash : Nat) : List Nat :=
  leBytes 4 st.word ++ leBytes 4 flags ++ leBytes 4 (e + tile * 2 ^ 9 + ofmt * 2 ^ 12 + set * 2 ^ 16) ++ leBytes 4 hash
    ++ List.replicate 48 0

/-- The check digest of a drained group (R301): bytes 0 to 15 of the record, with owner, state, engine and tile masked,
then the output slot image. -/
def checkDigest (st : Stat) (flags ofmt set hash : Nat) (img : List Nat) : Nat :=
  crc64 (leBytes 4 st.word ++ leBytes 4 (flags % 2 ^ 24) ++ leBytes 4 (ofmt * 2 ^ 12 + set * 2 ^ 16) ++ leBytes 4 hash
    ++ img)

/-- The tile after a read-out's MODE (R72): keep, release (freed at completion), or zero. -/
def Tile.afterMode (t : Tile) (mode : Nat) : Tile :=
  if mode = 2 then { t.clearFlags with els := [], cap := none } else { t with cap := none }

/-- DRAIN reads its tile: the tile is converted into its slot by the set that the DRAIN took at its start, the record is
written and passed to the Scaler, MODE applies to the tile, and a sampled group's capture ends (R72, R73, R293, R299,
R300). -/
def State.readDrain (s : State) (f : Flight) : State :=
  let w := f.w0
  let pos := s.cmdEng f.core w
  let e := 4 * f.core + pos
  let k := s.cmdTile f.core w
  let t := s.tile f.core k
  let fmt := (Format.ofCode (fld w 70 67)).getD .fp32
  let img := convertSlot (f.conv.params fmt) t.rows
  let bytes := slotImageBytes img
  let flags := t.flagsWord
  let recBytes := drainRecord img.2.2 flags e (fld w 75 73) fmt.code (fld w 66 63) t.hash
  let s1 := s.updData f.core (fun d =>
    let p := d.pad.writeBytes (64 * fld w 62 47) bytes
    { d with pad := if fld w 46 46 = 1 then p.writeBytes (64 * fld w 45 30) recBytes else p })
  let s2 : State := { s1 with scalerQ := s1.scalerQ ++
    [{ ctx := f.ctx, kind := 2, source := e, item := fld w 75 73, stat := img.2.2
       ovf := t.ovfPos || t.ovfNeg, ovfPos := t.first }] }
  let s3 := match t.cap with
    | none => s2
    | some cid => s2.writeCapture cid (4096 + bytes.length) (fun c => { c with
        digest := checkDigest img.2.2 flags fmt.code (fld w 66 63) t.hash bytes, hash := t.hash
        formats := if c.formats = [] then [] else c.formats ++ [fmt.code]
        cmds := c.cmds ++ [w], conv := f.conv, record := recBytes.take 16, image := bytes })
  let s4 := s3.updTile f.core k (fun t => t.afterMode (fld w 72 71))
  s4.updFlight f.id (fun g => { g with phase := .done, rows := t.cap.getD 0 })

/-! ### TOPK (R74, R84) -/

/-- A candidate of TOPK: its binary32 pattern and its position. -/
abbrev Cand := F32 × Nat

/-- Rank order of R84: any NaN above everything, then numeric order, then the smaller position. -/
def candBefore (a b : Cand) : Bool :=
  let x := valOf a.1
  let y := valOf b.1
  if x.isNan && y.isNan then a.2 ≤ b.2
  else if x.isNan then true
  else if y.isNan then false
  else if y.lt x then true
  else if x.lt y then false
  else a.2 ≤ b.2

/-- Inserts a candidate into a list in rank order. -/
def candInsert (a : Cand) : List Cand → List Cand
  | [] => [a]
  | b :: t => if candBefore a b then a :: b :: t else b :: candInsert a t

/-- Candidates in rank order. -/
def candSort (xs : List Cand) : List Cand := xs.foldr candInsert []

/-- The list entry of a candidate (R84): value with a canonical NaN, then position. -/
def candBytes (c : Cand) : List Nat := leBytes 4 (f32Canon c.1).toNat ++ leBytes 4 c.2

/-- The filler entry of R84. -/
def candFiller : Cand := (0xFF800000, 0xFFFFFFFF)

/-- The entry at a byte address of a list. -/
def candAt (m : Mem) (a : Nat) : Cand := (BitVec.ofNat 32 (m.readLe a 4), m.readLe (a + 4) 4)

/-- The new list of one row (R84): the k best of the row and, without INIT, of the list's present entries. Entries of equal
rank and position but different bits keep the row's entry before the list's (log entry 86). -/
def topkRow (m : Mem) (t : Tile) (w : W128) (r : Nat) : List Cand :=
  let k := fld w 70 64
  let row := (List.range (fld w 62 56)).map (fun c => ((Tab.get 0 t.els (64 * r + c), fld w 31 0 + c) : Cand))
  let old := if fld w 63 63 = 1 then []
    else (List.range k).map (fun n => candAt m (64 * fld w 55 40 + (r * k + n) * 8))
  let best := (candSort (row ++ old)).take k
  best ++ List.replicate (k - best.length) candFiller

/-- TOPK reads its tile: the lists of the tile's 64 rows are merged in place, and MODE applies to the tile; a sampled group is
dropped (R74, R84, R299). -/
def State.readTopk (s : State) (f : Flight) : State :=
  let w := f.w0
  let k := s.cmdTile f.core w
  let t := s.tile f.core k
  let pad := (s.core f.core).data.pad
  let bytes := (List.range 64).flatMap (fun r => (topkRow pad t w r).flatMap candBytes)
  let s1 := s.updData f.core (fun d => { d with pad := d.pad.writeBytes (64 * fld w 55 40) bytes })
  let s2 := match t.cap with | none => s1 | some cid => s1.dropCapture cid
  (s2.updTile f.core k (fun t => t.afterMode (fld w 72 71))).updFlight f.id (fun g => { g with phase := .done })

/-- TILEREL discards its tile's contents; a sampled group is dropped (R75, R299). The tile is freed when the command
completes. -/
def State.readTilerel (s : State) (f : Flight) : State :=
  let k := s.cmdTile f.core f.w0
  let s1 := match (s.tile f.core k).cap with | none => s | some cid => s.dropCapture cid
  (s1.updTile f.core k (fun t => { t with cap := none })).updFlight f.id (fun g => { g with phase := .done })

/-- The read-out of an engine reads its tile once no earlier MMA has rows of it left to issue (R81). -/
def State.runReadout (s : State) (core : Nat) (q : QueueId) : State :=
  match s.readout core q with
  | none => s
  | some f =>
    if !s.tileQuiet f then s
    else match f.op with
      | 0x12 => s.readDrain f
      | 0x13 => s.readTopk f
      | _ => s.readTilerel f

/-- The conversion set that an engine command names on its core. -/
def State.convSet (s : State) (f : Flight) : ConvSet := (s.core f.core).data.set (s.cmdEng f.core f.w0) (fld f.w0 66 63)

/-- A DRAIN, TOPK or TILEREL starts at the head of its queue when the read-out pipeline is free; it leaves its queue entry and
reads its tile at once or after the last issue of an earlier MMA to it (R63, R81). A DRAIN takes its conversion set as it
starts, since a CVTSC or CVTCL behind it may change the set before it reads (R71). -/
def startReadout (s : State) (id op : Nat) : State :=
  match s.startable id op with
  | none => s
  | some f =>
    if (s.readout f.core f.queue).isSome then s
    else (s.updFlight id (fun g => { g with phase := .running, conv := s.convSet f })).runReadout f.core f.queue

/-- DRAIN starts (R63, R72). -/
def startDrain (s : State) (id : Nat) : State := startReadout s id 0x12

/-- TOPK starts (R63, R74). -/
def startTopk (s : State) (id : Nat) : State := startReadout s id 0x13

/-- TILEREL starts (R63, R75). -/
def startTilerel (s : State) (id : Nat) : State := startReadout s id 0x14

/-- MMA_ROW_ISSUE on engine e: the next row of the oldest started MMA that has rows left (R61 to R63), after which a read-out
that waits for the tile's last issue reads it (R81). -/
def mmaRowIssue (s : State) (e : Nat) : State :=
  if !s.dieRuns || s.unitDown (e / 4) then s else
    match (s.mmas (e / 4) (.engine (e % 4))).find? (fun g => g.rows < 64 * (mmaBody g.w0).kc) with
    | none => s
    | some f => (s.issueRow f).runReadout (e / 4) (.engine (e % 4))

/-- Changes a conversion set of an engine. -/
def State.updSet (s : State) (f : Flight) (g : ConvSet → ConvSet) : State :=
  let pos := s.cmdEng f.core f.w0
  s.updData f.core (fun d => { d with sets := Tab.update {} d.sets (16 * pos + fld f.w0 75 72) g })

/-- CVTSC at the head of its engine's queue (R71). -/
def startCvtsc (s : State) (id : Nat) : State :=
  match s.startable id 0x15 with
  | none => s
  | some f =>
    (s.updSet f (fun c => { c with s := BitVec.ofNat 32 (fld f.w0 63 32), b := BitVec.ofNat 32 (fld f.w0 31 0) })).updFlight
      id (fun g => { g with phase := .done })

/-- CVTCL at the head of its engine's queue (R71). -/
def startCvtcl (s : State) (id : Nat) : State :=
  match s.startable id 0x16 with
  | none => s
  | some f =>
    (s.updSet f (fun c => { c with tscale := fld f.w0 71 64, hi := BitVec.ofNat 32 (fld f.w0 63 32)
                                   lo := BitVec.ofNat 32 (fld f.w0 31 0) })).updFlight
      id (fun g => { g with phase := .done })

/-- A tile becomes FREE: its contents are undefined and never read, its flags and hash stay (R78, R80, R82). -/
def Tile.freed (t : Tile) : Tile := { t with st := .free, owner := 0, els := [], cap := none }

/-- What the completion of an engine command does beside its post: a releasing command frees its tile, and the DRAIN of
a sampled group queues the capture as a check (R82, R301). -/
def State.engineDone (s : State) (f : Flight) : State :=
  let s1 := match tileUse f.w0 with
    | .releasing => s.updTile f.core (s.cmdTile f.core f.w0) Tile.freed
    | _ => s
  if f.op = 0x12 && f.rows ≠ 0 then s1.updCapture f.rows (fun c => { c with phase := .queued }) else s1

end Sys2Proof.Machine
end

