-- ==== Sys2Proof/Machine/Limber.lean ====
section
/-!
DEFINITION. The Limber vector engine: lanes, masks, loads and stores, lane arithmetic, reductions and status accumulators
(R89 to R106). An instruction takes effect when it issues, in queue order (R94).
-/

namespace Sys2Proof.Machine

/-- Lane L of vector register r (R89, R90). -/
def CoreData.lane (d : CoreData) (r l : Nat) : F32 := Tab.get 0 d.lanes (256 * r + l)

/-- Writes lane L of vector register r. -/
def CoreData.setLane (d : CoreData) (r l : Nat) (v : F32) : CoreData :=
  { d with lanes := Tab.put 0 d.lanes (256 * r + l) v }

/-- A mask register; k0 reads as all ones at all times (R91). -/
def CoreData.mask (d : CoreData) (k : Nat) : BitVec 256 := if k = 0 then BitVec.allOnes 256 else Tab.get 0 d.masks k

/-- Whether lane L is active under a mask (R100). -/
def CoreData.active (d : CoreData) (k l : Nat) : Bool := (d.mask k).getLsbD l

/-- Writes a mask register; KD is 1 to 15 (R96). -/
def CoreData.setMask (d : CoreData) (k : Nat) (v : BitVec 256) : CoreData :=
  if k = 0 then d else { d with masks := Tab.put 0 d.masks k v }

/-- The mask whose bit L is given by a test. -/
def maskOf (p : Nat → Bool) : BitVec 256 := BitVec.ofNat 256 ((List.range 256).foldl (fun a l => a + b2n (p l) * 2 ^ l) 0)

/-- A status accumulator (R89). -/
def CoreData.sa (d : CoreData) (k : Nat) : Stat := Tab.get {} d.sas k

/-- Merges a status record into accumulator SA; 1Fh discards it (R104, R106). -/
def CoreData.mergeSa (d : CoreData) (k : Nat) (st : Stat) : CoreData :=
  if k = 0x1F then d else { d with sas := Tab.update {} d.sas k (fun a => a.merge st) }

/-- Writes the lanes that a test selects with values of their lane number. -/
def CoreData.writeLanes (d : CoreData) (r : Nat) (p : Nat → Bool) (v : Nat → F32) : CoreData :=
  (List.range 256).foldl (fun x l => if p l then x.setLane r l (v l) else x) d

/-! ### Fields (R96, R103) -/

/-- The destination register of a register instruction. -/
def vd (w : W128) : Nat := fld w 77 72
/-- The first source register. -/
def va (w : W128) : Nat := fld w 71 66
/-- The second source register. -/
def vb (w : W128) : Nat := fld w 65 60
/-- The third source register. -/
def vc (w : W128) : Nat := fld w 59 54
/-- The mask register. -/
def vmask (w : W128) : Nat := fld w 53 50

/-! ### Issue -/

/-- Whether an earlier Limber instruction has issued and not completed its place in the queue: instructions issue in
queue order (R94). -/
def State.limberReady (s : State) (id op : Nat) : Option Flight := s.startable id op

/-- Issues a Limber instruction whose effect is a change of its core's data. -/
def State.issueLimber (s : State) (id op : Nat) (g : W128 → CoreData → CoreData) : State :=
  match s.limberReady id op with
  | none => s
  | some f =>
    (s.updData f.core (g f.w0)).updFlight id (fun x => { x with phase := .done })

/-- A lane operation of one register, under its mask (R97, R98, R100). -/
def lanes1 (op : F32 → F32) (w : W128) (d : CoreData) : CoreData :=
  d.writeLanes (vd w) (d.active (vmask w)) (fun l => op (d.lane (va w) l))

/-- A lane operation of two registers, under its mask (R97, R99, R100). -/
def lanes2 (op : F32 → F32 → F32) (w : W128) (d : CoreData) : CoreData :=
  d.writeLanes (vd w) (d.active (vmask w)) (fun l => op (d.lane (va w) l) (d.lane (vb w) l))

/-- A lane operation of three registers, under its mask (R97, R100). -/
def lanes3 (op : F32 → F32 → F32 → F32) (w : W128) (d : CoreData) : CoreData :=
  d.writeLanes (vd w) (d.active (vmask w)) (fun l => op (d.lane (va w) l) (d.lane (vb w) l) (d.lane (vc w) l))

/-- VIMM (R95). -/
def doVimm (w : W128) (d : CoreData) : CoreData :=
  d.writeLanes (vd w) (d.active (vmask w)) (fun _ => f32Canon (BitVec.ofNat 32 (fld w 31 0)))

/-- VSEL: all 256 lanes, the mask being the selector (R100). -/
def doVsel (w : W128) (d : CoreData) : CoreData :=
  d.writeLanes (vd w) (fun _ => true)
    (fun l => f32Canon (if d.active (vmask w) l then d.lane (va w) l else d.lane (vb w) l))

/-- VCMP: 0 in every inactive lane's bit (R96, R99, R100). -/
def doVcmp (w : W128) (d : CoreData) : CoreData :=
  d.setMask (fld w 77 74)
    (maskOf (fun l => d.active (vmask w) l && f32Cmp (fld w 49 47) (d.lane (va w) l) (d.lane (vb w) l)))

/-- KOP (R96, R101). -/
def doKop (w : W128) (d : CoreData) : CoreData :=
  let a := d.mask (fld w 73 70)
  let b := d.mask (fld w 69 66)
  d.setMask (fld w 77 74) (match fld w 65 63 with
    | 0 => a &&& b
    | 1 => a ||| b
    | 2 => a &&& ~~~b
    | 3 => a ^^^ b
    | _ => ~~~a)

/-- KCOL (R96, R101). -/
def doKcol (w : W128) (d : CoreData) : CoreData :=
  d.setMask (fld w 77 74) (maskOf (fun l =>
    fld w 73 68 ≤ l % 64 && l % 64 ≤ fld w 67 62 && fld w 61 60 ≤ l / 64 && l / 64 ≤ fld w 59 58))

/-! ### Row reductions (R102) -/

/-- One level of the reduction tree: adjacent results combined. -/
def treeLevel (f : F32 → F32 → F32) : List F32 → List F32
  | a :: b :: t => f a b :: treeLevel f t
  | xs => xs

/-- The tree of six levels over 64 operands (R102). -/
def treeReduce (f : F32 → F32 → F32) (xs : List F32) : F32 :=
  (treeLevel f (treeLevel f (treeLevel f (treeLevel f (treeLevel f (treeLevel f xs)))))).headD 0

/-- A row reduction: operand of each active lane, identity of the inactive ones, the tree, the third operand, and the
write to the active lanes or to all 64 lanes of each row (R102). -/
def reduceRows (f : F32 → F32 → F32) (ident : F32) (operand : CoreData → W128 → Nat → F32) (w : W128)
    (d : CoreData) : CoreData :=
  let z := fun q => treeReduce f ((List.range 64).map (fun c =>
    if d.active (vmask w) (64 * q + c) then operand d w (64 * q + c) else ident))
  let zs := [z 0, z 1, z 2, z 3]
  d.writeLanes (vd w) (fun l => fld w 49 49 = 1 || d.active (vmask w) l)
    (fun l => f (zs.getD (l / 64) 0) (d.lane (vc w) l))

/-- The operand of VRSUM, VRMAX and VRMIN. -/
def operandA (d : CoreData) (w : W128) (l : Nat) : F32 := d.lane (va w) l

/-- The operand of VRDOT: the product rounded to binary32. -/
def operandAB (d : CoreData) (w : W128) (l : Nat) : F32 := f32Mul (d.lane (va w) l) (d.lane (vb w) l)

/-! ### Loads and stores (R103 to R106) -/

/-- Row and column of the stored element that lane L of a VLD or VST addresses (R103). -/
def lanePos (w : W128) (load : Bool) (l : Nat) : Nat × Nat :=
  let g := fld w 66 63
  let q := l / 64
  let c := l % 64
  if load && fld w 29 29 = 1 then (4 * g + fld w 28 27, c)
  else if fld w 67 67 = 1 then (c, 4 * g + q) else (4 * g + q, c)

/-- The format of a VLD or VST. -/
def lsFmt (w : W128) : Format := (Format.ofCode (fld w 71 68)).getD .fp32

/-- The mask register of a VLD or VST. -/
def lsMask (w : W128) : Nat := fld w 33 30

/-- VLD: each active lane decoded to binary32, the status merged into SA in stored coordinates (R104). A stored element that
RB gives to several active lanes counts once for each (log entry 87). -/
def doVld (w : W128) (d : CoreData) : CoreData :=
  let one := fun l =>
    let p := lanePos w true l
    decodeF32 (64 * p.1 + p.2) (slotVal d.pad.rd (lsFmt w) (fld w 46 39) (64 * fld w 62 47) p.1 p.2)
  let st := (List.range 256).foldl (fun a l => if d.active (lsMask w) l then a.merge (one l).2 else a) ({} : Stat)
  (d.writeLanes (fld w 77 72) (d.active (lsMask w)) (fun l => (one l).1)).mergeSa (fld w 38 34) st

/-- Stores one element code into a slot, leaving the other bits of its bytes (R49). -/
def storeCode (m : Mem) (f : Format) (base i code : Nat) : Mem :=
  let o := i * f.width
  let b := base + o / 8
  let n := (o % 8 + f.width + 7) / 8
  let old := m.readLe b n
  let clear := old - (bits old (o % 8 + f.width - 1) (o % 8)) * 2 ^ (o % 8)
  m.writeLe b n (clear + code % 2 ^ f.width * 2 ^ (o % 8))

/-- VST in formats 0h to 3h: each active lane converted by itself (R104). -/
def vstPlain (w : W128) (d : CoreData) : CoreData :=
  let f := lsFmt w
  (List.range 256).foldl (fun x l =>
    if d.active (lsMask w) l then
      let p := lanePos w false l
      let r := convert (plainParams f (fld w 46 39)) [(64 * p.1 + p.2, valOf (d.lane (fld w 77 72) l))]
      ({ x with pad := storeCode x.pad f (64 * fld w 62 47 + p.1 * f.rowBytes) p.2 (r.1.headD 0) } : CoreData).mergeSa
        (fld w 38 34) r.2.2
    else x) d

/-- VST of block k (0 to 7) of a group in formats 4h to 9h: with no active lane it is left unchanged; else the block and
its scale are written, inactive lanes as zero codes that take no part in the conversion (R105). -/
def vstBlock (w : W128) (d x : CoreData) (k : Nat) : CoreData :=
  let f := lsFmt w
  let q := k / 2
  let h := k % 2
  let row := 4 * fld w 66 63 + q
  let act := fun i => d.active (lsMask w) (64 * q + 32 * h + i)
  let idx := (List.range 32).filter act
  if idx = [] then x
  else
    let r := convert (plainParams f 127)
      (idx.map (fun i => (64 * row + 32 * h + i, valOf (d.lane (fld w 77 72) (64 * q + 32 * h + i)))))
    let codes := (List.range 32).map (fun i => if act i then r.1.getD (idx.filter (fun y => y < i)).length 0 else 0)
    let a := 64 * fld w 62 47
    let p := x.pad.writeBytes (a + row * f.rowBytes + h * (f.rowBytes / 2)) (packCodes f codes)
    ({ x with pad := p.write (a + 64 * f.rowBytes + 2 * row + h) r.2.1 } : CoreData).mergeSa (fld w 38 34) r.2.2

/-- VST (R104, R105). -/
def doVst (w : W128) (d : CoreData) : CoreData :=
  if (lsFmt w).isMx then (List.range 8).foldl (vstBlock w d) d else vstPlain w d

/-- VSTAT: the 64-B record, then the accumulator is zeroed; the record goes to the Scaler path (R106). -/
def startVstat (s : State) (id : Nat) : State :=
  match s.limberReady id 0x62 with
  | none => s
  | some f =>
    let w := f.w0
    let k := fld w 77 74
    let st := (s.core f.core).data.sa k
    let s1 := s.updData f.core (fun d =>
      { d with pad := d.pad.writeBytes (64 * fld w 62 47)
                 (leBytes 4 st.word ++ leBytes 4 (f.core + k * 2 ^ 8) ++ List.replicate 56 0)
               sas := Tab.put {} d.sas k {} })
    let s2 : State := { s1 with scalerQ := s1.scalerQ ++
      [{ ctx := f.ctx, kind := 1, source := f.core, item := k, stat := st, ovf := false, ovfPos := 0 }] }
    s2.updFlight id (fun g => { g with phase := .done })

/-- Dispatch of a Limber instruction to the Limber queue (R28, R43). -/
def State.dispatchLimber (s : State) (sh : Shell) (op : Nat) : State :=
  s.dispatch sh op (fun _ => .limber) (fun h => .ok (h.flight .limber, s))

/-- A Limber row whose effect is a change of its core's data: dispatch, or issue. -/
def limberRow (op : Nat) (g : W128 → CoreData → CoreData) (s : State) (m : Moment) : State :=
  match m with
  | .dispatch sh => s.dispatchLimber sh op
  | .start id => s.issueLimber id op g

/-- A VLD or VST: as any Limber row, and it takes part in bank arbitration when it issues (R108). -/
def memoryRow (op : Nat) (g : W128 → CoreData → CoreData) (s : State) (m : Moment) : State :=
  match m with
  | .dispatch sh => s.dispatchLimber sh op
  | .start id => match s.limberReady id op with
    | none => s
    | some f => (s.addObj (okey (0x8000 + f.core) 0x0B) 64 1).issueLimber id op g

end Sys2Proof.Machine
end

