-- ==== Sys2Proof/Machine/Check.lean ====
section
/-!
DEFINITION. The sampled cross-check: the replay of a captured group with its check digest (R77, R301), and the bytes of a
capture slot (R300, R304; log entry 37).
-/

namespace Sys2Proof.Machine

/-! ### Operand rows as captured (R80, R300) -/

/-- Bytes of an operand row as delivered to the array: two halves of 32 elements with their scales (R80). -/
def rowLen (f : Format) (x : Bool) : Nat := 2 * (4 * f.width + (if f.isMx then (if x then 32 else 1) else 0))

/-- The values of an operand row from its bytes. -/
def rowVals (f : Format) (tsc : Nat) (x : Bool) (bs : List Nat) : List Val :=
  (List.range 64).map (fun k =>
    let h := bs.drop (k / 32 * (rowLen f x / 2))
    let rd := fun a => h.getD a 0
    let v := decodeElem f (elemAt rd f 0 (k % 32))
    if f.isMx then scaleBy (rd (4 * f.width + (if x then k % 32 else 0))) v else if f.isFp8 then scaleBy tsc v else v)

/-- Row i of a run of rows of n bytes each. -/
def rowOf (bs : List Nat) (n i : Nat) : List Nat := (bs.drop (n * i)).take n

/-- Bytes of one K cant of an MMA in a capture: 64 A rows, then 64 B rows. -/
def MmaBody.cantBytes (b : MmaBody) : Nat := 64 * (rowLen b.afmt b.ax + rowLen b.bfmt b.bx)

/-! ### The replay (R301) -/

/-- One K cant on the check tile, from its captured bytes: the same updates and the same hash as the original's (R76 to R80). -/
def replayCant (b : MmaBody) (bs : List Nat) (t : Tile) : Tile :=
  let la := rowLen b.afmt b.ax
  let lb := rowLen b.bfmt b.bx
  let brows := (List.range 64).map (fun r => rowVals b.bfmt b.btsc b.bx (rowOf (bs.drop (64 * la)) lb r))
  let t1 := (List.range 64).foldl (fun u i =>
    let arow := rowVals b.afmt b.atsc b.ax (rowOf bs la i)
    u.writeRow i ((List.range 64).map (fun j =>
      accumulate (valOf (Tab.get 0 u.els (64 * i + j)) ::
        List.zipWith Val.mul arow (brows.map (fun r => r.getD j (.fin false 0 0))))))) t
  { t1 with hash := crc32cRun (t.hash ^^^ 0xFFFFFFFF) (bs.take b.cantBytes) ^^^ 0xFFFFFFFF }

/-- The rows of a captured PRELOAD, decoded by R59 (R69). -/
def replayPreload (w : W128) (pre : List Nat) : Tile :=
  let f := (Format.ofCode (fld w 72 69)).getD .fp32
  let x := fld w 68 68 = 1
  (List.range 64).foldl (fun u i =>
    u.writeRow i ((rowVals f (fld w 50 43) x (rowOf pre (rowLen f x) (if fld w 67 67 = 1 then 0 else i))).map (fun v =>
      let d := decodeF32 0 v
      (d.1, d.2.saturated)))) {}

/-- One command of a captured group on the check tile, with the operand bytes that are left. -/
def replayCmd (pre : List Nat) (p : Tile × List Nat) (w : W128) : Tile × List Nat :=
  if fld w 127 120 = 0x11 then (replayPreload w pre, p.2)
  else
    let b := mmaBody w
    (List.range b.kc).foldl (fun q _ => (replayCant b q.2 q.1, q.2.drop b.cantBytes)) p

/-- The check digest of a replayed group: its commands in order, the DRAIN last, with the captured conversion set (R301). -/
def replayDigest (cmds : List W128) (conv : ConvSet) (pre ops : List Nat) : Nat :=
  let t := (cmds.dropLast.foldl (replayCmd pre) ({}, ops)).1
  let w := cmds.getLastD 0
  let fmt := (Format.ofCode (fld w 70 67)).getD .fp32
  let img := convertSlot (conv.params fmt) t.rows
  checkDigest img.2.2 t.flagsWord fmt.code (fld w 66 63) t.hash (slotImageBytes img)

/-- The check digest that a sound engine finds for a capture. -/
def Capture.replay (c : Capture) : Nat := replayDigest c.cmds c.conv c.pre c.ops

/-- The rows that a replay issues (R301). -/
def Capture.issues (c : Capture) : Nat :=
  ((c.cmds.filter (fun w => fld w 127 120 = 0x10)).map (fun w => 64 * (mmaBody w).kc)).foldl (· + ·) 0

/-! ### The bytes of a capture slot (R300, R304; log entry 37) -/

/-- The word that a capture begins with. -/
def captureMark : Nat := 0x504B3943

/-- The 4 KiB header: mark, counts of commands and of PRELOAD, operand and output bytes, the conversion set, bytes 0 to 15 of
the drain record, and the first 252 command images. -/
def Capture.header (c : Capture) : List Nat :=
  let h := leBytes 4 captureMark ++ leBytes 4 c.cmds.length ++ leBytes 4 c.pre.length ++ leBytes 4 c.ops.length
    ++ leBytes 4 c.image.length ++ leBytes 4 c.conv.s.toNat ++ leBytes 4 c.conv.b.toNat ++ leBytes 4 c.conv.lo.toNat
    ++ leBytes 4 c.conv.hi.toNat ++ leBytes 12 c.conv.tscale ++ c.record.take 16
    ++ (c.cmds.take 252).flatMap (fun w => leBytes 16 w.toNat)
  h ++ List.replicate (4096 - h.length) 0

/-- The bytes of a capture: header, PRELOAD rows, operand rows, output slot, and the command images beyond 252. -/
def Capture.slotBytes (c : Capture) : List Nat :=
  c.header ++ c.pre ++ c.ops ++ c.image ++ (c.cmds.drop 252).flatMap (fun w => leBytes 16 w.toNat)

/-- Whether command images form a captured group, with the bytes that they need: an opening MMA or PRELOAD, MMAs that continue,
and a DRAIN (R299). -/
def groupForm (cmds : List W128) (pre ops out : Nat) : Bool :=
  let o := cmds.headD 0
  let d := cmds.getLastD 0
  let mm := cmds.dropLast.filter (fun w => fld w 127 120 = 0x10)
  let f := (Format.ofCode (fld o 72 69)).getD .fp32
  2 ≤ cmds.length && fld d 127 120 = 0x12 && (tileUse o = .opening)
    && (cmds.dropLast.drop 1).all (fun w => fld w 127 120 = 0x10 && fld w 72 72 = 0)
    && pre = (if fld o 127 120 = 0x11 then rowLen f (fld o 68 68 = 1) * (if fld o 67 67 = 1 then 1 else 64) else 0)
    && ops = (mm.map (fun w => (mmaBody w).kc * (mmaBody w).cantBytes)).foldl (· + ·) 0
    && out = ((Format.ofCode (fld d 70 67)).getD .fp32).slotBytes

/-- Reads a capture from bytes and runs it: the check digest, none where the header is malformed (R304, R310). -/
def captureDigest (rd : Nat → Nat) : Option Nat :=
  let word := fun a => leNat ((List.range 4).map (fun k => rd (a + k)))
  let n := word 4
  let p := word 8
  let o := word 12
  let i := word 16
  let bytes := fun a k => (List.range k).map (fun j => rd (a + j))
  let extra := 4096 + p + o + i
  if word 0 ≠ captureMark || 2 ^ 21 < extra + 16 * (n - 252) then none
  else
    let cmds := (List.range n).map (fun k =>
      BitVec.ofNat 128 (leNat (bytes (if k < 252 then 64 + 16 * k else extra + 16 * (k - 252)) 16)))
    if !groupForm cmds p o i then none
    else
      let conv : ConvSet :=
        { s := BitVec.ofNat 32 (word 20), b := BitVec.ofNat 32 (word 24), lo := BitVec.ofNat 32 (word 28)
          hi := BitVec.ofNat 32 (word 32), tscale := rd 36 }
      some (replayDigest cmds conv (bytes 4096 p) (bytes (4096 + p) o))

end Sys2Proof.Machine
end

