-- ==== Sys2Proof/Machine/Codec.lean ====
section
/-!
DEFINITION. The coding of a lane: the Reed-Solomon code (R178), the scrambler (R177), the codeword control word (R179), and
frames in a link's byte stream (R180, R181). The order of bits and symbols in a codeword is log entry 96's.
-/

namespace Sys2Proof

/-! ### GF(2^10) (R178) -/

/-- The double of a field element: x^10 = x^3 + 1. -/
def gfDouble (a : Nat) : Nat := if a < 512 then 2 * a else (2 * a) ^^^ 0x409

/-- The product in GF(2^10). -/
def gfMul (a b : Nat) : Nat :=
  ((List.range 10).foldl (fun p k => (if b.testBit k then p.1 ^^^ p.2 else p.1, gfDouble p.2)) (0, a)).1

/-- The inverse in GF(2^10): the power 1,022, as the product of nine squarings. -/
def gfInv (a : Nat) : Nat :=
  ((List.range 9).foldl (fun p _ => (gfMul p.1 (gfMul p.2 p.2), gfMul p.2 p.2)) (1, a)).1

/-- The k-th power of α. -/
def alphaPow : Nat → Nat
  | 0 => 1
  | k + 1 => gfDouble (alphaPow k)

/-- The value of a polynomial, coefficients from the lowest degree up. -/
def polyEval (p : List Nat) (x : Nat) : Nat := p.foldr (fun c v => gfMul v x ^^^ c) 0

/-- The sum of a polynomial and a multiple of another, moved up by k degrees. -/
def polyAdd (p q : List Nat) (c k : Nat) : List Nat :=
  (List.range (max p.length (q.length + k))).map (fun i =>
    p.getD i 0 ^^^ (if k ≤ i then gfMul c (q.getD (i - k) 0) else 0))

/-! ### RS(544, 528) (R178) -/

/-- The generator polynomial, lowest degree first: roots α⁰ to α¹⁵. -/
def rsGen : List Nat := (List.range 16).foldl (fun g j => polyAdd (g.map (gfMul (alphaPow j))) g 1 1) [1]

/-- The check symbols of a message, highest degree first: the remainder of the message moved up 16 degrees. -/
def rsParity (ms : List Nat) : List Nat :=
  (ms.foldl (fun p m =>
    let f := m ^^^ p.getD 15 0
    (List.range 16).map (fun i => (if i = 0 then 0 else p.getD (i - 1) 0) ^^^ gfMul f (rsGen.getD i 0)))
    (List.replicate 16 0)).reverse

/-- The syndromes of a received word, first symbol of the highest degree. -/
def rsSyndromes (r : List Nat) : List Nat :=
  (List.range 16).map (fun j => r.foldl (fun v c => gfMul v (alphaPow j) ^^^ c) 0)

/-- The state of the Berlekamp-Massey search: locator, the locator before its last growth, length, distance, discrepancy. -/
structure Locator where
  c : List Nat := [1]
  b : List Nat := [1]
  l : Nat := 0
  m : Nat := 1
  d : Nat := 1
  deriving DecidableEq, Repr

/-- One step of the search: syndrome number n. -/
def Locator.step (ss : List Nat) (x : Locator) (n : Nat) : Locator :=
  let d := (List.range (x.l + 1)).foldl (fun v i => v ^^^ gfMul (x.c.getD i 0) (ss.getD (n - i) 0)) 0
  if d = 0 then { x with m := x.m + 1 }
  else
    let c := polyAdd x.c x.b (gfMul d (gfInv x.d)) x.m
    if 2 * x.l ≤ n then { c := c, b := x.c, l := n + 1 - x.l, m := 1, d := d } else { x with c := c, m := x.m + 1 }

/-- The error at a symbol of a locator's word, 0 where there is none: by the evaluator polynomial at the symbol's locator. -/
def rsError (lc om : List Nat) (i : Nat) : Nat :=
  let x := alphaPow ((543 - i) % 1023)
  let y := gfInv x
  if polyEval lc y ≠ 0 then 0
  else
    let odd := lc.mapIdx (fun k c => if k % 2 = 1 then c else 0)
    gfMul (gfMul x (polyEval om y)) (gfInv (polyEval (odd.drop 1) y))

/-- Decodes a received word: the corrected word and how many symbols were wrong, none where more than 8 were (R178). -/
def rsDecode (r : List Nat) : Option (List Nat × Nat) :=
  let ss := rsSyndromes r
  if ss.all (· = 0) then some (r, 0)
  else
    let x := (List.range 16).foldl (Locator.step ss) {}
    let om := (List.range 16).map (fun k =>
      (List.range (k + 1)).foldl (fun v i => v ^^^ gfMul (x.c.getD i 0) (ss.getD (k - i) 0)) 0)
    let es := (List.range 544).map (rsError x.c om)
    let w := List.zipWith (fun a b => a ^^^ b) r es
    let k := (es.filter (· ≠ 0)).length
    if x.l ≤ 8 && k = x.l && (rsSyndromes w).all (· = 0) then some (w, k) else none

/-- The symbols of a number, the lowest ten bits first. -/
def symbolsOf (n x : Nat) : List Nat := (List.range n).map (fun i => x / 2 ^ (10 * i) % 1024)

/-- The number of a list of symbols. -/
def ofSymbols : List Nat → Nat
  | [] => 0
  | c :: t => c % 1024 + 1024 * ofSymbols t

/-- The codeword of 640 bytes of link data and a codeword control word (R178). -/
def codeword (data : List Nat) (ccw : Nat) : Nat :=
  let ms := symbolsOf 528 (leNat data + ccw * 2 ^ 5120)
  ofSymbols (ms ++ rsParity ms)

/-- The 5,440 bits of a received codeword: 528 message symbols, then 16 parity symbols (R178). -/
def receivedWord (message parity : Nat) : Nat := message + parity * 2 ^ 5280

/-- The link data, the control word and the number of symbols corrected of a received codeword. -/
def decodeCodeword (w : Nat) : Option (List Nat × Nat × Nat) :=
  (rsDecode (symbolsOf 544 w)).map (fun e =>
    let m := ofSymbols (e.1.take 528)
    (leBytes 640 (m % 2 ^ 5120), m / 2 ^ 5120, e.2))

/-! ### The scrambler (R177) -/

/-- Twenty bits of PRBS31 from a register of the last 31, oldest lowest: the bits, and the register after them. -/
def prbs20 (x : Nat) : Nat × Nat :=
  let b := (x ^^^ x / 8) % 2 ^ 20
  (b, x / 2 ^ 20 + b * 2 ^ 11)

/-- The scrambling sequence of one codeword, and the register after it. -/
def prbsCodeword (x : Nat) : Nat × Nat :=
  (List.range 272).foldl (fun p k => (p.1 + (prbs20 p.2).1 * 2 ^ (20 * k), (prbs20 p.2).2)) (0, x)

/-! ### Codeword control words (R179) -/

/-- A codeword control word. -/
def mkCcw (lane ack : Nat) (nak : Bool) (map cred0 cred1 state cwseq : Nat) : Nat :=
  lane * 2 ^ 156 + ack % 4096 * 2 ^ 144 + b2n nak * 2 ^ 143 + map % 4096 * 2 ^ 131 + cred0 % 65536 * 2 ^ 115
    + cred1 % 65536 * 2 ^ 99 + state % 8 * 2 ^ 96 + cwseq % 2 ^ 32 * 2 ^ 64

/-! ### Frames in the byte stream (R181) -/

/-- The bytes of a frame on the wire: header, payload, trailer with the link CRC. -/
def frameWire (header : Nat) (payload : List Nat) (crc : Nat) : List Nat := leBytes 32 header ++ payload ++ leBytes 8 crc

/-- What the head of a received byte stream is: not enough bytes, n bytes of idle fill, n bytes whose start is lost, a frame of n
bytes with a byte in an uncorrectable codeword, or a frame. -/
inductive Deframe where
  | more | idle (n : Nat) | lost (n : Nat) | bad (n header : Nat) | frame (n header : Nat) (payload : List Nat) (crc : Nat)
  deriving DecidableEq, Repr

/-- Reads the head of a received byte stream, where a byte of an uncorrectable codeword is missing (R178, R181). LEN stands in the
first eight bytes of a header. -/
def deframe (bs : List (Option Nat)) : Deframe :=
  let w := bs.take 8
  if w.length < 8 then .more
  else if w.all (· = some 0) then .idle 8
  else if w.any (·.isNone) then .lost 8
  else
    let h8 := leNat (w.map (·.getD 0))
    let n := 40 + 64 * bits h8 11 5
    let f := bs.take n
    if f.length < n then .more
    else if f.any (·.isNone) then .bad n h8
    else
      let b := f.map (·.getD 0)
      .frame n (leNat (b.take 32)) ((b.drop 32).take (n - 40)) (leNat (b.drop (n - 8)) % 2 ^ 32)

end Sys2Proof
end

