-- ==== Sys2Proof/Machine/Tier.lean ====
section
/-!
DEFINITION. Tier space: resolution of a tier byte (R140), reads and writes with dirty bits (R163), residency (R141),
ownership (R153), C6 translation (R134, R135), and the byte counters of R174.
-/

namespace Sys2Proof.Machine

/-- A place in one of the physical memories (R140, R143, R145, R146, R149); the Planer is part of a DDR or flash
address. -/
inductive Loc where
  | landing (a : Nat) | ddr (q a : Nat) | flash (q a : Nat) | host (a : Nat) | none
  deriving DecidableEq, Repr

/-- A Tier Map entry. -/
def State.region (s : State) (r : Nat) : Region := Tab.get {} s.tmap r

/-- Changes a Tier Map entry. -/
def State.updRegion (s : State) (r : Nat) (f : Region → Region) : State :=
  { s with tmap := Tab.update {} s.tmap r f }

/-- The key of host window entry w in the register file: the object HOSTWIN_ADDR, one instance per window (R149). -/
def State.hostWin (s : State) (w : Nat) : Nat := Tab.get 0 s.hostWins w

/-- The home location of offset `o` of a region (R142). -/
def State.homeLoc (s : State) (g : Region) (o : Nat) : Loc :=
  match g.home with
  | .none => .none
  | .landing => .landing (g.frame * 2 ^ 26 + o)
  | .ddr => .ddr g.planer (g.homeFrame * 2 ^ 26 + o)
  | .flash => .flash g.planer (g.homeFrame * 2 ^ 26 + o)
  | .host => .host (s.hostWin g.homeFrame / 2 ^ 12 * 2 ^ 12 + o)

/-- The resolved location of a tier byte (R140): the Landing home, the staged copy, then the home tier. -/
def State.resolve (s : State) (a : Nat) : Loc :=
  let g := s.region (a / 2 ^ 26)
  let o := a % 2 ^ 26
  if g.home ≠ .none && g.home ≠ .landing && g.staged then .landing (g.frame * 2 ^ 26 + o) else s.homeLoc g o

/-- The channel of a Planer's DDR byte (R145). -/
def ddrChannel (a : Nat) : Nat := bits (a % 2 ^ 26) 13 12 ^^^ bits (a / 2 ^ 26) 1 0

/-- The byte address of a Planer's DDR or flash byte in its memory. -/
def planerAddr (q a : Nat) : Nat := q * 2 ^ 44 + a

/-- Whether a PHY PLL of the memories is out of lock: 21 to 28 the HBM stacks, 29 to 32 DDR, 33 to 36 NAND (R361; log entry 73). -/
def State.physDown (s : State) : Bool := s.power.plls.any (fun e => 21 ≤ e.1 && e.1 ≤ 36 && e.2)

/-- The stack of a Landing byte (R144). -/
def stackOf (a : Nat) : Nat :=
  let o := a % 2 ^ 26
  let f := a / 2 ^ 26
  bits o 13 11 ^^^ bits o 16 14 ^^^ bits o 19 17 ^^^ bits o 22 20 ^^^ bits o 25 23 ^^^ bits f 2 0

/-- Whether an access to a location fails because the PLL of its PHY is out of lock (R361). -/
def State.phyDown (s : State) : Loc → Bool
  | .landing a => Tab.get false s.power.plls (21 + stackOf a)
  | .ddr q _ => Tab.get false s.power.plls (29 + q)
  | .flash q _ => Tab.get false s.power.plls (33 + q)
  | _ => false

/-- The byte at a location. -/
def State.locRead (s : State) : Loc → Nat
  | .landing a => s.landing.rd a
  | .ddr q a => s.ddr.rd (planerAddr q a)
  | .flash q a => s.flash.rd (planerAddr q a)
  | .host a => s.host.rd a
  | .none => 0

/-- Writes a byte at a location; a write into a Landing that is being reset is discarded (R322). -/
def State.locWrite (s : State) (l : Loc) (b : Nat) : State :=
  match l with
  | .landing a => if s.unitDown landingUnit then s else { s with landing := s.landing.write a b }
  | .ddr q a => { s with ddr := s.ddr.write (planerAddr q a) b }
  | .flash q a => { s with flash := s.flash.write (planerAddr q a) b }
  | .host a => { s with host := s.host.write a b }
  | .none => s

/-! ### The key/value area (R249, R261) -/

/-- A context's serving sequencer (R248). -/
def State.serv (s : State) (ctx : Nat) : Serving := Tab.get {} s.serving ctx

/-- First region and number of regions of a serving context's key/value area (R249, R250). -/
def Serving.kvArea (v : Serving) : Nat × Nat :=
  if v.on then (bits v.record 190 171, bits v.record 199 191 * bits v.record 170 163) else (0, 0)

/-- Whether a region belongs to a key/value area (R250). -/
def State.isKv (s : State) (r : Nat) : Bool :=
  s.serving.any (fun e => e.2.kvArea.1 ≤ r && r < e.2.kvArea.1 + e.2.kvArea.2)

/-- The 4 KiB page of an address in its region's dirty table (R163). -/
def pageOf (a : Nat) : Nat := a % 2 ^ 26 / 4096

/-- Whether the dirty bit of an address's page is set (R163). -/
def Region.pageDirty (g : Region) (a : Nat) : Bool := Tab.get false g.pages (pageOf a)

/-- The byte at a tier address: at its resolved location (R140); 0 in a key/value region that is not reserved and in a
reserved page that is not dirty (R261). -/
def State.tierRead (s : State) (a : Nat) : Nat :=
  let g := s.region (a / 2 ^ 26)
  if s.isKv (a / 2 ^ 26) && !(g.staged && g.pageDirty a) then 0 else s.locRead (s.resolve a)

/-- A write that reaches a staged copy sets the dirty bit of its 4 KiB page and DIRTY (R163). -/
def State.markDirty (s : State) (a : Nat) : State :=
  let r := a / 2 ^ 26
  if (s.region r).staged then
    s.updRegion r (fun g => { g with dirty := true, pages := Tab.put false g.pages (pageOf a) true })
  else s

/-- A write to a reserved key/value page that is not dirty: the rest of the page reads 0, so that nothing left in the
frame is ever read (R260, R261; log entry 39). -/
def State.openPage (s : State) (a : Nat) : State :=
  let g := s.region (a / 2 ^ 26)
  if s.isKv (a / 2 ^ 26) && g.staged && !g.pageDirty a then
    { s with landing := s.landing.zero (g.frame * 2 ^ 26 + pageOf a * 4096) 4096 }
  else s

/-- Writes a byte at a tier address, at its resolved location (R140, R163); a key/value region that is not reserved
discards it (R261). -/
def State.tierWrite (s : State) (a b : Nat) : State :=
  if s.isKv (a / 2 ^ 26) && !(s.region (a / 2 ^ 26)).staged then s
  else (((s.openPage a).locWrite (s.resolve a) b).markDirty a)

/-- Writes bytes from a tier address up. -/
def State.tierWriteBytes (s : State) : Nat → List Nat → State
  | _, [] => s
  | a, b :: t => (s.tierWrite a b).tierWriteBytes (a + 1) t

/-- The n bytes from a tier address up. -/
def State.tierBytes (s : State) (a n : Nat) : List Nat := (List.range n).map (fun k => s.tierRead (a + k))

/-- The 4 KiB pages that n bytes from a tier address up touch, by number in tier space. -/
def spanPages (a n : Nat) : List Nat := (List.range ((a + n - 1) / 4096 + 1 - a / 4096)).map (· + a / 4096)

/-- `markDirty` for every page of n bytes of one region (R163). -/
def State.markRange (s : State) (a n : Nat) : State := (spanPages a n).foldl (fun t p => t.markDirty (4096 * p)) s

/-- `openPage` for every page of n bytes of one region (R261). -/
def State.openRange (s : State) (a n : Nat) : State := (spanPages a n).foldl (fun t p => t.openPage (4096 * p)) s

/-- Makes n bytes of one region undefined at their resolved location; a key/value region that is not reserved discards the
write (R163, R261; log entry 6). -/
def State.regionLose (s : State) (a n : Nat) : State :=
  if s.isKv (a / 2 ^ 26) && !(s.region (a / 2 ^ 26)).staged then s
  else
    let q := (s.openRange a n).seed
    let s1 := q.2
    let s2 : State := match s.resolve a with
      | .landing x => { s1 with landing := s1.landing.lose x n q.1 }
      | .ddr p x => { s1 with ddr := s1.ddr.lose (planerAddr p x) n q.1 }
      | .flash p x => { s1 with flash := s1.flash.lose (planerAddr p x) n q.1 }
      | .host x => { s1 with host := s1.host.lose x n q.1 }
      | .none => s1
    s2.markRange a n

/-- Makes n bytes of tier space undefined at their resolved location, one region at a time; `k` regions at most. -/
def State.tierLose (s : State) (a n : Nat) : Nat → State
  | 0 => s
  | k + 1 =>
    if n = 0 then s
    else
      let m := min n (2 ^ 26 - a % 2 ^ 26)
      (s.regionLose a m).tierLose (a + m) (n - m) k

/-- Whether a region resolves to the Landing (R141). -/
def Region.inLanding (g : Region) : Bool := g.home = .landing || (g.home ≠ .none && g.staged)

/-- What keeps a core move port, Yarder or Planer port from a region (R141): the fault code, LOST first. -/
def residency (g : Region) : Option Nat :=
  if g.lost then some 0x2005
  else if !g.inLanding || g.busy = .evict then some 0x500A else none

/-- The first residency fault over a list of regions (R141), the key/value area excepted (R261). -/
def State.notResident (s : State) (rs : List Nat) : Option Nat :=
  (rs.filter (fun r => !s.isKv r)).findSome? (fun r => residency (s.region r))

/-- DETAIL of a fault found at dispatch (R290): where the rule speaks of the bytes or the region that a command names or
touches (R141, R153, R255), the first address of the access; zero for the other rules (log entry 83). -/
def accessDetail (code first : Nat) : Nat := if [0x2005, 0x500A, 0x5013, 0x7002].contains code then first else 0

/-- BUF0 or BUF1 of a slot image (R230). -/
def slotBuf (image b : Nat) : Nat := if b = 0 then bits image 199 154 else bits image 153 108

/-- Whether a write of n bytes at a tier address reaches a serving slot's buffer that is not FILLING (R255). -/
def State.weightBusy (s : State) (a n : Nat) : Bool :=
  s.slots.any (fun e => match e.2.owner with
    | some c => (s.serv c).on && (List.range 2).any (fun b =>
        let base := slotBuf e.2.image b
        base < a + n && a < base + 2 * bits e.2.image 231 200
          && Tab.get .empty (s.serv c).bufs (2 * e.1 + b) ≠ .filling)
    | none => false)

/-- Whether a region belongs to a context (R153). -/
def Region.ownedBy (g : Region) (ctx : Nat) : Bool := g.allocated && g.owner = ctx

/-- Counts an access of at most 64 B: STACK_BYTES and LANDING_CLASS_BYTES of a class for the Landing, DDR_BYTES for DDR
(R174). Classes: 1 Yarders, 2 cores, 3 Planer ports, 4 Skidders, 5 host DMA. -/
def State.countAccess (s : State) (cls a n : Nat) : State :=
  if s.isKv (a / 2 ^ 26) && !(s.region (a / 2 ^ 26)).staged then s
  else match s.resolve a with
  | .landing x => (s.addObj (okey 0x3510 cls) 64 n).addObj (okey (0x3500 + stackOf x) 1) 64 n
  | .ddr q _ => s.addObj (okey (0x3300 + q) 3) 64 n
  | _ => s

/-- Counts an access to a range of tier space, cut at the 2 KiB units of R144; `k` units at most. -/
def State.countRange (s : State) (cls a n : Nat) : Nat → State
  | 0 => s
  | k + 1 =>
    if n = 0 then s
    else
      let m := min n (2048 - a % 2048)
      (s.countAccess cls a m).countRange cls (a + m) (n - m) k

/-- Counts an access to a whole frame, which holds 8 MiB on each stack (R144, R174). -/
def State.countFrame (s : State) (cls : Nat) : State :=
  (List.range 8).foldl (fun t k => t.addObj (okey (0x3500 + k) 1) 64 (2 ^ 23)) (s.addObj (okey 0x3510 cls) 64 (2 ^ 26))

/-- Counts an access of n bytes to the home of a region, whatever is staged (R174). -/
def State.countHome (s : State) (g : Region) (n : Nat) : State :=
  if g.home = .ddr then s.addObj (okey (0x3300 + g.planer) 3) 64 n else s

/-- Corrected errors that a memory's transfers have met: one bit a 64-B transfer (R145, R174; log entry 95). -/
def corrected (mem bytes : Nat) : Nat := ((List.range (bytes / 64)).filter (Config.eccHit mem)).length

/-- The key of a flash block. -/
def blockKey (q b : Nat) : Nat := q * 2 ^ 32 + b

/-- Counts a read of the flash unit that holds a byte (R146). -/
def State.readUnit (s : State) (q a : Nat) : State :=
  let b := Config.flashBlock q (a / 16384) (s.obj (okey (0x3400 + q) 3))
  { s with ftl := Tab.update {} s.ftl (blockKey q b) (fun x => { x with reads := x.reads + 1 }) }

/-! ### C6 translation (R133 to R137) -/

/-- The entry that translates a C6 virtual byte: the table's entry, or the one of the last completed flush where the two
differ, since the module caches translations (R134, R136; log entry 21). -/
def State.c6Entry (s : State) (ctx va : Nat) : Nat :=
  let page := va / 2 ^ 21
  let new := leNat (s.tierBytes (s.obj (okey (0x2800 + ctx) 7) + 8 * page) 8)
  let old := (s.ctx ctx).c6Old.readLe (8 * page) 8
  if old = new then new else if Config.c6Stale s.nextId (va / 64) then old else new

/-- C6_TABLE_BASE and C6_TABLE_ENTRIES of a context, then the tier address of a C6 virtual byte; none where the access is
not permitted (R134, R135, R153). -/
def State.c6Translate (s : State) (ctx va : Nat) (write : Bool) : Option Nat :=
  let page := va / 2 ^ 21
  if s.obj (okey (0x2800 + ctx) 8) ≤ page then none
  else
    let e := s.c6Entry ctx va
    let a := bits e 24 0 * 2 ^ 21 + va % 2 ^ 21
    if bit e 63 && bits e 60 25 = 0 && (if write then bit e 61 else bit e 62) && (s.region (a / 2 ^ 26)).ownedBy ctx
    then some a else none

/-- The tier address that a descriptor's address names: itself in native mode, translated in C6 mode. -/
def State.translate (s : State) (ctx : Nat) (d : Desc) (write : Bool) (a : Nat) : Option Nat :=
  if d.c6 then s.c6Translate ctx a write else some a

/-! ### The bytes of a window (R124 to R127) -/

/-- A run of at most 64 B of a window: its address in the descriptor's space and its offset in the slot image. -/
structure Piece where
  addr : Nat
  slot : Nat
  len  : Nat
  deriving DecidableEq, Repr

/-- Cuts a run of bytes at 64-B boundaries of its address; `k` pieces at most. -/
def cutPieces (a o n : Nat) : Nat → List Piece
  | 0 => []
  | k + 1 =>
    if n = 0 then []
    else
      let m := min n (64 - a % 64)
      { addr := a, slot := o, len := m } :: cutPieces (a + m) (o + m) (n - m) k

/-- The valid columns of window row r: a prefix of the row. -/
def Desc.rowValid (d : Desc) (rd : Nat) (o : List Int) (r : Nat) : Nat :=
  ((List.range 64).filter (fun c => d.winValid rd o r c)).length

/-- The pieces of window row r, values then scales (R124, R126, R127). An address below zero, which only a C6 descriptor can
have, counts as 0 (log entry 91). -/
def rowPieces (d : Desc) (rd : Nat) (o : List Int) (r : Nat) : List Piece :=
  let f := d.fmt
  let nv := d.rowValid rd o r
  let x := winPos rd o r 0
  let a := (d.rowAddr x + x.getD 0 0 * f.width / 8).toNat
  cutPieces a (r * f.rowBytes) (nv * f.width / 8) 6 ++
    (if f.isMx then
      ((List.range 2).filter (fun b => 32 * b < nv)).map (fun b =>
        { addr := (d.scaleAddr (winPos rd o r (32 * b))).toNat, slot := 64 * f.rowBytes + 2 * r + b, len := 1 })
     else [])

/-- The pieces of a window in row-major order, which is the order of linear element index (R137). -/
def winPieces (d : Desc) (rd : Nat) (o : List Int) : List Piece := (List.range 64).flatMap (rowPieces d rd o)

/-- The kerf bytes of a slot image that a fill of the window writes: offsets and bytes (R125). -/
def kerfWrites (d : Desc) (rd : Nat) (o : List Int) : List (Nat × List Nat) :=
  let f := d.fmt
  (List.range 64).flatMap (fun r =>
    let nv := d.rowValid rd o r
    (r * f.rowBytes + nv * f.width / 8, packCodes f (List.replicate (64 - nv) (kerfCode f d.kfill))) ::
      (if f.isMx then
        ((List.range 2).filter (fun b => nv ≤ 32 * b)).map (fun b => (64 * f.rowBytes + 2 * r + b, [kerfScale d.kfill]))
       else []))

/-- Whether a write of a list of pieces reaches a serving slot's buffer that is not FILLING (R255). -/
def State.piecesBusy (s : State) (ctx : Nat) (d : Desc) (ps : List Piece) : Bool :=
  ps.any (fun p => match s.translate ctx d true p.addr with
    | some a => s.weightBusy a p.len
    | none => false)

/-- The tier address of the first byte of a list of pieces. -/
def State.firstPiece (s : State) (ctx : Nat) (d : Desc) (write : Bool) (ps : List Piece) : Nat :=
  match ps with
  | [] => 0
  | p :: _ => (s.translate ctx d write p.addr).getD p.addr

/-- The regions that a list of pieces touches; an address that does not translate touches none. -/
def State.pieceRegions (s : State) (ctx : Nat) (d : Desc) (write : Bool) (ps : List Piece) : List Nat :=
  (ps.filterMap (fun p => (s.translate ctx d write p.addr).map (· / 2 ^ 26))).eraseDups

end Sys2Proof.Machine
end

