-- ==== Sys2Proof/Machine/Desc.lean ====
section
/-!
DEFINITION. Descriptors: validation (R113, R121, R133), DESC_CREATE and DESC_DESTROY (R115 to R120), C6_FLUSH (R136).
-/

namespace Sys2Proof.Machine

/-- A reason for refusing a descriptor: REASON, whether it concerns the scale array, and the dimension (R120). -/
abbrev DescReason := Nat × Bool × Nat

/-- The refusal reason without a dimension. -/
def plainReason (n : Nat) : Option DescReason := some (n, false, 0)

/-- A descriptor table entry (R114). -/
def State.desc (s : State) (ctx n : Nat) : DescEntry := Tab.get {} s.descs (ctx * 4096 + n)

/-- An allocation of a context (R152). -/
def State.alloc (s : State) (ctx n : Nat) : Alloc := Tab.get {} s.allocs (ctx * 256 + n)

/-- Whether a descriptor writes: DIR 01b or 10b (R121). -/
def Desc.writes (d : Desc) : Bool := d.dir = 1 || d.dir = 2

/-- Whether DIR permits reads (R117). -/
def Desc.reads (d : Desc) : Bool := d.dir = 0 || d.dir = 2

/-- Whether a format code has no scale array: SBASE, SALLOC and the SSTRIDE fields are unused unless FMT is 4h to 9h
(R110, R112). -/
def Desc.noScales (d : Desc) : Bool := d.fmtCode < 4 || 9 < d.fmtCode

/-- Step 1 of R121: reserved and unused fields, DIR, KFILL, NDIM, with the array and the dimension that the first such field
concerns (R120; log entry 72). In C6 mode ALLOC and SALLOC are unused (R133). -/
def descReserved (x : Nat) (d : Desc) : Option DescReason :=
  if bits x 459 416 ≠ 0 || d.dir = 3 || d.kfill = 3 || d.ndim = 0 || d.ndim > 4 || (d.c6 && d.alloc ≠ 0) then plainReason 1
  else match (List.range 4).find? (fun k => d.ndim ≤ k && (d.size.getD k 0 ≠ 0 || d.stride.getD k 0 ≠ 0)) with
  | some k => some (1, false, k)
  | none => match (List.range 4).find? (fun k => (d.ndim ≤ k || d.noScales) && d.sstride.getD k 0 ≠ 0) with
    | some k => some (1, true, k)
    | none =>
      if (d.noScales && (d.sbase ≠ 0 || d.salloc ≠ 0)) || (d.c6 && d.salloc ≠ 0) then some (1, true, 0) else none

/-- Step 2 of R121. -/
def descFormat (d : Desc) : Bool :=
  d.fmtCode > 9 || (if d.fmtCode = 2 || d.fmtCode = 3 then d.tscale = 0xFF else d.tscale ≠ 0)

/-- Step 4 of R121: the packing rule of R113. -/
def descPacking (d : Desc) : Bool :=
  match d.fmt with
  | .mx4 => d.sizeOf 0 % 2 ≠ 0
  | .mx6e3m2 => d.sizeOf 0 % 4 ≠ 0
  | .mx6e2m3 => d.sizeOf 0 % 4 ≠ 0
  | _ => false

/-- The dimensions of size 2 or more: dimension, size, stride (R121). -/
def Desc.dims (d : Desc) (strides : List Int) : List (Nat × Nat × Int) :=
  ((List.range 3).map (fun k => (k + 1, d.sizeOf (k + 1), strides.getD (k + 1) 0))).filter (fun e => 2 ≤ e.2.1)

/-- Inserts a dimension by the magnitude of its stride; of equal strides the lower dimension comes first, which fixes the DIM
that R120 reports (log entry 89). -/
def insertDim (e : Nat × Nat × Int) : List (Nat × Nat × Int) → List (Nat × Nat × Int)
  | [] => [e]
  | f :: t => if e.2.2.natAbs ≤ f.2.2.natAbs then e :: f :: t else f :: insertDim e t

/-- The injectivity loop of R121 over dimensions in order of stride: each must reach past the span of those inside. -/
def injective : Nat → List (Nat × Nat × Int) → Option Nat
  | _, [] => none
  | span, e :: t =>
    if e.2.2.natAbs * 64 < span then some e.1 else injective (span + (e.2.1 - 1) * e.2.2.natAbs * 64) t

/-- The lowest and highest byte of an array (R121). -/
def arrayRange (base : Int) (rowb : Nat) (ds : List (Nat × Nat × Int)) : Int × Int :=
  ds.foldl (fun a e =>
    let reach := ((e.2.1 : Int) - 1) * e.2.2 * 64
    if reach < 0 then (a.1 + reach, a.2) else (a.1, a.2 + reach)) (base, base + (rowb : Int) - 1)

/-- The array check of R121, step 6: reason and dimension, or none when it passes. -/
def checkArray (base : Int) (rowb : Nat) (ds : List (Nat × Nat × Int)) (a : Alloc) (writes : Bool) :
    Option (Nat × Nat) :=
  match (if writes then ds.find? (fun e => e.2.2 = 0) else none) with
  | some e => some (5, e.1)
  | none =>
    let r := arrayRange base rowb ds
    if r.1 < (a.first * 2 ^ 26 : Nat) || r.2 > (((a.first + a.count) * 2 ^ 26 : Nat) : Int) - 1 then some (6, 0)
    else if !writes then none
    else (injective rowb (ds.foldr insertDim [])).map (fun k => (7, k))

/-- A box of rows: base byte, row bytes, dimensions as size and stride in bytes. -/
abbrev RowBox := Int × Nat × List (Nat × Int)

/-- The byte interval of a box. -/
def boxRange (b : RowBox) : Int × Int :=
  b.2.2.foldl (fun a e =>
    let reach := ((e.1 : Int) - 1) * e.2
    if reach < 0 then (a.1 + reach, a.2) else (a.1, a.2 + reach)) (b.1, b.1 + (b.2.1 : Int) - 1)

/-- A box cut in two along its first dimension; one row stays as it is. -/
def boxHalves (b : RowBox) : List RowBox :=
  match b.2.2 with
  | [] => [b]
  | (n, st) :: t =>
    if n ≤ 1 then [(b.1, b.2.1, t)]
    else [(b.1, b.2.1, (n / 2, st) :: t), (b.1 + (n / 2 : Nat) * st, b.2.1, (n - n / 2, st) :: t)]

/-- Whether two boxes share a byte, by halving boxes whose intervals meet until both are single rows (R121, step 7);
the depth of sizes below 2^24 in six dimensions never uses up the fuel. -/
def boxesMeet : Nat → RowBox → RowBox → Bool
  | 0, _, _ => true
  | k + 1, a, b =>
    let ra := boxRange a
    let rb := boxRange b
    if ra.2 < rb.1 || rb.2 < ra.1 then false
    else if a.2.2 = [] && b.2.2 = [] then true
    else if a.2.2 ≠ [] then (boxHalves a).any (fun x => boxesMeet k x b)
    else (boxHalves b).any (fun y => boxesMeet k a y)

/-- A box from an array's dimensions. -/
def rowBox (base : Int) (rowb : Nat) (ds : List (Nat × Nat × Int)) : RowBox :=
  (base, rowb, ds.map (fun e => (e.2.1, e.2.2 * 64)))

/-- Validation of a descriptor image for a context whose allocations are given (R121, R133): none when it passes. -/
def validateDesc (allocOf : Nat → Alloc) (x : Nat) : Option DescReason :=
  let d := descOf x
  match descReserved x d with
  | some r => some r
  | none =>
  if descFormat d then plainReason 2
  else match (List.range d.ndim).find? (fun k => d.size.getD k 0 = 0) with
  | some k => some (3, false, k)
  | none =>
    if descPacking d then plainReason 4
    else if d.c6 then none
    else if (allocOf d.alloc).count = 0 then plainReason 9
    else if d.fmt.isMx && (allocOf d.salloc).count = 0 then some (9, true, 0)
    else
      let valDims := d.dims d.stride
      let scDims := d.dims d.sstride
      match checkArray (64 * d.base : Nat) d.rowb valDims (allocOf d.alloc) d.writes with
      | some e => some (e.1, false, e.2)
      | none =>
        if !d.fmt.isMx then none
        else match checkArray (64 * d.sbase : Nat) d.srowb scDims (allocOf d.salloc) d.writes with
        | some e => some (e.1, true, e.2)
        | none =>
          if d.writes && boxesMeet 200 (rowBox (64 * d.base : Nat) d.rowb valDims) (rowBox (64 * d.sbase : Nat) d.srowb scDims)
          then plainReason 8 else none

/-- DESC_RESULT (R120). -/
def descResult (r : DescReason) (n : Nat) : Nat := r.1 * 2 ^ 28 + b2n r.2.1 * 2 ^ 27 + r.2.2 * 2 ^ 25 + n * 2 ^ 13

/-- The fault of a refused descriptor (R120). -/
def descFault (reason : Nat) : Nat := if reason = 2 then 0x3001 else 0x5008

/-- Refuses a descriptor: DESC_RESULT and the fault (R115, R120). -/
def State.refuseDesc (s : State) (ctx n : Nat) (r : DescReason) : State :=
  (s.setObj (okey (0x2800 + ctx) 4) (descResult r n)).refuse (descFault r.1) (some ctx) 0

/-- Installs a descriptor (R115). -/
def State.installDesc (s : State) (ctx n x : Nat) : State :=
  { s with descs := Tab.put ({} : DescEntry) s.descs (ctx * 4096 + n) { st := .live, image := x } }

/-- DESC_CREATE on a path: IN_USE, then validation, then installation (R115, R116, R119). -/
def descCreate (s : State) (path ctx : Nat) : State :=
  let n := s.pobj path (okey (0x2800 + ctx) 1)
  let x := s.pobj path (okey (0x2800 + ctx) 2)
  let bad := if (s.desc ctx n).st ≠ .free then plainReason 10 else validateDesc (s.alloc ctx) x
  match bad with
  | some r => (s.refuseDesc ctx n r).setObj (okey (0x2800 + ctx) 3) 3
  | none => ((s.installDesc ctx n x).setObj (okey (0x2800 + ctx) 4) (descResult (0, false, 0) n)).setObj
      (okey (0x2800 + ctx) 3) 2

/-- DESC_DESTROY of entry n: a free or pending entry is left; a live one is freed, or pending while a dispatched command
holds a copy (R117, R119). -/
def descDestroy (s : State) (ctx n : Nat) : State :=
  if (s.desc ctx n).st = .live then
    let e := s.desc ctx n
    let e' : DescEntry := if s.copyHeld ctx n then { e with st := .pending } else {}
    { s with descs := Tab.put {} s.descs (ctx * 4096 + n) e' }
  else s

/-- C6_FLUSH written with 1: busy until every command that dispatched before has completed (R136). -/
def c6Flush (s : State) (ctx : Nat) : State :=
  (s.setObj (okey (0x2800 + ctx) 9) 1).updCtx ctx (fun c => { c with c6Mark := some s.nextId })

/-- Copies n bytes of tier space to offset o of a memory, page by page; a page of the key/value area that holds nothing reads
0 (R140, R261). -/
def State.tierCopy (s : State) (a n : Nat) (m : Mem) (o : Nat) : Nat → Mem
  | 0 => m
  | k + 1 =>
    if n = 0 then m
    else
      let len := min n (4096 - a % 4096)
      let g := s.region (a / 2 ^ 26)
      let m1 :=
        if s.isKv (a / 2 ^ 26) && !(g.staged && g.pageDirty a) then m
        else match s.resolve a with
          | .landing x => s.landing.copy x len m o
          | .ddr q x => s.ddr.copy (planerAddr q x) len m o
          | .flash q x => s.flash.copy (planerAddr q x) len m o
          | .host x => s.host.copy x len m o
          | .none => m
      s.tierCopy (a + len) (n - len) m1 (o + len) k

/-- The bytes of a context's C6 translation table (R134). -/
def State.c6Table (s : State) (ctx : Nat) : Mem :=
  let n := 8 * s.obj (okey (0x2800 + ctx) 8)
  s.tierCopy (s.obj (okey (0x2800 + ctx) 7)) n {} 0 (n / 4096 + 2)

/-- C6_FLUSH_COMPLETE: reads 0 once every command that dispatched before the write has completed; changes made to the
table up to now have taken effect (R136). -/
def c6FlushComplete (s : State) (ctx : Nat) : State :=
  match (s.ctx ctx).c6Mark with
  | none => s
  | some m =>
    if s.flights.any (fun f => f.ctx = ctx && f.id < m) then s
    else (s.setObj (okey (0x2800 + ctx) 9) 0).updCtx ctx (fun c =>
      { c with c6Mark := none, c6Old := s.c6Table ctx })

/-- Reads a descriptor for a command (R117): the descriptor when live and permitted in the directions wanted. -/
def State.useDesc (s : State) (ctx n : Nat) (rd wr : Bool) : Option Desc :=
  let e := s.desc ctx n
  let d := descOf e.image
  if e.st = .live && (!rd || d.reads) && (!wr || d.writes) then some d else none

/-- The copy that a command keeps of a descriptor (R117). -/
def State.copyOf (s : State) (ctx n : Nat) : DescCopy := { num := n, image := (s.desc ctx n).image }

end Sys2Proof.Machine
end

