-- ==== Sys2Proof/Machine/MovePort.lean ====
section
/-!
DEFINITION. The core move port: WINSET, FILL and SPILL (R155 to R159), with the partial effects of a C6 fault (R135) and
of an uncorrectable access (R150).
-/

namespace Sys2Proof.Machine

/-- The coordinates of a window register (R156). -/
def CoreData.win (d : CoreData) (w : Nat) : List Int :=
  (List.range 4).map (fun k => (Tab.get 0 d.wins (4 * w + k)).toInt)

/-- Sets one coordinate of a window register. -/
def CoreData.setWin (d : CoreData) (w k : Nat) (v : Int) : CoreData :=
  { d with wins := Tab.put 0 d.wins (4 * w + k) (BitVec.ofInt 32 v) }

/-- WINSET: executed by the shell as it dispatches (R156). -/
def winset (s : State) (sh : Shell) : State :=
  s.dispatchNow sh 0x92 (fun h =>
    let w := fld h.w 77 74
    let k := if fld h.w 73 73 = 1 then 2 else 0
    .ok (s.updData h.core (fun d => (d.setWin w k (fld h.w 72 49)).setWin w (k + 1) (fld h.w 48 25))))

/-- The window that a FILL or SPILL does not accept at dispatch (R157). -/
def badWindow (d : Desc) (w : W128) (o : List Int) : Bool :=
  let rd := fld w 65 64
  o.any (· < 0) || o.getD 0 0 ≥ 2 ^ 24 || (d.ndim > 1 && rd > d.ndim - 1) || (d.ndim = 1 && rd ≠ 1)
    || 64 * fld w 59 44 + d.fmt.slotBytes > 4194304

/-- Dispatch of FILL (`wr` false) or SPILL (`wr` true): descriptor (R117), window (R157), residency (R141), a serving
slot's buffer (R255), then the origin is taken and the register advanced. -/
def State.dispatchMove (s : State) (sh : Shell) (op : Nat) (wr : Bool) : State :=
  s.dispatch sh op (fun _ => .movePort) (fun h =>
    match s.useDesc h.ctx (fld h.w 77 66) (!wr) wr with
    | none => .error (s.holdHead h 0x5008 0)
    | some d =>
      let o := (s.core h.core).data.win (fld h.w 63 60)
      if badWindow d h.w o then .error (s.holdHead h 0x500C 0)
      else
        let ps := winPieces d (fld h.w 65 64) o
        let rs := s.pieceRegions h.ctx d wr ps
        match s.notResident rs with
        | some code => .error (s.holdHead h code (accessDetail code (s.firstPiece h.ctx d wr ps)))
        | none =>
          if wr && s.piecesBusy h.ctx d ps then .error (s.holdHead h 0x5013 (s.firstPiece h.ctx d wr ps)) else
          let k := fld h.w 43 42
          let s1 := s.updData h.core (fun x =>
            x.setWin (fld h.w 63 60) k (o.getD k 0 + signExt 16 (fld h.w 41 26)))
          .ok ({ h.flight .movePort with descs := [s.copyOf h.ctx (fld h.w 77 66)], origin := o, regions := rs }, s1))

/-- The fault code of an uncorrectable access at a place (R150). -/
def Loc.uncorrCode : Loc → Nat
  | .ddr .. => 0x2002
  | .flash .. => 0x2003
  | .host _ => 0x2004
  | _ => 0x2001

/-- Counts an uncorrectable access in its tier's object (R174). -/
def State.countUncorr (s : State) (l : Loc) : State :=
  match l with
  | .landing x => s.addObj (okey (0x3500 + stackOf x) 3) 32 1
  | .ddr q _ => s.addObj (okey (0x3300 + q) 2) 32 1
  | .flash q _ => s.addObj (okey (0x3400 + q) 0x0A) 32 1
  | _ => s

/-- A step's access at a place fails beyond correction: the step does not complete and does not post, its shell reports the fault
with the tier address and holds the context (R150). -/
def State.memFaultAt (s : State) (f : Flight) (l : Loc) (a : Nat) : State :=
  let u := s.unitOf f.ctx f.owner
  (((s.countUncorr l).holdShell l.uncorrCode u f.ctx a).endFlight f)

/-- A step's access fails beyond correction where its tier address resolves (R140, R150). -/
def State.memFault (s : State) (f : Flight) (a : Nat) : State := s.memFaultAt f (s.resolve a) a

/-- A C6 access that is not permitted: the command stops, C6_FAULT_ADDR is written, the context is held (R135). -/
def State.c6Fault (s : State) (f : Flight) (va : Nat) : State :=
  let u := s.unitOf f.ctx f.owner
  (((s.setObj (okey (0x2800 + f.ctx) 0x0B) va).holdShell 0x7001 u f.ctx va).endFlight f)

/-- An access of a step is not made: C6 translation does not permit it at `va`, or its tier address fails beyond correction (R135,
R150). -/
def State.accFault (s : State) (f : Flight) (va : Nat) : Option Nat → State
  | none => s.c6Fault f va
  | some a => s.memFault f a

/-- One piece of a FILL: Landing bytes into the slot. -/
def State.fillPiece (s : State) (f : Flight) (slot a : Nat) (p : Piece) : State :=
  let bs := s.tierBytes a p.len
  (s.updData f.core (fun d => { d with pad := d.pad.writeBytes (slot + p.slot) bs })).countAccess 2 a p.len

/-- One piece of a SPILL: slot bytes into the Landing. -/
def State.spillPiece (s : State) (f : Flight) (slot a : Nat) (p : Piece) : State :=
  let bs := (s.core f.core).data.pad.readBytes (slot + p.slot) p.len
  (s.tierWriteBytes a bs).countAccess 2 a p.len

/-- The pieces of a window in order: each is translated and moved; the first that may not be made ends the command
(R135), as does the piece numbered `err` and one behind a PHY that is out of lock (R150, R361). -/
def State.movePieces (s : State) (f : Flight) (d : Desc) (wr : Bool) (slot : Nat) (err : Option Nat) :
    List Piece → State × Bool
  | [] => (s, true)
  | p :: t =>
    match s.translate f.ctx d wr p.addr with
    | none => (s.c6Fault f p.addr, false)
    | some a =>
      if err = some 0 || s.phyDown (s.resolve a) || s.phyDown (s.resolve (a + p.len - 1)) then (s.memFault f a, false)
      else (if wr then s.spillPiece f slot a p else s.fillPiece f slot a p).movePieces f d wr slot
        (err.map (· - 1)) t

/-- FILL or SPILL begins to move bytes: kerf positions of a filled slot take the fill code, then every valid byte moves
(R125 to R127, R157). `err` is the piece whose access fails beyond correction, where one does. -/
def State.startMove (s : State) (id op : Nat) (wr : Bool) (err : Option Nat) : State :=
  match s.startable id op with
  | none => s
  | some f =>
    let d := descOf (f.descs.headD { num := 0, image := 0 }).image
    let w := f.w0
    let slot := 64 * fld w 59 44
    let s1 := if wr then s else s.updData f.core (fun x =>
      { x with pad := (kerfWrites d (fld w 65 64) f.origin).foldl (fun m e => m.writeBytes (slot + e.1) e.2) x.pad })
    let r := s1.movePieces f d wr slot err (winPieces d (fld w 65 64) f.origin)
    if r.2 then
      (r.1.addObj (okey (0x8000 + f.core) (if wr then 0x0D else 0x0C)) 64 d.fmt.slotBytes).updFlight id
        (fun g => { g with phase := .done })
    else r.1

/-- Whether a dispatched command touches a region whose home is NONE. -/
def State.touchesNone (s : State) (id : Nat) : Bool :=
  match s.flight id with
  | some f => f.phase = .queued && f.regions.any (fun r => (s.region r).home = .none)
  | none => false

end Sys2Proof.Machine
end

