-- ==== Sys2Proof/Machine/Slots.lean ====
section
/-!
DEFINITION. Layer slots, update streams and granules as the Tier Map places them (R228 to R231).
-/

namespace Sys2Proof.Machine

/-- The update stream of a slot image. -/
def slotStream (x : Nat) : Nat := bits x 254 249
/-- POST_EN of a slot image. -/
def slotPostEn (x : Nat) : Bool := bit x 248
/-- POST_UNIT of a slot image. -/
def slotPostUnit (x : Nat) : Nat := bits x 247 240
/-- POST_CTR of a slot image. -/
def slotPostCtr (x : Nat) : Nat := bits x 239 232
/-- N of a slot image. -/
def slotN (x : Nat) : Nat := bits x 231 200
/-- SBq of a slot image. -/
def slotSb (x q : Nat) : Nat := bits x (20 * q + 19) (20 * q)
/-- Granules of a slot (R228). -/
def slotGrans (x : Nat) : Nat := ceilDiv (slotN x) 65536

/-- A layer slot. -/
def State.slot (s : State) (n : Nat) : Slot := Tab.get {} s.slots n

/-- Changes a layer slot. -/
def State.updSlot (s : State) (n : Nat) (f : Slot → Slot) : State := { s with slots := Tab.update {} s.slots n f }

/-- An update stream. -/
def State.ustream (s : State) (u : Nat) : UStream := Tab.get {} s.ustreams u

/-- The update stream that a slot's context installs for it; none for a slot without a stream (R231). -/
def State.streamOf (s : State) (z : Slot) : Option UStream :=
  let u := s.ustream (slotStream z.image)
  if z.owner.isSome && u.owner = z.owner then some u else none

/-- NSTATE of a stream (R232). -/
def UStream.nstate (u : UStream) : Nat := fld (u.words.headD 0) 126 125

/-- A granule's state. -/
def Slot.gran (z : Slot) (g : Nat) : GranState := Tab.get {} z.grans g

/-- APPLIED of a granule (R231). -/
def Slot.appliedStep (z : Slot) (g : Nat) : Nat := (z.gran g).applied.getD z.base

/-- The granules of a slot that are TORN, with nothing else of them (R238). -/
def Slot.tornOnly (z : Slot) : Tab GranState := (z.grans.filter (fun e => e.2.torn)).map (fun e => (e.1, { torn := true }))

/-- Changes a granule's state. -/
def State.updGran (s : State) (n g : Nat) (f : GranState → GranState) : State :=
  s.updSlot n (fun z => { z with grans := Tab.update {} z.grans g f })

/-- The pin counter of a slot's buffer (R240). -/
def Slot.pin (z : Slot) (b : Nat) : Nat := if b = 0 then z.pin0 else z.pin1

/-- Sets the pin counter of a slot's buffer. -/
def Slot.setPin (z : Slot) (b v : Nat) : Slot := if b = 0 then { z with pin0 := v } else { z with pin1 := v }

/-- The slots of a context, in ascending order. -/
def State.ownSlots (s : State) (ctx : Nat) : List (Nat × Slot) := s.slots.filter (fun e => e.2.owner = some ctx)

/-- The granules of a context's slots that have a stream, in ascending slot and granule order, with NSTATE. -/
def State.ownGrans (s : State) (ctx : Nat) : List (Nat × Slot × Nat × Nat) :=
  (s.ownSlots ctx).flatMap (fun e => match s.streamOf e.2 with
    | none => []
    | some u => (List.range (slotGrans e.2.image)).map (fun g => (e.1, e.2, g, u.nstate)))

/-- The step counter of a context on Planer q (R236). -/
def State.stepCtr (s : State) (q ctx : Nat) : Nat := s.obj (okey (0x3280 + q) (0x40 + ctx))

/-- Elements of granule g of a slot (R228). -/
def granLen (x g : Nat) : Nat := min 65536 (slotN x - 65536 * g)

/-- Tier address of a granule's state record (R228). -/
def recAddr (x nst g : Nat) : Nat := slotSb x (g % 4) * 2 ^ 26 + g / 4 * (nst * 262144)

/-- Tier address of a granule's weights for a step (R228, R239). -/
def emitAddr (x g step : Nat) : Nat := slotBuf x (step % 2) + 131072 * g

/-- The regions of a range. -/
def regionRange (first count : Nat) : List Nat := (List.range count).map (· + first)

/-- The regions from a tier address over n bytes. -/
def spanRegions (a n : Nat) : List Nat := regionRange (a / 2 ^ 26) ((a + n - 1) / 2 ^ 26 + 1 - a / 2 ^ 26)

/-- The regions that a granule's update and emission touch: its state record in its Planer's DDR and its weights in the Landing
(R228, R237). -/
def State.granRegions (s : State) (g : Granule) : List Nat :=
  let z := s.slot g.slot
  let recs := match s.streamOf z with
    | some u => spanRegions (recAddr z.image u.nstate g.gran) (u.nstate * 262144)
    | none => []
  recs ++ spanRegions (emitAddr z.image g.gran g.step) (2 * granLen z.image g.gran)

/-- Whether a granule in a receive buffer touches a region: work of a Planer port that has left it and has not ended
(R140, R164; log entry 93). -/
def State.granHolds (s : State) (r : Nat) : Bool := s.rxBuf.any (fun g => (s.granRegions g).contains r)

end Sys2Proof.Machine
end

