-- ==== Sys2Proof/Machine/Mover.lean ====
section
/-!
DEFINITION. Mover programs: MOVE (R130 to R132, R166 to R169), STAGE, EVICT and CLEAN (R160 to R165).
-/

namespace Sys2Proof.Machine

/-- Whether a unit runs mover steps: a Skidder or the host DMA engine (R155). -/
def isMover (u : Nat) : Bool := (0x80 ≤ u && u ≤ 0x87) || u = 0x94

/-- The Landing class of a mover (R171, R174): 4 for Skidders, 5 for the host DMA engine. -/
def moverClass (u : Nat) : Nat := if u = 0x94 then 5 else 4

/-- The index of a mover's objects: 3600h + c, or 3608h for the host DMA engine (R174). -/
def moverIndex (u : Nat) : Nat := if u = 0x94 then 0x3608 else 0x3600 + (u - 0x80)

/-- A step that may start: queued, opcode `op`, and every earlier step of its context on its unit has run (R29, R277). -/
def State.startableStep (s : State) (id op : Nat) : Option Flight :=
  match s.flight id with
  | none => none
  | some f =>
    let ahead := s.flights.takeWhile (fun g => g.id ≠ id)
    if f.op = op && f.phase = .queued && s.dieRuns && !s.unitDown f.owner
        && ahead.all (fun g => !(g.ctx = f.ctx && g.owner = f.owner) || g.phase = .done)
    then some f else none

/-! ### MOVE -/

/-- The fields of a MOVE (R166). -/
structure MoveBody where
  sdesc : Nat
  ddesc : Nat
  drd   : Nat
  perm  : List Nat
  cnt0  : Nat
  cntr  : Nat
  cntx  : Nat
  xd    : Nat
  so    : List Int
  dst   : List Int
  conv  : F32 × F32 × F32 × F32 × Nat
  deriving DecidableEq, Repr

/-- Four 24-bit coordinates, dimension 0 in the lowest bits (R166). -/
def coords24 (w : W128) : List Int :=
  [(fld w 23 0 : Int), (fld w 47 24 : Int), (fld w 71 48 : Int), (fld w 95 72 : Int)]

/-- Reads a MOVE (R166): S, B, LO, HI and TSCALE are the conversion. -/
def moveBody (ws : List W128) : MoveBody :=
  let w0 := ws.getD 0 0
  let w2 := ws.getD 2 0
  let w3 := ws.getD 3 0
  let p := fld w0 47 40
  { sdesc := fld w0 75 64, ddesc := fld w0 63 52, drd := fld w0 51 50
    perm := [p % 4, p / 4 % 4, p / 16 % 4, p / 64 % 4]
    cnt0 := fld w0 39 28, cntr := fld w0 27 16, cntx := fld w0 15 4, xd := fld w0 3 2
    so := coords24 (ws.getD 1 0), dst := coords24 w2
    conv := (BitVec.ofNat 32 (fld w3 127 96), BitVec.ofNat 32 (fld w3 95 64), BitVec.ofNat 32 (fld w3 31 0),
      BitVec.ofNat 32 (fld w3 63 32), fld w2 103 96) }

/-- Whether a MOVE converts: it permutes dimension 0 or changes the format code; between two descriptors of one FP8 code it is a
byte copy, whatever their TSCALE (R131; log entry 90). -/
def moveConverts (b : MoveBody) (sd dd : Desc) : Bool := b.perm.getD 0 0 ≠ 0 || sd.fmt ≠ dd.fmt

/-- The origins of the destination windows in the order of R168. -/
def moveWindows (b : MoveBody) : List (List Int) :=
  (List.range b.cntx).flatMap (fun (k : Nat) => (List.range b.cntr).flatMap (fun (j : Nat) => (List.range b.cnt0).map (fun (i : Nat) =>
    (List.range 4).map (fun (d : Nat) => b.dst.getD d 0 + (if d = 0 then 64 * (i : Int) else 0)
      + (if d = b.drd then 64 * (j : Int) else 0) + (if d = b.xd && d ≠ 0 && d ≠ b.drd then (k : Int) else 0)))))

/-- The source element of a destination element: x at π(d) is SO at π(d) plus the distance of y from DO (R168). -/
def moveSource (b : MoveBody) (y : List Int) : List Int :=
  (List.range 4).map (fun e =>
    match (List.range 4).find? (fun d => b.perm.getD d 0 = e) with
    | some d => b.so.getD e 0 + (y.getD d 0 - b.dst.getD d 0)
    | none => b.so.getD e 0)

/-- The descriptor-space bytes of an element's code (R49, R111). -/
def Desc.elemBytes (d : Desc) (x : List Int) : List Nat :=
  let o := x.getD 0 0 * d.fmt.width
  let a := d.rowAddr x + o / 8
  (List.range (((o % 8).toNat + d.fmt.width + 7) / 8)).map (fun (k : Nat) => (a + k).toNat)

/-- The code of a source element read through `rd`; a kerf position gives the fill code (R125, R168). -/
def Desc.codeAt (d : Desc) (rd : Nat → Nat) (x : List Int) : Nat :=
  if d.valid x then
    (leNat ((d.elemBytes x).map rd) >>> ((x.getD 0 0 * d.fmt.width) % 8).toNat) % 2 ^ d.fmt.width
  else kerfCode d.fmt d.kfill

/-- Whether the block of a position holds a valid element (R125). -/
def Desc.blockValid (d : Desc) (x : List Int) : Bool := d.valid (x.set 0 (x.getD 0 0 / 32 * 32))

/-- The scale code of a source element's block, of its tensor, or 7Fh where the format has none (R50, R51, R125). -/
def Desc.scaleAt (d : Desc) (rd : Nat → Nat) (x : List Int) : Nat :=
  if d.fmt.isMx then (if d.blockValid x then rd (d.scaleAddr x).toNat else kerfScale d.kfill)
  else if d.fmt.isFp8 then d.tscale else 0x7F

/-- The exact value of a source element. -/
def Desc.valAt (d : Desc) (rd : Nat → Nat) (x : List Int) : Val :=
  scaleBy (d.scaleAt rd x) (decodeElem d.fmt (d.codeAt rd x))

/-- The bytes and scale bytes that a MOVE writes for one destination row with `nv` valid columns, and the status where
it converts (R126, R131, R132, R168). -/
def moveRow (b : MoveBody) (sd dd : Desc) (rd : Nat → Nat) (r nv : Nat) (o : List Int) : SlotImage :=
  let src := fun c => moveSource b (winPos b.drd o r c)
  if moveConverts b sd dd then
    let p : ConvParams := { s := b.conv.1, b := b.conv.2.1, lo := b.conv.2.2.1, hi := b.conv.2.2.2.1, fmt := dd.fmt
                            tscale := b.conv.2.2.2.2 }
    let xs := (List.range nv).map (fun c => (64 * r + c, sd.valAt rd (src c)))
    if dd.fmt.isMx then
      let b0 := convert p (xs.take 32)
      let b1 := convert p (xs.drop 32)
      (packCodes dd.fmt (b0.1 ++ b1.1), if nv ≤ 32 then [b0.2.1] else [b0.2.1, b1.2.1], b0.2.2.merge b1.2.2)
    else
      let c := convert p xs
      (packCodes dd.fmt c.1, [], c.2.2)
  else
    (packCodes dd.fmt ((List.range nv).map (fun c => sd.codeAt rd (src c))),
      if dd.fmt.isMx then ((List.range 2).filter (fun h => 32 * h < nv)).map (fun h => sd.scaleAt rd (src (32 * h)))
      else [], {})

/-- Writes bytes at descriptor-space addresses from `a` up. -/
def State.descWrite (s : State) (ctx : Nat) (d : Desc) (a : Nat) (bs : List Nat) : State :=
  (bs.mapIdx (fun k b => (a + k, b))).foldl (fun t e =>
    match t.translate ctx d true e.1 with
    | some x => t.tierWrite x e.2
    | none => t) s

/-- The source bytes of a column of a row, its element's and its block's scale; a kerf position is not read (R125, R168). -/
def moveSrcBytes (b : MoveBody) (sd : Desc) (o : List Int) (r c : Nat) : List Nat :=
  let x := moveSource b (winPos b.drd o r c)
  if sd.valid x then sd.elemBytes x ++ (if sd.fmt.isMx then [(sd.scaleAddr x).toNat] else []) else []

/-- The destination bytes of a column of a row, its element's and its block's scale (R126). -/
def moveDstBytes (b : MoveBody) (dd : Desc) (o : List Int) (r c : Nat) : List Nat :=
  let y := winPos b.drd o r c
  dd.elemBytes y ++ (if dd.fmt.isMx then [(dd.scaleAddr y).toNat] else [])

/-- The descriptor-space addresses that one row of a MOVE reads and writes. -/
def moveRowAddrs (b : MoveBody) (sd dd : Desc) (r nv : Nat) (o : List Int) : List Nat × List Nat :=
  ((List.range nv).flatMap (moveSrcBytes b sd o r), (List.range nv).flatMap (moveDstBytes b dd o r))

/-- One byte that a row of a MOVE accesses: the column that it serves, whether it is written, its address in its descriptor's
space. -/
structure MoveAcc where
  col   : Nat
  write : Bool
  addr  : Nat
  deriving DecidableEq, Repr

/-- The bytes that a row of a MOVE accesses, in element order, an element's source before its destination (R135). -/
def moveRowAccs (b : MoveBody) (sd dd : Desc) (r nv : Nat) (o : List Int) : List MoveAcc :=
  (List.range nv).flatMap (fun c => (moveSrcBytes b sd o r c).map (MoveAcc.mk c false) ++
    (moveDstBytes b dd o r c).map (MoveAcc.mk c true))

/-- Whether two bytes belong to one 64-B access. -/
def MoveAcc.same (e f : MoveAcc) : Bool := e.write = f.write && e.addr / 64 = f.addr / 64

/-- The 64-B accesses of a row in order, each by its first byte (R135). -/
def moveUnits (l : List MoveAcc) : List MoveAcc := l.foldl (fun acc e => if acc.any e.same then acc else acc ++ [e]) []

/-- The tier address of an access, none where C6 translation does not permit it (R135). -/
def State.accAddr (s : State) (ctx : Nat) (sd dd : Desc) (e : MoveAcc) : Option Nat :=
  s.translate ctx (if e.write then dd else sd) e.write e.addr

/-- The first access of a row that is not made: one that C6 does not permit, the one numbered `err`, which fails beyond correction,
or one behind a PHY that is out of lock; with whether it is of the first kind (R135, R150, R361). -/
def State.rowStop (s : State) (ctx : Nat) (sd dd : Desc) (us : List MoveAcc) (err : Option Nat) : Option (MoveAcc × Bool) :=
  (us.mapIdx (fun k e => (k, e))).findSome? (fun p =>
    match s.accAddr ctx sd dd p.2 with
    | none => some (p.2, true)
    | some a => if err = some p.1 || s.phyDown (s.resolve a) then some (p.2, false) else none)

/-- The columns of a row that are written when the access of column c fails: those before it, as whole bytes, and as whole blocks
where the step forms their scales (R55, R135; log entry 16). -/
def moveCut (b : MoveBody) (sd dd : Desc) (c : Nat) : Nat :=
  if moveConverts b sd dd && dd.fmt.isMx then c / 32 * 32
  else if dd.fmt.width = 4 then c / 2 * 2
  else if dd.fmt.width = 6 then c / 4 * 4
  else c

/-- How far a MOVE has come: windows with the rows made and their status, and 16 KiB flash units programmed, as Planer and unit. -/
structure MoveProg where
  wins  : List (List Int × Nat × Stat) := []
  units : List (Nat × Nat) := []
  deriving DecidableEq, Repr

/-- Adds a row's status to its window. -/
def MoveProg.note (g : MoveProg) (o : List Int) (st : Stat) : MoveProg :=
  match g.wins.find? (fun e => e.1 = o) with
  | some e => { g with wins := (o, e.2.1 + 1, e.2.2.merge st) :: g.wins.filter (fun x => x.1 ≠ o) }
  | none => { g with wins := (o, 1, st) :: g.wins }

/-- Counts one access of n bytes of a MOVE: the tiers' bytes, and for flash the read, or the bytes written and a 16 KiB unit
programmed at the step's first write of it (R146, R147, R174; log entry 92). -/
def State.countMove (s : State) (cls : Nat) (g : MoveProg) (write : Bool) (a n : Nat) : State × MoveProg :=
  let s1 := s.countAccess cls a n
  match s.resolve a with
  | .flash q x =>
    if !write then (s1.readUnit q x, g) else
    let s2 := s1.addObj (okey (0x3400 + q) 2) 64 n
    if g.units.contains (q, x / 16384) then (s2, g)
    else (s2.addObj (okey (0x3400 + q) 3) 64 16384, { g with units := (q, x / 16384) :: g.units })
  | _ => (s1, g)

/-- Counts the accesses of a row, each byte of a 64-B access once. -/
def State.countRow (s : State) (f : Flight) (sd dd : Desc) (g : MoveProg) (accs : List MoveAcc) : State × MoveProg :=
  (moveUnits accs).foldl (fun t e =>
    match t.1.accAddr f.ctx sd dd e with
    | some x => t.1.countMove (moverClass f.owner) t.2 e.write x ((accs.filter e.same).map (fun y => y.addr)).eraseDups.length
    | none => t) (s, g)

/-- Moves the first n columns of a row: bytes, scale bytes, counts; with the status of its conversion (R126, R131, R168). -/
def State.moveCols (s : State) (f : Flight) (b : MoveBody) (sd dd : Desc) (g : MoveProg) (o : List Int) (r n : Nat) :
    State × MoveProg × Stat :=
  let rd := fun a => match s.translate f.ctx sd false a with | some x => s.tierRead x | none => 0
  let row := moveRow b sd dd rd r n o
  let x := winPos b.drd o r 0
  let c := s.countRow f sd dd g (moveRowAccs b sd dd r n o)
  let s1 := c.1.descWrite f.ctx dd (dd.rowAddr x + x.getD 0 0 * dd.fmt.width / 8).toNat row.1
  let s2 := if dd.fmt.isMx && n ≠ 0 then s1.descWrite f.ctx dd (dd.scaleAddr x).toNat row.2.1 else s1
  let read := ((List.range n).filter (fun k => sd.valid (moveSource b (winPos b.drd o r k)))).length
  (s2.addObj (okey (moverIndex f.owner) 5) 64 (read * sd.fmt.width / 8), c.2, row.2.2)

/-- Moves the rows of a MOVE in order. The first access that is not made stops the step: the columns before it are written, the
shell reports C6_PROT or the tier's error, and the context is held (R135, R150). The answer tells whether the step has run to its
end, and what it has made. -/
def State.moveRows (s : State) (f : Flight) (b : MoveBody) (sd dd : Desc) (err : Option Nat) (g : MoveProg) :
    List (List Int × Nat) → State × Bool × MoveProg
  | [] => (s, true, g)
  | (o, r) :: t =>
    let nv := dd.rowValid b.drd o r
    let us := moveUnits (moveRowAccs b sd dd r nv o)
    match s.rowStop f.ctx sd dd us err with
    | some (e, c6) =>
      let p := s.moveCols f b sd dd g o r (moveCut b sd dd e.col)
      (if c6 then p.1.c6Fault f e.addr else p.1.memFault f ((s.accAddr f.ctx sd dd e).getD 0), false, p.2.1)
    | none =>
      let p := s.moveCols f b sd dd g o r nv
      p.1.moveRows f b sd dd (err.map (· - us.length)) (p.2.1.note o p.2.2) t

/-- The linear element order of positions whose coordinates stay below 2^26 (R137). -/
def linKey (x : List Int) : Int := x.getD 0 0 + 2 ^ 26 * (x.getD 1 0 + 2 ^ 26 * (x.getD 2 0 + 2 ^ 26 * x.getD 3 0))

/-- Inserts a row by the linear order of its first destination element. -/
def insertRow (drd : Nat) (e : List Int × Nat) : List (List Int × Nat) → List (List Int × Nat)
  | [] => [e]
  | f :: t =>
    if linKey (winPos drd e.1 e.2 0) ≤ linKey (winPos drd f.1 f.2 0) then e :: f :: t else f :: insertRow drd e t

/-- The rows of a MOVE in the order in which it makes them: window after window (R168); in ascending linear element order of the
destination where a side is in C6 mode (R137). -/
def moveOrder (b : MoveBody) (sd dd : Desc) : List (List Int × Nat) :=
  let rows := (moveWindows b).flatMap (fun o => (List.range 64).map (fun r => (o, r)))
  if sd.c6 || dd.c6 then rows.foldr (insertRow b.drd) [] else rows

/-- The statuses of the windows that a converting MOVE has made whole go to the Scaler, in the order of R168 (R132). -/
def State.moveStats (s : State) (f : Flight) (b : MoveBody) (g : MoveProg) : State :=
  { s with scalerQ := s.scalerQ ++ ((moveWindows b).mapIdx (fun k o => (k, g.wins.find? (fun e => e.1 = o)))).filterMap (fun e =>
      match e.2 with
      | some (_, 64, st) => some { ctx := f.ctx, kind := 1, source := f.owner, item := e.1, stat := st, ovf := false, ovfPos := 0 }
      | _ => none) }

/-- Every row of a MOVE, and the statuses where it converts. -/
def State.moveAll (s : State) (f : Flight) (b : MoveBody) (sd dd : Desc) (err : Option Nat) : State × Bool :=
  let r := s.moveRows f b sd dd err {} (moveOrder b sd dd)
  (if moveConverts b sd dd then r.1.moveStats f b r.2.2 else r.1, r.2.1)

/-- The bytes in descriptor space that one side of a MOVE touches. -/
def moveTouched (b : MoveBody) (sd dd : Desc) (dest : Bool) : List Nat :=
  (moveWindows b).flatMap (fun o => (List.range 64).flatMap (fun r =>
    let as := moveRowAddrs b sd dd r (dd.rowValid b.drd o r) o
    if dest then as.2 else as.1))

/-- The regions that one side of a MOVE touches. -/
def State.moveRegions (s : State) (ctx : Nat) (b : MoveBody) (sd dd : Desc) (dest : Bool) : List Nat :=
  ((moveTouched b sd dd dest).filterMap (fun a =>
    (s.translate ctx (if dest then dd else sd) dest a).map (· / 2 ^ 26))).eraseDups

/-- Whether a write to a region goes to host memory (R173). -/
def Region.toHost (g : Region) : Bool := g.home = .host && !g.staged

/-- Whether a Planer's spare blocks keep its flash from being written: below 0.25 % of raw, which is 2 per mille
(R148, R174). -/
def State.flashReadonly (s : State) (q : Nat) : Bool := s.obj (okey (0x3400 + q) 7) ≤ 2

/-- Whether every region of a list counts as Landing: it resolves there, or lies in the key/value area (R130, R168, R261). -/
def State.allNear (s : State) (rs : List Nat) : Bool := rs.all (fun r => (s.region r).inLanding || s.isKv r)

/-- Whether a MOVE names a permutation or a format change without going from DDR, flash or host memory into the Landing
(R130). -/
def State.misplaced (s : State) (b : MoveBody) (sd dd : Desc) (src dst : List Nat) : Bool :=
  (b.perm ≠ [0, 1, 2, 3] || sd.fmt ≠ dd.fmt)
    && !(s.allNear dst && src.all (fun r => !((s.region r).inLanding || s.isKv r)))

/-- Whether the sizes of a MOVE's descriptors do not match under its permutation (R130). -/
def moveSizesBad (b : MoveBody) (sd dd : Desc) : Bool :=
  (List.range 4).any (fun d => dd.sizeOf d ≠ sd.sizeOf (b.perm.getD d 0))

/-- Whether a copy carries a W3 that changes something (R167). -/
def copyW3Bad (b : MoveBody) (sd dd : Desc) : Bool :=
  !moveConverts b sd dd && (b.conv.1 ≠ 0x3F800000 || b.conv.2.1 ≠ 0 || b.conv.2.2.1 ≠ 0xFF800000 || b.conv.2.2.2.1 ≠ 0x7F800000)

/-- The fault that keeps a MOVE from dispatching (R130, R141, R148, R167, R168, R173), LOST regions first. The descriptors may have
been created after the plan, so what R130 and R167 ask of them is asked here again (log entry 51). The key/value area never faults (R261). -/
def State.moveFault (s : State) (h : Head) (b : MoveBody) (sd dd : Desc) (src dst : List Nat) : Option Nat :=
  let lost := (src ++ dst).any (fun r => (s.region r).lost && !s.isKv r)
  let leaving := (src ++ dst).any (fun r => (s.region r).busy = .evict)
  if lost then some 0x2005
  else if moveSizesBad b sd dd then some 0x5001
  else if copyW3Bad b sd dd || (dd.fmt.isFp8 && b.conv.2.2.2.2 ≠ dd.tscale) then some 0x3001
  else if s.misplaced b sd dd src dst then some 0x5001
  else if leaving || (!s.allNear src && !s.allNear dst) then some 0x500A
  else if imgActMode (s.ctx h.ctx).image ≠ 0 && dst.any (fun r => (s.region r).toHost) then some 0x5001
  else if dst.any (fun r => let g := s.region r; g.home = .flash && !g.staged && s.flashReadonly g.planer) then
    some 0x2007
  else none

/-- Whether a MOVE writes a serving slot's buffer that is not FILLING (R255). -/
def State.moveBusy (s : State) (ctx : Nat) (b : MoveBody) (sd dd : Desc) : Bool :=
  s.serving ≠ [] && (moveWindows b).any (fun o => (List.range 64).any (fun r =>
    (moveRowAddrs b sd dd r (dd.rowValid b.drd o r) o).2.any (fun a => match s.translate ctx dd true a with
      | some x => s.weightBusy x 1
      | none => false)))

/-- The tier address of the first byte that a MOVE reads, or writes. -/
def State.moveFirst (s : State) (ctx : Nat) (b : MoveBody) (sd dd : Desc) (dest : Bool) : Nat :=
  let as := moveRowAddrs b sd dd 0 (dd.rowValid b.drd ((moveWindows b).headD []) 0) ((moveWindows b).headD [])
  let a := (if dest then as.2 else as.1).headD 0
  (s.translate ctx (if dest then dd else sd) dest a).getD a

/-- Dispatch of a MOVE on a Skidder or the host DMA engine. -/
def State.dispatchMover (s : State) (sh : Shell) : State :=
  s.dispatch sh 0x98 (fun _ => .unit) (fun h =>
    let b := moveBody h.words
    match s.useDesc h.ctx b.sdesc true false, s.useDesc h.ctx b.ddesc false true with
    | some sd, some dd =>
      let src := s.moveRegions h.ctx b sd dd false
      let dst := s.moveRegions h.ctx b sd dd true
      match s.moveFault h b sd dd src dst with
      | some code => .error (s.holdHead h code (accessDetail code (s.moveFirst h.ctx b sd dd false)))
      | none =>
        if s.moveBusy h.ctx b sd dd then .error (s.holdHead h 0x5013 (s.moveFirst h.ctx b sd dd true)) else
        .ok ({ h.flight .unit with
          descs := [s.copyOf h.ctx b.sdesc, s.copyOf h.ctx b.ddesc], regions := (src ++ dst).eraseDups }, s)
    | _, _ => .error (s.holdHead h 0x5008 0))

/-- MOVE runs: every destination byte is written, or the step stops part-way (R135, R150, R168). `err` is the 64-B access, in the
order of the step's accesses, that fails beyond correction, where one does. A read of a Landing that is being reset gets no answer
(R322). -/
def State.runMove (s : State) (id : Nat) (err : Option Nat) : State :=
  match s.startableStep id 0x98 with
  | none => s
  | some f =>
    if f.regions.any (fun r => let g := s.region r; !g.staged && !s.isKv r && !s.homeUp g) then s else
    let b := moveBody f.words
    let sd := descOf (f.descs.getD 0 { num := 0, image := 0 }).image
    let dd := descOf (f.descs.getD 1 { num := 0, image := 0 }).image
    if s.unitDown landingUnit && (s.moveRegions f.ctx b sd dd false).any (fun r => (s.region r).inLanding) then s else
    let r := s.moveAll f b sd dd err
    if r.2 then r.1.updFlight id (fun g => { g with phase := .done }) else r.1

/-! ### STAGE, EVICT, CLEAN -/

/-- REGION of a staging step (R161). -/
def stepRegion (w : W128) : Nat := fld w 75 56

/-- FRAME of a STAGE (R161). -/
def stepFrame (w : W128) : Nat := fld w 55 43

/-- The state of a Landing frame (R143). -/
def State.frame (s : State) (f : Nat) : FrameUse := Tab.get .free s.frames f

/-- Sets the state of a Landing frame. -/
def State.setFrame (s : State) (f : Nat) (u : FrameUse) : State :=
  { s with frames := Tab.put .free s.frames f u }

/-- What keeps a staging step from dispatching before its own conflict rule: ownership (R153), LOST (R141), the activity
mode for a write-back to host memory (R173), flash that may not be written (R148), the key/value area (R250). -/
def State.stageFault (s : State) (h : Head) (writesBack : Bool) : Option Nat :=
  let g := s.region (stepRegion h.w)
  if !g.ownedBy h.ctx then some 0x7002
  else if g.lost then some 0x2005
  else if s.isKv (stepRegion h.w) then some 0x500B
  else if writesBack && g.home = .host && imgActMode (s.ctx h.ctx).image ≠ 0 then some 0x5001
  else if writesBack && g.home = .flash && s.flashReadonly g.planer then some 0x2007
  else none

/-- A staging step as it enters its queue. -/
def stageFlight (h : Head) : Flight := { h.flight .unit with regions := [stepRegion h.w] }

/-- Dispatch of STAGE: BUSY, the frame reserved (R162). -/
def State.dispatchStage (s : State) (sh : Shell) : State :=
  s.dispatch sh 0x99 (fun _ => .unit) (fun h =>
    let r := stepRegion h.w
    let g := s.region r
    match s.stageFault h false with
    | some code => .error (s.holdHead h code (accessDetail code (r * 2 ^ 26)))
    | none =>
      if g.staged || g.busy ≠ .idle || g.home = .none || g.home = .landing
          || s.frame (stepFrame h.w) ≠ .pool h.ctx false then .error (s.holdHead h 0x500B 0)
      else .ok (stageFlight h, (s.updRegion r (fun x => { x with busy := .stage })).setFrame (stepFrame h.w)
        (.pool h.ctx true)))

/-- Dispatch of EVICT or CLEAN: staged and not BUSY, else a conflict (R164, R165). -/
def State.dispatchBack (s : State) (sh : Shell) (op : Nat) (busy : BusyBy) : State :=
  s.dispatch sh op (fun _ => .unit) (fun h =>
    let r := stepRegion h.w
    let g := s.region r
    match s.stageFault h true with
    | some code => .error (s.holdHead h code (accessDetail code (r * 2 ^ 26)))
    | none =>
      if !g.staged || g.busy ≠ .idle then .error (s.holdHead h 0x500B 0)
      else .ok (stageFlight h, s.updRegion r (fun x => { x with busy := busy })))

/-- Copies n bytes from the home of a region at an offset into its frame. -/
def State.copyIn (s : State) (g : Region) (frame o n : Nat) : State :=
  let d := frame * 2 ^ 26 + o
  { s with landing := match s.homeLoc g o with
    | .ddr q a => s.ddr.copy (planerAddr q a) n s.landing d
    | .flash q a => s.flash.copy (planerAddr q a) n s.landing d
    | .host a => s.host.copy a n s.landing d
    | .landing a => s.landing.copy a n s.landing d
    | .none => s.landing }

/-- Copies n bytes of a region's frame at an offset to its home; flash counts the bytes written (R164, R174). -/
def State.copyBack (s : State) (g : Region) (o n : Nat) : State :=
  let d := g.frame * 2 ^ 26 + o
  match s.homeLoc g o with
  | .ddr q a => { s with ddr := s.landing.copy d n s.ddr (planerAddr q a) }
  | .flash q a =>
    ((({ s with flash := s.landing.copy d n s.flash (planerAddr q a) } : State).addObj (okey (0x3400 + q) 2) 64
      n).addObj (okey (0x3400 + q) 3) 64 n)
  | .host a => { s with host := s.landing.copy d n s.host a }
  | _ => s

/-- The write-back units of a region's dirty pages as offsets and lengths: pages, or 16 KiB flash units (R164). -/
def dirtyUnits (g : Region) : List (Nat × Nat) :=
  let ps := (g.pages.filter (fun e => e.2)).map (fun e => e.1)
  if g.home = .flash then ((ps.map (· / 4)).eraseDups).map (fun u => (16384 * u, 16384))
  else ps.map (fun p => (4096 * p, 4096))

/-- Bytes of a list of units. -/
def unitBytes (us : List (Nat × Nat)) : Nat := (us.map (fun e => e.2)).foldl (· + ·) 0

/-- The units, whole or in part, that a write-back has written when its access at an offset fails; a flash unit is written whole
or not at all (R147, R150). -/
def unitsUpTo (g : Region) (o : Nat) : List (Nat × Nat) :=
  (dirtyUnits g).filterMap (fun e =>
    if e.1 + e.2 ≤ o then some e else if o ≤ e.1 || g.home = .flash then none else some (e.1, o - e.1))

/-- The offset of the access at which a write-back fails, none where the operand names no access of it; bit 26 of the operand
tells that the home and not the copy failed. -/
def backErr (g : Region) (err : Option Nat) : Option Nat :=
  match err with
  | some e =>
    let o := e % 2 ^ 26 / 64 * 64
    if (dirtyUnits g).any (fun u => u.1 ≤ o && o < u.1 + u.2) then some o else none
  | none => none

/-- Writes units of a region back to its home, with the bytes that the mover and the tiers count (R164, R174). -/
def State.writeUnits (s : State) (u r : Nat) (us : List (Nat × Nat)) : State :=
  let g := s.region r
  us.foldl (fun t e => ((t.copyBack g e.1 e.2).countRange (moverClass u) (r * 2 ^ 26 + e.1) e.2 10).countHome g e.2)
    (s.addObj (okey (moverIndex u) 5) 64 (unitBytes us))

/-- Writes the dirty units of a region back to its home. -/
def State.writeBack (s : State) (u r : Nat) : State := s.writeUnits u r (dirtyUnits (s.region r))

/-- The place that failed in a write-back: one behind a PHY that is out of lock (R361), else the frame, or host memory where the
operand says the home; a home that is written in another tier does not fail (R150). -/
def State.backPlace (s : State) (r : Nat) (err : Option Nat) (o : Nat) : Loc :=
  let g := s.region r
  let copy := Loc.landing (g.frame * 2 ^ 26 + o)
  if !s.phyDown copy && (s.phyDown (s.homeLoc g o) || (2 ^ 26 ≤ err.getD 0 && g.home = .host)) then s.homeLoc g o else copy

/-- The first 2 KiB unit of a list of ranges in which a region's home or a frame is behind a PHY that is out of lock (R144,
R361). -/
def State.copyStop (s : State) (g : Region) (frame : Nat) (us : List (Nat × Nat)) : Option Nat :=
  if !s.physDown then none
  else (us.flatMap (fun u => (List.range (u.2 / 2048)).map (fun k => u.1 + 2048 * k))).find? (fun o =>
    s.phyDown (s.homeLoc g o) || s.phyDown (.landing (frame * 2 ^ 26 + o)))

/-- The offset at which a write-back of a region's dirty pages fails, where it does (R150, R361). -/
def State.backStop (s : State) (g : Region) (err : Option Nat) : Option Nat :=
  (backErr g err).or (s.copyStop g g.frame (dirtyUnits g))

/-- A write-back fails at an offset: what came before it stands, the region is no longer BUSY and stays staged, the step ends
without a post (R150; log entry 18). -/
def State.backFails (s : State) (f : Flight) (g : Region) (err : Option Nat) (o : Nat) (pages : Tab Bool) : State :=
  let r := stepRegion f.w0
  let l := s.backPlace r err o
  (((s.writeUnits f.owner r (unitsUpTo g o)).updRegion r (fun g =>
    { g with pages := pages, dirty := pages.any (fun e => e.2), busy := .idle })).memFaultAt f l (r * 2 ^ 26 + o))

/-- STAGE begins to copy. -/
def State.startStage (s : State) (id : Nat) : State :=
  match s.startableStep id 0x99 with
  | none => s
  | some f => s.updFlight f.id (fun g => { g with phase := .running })

/-- EVICT begins: it waits for earlier accesses to drain (R164). -/
def State.startEvict (s : State) (id : Nat) : State :=
  match s.startableStep id 0x9A with
  | none => s
  | some f => s.updFlight f.id (fun g => { g with phase := .running })

/-- CLEAN begins: the dirty bit of every page that it will copy is cleared; a later write sets it again (R165; log entry 17). -/
def State.startClean (s : State) (id : Nat) : State :=
  match s.startableStep id 0x9B with
  | none => s
  | some f =>
    let r := stepRegion f.w0
    let ps := ((s.region r).pages.filter (fun e => e.2)).map (fun e => e.1)
    (s.updRegion r (fun x => { x with pages := [] })).updFlight id (fun x => { x with phase := .running, pages := ps })

/-- A running staging step of an opcode, whose home can be reached (R190). -/
def State.runningStep (s : State) (id op : Nat) (ph : Phase) : Option Flight :=
  match s.flight id with
  | none => none
  | some f =>
    if f.op = op && f.phase = ph && s.dieRuns && !s.unitDown f.owner && s.homeUp (s.region (stepRegion f.w0))
    then some f else none

/-- Counts the reads of the flash units of a region's home (R146). -/
def State.readHome (s : State) (g : Region) : State :=
  if g.home = .flash then
    (List.range 4096).foldl (fun t k => t.readUnit g.planer (g.homeFrame * 2 ^ 26 + 16384 * k)) s
  else s

/-- STAGE_COMPLETE: the copy ends, the region is STAGED and clean (R162); a granule that a Planer is applying in the home has
ended before (R140; log entry 93). `err` is the tier offset of an access that failed beyond correction: the step ends without a
post and the frame is the pool's again (R150, log entry 18). -/
def stageComplete (s : State) (id : Nat) (err : Option Nat) : State :=
  match s.runningStep id 0x99 .running with
  | none => s
  | some f =>
    let r := stepRegion f.w0
    let fr := stepFrame f.w0
    let g := s.region r
    if s.granHolds r then s
    else match err.or (s.copyStop g fr [(0, 2 ^ 26)]) with
    | some x =>
      let o := x % 2 ^ 26
      let copy := Loc.landing (fr * 2 ^ 26 + o)
      ((s.updRegion r (fun g => { g with busy := .idle })).setFrame fr (.pool f.ctx false)).memFaultAt f
        (if s.phyDown copy then copy else s.homeLoc g o) (r * 2 ^ 26 + o)
    | none =>
      let s1 := s.copyIn g fr 0 (2 ^ 26)
      let s2 := s1.updRegion r (fun g =>
        { g with staged := true, frame := fr, pages := [], dirty := false, busy := .idle })
      let s3 := (s2.setFrame fr (.staged f.ctx r)).addObj (okey (moverIndex f.owner) 5) 64 (2 ^ 26)
      (((s3.countFrame (moverClass f.owner)).countHome g (2 ^ 26)).readHome g).complete f

/-- EVICT_DRAIN_END: every command and step dispatched before that touches the region has completed or been ended, and so has
every granule of a Planer port that touches it (R164; log entry 93). -/
def evictDrainEnd (s : State) (id : Nat) : State :=
  match s.runningStep id 0x9A .running with
  | none => s
  | some f =>
    let ahead := s.flights.takeWhile (fun g => g.id ≠ id)
    let r := stepRegion f.w0
    if ahead.any (fun g => g.regions.contains r) || s.granHolds r then s
    else s.updFlight id (fun g => { g with phase := .drained })

/-- EVICT_COMPLETE: the write-back ends, the region is unstaged, its frame returns to the pool (R164); a region that a DISCARD has
unstaged meanwhile has nothing to write and no frame to return (R151). With `err` an access fails (R150). -/
def evictComplete (s : State) (id : Nat) (err : Option Nat) : State :=
  match s.runningStep id 0x9A .drained with
  | none => s
  | some f =>
    let r := stepRegion f.w0
    let g := s.region r
    if !g.staged then (s.updRegion r (fun x => { x with busy := .idle })).complete f
    else match s.backStop g err with
    | some o => s.backFails f g err o g.pages
    | none =>
      let s1 := (s.writeBack f.owner r).updRegion r (fun x =>
        { x with staged := false, frame := 0, pages := [], dirty := false, busy := .idle })
      (s1.setFrame g.frame (.pool f.ctx false)).complete f

/-- The region of a CLEAN with the pages that it copies, and no other, as its dirty ones. -/
def Region.toClean (g : Region) (f : Flight) : Region := { g with pages := f.pages.map (fun p => (p, true)) }

/-- The dirty pages after a CLEAN that fails at an offset: those written meanwhile, and those whose first byte it has not read (R150,
R165). -/
def Region.notClean (g : Region) (f : Flight) (o : Nat) : Tab Bool :=
  (f.pages.filter (fun p => o ≤ 4096 * p)).foldl (fun t p => Tab.put false t p true) g.pages

/-- CLEAN_COMPLETE: the pages are copied to the home, DIRTY is recomputed, the post is issued (R165; log entry 17); a region that a
DISCARD has unstaged meanwhile has nothing to copy (R151). With `err` an access fails (R150). -/
def cleanComplete (s : State) (id : Nat) (err : Option Nat) : State :=
  match s.runningStep id 0x9B .running with
  | none => s
  | some f =>
    let r := stepRegion f.w0
    let g := s.region r
    let c := g.toClean f
    if !g.staged then (s.updRegion r (fun x => { x with busy := .idle })).complete f
    else match s.backStop c err with
    | some o => s.backFails f c err o (g.notClean f o)
    | none => ((s.writeUnits f.owner r (dirtyUnits c)).updRegion r (fun x =>
        { x with dirty := x.pages.any (fun e => e.2), busy := .idle })).complete f

end Sys2Proof.Machine
end

