-- ==== Sys2Proof/Machine/TierCmd.lean ====
section
/-!
DEFINITION. The commands of the tier objects: REGION_CMD (R151), ALLOC_CMD (R152), FRAME_CMD (R154), host windows
(R149), and the background work of flash and DDR (R145 to R148, R174).
-/

namespace Sys2Proof.Machine

/-- TIER_RESULT: REASON, SOURCE, WHICH, CTX (R174). -/
def tierResult (reason source which ctx : Nat) : Nat :=
  reason * 2 ^ 28 + source * 2 ^ 26 + which % 2 ^ 20 * 2 ^ 6 + ctx % 64

/-- Ends a result-bearing tier CMD: 2 done or 3 refused, with TIER_RESULT (R174). -/
def State.tierEnd (s : State) (cmd reason source which ctx : Nat) : State :=
  (s.setObj cmd (if reason = 0 then 2 else 3)).setObj (okey 0x3010 6) (tierResult reason source which ctx)

/-- TMAP_SEL of a path. -/
def State.tmapSel (s : State) (path : Nat) : Nat := s.pobj path (okey 0x3010 1)

/-- A REGION_ARG's home, or none for NONE and the reserved codes (R142, R151). -/
def argHome (x : Nat) : Option Home :=
  match bits x 63 61 with
  | 1 => some .landing
  | 2 => some .ddr
  | 3 => some .flash
  | 4 => some .host
  | _ => none

/-- Whether another region of the map already has a home place (R151). -/
def State.homeUsed (s : State) (h : Home) (planer frame homeFrame : Nat) : Bool :=
  s.tmap.any (fun e => e.2.home = h && match h with
    | .landing => e.2.frame = frame
    | .host => e.2.homeFrame = homeFrame
    | _ => e.2.planer = planer && e.2.homeFrame = homeFrame)

/-- The refusal reason of a MAP, 0 when it is done (R151). -/
def State.mapReason (s : State) (r x : Nat) : Nat :=
  let planer := bits x 49 48
  let frame := bits x 47 35
  let hf := bits x 34 15
  if s.isKv r then 7 else
  match argHome x with
  | none => 1
  | some h =>
    let used := match h with
      | .landing => frame * 2 ^ 35
      | .host => hf * 2 ^ 15
      | _ => planer * 2 ^ 48 + hf * 2 ^ 15
    let range := match h with
      | .landing => frame ≤ 6143
      | .ddr => hf ≤ 16383
      | .flash => hf ≤ 114687
      | _ => hf ≤ 65535
    if !range || x % 2 ^ 61 ≠ used then 1
    else if (s.region r).home ≠ .none then 3
    else if (h = .landing && frame < 64) || (h = .ddr && hf < 32) then 10
    else if s.homeUsed h planer frame hf || (h = .host && s.hostWin hf % 2 = 0)
        || (h = .landing && s.frame frame ≠ .free) then 3
    else 0

/-- MAP: the region in TMAP_SEL takes its home from REGION_ARG (R151). -/
def mapRegion (s : State) (path : Nat) : State :=
  let r := s.tmapSel path
  let x := s.pobj path (okey 0x3010 4)
  let reason := s.mapReason r x
  let s1 := if reason ≠ 0 then s else
    let h := (argHome x).getD .none
    let g : Region := { home := h, planer := bits x 49 48, frame := bits x 47 35, homeFrame := bits x 34 15 }
    let t := s.updRegion r (fun _ => g)
    if h = .landing then t.setFrame g.frame (.home r) else t
  s1.tierEnd (okey 0x3010 5) reason 0 r 0

/-- UNMAP: the entry becomes 0, a Landing home's frame FREE with its contents not kept (R151). -/
def unmapRegion (s : State) (path : Nat) : State :=
  let r := s.tmapSel path
  let g := s.region r
  let reason := if s.isKv r then 7 else if g.allocated then 5 else if g.staged then 6 else 0
  let s1 := if reason ≠ 0 then s else
    let t := s.updRegion r (fun _ => {})
    if g.home = .landing then
      let q := t.seed
      ({ q.2 with landing := q.2.landing.lose (g.frame * 2 ^ 26) (2 ^ 26) q.1 } : State).setFrame g.frame .free
    else t
  s1.tierEnd (okey 0x3010 5) reason 0 r 0

/-- TRIM: the contents of the region's flash logical region are discarded (R151). -/
def trimRegion (s : State) (path : Nat) : State :=
  let r := s.tmapSel path
  let g := s.region r
  let reason := if s.isKv r then 7 else if g.home ≠ .flash then 1 else if g.allocated then 5 else 0
  let s1 := if reason ≠ 0 then s else
    let q := s.seed
    { q.2 with flash := q.2.flash.lose (planerAddr g.planer (g.homeFrame * 2 ^ 26)) (2 ^ 26) q.1 }
  s1.tierEnd (okey 0x3010 5) reason 0 r 0

/-- The pool owner of a staged frame. -/
def stagedPool : FrameUse → Nat
  | .staged c _ => c
  | _ => 0

/-- DISCARD: the staged copy is dropped, its frame returns to its pool, DIRTY and LOST are cleared (R151). -/
def discardRegion (s : State) (path : Nat) : State :=
  let r := s.tmapSel path
  let g := s.region r
  let reason := if s.isKv r then 7 else if !g.staged then 4
    else if g.allocated && s.loaded g.owner && !(s.ctx g.owner).held then 7 else 0
  let s1 := if reason ≠ 0 then s else
    (s.setFrame g.frame (.pool (stagedPool (s.frame g.frame)) false)).updRegion r (fun x =>
      { x with staged := false, dirty := false, lost := false, frame := 0, pages := [] })
  s1.tierEnd (okey 0x3010 5) reason 0 r 0

/-- Shows an allocation in a path's ALLOC_FIRST and ALLOC_COUNT (R336). -/
def State.showAlloc (s : State) (path ctx : Nat) : State :=
  let a := s.alloc ctx (s.pobj path (okey (0x3100 + ctx) 1))
  (s.setPobj path (okey (0x3100 + ctx) 2) (if a.count = 0 then 0 else a.first)).setPobj path (okey (0x3100 + ctx) 3)
    a.count

/-- ALLOC_CMD 1 (R152). -/
def allocGrant (s : State) (path ctx : Nat) : State :=
  let sel := s.pobj path (okey (0x3100 + ctx) 1)
  let first := s.pobj path (okey (0x3100 + ctx) 2)
  let count := s.pobj path (okey (0x3100 + ctx) 3)
  let cmd := okey (0x3100 + ctx) 4
  if (s.alloc ctx sel).count ≠ 0 || count = 0 || first + count > 1048576 then s.tierEnd cmd 1 1 first ctx
  else
    let rs := regionRange first count
    match rs.find? (fun r => (s.region r).home = .none) with
    | some r => s.tierEnd cmd 4 1 r ctx
    | none => match rs.find? (fun r => (s.region r).allocated) with
    | some r => s.tierEnd cmd 5 1 r ctx
    | none => match rs.find? (fun r => (s.region r).lost) with
    | some r => s.tierEnd cmd 9 1 r ctx
    | none =>
      let s1 := rs.foldl (fun t r => t.updRegion r (fun g => { g with allocated := true, owner := ctx })) s
      let s2 : State := { s1 with allocs := Tab.put {} s1.allocs (ctx * 256 + sel) { first := first, count := count } }
      (s2.showAlloc path ctx).tierEnd cmd 0 1 first ctx

/-- Whether a live or pending descriptor of a context holds an allocation (R118). -/
def State.allocHeld (s : State) (ctx a : Nat) : Bool :=
  s.descs.any (fun e => e.1 / 4096 = ctx && e.2.st ≠ .free &&
    (let d := descOf e.2.image; !d.c6 && (d.alloc = a || (d.fmt.isMx && d.salloc = a))))

/-- ALLOC_CMD 2 (R118, R152). -/
def allocRelease (s : State) (path ctx : Nat) : State :=
  let sel := s.pobj path (okey (0x3100 + ctx) 1)
  let a := s.alloc ctx sel
  let cmd := okey (0x3100 + ctx) 4
  if a.count = 0 then s.tierEnd cmd 1 1 a.first ctx
  else if s.allocHeld ctx sel then (s.refuse 0x5009 (some ctx) 0).tierEnd cmd 8 1 a.first ctx
  else
    let rs := regionRange a.first a.count
    match rs.find? (fun r => (s.region r).staged) with
    | some r => s.tierEnd cmd 6 1 r ctx
    | none =>
      let s1 := rs.foldl (fun t r => t.updRegion r (fun g => { g with allocated := false, owner := 0 })) s
      let s2 : State := { s1 with allocs := Tab.put {} s1.allocs (ctx * 256 + sel) {} }
      (s2.showAlloc path ctx).tierEnd cmd 0 1 a.first ctx

/-- FRAME_CMD 40h + i on a path's FRAME_SEL (R154). -/
def frameToPool (s : State) (path ctx : Nat) : State :=
  let f := s.pobj path (okey 0x3011 1)
  let cmd := okey 0x3011 3
  match s.frame f with
  | .free => (s.setFrame f (.pool ctx false)).tierEnd cmd 0 2 f ctx
  | .pool .. => s.tierEnd cmd 1 2 f ctx
  | .home _ => s.tierEnd cmd 3 2 f ctx
  | .staged .. => s.tierEnd cmd 6 2 f ctx

/-- FRAME_CMD FFh on a path's FRAME_SEL (R154); a frame that a running STAGE or a key/value reservation holds is no
empty pool frame (log entry 26). -/
def frameToFree (s : State) (path : Nat) : State :=
  let f := s.pobj path (okey 0x3011 1)
  let cmd := okey 0x3011 3
  match s.frame f with
  | .free => s.tierEnd cmd 0 2 f 0
  | .pool c reserved => if reserved then s.tierEnd cmd 6 2 f c else (s.setFrame f .free).tierEnd cmd 0 2 f c
  | .home _ => s.tierEnd cmd 3 2 f 0
  | .staged c _ => s.tierEnd cmd 6 2 f c

/-- Whether a mapped region names a host window (R149). -/
def State.windowUsed (s : State) (w : Nat) : Bool := s.tmap.any (fun e => e.2.home = .host && e.2.homeFrame = w)

/-- A write of HOSTWIN_ADDR for a path's HOSTWIN_SEL (R149): bus address in [63:12], VALID in [0]. -/
def hostwinWrite (s : State) (path v : Nat) : State :=
  let w := s.pobj path (okey 0x3020 1)
  if s.windowUsed w then s.setObj (okey 0x3010 6) (tierResult 3 3 w 0)
  else (({ s with hostWins := Tab.put 0 s.hostWins w (v % 2 ^ 64) } : State)).setObj (okey 0x3010 6) (tierResult 0 3 w 0)

/-! ### Flash and DDR in the background (R145 to R148, R174) -/

/-- Whether the DDR and flash of Planer q are switched on: in RUN and IDLE, and on a scrub excursion (R355, R357, R367). -/
def State.planerOn (s : State) (q : Nat) : Bool :=
  s.env.vin && s.env.refclk && s.obj (okey 0x1480 1) = 4 && (s.obj (okey 0x6000 1) ≤ 1 || s.power.excursion = some q)

/-- FLASH_SCRUB_NOW written with 1 on Planer q: a full pass starts (R174). -/
def flashScrubNow (s : State) (q : Nat) : State :=
  { s.setObj (okey (0x3400 + q) 0x0B) 1 with power := { s.power with
    scrubFrom := Tab.put 0 s.power.scrubFrom q (s.obj (okey (0x3400 + q) 9)) } }

/-- A scrub pass of Planer q is complete: its length is kept for the deadline, and the next pass starts (R146, R367; log entry
107). -/
def State.scrubPassed (s : State) (q : Nat) : State :=
  let k := okey (0x3400 + q) 9
  { s.setObj k 0 with power := { s.power with
    scrubLen := Tab.put 0 s.power.scrubLen q (s.obj k - Tab.get 0 s.power.scrubFrom q)
    scrubFrom := Tab.put 0 s.power.scrubFrom q 0 } }

/-- The erase count of a flash block (R146). -/
def State.erases (s : State) (q b : Nat) : Nat :=
  Config.flashErases q b + (Tab.get {} s.ftl (blockKey q b)).erased

/-- The flash blocks of a Planer that the run has touched. -/
def State.ftlBlocks (s : State) (q : Nat) : Tab FlashBlock := s.ftl.filter (fun e => e.1 / 2 ^ 32 = q)

/-- The highest erase count of a Planer's flash when the run begins (R174; log entry 94). -/
def eraseStart (q : Nat) : Nat := Config.moduleConst (okey (0x3400 + q) 4) % 2 ^ 32

/-- The mean erase count of a Planer's flash when the run begins: no more than the highest (R174; log entry 94). -/
def meanStart (q : Nat) : Nat := Config.moduleConst (okey (0x3400 + q) 5) % (eraseStart q + 1)

/-- FLASH_ERASE_MAX: the highest erase count, from its value at the start (R174). -/
def State.eraseMax (s : State) (q start : Nat) : Nat :=
  (s.ftlBlocks q).foldl (fun m e => max m (s.erases q (e.1 % 2 ^ 32))) start

/-- FLASH_ERASE_MEAN: the mean erase count, from its value at the start (R174; log entry 94). -/
def State.eraseMean (s : State) (q start : Nat) : Nat :=
  start + ((s.ftlBlocks q).map (fun e => e.2.erased)).foldl (· + ·) 0 / Config.flashBlocks

/-- A flash block's data is programmed elsewhere and the block is erased (R146). -/
def State.eraseBlock (s : State) (q b bytes : Nat) : State :=
  ({ s with ftl := Tab.update {} s.ftl (blockKey q b) (fun x => { erased := x.erased + 1, reads := 0 }) } : State).addObj
    (okey (0x3400 + q) 3) 64 bytes

/-- Relocation of a flash block for read disturb or scrub (R146, R174). -/
def State.relocate (s : State) (q b bytes : Nat) : State := (s.eraseBlock q b bytes).addObj (okey (0x3400 + q) 8) 32 1

/-- Counts reads of a flash block (R146). -/
def State.readBlock (s : State) (q b n : Nat) : State :=
  { s with ftl := Tab.update {} s.ftl (blockKey q b) (fun x => { x with reads := x.reads + n }) }

/-- Background scrub: blocks are read, each a number of times; weak ones are relocated, each with the bytes it held; the end of a full
pass resets the scrub age and ends FLASH_SCRUB_NOW (R146, R174). -/
def flashScrub (s : State) (q : Nat) (read : List (Nat × Nat)) (weak : List BlockMove) (uncorr : Nat) (passEnd : Bool) : State :=
  if !s.planerOn q then s else
  let s0 := read.foldl (fun t e => t.readBlock q e.1 e.2) s
  let s1 := (weak.foldl (fun t e => t.relocate q e.block e.bytes) s0).addObj (okey (0x3400 + q) 0x0A) 32 uncorr
  if passEnd then
    let s2 := s1.scrubPassed q
    if s2.obj (okey (0x3400 + q) 0x0B) = 1 then s2.setObj (okey (0x3400 + q) 0x0B) 2 else s2
  else s1

/-- Relocation of a block that has been read 200,000 times since its last erase (R146). -/
def readDisturb (s : State) (q : Nat) (b : BlockMove) : State :=
  if s.planerOn q && 200000 ≤ (Tab.get {} s.ftl (blockKey q b.block)).reads then s.relocate q b.block b.bytes else s

/-- Static wear levelling moves the data of the coldest block once the highest erase count exceeds its own by more than 150
(R146); it is no relocation for read disturb or scrub. -/
def wearLevel (s : State) (q : Nat) (b : BlockMove) : State :=
  let hi := s.eraseMax q (eraseStart q)
  let own := s.erases q b.block
  if s.planerOn q && own + 150 < hi && (s.ftlBlocks q).all (fun e => own ≤ s.erases q (e.1 % 2 ^ 32))
  then s.eraseBlock q b.block b.bytes else s

/-- Garbage collection reclaims a block: the bytes that were still valid are read, with codewords found uncorrectable, and
programmed again; the spare figure afterwards, and FLASH_SPARE_LOW when the spare falls below 1 % of raw (R146, R148, R174). -/
def garbageCollect (s : State) (q b bytes spare uncorr : Nat) : State :=
  if !s.planerOn q then s else
  let k := fun j => okey (0x3400 + q) j
  let old := s.obj (k 7)
  let s1 := ((s.eraseBlock q b bytes).addObj (k 0x0A) 32 uncorr).setObj (k 7) (spare % 2 ^ 16)
  if spare < 10 && 10 ≤ old then s1.report 0x2006 5 q none 0 false false else s1

/-- DDR patrol scrub of Planer q: errors corrected and found uncorrectable (R145, R174). -/
def ddrScrub (s : State) (q corrected uncorr : Nat) : State :=
  if !s.planerOn q then s
  else (s.addObj (okey (0x3300 + q) 1) 32 corrected).addObj (okey (0x3300 + q) 2) 32 uncorr

end Sys2Proof.Machine
end

