-- ==== Sys2Proof/Machine/Links.lean ====
section
/-!
DEFINITION. Charun Link: lanes and links (R175), frame headers (R182), link CRC (R184), virtual channels (R187), the
retransmission buffer (R186), codewords in both directions (R177 to R180) and the numbers of the link objects (R214).
-/

namespace Sys2Proof.Machine

/-- Changes a link. -/
def State.updLink (s : State) (n : Nat) (f : Link → Link) : State := { s with links := Tab.update {} s.links n f }

/-- The index of a link's objects (R214). -/
def linkIndex (n : Nat) : Nat := if n < 16 then 0x4010 + n else 0x4020 + (n - 16)

/-- Lanes of a link (R175). -/
def linkLanes (n : Nat) : Nat := if n < 16 then 8 else 12

/-- The first lane of a link (R175). -/
def linkLane0 (n : Nat) : Nat := if n < 16 then 8 * n else 128 + 12 * (n - 16)

/-- The link of a lane (R175). -/
def laneLink (l : Nat) : Nat := if l < 128 then l / 8 else 16 + (l - 128) / 12

/-- The lane's place within its link (R175). -/
def laneBit (l : Nat) : Nat := if l < 128 then l % 8 else (l - 128) % 12

/-- Active lanes in a lane map. -/
def popCount (x n : Nat) : Nat := ((List.range n).filter (fun k => bit x k)).length

/-- The width of a link: its active lanes (R189). -/
def Link.width (l : Link) : Nat := popCount l.lanes 12

/-- The minimum width of a link (R190). -/
def State.minWidth (s : State) (n : Nat) : Nat := s.obj (okey 0x4000 (if n < 16 then 4 else 5))

/-- The code of a link state (R214). -/
def LinkSt.code : LinkSt → Nat
  | .disabled => 0 | .training => 1 | .up => 2 | .degraded => 3 | .fault => 4 | .retraining => 5

/-- LINK_STATE (R214). -/
def Link.stateWord (l : Link) : Nat := l.st.code * 2 ^ 29 + l.lanes * 2 ^ 17 + l.width * 2 ^ 13

/-- UP with every lane, else DEGRADED (R189). -/
def upState (n lanes : Nat) : LinkSt := if popCount lanes (linkLanes n) = linkLanes n then .up else .degraded

/-- Sets LANE_STATE of every lane of a link: active, excluded, training or down (R214). -/
def State.showLanes (s : State) (n : Nat) : State :=
  let l := s.link n
  (List.range (linkLanes n)).foldl (fun t k =>
    let v := match l.st with
      | .training | .retraining => if bit l.cut k then 3 else 1
      | .up | .degraded => if bit l.lanes k then 2 else if bit l.cut k then 3 else 0
      | _ => 0
    t.setObj (okey (0xA000 + linkLane0 n + k) 1) v) s

/-- Puts a link into a state with its lanes. -/
def State.setLink (s : State) (n : Nat) (st : LinkSt) (lanes : Nat) : State :=
  (s.updLink n (fun l => { l with st := st, lanes := lanes })).showLanes n

/-- Ends a LINK_CMD that runs (R214). -/
def State.endLinkCmd (s : State) (n v : Nat) : State :=
  let k := okey (linkIndex n) 2
  if s.obj k = 1 then s.setObj k v else s

end Sys2Proof.Machine

namespace Sys2Proof

/-! ### Frames -/

/-- The TYPE of a frame (R183). -/
def Frame.type (f : Frame) : Nat := bits f.header 3 0

/-- LEN of a frame (R182). -/
def Frame.len (f : Frame) : Nat := bits f.header 11 5

/-- LSEQ of a frame (R182). -/
def Frame.lseq (f : Frame) : Nat := bits f.header 23 12

/-- Replaces LSEQ, 0 in a frame that waits (R182). -/
def Frame.withLseq (f : Frame) (q : Nat) : Frame := { f with header := f.header + q % 4096 * 2 ^ 12 }

/-- Units of a frame on its channel: LEN + 1 (R187). -/
def Frame.units (f : Frame) : Nat := f.len + 1

/-- The link CRC (R184). -/
def Frame.crc (f : Frame) : Nat := crc32c (leBytes 32 f.header ++ f.payload)

/-- Whether a frame is well-formed: a 256-bit header and LEN × 64 payload bytes. -/
def Frame.wf (f : Frame) : Bool := f.header < 2 ^ 256 && f.payload.length = 64 * f.len && f.payload.all (· < 256)

/-- The link size of a frame (R181). -/
def Frame.bytes (f : Frame) : Nat := 40 + 64 * f.len

end Sys2Proof

namespace Sys2Proof.Machine

/-- A frame header before its LSEQ (R182). -/
def frameHeader (type len arg coll dctx step dstInc srcInc epoch srcFid dstFid : Nat) : Nat :=
  type + (if type = 1 then 0 else 16) + len * 2 ^ 5 + dstFid * 2 ^ 24 + srcFid * 2 ^ 44 + epoch * 2 ^ 64 + srcInc * 2 ^ 96
    + dstInc * 2 ^ 112 + step * 2 ^ 128 + dctx * 2 ^ 160 + coll * 2 ^ 168 + arg * 2 ^ 192

/-- Adds a control frame to VC1 of a link that can carry it. -/
def State.sendCtl (s : State) (n : Nat) (f : Frame) (flight : Option Nat) : State :=
  s.updLink n (fun l => { l with vc1 := l.vc1 ++ [{ frame := f, flight := flight }] })

/-! ### Sending (R186, R187) -/

/-- Whether a frame's units fit the channel's credits (R187). -/
def Link.fits (l : Link) (f : Frame) : Bool :=
  if f.type = 1 then l.used0 + f.units ≤ l.lim0 else l.used1 + f.units ≤ l.lim1

/-- Whether the retransmission buffer takes one more frame: 2,048 frames and 8 MiB at most (R186). -/
def Link.room (l : Link) (f : Frame) : Bool :=
  l.buf.length < 2048 && (l.buf.map (fun t => t.frame.bytes)).foldl (· + ·) 0 + f.bytes ≤ 8388608

/-- The bytes of a frame with its link CRC (R181, R184). -/
def wireOf (f : Frame) : List Nat := frameWire f.header f.payload f.crc

/-- Starts a frame on a link: LSEQ, units used, the retransmission buffer, the byte stream, FRAMES_TX (R180, R185 to R187,
R214); the step that sends it has worked (R311). -/
def State.startFrame (s : State) (n : Nat) (f : Frame) (flight : Option Nat) : State :=
  let l := s.link n
  let g := f.withLseq l.txSeq
  let s1 := s.updLink n (fun x => { x with
    txSeq := (x.txSeq + 1) % 4096
    used0 := if f.type = 1 then x.used0 + f.units else x.used0
    used1 := if f.type = 1 then x.used1 else x.used1 + f.units
    buf := x.buf ++ [{ lseq := l.txSeq, frame := g, flight := flight, sends := 1 }]
    tx := x.tx ++ wireOf g })
  ({ s1 with out := s1.out ++ [.frame n g], work := (flight.map s1.workOn).getD s1.work } : State).addObj
    (okey (linkIndex n) 3) 64 1

/-- Resends every outstanding frame in order; `counted` resends count among the four sendings (R186, R191). -/
def State.resendAll (s : State) (n : Nat) (counted : Bool) : State :=
  let l := s.link n
  let s1 : State := { s with out := s.out ++ l.buf.map (fun t => Output.frame n t.frame) }
  (s1.updLink n (fun x => { x with
    tx := x.tx ++ x.buf.flatMap (fun t => wireOf t.frame)
    buf := x.buf.map (fun t => { t with sends := if counted then t.sends + 1 else t.sends }) })).addObj (okey (linkIndex n) 5) 32 l.buf.length

/-- Whether a resend would be some frame's fifth sending (R186). -/
def Link.exhausted (l : Link) : Bool := l.buf.any (fun t => 4 ≤ t.sends)

/-- Drops the frames that an ACK covers: those up to the one whose LSEQ it names (R186). -/
def ackDrop (ack : Nat) (buf : List TxFrame) : List TxFrame :=
  if buf.any (fun t => t.lseq = ack) then (buf.dropWhile (fun t => t.lseq ≠ ack)).drop 1 else buf

/-- A cumulative credit count modulo 65,536 raised to a new reading, never lowered (R179, R187). -/
def credRaise (lim x : Nat) : Nat :=
  let d := (x + 65536 - lim % 65536) % 65536
  if d < 32768 then lim + d else lim

/-! ### Codewords that are sent (R177 to R180) -/

/-- The lanes of a link at the start of training: both scramblers hold the lane's number (R177; log entry 96). -/
def seedLanes (n : Nat) : Tab LaneSt :=
  ((List.range (linkLanes n)).map (fun k =>
    (k, ({ txScr := linkLane0 n + k, rxScr := linkLane0 n + k } : LaneSt)))).filter (fun e => e.2 ≠ {})

/-- The lanes that a link's CCWs name active: those in use, or while it trains those it offers (R179, R191). -/
def Link.offered (n : Nat) (l : Link) : Nat := if l.live then l.lanes else 2 ^ linkLanes n - 1 - l.cut

/-- The CCW of a lane (R179): ACK, NAK, LANEMAP, the credits granted on both channels, STATE, CWSEQ. The receiver grants a
window beyond what it has consumed (R187; log entry 96). -/
def Link.ccw (n : Nat) (l : Link) (k : Nat) : Nat :=
  mkCcw k (l.rxSeq + 4095) l.nak (l.offered n) (l.got0 + Config.linkWindow % 32768) (l.got1 + Config.linkWindow % 32768)
    (if l.st = .training then 0 else if l.st = .retraining then 2 else 1) l.cw

/-- One codeword on every lane in use or offered: the next units of the byte stream, dealt in ascending lane order and filled
with zeros, with the CCW, scrambled (R177 to R181). A link that trains sends no frame byte. -/
def State.sendCodewords (s : State) (n : Nat) : State :=
  let l := s.link n
  if l.st = .disabled || l.st = .fault then s
  else
    let ks := (List.range (linkLanes n)).filter (fun k => bit (l.offered n) k)
    let used := if l.live then l.tx.take (640 * ks.length) else []
    let ws := ks.mapIdx (fun i k =>
      let p := prbsCodeword (Tab.get {} l.lane k).txScr
      (k, p.2, codeword ((used.drop (640 * i)).take 640) (l.ccw n k) ^^^ p.1))
    let s1 := s.updLink n (fun x => { x with
      tx := x.tx.drop used.length
      cw := (x.cw + 1) % 2 ^ 32
      lane := ws.foldl (fun t w => Tab.update {} t w.1 (fun z => { z with txScr := w.2.1 })) x.lane })
    { s1 with out := s1.out ++ ws.map (fun w => Output.codeword (linkLane0 n + w.1) w.2.2) }

/-! ### Units that are received (R180) -/

/-- Whether a codeword number is not before another, modulo 2^32 (R179). -/
def cwFrom (cw m : Nat) : Bool := (cw + 2 ^ 32 - m) % 2 ^ 32 < 2 ^ 31

/-- A lane's codeword brings its unit of the byte stream; the first one after a training begins it (R180). -/
def Link.takeUnit (l : Link) (k cw : Nat) (bytes : Option (List Nat)) : Link :=
  if !l.live || !bit l.lanes k then l
  else
    let m := l.rxNext.getD cw
    { l with rxNext := some m, units := if cwFrom cw m then l.units ++ [{ cw := cw, lane := k, bytes := bytes }] else l.units }

/-- The bytes of the next row of units, one from each active lane in ascending order; a lane more than 32 codewords behind has
lost its own (R180; log entry 96). -/
def Link.row (l : Link) (m : Nat) : Option (List (Option Nat)) :=
  let us := ((List.range 12).filter (fun k => bit l.lanes k)).map (fun k =>
    l.units.find? (fun u => u.cw = m && u.lane = k))
  if us.all (·.isSome) || l.units.any (fun u => 32 < (u.cw + 2 ^ 32 - m) % 2 ^ 32) then
    some (us.flatMap (fun u => match u.bind (·.bytes) with
      | some d => d.map some
      | none => List.replicate 640 none))
  else none

/-- Moves complete rows into the byte stream, in the order of CWSEQ; `k` rows at most. -/
def Link.gather (l : Link) : Nat → Link
  | 0 => l
  | k + 1 =>
    match l.rxNext with
    | none => l
    | some m =>
      match l.row m with
      | none => l
      | some bs =>
        let l1 : Link := { l with
          rx := l.rx ++ bs, rxNext := some ((m + 1) % 2 ^ 32), units := l.units.filter (fun u => u.cw ≠ m) }
        l1.gather k

end Sys2Proof.Machine
end

