-- ==== Sys2Proof/Machine/Coll.lean ====
section
/-!
DEFINITION. Collective steps as data: the fields of a step (R199), groups (R194), elements in linear order (R137), wire
pieces (R205; log entry 27), and the elements that a step reads and writes (R208, R210).
-/

namespace Sys2Proof.Machine

/-- The fields of a collective step (R199). -/
structure CollBody where
  op     : Nat
  sdesc  : Nat
  ddesc  : Nat
  group  : Nat
  wfmt   : Nat
  red    : Nat
  det    : Bool
  topl   : Bool
  planes : Nat
  rcred  : Nat
  lrel   : Nat
  sstart : Nat
  dstart : Nat
  count  : Nat
  coll   : Nat
  peer   : Nat
  rounds : Nat
  scal   : Bool
  lslot  : Nat
  wtsc   : Nat
  cap    : Nat
  cdesc  : Nat
  ustream : Nat
  s      : F32
  b      : F32
  hi     : F32
  lo     : F32
  deriving DecidableEq, Repr

/-- Reads a collective step (R199). -/
def collBody (ws : List W128) : CollBody :=
  let w0 := ws.getD 0 0
  let w1 := ws.getD 1 0
  let w2 := ws.getD 2 0
  let w3 := ws.getD 3 0
  { op := fld w0 127 120, sdesc := fld w0 75 64, ddesc := fld w0 63 52, group := fld w0 51 40, wfmt := fld w0 39 36
    red := fld w0 35 34, det := fld w0 33 33 = 1, topl := fld w0 32 32 = 1, planes := fld w0 31 30
    rcred := fld w0 29 24, lrel := fld w0 23 16
    sstart := fld w1 127 88, dstart := fld w1 87 48, count := fld w1 47 16
    coll := fld w2 127 112, peer := fld w2 111 98, rounds := fld w2 97 84, scal := fld w2 83 83 = 1
    lslot := fld w2 82 72, wtsc := fld w2 71 64, cap := fld w2 63 32, cdesc := fld w2 31 20, ustream := fld w2 19 14
    s := BitVec.ofNat 32 (fld w3 127 96), b := BitVec.ofNat 32 (fld w3 95 64), hi := BitVec.ofNat 32 (fld w3 63 32)
    lo := BitVec.ofNat 32 (fld w3 31 0) }

/-! ### Groups (R194, R405) -/

/-- The groups of section 8 from a byte offset up: number and member positions; `k` groups at most. -/
def groupsFrom (m : Mem) (a n : Nat) : Nat → List (Nat × List Nat)
  | 0 => []
  | k + 1 =>
    if n < 4 then []
    else
      let c := m.readLe (a + 2) 2
      let size := 4 * ceilDiv (4 + 2 * c) 4
      (m.readLe a 2, (List.range c).map (fun i => m.readLe (a + 4 + 2 * i) 2)) ::
        groupsFrom m (a + size) (n - size) k

/-- Every group of a plan image (R405). -/
def imgGroups (m : Mem) : List (Nat × List Nat) := groupsFrom m (imgSecOff m 8) (imgSecLen m 8) (imgSecLen m 8 / 4)

/-- Group g of a plan image. -/
def imgGroup (m : Mem) (g : Nat) : Option (List Nat) := ((imgGroups m).find? (fun e => e.1 = g)).map (fun e => e.2)

/-- A member-table entry (R214). -/
def State.member (s : State) (ctx p : Nat) : Nat := Tab.get 0 s.members (ctx * 16384 + p)

/-- Whether a member-table entry is VALID (R214). -/
def memberValid (e : Nat) : Bool := bit e 63

/-- The VALID members of a stand as position and entry. -/
def State.validMembers (s : State) (ctx : Nat) : List (Nat × Nat) :=
  (s.members.filter (fun e => e.1 / 16384 = ctx && memberValid e.2)).map (fun e => (e.1 % 16384, e.2))

/-- SELF of a context (R214). -/
def State.self (s : State) (ctx : Nat) : Nat := s.obj (okey (0x4100 + ctx) 7)

/-! ### Elements in linear order (R137, R199) -/

/-- The elements of a descriptor. -/
def Desc.elems (d : Desc) : Nat := d.sizeOf 0 * d.sizeOf 1 * d.sizeOf 2 * d.sizeOf 3

/-- The tensor position of a linear element number (R137). -/
def Desc.linPos (d : Desc) (i : Nat) : List Int :=
  [((i % d.sizeOf 0 : Nat) : Int), ((i / d.sizeOf 0 % d.sizeOf 1 : Nat) : Int),
   ((i / (d.sizeOf 0 * d.sizeOf 1) % d.sizeOf 2 : Nat) : Int),
   ((i / (d.sizeOf 0 * d.sizeOf 1 * d.sizeOf 2) : Nat) : Int)]

/-- The descriptor-space addresses that an element occupies: its code bytes and its scale byte. -/
def Desc.linAddrs (d : Desc) (i : Nat) : List Nat :=
  let x := d.linPos i
  d.elemBytes x ++ (if d.fmt.isMx then [(d.scaleAddr x).toNat] else [])

/-- The first address of a range of elements that C6 translation does not permit (R135). -/
def State.linBlocked (s : State) (ctx : Nat) (d : Desc) (write : Bool) (i n : Nat) : Option Nat :=
  if !d.c6 then none
  else (List.range n).findSome? (fun k => (d.linAddrs (i + k)).find? (fun a => (s.translate ctx d write a).isNone))

/-- The regions that a range of elements touches. -/
def State.linRegions (s : State) (ctx : Nat) (d : Desc) (write : Bool) (i n : Nat) : List Nat :=
  ((List.range n).flatMap (fun k => (d.linAddrs (i + k)).filterMap (fun a =>
    (s.translate ctx d write a).map (· / 2 ^ 26)))).eraseDups

/-- Reads a byte of a descriptor's space. -/
def State.descRead (s : State) (ctx : Nat) (d : Desc) (a : Nat) : Nat :=
  match s.translate ctx d false a with
  | some x => s.tierRead x
  | none => 0

/-- The values of n elements from element i up. -/
def State.linVals (s : State) (ctx : Nat) (d : Desc) (i n : Nat) : List Val :=
  (List.range n).map (fun k => d.valAt (s.descRead ctx d) (d.linPos (i + k)))

/-- Counts a Yarder's access to n bytes of a descriptor's space (R174). -/
def State.countSpan (s : State) (ctx : Nat) (d : Desc) (write : Bool) (a n : Nat) : State :=
  (cutPieces a 0 n (n / 64 + 2)).foldl (fun t p => match t.translate ctx d write p.addr with
    | some x => t.countAccess 1 x p.len
    | none => t) s

/-- Counts a Yarder's read of n elements from element i up, row by row, values and scales (R174); `k` rows at most. -/
def State.countElems (s : State) (ctx : Nat) (d : Desc) (i n : Nat) : Nat → State
  | 0 => s
  | k + 1 =>
    if n = 0 then s
    else
      let c := i % d.sizeOf 0
      let m := min n (d.sizeOf 0 - c)
      let o := c * d.fmt.width
      let s1 := s.countSpan ctx d false ((d.rowAddr (d.linPos i)).toNat + o / 8) ((o % 8 + m * d.fmt.width + 7) / 8)
      let s2 := if d.fmt.isMx then
          (List.range ((c + m - 1) / 32 + 1 - c / 32)).foldl (fun t b =>
            t.countSpan ctx d false (d.scaleAddr (d.linPos (i - c % 32 + 32 * b))).toNat 1) s1
        else s1
      s2.countElems ctx d (i + m) (n - m) k

/-- Writes element codes that lie side by side in one row from element i up; other bits of the bytes stay (R49). -/
def State.writeCodes (s : State) (ctx : Nat) (d : Desc) (i : Nat) (codes : List Nat) : State :=
  let x := d.linPos i
  let w := d.fmt.width
  let o := (x.getD 0 0).toNat * w
  let a := (d.rowAddr x).toNat + o / 8
  let n := (o % 8 + codes.length * w + 7) / 8
  let old := leNat ((List.range n).map (fun k => s.descRead ctx d (a + k)))
  let keep := old % 2 ^ (o % 8) + old / 2 ^ (o % 8 + codes.length * w) * 2 ^ (o % 8 + codes.length * w)
  (s.descWrite ctx d a (leBytes n (keep + packNat w codes * 2 ^ (o % 8)))).countSpan ctx d true a n

/-- A binary32 value, and whether its decode saturated (R59). -/
abbrev RVal := F32 × Bool

/-- A stored value decoded to binary32 (R59). -/
def decodeR (v : Val) : RVal := let r := decodeF32 0 v
                                (r.1, r.2.saturated)

/-- An output element of a step: its destination element, its number in the step's output, its value. -/
structure OutElem where
  dst : Nat
  num : Nat
  val : RVal
  deriving DecidableEq, Repr

/-- Splits a list where neighbours do not belong together. -/
def splitBy {α : Type} (same : α → α → Bool) : List α → List (List α)
  | [] => []
  | x :: t => match splitBy same t with
    | (y :: ys) :: r => if same x y then (x :: y :: ys) :: r else [x] :: (y :: ys) :: r
    | r => [x] :: r

/-- Whether two destination elements lie in one row and one 32-element block, or one run of 64 in a format without blocks
(R55). -/
def Desc.sameRun (d : Desc) (i j : Nat) : Bool :=
  let w := if d.fmt.isMx then 32 else 64
  i / d.sizeOf 0 = j / d.sizeOf 0 && i % d.sizeOf 0 / w = j % d.sizeOf 0 / w

/-- An access that is not made: its address in descriptor space, and its tier address where translation permits it. -/
abbrev AccStop := Nat × Option Nat

/-- Why a byte in descriptor space is not accessed: translation does not permit it (R135), or it is behind a PHY that is out of lock
(R361). -/
def State.byteStop (s : State) (ctx : Nat) (d : Desc) (write : Bool) (a : Nat) : Option AccStop :=
  match s.translate ctx d write a with
  | none => some (a, none)
  | some t => if s.phyDown (s.resolve t) then some (a, some t) else none

/-- The first byte of an element's code that may not be written (R135, R361). -/
def State.elemStop (s : State) (ctx : Nat) (d : Desc) (i : Nat) : Option AccStop :=
  if !d.c6 && !s.physDown then none else (d.elemBytes (d.linPos i)).findSome? (s.byteStop ctx d true)

/-- The same for the scale byte of an element's block. -/
def State.scaleStop (s : State) (ctx : Nat) (d : Desc) (i : Nat) : Option AccStop :=
  if !((d.c6 || s.physDown) && d.fmt.isMx) then none else s.byteStop ctx d true (d.scaleAddr (d.linPos i)).toNat

/-- Merges a status into the list of statuses by groups of 4,096 output elements, newest first. -/
def pushStat (g : Nat) (st : Stat) : List (Nat × Stat) → List (Nat × Stat)
  | [] => [(g, st)]
  | (h, x) :: t => if h = g then (h, x.merge st) :: t else (g, st) :: (h, x) :: t

/-- The statuses of converted elements by groups of 4,096 output elements, positions counted within the group (R57, R208; log
entry 99); a decode that saturated sets SATURATED (R59). -/
def groupStats (p : ConvParams) (x : Int) (nan : Bool) (g : List OutElem) (sts : List (Nat × Stat)) : List (Nat × Stat) :=
  (splitBy (fun a b => a.num / 4096 = b.num / 4096) g).foldl (fun acc y =>
    let st := convStat p x nan (y.map (fun e => (e.num % 4096, valOf e.val.1)))
    pushStat ((y.head?.map (·.num)).getD 0 / 4096)
      { st with saturated := st.saturated || y.any (fun e => e.val.2) } acc) sts

/-- Converts and writes the output elements of one row and block: codes in ascending element order, then the block's scale,
which is taken from the elements written (R55, R126; log entry 99). It ends before the first byte that may not be written, whose
address is given (R135). -/
def State.writeGroup (s : State) (ctx : Nat) (d : Desc) (p : ConvParams) (g : List OutElem) (sts : List (Nat × Stat)) :
    State × List (Nat × Stat) × Option AccStop :=
  let vs := g.map (fun e => valOf e.val.1)
  let cl := vs.map (convClip p)
  let r := convert p (vs.map (fun v => (0, v)))
  let ok := (g.zip r.1).takeWhile (fun e => (s.elemStop ctx d e.1.dst).isNone)
  let s1 := (splitBy (fun a b => a.1.dst + 1 = b.1.dst) ok).foldl (fun t run =>
    t.writeCodes ctx d ((run.head?.map (·.1.dst)).getD 0) (run.map (·.2))) s
  match g.drop ok.length, g with
  | e :: _, _ => (s1, sts, s.elemStop ctx d e.dst)
  | [], [] => (s1, sts, none)
  | [], e :: _ =>
    match s.scaleStop ctx d e.dst with
    | some a => (s1, sts, some a)
    | none =>
      let s2 := if d.fmt.isMx then
          let a := (d.scaleAddr (d.linPos e.dst)).toNat
          (s1.descWrite ctx d a [r.2.1]).countSpan ctx d true a 1
        else s1
      (s2, groupStats p (convX p cl) (convNan p cl) g sts, none)

/-- Writes groups of output elements in order up to the first that may not be written whole. -/
def State.writeGroups (s : State) (ctx : Nat) (d : Desc) (p : ConvParams) (sts : List (Nat × Stat)) :
    List (List OutElem) → State × List (Nat × Stat) × Option AccStop
  | [] => (s, sts, none)
  | g :: t =>
    let r := s.writeGroup ctx d p g sts
    match r.2.2 with
    | some a => (r.1, r.2.1, some a)
    | none => r.1.writeGroups ctx d p r.2.1 t

/-- The output elements of segments, each a first destination element and its values, numbered through (R208, R210). -/
def outElems (segs : List (Nat × List RVal)) : List OutElem :=
  (segs.flatMap (fun g => g.2.mapIdx (fun k v => (g.1 + k, v)))).mapIdx (fun n e =>
    { dst := e.1, num := n, val := e.2 })

/-- Converts and writes segments of values through a descriptor: every block once, from all of its elements (R55, R126). -/
def State.writeElems (s : State) (ctx : Nat) (d : Desc) (p : ConvParams) (segs : List (Nat × List RVal)) :
    State × List (Nat × Stat) × Option AccStop :=
  s.writeGroups ctx d p [] (splitBy (fun a b => d.sameRun a.dst b.dst) (outElems segs))

/-! ### Wire pieces (R205; log entry 27) -/

/-- Elements of a full DATA frame: whole 32-element blocks, values then scales, within 4,096 B. -/
def frameElems (f : Format) : Nat := 32 * (4096 / (4 * f.width + b2n f.isMx))

/-- Bytes of n elements on the wire, without padding. -/
def wireBytes (f : Format) (n : Nat) : Nat := ceilDiv (n * f.width) 8 + (if f.isMx then ceilDiv n 32 else 0)

/-- Cuts a list into runs of k. -/
def chunksOf {α : Type} (k : Nat) (xs : List α) : Nat → List (List α)
  | 0 => []
  | m + 1 => match xs with
    | [] => []
    | _ => xs.take k :: chunksOf k (xs.drop k) m

/-- Pads a payload to whole 64-B units. -/
def pad64 (bs : List Nat) : List Nat := bs ++ List.replicate (64 * ceilDiv bs.length 64 - bs.length) 0

/-- The bytes of a run of element codes whose last byte is filled with zeros. -/
def packPad (f : Format) (cs : List Nat) : List Nat := leBytes (ceilDiv (cs.length * f.width) 8) (packNat f.width cs)

/-- The wire bytes of one frame: CONVERT with s = 1, b = 0 and no clip (R205). -/
def framePayload (f : Format) (tsc : Nat) (vals : List Val) : List Nat :=
  let p := plainParams f tsc
  if f.isMx then
    let bs := (chunksOf 32 vals vals.length).map (fun x => convert p (x.map (fun v => (0, v))))
    pad64 (packPad f (bs.flatMap (fun b => b.1)) ++ bs.map (fun b => b.2.1))
  else pad64 (packPad f (convert p (vals.map (fun v => (0, v)))).1)

/-- The payloads of a piece in order. -/
def piecePayloads (f : Format) (tsc : Nat) (vals : List Val) : List (List Nat) :=
  (chunksOf (frameElems f) vals vals.length).map (framePayload f tsc)

/-- The n values of a frame's payload, as stored values (R205). -/
def payloadVals (f : Format) (tsc n : Nat) (bs : List Nat) : List Val :=
  let rd := fun a => bs.getD a 0
  (List.range n).map (fun i =>
    let v := decodeElem f (elemAt rd f 0 i)
    if f.isMx then scaleBy (rd (ceilDiv (n * f.width) 8 + i / 32)) v else if f.isFp8 then scaleBy tsc v else v)

/-- FMT, TSC, OFFSET, ROUND of a DATA frame's ARG (R182). -/
def dataArg (off fmt round tsc : Nat) : Nat := off % 2 ^ 22 * 2 ^ 42 + fmt * 2 ^ 38 + round % 2 ^ 14 * 2 ^ 24 + tsc * 2 ^ 16

/-- FMT of a DATA frame. -/
def rxFmt (f : Frame) : Nat := bits f.header 233 230

/-- TSC of a DATA frame. -/
def rxTsc (f : Frame) : Nat := bits f.header 215 208

/-- OFFSET of a DATA frame in 64-B units. -/
def rxOff (f : Frame) : Nat := bits f.header 255 234

/-- The format of a DATA frame. -/
def rxFormat (f : Frame) : Format := (Format.ofCode (rxFmt f)).getD .bf16

/-- The first element of a DATA frame within its piece: by its byte offset; in a block format, whose frames carry values and then
scales, by the whole frames before it (R182; log entry 27). -/
def rxFirst (f : Frame) : Nat :=
  if (rxFormat f).isMx then rxOff f / 64 * frameElems (rxFormat f) else rxOff f * 512 / (rxFormat f).width

/-- The elements that a DATA frame has room for. -/
def rxRoom (f : Frame) : Nat :=
  let g := rxFormat f
  if g.isMx then min (frameElems g) (32 * (64 * f.len / (4 * g.width + 1))) else 512 * f.len / g.width

/-! ### What a step sends, receives and writes -/

/-- The length of the chunk for one member: COUNT ÷ N of an RS; of an AR, whole 64-element runs (log entry 28). -/
def CollBody.chunkLen (b : CollBody) (n : Nat) : Nat :=
  if b.op = 0xA2 then 64 * ceilDiv b.count (64 * n) else b.count / n

/-- Chunk j as first element and length (R205). -/
def CollBody.chunk (b : CollBody) (n j : Nat) : Nat × Nat :=
  let c := b.chunkLen n
  (min b.count (j * c), min b.count ((j + 1) * c) - min b.count (j * c))

/-- Whether an AR runs ONESHOT: its wire bytes are at most 1 MiB (R210). -/
def CollBody.oneshot (b : CollBody) (f : Format) : Bool := b.op = 0xA2 && wireBytes f b.count ≤ 1048576

/-- The positions whose DATA a step at position k of N receives (R195). -/
def CollBody.senders (b : CollBody) (n k : Nat) : List Nat :=
  match b.op with
  | 0xA4 => [b.peer]
  | 0xA6 => [(k + n - 1) % n]
  | 0xA3 => []
  | 0xA7 => []
  | _ => (List.range n).filter (· ≠ k)

/-- The planes of a step of Yarder c (R199, R205). -/
def CollBody.planeList (b : CollBody) (c : Nat) : List Nat :=
  (if b.planes % 2 = 1 then [2 * c] else []) ++ (if 2 ≤ b.planes then [2 * c + 1] else [])

/-- The most elements that a received piece holds, for the check of R195; `phase` counts the sender's ENDs so far. -/
def CollBody.pieceElems (b : CollBody) (f : Format) (n k from_ phase : Nat) : Nat :=
  match b.op with
  | 0xA0 => (b.chunk n k).2
  | 0xA2 => if b.oneshot f then b.count else if phase = 0 then (b.chunk n k).2 else (b.chunk n from_).2
  | 0xA5 => b.cap * b.count
  | _ => b.count

/-- The destination elements of a step as ranges (R208, R210). -/
def CollBody.destRanges (b : CollBody) (n k : Nat) : List (Nat × Nat) :=
  match b.op with
  | 0xA0 => if b.topl then [] else [(b.dstart, (b.chunk n k).2)]
  | 0xA1 => [(b.dstart, n * b.count)]
  | 0xA2 => [(b.dstart, b.count)]
  | 0xA4 => [(b.dstart, b.count)]
  | 0xA5 => [(b.dstart, n * b.cap * b.count)]
  | 0xA6 => [(b.dstart, 2 * b.count)]
  | _ => []

/-- The source elements of a step as ranges (R199). -/
def CollBody.srcRanges (b : CollBody) (n : Nat) : List (Nat × Nat) :=
  match b.op with
  | 0xA4 => []
  | 0xA7 => []
  | 0xA5 => [(b.sstart, n * b.cap * b.count)]
  | _ => [(b.sstart, b.count)]

/-- The CONVERT parameters of a step's output into a descriptor (R199). -/
def CollBody.conv (b : CollBody) (d : Desc) : ConvParams :=
  { s := b.s, b := b.b, lo := b.lo, hi := b.hi, fmt := d.fmt, tscale := d.tscale }

/-- The open steps of a context on a Yarder, in the order in which they opened. -/
def State.openSteps (s : State) (ctx c : Nat) : List CollStep := s.colls.filter (fun x => x.ctx = ctx && x.yarder = c)

/-- An open step. -/
def State.collStep (s : State) (id : Nat) : Option CollStep := s.colls.find? (fun x => x.id = id)

/-- Changes an open step. -/
def State.updColl (s : State) (id : Nat) (f : CollStep → CollStep) : State :=
  { s with colls := s.colls.map (fun x => if x.id = id then f x else x) }

/-- The fields of an open step. -/
def State.collOf (s : State) (x : CollStep) : CollBody :=
  match s.flight x.id with
  | some f => collBody f.words
  | none => collBody []

/-- The members of an open step's group, as positions in the stand. -/
def State.collGroup (s : State) (x : CollStep) : List Nat :=
  (imgGroup (s.ctx x.ctx).image (s.collOf x).group).getD []

/-- The position of the module in an open step's group: the place of SELF (R194). -/
def State.collPos (s : State) (x : CollStep) : Nat := (s.collGroup x).idxOf (s.self x.ctx)

/-- A descriptor copy of a step by its number (R117). -/
def State.collDesc (s : State) (x : CollStep) (n : Nat) : Option Desc :=
  match s.flight x.id with
  | some f => (f.descs.find? (fun d => d.num = n)).map (fun d => descOf d.image)
  | none => none

/-- Makes the destination bytes of a step undefined (R212). -/
def State.loseDest (s : State) (x : CollStep) : State :=
  let b := s.collOf x
  match s.collDesc x b.ddesc with
  | none => s
  | some d =>
    (b.destRanges (s.collGroup x).length (s.collPos x)).foldl (fun t r =>
      let as := (List.range r.2).flatMap (fun k => d.linAddrs (r.1 + k))
      as.eraseDups.foldl (fun u a => match u.translate x.ctx d true a with
        | some y => u.tierLose y 1 1
        | none => u) t) s

/-- The step number that frames carry: LAST_STEPMARK of the Yarder's program, 0 before its first STEPMARK (R182,
R195). -/
def State.yarderStep (s : State) (ctx c : Nat) : Nat := ((s.stream ctx (0x88 + c)).mark).getD 0

/-- A frame header towards a member, STEP left 0 until it is sent (R182). -/
def State.headerTo (s : State) (ctx pos type len arg coll step : Nat) : Nat :=
  let e := s.member ctx pos
  frameHeader type len arg coll (bits e 53 48) step (bits e 27 12) s.incarnation (s.epoch ctx) (s.obj (okey 0x4000 1))
    (bits e 47 28)

/-- A control frame to a member. -/
def State.ctlTo (s : State) (ctx pos type arg coll step : Nat) : Frame :=
  { header := s.headerTo ctx pos type 0 arg coll step, payload := [] }

end Sys2Proof.Machine
end

