-- ==== Sys2Proof/Machine/Stand.lean ====
section
/-!
DEFINITION. Stands: collective abort (R211, R212), link faults that lead to it (R186, R190), the checks of received frames
(R195), epochs and the member table (R196).
-/

namespace Sys2Proof.Machine

/-- The index of a context's stand objects (R214). -/
def standIdx (ctx : Nat) : Nat := 0x4100 + ctx

/-- Whether a stand is fenced (R197). -/
def State.fenced (s : State) (ctx : Nat) : Bool := s.obj (okey (standIdx ctx) 2) = 1

/-- FENCE_TOKEN: the incarnation and FENCE_SEQ, which is kept at the object's place (R196). -/
def State.fenceToken (s : State) (ctx : Nat) : Nat :=
  s.incarnation * 2 ^ 16 + s.obj (okey (standIdx ctx) 3) % 2 ^ 16

/-- FENCE_SEQ increases by 1 (R196). -/
def State.bumpFence (s : State) (ctx : Nat) : State := s.addObj (okey (standIdx ctx) 3) 16 1

/-- The fault code of an abort cause (R212). -/
def causeCode (c : Nat) : Nat :=
  match c with
  | 1 => 0x1005 | 2 => 0x1006 | 3 => 0x4001 | 4 => 0x1004 | 5 => 0x1002 | 6 => 0x4002 | 7 => 0x1007 | _ => 0x1008

/-- Puts one control frame to every other VALID member on every plane that carries frames; STEP is that of the plane's own Yarder
(R176, R182). -/
def State.broadcast (s : State) (ctx type arg coll : Nat) (planes : List Nat) (flight : Option Nat) : State :=
  planes.foldl (fun t p =>
    if (t.link p).live then
      (t.validMembers ctx).foldl (fun u m =>
        if m.1 = u.self ctx then u
        else u.sendCtl p (u.ctlTo ctx m.1 type arg coll (u.yarderStep ctx (p / 2))) flight) t
    else t) s

/-- Ends the open steps of a context: their destinations become undefined, they leave their queues and release their
copies, and their waiting control frames are not sent (R212). -/
def State.dropSteps (s : State) (ctx : Nat) : State :=
  let steps := s.colls.filter (fun x => x.ctx = ctx)
  let s1 := steps.foldl (fun t x => t.loseDest x) s
  let s2 : State := { s1 with
    colls := s1.colls.filter (fun x => x.ctx ≠ ctx)
    links := s1.links.map (fun e => (e.1, { e.2 with vc1 := e.2.vc1.filter (fun o =>
      !(steps.any (fun x => o.flight = some x.id))) })) }
  steps.foldl (fun t x => match t.flight x.id with | some f => t.endFlight f | none => t) s2

/-- A context's stand aborts (R212): FENCED, LAST_ABORT, the fault and the hold, every open step ends, ABORT goes to every
other VALID member. `arg` carries on the two fields of a received ABORT (R183). A fenced stand has aborted already. -/
def State.abortStand (s : State) (ctx cause member coll yarder : Nat) (arg : Option Nat) : State :=
  if s.fenced ctx then s
  else
    let i := standIdx ctx
    let last := cause * 2 ^ 56 + member % 2 ^ 14 * 2 ^ 42 + coll % 2 ^ 16 * 2 ^ 26 + yarder % 8 * 2 ^ 23
    let s1 := ((((s.setObj (okey i 2) 1).setObj (okey i 0x0F) last).setObj (okey i 0x10) ((s.curStep ctx).getD 0)).setObj
      (okey i 0x11) (s.epoch ctx)).addObj (okey i 0x12) 32 1
    let s2 := ((s1.bumpFence ctx).report (causeCode cause) 1 (0x88 + yarder) (some ctx) member true true).hold ctx
      (causeCode cause)
    (s2.dropSteps ctx).broadcast ctx 5 (arg.getD (cause * 2 ^ 56 + s2.self ctx * 2 ^ 42)) 0 (List.range 16) none

/-- Aborts the stand of every context with an open step on a plane (R186, R212). -/
def State.abortPlane (s : State) (p cause : Nat) : State :=
  (s.colls.filter (fun x => ((s.collOf x).planeList x.yarder).contains p)).foldl (fun t x =>
    t.abortStand x.ctx cause 0 (s.collOf x).coll x.yarder none) s

/-- The source of a link's own faults: a plane or a Planer (R290). -/
def State.reportLink (s : State) (n code : Nat) : State :=
  if n < 16 then s.report code 4 n none 0 false false else s.report code 5 (n - 16) none 0 false false

/-- A link enters FAULT: its retransmission buffer is discarded, a LINK_CMD that runs ends refused, the fault is reported,
open steps with a stripe on the plane abort (R186, R190, R191, R212, R214). -/
def State.faultLink (s : State) (n code cause : Nat) : State :=
  let s1 := ((s.setLink n .fault 0).updLink n (fun l => { l with
    buf := [], nak := false, vc0 := [], tx := [], units := [], rx := [], rxNext := none, sync := true })).endLinkCmd n 3
  let s2 := s1.reportLink n code
  if n < 16 then s2.abortPlane n cause else s2

/-- PLANE_DOWN, or PLANER_LINK_DOWN for a Planer link (R190). -/
def downCode (n : Nat) : Nat := if n < 16 then 0x1002 else 0x1003

/-- Resends after a NAK or the silence timer, or the end of the link when a frame would be sent a fifth time (R186). -/
def State.recoverLink (s : State) (n : Nat) : State :=
  let l := s.link n
  if l.buf = [] then s
  else if l.exhausted then (s.addObj (okey (linkIndex n) 6) 16 1).faultLink n 0x1004 4
  else s.resendAll n true

/-! ### Checks of received frames (R195) -/

/-- The context at the destination (R182). -/
def rxCtx (f : Frame) : Nat := bits f.header 165 160

/-- What the checks of R195 find. -/
structure Accepted where
  ctx  : Nat
  pos  : Nat
  step : Option CollStep
  deriving DecidableEq, Repr

/-- Stripes that a step receives from each sender on each plane: one, two for an AR in two phases, one a round for RING. -/
def CollBody.stripes (b : CollBody) (f : Format) : Nat :=
  if b.op = 0xA6 then b.rounds else if b.op = 0xA2 && !b.oneshot f then 2 else 1

/-- The wire format of an open step. -/
def CollStep.format (x : CollStep) : Format := (Format.ofCode x.fmt).getD .bf16

/-- The key of a per-position, per-plane count. -/
def pkeyOf (pos plane : Nat) : Nat := 16 * pos + plane

/-- ENDs received from a position on a plane. -/
def CollStep.endsOf (x : CollStep) (pos plane : Nat) : Nat := Tab.get 0 x.ends (pkeyOf pos plane)

/-- Whether OFFSET and LEN keep a DATA frame within its piece (R195; log entry 27). -/
def State.inPiece (s : State) (x : CollStep) (pos plane : Nat) (f : Frame) : Bool :=
  match Format.ofCode (rxFmt f) with
  | none => false
  | some fmt =>
    let b := s.collOf x
    let n := b.pieceElems x.format (s.collGroup x).length (s.collPos x) pos (x.endsOf pos plane)
    1 ≤ f.len && f.len ≤ 64 && (if fmt.isMx then
      rxOff f % 64 = 0 && rxFirst f < n && f.len ≤ ceilDiv (wireBytes fmt (min (frameElems fmt) (n - rxFirst f))) 64
    else rxOff f + f.len ≤ ceilDiv (wireBytes fmt n) 64)

/-- Counts a dropped frame at a stand object. -/
def State.dropCount (s : State) (ctx sub : Nat) : State := s.addObj (okey (standIdx ctx) sub) 32 1

/-- The VALID member that a frame names as its source (R195). -/
def State.sourceOf (s : State) (f : Frame) : Option (Nat × Nat) :=
  (s.validMembers (rxCtx f)).find? (fun m => bits m.2 47 28 = bits f.header 63 44)

/-- Whether an open step awaits a member at a stand position: DATA or END missing, a first grant missing, or a COMMIT
missing (R195, R212). -/
def State.awaits (s : State) (x : CollStep) (m : Nat) : Bool :=
  let b := s.collOf x
  let g := s.collGroup x
  let pos := g.idxOf m
  let n := g.length
  let k := s.collPos x
  g.contains m && pos ≠ k &&
    (((b.senders n k).contains pos && (b.planeList x.yarder).any (fun p => x.endsOf pos p < b.stripes x.format))
      || x.out.any (fun o => o.dest = pos && Tab.get 0 x.grant (pkeyOf pos o.plane) ≤ Tab.get 0 x.sent (pkeyOf pos o.plane))
      || (b.op = 0xA7 && !x.commits.contains pos))

/-- The first five checks of R195, common to every frame; the error is the state after the drop. -/
def State.checkStand (s : State) (plane : Nat) (f : Frame) : Except State (Nat × Nat) :=
  let ctx := rxCtx f
  let h := f.header
  if bits h 43 24 ≠ s.obj (okey 0x4000 1) then .error (s.addObj (okey 0x4000 7) 32 1)
  else if s.epoch ctx = 0 || bits h 95 64 ≠ s.epoch ctx then .error (s.dropCount ctx 0x0B)
  else if bits h 127 112 ≠ s.incarnation then .error (s.dropCount ctx 0x0C)
  else match s.sourceOf f with
    | none => .error (s.dropCount ctx 0x0D)
    | some m =>
      if bits h 111 96 ≠ bits m.2 27 12 then
        let s1 := s.dropCount ctx 0x0C
        match s.colls.find? (fun x => x.ctx = ctx && s.awaits x m.1) with
        | some x => .error (s1.abortStand ctx 2 m.1 (s.collOf x).coll x.yarder none)
        | none => .error s1
      else if plane < 16 then .ok (ctx, m.1) else .error s

/-- The checks of R195 for a DATA or END frame beyond the common ones. -/
def State.checkData (s : State) (plane : Nat) (f : Frame) : Except State Accepted :=
  match s.checkStand plane f with
  | .error t => .error t
  | .ok (ctx, m) =>
    let c := plane / 2
    let coll := bits f.header 183 168
    match (s.openSteps ctx c).find? (fun x => (s.collOf x).coll = coll) with
    | none => .error (s.dropCount ctx 0x0E)
    | some x =>
      let g := s.collGroup x
      let pos := g.idxOf m
      let b := s.collOf x
      if !(g.contains m && (b.senders g.length (s.collPos x)).contains pos && (b.planeList c).contains plane) then
        .error ((s.dropCount ctx 0x0D).abortStand ctx 3 m coll c none)
      else if bits f.header 159 128 ≠ s.yarderStep ctx c then .error (s.abortStand ctx 6 m coll c none)
      else if f.type = 1 && (rxFmt f = 0 || 9 < rxFmt f || ((rxFmt f = 2 || rxFmt f = 3) && rxTsc f = 0xFF)
          || !s.inPiece x pos plane f) then .error (s.abortStand ctx 3 m coll c none)
      else .ok { ctx := ctx, pos := pos, step := some x }

/-- The head of a plane's inbox when it has a type. -/
def State.inboxHead (s : State) (plane type : Nat) : Option Frame :=
  if plane < 16 && s.dieRuns then
    match (s.link plane).inbox with
    | [] => none
    | f :: _ => if f.type = type then some f else none
  else none

/-- The Yarder of a plane has accepted a frame of a context (R311). -/
def State.yarderWork (s : State) (plane ctx : Nat) : State := s.noteWork (nodeId 5 (plane / 2)) ctx

/-- Takes the head of a plane's inbox. -/
def State.popInbox (s : State) (plane : Nat) : State := s.updLink plane (fun l => { l with inbox := l.inbox.drop 1 })

/-- ABORT accepted: the stand aborts with ABORT_RECEIVED and passes both fields on (R183, R212). -/
def abortReceived (s : State) (plane : Nat) : State :=
  match s.inboxHead plane 5 with
  | none => s
  | some f =>
    match (s.popInbox plane).checkStand plane f with
    | .error t => t
    | .ok (ctx, _) =>
      ((s.popInbox plane).yarderWork plane ctx).abortStand ctx 7 (bits f.header 247 234) 0 (plane / 2) (some (bits f.header 255 192))

/-- BEAT accepted: it only shows that the member lives (R211; log entry 2). -/
def beatReceived (s : State) (plane : Nat) : State :=
  match s.inboxHead plane 4 with
  | none => s
  | some f =>
    match (s.popInbox plane).checkStand plane f with
    | .error t => t
    | .ok (ctx, _) => (s.popInbox plane).yarderWork plane ctx

/-- The first collective step at or after a position of a program: its COLL, FFFFh when there is none (R183). -/
def nextColl (m : Mem) (owner : Nat) (pos : Nat) : Nat → Nat
  | 0 => 0xFFFF
  | k + 1 =>
    let w := imgWord m owner pos
    let op := fld w 127 120
    if 0xA0 ≤ op && op ≤ 0xA7 then fld (imgWord m owner (pos + 2)) 127 112 else nextColl m owner (pos + 1) k

/-- Words of an owner's program. -/
def progLen (m : Mem) (owner : Nat) : Nat := match imgStream m owner with | some e => e.2 | none => 0

/-- BEAT_TIMER of a context: one BEAT to every other VALID member on the plane whose turn it is (R211). -/
def beatTimer (s : State) (ctx : Nat) : State :=
  let planes := (List.range 16).filter (fun p => (s.link p).live)
  if !s.dieRuns || !s.loaded ctx || (s.ctx ctx).held || s.epoch ctx = 0 || s.fenced ctx || planes = [] then s
  else
    let turn := Tab.get 0 s.beatTurn ctx
    let p := planes.getD (turn % planes.length) 0
    let o := 0x88 + p / 2
    let m := (s.ctx ctx).image
    let pos := (s.stream ctx o).pos
    let coll := if (s.stream ctx o).ended then 0xFFFF else nextColl m o pos (progLen m o - pos)
    let s1 : State := { s with beatTurn := Tab.put 0 s.beatTurn ctx (turn + 1) }
    s1.broadcast ctx 4 (coll * 2 ^ 48) 0 [p] none

/-- NO_PROGRESS of a member while an open step awaits it (R212). -/
def noProgress (s : State) (ctx member : Nat) : State :=
  if !s.dieRuns then s
  else match s.colls.find? (fun x => x.ctx = ctx && s.awaits x member) with
    | some x => s.abortStand ctx 1 member (s.collOf x).coll x.yarder none
    | none => s

/-! ### The stand objects (R196) -/

/-- Whether any Yarder has an open step of a context (R196). -/
def State.anyOpen (s : State) (ctx : Nat) : Bool := s.colls.any (fun x => x.ctx = ctx)

/-- The reason that refuses EPOCH_CMD, 0 when it is accepted (R196). -/
def State.epochReason (s : State) (path ctx : Nat) : Nat :=
  let i := standIdx ctx
  if s.pobj path (okey i 5) ≠ s.fenceToken ctx then 1
  else if s.pobj path (okey i 4) ≤ s.epoch ctx then 2
  else if s.anyOpen ctx then 3
  else if !memberValid (s.member ctx (s.self ctx)) then 4
  else 0

/-- Restarts the prepared counts of a context's slots (R237). -/
def State.restartDone (s : State) (ctx : Nat) : State :=
  { s with slots := s.slots.map (fun e => (e.1, if e.2.owner = some ctx then { e.2 with done := [] } else e.2)) }

/-- EPOCH_CMD (R196); an accepted epoch clears SKEW_LATCH, restarts the prepared counts (R237, R245) and does what
`onEpoch` adds for the Scaler (R296). -/
def epochCmd (onEpoch : State → Nat → State) (s : State) (path ctx : Nat) : State :=
  let i := standIdx ctx
  s.onCmd path (okey i 6) (fun s =>
    let r := s.epochReason path ctx
    let s1 := s.setObj (okey i 0x13) r
    if r ≠ 0 then s1.setObj (okey i 6) 3
    else
      let s2 := ((((s1.setObj (okey i 1) (s.pobj path (okey i 4))).setObj (okey i 2) 0).bumpFence ctx).setObj
        (okey (0x32C0 + ctx) 8) 0).restartDone ctx
      (onEpoch s2 ctx).setObj (okey i 6) 2)

/-- The reason in STAND_RESULT that refuses a member entry at a position (R196). -/
def State.entryReason (s : State) (ctx sel v : Nat) : Option Nat :=
  if s.anyOpen ctx then some 3
  else if memberValid v && (s.validMembers ctx).any (fun m => m.1 ≠ sel && bits m.2 47 28 = bits v 47 28) then some 5
  else if bits v 62 54 ≠ 0 || bits v 11 0 ≠ 0 then some 6
  else none

/-- MEMBERS counts the VALID entries (R214). -/
def State.showMembers (s : State) (ctx : Nat) : State := s.setObj (okey (standIdx ctx) 0x0A) (s.validMembers ctx).length

/-- A write of MEMBER_ENTRY on a path (R196, R336). -/
def memberEntryWrite (s : State) (path ctx v : Nat) : State :=
  let i := standIdx ctx
  let sel := s.pobj path (okey i 8)
  match s.entryReason ctx sel v with
  | some r =>
    s.onWrite path (okey i 9) none (fun s =>
      (s.setObj (okey i 0x13) r).dictRefuse path (okey i 9) (if r = 6 then 4 else 8))
  | none =>
    s.onWrite path (okey i 9) none (fun s =>
      ({ s with members := Tab.put 0 s.members (ctx * 16384 + sel) v } : State).showMembers ctx)

/-- A write of SELF (R196). -/
def selfWrite (s : State) (path ctx v : Nat) : State :=
  let i := standIdx ctx
  if s.anyOpen ctx then
    s.onWrite path (okey i 7) none (fun s => (s.setObj (okey i 0x13) 3).dictRefuse path (okey i 7) 8)
  else if 16383 < v then s.onWrite path (okey i 7) (some 3) id
  else s.onWrite path (okey i 7) none (fun s => s.setObj (okey i 7) v)

end Sys2Proof.Machine
end

