-- ==== Sys2Proof/Machine/LinkRows.lean ====
section
/-!
DEFINITION. The rows of Charun Link: codewords (R178, R179), reception and sending of frames (R185 to R187), training,
width and retraining (R189 to R191).
-/

namespace Sys2Proof.Machine

/-! ### Training and width -/

/-- A link as training finds it: new sequence numbers, credits, buffers and scramblers (R177, R189). -/
def freshLink (n : Nat) (st : LinkSt) : Link := { st := st, lane := if st = .training then seedLanes n else [] }

/-- LINK_CMD 1: DISABLED or FAULT to TRAINING, else a refusal with reason STATE (R189). -/
def linkTrain (s : State) (path n : Nat) : State :=
  let k := okey (linkIndex n) 2
  s.onWrite path k (if (s.link n).st = .disabled || (s.link n).st = .fault then none else some 8) (fun s =>
    ((s.updLink n (fun _ => freshLink n .training)).showLanes n).setObj k 1)

/-- LINK_CMD 2: DISABLED from any state; open steps on a plane that was up abort (R189, R212). A training that runs is
ended by it (log entry 31). -/
def linkDisable (s : State) (path n : Nat) : State :=
  let k := okey (linkIndex n) 2
  if s.access path (linkIndex n) ≠ 0 then s.unserved path (linkIndex n)
  else
    let was := (s.link n).st
    let s1 := ((s.updLink n (fun _ => freshLink n .disabled)).showLanes n).setObj k 2
    if n < 16 && (was = .up || was = .degraded || was = .retraining) then s1.abortPlane n 5 else s1

/-- A link enters RETRAINING: frames stop, sequence numbers, credits and the buffer stay; excluded lanes are those of
`cut` (R191). The bytes of frames in both directions are dropped, since every outstanding frame is resent. -/
def State.startRetrain (s : State) (n cut : Nat) : State :=
  (s.updLink n (fun l => { l with
    st := .retraining, cut := cut, tx := [], units := [], rx := [], rxNext := none, sync := true })).showLanes n

/-- LINK_CMD 3: an UP or DEGRADED link retrains with every lane offered again (R191). -/
def linkRetrain (s : State) (path n : Nat) : State :=
  let k := okey (linkIndex n) 2
  s.onWrite path k (if (s.link n).live then none else some 8) (fun s => (s.startRetrain n 0).setObj k 1)

/-- The lanes active at both ends of a link: those that trained, and that the far end's LANEMAP names where one has come (R179,
R189). -/
def Link.both (l : Link) (lanes : Nat) : Nat := match l.far with | some m => lanes &&& m | none => lanes

/-- TRAINING_COMPLETE with the lanes that trained: UP or DEGRADED (R189). -/
def trainingComplete (s : State) (n lanes : Nat) : State :=
  let m := (s.link n).both (lanes % 2 ^ linkLanes n)
  if (s.link n).st = .training && s.minWidth n ≤ popCount m 12 then
    (s.setLink n (upState n m) m).endLinkCmd n 2
  else s

/-- TRAINING_TIMEOUT: the link enters FAULT and TRAIN_FAIL is reported (R189, R214). -/
def trainingTimeout (s : State) (n : Nat) : State :=
  if (s.link n).st = .training then ((s.setLink n .fault 0).endLinkCmd n 3).reportLink n 0x1009 else s

/-- RETRAIN_COMPLETE with the lanes that trained: UP or DEGRADED, every outstanding frame resent, not counted among its
four sendings (R191). -/
def retrainComplete (s : State) (n lanes : Nat) : State :=
  let l := s.link n
  let m := l.both ((lanes % 2 ^ linkLanes n) &&& (2 ^ linkLanes n - 1 - l.cut))
  if l.st = .retraining && s.minWidth n ≤ popCount m 12 then
    ((s.setLink n (upState n m) m).endLinkCmd n 2).resendAll n false
  else s

/-- RETRAIN_TIMEOUT: FAULT, the buffer discarded, the fault reported (R191). -/
def retrainTimeout (s : State) (n : Nat) : State :=
  if (s.link n).st = .retraining then s.faultLink n (downCode n) 5 else s

/-- A lane leaves its link: with LANE_DEGRADE_EN and enough lanes left both ends retrain without it, else FAULT
(R190). -/
def State.laneDown (s : State) (lane : Nat) : State :=
  let n := laneLink lane
  let k := laneBit lane
  let l := s.link n
  if !(l.live && bit l.lanes k) then s
  else if s.obj (okey 0x4000 3) = 1 && s.minWidth n ≤ l.width - 1 then
    ((s.updLink n (fun x => { x with lanes := x.lanes - 2 ^ k })).startRetrain n (l.cut + 2 ^ k)).report 0x1001 3 lane none 0
      false false
  else s.faultLink n (downCode n) 5

/-- LANE_LOSS_OF_LOCK (R190). -/
def laneLossOfLock (s : State) (lane : Nat) : State := s.laneDown lane

/-- LANE_ERROR_THRESHOLD (R190). -/
def laneErrorThreshold (s : State) (lane : Nat) : State := s.laneDown lane

/-! ### Codewords (R178, R179) -/

/-- Whether a codeword is not older than the highest CWSEQ decoded, modulo 2³² (R179). -/
def newer (cw : Nat) : Option Nat → Bool
  | none => true
  | some old => cwFrom cw old

/-- What a decoded CCW does: ACK, credits, LANEMAP, a retrain request, and a NAK not yet answered while the link still carries
frames (R179, R186, R191; log entry 29). Lanes excluded here, and lanes that the request's LANEMAP leaves out, stay excluded
until a LINK_CMD retrain (R190). -/
def State.takeCcw (s : State) (n ccw : Nat) : State :=
  let l := s.link n
  let ack := bits ccw 155 144
  if !newer (bits ccw 95 64) l.cwseq then s
  else
    let s1 := s.updLink n (fun x => { x with
      cwseq := some (bits ccw 95 64)
      buf := ackDrop ack x.buf
      lim0 := credRaise x.lim0 (bits ccw 130 115)
      lim1 := credRaise x.lim1 (bits ccw 114 99)
      far := some (bits ccw 142 131)
      farNak := if bit ccw 143 then some ack else none })
    if bits ccw 98 96 = 2 && l.live then s1.startRetrain n (l.cut ||| (l.lanes &&& (4095 - bits ccw 142 131)))
    else if bit ccw 143 && l.live && l.farNak ≠ some ack then s1.recoverLink n else s1

/-! ### Frames (R185 to R187, R225) -/

/-- Whether a link takes a frame: fabric planes types 1h to 7h (R183), Planer links DATA of a transfer kind 01h to 09h,
which is the top byte of the transfer header that the payload begins with (R225 to R227). -/
def linkTakes (n : Nat) (f : Frame) : Bool :=
  if n < 16 then 1 ≤ f.type && f.type ≤ 7 else f.type = 1 && 1 ≤ f.payload.getD 63 0 && f.payload.getD 63 0 ≤ 9

/-- A frame arrives with a good or bad link CRC: acceptance by LSEQ and CRC, NAK, the units that it used (R185, R187); a frame
that the link does not take is discarded and counted (R183, R225, R227). -/
def State.frameArrive (s : State) (n : Nat) (f : Frame) (good : Bool) : State :=
  let l := s.link n
  let idx := linkIndex n
  if !l.live then s
  else
    let next := f.lseq = l.rxSeq
    let s1 := s.updLink n (fun x => { x with
      got0 := if f.type = 1 then x.got0 + f.units else x.got0
      got1 := if f.type = 1 then x.got1 else x.got1 + f.units })
    if !(good && next) then
      let s2 := if good then s1 else s1.addObj (okey idx 7) 32 1
      if next then s2.updLink n (fun x => { x with nak := true }) else s2
    else
      let s2 := (s1.updLink n (fun x => { x with rxSeq := (x.rxSeq + 1) % 4096, nak := false })).addObj (okey idx 4) 64 1
      if linkTakes n f then s2.updLink n (fun x => { x with inbox := x.inbox ++ [f] }) else s2.addObj (okey idx 7) 32 1

/-- FRAME_RECEIVE: a frame with the link CRC of its trailer (R184, R185). -/
def frameReceive (s : State) (n : Nat) (f : Frame) (crc : Nat) : State := s.frameArrive n f (crc = f.crc)

/-- A frame whose first eight bytes lie in an uncorrectable codeword: discarded and counted; since its LSEQ is lost with them, the
next expected frame is asked for again (R178, R185; log entry 96). -/
def State.frameLost (s : State) (n : Nat) : State :=
  (s.updLink n (fun x => { x with nak := true, sync := false })).addObj (okey (linkIndex n) 7) 32 1

/-- Drops bytes from the front of the received stream. -/
def State.dropRxBytes (s : State) (n k : Nat) : State := s.updLink n (fun x => { x with rx := x.rx.drop k })

/-- Cuts the received byte stream into frames (R181); `k` cuts at most. After a lost header the next frame is found by its link
CRC (log entry 96). -/
def State.deframeLink (s : State) (n : Nat) : Nat → State
  | 0 => s
  | k + 1 =>
    let l := s.link n
    match deframe l.rx with
    | .more => s
    | .idle m => (s.dropRxBytes n m).deframeLink n k
    | .lost m => ((if l.sync then s.frameLost n else s).dropRxBytes n m).deframeLink n k
    | .bad m h =>
      if l.sync then ((s.frameArrive n { header := h, payload := [] } false).dropRxBytes n m).deframeLink n k
      else (s.dropRxBytes n 8).deframeLink n k
    | .frame m h p c =>
      let f : Frame := { header := h, payload := p }
      if l.sync || c = f.crc then
        ((frameReceive (s.updLink n (fun x => { x with sync := true })) n f c).dropRxBytes n m).deframeLink n k
      else (s.dropRxBytes n 8).deframeLink n k

/-! ### Codewords that are received (R177 to R180) -/

/-- A lane brings a unit, or the loss of one: complete rows join the byte stream, which is cut into frames (R180, R181). -/
def State.takeUnit (s : State) (n k cw : Nat) (bytes : Option (List Nat)) : State :=
  let s1 := s.updLink n (fun x =>
    let y : Link := { x with lane := Tab.update {} x.lane k (fun z => { z with rxCw := (cw + 1) % 2 ^ 32 }) }
    let u := y.takeUnit ((Tab.get {} y.lane k).far.getD k) cw bytes
    u.gather (u.units.length + 33))
  s1.deframeLink n ((s1.link n).rx.length / 8 + 1)

/-- CODEWORD_RECEIVE on a lane: the 5,440 received bits are descrambled and decoded; up to 8 symbols are corrected, more make it
uncorrectable, and its unit is lost (R177, R178, R214). -/
def codewordReceive (s : State) (lane word : Nat) : State :=
  let n := laneLink lane
  let b := laneBit lane
  let l := s.link n
  let o := 0xA000 + lane
  if l.st = .disabled || l.st = .fault then s
  else
    let z := Tab.get {} l.lane b
    let p := prbsCodeword z.rxScr
    let s0 := s.updLink n (fun x => { x with lane := Tab.update {} x.lane b (fun y => { y with rxScr := p.2 }) })
    match decodeCodeword (word ^^^ p.1) with
    | none => (s0.addObj (okey o 3) 32 1).takeUnit n b z.rxCw none
    | some (data, ccw, errs) =>
      let s1 := (s0.addObj (okey o 2) 64 errs).setObj (okey o 4) (max errs (s0.obj (okey o 4)))
      let s2 := s1.updLink n (fun x => { x with
        lane := Tab.update {} x.lane b (fun y => { y with far := some (bits ccw 159 156) }) })
      (s2.takeCcw n ccw).takeUnit n b (bits ccw 95 64) (some data)

/-! ### Sending (R186, R187, R203, R205) -/

/-- The entry of an open step that may be sent on a plane now: the first of the step's present round on the plane, under
the destination's grant; an END needs a first grant (R203, R205, R209). -/
def CollStep.sendable (x : CollStep) (plane : Nat) : Option OutEntry :=
  match x.out with
  | [] => none
  | h :: _ =>
    match x.out.find? (fun o => o.round = h.round && o.plane = plane) with
    | none => none
    | some o =>
      let k := pkeyOf o.dest plane
      let g := Tab.get 0 x.grant k
      if (if o.last then 0 < g else Tab.get 0 x.sent k < g) then some o else none

/-- Removes the first entry of a plane from a list. -/
def dropEntry (plane : Nat) : List OutEntry → List OutEntry
  | [] => []
  | o :: t => if o.plane = plane then t else o :: dropEntry plane t

/-- Sends an entry of an open step: STEP is the sender's step now (R182). -/
def State.sendEntry (s : State) (plane : Nat) (x : CollStep) (o : OutEntry) : State :=
  let f : Frame := { o.frame with header := o.frame.header + s.yarderStep x.ctx x.yarder * 2 ^ 128 }
  let k := pkeyOf o.dest plane
  let s1 := s.updColl x.id (fun y => { y with
    out := dropEntry plane y.out
    sent := if o.last then y.sent else Tab.put 0 y.sent k (Tab.get 0 y.sent k + 1) })
  let s2 := if o.last then s1 else s1.addObj (okey (0x4200 + x.yarder) 6) 64 (64 * f.len)
  s2.startFrame plane f (some x.id)

/-- The first of a Yarder's candidate frames in the turn of the contexts (R277). -/
def State.frameTurn (s : State) (c : Nat) (es : List (CollStep × OutEntry)) : Option (CollStep × OutEntry) :=
  (turnOrder (Tab.get 0 s.turns (256 + c))).findSome? (fun i => es.find? (fun e => e.1.ctx = i))

/-- Sends an entry of an open step; the turn passes on from its context (R277). -/
def State.sendTurn (s : State) (plane : Nat) (x : CollStep) (o : OutEntry) : State :=
  let s1 := s.sendEntry plane x o
  { s1 with turns := Tab.put 0 s1.turns (256 + plane / 2) (x.ctx + 1) }

/-- FRAME_SEND on a link: a VC1 frame that its credits allow goes before any DATA frame (R187); with none of its own, a plane
takes a frame that an open step may send, frame by frame in turn between contexts (R277), and a Planer link the next frame of
its transfers (R225). -/
def frameSend (s : State) (n : Nat) : State :=
  let l := s.link n
  if !l.live || !s.dieRuns then s
  else
    let steps := if n < 16 then (s.colls.filter (fun x => x.yarder = n / 2)).filterMap (fun x =>
      (x.sendable n).map (fun o => (x, o))) else []
    let ready := fun (f : Frame) => l.fits f && l.room f
    match l.vc1 with
    | o :: t =>
      if ready o.frame then
        (s.updLink n (fun x => { x with vc1 := t })).startFrame n o.frame o.flight
      else s
    | [] =>
      match s.frameTurn (n / 2) (steps.filter (fun e => e.2.last && ready e.2.frame)) with
      | some e => s.sendTurn n e.1 e.2
      | none =>
        match s.frameTurn (n / 2) (steps.filter (fun e => !e.2.last && ready e.2.frame)) with
        | some e => s.sendTurn n e.1 e.2
        | none =>
          match l.vc0 with
          | o :: t => if ready o.frame then (s.updLink n (fun x => { x with vc0 := t })).startFrame n o.frame o.flight else s
          | [] => s

/-- RETRANSMIT_TIMEOUT: frames are outstanding and ACK has stood still (R186). -/
def retransmitTimeout (s : State) (n : Nat) : State := if (s.link n).live then s.recoverLink n else s

end Sys2Proof.Machine
end

