-- ==== Sys2Proof/Machine/Yarder.lean ====
section
/-!
DEFINITION. The Yarders: dispatch and start of collective steps (R197 to R203, R205, R210, R218), reception (R195, R203,
R206, R209), rounds of RING (R210), reduction and output (R206 to R208), completion (R202), relays and remote credits
(R204).
-/

namespace Sys2Proof.Machine

/-! ### Dispatch -/

/-- The descriptors that a step names, with the directions it needs (R117, R201). -/
def CollBody.uses (b : CollBody) : List (Nat × Bool × Bool) :=
  (match b.op with
   | 0xA4 => []
   | 0xA7 => []
   | _ => [(b.sdesc, true, false)]) ++
  (match b.op with
   | 0xA3 => []
   | 0xA7 => []
   | 0xA0 => if b.topl then [] else [(b.ddesc, false, true)]
   | _ => [(b.ddesc, false, true)]) ++
  (if b.op = 0xA5 then [(b.cdesc, true, true)] else [])

/-- The planes of a step that keep it from dispatching: DISABLED, TRAINING or FAULT (R197). -/
def State.deadPlane (s : State) (b : CollBody) (c : Nat) : Option Nat :=
  (b.planeList c).find? (fun p => !((s.link p).live || (s.link p).st = .retraining))

/-- The key of a Scaler slot. -/
def scalerKey (ctx slot : Nat) : Nat := ctx * 2048 + slot

/-- The wire format and tensor scale of a step: the Scaler's choice for an RS with SCAL (R199, R218, R297). -/
def State.wireChoice (s : State) (ctx : Nat) (b : CollBody) : Nat × Nat :=
  if b.scal then (Tab.get {} s.scaler (scalerKey ctx b.lslot)).choice else (b.wfmt, b.wtsc)

/-- The element ranges of a step by descriptor number (R199). -/
def CollBody.ranges (b : CollBody) (n k : Nat) : List (Nat × Nat × Nat × Bool) :=
  (b.srcRanges n).map (fun r => (b.sdesc, r.1, r.2, false))
    ++ (b.destRanges n k).map (fun r => (b.ddesc, r.1, r.2, true))
    ++ (if b.op = 0xA5 then [(b.cdesc, 0, 2 * n, false), (b.cdesc, n, n, true)] else [])

/-- Whether a write of n elements from element i on reaches a serving slot's buffer that is not FILLING (R255). -/
def State.linBusy (s : State) (ctx : Nat) (d : Desc) (i n : Nat) : Bool :=
  (List.range n).any (fun k => (d.linAddrs (i + k)).any (fun a => match s.translate ctx d true a with
    | some x => s.weightBusy x 1
    | none => false))

/-- The tier address of the first byte of a step's element ranges. -/
def State.rangesFirst (s : State) (ctx : Nat) (rs : List (Nat × Nat × Nat × Bool)) : Nat :=
  match rs with
  | [] => 0
  | r :: _ =>
    let d := descOf (s.desc ctx r.1).image
    let a := (d.linAddrs r.2.1).headD 0
    (s.translate ctx d r.2.2.2 a).getD a

/-- What keeps a collective step from dispatching: no stand, a dead plane, a descriptor, an element out of range, a region
that is not resident (R117, R141, R197, R199), a DETERMINISTIC context without its Scaler state (R298). The answer is a
fault code with DETAIL. -/
def State.collFault (s : State) (h : Head) (b : CollBody) : Option (Nat × Nat) :=
  let m := (s.ctx h.ctx).image
  let g := (imgGroup m b.group).getD []
  let k := g.idxOf (s.self h.ctx)
  if s.epoch h.ctx = 0 || s.fenced h.ctx then some (0x500E, 0)
  else match s.deadPlane b (h.unit - 0x88) with
    | some p => some (0x1002, p)
    | none =>
      if (imgGroup m b.group).isNone then some (0x500F, 0)
      else if b.uses.any (fun u => (s.useDesc h.ctx u.1 u.2.1 u.2.2).isNone) then some (0x5008, 0)
      else
        let rs := b.ranges g.length k
        let desc := fun n => descOf (s.desc h.ctx n).image
        if rs.any (fun r => (desc r.1).elems < r.2.1 + r.2.2.1) then some (0x5008, 0)
        else match s.notResident (rs.flatMap (fun r => s.linRegions h.ctx (desc r.1) r.2.2.2 r.2.1 r.2.2.1)) with
          | some code => some (code, accessDetail code (s.rangesFirst h.ctx rs))
          | none =>
            if s.serving ≠ [] && rs.any (fun r => r.2.2.2 && s.linBusy h.ctx (desc r.1) r.2.1 r.2.2.1) then
              some (0x5013, s.rangesFirst h.ctx rs)
            else if b.scal && imgDet m && (Tab.get {} s.scalerC h.ctx).missing then some (0x400B, 0) else none

/-- Grants a sender its first frames on every plane of a step (R203). -/
def State.grantFirst (s : State) (ctx id : Nat) (b : CollBody) (c : Nat) (g : List Nat) (pos : Nat) : State :=
  (b.planeList c).foldl (fun t p =>
    t.sendCtl p (t.ctlTo ctx (g.getD pos 0) 3 (t.obj (okey 0x4000 6) * 2 ^ 32) b.coll (t.yarderStep ctx c)) (some id)) s

/-- The key of a grant that precedes its step: collective, plane, member (R203; log entry 84). -/
def earlyKey (coll plane member : Nat) : Nat := coll * 2 ^ 20 + plane * 2 ^ 16 + member

/-- Whether such a grant is for a collective of Yarder c. -/
def earlyMine (coll c : Nat) (e : Nat × Nat) : Bool := e.1 / 2 ^ 20 = coll && e.1 / 2 ^ 17 % 8 = c

/-- The grants of members of a group that have arrived for a collective of Yarder c, by position and plane. -/
def State.earlyGrants (s : State) (ctx coll c : Nat) (g : List Nat) : Tab Nat :=
  ((s.ctx ctx).early.filter (earlyMine coll c)).foldl (fun t e =>
    Tab.put 0 t (pkeyOf (g.idxOf (e.1 % 2 ^ 16)) (e.1 / 2 ^ 16 % 16)) e.2) []

/-- A step opens: it is listed with the grants that have come before it, and every sender is granted RXWIN frames on each
plane (R202, R203). -/
def State.openColl (s : State) (h : Head) (b : CollBody) : State :=
  let c := h.unit - 0x88
  let g := (imgGroup (s.ctx h.ctx).image b.group).getD []
  let k := g.idxOf (s.self h.ctx)
  let w := s.wireChoice h.ctx b
  let x : CollStep := { id := s.nextId, ctx := h.ctx, yarder := c, fmt := w.1, tsc := w.2
                        grant := s.earlyGrants h.ctx b.coll c g }
  let s1 := ({ s with colls := s.colls ++ [x] } : State).updCtx h.ctx (fun y =>
    { y with early := y.early.filter (fun e => !earlyMine b.coll c e) })
  (b.senders g.length k).foldl (fun t p => t.grantFirst h.ctx s.nextId b c g p) s1

/-- The flight of a collective step: copies of its descriptors, the regions it touches. -/
def State.collFlight (s : State) (h : Head) (b : CollBody) : Flight :=
  let g := (imgGroup (s.ctx h.ctx).image b.group).getD []
  let rs := b.ranges g.length (g.idxOf (s.self h.ctx))
  { h.flight .unit with
    descs := ((b.uses.map (fun u => u.1)).eraseDups).map (s.copyOf h.ctx)
    regions := (rs.flatMap (fun r =>
      s.linRegions h.ctx (descOf (s.desc h.ctx r.1).image) r.2.2.2 r.2.1 r.2.2.1)).eraseDups }

/-- Dispatch of a data-carrying collective step of opcode `op`; the step opens (R202). -/
def State.dispatchColl (s : State) (sh : Shell) (op : Nat) : State :=
  s.dispatch sh op (fun _ => .unit) (fun h =>
    let b := collBody h.words
    match s.collFault h b with
    | some e => .error (s.holdHead h e.1 e.2)
    | none => .ok (s.collFlight h b, s.openColl h b))

/-! ### Sending -/

/-- The frames of a piece: ARG and payload, one after another (R182, R205). -/
def pieceFrames (fmt round tsc : Nat) (payloads : List (List Nat)) : List (Nat × List Nat) :=
  payloads.mapIdx (fun i p => (dataArg (64 * i) fmt round tsc, p))

/-- A member position's entries for a piece of frames, ARG with payload, dealt over the planes; then one END per plane (R205,
R209). -/
def State.pieceEntries (s : State) (x : CollStep) (dest round : Nat) (frames : List (Nat × List Nat)) : List OutEntry :=
  let b := s.collOf x
  let g := s.collGroup x
  let planes := b.planeList x.yarder
  let planeOf := fun (i : Nat) => planes.getD (i % planes.length) 0
  let head := fun type len arg => s.headerTo x.ctx (g.getD dest 0) type len arg b.coll 0
  let data := frames.mapIdx (fun i p =>
    ({ dest := dest, plane := planeOf i, round := round, last := false
       frame := { header := head 1 (p.2.length / 64) p.1, payload := p.2 } } : OutEntry))
  let ends := planes.map (fun p =>
    let bs := (frames.mapIdx (fun i y => if planeOf i = p then y.2 else [])).flatten
    ({ dest := dest, plane := p, round := round, last := true
       frame := { header := head 2 0 (crc64 bs), payload := [] } } : OutEntry))
  data ++ ends

/-- Queues pieces on an open step. -/
def State.queueOut (s : State) (id : Nat) (es : List OutEntry) : State :=
  s.updColl id (fun x => { x with out := x.out ++ es })

/-- The destinations of rounds 1 to N − 1 from position k: round and position (R205). -/
def roundDests (n k : Nat) : List (Nat × Nat) := (List.range (n - 1)).map (fun r => (r + 1, (k + r + 1) % n))

/-- Values in their wire form, decoded to binary32 (R59, R205, R210). -/
def wireForm (f : Format) (tsc : Nat) (vals : List Val) : List RVal :=
  (chunksOf (frameElems f) vals vals.length).flatMap (fun c =>
    (payloadVals f tsc c.length (framePayload f tsc c)).map decodeR)

/-- The biased exponent bin of a binary32 value (R296). -/
def expBin (v : F32) : Nat := bits v.toNat 30 23

/-- Counts the source of an RS with SCAL into the slot's pending histogram, with the format used and whether the wire
conversion saturated (R296, R298). -/
def State.countSource (s : State) (x : CollStep) (b : CollBody) (vals : List Val) : State :=
  if !b.scal then s
  else
    let sat := ((chunksOf 32 vals vals.length).any (fun c =>
      (convert (plainParams x.format x.tsc) (c.map (fun v => (0, v)))).2.2.saturated))
    { s with scaler := Tab.update {} s.scaler (scalerKey x.ctx b.lslot) (fun z => { z with
        pend := vals.foldl (fun p v => let k := expBin (decodeF32 0 v).1
                                       Tab.put 0 p k (min (2 ^ 32 - 1) (Tab.get 0 p k + 1))) z.pend
        pendSat := z.pendSat || sat
        used := some (x.fmt, x.tsc) }) }

/-- A count of the A2A table: a whole number from 0 to CAP, or none (R210). -/
def wholeCount (cap : Nat) (v : Val) : Option Nat :=
  (List.range (cap + 1)).find? (fun n => v.eqv (.fin false n 0))

/-- What a data-carrying step sends when it starts, and its own elements; none where an A2A count is bad (R205, R206,
R210). -/
def State.firstPieces (s : State) (x : CollStep) : Option (List RVal × List OutEntry) :=
  let b := s.collOf x
  let g := s.collGroup x
  let n := g.length
  let k := s.collPos x
  let f := x.format
  let src := fun i len => match s.collDesc x b.sdesc with
    | some d => s.linVals x.ctx d (b.sstart + i) len
    | none => []
  let piece := fun dest round vals =>
    s.pieceEntries x dest round (pieceFrames x.fmt round x.tsc (piecePayloads f x.tsc vals))
  let rs : Unit → List RVal × List OutEntry := fun _ =>
    let own := b.chunk n k
    ((src own.1 own.2).map decodeR,
      (roundDests n k).flatMap (fun e => let ch := b.chunk n e.2
                                         piece e.2 e.1 (src ch.1 ch.2)))
  let all : Unit → List RVal × List OutEntry := fun _ =>
    let vals := src 0 b.count
    (wireForm f x.tsc vals, (roundDests n k).flatMap (fun e => piece e.2 e.1 vals))
  match b.op with
  | 0xA0 => some (rs ())
  | 0xA1 => some (all ())
  | 0xA2 => some (if b.oneshot f then all () else rs ())
  | 0xA3 => some ([], piece b.peer 1 (src 0 b.count))
  | 0xA5 =>
    let cnt := match s.collDesc x b.cdesc with
      | some d => (s.linVals x.ctx d 0 n).map (wholeCount b.cap)
      | none => []
    if cnt.any (·.isNone) then none
    else
      let rows := fun dest => (cnt.getD dest none).getD 0
      some (wireForm f x.tsc (src (k * b.cap * b.count) (rows k * b.count)),
        (roundDests n k).flatMap (fun e =>
          piece e.2 e.1 (src (e.2 * b.cap * b.count) (rows e.2 * b.count))))
  | _ => some ([], [])

/-- What a step reads when it starts, in order: for A2A the counts, then the source, as descriptor, first element, elements
(R199, R210). -/
def State.startReads (s : State) (x : CollStep) : List (Desc × Nat × Nat) :=
  let b := s.collOf x
  let n := (s.collGroup x).length
  (if b.op = 0xA5 then (s.collDesc x b.cdesc).toList.map (fun d => (d, 0, n)) else [])
    ++ (b.srcRanges n).filterMap (fun r => (s.collDesc x b.sdesc).map (fun d => (d, r.1, r.2)))

/-- The first address that C6 translation does not permit the step to read (R135). -/
def State.sourceBlocked (s : State) (x : CollStep) : Option Nat :=
  (s.startReads x).findSome? (fun r => s.linBlocked x.ctx r.1 false r.2.1 r.2.2)

/-- Counts the reads of a step that starts (R174). -/
def State.countReads (s : State) (x : CollStep) : State :=
  (s.startReads x).foldl (fun t r => t.countElems x.ctx r.1 r.2.1 r.2.2 r.2.2) s

/-- The tier address of the k-th element that a step reads when it starts (R150). -/
def State.readAddr (s : State) (x : CollStep) (k : Nat) : Option Nat :=
  match ((s.startReads x).flatMap (fun r => (List.range r.2.2).map (fun i => (r.1, r.2.1 + i))))[k]? with
  | some e => s.translate x.ctx e.1 false ((e.1.linAddrs e.2).headD 0)
  | none => none

/-- The tier address of the first byte that a starting step reads behind a PHY that is out of lock (R361). -/
def State.readDown (s : State) (x : CollStep) : Option Nat :=
  if !s.physDown then none
  else (s.startReads x).findSome? (fun r => (List.range r.2.2).findSome? (fun k =>
    ((r.1.linAddrs (r.2.1 + k)).filterMap (s.translate x.ctx r.1 false)).find? (fun a => s.phyDown (s.resolve a))))

/-- Removes a step from the open ones. -/
def State.closeColl (s : State) (id : Nat) : State := { s with colls := s.colls.filter (fun x => x.id ≠ id) }

/-! ### RING (R210) -/

/-- The frames of the block that a RING step received in round r. -/
def CollStep.ringBlock (x : CollStep) (r : Nat) : List RxFrame := x.rx.filter (fun f => f.phase + 1 = r)

/-- Lays frames in the order of their offsets. -/
def insertFrame (f : RxFrame) : List RxFrame → List RxFrame
  | [] => [f]
  | g :: t => if rxOff f.frame ≤ rxOff g.frame then f :: g :: t else g :: insertFrame f t

/-- Queues the send of round r = sends begun + 1 when its block is there and RCRED has a credit, which is taken (R210). -/
def State.ringSend (s : State) (id : Nat) : State :=
  match s.collStep id with
  | none => s
  | some x =>
    let b := s.collOf x
    let n := (s.collGroup x).length
    let r := x.phase + 1
    let owner := 0x88 + x.yarder
    let kc := ckey x.ctx owner b.rcred
    if b.op ≠ 0xA6 || !x.started || b.rounds < r || x.rounds + 1 < r || s.credits x.ctx owner b.rcred = 0 then s
    else
      let next := (s.collPos x + 1) % n
      let es := if r = 1 then
          match s.collDesc x b.sdesc with
          | some d => s.pieceEntries x next r
              (pieceFrames x.fmt r x.tsc (piecePayloads x.format x.tsc (s.linVals x.ctx d b.sstart b.count)))
          | none => []
        else
          s.pieceEntries x next r (((x.ringBlock (r - 1)).foldr insertFrame []).map (fun f =>
            (dataArg (rxOff f.frame) (rxFmt f.frame) r (rxTsc f.frame), f.frame.payload)))
      let s1 : State := { s with cred := Tab.put 0 s.cred kc (Tab.get 0 s.cred kc - 1) }
      (s1.updColl id (fun y => { y with phase := r })).queueOut id es

/-! ### Relays and remote credits (R204) -/

/-- Whether a counter of a Yarder is the LREL of an open RING step: that step and how many releases it allows. -/
def State.ringGate (s : State) (ctx owner k : Nat) : Option (CollStep × Nat) :=
  match (s.openSteps ctx (owner - 0x88)).find? (fun x =>
    (s.collOf x).op = 0xA6 && (s.collOf x).lrel = k) with
  | none => none
  | some x =>
    let sent := if x.out = [] then x.phase else x.phase - 1
    some (x, if (s.collOf x).rounds ≤ sent then x.relayed + 65536 else sent - 1)

/-- The plane that carries a Yarder's CREDIT frames: the first of its two that carries frames (log entry 33). -/
def State.creditPlane (s : State) (c : Nat) : Nat := if (s.link (2 * c)).live then 2 * c else 2 * c + 1

/-- Sends n credits to the member that a relay binding names (R183, R204). -/
def State.sendCredit (s : State) (ctx c : Nat) (b : BindEntry) (n : Nat) : State :=
  let pos := ((imgGroup (s.ctx ctx).image b.group).getD []).getD b.position 0
  s.sendCtl (s.creditPlane c) (s.ctlTo ctx pos 7 (b.remote % 64 * 2 ^ 58 + n * 2 ^ 42) 0 (s.yarderStep ctx c)) none

/-- Relays the tokens of a relay counter: each is acquired at once and sent as one credit (R204); those of a RING step's
LREL wait for the step's own sends (R210). -/
def State.relayCounter (s : State) (ctx owner k : Nat) : State :=
  match (imgBindsOf (s.ctx ctx).image owner k false).find? (fun b => b.isRelay) with
  | none => s
  | some b =>
    let have_ := s.avail ctx owner k
    let gate := s.ringGate ctx owner k
    let n := match gate with
      | none => have_
      | some g => min have_ (g.2 - g.1.relayed)
    if n = 0 then s
    else
      let key := ckey ctx owner k
      let s1 : State := { s with acq := Tab.put 0 s.acq key (Tab.get 0 s.acq key + BitVec.ofNat 16 n) }
      let s2 := match gate with
        | none => s1
        | some g => s1.updColl g.1.id (fun x => { x with relayed := x.relayed + n })
      (List.range n).foldl (fun t _ => t.sendCredit ctx (owner - 0x88) b 1) s2

/-- The relay of an open RING step. -/
def State.ringRelay (s : State) (id : Nat) : State :=
  match s.collStep id with
  | some x => if (s.collOf x).op = 0xA6 then s.relayCounter x.ctx (0x88 + x.yarder) (s.collOf x).lrel else s
  | none => s

/-! ### Reduction (R206, R207, R210) -/

/-- Combines two binary32 values: sum or maximum (R206); a saturated decode stays known. -/
def combine (red : Nat) (a v : RVal) : RVal := (if red = 2 then f32Max a.1 v.1 else f32Add a.1 v.1, a.2 || v.2)

/-- The values of a received frame within a piece of n elements (R59, R206). -/
def RxFrame.vals (r : RxFrame) (n : Nat) : List RVal :=
  (payloadVals (rxFormat r.frame) (rxTsc r.frame) (min (rxRoom r.frame) (n - rxFirst r.frame)) r.frame.payload).map decodeR

/-- Combines a received frame into an accumulator. -/
def addFrame (red : Nat) (acc : List RVal) (r : RxFrame) : List RVal :=
  let vs := r.vals acc.length
  let i := rxFirst r.frame
  acc.take i ++ List.zipWith (combine red) (acc.drop i) vs ++ acc.drop (i + vs.length)

/-- Whether a step combines in fixed order (R206, R207). -/
def State.fixedOrder (s : State) (x : CollStep) : Bool := (s.collOf x).det || imgDet (s.ctx x.ctx).image

/-- The reduced chunk of position k from phase 0 frames: in order d = 1 … N − 1 of positions (k − d) mod N, or in order of
arrival (R206). -/
def State.reduced (s : State) (x : CollStep) : List RVal :=
  let b := s.collOf x
  let n := (s.collGroup x).length
  let k := s.collPos x
  let fs := x.rx.filter (fun r => r.phase = 0)
  let ordered := if s.fixedOrder x then
      ((List.range (n - 1)).map (fun d => (k + n - (d + 1)) % n)).flatMap (fun p => fs.filter (fun r => r.pos = p))
    else fs
  ordered.foldl (addFrame b.red) x.own

/-- The block received from a position, in binary32, each frame laid at its place. -/
def CollStep.block (x : CollStep) (pos phase n : Nat) : List RVal :=
  (x.rx.filter (fun r => r.pos = pos && r.phase = phase)).foldl (fun acc r =>
    let vs := r.vals n
    acc.take (rxFirst r.frame) ++ vs ++ acc.drop (rxFirst r.frame + vs.length)) (List.replicate n (0, false))

/-- The sum over all positions in position order, starting from position 0 (R210, ONESHOT). -/
def State.oneshotSum (s : State) (x : CollStep) : List RVal :=
  let b := s.collOf x
  let n := (s.collGroup x).length
  let k := s.collPos x
  let part := fun p => if p = k then x.own else x.block p 0 b.count
  (List.range (n - 1)).foldl (fun acc p => List.zipWith (combine b.red) acc (part (p + 1))) (part 0)

/-- Whole rows received from a position of an A2A (R210). -/
def CollStep.rowsFrom (x : CollStep) (pos count cap : Nat) : Nat :=
  let es := (x.rx.filter (fun r => r.pos = pos)).map (fun r => rxRoom r.frame)
  if count = 0 then 0 else min cap (es.foldl (· + ·) 0 / count)

/-! ### Progress and output -/

/-- Whether every stripe of a phase has passed its check, from every sender on every plane (R202, R209). -/
def State.stripesDone (s : State) (x : CollStep) (want : Nat) : Bool :=
  let b := s.collOf x
  (b.senders (s.collGroup x).length (s.collPos x)).all (fun p =>
    (b.planeList x.yarder).all (fun pl => want ≤ x.endsOf p pl))

/-- Passes output statuses to the Scaler (R208, R293). -/
def State.pushStats (s : State) (x : CollStep) (sts : List (Nat × Stat)) : State :=
  { s with scalerQ := s.scalerQ ++ sts.reverse.map (fun e =>
    { ctx := x.ctx, kind := 1, source := 0x88 + x.yarder, item := e.1, stat := e.2, ovf := false, ovfPos := 0 }) }

/-- Writes segments of a step's output, each from a destination element beyond DSTART up, with their statuses (R199, R208); the
first byte that may not be written, where there is one (R135). -/
def State.output (s : State) (x : CollStep) (segs : List (Nat × List RVal)) : State × Option AccStop :=
  let b := s.collOf x
  match s.collDesc x b.ddesc with
  | none => (s, none)
  | some d =>
    let r := s.writeElems x.ctx d (b.conv d) (segs.map (fun g => (b.dstart + g.1, g.2)))
    (r.1.pushStats x r.2.1, r.2.2)

/-- An AR moves from its reduce-scatter to its gather when every piece has arrived (R210). -/
def State.arAdvance (s : State) (id : Nat) : State :=
  match s.collStep id with
  | none => s
  | some x =>
    let b := s.collOf x
    if b.op = 0xA2 && !b.oneshot x.format && x.started && x.phase = 0 && s.stripesDone x 1 then
      let g := s.collGroup x
      let acc := s.reduced x
      let vals := acc.map (fun v => valOf v.1)
      let own := List.zipWith (fun w v => (w.1, w.2 || v.2)) (wireForm x.format x.tsc vals) acc
      (s.updColl id (fun y => { y with phase := 1, own := own })).queueOut id
        ((roundDests g.length (s.collPos x)).flatMap (fun e =>
          (s.pieceEntries x e.2 e.1 (pieceFrames x.fmt e.1 x.tsc (piecePayloads x.format x.tsc vals))).map (fun o =>
            { o with round := o.round + g.length })))
    else s

/-- A RING round whose block has been received and checked: the block is written, and every round but the last posts the
header post now (R202, R210). -/
def State.ringAdvance (s : State) (id : Nat) : State :=
  match s.collStep id with
  | none => s
  | some x =>
    let b := s.collOf x
    if b.op = 0xA6 && x.started && x.rounds < b.rounds && s.stripesDone x (x.rounds + 1) then
      let n := (s.collGroup x).length
      let from_ := (s.collPos x + n - 1) % n
      let r := s.output x [(x.rounds % 2 * b.count, x.block from_ x.rounds b.count)]
      match s.flight id, r.2 with
      | some f, some a => (r.1.closeColl id).accFault f a.1 a.2
      | f?, _ =>
        let s2 := r.1.updColl id (fun y => { y with rounds := y.rounds + 1 })
        let s3 := if x.rounds + 1 < b.rounds then
            match f? with
            | some f => s2.issuePost f.ctx f.owner f.w0
            | none => s2
          else s2
        (s3.ringSend id).ringRelay id
    else s

/-- Lets an open step go on after an event. -/
def State.advance (s : State) (id : Nat) : State := ((s.arAdvance id).ringAdvance id).ringSend id

/-- A collective step starts on its Yarder: it reads its source and queues what it sends (R205, R210). `err` is the number of
the element read whose access fails beyond correction, where one does (R150). -/
def State.startColl (s : State) (id op : Nat) (err : Option Nat) : State :=
  match s.startableStep id op with
  | none => s
  | some f =>
    match s.collStep id with
    | none => s
    | some x =>
      match s.sourceBlocked x, (err.bind (s.readAddr x)).or (s.readDown x) with
      | some a, _ => (s.closeColl id).c6Fault f a
      | none, some a => (s.closeColl id).memFault f a
      | none, none =>
        let b := s.collOf x
        let s0 := (s.countReads x).updFlight id (fun g => { g with phase := .running })
        match s.firstPieces x with
        | none => s0.holdShell 0x5010 f.owner f.ctx 0
        | some e =>
          let s1 := (s0.updColl id (fun y => { y with started := true, own := e.1 })).queueOut id e.2
          let s2 := match s.collDesc x b.sdesc with
            | some d => if b.scal then s1.countSource x b (s.linVals x.ctx d b.sstart b.count) else s1
            | none => s1
          s2.advance id

/-! ### Reception -/

/-- Whether a DATA frame of a fixed-order reduction arrives before its turn (R206). -/
def State.isParked (s : State) (x : CollStep) (pos plane : Nat) : Bool :=
  let b := s.collOf x
  let n := (s.collGroup x).length
  let k := s.collPos x
  (b.op = 0xA0 || (b.op = 0xA2 && !b.oneshot x.format && x.phase = 0)) && s.fixedOrder x
    && (List.range (n - 1)).any (fun d =>
      let p := (k + n - (d + 1)) % n
      d + 1 < (k + n - pos) % n && x.endsOf p plane = 0)

/-- An accepted DATA frame (R203, R206, R209): kept for its step, counted, its payload run through the stripe CRC, a new
grant after every 16 frames consumed. -/
def State.takeData (s : State) (x : CollStep) (pos plane : Nat) (f : Frame) : State :=
  let b := s.collOf x
  let k := pkeyOf pos plane
  let n := Tab.get 0 x.cnt k + 1
  let s1 := s.updColl x.id (fun y => { y with
    rx := y.rx ++ [{ pos := pos, phase := y.endsOf pos plane, frame := f }]
    cnt := Tab.put 0 y.cnt k n
    crc := Tab.put 0 y.crc k (crc64Run (Tab.get 0 y.crc k ^^^ 0xFFFFFFFFFFFFFFFF) f.payload ^^^ 0xFFFFFFFFFFFFFFFF) })
  let s2 := s1.addObj (okey (0x4200 + x.yarder) 7) 64 (64 * f.len)
  let s3 := if s.isParked x pos plane then s2.addObj (okey (0x4200 + x.yarder) 8) 64 (64 * f.len) else s2
  if n % 16 = 0 then
    s3.sendCtl plane (s3.ctlTo x.ctx ((s.collGroup x).getD pos 0) 3 ((s.obj (okey 0x4000 6) + n) * 2 ^ 32) b.coll
      (s3.yarderStep x.ctx x.yarder)) (some x.id)
  else s3

/-- DATA: the head of a plane's inbox (R195, R206). -/
def dataReceived (s : State) (plane : Nat) : State :=
  match s.inboxHead plane 1 with
  | none => s
  | some f =>
    let s0 := s.popInbox plane
    match s0.checkData plane f with
    | .error t => t
    | .ok a => match a.step with
      | some x => (s0.yarderWork plane x.ctx).takeData x a.pos plane f
      | none => s0

/-- END_FRAME: the stripe's CRC-64 over the accepted payload must equal ARG (R209). -/
def endReceived (s : State) (plane : Nat) : State :=
  match s.inboxHead plane 2 with
  | none => s
  | some f =>
    let s0 := s.popInbox plane
    match s0.checkData plane f with
    | .error t => t
    | .ok a => match a.step with
      | none => s0
      | some x =>
        let k := pkeyOf a.pos plane
        if Tab.get 0 x.crc k ≠ bits f.header 255 192 then
          s0.abortStand a.ctx 3 ((s.collGroup x).getD a.pos 0) (s.collOf x).coll x.yarder none
        else ((s0.yarderWork plane x.ctx).updColl x.id (fun y => { y with
          crc := Tab.put 0 y.crc k 0, ends := Tab.put 0 y.ends k (y.endsOf a.pos plane + 1) })).advance x.id

/-- ECRED: the cumulative grant of a destination on a plane rises (R183, R203); one that comes before its step opens is kept for
it, since R195 asks no open step of an ECRED (log entry 84). -/
def ecredReceived (s : State) (plane : Nat) : State :=
  match s.inboxHead plane 3 with
  | none => s
  | some f =>
    match (s.popInbox plane).checkStand plane f with
    | .error t => t
    | .ok (ctx, m) =>
      let s0 := (s.popInbox plane).yarderWork plane ctx
      match (s0.openSteps ctx (plane / 2)).find? (fun x => (s0.collOf x).coll = bits f.header 183 168) with
      | none =>
        let k := earlyKey (bits f.header 183 168) plane m
        s0.updCtx ctx (fun y => { y with early := Tab.put 0 y.early k (max (Tab.get 0 y.early k) (bits f.header 255 224)) })
      | some x =>
        let k := pkeyOf ((s0.collGroup x).idxOf m) plane
        s0.updColl x.id (fun y => { y with grant := Tab.put 0 y.grant k (max (Tab.get 0 y.grant k) (bits f.header 255 224)) })

/-- CREDIT: remote credits reach a bound credit counter of the Yarder, or are handled under R37 (R204). -/
def creditReceived (s : State) (plane : Nat) : State :=
  match s.inboxHead plane 7 with
  | none => s
  | some f =>
    match (s.popInbox plane).checkStand plane f with
    | .error t => t
    | .ok (ctx, m) =>
      let s0 := (s.popInbox plane).yarderWork plane ctx
      let owner := 0x88 + plane / 2
      let k := bits f.header 255 250
      let img := (s0.ctx ctx).image
      if !s0.loaded ctx then s0
      else match (imgBindsOf img owner k true).find? (fun b =>
          b.party = 3 && ((imgGroup img b.group).getD []).getD b.position 16384 = m) with
        | none => s0.holdShell 0x5004 owner ctx 0
        | some b =>
          let key := ckey ctx owner k
          let v := (Tab.get 0 s0.cred key).toNat + bits f.header 249 234
          if v > b.capacity then s0.holdShell 0x5005 owner ctx 0
          else
            let s1 : State := { s0 with cred := Tab.put 0 s0.cred key (BitVec.ofNat 16 v) }
            (s1.openSteps ctx (plane / 2)).foldl (fun t x => t.ringSend x.id) s1

/-- What a token or credit that has reached a Yarder's counter sets going: a relay, or a RING step that waited on RCRED
(R204, R210). -/
def State.wakeYarder (s : State) (ctx owner k : Nat) : State :=
  if 0x88 ≤ owner && owner ≤ 0x8F then
    let s1 := s.relayCounter ctx owner k
    (s1.openSteps ctx (owner - 0x88)).foldl (fun t x => t.ringSend x.id) s1
  else s

/-! ### Completion -/

/-- Whether every frame that a step sends has been sent and covered by a link ACK (R202). -/
def State.sentAll (s : State) (x : CollStep) : Bool :=
  x.out = [] && s.links.all (fun e =>
    e.2.buf.all (fun t => t.flight ≠ some x.id) && e.2.vc1.all (fun o => o.flight ≠ some x.id))

/-- The granules of a TOPL chunk (R205, R208, R229): the chunk converted by W3 into the format of the owner's own pieces,
cut into granules of 65,536 elements, values then a 2,048-B scale array for formats 4h to 9h. -/
def State.toplGranules (s : State) (x : CollStep) (b : CollBody) (vals : List RVal) : List Granule × List (Nat × Stat) :=
  let f := x.format
  let p : ConvParams := { s := b.s, b := b.b, lo := b.lo, hi := b.hi, fmt := f, tscale := x.tsc }
  let gs := (chunksOf 65536 vals vals.length).mapIdx (fun j c =>
    let blocks := (chunksOf (if f.isMx then 32 else 4096) c c.length).mapIdx (fun i y =>
      let r := convert p (y.mapIdx (fun e v => (((if f.isMx then 32 else 4096) * i + e) % 4096, valOf v.1)))
      (r.1, r.2.1, { r.2.2 with saturated := r.2.2.saturated || y.any (fun v => v.2) }))
    let codes := blocks.flatMap (fun y => y.1)
    let scales := blocks.map (fun y => y.2.1)
    let gran := b.dstart / 65536 + j
    let g : Granule :=
      { id := s.nextId + j, q := gran % 4, ctx := x.ctx, slot := b.lslot, gran := gran
        step := s.yarderStep x.ctx x.yarder, epoch := s.epoch x.ctx, fmt := x.fmt, tsc := if f.isFp8 then x.tsc else 0
        data := packPad f codes ++ (if f.isMx then scales ++ List.replicate (2048 - scales.length) 0 else [])
        phase := .waiting }
    (g, blocks.mapIdx (fun i y => (16 * j + (if f.isMx then i / 128 else i), y.2.2))))
  (gs.map (fun g => g.1), (gs.flatMap (fun g => g.2)).foldl (fun a e => pushStat e.1 e.2 a) [])

/-- The rows of each position of an A2A: those the step keeps, and the whole rows received (R210). -/
def State.a2aRows (s : State) (x : CollStep) : List Nat :=
  let b := s.collOf x
  (List.range (s.collGroup x).length).map (fun m =>
    if m = s.collPos x then x.own.length / max 1 b.count else x.rowsFrom m b.count b.cap)

/-- The output of a data-carrying step as segments from DSTART up (R208, R210). -/
def State.outSegs (s : State) (x : CollStep) : List (Nat × List RVal) :=
  let b := s.collOf x
  let n := (s.collGroup x).length
  let k := s.collPos x
  match b.op with
  | 0xA0 => [(0, s.reduced x)]
  | 0xA1 => (List.range n).map (fun m => (m * b.count, if m = k then x.own else x.block m 0 b.count))
  | 0xA2 =>
    if b.oneshot x.format then [(0, s.oneshotSum x)]
    else (List.range n).map (fun m => ((b.chunk n m).1, if m = k then x.own else x.block m 1 (b.chunk n m).2))
  | 0xA4 => [(0, x.block b.peer 0 b.count)]
  | 0xA5 => (s.a2aRows x).mapIdx (fun m rows =>
      (m * b.cap * b.count, if m = k then x.own else x.block m 0 (rows * b.count)))
  | _ => []

/-- The output of a step whose stripes have all arrived (R208, R210): a TOPL chunk goes to its Planer ports; an A2A writes its
received counts after its rows. -/
def State.writeOutput (s : State) (x : CollStep) : State × Option AccStop :=
  let b := s.collOf x
  if b.op = 0xA0 && b.topl then
    let r := s.toplGranules x b (s.reduced x)
    let s1 : State := { s with portQ := s.portQ ++ r.1, nextId := s.nextId + r.1.length }
    (s1.pushStats x r.2, none)
  else
    let r := s.output x (s.outSegs x)
    match r.2, b.op, s.collDesc x b.cdesc with
    | none, 0xA5, some d =>
      let w := r.1.writeElems x.ctx d (plainParams d.fmt d.tscale)
        [((s.a2aRows x).length, (s.a2aRows x).map (fun k => (toF32 (.fin false k 0), false)))]
      (w.1, w.2.2)
    | _, _, _ => r

/-- COLLECTIVE_COMPLETE of a step: started, everything sent and acknowledged, every stripe checked; then the output is
written and the step posts (R202, R208, R30). An output access that may not be made ends it (R135, R150). -/
def collectiveComplete (s : State) (id : Nat) : State :=
  match s.collStep id, s.flight id with
  | some x, some f =>
    let b := s.collOf x
    let ready := b.op ≠ 0xA7 && x.started && s.sentAll x && s.stripesDone x (b.stripes x.format)
      && (b.op ≠ 0xA6 || (x.rounds = b.rounds && x.phase = b.rounds))
      && (b.op ≠ 0xA2 || b.oneshot x.format || x.phase = 1)
    if !ready || !s.dieRuns || s.unitDown f.owner then s
    else
      let r := s.writeOutput x
      match r.2 with
      | some a => (r.1.closeColl id).accFault f a.1 a.2
      | none => (r.1.closeColl id).complete f
  | _, _ => s

end Sys2Proof.Machine
end

