-- ==== Sys2Proof/Machine/Scaler.lean ====
section
/-!
DEFINITION. The Scaler (R293 to R298), the commit hold (R295), the sampled cross-check (R299 to R304), blaze signing
(R308), and reads and clears of the integrity objects (R335, R342).
-/

namespace Sys2Proof.Machine

/-- The index of a context's integrity objects (R310). -/
def intIdx (ctx : Nat) : Nat := 0x5100 + ctx

/-- Scaler state of a context. -/
def State.scalerCtx (s : State) (ctx : Nat) : ScalerCtx := Tab.get {} s.scalerC ctx

/-- Changes the Scaler state of a context. -/
def State.updScalerCtx (s : State) (ctx : Nat) (f : ScalerCtx → ScalerCtx) : State :=
  { s with scalerC := Tab.update {} s.scalerC ctx f }

/-- COMMIT_HOLD is set for a reason bit of HOLD_REASON; a serving context is held instead, by the code (R295). -/
def State.setCommitHold (s : State) (ctx reason code : Nat) : State :=
  let k := okey (intIdx ctx) 3
  let s1 := ((s.setFlag (okey (intIdx ctx) 1) (okey (intIdx ctx) 2)).setObj k (s.obj k ||| 2 ^ reason)).updScalerCtx ctx
    (fun c => { c with reasons := c.reasons ||| 2 ^ reason })
  if s.loaded ctx && imgServing (s.ctx ctx).image then s1.hold ctx code else s1

/-- Clears COMMIT_HOLD with its reasons (R295, R310). -/
def State.clearCommitHold (s : State) (ctx : Nat) : State :=
  (s.setObj (okey (intIdx ctx) 1) 0).setObj (okey (intIdx ctx) 3) 0

/-- The action of finding n (0 SPECIAL, 1 ACC_OVERFLOW, 2 SATURATED, 3 GRAD_JUMP) of a context (R294, R310). -/
def State.findingAction (s : State) (ctx n : Nat) : Nat :=
  let x := s.obj (okey (intIdx ctx) 5)
  bits x (31 - 2 * n) (30 - 2 * n)

/-- A finding: counted, reported under REPORT and HOLD, COMMIT_HOLD under HOLD (R294). -/
def State.finding (s : State) (ctx n kind source detail : Nat) : State :=
  let code := match n with | 0 => 0x3002 | 1 => 0x3003 | 2 => 0x3004 | _ => 0x4007
  let act := s.findingAction ctx n
  let s1 := (s.addObj (okey (intIdx ctx) (6 + n)) 64 1).updScalerCtx ctx (fun c =>
    { c with special := c.special + b2n (n = 0), overflow := c.overflow + b2n (n = 1) })
  let s2 := if act = 0 then s1
    else s1.report code kind source (some ctx) detail (act = 2 && s.loaded ctx && imgServing (s.ctx ctx).image) false
  if act = 2 then s2.setCommitHold ctx (31 - n) code else s2

/-- DETAIL of a finding: position, source, item (R294; log entry 36). -/
def findingDetail (pos source item : Nat) : Nat := pos % 2 ^ 12 + source % 2 ^ 16 * 2 ^ 12 + item % 2 ^ 32 * 2 ^ 28

/-- SCALER_RECORD: the oldest status record on its way makes its findings (R293, R294). -/
def scalerRecord (s : State) : State :=
  match s.scalerQ with
  | [] => s
  | r :: t =>
    if !s.dieRuns then s
    else
      let s0 : State := { s with scalerQ := t }
      let at_ := fun pos => findingDetail pos r.source r.item
      let s1 := if r.stat.special then s0.finding r.ctx 0 r.kind r.source (at_ r.stat.first) else s0
      let s2 := if r.ovf then s1.finding r.ctx 1 r.kind r.source (at_ r.ovfPos) else s1
      if r.stat.saturated then s2.finding r.ctx 2 r.kind r.source (at_ r.stat.first) else s2

/-! ### Gradient formats (R296 to R298) -/

/-- The sum of a window's histograms at a bin. -/
def windowBin (w : List (Tab Nat × Bool)) (b : Nat) : Nat := (w.map (fun e => Tab.get 0 e.1 b)).foldl (· + ·) 0

/-- The highest non-zero bin of a histogram, 0 where there is none. -/
def topBin (h : Nat → Nat) : Nat := ((List.range 256).filter (fun b => h b ≠ 0)).foldl max 0

/-- The lowest bin above which all but 1/1,024 of the counts lie: the loop of R297. -/
def lowBin (h : Nat → Nat) (n ehi : Nat) : Nat → Nat → Nat → Nat
  | 0, _, elo => elo
  | k + 1, acc, elo =>
    if ehi ≤ elo then elo
    else if n < (acc + h elo) * 1024 then elo else lowBin h n ehi k (acc + h elo) (elo + 1)

/-- The choice for one slot (R297). -/
def scalerChoice (force : Bool) (window : Nat) (w : List (Tab Nat × Bool)) : Nat × Nat :=
  let h := windowBin w
  if force || w.length < window || h 255 ≠ 0 || w.any (fun e => e.2) then (1, 0)
  else
    let n := ((List.range 254).map (fun b => h (b + 1))).foldl (· + ·) 0
    if n = 0 then (1, 0)
    else
      let ehi := topBin (fun b => if 1 ≤ b && b ≤ 254 then h b else 0)
      let elo := lowBin h n ehi 256 0 1
      if ehi - elo ≤ 27 then (3, min 254 (ehi - 13))
      else if ehi - elo ≤ 48 then (4, 0) else (1, 0)

/-- Slots of a context with Scaler state, in ascending order. -/
def State.scalerSlots (s : State) (ctx : Nat) : List (Nat × ScalerSlot) :=
  (s.scaler.filter (fun e => e.1 / 2048 = ctx)).map (fun e => (e.1 % 2048, e.2))

/-- Changes the Scaler state of a context's slot. -/
def State.updScaler (s : State) (ctx slot : Nat) (f : ScalerSlot → ScalerSlot) : State :=
  { s with scaler := Tab.update {} s.scaler (scalerKey ctx slot) f }

/-- Whether a slot's step histogram jumps above its full window (R294, GRAD_JUMP). -/
def State.gradJump (s : State) (ctx : Nat) (z : ScalerSlot) : Bool :=
  s.obj (okey (intIdx ctx) 0x0A) ≤ z.window.length
    && topBin (windowBin z.window) + bits (s.obj (okey (intIdx ctx) 5)) 23 16 < topBin (Tab.get 0 z.pend)

/-- A commit looks for a GRAD_JUMP in one slot's step (R294). -/
def State.jumpSlot (s : State) (ctx : Nat) (e : Nat × ScalerSlot) : State :=
  if e.2.used.isSome && s.gradJump ctx e.2 then s.finding ctx 3 7 0 (findingDetail 0 0 e.1) else s

/-- A commit closes one slot's step: its pending counts become the newest window entry, and the next choice follows
(R296, R297). -/
def State.commitSlot (s : State) (ctx : Nat) (e : Nat × ScalerSlot) : State :=
  let win := s.obj (okey (intIdx ctx) 0x0A)
  let force := s.obj (okey (intIdx ctx) 0x0B) = 1
  s.updScaler ctx e.1 (fun z =>
    let w := if z.used.isSome then ((z.pend, z.pendSat) :: z.window).take win else z.window
    { pend := [], pendSat := false, used := none, window := w
      choice := if w = [] then (1, 0) else scalerChoice force win w })

/-- The step record of a commit (R298). -/
def State.stepRecord (s : State) (ctx step : Nat) : StepRec :=
  let c := s.scalerCtx ctx
  { step := step, epoch := s.epoch ctx, det := imgDet (s.ctx ctx).image, reasons := c.reasons, checks := c.checks
    mismatch := c.mismatch, special := c.special, overflow := c.overflow
    entries := (s.scalerSlots ctx).filterMap (fun e => e.2.used.map (fun u => (e.1, u.1, u.2, e.2.pendSat))) }

/-- What a commit of a step does in the Scaler: GRAD_JUMP findings, the step record with the reasons that they raise, the windows,
the choices (R294, R296 to R298). -/
def State.scalerCommit (s : State) (ctx step : Nat) : State :=
  let s0 := (s.scalerSlots ctx).foldl (fun t e => t.jumpSlot ctx e) s
  let r := s0.stepRecord ctx step
  let s1 := (s.scalerSlots ctx).foldl (fun t e => t.commitSlot ctx e) s0
  s1.updScalerCtx ctx (fun c => { c with
    reasons := 0, checks := 0, mismatch := 0, special := 0, overflow := 0, records := (r :: c.records).take 64 })

/-- Discards a context's pending counts (R296). -/
def State.scalerDiscard (s : State) (ctx : Nat) : State :=
  (s.scalerSlots ctx).foldl (fun t e => t.updScaler ctx e.1 (fun z => { z with pend := [], pendSat := false, used := none })) s

/-- Empties a context's windows; a slot without a window carries bf16 (R296, R297). -/
def State.scalerEmpty (s : State) (ctx : Nat) : State :=
  (s.scalerSlots ctx).foldl (fun t e => t.updScaler ctx e.1 (fun z => { z with window := [], choice := (1, 0) })) s

/-- The Scaler at SET_STEP: pending counts and windows go; a DETERMINISTIC context needs an import (R296, R298). -/
def State.scalerSetStep (s : State) (ctx : Nat) : State :=
  ((s.scalerDiscard ctx).scalerEmpty ctx).updScalerCtx ctx (fun c => { c with missing := true })

/-! ### Export and import (R298, R310) -/

/-- Whether a range of tier bytes lies in one Landing-resolved allocation of a context. -/
def State.inLandingAlloc (s : State) (ctx a n : Nat) : Bool :=
  (List.range 256).any (fun k =>
    let x := s.alloc ctx k
    x.count ≠ 0 && x.first * 2 ^ 26 ≤ a && a + n ≤ (x.first + x.count) * 2 ^ 26)
    && (regionRange (a / 2 ^ 26) ((a + n - 1) / 2 ^ 26 + 1 - a / 2 ^ 26)).all (fun r => (s.region r).inLanding)

/-- Bytes of a Scaler export (R310). -/
def State.scalerBytes (s : State) (ctx : Nat) : Nat :=
  64 + s.obj (okey (intIdx ctx) 0x0A) * (s.scalerSlots ctx).length * 1028

/-- Whether SCALER_XFER may run: the context rests or holds no plan, and the range is a Landing allocation's (R298,
R310). -/
def State.xferOk (s : State) (ctx a n : Nat) : Bool :=
  (!s.loaded ctx || s.obj (okey (0x2100 + ctx) 0x0A) = 1) && a % 64 = 0 && s.inLandingAlloc ctx a n

/-- COMMITTED_STEP of a context (R247). -/
def State.committed (s : State) (ctx : Nat) : Nat := s.obj (okey (0x32C0 + ctx) 1)

/-- The word that an exported Scaler state begins with. -/
def scalerMark : Nat := 0x43533943

/-- One window entry as exported: slot, choice, SATURATED seen, entries of the window, and the 256 bins (R298, R310; log entry
37). -/
def scalerEntry (slot : Nat) (z : ScalerSlot) (j : Nat) : List Nat :=
  let w := z.window.getD j ([], false)
  leBytes 4 (slot * 2 ^ 21 + z.choice.1 * 2 ^ 17 + z.choice.2 * 2 ^ 9 + b2n w.2 * 2 ^ 8 + z.window.length)
    ++ (List.range 256).flatMap (fun b => leBytes 4 (Tab.get 0 w.1 b))

/-- The Scaler state of a context as bytes: a 64-B header with the committed step, slots and SCALER_WINDOW, then the window of
every slot in ascending order, newest first (R298, R310; log entry 37). -/
def State.scalerImage (s : State) (ctx : Nat) : List Nat :=
  let zs := s.scalerSlots ctx
  let win := s.obj (okey (intIdx ctx) 0x0A)
  leBytes 4 scalerMark ++ leBytes 4 (s.committed ctx) ++ leBytes 2 zs.length ++ leBytes 54 win
    ++ zs.flatMap (fun e => (List.range win).flatMap (scalerEntry e.1 e.2))

/-- SCALER_XFER 1 (R298). -/
def scalerExport (s : State) (path ctx : Nat) : State :=
  let k := okey (intIdx ctx) 0x0F
  s.onCmd path k (fun s =>
    let a := s.pobj path (okey (intIdx ctx) 0x0E)
    if !s.xferOk ctx a (s.scalerBytes ctx) then s.setObj k 3
    else (s.tierWriteBytes a (s.scalerImage ctx)).setObj k 2)

/-- The slot whose window of `win` entries begins at an offset: its number and state; none where the entries do not agree or name
no choice of R297. -/
def scalerSlotAt (rd : Nat → Nat) (a win : Nat) : Option (Nat × ScalerSlot) :=
  let word := fun x => leNat ((List.range 4).map (fun k => rd (x + k)))
  let h := word a
  let n := bits h 7 0
  let same := (List.range win).all (fun j => let e := word (a + 1028 * j)
                                             e / 512 = h / 512 && bits e 7 0 = n)
  let c := (bits h 20 17, bits h 16 9)
  if same && n ≤ win && (c = (1, 0) || (c.1 = 3 && c.2 ≤ 254) || c = (4, 0)) then
    some (bits h 31 21, { choice := c, window := (List.range n).map (fun j =>
      let e := a + 1028 * j
      (((List.range 256).map (fun b => (b, word (e + 4 + 4 * b)))).filter (fun x => x.2 ≠ 0), bit (word e) 8)) })
  else none

/-- Whether a list rises. -/
def rising : List Nat → Bool
  | a :: b :: t => a < b && rising (b :: t)
  | _ => true

/-- SCALER_XFER 2: the state found at the address, whichever module wrote it; bytes that are no Scaler state of this
SCALER_WINDOW are refused (R223, R298, R310; log entry 37). -/
def scalerImport (s : State) (path ctx : Nat) : State :=
  let k := okey (intIdx ctx) 0x0F
  s.onCmd path k (fun s =>
    let a := s.pobj path (okey (intIdx ctx) 0x0E)
    let rd := fun x => s.tierRead (a + x)
    let m := rd 8 + 256 * rd 9
    let win := s.obj (okey (intIdx ctx) 0x0A)
    let zs := (List.range m).map (fun i => scalerSlotAt rd (64 + 1028 * win * i) win)
    let step := leNat ((List.range 4).map (fun j => rd (4 + j)))
    if !s.xferOk ctx a 64 then s.setObj k 3
    else if leNat ((List.range 4).map rd) ≠ scalerMark || rd 10 ≠ win || 2048 < m || !s.xferOk ctx a (64 + 1028 * win * m)
        || zs.any (·.isNone) || !rising ((zs.filterMap id).map (fun e => e.1)) then s.setObj k 3
    else
      let s0 : State := { s with scaler := s.scaler.filter (fun e => e.1 / 2048 ≠ ctx) }
      let s1 := (zs.filterMap id).foldl (fun t e => t.updScaler ctx e.1 (fun _ => e.2)) s0
      (s1.updScalerCtx ctx (fun c => { c with missing := c.missing && step ≠ s.committed ctx })).setObj k 2)

/-- Whether an RS step with SCAL of a context's slot is open or has counted its source in the current step (R218). -/
def State.choiceTaken (s : State) (ctx slot : Nat) : Bool :=
  (Tab.get {} s.scaler (scalerKey ctx slot)).used.isSome
    || s.colls.any (fun x => x.ctx = ctx && (s.collOf x).scal && (s.collOf x).lslot = slot)

/-- A write of SCALER_WINDOW empties the windows (R310). A slot without a window carries bf16 (R297); within a step that has
taken the slot's choice, the choice changes with the step (R218; log entry 103). -/
def scalerWindowWrite (s : State) (path ctx v : Nat) : State :=
  let k := okey (intIdx ctx) 0x0A
  s.onWrite path k (if 1 ≤ v && v ≤ 32 then none else some 3) (fun s =>
    (s.scalerSlots ctx).foldl (fun t e => t.updScaler ctx e.1 (fun z =>
      { z with window := [], choice := if s.choiceTaken ctx e.1 then z.choice else (1, 0) })) (s.setObj k v))

/-! ### Checks and arbitration (R301 to R303) -/

/-- Whether an engine is fenced (R88). -/
def State.engFenced (s : State) (e : Nat) : Bool := s.obj (okey (0x9000 + e) 9) = 1

/-- The capture of an identifier in a phase. -/
def State.capture (s : State) (id : Nat) : Option Capture := s.captures.find? (fun c => c.id = id)

/-- Samples of a context's current step whose check or arbitration has not ended (R303). -/
def State.checksPending (s : State) (ctx : Nat) : Nat :=
  (s.captures.filter (fun c => c.ctx = ctx && c.phase ≠ .kept && some c.step = s.curStep ctx)).length

/-- Counts a check or a mismatch for the step of a capture, when that step is the current one (R298). -/
def State.countCheck (s : State) (c : Capture) (checks mismatch : Nat) : State :=
  s.updScalerCtx c.ctx (fun x => { x with checks := x.checks + checks, mismatch := x.mismatch + mismatch })

/-- The engine of a cluster that takes its next check: in round-robin, skipping fenced engines, those of a core under a
firebreak and those that run a check (R301; log entry 101). -/
def State.nextChecker (s : State) (cl : Nat) : Option Nat :=
  ((List.range 64).map (fun k => 64 * cl + (Tab.get 0 s.turns (512 + cl) + k) % 64)).find? (fun e =>
    !s.engFenced e && !s.unitDown (e / 4) && s.captures.all (fun c => c.phase ≠ .checking e))

/-- An engine takes a check or an arbitration of its cluster: the turn passes on, and the capture's bytes fill its feed buffer
(R301). -/
def State.takeCheck (s : State) (c : Capture) (e : Nat) : State :=
  ({ s with turns := Tab.put 0 s.turns (512 + e / 64) (e % 64 + 1) } : State).addObj (okey 0x3510 2) 64 c.slotBytes.length

/-- Counts the rows that a finished check has issued (R310). -/
def State.checkIssued (s : State) (c : Capture) (e : Nat) : State := s.addObj (okey (0x5200 + e) 2) 64 c.issues

/-- CHECK_START of a queued capture on the engine of cluster (c + 1) mod 8 whose turn it is (R301); an off core switches on
first (R356). -/
def checkStart (s : State) (cap e : Nat) : State :=
  match s.capture cap with
  | none => s
  | some c =>
    if c.phase = .queued && s.nextChecker ((c.engine / 64 + 1) % 8) = some e && s.dieRuns then
      (if s.unitOff (e / 4) then s.turnOn (e / 4)
       else (s.takeCheck c e).updCapture cap (fun x => { x with phase := .checking e }))
    else s

/-- CHECK_COMPLETE: the engine has replayed the capture (R301). `flip` is what a faulty engine's digest differs by, 0 on a sound
one (log entry 101). -/
def checkComplete (s : State) (cap flip : Nat) : State :=
  match s.capture cap with
  | none => s
  | some c =>
    match c.phase with
    | .checking e =>
      if !s.dieRuns || s.unitDown (e / 4) then s
      else
        let digest := c.replay ^^^ flip
        let s1 := ((s.checkIssued c e).addObj (okey 0x5010 3) 64 1).addObj (okey (0x5200 + c.engine) 3) 64 1
        if digest = c.digest then (s1.countCheck c 1 0).dropCapture cap
        else
          (((s1.countCheck c 1 1).addObj (okey 0x5010 5) 32 1).updCapture cap (fun x =>
            { x with phase := .arbitrating e, check := digest })).report 0x4008 2 c.engine (some c.ctx) 0 false false
    | _ => s

/-- Charges a confirmed mismatch to an engine; at FENCE_AFTER it is fenced (R302). -/
def State.chargeEngine (s : State) (ctx e : Nat) (v : Verdict) : State :=
  let k := okey (0x5200 + e) 1
  let n := min 255 (s.obj k + 1)
  let s1 := s.setObj k n
  if s.obj (okey 0x5010 2) ≤ n && !s.engFenced e then
    (s1.setObj (okey (0x9000 + e) 9) 1).reportV 0x400A 2 e (some ctx) 0 false false (some { v with confirmed := n })
  else s1

/-- ARBITRATION_COMPLETE on the engine of cluster (c + 2) mod 8 whose turn it is: the capture is replayed once more, and the
verdict follows (R302); an off core switches on first (R356). `flip` is as in CHECK_COMPLETE. A serving context is held by a
verdict that would set COMMIT_HOLD (R295). -/
def arbitrationComplete (s : State) (cap e flip : Nat) : State :=
  match s.capture cap with
  | none => s
  | some c =>
    match c.phase with
    | .arbitrating k =>
      if !(s.nextChecker ((c.engine / 64 + 2) % 8) = some e && s.dieRuns) then s
      else if s.unitOff (e / 4) then s.turnOn (e / 4)
      else
        let digest := c.replay ^^^ flip
        let verdict := if digest = c.digest then 1 else if digest = c.check then 2 else 3
        let charged := if verdict = 1 then k else c.engine
        let v : Verdict :=
          { verdict := verdict, engines := [c.engine, k, e], opHash := c.hash, cants := c.cants
            digests := [c.digest, c.check, digest], formats := c.formats
            confirmed := if verdict = 3 then s.obj (okey (0x5200 + c.engine) 1)
              else min 255 (s.obj (okey (0x5200 + charged) 1) + 1) }
        let held := verdict ≠ 1 && s.loaded c.ctx && imgServing (s.ctx c.ctx).image
        let s1 := ((s.takeCheck c e).checkIssued c e).reportV 0x4009 2 charged (some c.ctx) verdict held false (some v)
        let s2 := if verdict = 3 then s1 else s1.chargeEngine c.ctx charged v
        let s3 := if verdict = 2 then s2.setCommitHold c.ctx 27 0x4009
          else if verdict = 3 then s2.setCommitHold c.ctx 26 0x4009 else s2
        if verdict = 3 then s3.updCapture cap (fun x => { x with phase := .kept }) else s3.dropCapture cap
    | _ => s

/-- XCHK_CMD 1: the kept capture of XCHK_CTX is copied to XCHK_ADDR, and its slot is free again (R302, R304; log entry 37). -/
def xchkExport (s : State) (path : Nat) : State :=
  let k := okey 0x5500 3
  s.onCmd path k (fun s =>
    let ctx := s.pobj path (okey 0x5500 2)
    let a := s.pobj path (okey 0x5500 1)
    match s.captures.find? (fun c => c.ctx = ctx && c.phase = .kept) with
    | none => s.setObj k 3
    | some c =>
      if !s.inLandingAlloc ctx a (2 ^ 21) then s.setObj k 3
      else ((s.tierWriteBytes a c.slotBytes).dropCapture c.id).setObj k 2)

/-- XCHK_CMD 2: the capture at XCHK_ADDR runs under R301 and its digest is shown; a malformed header, or bytes outside a Landing
allocation of XCHK_CTX, are refused (R304, R310). -/
def xchkRun (s : State) (path : Nat) : State :=
  let k := okey 0x5500 3
  s.onCmd path k (fun s =>
    let ctx := s.pobj path (okey 0x5500 2)
    let a := s.pobj path (okey 0x5500 1)
    if !s.inLandingAlloc ctx a (2 ^ 21) then s.setObj k 3
    else match captureDigest (fun x => s.tierRead (a + x)) with
      | none => s.setObj k 3
      | some d => (s.setObj (okey 0x5500 4) d).setObj k 2)

/-! ### Blaze records, reads and clears -/

/-- Marks the oldest unsigned record of a list, which is kept newest first. -/
def signOldest : List Blaze → List Blaze
  | [] => []
  | b :: t => if t.all (fun x => x.signed) && !b.signed then { b with signed := true } :: t else b :: signOldest t

/-- BLAZE_SIGN: records are signed in SEQ order (R308). -/
def blazeSign (s : State) : State :=
  if s.dieRuns then { s with faults := { s.faults with blazes := signOldest s.faults.blazes } } else s

/-- The bytes of a signed blaze record (R306): payload and both signatures as a CBOR array. -/
def Blaze.bytes (b : Blaze) : List Nat :=
  let msg := [0x43, 0x39, 0x42, 0x4C, 0x41, 0x5A, 0x45, 0x31] ++ b.payload
  cborArray [cborBytes b.payload, cborBytes (leBytes 64 (Config.edSign 1 msg)), cborBytes (leBytes 3309 (Config.mlSign 1 msg))]

/-- FAULT_RECORD_READ on a path marks the record that its FAULT_SEL names (R291, R335). -/
def faultRecordRead (s : State) (path : Nat) : State :=
  if s.access path 0x5000 ≠ 0 then s.unserved path 0x5000
  else
    let n := s.pobj path (okey 0x5000 2)
    { s with faults := { s.faults with ring := s.faults.ring.map (fun r => if r.seq = n then { r with read := true } else r) } }

/-- The event counter of a W1C flag (R342). -/
def flagCounter (k : Nat) : Option Nat :=
  let i := k / 256
  let j := k % 256
  if k = okey 0x1210 2 || k = okey 0x5000 5 || k = okey 0x5600 7 then some (k + 1)
  else if 0x5100 ≤ i && i < 0x5140 && j = 1 then some (k + 1)
  else if 0x9000 ≤ i && i < 0x9200 && j = 7 then some (k + 1)
  else none

/-- The fault that a reason bit of HOLD_REASON stands for (R294, R302, R310). -/
def reasonCode (r : Nat) : Nat :=
  match r with
  | 31 => 0x3002 | 30 => 0x3003 | 29 => 0x3004 | 28 => 0x4007 | _ => 0x4009

/-- W1C_FLAG_CLEAR: a write of 1 clears a flag, and with COMMIT_HOLD its reasons (R310); a set in the same cycle wins and is
counted (R16, R342), which for COMMIT_HOLD is the set of a reason bit, 26 to 31. -/
def w1cFlagClear (s : State) (path k : Nat) (hwSet : Option Nat) : State :=
  match flagCounter k with
  | none => s
  | some kev =>
    s.onWrite path k none (fun s =>
      let hold := 0x5100 ≤ k / 256 && k / 256 < 0x5140
      match hwSet with
      | none => if hold then s.clearCommitHold (k / 256 - 0x5100) else s.setObj k 0
      | some r => if hold then s.setCommitHold (k / 256 - 0x5100) (26 + r % 6) (reasonCode (26 + r % 6)) else s.setFlag k kev)

end Sys2Proof.Machine
end

