-- ==== Sys2Proof/Machine/Planer.lean ====
section
/-!
DEFINITION. The Planer: layer slots and granules (R228 to R231), transfers (R226, R227), update streams (R232 to R234),
applying a granule (R236, R237), pins (R240), the commit round (R241, R242), and the actions of STEP_CMD (R245).
-/

namespace Sys2Proof.Machine

/-- What R237 finds for a granule before it is handed over. -/
inductive Placed where
  | fault | motion | ready
  deriving DecidableEq, Repr

/-- Placement faults and regions in motion of a granule (R237). -/
def State.granPlace (s : State) (ctx : Nat) (x nst g step : Nat) : Placed :=
  let st := (spanRegions (recAddr x nst g) (nst * 262144)).map s.region
  let em := (spanRegions (emitAddr x g step) (2 * granLen x g)).map s.region
  if st.any (fun r => r.home ≠ .ddr || r.planer ≠ g % 4 || !r.ownedBy ctx || r.lost)
      || em.any (fun r => !r.inLanding || r.lost) then .fault
  else if st.any (fun r => r.staged || r.busy ≠ .idle) || em.any (fun r => r.busy ≠ .idle) then .motion
  else .ready

/-- Whether a state region of a granule is staged and not BUSY while every Skidder program of the context has ended, so
that nothing can release it (R237). -/
def State.granStuck (s : State) (ctx : Nat) (x nst g : Nat) : Bool :=
  (spanRegions (recAddr x nst g) (nst * 262144)).any (fun r => (s.region r).staged && (s.region r).busy = .idle)
    && (List.range 8).all (fun c => !s.hasHead ctx (0x80 + c)
      && s.flights.all (fun f => !(f.ctx = ctx && f.owner = 0x80 + c)))

/-! ### Transfers (R226, R227) -/

end Sys2Proof.Machine

namespace Sys2Proof

/-- KIND of a transfer header. -/
def Xfer.kind (x : Xfer) : Nat := bits x.header 511 504
/-- TAG. -/
def Xfer.tag (x : Xfer) : Nat := bits x.header 503 488
/-- CTX. -/
def Xfer.ctx (x : Xfer) : Nat := bits x.header 487 482
/-- FMT. -/
def Xfer.fmt (x : Xfer) : Nat := bits x.header 481 478
/-- TSC. -/
def Xfer.tsc (x : Xfer) : Nat := bits x.header 477 470
/-- LSLOT. -/
def Xfer.lslot (x : Xfer) : Nat := bits x.header 469 459
/-- STEP. -/
def Xfer.step (x : Xfer) : Nat := bits x.header 447 416
/-- EPOCH. -/
def Xfer.epoch (x : Xfer) : Nat := bits x.header 415 384
/-- GRANULE. -/
def Xfer.granule (x : Xfer) : Nat := bits x.header 383 352
/-- ADDR. -/
def Xfer.addr (x : Xfer) : Nat := bits x.header 351 306
/-- LEN. -/
def Xfer.len (x : Xfer) : Nat := bits x.header 287 272
/-- CODE. -/
def Xfer.code (x : Xfer) : Nat := bits x.header 271 256
/-- CRC64. -/
def Xfer.crc64 (x : Xfer) : Nat := bits x.header 223 160

end Sys2Proof

namespace Sys2Proof.Machine

/-- The bytes that the last frame of a transfer carries, of at most 4,032 a frame, and their offset (R225, R226; log
entry 32). -/
def lastFrame (n : Nat) : Nat × Nat := if n = 0 then (0, 0) else (n - (n - 1) / 4032 * 4032, (n - 1) / 4032 * 4032)

/-- A transfer with the header of its last frame (R226). -/
def mkXfer (kind tag ctx fmt tsc lslot ustream step epoch gran addr code : Nat) (withCrc : Bool) (data : List Nat) :
    Xfer :=
  let l := lastFrame data.length
  { header := kind * 2 ^ 504 + tag * 2 ^ 488 + ctx * 2 ^ 482 + fmt * 2 ^ 478 + tsc * 2 ^ 470 + lslot * 2 ^ 459
      + ustream * 2 ^ 453 + 2 ^ 452 + step % 2 ^ 32 * 2 ^ 416 + epoch % 2 ^ 32 * 2 ^ 384 + gran * 2 ^ 352 + addr * 2 ^ 306
      + l.1 * 2 ^ 272 + code * 2 ^ 256 + l.2 * 2 ^ 224 + (if withCrc then crc64 data * 2 ^ 160 else 0)
    data := data }

/-- A transfer leaves for the other side of Planer link q. -/
def State.sendXfer (s : State) (q : Nat) (x : Xfer) : State := { s with out := s.out ++ [.xfer q x] }

/-- The transfer header of the frame that carries `n` bytes from an offset on; LAST and CRC64 stand in the last frame only
(R226). -/
def xferHead (x : Xfer) (last : Bool) (off n : Nat) : Nat :=
  let base := x.header - x.header / 2 ^ 452 % 2 * 2 ^ 452 - x.len * 2 ^ 272 - bits x.header 255 224 * 2 ^ 224
    - x.crc64 * 2 ^ 160
  base + b2n last * 2 ^ 452 + n * 2 ^ 272 + off * 2 ^ 224 + (if last then x.crc64 * 2 ^ 160 else 0)

/-- The DATA frames of a transfer: a 64-B transfer header and up to 4,032 B of its data in each (R182, R225). -/
def xferFrames (x : Xfer) (inc : Nat) : List Frame :=
  let parts := if x.data = [] then [[]] else chunksOf 4032 x.data x.data.length
  parts.mapIdx (fun i d =>
    let last := decide (i + 1 = parts.length)
    let n := if x.data = [] then x.len else d.length
    let body := pad64 (leBytes 64 (xferHead x last (4032 * i) n) ++ d)
    { header := frameHeader 1 (body.length / 64) 0 0 0 0 0 inc 0 0 0, payload := body })

/-- The die sends a transfer to Planer q: it leaves the port, and its frames wait on the link (R225). -/
def State.dieXfer (s : State) (q : Nat) (x : Xfer) : State :=
  (s.sendXfer q x).updLink (16 + q) (fun l => if l.live then
    { l with vc0 := l.vc0 ++ (xferFrames x s.incarnation).map (fun f => { frame := f, flight := none }) } else l)

/-- Whether Planer q and its link work. -/
def State.planerUp (s : State) (q : Nat) : Bool :=
  q < 4 && s.dieRuns && (s.link (16 + q)).live && !s.unitDown (0x90 + q)

/-- A message about a granule, under the TAG of its transfer (R226). -/
def Granule.message (g : Granule) (kind code : Nat) : Xfer :=
  mkXfer kind g.tag g.ctx 0 0 g.slot 0 g.step g.epoch g.gran 0 code false []

/-! ### Hand-over and reception (R236, R237) -/

/-- A granule that cannot be placed is reported and holds its context (R237): once, until the hold has been released. -/
def State.handoffFault (s : State) (g : Granule) : State :=
  if g.told && (s.ctx g.ctx).held then s
  else
    let s1 : State := { s with portQ := s.portQ.map (fun r => if r.id = g.id then { r with told := true } else r) }
    s1.holdShell 0x5011 (0x90 + g.q) g.ctx g.gran

/-- Planer port q moves bytes or takes a response for a context (R311). -/
def State.portWork (s : State) (q ctx : Nat) : State := s.noteWork (nodeId 6 q) ctx

/-- A granule leaves its Planer port as a GRAD transfer (R237). -/
def State.handOver (s : State) (g : Granule) : State :=
  let x := (s.slot g.slot).image
  let s1 : State := { s with portQ := s.portQ.filter (fun r => r.id ≠ g.id) }
  (s1.portWork g.q g.ctx).dieXfer g.q (mkXfer 5 0 g.ctx g.fmt g.tsc g.slot (slotStream x) g.step g.epoch g.gran (emitAddr x g.gran g.step) 0
    true g.data)

/-- What a Planer port does with a granule that is placed as it finds: `stuck` tells that what it waits for cannot end
(R237). -/
def State.handoffAt (s : State) (g : Granule) (stuck : Bool) : Placed → State
  | .fault => s.handoffFault g
  | .motion => if stuck then s.handoffFault g else s
  | .ready => s.handOver g

/-- GRANULE_HANDOFF of a granule at its Planer port (R237). -/
def granuleHandoff (s : State) (id : Nat) : State :=
  match s.portQ.find? (fun g => g.id = id) with
  | none => s
  | some g =>
    if !s.planerUp g.q || 32 ≤ (s.rxBuf.filter (fun r => r.q = g.q)).length then s
    else match s.streamOf (s.slot g.slot) with
      | none => s.handoffFault g
      | some u =>
        let x := (s.slot g.slot).image
        s.handoffAt g (s.granStuck g.ctx x u.nstate g.gran) (s.granPlace g.ctx x u.nstate g.gran g.step)

/-- What R236 finds for a granule that has passed its CRC. -/
inductive GranCheck where
  | fails (code : Nat) | replay | apply
  deriving DecidableEq, Repr

/-- The checks of R236 behind the CRC, short of the pins. -/
def State.granCheck (s : State) (g : Granule) : GranCheck :=
  let z := s.slot g.slot
  if g.step ≠ (s.stepCtr g.q g.ctx + 1) % 2 ^ 32 then .fails 0x4002
  else if z.appliedStep g.gran = g.step then
    (if (z.gran g.gran).epoch = g.epoch then .fails 0x4004 else .replay)
  else if (z.gran g.gran).torn then .fails 0x2008
  else .apply

/-- A granule is not applied: the fault, the skew latch, the hold, the ERR message (R227, R236). -/
def State.granFails (s : State) (g : Granule) (code : Nat) : State :=
  let i := 0x32C0 + g.ctx
  let s1 := if code = 0x4002 then
      (if s.obj (okey i 8) = 1 then s else (s.setObj (okey i 8) 1).setObj (okey i 9) g.step)
    else s
  ((s1.report code 5 g.q (some g.ctx) g.gran true false).hold g.ctx code).sendXfer g.q (g.message 8 code)

/-- GRAD: the Planer holds every frame of a granule and checks it (R236); a granule that is to be applied or re-emitted
waits in the receive buffer. -/
def gradReceived (s : State) (q : Nat) (x : Xfer) : State :=
  if !s.planerUp q || x.kind ≠ 5 || 32 ≤ (s.rxBuf.filter (fun r => r.q = q)).length
      || (s.slot x.lslot).owner ≠ some x.ctx || x.granule % 4 ≠ q then s
  else
    let g : Granule :=
      { id := s.nextId, q := q, ctx := x.ctx, slot := x.lslot, gran := x.granule, step := x.step, epoch := x.epoch
        fmt := x.fmt, tsc := x.tsc, data := x.data, phase := .waiting, tag := x.tag }
    let s1 := s.addObj (okey (0x3280 + q) 4) 64 x.data.length
    if crc64 x.data ≠ x.crc64 then s1.granFails g 0x4003
    else match s1.granCheck g with
      | .fails code => s1.granFails g code
      | _ => { s1 with rxBuf := s1.rxBuf ++ [g], nextId := s1.nextId + 1 }

/-- Granule i of the receive buffer of Planer q. -/
def State.rxGran (s : State) (q i : Nat) : Option Granule := (s.rxBuf.filter (fun g => g.q = q))[i]?

/-- Changes a granule in a receive buffer. -/
def State.updRx (s : State) (id : Nat) (f : Granule → Granule) : State :=
  { s with rxBuf := s.rxBuf.map (fun g => if g.id = id then f g else g) }

/-- Takes a granule out of a receive buffer. -/
def State.dropRx (s : State) (id : Nat) : State := { s with rxBuf := s.rxBuf.filter (fun g => g.id ≠ id) }

/-! ### Running an update stream (R233, R234) -/

/-- The effect of a Limber instruction that an update stream may hold (R233). -/
def updateOp (op : Nat) (w : W128) : CoreData → CoreData :=
  match op with
  | 0x63 => doVimm w
  | 0x64 => doVsel w
  | 0x68 => lanes2 f32Add w
  | 0x69 => lanes2 f32Sub w
  | 0x6A => lanes2 f32Mul w
  | 0x6B => lanes3 f32Fma w
  | 0x6C => lanes3 f32Fnma w
  | 0x6D => lanes2 f32Max w
  | 0x6E => lanes2 f32Min w
  | 0x6F => lanes1 f32Abs w
  | 0x70 => lanes1 f32Neg w
  | 0x71 => lanes2 f32Div w
  | 0x72 => lanes1 f32Sqrt w
  | 0x73 => lanes1 f32Rcp w
  | 0x74 => lanes1 f32Rsqrt w
  | 0x75 => lanes1 (f32Exp 0x75) w
  | 0x76 => lanes1 f32Log2 w
  | 0x77 => lanes1 (f32Exp 0x77) w
  | 0x78 => lanes1 (f32Sigmoid 0x78) w
  | 0x79 => lanes1 (f32Sigmoid 0x79) w
  | 0x80 => doVcmp w
  | 0x81 => doKop w
  | _ => id

/-- Whether an opcode may stand in an update stream (R233). -/
def isUpdateOp (op : Nat) : Bool :=
  op = 0x63 || op = 0x64 || (0x68 ≤ op && op ≤ 0x79) || op = 0x80 || op = 0x81

/-- Runs update instructions in order. -/
def runUpdate (ws : List W128) (d : CoreData) : CoreData :=
  ws.foldl (fun x w => updateOp (fld w 127 120) w x) d

/-- The prologue's words of a stream (R232). -/
def UStream.prologue (u : UStream) : List W128 := (u.words.drop 1).take (fld (u.words.headD 0) 124 120)

/-- The body's words of a stream (R232). -/
def UStream.body (u : UStream) : List W128 :=
  ((u.words.drop 1).drop (fld (u.words.headD 0) 124 120)).take (fld (u.words.headD 0) 119 115)

/-- Lanes of a register from a list, in canonical form. -/
def regLanes (r : Nat) (xs : List F32) : Tab F32 := (xs.mapIdx (fun l v => (256 * r + l, v))).filter (fun e => e.2 ≠ 0)

/-- The registers after the prologue at a step: v15 holds the step in every lane (R234). -/
def afterPrologue (u : UStream) (step : Nat) : CoreData :=
  runUpdate u.prologue { lanes := regLanes 15 (List.replicate 128 (toF32 (.fin false step 0))) }

/-- One group: gradient and state arrays in, state arrays out (R234). -/
def updateGroup (u : UStream) (d0 : CoreData) (grad : List F32) (st : List (List F32)) : List (List F32) :=
  let low := (((grad :: st).mapIdx regLanes).flatten)
  let d := runUpdate u.body { lanes := low ++ d0.lanes.filter (fun e => 256 * 15 ≤ e.1) }
  (List.range st.length).map (fun k => (List.range (grad.length)).map (fun l => d.lane (k + 1) l))

/-- The gradient of a granule, each element with the status of its decode (R59, R234). -/
def Granule.grads (g : Granule) (n : Nat) : List (F32 × Stat) :=
  let f := (Format.ofCode g.fmt).getD .bf16
  let scales := g.data.drop (ceilDiv (n * f.width) 8)
  let rd := fun a => g.data.getD a 0
  (List.range n).map (fun e =>
    let v := decodeElem f (elemAt rd f 0 e)
    let v1 := if f.isMx then scaleBy (scales.getD (e / 32) 0) v else if f.isFp8 then scaleBy g.tsc v else v
    decodeF32 (e % 4096) v1)

/-- The byte of a region's home at an address, whatever is staged: the Planer's own DDR (R228). -/
def State.homeRead (s : State) (a : Nat) : Nat := s.locRead (s.homeLoc (s.region (a / 2 ^ 26)) (a % 2 ^ 26))

/-- Writes bytes at a region's home. -/
def State.homeWrite (s : State) : Nat → List Nat → State
  | _, [] => s
  | a, b :: t => (s.locWrite (s.homeLoc (s.region (a / 2 ^ 26)) (a % 2 ^ 26)) b).homeWrite (a + 1) t

/-- State array k of a granule's record, n elements (R228). -/
def State.stateArray (s : State) (a k n : Nat) : List F32 :=
  (List.range n).map (fun e =>
    BitVec.ofNat 32 (leNat ((List.range 4).map (fun j => s.homeRead (a + k * 262144 + 4 * e + j)))))

/-- Weights emitted for a run of master values: bf16 codes with the status of their conversion (R52, R234). -/
def emitCodes (vals : List F32) : List Nat × List Stat :=
  let cs := (chunksOf 4096 vals vals.length).map (fun c =>
    convert (plainParams .bf16 0) (c.mapIdx (fun i v => (i, valOf v))))
  (cs.flatMap (fun c => c.1), cs.map (fun c => c.2.2))

/-- The EMIT transfer of a granule's weights (R226, R234). -/
def Granule.emission (g : Granule) (x : Nat) (codes : List Nat) : Xfer :=
  mkXfer 6 0 g.ctx 0 0 g.slot 0 g.step g.epoch g.gran (emitAddr x g.gran g.step) 0 true (codes.flatMap (leBytes 2))

/-- Status records of a granule on their way to the Scaler, one for every 4,096 elements (R237, R293). -/
def Granule.statRecords (g : Granule) (sts : List Stat) : List ScalerIn :=
  sts.mapIdx (fun k st =>
    { ctx := g.ctx, kind := 5, source := g.q, item := 16 * g.gran + k, stat := st, ovf := false, ovfPos := 0 })

/-- The new state arrays of a granule: every group of 128 elements in order (R234). -/
def State.updated (s : State) (u : UStream) (g : Granule) (x : Nat) : List (List F32) :=
  let n := granLen x g.gran
  let a := recAddr x u.nstate g.gran
  let d0 := afterPrologue u g.step
  let grads := (g.grads n).map (fun e => e.1)
  let arrays := (List.range u.nstate).map (fun k => s.stateArray a k n)
  let groups := (List.range (ceilDiv n 128)).map (fun j =>
    updateGroup u d0 ((grads.drop (128 * j)).take 128) (arrays.map (fun y => (y.drop (128 * j)).take 128)))
  (List.range u.nstate).map (fun k => groups.flatMap (fun y => y.getD k []))

/-- Writes a granule's state arrays back (R234, R237). -/
def State.writeRecord (s : State) (a : Nat) (arrays : List (List F32)) : State :=
  (arrays.mapIdx (fun k y => (a + k * 262144, y.flatMap (fun v => leBytes 4 v.toNat)))).foldl
    (fun t e => t.homeWrite e.1 e.2) s

/-- The granule runs its update: the record is written, STREAM_GROUPS counts, the statuses go to the Scaler, the emission
is sent (R234, R237). -/
def State.applyGranule (s : State) (u : UStream) (g : Granule) (x : Nat) : State :=
  let n := granLen x g.gran
  let arrays := s.updated u g x
  let em := emitCodes (arrays.headD [])
  let decode := (chunksOf 4096 ((g.grads n).map (fun e => e.2)) n).map (fun c => c.foldl Stat.merge {})
  let s1 := (s.writeRecord (recAddr x u.nstate g.gran) arrays).addObj (okey (0x3200 + slotStream x) 3) 64 (ceilDiv n 128)
  let s2 : State := { s1 with scalerQ := s1.scalerQ ++ g.statRecords decode ++ g.statRecords em.2 }
  let s3 := s2.addObj (okey (0x3300 + g.q) 3) 64 (8 * n * u.nstate)
  (s3.updRx g.id (fun y => { y with phase := .applying false })).sendXfer g.q (g.emission x em.1)

/-- A replay: the gradient is discarded, v1 is read and emitted again (R236). -/
def State.reemitGranule (s : State) (u : UStream) (g : Granule) (x : Nat) : State :=
  let n := granLen x g.gran
  let em := emitCodes (s.stateArray (recAddr x u.nstate g.gran) 0 n)
  let s1 : State := { s with scalerQ := s.scalerQ ++ g.statRecords em.2 }
  ((s1.addObj (okey (0x3300 + g.q) 3) 64 (4 * n)).updRx g.id (fun y => { y with phase := .reemit false })).sendXfer g.q
    (g.emission x em.1)

/-! ### Tier requests (R227) -/

/-- Whether n bytes at a tier address have their home on Planer q. -/
def State.onPlaner (s : State) (q a n : Nat) : Bool :=
  (spanRegions a n).all (fun r => let g := s.region r; (g.home = .ddr || g.home = .flash) && g.planer = q)

/-- The bytes that a request touches: tier address and length. -/
def xferSpan (x : Xfer) : Nat × Nat := (x.addr, max 1 (if x.kind = 1 then x.len else x.data.length))

/-- The bytes of the state record that a granule's application touches (R228). -/
def State.granSpan (s : State) (g : Granule) : Nat × Nat :=
  match s.streamOf (s.slot g.slot) with
  | some u => (recAddr (s.slot g.slot).image u.nstate g.gran, u.nstate * 262144)
  | none => (0, 0)

/-- Whether two byte ranges share a byte. -/
def meets (a b : Nat × Nat) : Bool := a.1 < b.1 + b.2 && b.1 < a.1 + a.2

/-- Whether work that arrived at Planer q before `id` and has not been done touches a range (R227). -/
def State.reqBlocked (s : State) (id q : Nat) (a : Nat × Nat) : Bool :=
  s.rxBuf.any (fun g => g.q = q && g.id < id && g.phase = .waiting && meets a (s.granSpan g))
    || s.tierQ.any (fun t => t.q = q && t.id < id && meets a (xferSpan t.x))

/-- A request that fails is answered with ERR and the fault's code (R227): a LOST region, bytes that are not this Planer's (log
entry 44), an error beyond correction or a PHY out of lock (R150, R361). -/
def State.reqCode (s : State) (q : Nat) (x : Xfer) (err : Bool) : Option Nat :=
  if (spanRegions (xferSpan x).1 (xferSpan x).2).any (fun r => (s.region r).lost) then some 0x2005
  else if !s.onPlaner q (xferSpan x).1 (xferSpan x).2 then some 0x500A
  else
    let l := s.homeLoc (s.region (x.addr / 2 ^ 26)) (x.addr % 2 ^ 26)
    if err || s.phyDown l then some l.uncorrCode else none

/-- The Planer serves a request: a read answers with its data, a write with its acknowledgement, under the request's tag (R226,
R227). -/
def State.serve (s : State) (q : Nat) (x : Xfer) (err : Bool) : State :=
  let s0 : State := { s with reqs := s.reqs ++ [(q, x.tag)] }
  let l := s.homeLoc (s.region (x.addr / 2 ^ 26)) (x.addr % 2 ^ 26)
  match s.reqCode q x err with
  | some code => (if code = l.uncorrCode then s0.countUncorr l else s0).sendXfer q
      (mkXfer 8 x.tag x.ctx 0 0 0 0 0 0 0 x.addr code false [])
  | none =>
    let ddr := (s.region (x.addr / 2 ^ 26)).home = .ddr
    if x.kind = 1 then
      let data := (List.range x.len).map (fun k => s.homeRead (x.addr + k))
      (if ddr then s0.addObj (okey (0x3300 + q) 3) 64 x.len else s0).sendXfer q
        (mkXfer 2 x.tag x.ctx 0 0 0 0 0 0 0 x.addr 0 false data)
    else
      let s1 := s0.homeWrite x.addr x.data
      let s2 := if ddr then s1.addObj (okey (0x3300 + q) 3) 64 x.data.length
        else (s1.addObj (okey (0x3400 + q) 2) 64 x.data.length).addObj (okey (0x3400 + q) 3) 64 x.data.length
      s2.sendXfer q (mkXfer 4 x.tag x.ctx 0 0 0 0 0 0 0 x.addr 0 false [])

/-- A request arrives at Planer q: it is served at once, or waits for what touches the same bytes and came before it (R227). -/
def State.takeReq (s : State) (q : Nat) (x : Xfer) (err : Bool) : State :=
  let s1 : State := { s with nextId := s.nextId + 1 }
  if s.reqBlocked s.nextId q (xferSpan x) then { s1 with tierQ := s1.tierQ ++ [{ id := s.nextId, q := q, x := x, err := err }] }
  else s1.serve q x err

/-- Serves the waiting requests of a list that nothing before them holds back any more, in order (R227). -/
def State.serveReqs (s : State) : List TierReq → State
  | [] => s
  | t :: r =>
    (if s.reqBlocked t.id t.q (xferSpan t.x) then s
     else ({ s with tierQ := s.tierQ.filter (fun u => u.id ≠ t.id) } : State).serve t.q t.x t.err).serveReqs r

/-- RD_REQ: the Planer reads LEN bytes (R227), which may fail beyond correction (R150). -/
def rdReq (s : State) (q : Nat) (x : ReadReq) : State :=
  if !s.planerUp q || x.xfer.kind ≠ 1 then s else s.takeReq q x.xfer x.err

/-- RD_DATA: the data of an outstanding read has come; the request ends (R227). -/
def rdData (s : State) (q : Nat) (x : Xfer) : State :=
  if !s.planerUp q || x.kind ≠ 2 then s else { s.portWork q x.ctx with reqs := s.reqs.filter (fun r => r ≠ (q, x.tag)) }

/-- WR_DATA: the Planer writes the data (R227). -/
def wrData (s : State) (q : Nat) (x : Xfer) : State :=
  if !s.planerUp q || x.kind ≠ 3 then s else s.takeReq q x false

/-- WR_ACK: an outstanding write is complete; the request ends (R227). -/
def wrAck (s : State) (q : Nat) (x : Xfer) : State :=
  if !s.planerUp q || x.kind ≠ 4 then s else { s.portWork q x.ctx with reqs := s.reqs.filter (fun r => r ≠ (q, x.tag)) }

/-- GRANULE_APPLY of granule i in the buffer of Planer q: with no pin on the target buffer it is applied or re-emitted;
the checks are made again, since an earlier granule may have been applied meanwhile (R236, R237, R240; log entry 40). What
arrived before it on the same bytes comes first, and what waited for it follows (R227). -/
def granuleApply (s : State) (q i : Nat) : State :=
  match s.rxGran q i with
  | none => s
  | some g =>
    let z := s.slot g.slot
    if !s.planerUp q || g.phase ≠ .waiting || z.pin (g.step % 2) ≠ 0 || s.reqBlocked g.id q (s.granSpan g) then s
    else match s.streamOf z with
      | none => s
      | some u =>
        let t := match s.granCheck g with
          | .fails code => (s.dropRx g.id).granFails g code
          | .replay => s.reemitGranule u g z.image
          | .apply => s.applyGranule u g z.image
        t.serveReqs t.tierQ

/-- Whether the update of granule i of Planer q would touch a region whose home is NONE. -/
def State.granTouchesNone (s : State) (q i : Nat) : Bool :=
  match s.rxGran q i with
  | none => false
  | some g =>
    let z := s.slot g.slot
    match s.streamOf z with
    | none => false
    | some u =>
      g.phase = .waiting && (spanRegions (recAddr z.image u.nstate g.gran) (u.nstate * 262144)).any (fun r =>
        (s.region r).home = .none)

/-- The phase once the emission is acknowledged. -/
def GranPhase.ack : GranPhase → GranPhase
  | .applying _ => .applying true
  | .reemit _ => .reemit true
  | .waiting => .waiting

/-- Whether a granule's emission is under way and its transfer is this one. -/
def Granule.emits (g : Granule) (q : Nat) (x : Xfer) : Bool :=
  g.q = q && g.ctx = x.ctx && g.slot = x.lslot && g.gran = x.granule && g.step = x.step
    && (g.phase = .applying false || g.phase = .reemit false)

/-- EMIT: the die writes the weights at their Landing address and acknowledges the writes (R227, R237). -/
def emitTransfer (s : State) (q : Nat) (x : Xfer) : State :=
  match s.rxBuf.find? (fun g => g.emits q x) with
  | none => s
  | some g =>
    if !s.planerUp q || x.kind ≠ 6 || crc64 x.data ≠ x.crc64 then s
    else
      (((s.portWork q g.ctx).tierWriteBytes x.addr x.data).countAccess 3 x.addr x.data.length).updRx g.id (fun y =>
        { y with phase := y.phase.ack })

/-- GRANULE_COMPLETE: with the emission acknowledged, APPLIED and APPLIED_EPOCH are set and GRAN_DONE is sent; a replay
sends it with CODE 1 (R236, R237). -/
def granuleComplete (s : State) (q i : Nat) : State :=
  match s.rxGran q i with
  | none => s
  | some g =>
    if !s.planerUp q then s
    else match g.phase with
      | .applying true =>
        (((s.dropRx g.id).updGran g.slot g.gran (fun _ => { applied := some g.step, epoch := g.epoch, torn := false })).addObj
          (okey (0x3280 + q) 1) 64 1).sendXfer q (g.message 7 0)
      | .reemit true => ((s.dropRx g.id).addObj (okey (0x3280 + q) 2) 64 1).sendXfer q (g.message 7 1)
      | _ => s

/-- The owner key of the shell of a unit of R19 for a context: the task on a core, or the unit. -/
def State.unitOwner (s : State) (u : Nat) : Nat := if u < 128 then 16 * (u / 16) + (s.core u).task else u

/-- GRAN_DONE: counts towards its slot in the current epoch; when every granule has, the shell of Planer port 0 posts one
token (R237). -/
def granDone (s : State) (q : Nat) (x : Xfer) : State :=
  let z := s.slot x.lslot
  if !s.planerUp q || x.kind ≠ 7 || z.owner ≠ some x.ctx || x.epoch ≠ s.epoch x.ctx || z.done.contains x.granule
      || slotGrans z.image ≤ x.granule then s
  else
    let s1 := (s.portWork q x.ctx).updSlot x.lslot (fun y => { y with done := x.granule :: y.done })
    if slotPostEn z.image && z.done.length + 1 = slotGrans z.image then
      { s1 with posts := s1.posts ++
        [{ ctx := x.ctx, producer := 0x90, target := s1.unitOwner (slotPostUnit z.image), counter := slotPostCtr z.image
           amount := 1, credit := false }] }
    else s1

/-- ERR: a request failed; its fault is reported and holds the context. A failed granule has been reported by R236. -/
def errTransfer (s : State) (q : Nat) (x : Xfer) : State :=
  if !s.planerUp q || x.kind ≠ 8 then s
  else
    let s1 : State := { s.portWork q x.ctx with reqs := s.reqs.filter (fun r => r ≠ (q, x.tag)) }
    if x.code = 0x4002 || x.code = 0x4003 || x.code = 0x4004 || x.code = 0x2008 then s1
    else (s1.report x.code 5 q (some x.ctx) x.addr true false).hold x.ctx x.code

/-- STEPSET: the Planer's counter of the context (R242). -/
def stepsetReceived (s : State) (q : Nat) (x : Xfer) : State :=
  if !s.planerUp q || x.kind ≠ 9 then s else s.setObj (okey (0x3280 + q) (0x40 + x.ctx)) x.step

/-! ### Transfers that arrive in frames (R225 to R227) -/

/-- The transfer header of a frame. -/
def frameXhdr (f : Frame) : Nat := leNat (f.payload.take 64)

/-- Whether two frames carry parts of one transfer: KIND, TAG, CTX, LSLOT, STEP and GRANULE agree. -/
def sameXfer (f g : Frame) : Bool :=
  let a : Xfer := { header := frameXhdr f, data := [] }
  let b : Xfer := { header := frameXhdr g, data := [] }
  a.kind = b.kind && a.tag = b.tag && a.ctx = b.ctx && a.lslot = b.lslot && a.step = b.step && a.granule = b.granule

/-- A transfer from its frames in order: the last one's header, and the data that every frame's LEN gives (R225, R226). -/
def joinFrames (fs : List Frame) (last : Frame) : Xfer :=
  { header := frameXhdr last
    data := fs.flatMap (fun f => (f.payload.drop 64).take (bits (frameXhdr f) 287 272)) }

/-- The die carries out a transfer of a Planer (R227). -/
def State.dieTakes (s : State) (q : Nat) (x : Xfer) : State :=
  match x.kind with
  | 2 => rdData s q x
  | 4 => wrAck s q x
  | 6 => emitTransfer s q x
  | 7 => granDone s q x
  | 8 => errTransfer s q x
  | _ => s

/-- Carries out the transfers whose last frame has arrived on a Planer link; `k` transfers at most. -/
def State.takeAll (s : State) (n : Nat) : Nat → State
  | 0 => s
  | k + 1 =>
    let box := (s.link n).inbox
    match box.find? (fun f => bit (frameXhdr f) 452) with
    | none => s
    | some f =>
      let x := joinFrames (box.filter (sameXfer f)) f
      ((s.updLink n (fun l => { l with inbox := l.inbox.filter (fun g => !sameXfer f g) })).dieTakes (n - 16) x).takeAll n k

/-- Carries out the transfers that have arrived on a Planer link (R227); a fabric plane has none. -/
def State.takeTransfers (s : State) (n : Nat) : State :=
  if n < 16 then s else s.takeAll n (s.link n).inbox.length

/-! ### Pins (R239, R240) -/

/-- Removes the pin that a context holds on a buffer of its slots. -/
def State.unpin (s : State) (ctx : Nat) : State :=
  match Tab.get 0 s.stepPin ctx with
  | 0 => s
  | b + 1 =>
    { s with
      slots := s.slots.map (fun e => (e.1, if e.2.owner = some ctx then e.2.setPin b (e.2.pin b - 1) else e.2))
      stepPin := Tab.put 0 s.stepPin ctx 0 }

/-- Takes a pin on a buffer of every slot of a context; a counter at its end holds the context instead (R240). -/
def State.pinAll (s : State) (ctx unit b : Nat) : State :=
  if (s.ownSlots ctx).any (fun e => 65535 ≤ e.2.pin b) then s.holdShell 0x5012 unit ctx 0
  else
    { s with
      slots := s.slots.map (fun e => (e.1, if e.2.owner = some ctx then e.2.setPin b (e.2.pin b + 1) else e.2))
      stepPin := Tab.put 0 s.stepPin ctx (b + 1) }

/-- The pins at a STEPMARK of step n: nothing while the current step keeps its value; a new one moves the pin, or is an
uncommitted advance (R240). -/
def pinStep (s : State) (h : Head) (n : Nat) : Except State State :=
  let after := (s.updStream h.ctx h.owner (fun x => { x with mark := some n })).curStep h.ctx
  match after with
  | none => .ok s
  | some c =>
    if s.curStep h.ctx = some c then .ok s
    else if s.committed h.ctx + 1 < c then .ok (s.holdHead h 0x4005 0)
    else .ok ((s.unpin h.ctx).pinAll h.ctx h.unit (s.committed h.ctx % 2))

/-! ### The commit round (R210, R241 to R244) -/

/-- The gate of R241 for step n. -/
def State.commitGate (s : State) (ctx n : Nat) : Bool :=
  s.committed ctx + 1 = n && (List.range 4).all (fun q => s.stepCtr q ctx + 1 = n)
    && (s.ownGrans ctx).all (fun e => e.2.1.appliedStep e.2.2.1 = n)
    && s.obj (okey (0x32C0 + ctx) 8) = 0 && s.obj (okey (intIdx ctx) 1) = 0

/-- Dispatch of COMMIT: what every collective step asks, a group of every VALID member, checks that have ended, the gate
(R197, R210, R241, R303). COMMITs accepted before count. -/
def State.dispatchCommit (s : State) (sh : Shell) : State :=
  s.dispatch sh 0xA7 (fun _ => .unit) (fun h =>
    let b := collBody h.words
    let c := h.unit - 0x88
    let n := s.yarderStep h.ctx c
    let g := (imgGroup (s.ctx h.ctx).image b.group).getD []
    match s.collFault h b with
    | some e => .error (s.holdHead h e.1 e.2)
    | none =>
      if !(s.validMembers h.ctx).all (fun m => g.contains m.1) then .error (s.holdHead h 0x500F 0)
      else if s.checksPending h.ctx ≠ 0 then .error s
      else if !s.commitGate h.ctx n then .error (s.holdHead h 0x4006 0)
      else
        let early := (s.commits.filter (fun e => e.1 = h.ctx && e.2.1 = n && g.contains e.2.2)).map (fun e =>
          g.idxOf e.2.2)
        let s1 := s.openColl h b
        .ok (s.collFlight h b, s1.updColl s.nextId (fun x => { x with commits := early })))

/-- COMMIT starts: one COMMIT frame to every other member of GROUP on each plane of PLANES that carries frames (R210). -/
def State.startCommit (s : State) (id : Nat) : State :=
  match s.startableStep id 0xA7, s.collStep id with
  | some f, some x =>
    let b := s.collOf x
    let n := s.yarderStep x.ctx x.yarder
    let s0 := (s.updFlight f.id (fun g => { g with phase := .running })).updColl id (fun y => { y with started := true })
    ((b.planeList x.yarder).filter (fun p => (s.link p).live)).foldl (fun t p =>
      ((s.collGroup x).filter (fun m => m ≠ s.self x.ctx)).foldl (fun u m =>
        u.sendCtl p (u.ctlTo x.ctx m 6 0 b.coll n) (some id)) t) s0
  | _, _ => s

/-- COMMIT_FRAME at the head of a plane's inbox: checked (R195), and the first of a member counts (R210). -/
def commitFrame (s : State) (plane : Nat) : State :=
  match s.inboxHead plane 6 with
  | none => s
  | some f =>
    match (s.popInbox plane).checkStand plane f with
    | .error t => t
    | .ok (ctx, m) =>
      let s0 := (s.popInbox plane).yarderWork plane ctx
      let n := bits f.header 159 128
      if n ≠ s0.yarderStep ctx (plane / 2) then s0.abortStand ctx 6 m (bits f.header 183 168) (plane / 2) none
      else if s0.commits.contains (ctx, n, m) then s0
      else
        let s1 : State := { s0 with commits := (ctx, n, m) :: s0.commits }
        { s1 with colls := s1.colls.map (fun x =>
          if x.ctx = ctx && (s1.collOf x).op = 0xA7 && s1.yarderStep ctx x.yarder = n
            && (s1.collGroup x).contains m then { x with commits := (s1.collGroup x).idxOf m :: x.commits } else x) }

/-- COMMIT_COMPLETE: every other member's COMMIT accepted and every frame acknowledged: COMMITTED_STEP, STEPSET to the
Planers, the Scaler's step, new prepared counts, and the post (R210, R237, R242, R296). -/
def commitComplete (s : State) (id : Nat) : State :=
  match s.collStep id, s.flight id with
  | some x, some f =>
    let g := s.collGroup x
    let others := (List.range g.length).filter (fun p => p ≠ s.collPos x)
    if !(f.op = 0xA7 && x.started && s.sentAll x && others.all (fun p => x.commits.contains p) && s.dieRuns
        && !s.unitDown f.owner) then s
    else
      let n := s.yarderStep x.ctx x.yarder
      let s1 := s.setObj (okey (0x32C0 + x.ctx) 1) n
      let s2 := (List.range 4).foldl (fun t q => t.dieXfer q (mkXfer 9 0 x.ctx 0 0 0 0 n 0 0 0 0 false [])) s1
      let s3 : State := (s2.scalerCommit x.ctx n).restartDone x.ctx
      let s4 : State := { s3 with commits := s3.commits.filter (fun e => !(e.1 = x.ctx && e.2.1 ≤ n)) }
      (s4.closeColl id).complete f
  | _, _ => s

/-- What an accepted EPOCH_CMD adds: pending Scaler counts, COMMITs and grants of the old epoch go (R195, R296). -/
def onEpoch (s : State) (ctx : Nat) : State :=
  let s1 := (s.scalerDiscard ctx).updCtx ctx (fun y => { y with early := [] })
  { s1 with commits := s1.commits.filter (fun e => e.1 ≠ ctx) }

/-! ### STEP_CMD (R245, R247) -/

/-- Whether STEP_CMD may act: no plan, at rest or held, and no granule in a receive buffer (R245). -/
def State.quiet (s : State) (ctx : Nat) : Bool :=
  (!s.loaded ctx || s.obj (okey (0x2100 + ctx) 0x0A) = 1 || (s.ctx ctx).held) && s.rxBuf.all (fun g => g.ctx ≠ ctx)

/-- Ends a STEP_CMD with a result (R247). -/
def State.stepEnd (s : State) (ctx r : Nat) : State :=
  (s.setObj (okey (0x32C0 + ctx) 4) r).setObj (okey (0x32C0 + ctx) 3) (if r = 0 then 2 else 3)

/-- Sets every Planer's counter and COMMITTED_STEP of a context. -/
def State.setSteps (s : State) (ctx v : Nat) : State :=
  ((List.range 4).foldl (fun t q => t.setObj (okey (0x3280 + q) (0x40 + ctx)) v) s).setObj (okey (0x32C0 + ctx) 1) v

/-- What SET_STEP does (R245, R295, R296). -/
def State.doSetStep (s : State) (ctx v : Nat) : State :=
  let s1 := (s.setSteps ctx v).setObj (okey (0x32C0 + ctx) 8) 0
  let s2 : State := { s1 with slots := s1.slots.map (fun e =>
    (e.1, if e.2.owner = some ctx then { e.2 with base := v, grans := [] } else e.2)) }
  (s2.clearCommitHold ctx).scalerSetStep ctx

/-- STEP_CMD 1 SET_STEP (R245). -/
def setStep (s : State) (path ctx : Nat) : State :=
  s.onCmd path (okey (0x32C0 + ctx) 3) (fun s =>
    if !s.quiet ctx then s.stepEnd ctx 1
    else (s.doSetStep ctx (s.pobj path (okey (0x32C0 + ctx) 2))).stepEnd ctx 0)

/-- STEP_CMD 2 ROLL_FORWARD (R245). -/
def rollForward (s : State) (path ctx : Nat) : State :=
  s.onCmd path (okey (0x32C0 + ctx) 3) (fun s =>
    let v := s.committed ctx
    if !s.quiet ctx then s.stepEnd ctx 1
    else if (List.range 4).any (fun q => s.stepCtr q ctx ≠ v) then s.stepEnd ctx 6
    else if (s.ownGrans ctx).any (fun e => (e.2.1.gran e.2.2.1).torn) then s.stepEnd ctx 3
    else if (s.ownGrans ctx).any (fun e => e.2.1.appliedStep e.2.2.1 ≠ v + 1) then s.stepEnd ctx 2
    else (s.setSteps ctx ((v + 1) % 2 ^ 32)).stepEnd ctx 0)

/-- Whether EMIT's regions are all in place and still (R237, R245). -/
def State.emitPlaced (s : State) (ctx : Nat) : Bool :=
  (s.ownGrans ctx).all (fun e => s.granPlace ctx e.2.1.image e.2.2.2 e.2.2.1 (s.committed ctx) = .ready)

/-- Starts an action that runs until STEP_ACTION_COMPLETE (R247). -/
def State.stepBegin (s : State) (ctx action : Nat) : State :=
  let s1 : State := { s with stepRun := Tab.put 0 s.stepRun ctx action }
  s1.setObj (okey (0x32C0 + ctx) 3) 1

/-- STEP_CMD 3 EMIT (R245). -/
def emitStep (s : State) (path ctx : Nat) : State :=
  s.onCmd path (okey (0x32C0 + ctx) 3) (fun s =>
    if !s.quiet ctx then s.stepEnd ctx 1
    else if !s.emitPlaced ctx then s.stepEnd ctx 4
    else s.stepBegin ctx 3)

/-- The records of a context with their places in the snapshot area: source, destination, bytes (R245). -/
def State.snapPlan (s : State) (ctx : Nat) : List (Nat × Nat × Nat) :=
  (List.range 4).flatMap (fun q =>
    (((s.ownGrans ctx).filter (fun e => e.2.2.1 % 4 = q)).foldl (fun (a : Nat × List (Nat × Nat × Nat)) e =>
      let n := e.2.2.2 * 262144
      (a.1 + n, a.2 ++ [(recAddr e.2.1.image e.2.2.2 e.2.2.1, a.1, n)]))
      (s.obj (okey (0x32C0 + ctx) (0x0B + q)) * 2 ^ 26, [])).2)

/-- Whether the snapshot area is DDR of its Planer and allocated to the context (R245). -/
def State.snapPlaced (s : State) (ctx : Nat) : Bool :=
  (s.snapPlan ctx).all (fun e => (spanRegions e.2.1 e.2.2).all (fun r =>
    let g := s.region r
    g.home = .ddr && g.planer = (s.region (e.1 / 2 ^ 26)).planer && g.ownedBy ctx))

/-- STEP_CMD 4 SNAPSHOT (R245). -/
def snapshotStep (s : State) (path ctx : Nat) : State :=
  s.onCmd path (okey (0x32C0 + ctx) 3) (fun s =>
    if !s.quiet ctx then s.stepEnd ctx 1
    else if (s.ownGrans ctx).any (fun e => s.stepCtr (e.2.2.1 % 4) ctx < e.2.1.appliedStep e.2.2.1) then s.stepEnd ctx 2
    else if !s.snapPlaced ctx then s.stepEnd ctx 4
    else s.stepBegin ctx 4)

/-- The slot images of a context, which a snapshot remembers (R245). -/
def State.slotImages (s : State) (ctx : Nat) : List (Nat × Nat) := (s.ownSlots ctx).map (fun e => (e.1, e.2.image))

/-- SNAP_STEP; its default is FFFFFFFFh (R247). -/
def State.snapStep (s : State) (ctx : Nat) : Nat := s.obj (okey (0x32C0 + ctx) 0x0A)

/-- STEP_CMD 5 RESTORE (R245). -/
def restoreStep (s : State) (path ctx : Nat) : State :=
  s.onCmd path (okey (0x32C0 + ctx) 3) (fun s =>
    if !s.quiet ctx then s.stepEnd ctx 1
    else if s.snapStep ctx = 0xFFFFFFFF || Tab.get [] s.snaps ctx ≠ s.slotImages ctx then s.stepEnd ctx 5
    else s.stepBegin ctx 5)

/-- Copies n bytes of Planer DDR from one region's home to another's, region by region. -/
def State.homeCopy (s : State) (src dst n : Nat) : Nat → State
  | 0 => s
  | k + 1 =>
    if n = 0 then s
    else
      let m := min n (min (2 ^ 26 - src % 2 ^ 26) (2 ^ 26 - dst % 2 ^ 26))
      let s1 : State := match s.homeLoc (s.region (src / 2 ^ 26)) (src % 2 ^ 26),
          s.homeLoc (s.region (dst / 2 ^ 26)) (dst % 2 ^ 26) with
        | .ddr p a, .ddr q b => { s with ddr := s.ddr.copy (planerAddr p a) m s.ddr (planerAddr q b) }
        | _, _ => s
      s1.homeCopy (src + m) (dst + m) (n - m) k

/-- Emits v1 of every granule into the committed buffer (R245). -/
def State.emitAll (s : State) (ctx : Nat) : State :=
  (s.ownGrans ctx).foldl (fun t e =>
    let x := e.2.1.image
    let em := emitCodes (t.stateArray (recAddr x e.2.2.2 e.2.2.1) 0 (granLen x e.2.2.1))
    t.tierWriteBytes (emitAddr x e.2.2.1 (t.committed ctx)) (em.1.flatMap (leBytes 2))) s

/-- STEP_ACTION_COMPLETE: the emission, the snapshot or the restore has ended (R245, R247). A restore whose emission has
no place ends refused with PLACEMENT (log entry 41). -/
def stepActionComplete (s : State) (ctx : Nat) : State :=
  let k := Tab.get 0 s.stepRun ctx
  let s0 : State := { s with stepRun := Tab.put 0 s.stepRun ctx 0 }
  if !s.dieRuns then s
  else match k with
    | 3 => (s0.emitAll ctx).stepEnd ctx 0
    | 4 =>
      let s1 := (s0.snapPlan ctx).foldl (fun t e => t.homeCopy e.1 e.2.1 e.2.2 8) s0
      let s2 : State := { s1 with snaps := Tab.put [] s1.snaps ctx (s1.slotImages ctx) }
      (s2.setObj (okey (0x32C0 + ctx) 0x0A) (s2.committed ctx)).stepEnd ctx 0
    | 5 =>
      let s1 := ((s0.snapPlan ctx).foldl (fun t e => t.homeCopy e.2.1 e.1 e.2.2 8) s0).doSetStep ctx (s0.snapStep ctx)
      if s1.emitPlaced ctx then (s1.emitAll ctx).stepEnd ctx 0 else s1.stepEnd ctx 4
    | _ => s

end Sys2Proof.Machine
end

