-- ==== Sys2Proof/Machine/Serving.lean ====
section
/-!
DEFINITION. The serving sequencer: the serving record (R249), weight loads and switches (R252 to R254), batches (R256 to
R263), the key/value area (R260), and result objects (R266, R267).
-/

namespace Sys2Proof.Machine

/-! ### The serving record (R249) -/

/-- The objects of a serving context (R268). -/
def servIdx (ctx : Nat) : Nat := 0x2200 + ctx
/-- BSTART_UNIT. -/
def servBstartUnit (r : Nat) : Nat := bits r 255 248
/-- BSTART_CTR. -/
def servBstartCtr (r : Nat) : Nat := bits r 247 240
/-- LGO_UNIT. -/
def servLgoUnit (r : Nat) : Nat := bits r 239 232
/-- LGO_CTR. -/
def servLgoCtr (r : Nat) : Nat := bits r 231 224
/-- BDONE_CTR. -/
def servBdoneCtr (r : Nat) : Nat := bits r 223 218
/-- LDONE_CTR. -/
def servLdoneCtr (r : Nat) : Nat := bits r 217 212
/-- BDONE_N. -/
def servBdoneN (r : Nat) : Nat := bits r 211 200
/-- MAXSEQ. -/
def servMaxSeq (r : Nat) : Nat := bits r 199 191
/-- KV_FIRST. -/
def servKvFirst (r : Nat) : Nat := bits r 190 171
/-- KV_SPAN. -/
def servKvSpan (r : Nat) : Nat := bits r 170 163
/-- BTABLE in 64-B units. -/
def servBtable (r : Nat) : Nat := bits r 162 123
/-- RESULT_FIRST. -/
def servResFirst (r : Nat) : Nat := bits r 122 113
/-- RESULT_COUNT. -/
def servResCount (r : Nat) : Nat := bits r 112 106
/-- MSIX_EN. -/
def servMsixEn (r : Nat) : Bool := bit r 105
/-- MSIX_VEC. -/
def servMsixVec (r : Nat) : Nat := bits r 104 99

/-- Changes a context's sequencer. -/
def State.updServ (s : State) (ctx : Nat) (f : Serving → Serving) : State :=
  { s with serving := Tab.update {} s.serving ctx f }

/-- WVER of a context. -/
def State.wver (s : State) (ctx : Nat) : Nat := s.obj (okey (servIdx ctx) 1)

/-- WLOAD_VER of a context. -/
def State.wloadVer (s : State) (ctx : Nat) : Nat := s.obj (okey (servIdx ctx) 3)

/-- State of buffer b of slot l. -/
def Serving.buf (v : Serving) (l b : Nat) : BufState := Tab.get .empty v.bufs (2 * l + b)

/-- Version of buffer b of slot l (R251). -/
def Serving.ver (v : Serving) (l b : Nat) : Nat := Tab.get 0 v.vers (2 * l + b)

/-- Whether slot l is READY with version w (R251). -/
def Serving.holds (v : Serving) (l w : Nat) : Bool := v.buf l (w % 2) = .ready && v.ver l (w % 2) = w

/-- The serving slots of a context, in ascending order: every slot that it installs (R248). -/
def State.servSlots (s : State) (ctx : Nat) : List Nat := (s.ownSlots ctx).map (fun e => e.1)

/-- Whether a load is FILLING: it has begun, and a slot has yet to become FILLING or is FILLING still (R252, R253). A LOAD of a
version that its buffer holds already writes it again (R252). -/
def State.filling (s : State) (ctx : Nat) : Bool :=
  s.wloadVer ctx ≠ 0 && ((s.serv ctx).started < (s.servSlots ctx).length
    || (s.servSlots ctx).any (fun l => (s.serv ctx).buf l (s.wloadVer ctx % 2) = .filling))

/-- A token posted by the sequencer as unit 94h to a counter of a unit's shell. -/
def State.seqPost (s : State) (ctx unit ctr : Nat) : State :=
  { s with
    posts := s.posts ++
      [{ ctx := ctx, producer := 0x94, target := s.unitOwner unit, counter := ctr, amount := 1, credit := false }]
    work := worked s.work (nodeId 8 ctx) ctx }

/-! ### Loading weights (R252 to R254) -/

/-- Ends a WLOAD_CMD with a result. -/
def State.wloadEnd (s : State) (ctx r : Nat) : State :=
  (s.setObj (okey (servIdx ctx) 5) r).setObj (okey (servIdx ctx) 4) (if r = 0 then 2 else 3)

/-- WLOAD_CMD 1 LOAD (R252). -/
def weightLoad (s : State) (path ctx : Nat) : State :=
  s.onCmd path (okey (servIdx ctx) 4) (fun s =>
    if !(s.serv ctx).on then s.wloadEnd ctx 1
    else if s.filling ctx then s.wloadEnd ctx 2
    else if (s.serv ctx).switch then s.wloadEnd ctx 3
    else ((s.setObj (okey (servIdx ctx) 3) ((s.wver ctx + 1) % 2 ^ 32)).updServ ctx (fun v =>
      { v with started := 0 })).wloadEnd ctx 0)

/-- WLOAD_CMD 2 SWITCH (R252). -/
def weightSwitch (s : State) (path ctx : Nat) : State :=
  s.onCmd path (okey (servIdx ctx) 4) (fun s =>
    if !(s.serv ctx).on then s.wloadEnd ctx 1
    else if (s.serv ctx).switch then s.wloadEnd ctx 3
    else if s.wloadVer ctx ≠ (s.wver ctx + 1) % 2 ^ 32 then s.wloadEnd ctx 4
    else ((s.setObj (okey (servIdx ctx) 2) (s.wloadVer ctx)).updServ ctx (fun v => { v with switch := true })).wloadEnd ctx 0)

/-- WLOAD_CMD 3 REVERT (R252). -/
def weightRevert (s : State) (path ctx : Nat) : State :=
  s.onCmd path (okey (servIdx ctx) 4) (fun s =>
    let b := (s.wver ctx + 1) % 2
    let v := s.serv ctx
    if !v.on then s.wloadEnd ctx 1
    else if s.filling ctx then s.wloadEnd ctx 2
    else if v.switch then s.wloadEnd ctx 3
    else if (s.servSlots ctx).any (fun l => v.buf l b ≠ .ready) then s.wloadEnd ctx 5
    else ((s.setObj (okey (servIdx ctx) 2) (v.ver ((s.servSlots ctx).headD 0) b)).updServ ctx (fun v =>
      { v with switch := true })).wloadEnd ctx 0)

/-- SLOT_FILL_START: the next slot of the load, in ascending order, becomes FILLING once no batch pins its buffer, and one
LGO token is posted (R253). -/
def slotFillStart (s : State) (ctx : Nat) : State :=
  let v := s.serv ctx
  let w := s.wloadVer ctx
  if !v.on || !s.filling ctx || !s.dieRuns then s
  else match (s.servSlots ctx)[v.started]? with
    | none => s
    | some l =>
      if (s.slot l).pin (w % 2) ≠ 0 then s
      else
        (s.updServ ctx (fun v => { v with
          started := v.started + 1
          bufs := Tab.put .empty v.bufs (2 * l + w % 2) .filling
          vers := Tab.put 0 v.vers (2 * l + w % 2) w })).seqPost ctx (servLgoUnit v.record) (servLgoCtr v.record)

/-- The sequencer acquires n tokens of one of its counters. -/
def State.seqAcquire (s : State) (ctx k n : Nat) : State :=
  let c := ckey ctx 0x94 k
  { s with acq := Tab.put 0 s.acq c (Tab.get 0 s.acq c + BitVec.ofNat 16 n), work := worked s.work (nodeId 8 ctx) ctx }

/-- SLOT_READY: an LDONE token is acquired and marks the lowest FILLING slot READY; with none FILLING it is discarded,
POST_UNBOUND is reported and the context held (R253). -/
def slotReady (s : State) (ctx : Nat) : State :=
  let v := s.serv ctx
  let k := servLdoneCtr v.record
  if !v.on || s.avail ctx 0x94 k = 0 || !s.dieRuns then s
  else
    let s1 := s.seqAcquire ctx k 1
    let b := s.wloadVer ctx % 2
    match (s.servSlots ctx).find? (fun l => v.buf l b = .filling) with
    | none => s1.holdShell 0x5004 0x94 ctx 0
    | some l => s1.updServ ctx (fun v => { v with bufs := Tab.put .empty v.bufs (2 * l + b) .ready })

/-! ### Batches (R256 to R263) -/

/-- Byte k of a batch image (R256). -/
def batchByte (x k : Nat) : Nat := bits x (8 * k + 7) (8 * k)
/-- JOIN of a sequence slot. -/
def batchJoin (x q : Nat) : Bool := bit x q
/-- LEAVE of a sequence slot. -/
def batchLeave (x q : Nat) : Bool := bit x (256 + q)
/-- Regions to reserve for a join. -/
def batchRegions (x q : Nat) : Nat := batchByte x (64 + q)
/-- BATCH_SEQ. -/
def batchSeq (x : Nat) : Nat := bits x 2591 2560

/-- Whether a batch image breaks R257, 4h. -/
def batchBad (record x : Nat) : Bool :=
  bits x 2815 2592 ≠ 0 || (List.range 256).any (fun q =>
    let n := batchRegions x q
    (servMaxSeq record ≤ q && (batchJoin x q || batchLeave x q))
      || (if batchJoin x q then n = 0 || servKvSpan record < n else n ≠ 0))

/-- The result object of a batch (R266). -/
def batchResult (record x : Nat) : Nat := servResFirst record + batchSeq x % max 1 (servResCount record)

/-- STATE of a result (R266). -/
def State.resState (s : State) (r : Nat) : Nat := bits (s.obj (okey (0x2400 + r) 1)) 31 30

/-- Whether a sequence slot will hold a reservation when a batch submitted now is admitted (R257, 5h). -/
def Serving.busySlot (v : Serving) (q : Nat) : Bool :=
  let held := v.kv.any (fun e => e.1 = q)
  match v.batches with
  | [] => held
  | b :: _ => (held || (!b.admitted && batchJoin b.image q)) && !batchLeave b.image q

/-- The reason in BATCH_RESULT (R257). -/
def State.batchReason (s : State) (ctx x : Nat) : Nat :=
  let v := s.serv ctx
  if !v.on then 1
  else if 2 ≤ v.batches.length then 2
  else if (match v.lastSeq with | some l => decide (batchSeq x ≠ (l + 1) % 2 ^ 32) | none => false) then 3
  else if batchBad v.record x then 4
  else if (List.range 256).any (fun q => batchJoin x q && v.busySlot q) then 5
  else if s.wver ctx = 0 && !v.switch then 6
  else if s.resState (batchResult v.record x) = 1 then 7
  else 0

/-- BATCH_CMD: the path's BATCH_IMAGE is accepted, or refused with a reason (R257). -/
def batchSubmit (s : State) (path ctx : Nat) : State :=
  s.onCmd path (okey (servIdx ctx) 8) (fun s =>
    let x := s.pobj path (okey (servIdx ctx) 7)
    let r := s.batchReason ctx x
    let s1 := s.setObj (okey (servIdx ctx) 9) r
    if r ≠ 0 then s1.setObj (okey (servIdx ctx) 8) 3
    else
      (s1.updServ ctx (fun v => { v with
        lastSeq := some (batchSeq x)
        batches := v.batches ++ [{ image := x, result := batchResult v.record x }] })).setObj (okey (servIdx ctx) 8) 2)

/-- The frames and regions that the placement map of a plan lists (R154, R405). -/
def imgPlaced (m : Mem) (kind : Nat) : List Nat :=
  ((List.range (imgSecLen m 7 / 8)).filter (fun k => m.rd (imgSecOff m 7 + 8 * k + 4) = kind)).map (fun k =>
    m.readLe (imgSecOff m 7 + 8 * k) 4)

/-- Pool frames that a join may take: empty, and not named in the plan's placement map (R260). -/
def State.joinFrames (s : State) (ctx : Nat) : List Nat :=
  let named := imgPlaced (s.ctx ctx).image 1
  (s.frames.filter (fun e => e.2 = .pool ctx false && !named.contains e.1)).map (fun e => e.1)

/-- The free frames in the order in which the sequencer takes them: `order` first, then ascending (R260 gives none; log
entry 47). -/
def State.joinOrder (s : State) (ctx : Nat) (order : List Nat) : List Nat :=
  let fs := s.joinFrames ctx
  (order.filter (fun f => fs.contains f) ++ fs).eraseDups

/-- Stages the regions of a join on their frames (R260). -/
def State.stageJoin (s : State) (ctx : Nat) (pairs : List (Nat × Nat)) : State :=
  pairs.foldl (fun t e => (t.updRegion e.1 (fun g =>
    { g with staged := true, dirty := false, busy := .idle, pages := [], frame := e.2 })).setFrame e.2 (.staged ctx e.1)) s

/-- The joins of a batch in ascending slot order: each takes its frames or is deferred (R260). The answer adds the slots
deferred. -/
def State.joins (s : State) (ctx record x : Nat) (order : List Nat) : List Nat → State × List Nat
  | [] => (s, [])
  | q :: t =>
    let n := batchRegions x q
    let fs := (s.joinOrder ctx order).take n
    if fs.length < n then
      let r := (s.addObj (okey (servIdx ctx) 0x0E) 32 1).joins ctx record x order t
      (r.1, q :: r.2)
    else
      let pairs := fs.mapIdx (fun j f => (servKvFirst record + q * servKvSpan record + j, f))
      ((s.stageJoin ctx pairs).updServ ctx (fun v => { v with kv := v.kv ++ [(q, pairs)] })).joins ctx record x order t

/-- Regions reserved by a sequence slot. -/
def Serving.reserved (v : Serving) (q : Nat) : Nat :=
  match v.kv.find? (fun e => e.1 = q) with | some e => e.2.length | none => 0

/-- The batch table's entry of a sequence slot (R260). -/
def Serving.tableEntry (v : Serving) (x q : Nat) (deferred : List Nat) : List Nat :=
  let n := v.reserved q
  [b2n (n ≠ 0), b2n (n ≠ 0 && batchJoin x q && !deferred.contains q)] ++ leBytes 2 n

/-- Changes the pin counters of buffer b of a list of slots. -/
def State.pinSlots (s : State) (ls : List Nat) (b : Nat) (f : Nat → Nat) : State :=
  ls.foldl (fun t l => t.updSlot l (fun z => z.setPin b (f (z.pin b)))) s

/-- BATCH_ADMIT: with no batch running, the oldest accepted batch takes the switch, pins its version, processes its joins,
writes the table, sets its result NOT_READY and posts BSTART (R258). -/
def batchAdmit (s : State) (ctx : Nat) (order : List Nat) : State :=
  let v := s.serv ctx
  match v.batches with
  | [] => s
  | b :: _ =>
    if !v.on || b.admitted || !s.dieRuns then s
    else
      let w := if v.switch then s.obj (okey (servIdx ctx) 2) else s.wver ctx
      let slots := s.servSlots ctx
      let s1 := (((s.setObj (okey (servIdx ctx) 1) w).setObj (okey (servIdx ctx) 2) w).updServ ctx (fun v =>
        { v with switch := false })).pinSlots slots (w % 2) (· + 1)
      let j := s1.joins ctx v.record b.image order ((List.range 256).filter (batchJoin b.image))
      let v2 := j.1.serv ctx
      let table := (List.range (servMaxSeq v.record)).flatMap (fun q => v2.tableEntry b.image q j.2)
      let s3 := j.1.tierWriteBytes (64 * servBtable v.record) table
      let i := 0x2400 + b.result
      let s4 := (List.range 5).foldl (fun t k => t.setObj (okey i (k + 1)) 0) s3
      let done : Batch := { b with
        admitted := true, version := w, pins := slots, active := v2.kv.length, deferred := j.2.length
        defMap := (j.2.map (fun q => 2 ^ q)).foldl (· + ·) 0 }
      (s4.updServ ctx (fun v => { v with batches := done :: v.batches.drop 1 })).seqPost ctx (servBstartUnit v.record)
        (servBstartCtr v.record)

/-- SLOT_TOKEN_POST: the next slot's token of the running batch, once the slot is READY with the batch's version (R259). -/
def slotTokenPost (s : State) (ctx : Nat) : State :=
  let v := s.serv ctx
  match v.batches with
  | [] => s
  | b :: t =>
    match b.pins[b.posted]? with
    | none => s
    | some l =>
      if !b.admitted || !v.holds l b.version || !s.dieRuns then s
      else
        let x := (s.slot l).image
        (s.updServ ctx (fun v => { v with batches := { b with posted := b.posted + 1 } :: t })).seqPost ctx (slotPostUnit x)
          (slotPostCtr x)

/-- The sequencer acquires the tokens on BDONE_CTR as they arrive; those beyond BDONE_N, and those without a running
batch, are discarded with POST_UNBOUND and a hold (R262; log entry 45). -/
def State.wakeSequencer (s : State) (ctx owner k : Nat) : State :=
  let v := s.serv ctx
  if !v.on || owner ≠ 0x94 || k ≠ servBdoneCtr v.record then s
  else
    let n := s.avail ctx 0x94 k
    let s1 := s.seqAcquire ctx k n
    match v.batches with
    | [] => if n = 0 then s else s1.holdShell 0x5004 0x94 ctx 0
    | b :: t =>
      let room := if b.admitted then servBdoneN v.record - b.bdone else 0
      let s2 := s1.updServ ctx (fun v => { v with batches := { b with bdone := b.bdone + min n room } :: t })
      if room < n then s2.holdShell 0x5004 0x94 ctx 0 else s2

/-- Drops the reservation of a sequence slot: its regions are unstaged and clean, its frames return to the pool (R262). -/
def State.dropKv (s : State) (ctx q : Nat) : State :=
  let pairs := ((s.serv ctx).kv.find? (fun e => e.1 = q)).map (fun e => e.2)
  let s1 := (pairs.getD []).foldl (fun t e => (t.updRegion e.1 (fun g =>
    { g with staged := false, dirty := false, pages := [], frame := 0 })).setFrame e.2 (.pool ctx false)) s
  s1.updServ ctx (fun v => { v with kv := v.kv.filter (fun e => e.1 ≠ q) })

/-- BATCH_COMPLETE: pins and leaving reservations are released, the result becomes READY, MSIX_VEC is signalled (R262); the
batch of a held context stays running (R263). -/
def batchComplete (s : State) (ctx : Nat) : State :=
  let v := s.serv ctx
  match v.batches with
  | [] => s
  | b :: t =>
    if !b.admitted || b.bdone ≠ servBdoneN v.record || (s.ctx ctx).held || !s.dieRuns then s
    else
      let s1 := s.pinSlots b.pins (b.version % 2) (· - 1)
      let s2 := ((List.range 256).filter (batchLeave b.image)).foldl (fun u q => u.dropKv ctx q) s1
      let i := 0x2400 + b.result
      let word := 2 ^ 30 + b.active * 2 ^ 21 + b.deferred * 2 ^ 12 + batchSeq b.image % 4096
      let s3 := ((((s2.setObj (okey i 1) word).setObj (okey i 2) (batchSeq b.image)).setObj (okey i 3) b.version).setObj
        (okey i 4) b.defMap)
      let s4 := if servMsixEn v.record then s3.signal (servMsixVec v.record) else s3
      (s4.updServ ctx (fun v => { v with batches := t })).addObj (okey (servIdx ctx) 0x0F) 64 1

/-- What unloading a plan does in the sequencer: batches end, pins and reservations go, a switch is discarded, so that WVER_NEXT
equals WVER (R263, R268). -/
def State.endServing (s : State) (ctx : Nat) : State :=
  let v := s.serv ctx
  if !v.on then s
  else
    let s1 := (v.batches.filter (fun b => b.admitted)).foldl (fun t b => t.pinSlots b.pins (b.version % 2) (· - 1)) s
    let s2 := v.kv.foldl (fun t e => t.dropKv ctx e.1) s1
    (s2.setObj (okey (servIdx ctx) 2) (s2.wver ctx)).updServ ctx (fun _ => {})

/-- Sets every object of a serving context to its default (R268). -/
def State.servDefaults (s : State) (ctx : Nat) : State :=
  { s with objs := s.objs.filter (fun e => e.1 / 256 ≠ servIdx ctx)
           pobjs := s.pobjs.filter (fun e => e.1 % 2 ^ 24 / 256 ≠ servIdx ctx) }

/-- What installing a serving plan does in the sequencer: version 0, empty buffers, no reservation, the ring's owner
(R248, R251, R263, R268, R270). -/
def State.beginServing (s : State) (ctx record : Nat) : State :=
  let s1 := (s.servDefaults ctx).updServ ctx (fun _ => { on := true, record := record })
  (List.range (servResCount record)).foldl (fun t k => t.setObj (okey (0x2400 + servResFirst record + k) 7) ctx) s1

/-! ### Results (R266, R267) -/

/-- A write of RES_ACK (R267): refused with BAD_ACK unless the result is READY or CONSUMED and the number its own. -/
def resAck (s : State) (path r v : Nat) : State :=
  let k := okey (0x2400 + r) 6
  let w := s.obj (okey (0x2400 + r) 1)
  if s.access path (0x2400 + r) ≠ 0 then s.unserved path (0x2400 + r)
  else if (bits w 31 30 = 1 || bits w 31 30 = 2) && s.obj (okey (0x2400 + r) 2) = v then
    s.setObj (okey (0x2400 + r) 1) (2 ^ 31 + w % 2 ^ 30)
  else (s.dictRefuse path k 8).refuse 0x5014 none 0

/-- A read of RES_WORD counts in RES_READS on a READY or CONSUMED result (R267). -/
def resWordRead (s : State) (path r : Nat) : State :=
  if s.access path (0x2400 + r) ≠ 0 then s.unserved path (0x2400 + r)
  else if s.resState r = 1 || s.resState r = 2 then
    s.setObj (okey (0x2400 + r) 5) (min 65535 (s.obj (okey (0x2400 + r) 5) + 1))
  else s

end Sys2Proof.Machine
end

