-- ==== Sys2Proof/Machine/PlanCheck.lean ====
section
/-!
DEFINITION. Validation of a plan image at LOAD (R273, R405): the header and the section extents, then the sections in
ascending order with every rule that a chapter lays on their contents. A check answers the REASON and the fault code of the
first failure.
-/

namespace Sys2Proof.Machine

/-- A refusal of a plan: REASON and fault code (R273). -/
abbrev PlanBad := Option (Nat × Nat)

/-- The first failure of a list of checks. -/
def firstBad (l : List PlanBad) : PlanBad := l.findSome? id

/-- A malformed image (R273, 2h). -/
def malformed (bad : Bool) : PlanBad := if bad then some (2, 0x5001) else none

/-- Contents that a rule refuses with a code (R273, 6h). -/
def content (bad : Bool) (code : Nat) : PlanBad := if bad then some (6, code) else none

/-- The first fault code of a list. -/
def firstCode (l : List (Option Nat)) : Option Nat := l.findSome? id

/-- SCHED BAD_COMMAND where a condition holds. -/
def badCmd (bad : Bool) : Option Nat := if bad then some 0x5001 else none

/-- ARITH BAD_CONVERT where a condition holds. -/
def badConv (bad : Bool) : Option Nat := if bad then some 0x3001 else none

/-- A command's fault code as a refusal of contents. -/
def asContent (c : Option Nat) : PlanBad := c.map (fun x => (6, x))

/-! ### Header and extents (R271, R405) -/

/-- Whether a section lies outside the image (R405). -/
def sectionOutside (m : Mem) (len k : Nat) : Bool :=
  let o := imgSecOff m k
  let n := imgSecLen m k
  n ≠ 0 && (o < 160 || o % 16 ≠ 0 || len < o + n ||
    (List.range 16).any (fun j => j ≠ k && imgSecLen m j ≠ 0 && imgSecOff m j < o + n && o < imgSecOff m j + imgSecLen m j))

/-- The length that a section's layout allows: bytes per entry, and the least length (R405). -/
def sectionLength (m : Mem) (k : Nat) : Bool :=
  let n := imgSecLen m k
  n = 0 || match k with
    | 0 => 16 * (imgTaskList m).length ≤ n
    | 1 => n % 256 = 0
    | 2 => n % 16 = 0
    | 3 => 128 ≤ n
    | 4 => 128 ≤ n
    | 5 => 64 ≤ n
    | 6 => 16 ≤ n
    | 7 => n % 8 = 0
    | 9 => n % 72 = 0
    | 10 => n = 32
    | 11 => n % 40 = 0
    | 13 => n = 32
    | _ => true

/-- Whether the ten save regions of a plan are Landing homes of the context (R273). -/
def State.saveRegionsOk (s : State) (ctx first : Nat) : Bool :=
  (regionRange first 10).all (fun r => (s.region r).home = .landing && (s.region r).ownedBy ctx)

/-- The header and the section extents (R271, R273, R405). -/
def State.headerBad (s : State) (ctx : Nat) (m : Mem) (len : Nat) : PlanBad :=
  let flags := imgFlags m
  firstBad ([
    malformed (len < 160 || m.readLe 0 4 ≠ 0x00000901),
    malformed (32 ≤ flags || imgActMode m = 3),
    (if imgDet m && 4 ≤ ((List.range 64).filter (fun c => c ≠ ctx && s.loaded c && imgDet (s.ctx c).image)).length
      then some (5, 0x5001) else none),
    malformed (if imgPreemptible m then !s.saveRegionsOk ctx (imgSaveFirst m) else imgSaveFirst m ≠ 0),
    malformed ((List.range 8).any (fun c => 16 < imgTasks m c)),
    malformed (m.readLe 20 12 ≠ 0)] ++
    (List.range 16).map (fun k => malformed (sectionOutside m len k)) ++
    (List.range 14).map (fun k => malformed (!sectionLength m k)) ++ [
    malformed (imgSecLen m 0 = 0 && imgTaskList m ≠ []),
    malformed (imgSecLen m 10 = 0),
    malformed (imgServing m ≠ decide (imgSecLen m 13 ≠ 0)),
    malformed (imgSecLen m 14 ≠ 0 || imgSecLen m 15 ≠ 0)])

/-! ### Commands of a core stream (R25, R26, R67, R71, R95, R96, R103, R155 to R157, R275) -/

/-- The common header: a post of nothing, a counter that the shell lacks, a route entry above 63 (R19, R24, R25; log entry
49). -/
def headBad (toks : Nat) (w : W128) : Option Nat :=
  let kind := fld w 91 90
  badCmd ((kind ≠ 0 && fld w 81 78 = 0) || (kind = 1 && toks ≤ fld w 89 82) || (2 ≤ kind && 64 ≤ fld w 89 82)
    || (fld w 111 104 ≠ 0 && toks ≤ fld w 119 112))

/-- Whether a code names an FP8 format. -/
def isFp8Code (c : Nat) : Bool := c = 2 || c = 3

/-- Whether a tensor scale breaks its field: FFh for an FP8 code, anything but zero otherwise. -/
def tscBad (code tsc : Nat) : Bool := if isFp8Code code then tsc = 0xFF else tsc ≠ 0

/-- Whether k slots of a format from an address stay inside the scratchpad (R65, R67). -/
def slotsFit (code addr k : Nat) : Bool :=
  match Format.ofCode code with
  | none => true
  | some f => 64 * addr + k * f.slotBytes ≤ 4194304

/-- Whether a binary32 pattern is finite. -/
def f32Finite (x : Nat) : Bool := bits x 30 23 ≠ 0xFF

/-- Whether a binary32 pattern is a NaN. -/
def f32IsNan (x : Nat) : Bool := (valOf (BitVec.ofNat 32 x)).isNan

/-- Whether clip bounds break R53. -/
def clipBad (lo hi : Nat) : Bool :=
  f32IsNan lo || f32IsNan hi || (valOf (BitVec.ofNat 32 hi)).lt (valOf (BitVec.ofNat 32 lo))

/-- An engine command of a task that uses `neng` engines, fields from the lowest up (R67 to R75, R275). -/
def engineBad (neng : Nat) (w : W128) : Option Nat :=
  let eng := badCmd (neng ≤ fld w 77 76)
  match fld w 127 120 with
  | 0x10 => firstCode [
      badCmd (fld w 7 0 ≠ 0), badCmd (tscBad (fld w 67 64) (fld w 15 8)), badCmd (tscBad (fld w 71 68) (fld w 23 16)),
      badCmd (!slotsFit (fld w 67 64) (fld w 39 24) (fld w 61 56)),
      badCmd (!slotsFit (fld w 71 68) (fld w 55 40) (fld w 61 56)), badCmd (fld w 61 56 = 0),
      badConv (fld w 67 64 = 0 || 9 < fld w 67 64), badConv (fld w 71 68 = 0 || 9 < fld w 71 68), eng]
  | 0x11 => firstCode [
      badCmd (fld w 42 0 ≠ 0), badCmd (tscBad (fld w 72 69) (fld w 50 43)), badCmd (!slotsFit (fld w 72 69) (fld w 66 51) 1),
      badConv (9 < fld w 72 69), eng]
  | 0x12 => firstCode [
      badCmd (fld w 29 0 ≠ 0), badCmd (!slotsFit (fld w 70 67) (fld w 62 47) 1), badConv (9 < fld w 70 67),
      badCmd (fld w 72 71 = 3), eng]
  | 0x13 => firstCode [
      badCmd (0xFFFFFFFF < fld w 31 0 + fld w 62 56 - 1), badCmd (fld w 39 32 ≠ 0),
      badCmd (4194304 < 64 * fld w 55 40 + 512 * fld w 70 64), badCmd (fld w 62 56 = 0 || 64 < fld w 62 56),
      badCmd (fld w 70 64 = 0 || 64 < fld w 70 64), badCmd (fld w 72 71 = 3), eng]
  | 0x14 => firstCode [badCmd (fld w 72 0 ≠ 0), eng]
  | 0x15 => firstCode [badConv (!f32Finite (fld w 31 0)), badConv (!f32Finite (fld w 63 32)), badCmd (fld w 71 64 ≠ 0), eng]
  | 0x16 => firstCode [badConv (clipBad (fld w 31 0) (fld w 63 32)), badConv (fld w 71 64 = 0xFF), eng]
  | _ => some 0x5001

/-- Fields that a register or reduction instruction uses beside VD: VA, VB, VC, MASK, ALL, IMM (R95, R96). -/
def limberUses (op : Nat) : Option (Bool × Bool × Bool × Bool × Bool × Bool) :=
  if op = 0x63 then some (false, false, false, true, false, true)
  else if op = 0x64 || op = 0x68 || op = 0x69 || op = 0x6A || op = 0x6D || op = 0x6E || op = 0x71 then
    some (true, true, false, true, false, false)
  else if op = 0x6B || op = 0x6C then some (true, true, true, true, false, false)
  else if op = 0x6F || op = 0x70 || (0x72 ≤ op && op ≤ 0x79) then some (true, false, false, true, false, false)
  else if op = 0x7C || op = 0x7D || op = 0x7E then some (true, false, true, true, true, false)
  else if op = 0x7F then some (true, true, true, true, true, false)
  else none

/-- A VLD or VST (R96, R103). -/
def loadStoreBad (store : Bool) (w : W128) : Option Nat :=
  let fmt := fld w 71 68
  let rb := fld w 29 29 = 1
  let xc := fld w 67 67 = 1
  firstCode [
    badCmd (fld w 26 0 ≠ 0), badCmd (fld w 28 27 ≠ 0 && (store || !rb)), badCmd (rb && (store || xc)),
    badCmd (0x10 ≤ fld w 38 34 && fld w 38 34 ≤ 0x1E),
    (if isFp8Code fmt then badConv (fld w 46 39 = 0xFF) else badCmd (fld w 46 39 ≠ 0)),
    badCmd (!slotsFit fmt (fld w 62 47) 1), badConv (store && xc && 4 ≤ fmt && fmt ≤ 9), badConv (9 < fmt)]

/-- A Limber command (R95, R96, R103, R106). -/
def limberBad (w : W128) : Option Nat :=
  let op := fld w 127 120
  match op with
  | 0x60 => loadStoreBad false w
  | 0x61 => loadStoreBad true w
  | 0x62 => badCmd (fld w 73 63 ≠ 0 || fld w 46 0 ≠ 0)
  | 0x80 => badCmd (fld w 46 0 ≠ 0 || fld w 49 47 = 7 || fld w 59 54 ≠ 0 || fld w 73 72 ≠ 0 || fld w 77 74 = 0)
  | 0x81 => badCmd (fld w 62 0 ≠ 0 || 5 ≤ fld w 65 63 || fld w 77 74 = 0)
  | 0x82 => badCmd (fld w 57 0 ≠ 0 || fld w 77 74 = 0)
  | _ => match limberUses op with
    | none => some 0x5001
    | some (a, b, c, k, all, imm) =>
      badCmd ((!imm && fld w 31 0 ≠ 0) || fld w 48 32 ≠ 0 || (!all && fld w 49 49 ≠ 0) || (!k && fld w 53 50 ≠ 0)
        || (!c && fld w 59 54 ≠ 0) || (!b && fld w 65 60 ≠ 0) || (!a && fld w 71 66 ≠ 0))

/-- A move-port command (R156, R157). -/
def movePortBad (w : W128) : Option Nat :=
  match fld w 127 120 with
  | 0x90 => badCmd ((fld w 43 42 = 0 && fld w 41 26 % 64 ≠ 0) || fld w 65 64 = 0)
  | 0x91 => badCmd ((fld w 43 42 = 0 && fld w 41 26 % 64 ≠ 0) || fld w 65 64 = 0)
  | 0x92 => badCmd (fld w 73 73 = 0 && fld w 72 49 % 64 ≠ 0)
  | _ => some 0x5001

/-- A command of a core stream: its body, then its header (R273). -/
def coreCmdBad (neng : Nat) (w : W128) : Option Nat :=
  let op := fld w 127 120
  let body :=
    if op ≤ 3 then none
    else if 0x10 ≤ op && op ≤ 0x5F then engineBad neng w
    else if 0x60 ≤ op && op ≤ 0x8F then limberBad w
    else movePortBad w
  firstCode [body, headBad 256 w]

/-- The words of an owner's stream. -/
def imgWords (m : Mem) (owner : Nat) : List W128 :=
  match imgStream m owner with
  | none => []
  | some (_, n) => (List.range n).map (imgWord m owner)

/-- Whether a stream's last word is not END (R26). -/
def endBad (ws : List W128) : PlanBad := content (ws ≠ [] && fld (ws.getLastD 0) 127 120 ≠ 3) 0x5001

/-- Section 0: the task entries, then the command streams (R272, R405). -/
def tasksBad (m : Mem) : PlanBad :=
  let ts := imgTaskList m
  firstBad (ts.map (fun o =>
      let e := imgTaskEntry m o
      let n := m.readLe (e + 4) 4
      firstBad [
        malformed (m.readLe e 4 % 16 ≠ 0), malformed (n = 0 || 4194304 < n),
        malformed (imgSecLen m 0 < m.readLe e 4 + 16 * n), content (imgSecLen m 1 ≤ 256 * m.readLe (e + 8) 2) 0x5001,
        malformed (imgNeng m o = 0 || 4 < imgNeng m o), malformed (m.readLe (e + 11) 5 ≠ 0)]) ++
    ts.map (fun o =>
      let ws := imgWords m o
      firstBad (ws.map (fun w => asContent (coreCmdBad (imgNeng m o) w)) ++ [endBad ws])))

/-! ### Counter bindings (R19, R204, R405) -/

/-- Token counters of an owner (R19). -/
def tokensOf (owner : Nat) : Nat := if owner < 128 then 256 else if owner ≤ 0x8F then 128 else 64

/-- Whether a key names a shell of the plan: a task that it holds, or a unit shell (R405). -/
def ownerExists (m : Mem) (isTask : Bool) (b0 b1 : Nat) : Bool :=
  if isTask then b0 < 8 && b1 < imgTasks m b0 else 0x80 ≤ b0 && b0 ≤ 0x94

/-- One binding entry, with the entries before it (R405). -/
def bindBad (m : Mem) (i : Nat) : PlanBad :=
  let a := imgSecOff m 2 + 16 * i
  let b := imgBind m i
  let before := (List.range i).map (imgBind m)
  let yarder := 0x88 ≤ b.owner && b.owner ≤ 0x8F && m.rd (a + 1) = 1
  let remote := b.party = 3 || b.isRelay
  firstBad [
    malformed (4 ≤ b.flags), content (b.isRelay && (b.isCredit || !yarder)) 0x5001,
    content (1 < m.rd (a + 1)) 0x5001, content (!ownerExists m (m.rd (a + 1) = 0) (m.rd (a + 2)) (m.rd (a + 3))) 0x5001,
    malformed (m.rd (a + 1) = 1 && m.rd (a + 3) ≠ 0),
    content ((if b.isCredit then 64 else tokensOf b.owner) ≤ b.counter) 0x5001,
    content (b.isCredit && before.any (fun x => x.owner = b.owner && x.counter = b.counter && x.isCredit)) 0x5001,
    content (before.any (fun x => x.owner = b.owner && x.counter = b.counter && x.isCredit ≠ b.isCredit)) 0x5001,
    content (3 < b.party) 0x5001, content (b.party = 3 && !yarder) 0x5001,
    content (match b.party with
      | 0 => !ownerExists m true (m.rd (a + 6)) (m.rd (a + 7))
      | 1 => 7 < m.rd (a + 6)
      | 2 => m.rd (a + 6) < 0x80 || 0x94 < m.rd (a + 6)
      | _ => false) 0x5001,
    malformed (match b.party with
      | 0 => false
      | 3 => m.readLe (a + 6) 2 ≠ 0
      | _ => m.rd (a + 7) ≠ 0),
    content (if b.isCredit then b.capacity = 0 else b.capacity ≠ 0) 0x5001,
    malformed (!remote && (b.group ≠ 0 || b.position ≠ 0)),
    content (!b.isRelay && b.remote ≠ 0) 0x5001, malformed (m.rd (a + 15) ≠ 0)]

/-- Section 2. -/
def bindsBad (m : Mem) : PlanBad := firstBad ((List.range (imgSecLen m 2 / 16)).map (bindBad m))

/-! ### Slots, streams and descriptors of a plan -/

/-- Section 9 as numbers and images (R405). -/
def imgDescs (m : Mem) : List (Nat × Nat) :=
  (List.range (imgSecLen m 9 / 72)).map (fun k =>
    (m.readLe (imgSecOff m 9 + 72 * k) 2, m.readLe (imgSecOff m 9 + 72 * k + 8) 64))

/-- A descriptor that the plan itself lists. -/
def imgDesc (m : Mem) (n : Nat) : Option Desc := ((imgDescs m).find? (fun e => e.1 = n)).map (fun e => descOf e.2)

/-- Section 11 as numbers and images (R405). -/
def imgSlots (m : Mem) : List (Nat × Nat) :=
  (List.range (imgSecLen m 11 / 40)).map (fun k =>
    (m.readLe (imgSecOff m 11 + 40 * k) 2, m.readLe (imgSecOff m 11 + 40 * k + 8) 32))

/-- The image of a slot that the plan installs (R230). -/
def imgSlot (m : Mem) (n : Nat) : Option Nat :=
  ((imgSlots m).find? (fun e => e.1 = n && bit e.2 255)).map (fun e => e.2)

/-- Stream entries of section 12 from a byte offset up: offset, number and words; `k` entries at most (R232, R405). -/
def streamsFrom (m : Mem) (a n : Nat) : Nat → List (Nat × Nat × List W128)
  | 0 => []
  | k + 1 =>
    if n < 32 then []
    else
      let h : W128 := BitVec.ofNat 128 (m.readLe (a + 16) 16)
      let len := 1 + fld h 124 120 + fld h 119 115
      (a, m.rd a, (List.range len).map (fun j => BitVec.ofNat 128 (m.readLe (a + 16 + 16 * j) 16))) ::
        streamsFrom m (a + 16 + 16 * len) (n - (16 + 16 * len)) k

/-- Section 12. -/
def imgStreams (m : Mem) : List (Nat × Nat × List W128) :=
  streamsFrom m (imgSecOff m 12) (imgSecLen m 12) (imgSecLen m 12 / 32)

/-- The words of an update stream that the plan installs (R232). -/
def imgUstream (m : Mem) (u : Nat) : Option (List W128) :=
  ((imgStreams m).find? (fun e => e.2.1 = u && fld (e.2.2.headD 0) 127 127 = 1)).map (fun e => e.2.2)

/-! ### Steps of the unit programs (R155, R160, R161, R167, R173, R198 to R201, R229) -/

/-- The descriptor that a step of a plan will name, as the LOAD can tell: the plan's own, else one that is live and stays so
because no plan is loaded that would free it (R115, R119, R130). -/
def State.planDesc (s : State) (m : Mem) (ctx n : Nat) : Option Desc :=
  match imgDesc m n with
  | some d => some d
  | none => if !s.loaded ctx && (s.desc ctx n).st = .live then some (descOf (s.desc ctx n).image) else none

/-- The regions that a MOVE touches through a native descriptor on one side, as the Tier Map numbers them (R130, R173). -/
def planRegions (b : MoveBody) (sd dd : Desc) (dest : Bool) : List Nat :=
  if (if dest then dd else sd).c6 then [] else ((moveTouched b sd dd dest).map (· / 2 ^ 26)).eraseDups

/-- What a pair of descriptors makes of a MOVE at LOAD: W3 of a copy (R167), the sizes and the places of R130; a C6 descriptor
shows no place before dispatch. -/
def State.movePairBad (s : State) (b : MoveBody) (sd dd : Desc) : Option Nat :=
  firstCode [
    badConv (copyW3Bad b sd dd), badCmd (moveSizesBad b sd dd),
    badCmd (!sd.c6 && !dd.c6 && s.misplaced b sd dd (planRegions b sd dd false) (planRegions b sd dd true))]

/-- A MOVE, fields from the lowest up, then what its descriptors and the Tier Map show (R130, R131, R160, R167, R173; log
entry 51). -/
def State.moveBad (s : State) (m : Mem) (ctx : Nat) (ws : List W128) : Option Nat :=
  let b := moveBody ws
  let w0 := ws.getD 0 0
  let w2 := ws.getD 2 0
  let w3 := ws.getD 3 0
  let sd := s.planDesc m ctx b.sdesc
  let dd := s.planDesc m ctx b.ddesc
  firstCode [
    badCmd (1 < b.cntx && (b.xd = 0 || b.xd = b.drd)), badCmd (b.cntx = 0), badCmd (b.cntr = 0), badCmd (b.cnt0 = 0),
    badCmd (!(List.range 4).all (fun k => b.perm.contains k)), badCmd (b.drd = 0), badCmd (fld w0 77 76 ≠ 3),
    badCmd (fld (ws.getD 1 0) 23 0 % 64 ≠ 0), badCmd (fld w2 23 0 % 64 ≠ 0),
    (match dd with
     | some d => badConv (d.fmt.isFp8 && fld w2 103 96 = 0xFF)
     | none => none),
    badConv (!f32Finite (fld w3 127 96) || !f32Finite (fld w3 95 64) || clipBad (fld w3 31 0) (fld w3 63 32)),
    (match sd, dd with
     | some x, some y => s.movePairBad b x y
     | _, _ => none),
    (match imgDesc m b.ddesc with
     | some d => badCmd (imgActMode m ≠ 0 && (planRegions b d d true).any (fun r => (s.region r).toHost))
     | none => none)]

/-- A step of a Skidder or host DMA program (R155, R160, R161, R173). -/
def State.moverBad (s : State) (m : Mem) (ctx : Nat) (ws : List W128) : Option Nat :=
  let w := ws.headD 0
  match fld w 127 120 with
  | 0x98 => s.moveBad m ctx ws
  | 0x99 => badCmd (fld w 42 0 ≠ 0 || fld w 77 76 ≠ 0)
  | _ =>
    badCmd (fld w 55 0 ≠ 0 || (imgActMode m ≠ 0 && (s.region (stepRegion w)).home = .host) || fld w 77 76 ≠ 0)

/-- The TOPL rules of R229 and R231 for a step of a group of n members. -/
def toplBad (m : Mem) (b : CollBody) (n : Nat) : Bool :=
  let c := b.count / max 1 n
  match imgSlot m b.lslot with
  | none => true
  | some x => b.dstart % 65536 ≠ 0 || (c % 65536 ≠ 0 && b.dstart + c ≠ slotN x) || b.ustream ≠ slotStream x
      || (imgUstream m (slotStream x)).isNone

/-- A collective step, fields from the lowest up (R198, R199, R201, R229). -/
def collBad (m : Mem) (self : Nat) (ws : List W128) : Option Nat :=
  let b := collBody ws
  let w0 := ws.getD 0 0
  let w1 := ws.getD 1 0
  let w2 := ws.getD 2 0
  let w3 := ws.getD 3 0
  let op := b.op
  let g := (imgGroup m b.group).getD []
  let n := g.length
  let commit := op = 0xA7
  let recv := op = 0xA4
  let send := op = 0xA3
  let ring := op = 0xA6
  let a2a := op = 0xA5
  let rs := op = 0xA0
  let wire := !recv && !commit
  let f := (Format.ofCode b.wfmt).getD .bf16
  let unused := fun (use : Bool) (v : Nat) => badCmd (!use && v ≠ 0)
  let most := 268435456
  let own := if a2a then n * b.cap * b.count else b.count
  firstCode [
    badCmd (fld w0 15 0 ≠ 0), unused ring b.lrel, unused ring b.rcred, badCmd (b.planes = 0), badCmd (b.topl && !rs),
    badCmd (b.det && !rs && op ≠ 0xA2), badCmd (b.red = 3 || (if rs || op = 0xA2 then b.red = 0 else b.red ≠ 0)),
    (if wire then badConv (b.wfmt = 0 || 9 < b.wfmt) else badCmd (b.wfmt ≠ 0)),
    (if (imgGroup m b.group).isNone then some 0x500F else none),
    unused (!send && !commit && !b.topl) b.ddesc, unused (!recv && !commit) b.sdesc, badCmd (fld w0 77 76 ≠ 3),
    badCmd (fld w1 15 0 ≠ 0), unused (!commit) b.count,
    badCmd (rs && (n = 0 || b.count % (64 * n) ≠ 0)), badCmd (op = 0xA1 && b.count % 64 ≠ 0),
    badCmd (wire && most < wireBytes f own), badCmd (op = 0xA1 && most < wireBytes f (n * b.count)),
    badCmd (a2a && wireBytes f b.count % 64 ≠ 0),
    unused (!send && !commit) b.dstart, badCmd (b.topl && toplBad m b n), unused (!recv && !commit) b.sstart,
    badCmd (fld w2 13 0 ≠ 0), unused (rs && b.topl) b.ustream, unused a2a b.cdesc, unused a2a b.cap,
    (if wire && isFp8Code b.wfmt && !b.scal then badConv (b.wtsc = 0xFF) else badCmd (b.wtsc ≠ 0)),
    unused (rs && (b.scal || b.topl)) b.lslot, badCmd (b.scal && (!rs || b.wfmt ≠ 1)),
    (if ring then badCmd (b.rounds = 0 || n ≤ b.rounds) else badCmd (b.rounds ≠ 0)),
    (if send || recv then badCmd (n ≤ b.peer || b.peer = g.idxOf self) else badCmd (b.peer ≠ 0)),
    (if send || commit then badCmd (fld w3 127 0 ≠ 0)
     else badConv (!f32Finite (fld w3 127 96) || !f32Finite (fld w3 95 64) || clipBad (fld w3 31 0) (fld w3 63 32)))]

/-- A step of a unit's program: the opcodes that the unit takes, then the step's own rules (R155, R198; log entry 50). -/
def State.stepBad (s : State) (m : Mem) (ctx u : Nat) (ws : List W128) : Option Nat :=
  let w := ws.headD 0
  let op := fld w 127 120
  let body :=
    if op ≤ 3 then none
    else if 0x98 ≤ op && op ≤ 0x9B && isMover u then s.moverBad m ctx ws
    else if 0xA0 ≤ op && op ≤ 0xA7 && 0x88 ≤ u && u ≤ 0x8F then collBad m (s.self ctx) ws
    else some 0x5001
  firstCode [body, headBad (tokensOf u) w]

/-- The steps of a program from a word position up: each step's words, cut at the program's end, with how many words it runs
past it; `k` steps at most. -/
def stepsFrom (u : Nat) : List W128 → Nat → List (List W128 × Nat)
  | _, 0 => []
  | [], _ => []
  | w :: t, k + 1 =>
    let n := stepWords u w - 1
    (w :: t.take n, n - t.length) :: stepsFrom u (t.drop n) k

/-- The program entries of section k for units from `u0` up, then their programs (R405). A step that runs past the section is
malformed; one that only runs past its program leaves the program without an END at its end (R26). -/
def State.programsBad (s : State) (m : Mem) (ctx k u0 count : Nat) : PlanBad :=
  if imgSecLen m k = 0 then none
  else
    firstBad ((List.range count).map (fun i =>
        let e := imgSecOff m k + 16 * i
        let n := m.readLe (e + 4) 4
        firstBad [
          malformed (m.readLe e 4 % 16 ≠ 0), malformed (imgSecLen m k < m.readLe e 4 + 16 * n),
          content (n ≠ 0 && imgSecLen m 1 ≤ 256 * m.readLe (e + 8) 2) 0x5001, malformed (m.readLe (e + 10) 6 ≠ 0)]) ++
      (List.range count).map (fun i =>
        let ws := imgWords m (u0 + i)
        let steps := stepsFrom (u0 + i) ws ws.length
        let o := m.readLe (imgSecOff m k + 16 * i) 4
        firstBad (steps.map (fun x => firstBad [
            malformed (x.2 ≠ 0 && imgSecLen m k < o + 16 * (ws.length + x.2)), content (x.2 ≠ 0) 0x5001,
            asContent (s.stepBad m ctx (u0 + i) x.1)]) ++
          [content (match steps.getLast? with
            | none => false
            | some x => fld (x.1.headD 0) 127 120 ≠ 3) 0x5001])))

/-! ### Placement map and groups (R154, R194) -/

/-- Whether a frame is in a context's pool, empty or staged (R143, R154). -/
def State.inPool (s : State) (ctx f : Nat) : Bool :=
  match s.frame f with
  | .pool c _ => c = ctx
  | .staged c _ => c = ctx
  | _ => false

/-- Section 7 (R154, R405). -/
def State.placementBad (s : State) (m : Mem) (ctx : Nat) : PlanBad :=
  firstBad ((List.range (imgSecLen m 7 / 8)).map (fun k =>
    let a := imgSecOff m 7 + 8 * k
    let x := m.readLe a 4
    firstBad [
      (match m.rd (a + 4) with
       | 0 => content (!(s.region x).ownedBy ctx) 0x500D
       | 1 => content (!s.inPool ctx x) 0x500D
       | _ => malformed true),
      malformed (m.readLe (a + 5) 3 ≠ 0)]))

/-- Groups of section 8 from a byte offset up, with the numbers already listed (R194, R405). -/
def State.groupsBad (s : State) (m : Mem) (ctx a n : Nat) (seen : List Nat) : Nat → PlanBad
  | 0 => none
  | k + 1 =>
    if n = 0 then none
    else if n < 4 then malformed true
    else
      let num := m.readLe a 2
      let cnt := m.readLe (a + 2) 2
      let size := 4 * ceilDiv (4 + 2 * cnt) 4
      let ps := (List.range cnt).map (fun j => m.readLe (a + 4 + 2 * j) 2)
      firstBad [
        malformed (4095 < num || seen.contains num), malformed (n < size),
        malformed (m.readLe (a + 4 + 2 * cnt) (size - 4 - 2 * cnt) ≠ 0),
        content (cnt < 2 || 16384 < cnt || ps.eraseDups.length ≠ cnt || !ps.contains (s.self ctx)
          || ps.any (16383 < ·) || ps.any (fun p => !memberValid (s.member ctx p))) 0x500F,
        s.groupsBad m ctx (a + size) (n - size) (num :: seen) k]

/-! ### Descriptors and the bucking record (R115, R215) -/

/-- The first descriptor entry that fails, with its reason (R115, R405). A number that is live or pending is in use, unless the
plan that the LOAD replaces goes first and frees it (R116, R119, R282; log entry 53). -/
def State.descsBad (s : State) (m : Mem) (ctx : Nat) : Option (Nat × Nat × Option (Nat × DescReason)) :=
  (List.range (imgSecLen m 9 / 72)).findSome? (fun k =>
    let a := imgSecOff m 9 + 72 * k
    let num := m.readLe a 2
    let dup := ((imgDescs m).take k).any (fun e => e.1 = num)
    if 4095 < num || dup || m.readLe (a + 2) 6 ≠ 0 then some (2, 0x5001, none)
    else match (if !s.loaded ctx && (s.desc ctx num).st ≠ .free then plainReason 10
        else validateDesc (s.alloc ctx) (m.readLe (a + 8) 64)) with
      | none => none
      | some r => some (6, descFault r.1, some (num, r)))

/-- A bucking field by its byte offset (R405). -/
def imgBuck (m : Mem) (o : Nat) : Nat := m.readLe (imgSecOff m 10 + o) 2

/-- Whether a plan holds a collective step (R215). -/
def imgHasColl (m : Mem) : Bool :=
  (List.range 8).any (fun c =>
    let ws := imgWords m (0x88 + c)
    (stepsFrom (0x88 + c) ws ws.length).any (fun x => 0xA0 ≤ fld (x.1.headD 0) 127 120))

/-- Section 10 (R215, R216). -/
def State.buckingBad (s : State) (m : Mem) (ctx : Nat) : PlanBad :=
  let v := fun k => imgBuck m (2 * k)
  let n := v 0
  firstBad [
    content ((List.range 7).any (fun k => v k = 0 || 16384 < v k)) 0x500F,
    content (n ≠ (s.validMembers ctx).length && !(n = 1 && !imgHasColl m)) 0x500F,
    content (v 2 * v 3 * v 4 * v 5 ≠ n) 0x500F, content (v 6 ≠ 1 && v 2 * v 5 % v 6 ≠ 0) 0x500F,
    content (n % v 1 ≠ 0 || v 1 % v 3 ≠ 0) 0x500F,
    malformed (imgBuck m 14 ≠ 0), malformed (m.readLe (imgSecOff m 10 + 20) 12 ≠ 0)]

/-! ### Layer slots, update streams, the serving record (R231 to R233, R248 to R250) -/

/-- Whether every region of a tier range belongs to a context. -/
def State.rangeOwned (s : State) (ctx a n : Nat) : Bool := (spanRegions a n).all (fun r => (s.region r).ownedBy ctx)

/-- Whether a slot's state regions are DDR of their Planers and the context's (R231). -/
def State.slotStateOk (s : State) (ctx x nst : Nat) : Bool :=
  (List.range 4).all (fun q =>
    let k := ceilDiv (slotGrans x - q) 4
    k = 0 || (spanRegions (slotSb x q * 2 ^ 26) (k * nst * 262144)).all (fun r =>
      let g := s.region r
      g.home = .ddr && g.planer = q && g.ownedBy ctx))

/-- Section 11 (R231, R405). -/
def State.slotsBad (s : State) (m : Mem) (ctx : Nat) : PlanBad :=
  firstBad ((imgSlots m).mapIdx (fun k e =>
    let a := imgSecOff m 11 + 40 * k
    let x := e.2
    firstBad [
      malformed (2047 < e.1 || ((imgSlots m).take k).any (fun y => y.1 = e.1)), malformed (m.readLe (a + 2) 6 ≠ 0),
      (if !bit x 255 then none
       else firstBad [
        content (bits x 107 80 ≠ 0) 0x5001, content (slotBuf x 1 % 64 ≠ 0) 0x5001, content (slotBuf x 0 % 64 ≠ 0) 0x5001,
        content (slotN x = 0 || 1073741824 < slotN x) 0x5001,
        content (match (s.slot e.1).owner with | some c => c ≠ ctx | none => false) 0x500D,
        (match imgUstream m (slotStream x) with
         | none => none
         | some ws => content (!s.slotStateOk ctx x (fld (ws.headD 0) 126 125)) 0x500D),
        content (!s.rangeOwned ctx (slotBuf x 0) (2 * slotN x) || !s.rangeOwned ctx (slotBuf x 1) (2 * slotN x)) 0x500D])]))

/-- An update instruction of the prologue or the body (R96, R233). -/
def updateBad (prologue : Bool) (w : W128) : Bool :=
  let op := fld w 127 120
  let maskOp := op = 0x80 || op = 0x81
  fld w 119 78 ≠ 0 || !isUpdateOp op || (limberBad w).isSome
    || (if op = 0x81 then 3 < fld w 73 70 || 3 < fld w 69 66
        else 31 < fld w 71 66 || 31 < fld w 65 60 || (!maskOp && 31 < fld w 59 54) || 3 < fld w 53 50)
    || (if maskOp then prologue || 3 < fld w 77 74
        else if prologue then fld w 77 72 < 16 || 31 < fld w 77 72 else 14 < fld w 77 72)

/-- Section 12 (R232, R233, R405). -/
def State.streamsBad (s : State) (m : Mem) (ctx : Nat) : PlanBad :=
  let es := imgStreams m
  let finish := imgSecOff m 12 + imgSecLen m 12
  let used := (es.map (fun e => 16 + 16 * e.2.2.length)).foldl (· + ·) 0
  firstBad (es.mapIdx (fun k e =>
    let h := e.2.2.headD 0
    let p := fld h 124 120
    firstBad [
      malformed (63 < e.2.1 || (es.take k).any (fun y => y.2.1 = e.2.1)), malformed (m.readLe (e.1 + 1) 15 ≠ 0),
      malformed (finish < e.1 + 16 + 16 * e.2.2.length),
      (if fld h 127 127 = 0 then none
       else firstBad [
        content (fld h 119 115 = 0 || 24 < fld h 119 115 || 24 < p || fld h 126 125 = 0) 0x5001,
        content (match (s.ustream e.2.1).owner with | some c => c ≠ ctx | none => false) 0x500D,
        content (((e.2.2.drop 1).take p).any (updateBad true) || ((e.2.2.drop 1).drop p).any (updateBad false)) 0x5001])]) ++
    [malformed (used ≠ imgSecLen m 12)])

/-- The serving record of a plan (R249, R405). -/
def imgServRec (m : Mem) : Nat := m.readLe (imgSecOff m 13) 32

/-- Whether a counter of a unit's shell has a binding that names unit 94h (R35, R250; log entry 54). -/
def boundTo94 (m : Mem) (unit ctr : Nat) : Bool :=
  (imgBinds m).any (fun b => !b.isCredit && b.counter = ctr && b.names 0x94
    && (if unit < 128 then b.owner < 128 && b.owner / 16 = unit / 16 else b.owner = unit))

/-- Whether fields of the serving record are out of range or reserved and non-zero (R248, R249). -/
def servRangeBad (r : Nat) : Bool :=
  0x94 < servBstartUnit r || 0x94 < servLgoUnit r || tokensOf (servBstartUnit r) ≤ servBstartCtr r
    || tokensOf (servLgoUnit r) ≤ servLgoCtr r || servBdoneN r = 0 || servMaxSeq r = 0 || 256 < servMaxSeq r
    || servKvSpan r = 0 || servResCount r < 2 || 64 < servResCount r || bits r 98 0 ≠ 0

/-- Section 13 (R248, R250). -/
def State.servingBad (s : State) (m : Mem) (ctx : Nat) : PlanBad :=
  if imgSecLen m 13 = 0 then none
  else
    let r := imgServRec m
    let first := servKvFirst r
    let count := servMaxSeq r * servKvSpan r
    let slots := (imgSlots m).filter (fun e => bit e.2 255)
    let names := fun (k : Nat) => k = servBdoneCtr r || k = servLdoneCtr r
    firstBad [
      content ((imgOwners m).any (fun o => (imgWords m o).any (fun w => fld w 127 120 = 2)
        && (o < 128 || (stepsFrom o (imgWords m o) (imgWords m o).length).any (fun x => fld (x.1.headD 0) 127 120 = 2))))
        0x5001,
      content ((imgStreams m).any (fun e => fld (e.2.2.headD 0) 127 127 = 1)) 0x5001,
      content (slots.any (fun e => !slotPostEn e.2)) 0x5001,
      content ((stepsFrom 0x94 (imgWords m 0x94) (imgWords m 0x94).length).any (fun x =>
        let w := x.1.headD 0
        (fld w 111 104 ≠ 0 && names (fld w 119 112)) || (fld w 97 92 ≠ 0 && names (fld w 103 98)))) 0x5001,
      content (servRangeBad r) 0x5001,
      content (1048576 < first + count) 0x500D,
      content ((regionRange first count).any (fun x =>
        let g := s.region x
        g.home ≠ .ddr || !g.ownedBy ctx || g.staged)) 0x500D,
      content (!s.inLandingAlloc ctx (64 * servBtable r) 1024) 0x500D,
      content (1024 < servResFirst r + servResCount r) 0x500D,
      content ((List.range (servResCount r)).any (fun k =>
        let o := s.obj (okey (0x2400 + servResFirst r + k) 7)
        o < 64 && o ≠ ctx && s.loaded o)) 0x500D,
      content (slots.any (fun e => (List.range 2).any (fun b =>
        (spanRegions (slotBuf e.2 b) (2 * slotN e.2)).any (fun x => !(s.region x).inLanding)))) 0x500D,
      content (!boundTo94 m (servBstartUnit r) (servBstartCtr r) || !boundTo94 m (servLgoUnit r) (servLgoCtr r)
        || slots.any (fun e => !boundTo94 m (slotPostUnit e.2) (slotPostCtr e.2))) 0x500D]

/-! ### The whole validation (R273) -/

/-- The first failure of an image, section by section; section 9 answers for itself. -/
def State.imageBad (s : State) (m : Mem) (len ctx : Nat) : PlanBad :=
  firstBad [
    s.headerBad ctx m len, tasksBad m, bindsBad m, s.programsBad m ctx 3 0x80 8, s.programsBad m ctx 4 0x88 8,
    s.programsBad m ctx 5 0x90 4, s.programsBad m ctx 6 0x94 1, s.placementBad m ctx,
    s.groupsBad m ctx (imgSecOff m 8) (imgSecLen m 8) [] (imgSecLen m 8 / 4 + 1),
    (s.descsBad m ctx).map (fun e => (e.1, e.2.1)), s.buckingBad m ctx, s.slotsBad m ctx, s.streamsBad m ctx,
    s.servingBad m ctx]

/-- Whether every check before section 9 passes, so that a failing descriptor is what refuses the plan (R115, R273). -/
def State.beforeDescs (s : State) (m : Mem) (len ctx : Nat) : Bool :=
  (firstBad [
    s.headerBad ctx m len, tasksBad m, bindsBad m, s.programsBad m ctx 3 0x80 8, s.programsBad m ctx 4 0x88 8,
    s.programsBad m ctx 5 0x90 4, s.programsBad m ctx 6 0x94 1, s.placementBad m ctx,
    s.groupsBad m ctx (imgSecOff m 8) (imgSecLen m 8) [] (imgSecLen m 8 / 4 + 1)]).isNone

end Sys2Proof.Machine
end

