-- ==== Sys2Proof/Machine/Context.lean ====
section
/-!
DEFINITION. Contexts: loading and unloading a plan (R271 to R273, R282), placement (R274 to R276, R283), the scheduler
(R278), pre-emption, save and restore (R279 to R281), and the Tally's event counters (R284).
-/

namespace Sys2Proof.Machine

/-- Signals a context's EVENT_MSIX (R285). -/
def State.ctxEvent (s : State) (ctx : Nat) : State := s.signal (s.obj (okey (ctxIdx ctx) 8))

/-- PLAN_CMD leaves busy as done (R285). -/
def State.planDone (s : State) (ctx : Nat) : State :=
  ((s.setObj (okey (ctxIdx ctx) 4) 0).setObj (okey (ctxIdx ctx) 3) 2).ctxEvent ctx

/-- PLAN_CMD is refused with a reason and a fault code, which is reported (R273, R282, R285). -/
def State.planRefused (s : State) (ctx reason code : Nat) : State :=
  (((s.setObj (okey (ctxIdx ctx) 4) (reason * 2 ^ 28 + code)).setObj (okey (ctxIdx ctx) 3) 3).refuse code (some ctx) 0).ctxEvent
    ctx

/-- A wait or a placement begins: the order number that R278 compares. -/
def State.stamp (s : State) (ctx : Nat) : State :=
  { s.updCtx ctx (fun c => { c with since := s.seqNo + 1 }) with seqNo := s.seqNo + 1 }

/-! ### Loading (R271 to R273) -/

/-- Copies n bytes of Landing-resolved tier space to offset o of an image, region by region. -/
def State.copyImage (s : State) (a n : Nat) (m : Mem) (o : Nat) : Nat → Mem
  | 0 => m
  | k + 1 =>
    if n = 0 then m
    else
      let len := min n (2 ^ 26 - a % 2 ^ 26)
      let m1 := match s.resolve a with
        | .landing x => s.landing.copy x len m o
        | _ => m
      s.copyImage (a + len) (n - len) m1 (o + len) k

/-- Plan bytes of every other context (R273, 3h). -/
def State.otherPlans (s : State) (ctx : Nat) : Nat :=
  ((s.ctxs.filter (fun e => e.1 ≠ ctx)).map (fun e => e.2.len)).foldl (· + ·) 0

/-- Reasons of R273 that come before the image is read (log entry 48). -/
def State.loadReason (s : State) (ctx a n : Nat) : Nat :=
  if s.loaded ctx && s.obj (okey (0x2100 + ctx) 0x0A) = 0 && !(s.ctx ctx).held then 1
  else if s.obj (okey 0x7010 1) = 1 then 0xC
  else if 67108864 < n || 2147483648 < s.otherPlans ctx + n then 3
  else if !s.inLandingAlloc ctx a n || (spanRegions a n).any (fun r => (s.region r).lost) then 4
  else 0

/-- Installs the descriptors of a plan (R115). -/
def State.installDescs (s : State) (ctx : Nat) (m : Mem) : State :=
  (imgDescs m).foldl (fun t e => t.installDesc ctx e.1 e.2) s

/-- Shows the bucking record (R216). -/
def State.showBucking (s : State) (ctx : Nat) (m : Mem) : State :=
  ((List.range 7).foldl (fun t k => t.setObj (okey (0x2100 + ctx) (k + 1)) (imgBuck m (2 * k))) s).setObj
    (okey (0x2100 + ctx) 8) (m.readLe (imgSecOff m 10 + 16) 4)

/-- Installs a plan's layer slots: an equal image keeps APPLIED and APPLIED_EPOCH, another starts at COMMITTED_STEP; slots
that the plan does not list are released (R231). A TORN granule stays TORN in each case (R238). -/
def State.installSlots (s : State) (ctx : Nat) (m : Mem) : State :=
  let mine := (imgSlots m).filter (fun e => bit e.2 255)
  let s1 : State := { s with slots := s.slots.filterMap (fun e =>
    if e.2.owner ≠ some ctx || mine.any (fun x => x.1 = e.1) then some e
    else if e.2.tornOnly = [] then none else some (e.1, { grans := e.2.tornOnly })) }
  mine.foldl (fun t e =>
    let z := t.slot e.1
    if z.owner = some ctx && z.image = e.2 then t.updSlot e.1 (fun y => { y with done := [] })
    else t.updSlot e.1 (fun _ => { owner := some ctx, image := e.2, base := t.committed ctx, grans := z.tornOnly })) s1

/-- Installs a plan's update streams; others of the context are released (R232). -/
def State.installStreams (s : State) (ctx : Nat) (m : Mem) : State :=
  let s1 : State := { s with ustreams := s.ustreams.filter (fun e => e.2.owner ≠ some ctx) }
  ((imgStreams m).filter (fun e => fld (e.2.2.headD 0) 127 127 = 1)).foldl (fun t e =>
    { t with ustreams := Tab.put {} t.ustreams e.2.1 { owner := some ctx, words := e.2.2 } }) s1

/-- Counters at plan start (R23): tokens and acquired counts 0, credit counters at their capacity. -/
def State.startCounters (s : State) (ctx : Nat) (m : Mem) : State :=
  let mine := fun (k : Nat) => k / 65536 = ctx
  let s1 : State := { s with
    tok := s.tok.filter (fun e => !mine e.1), acq := s.acq.filter (fun e => !mine e.1)
    cred := s.cred.filter (fun e => !mine e.1), streams := s.streams.filter (fun e => e.1 / 256 ≠ ctx) }
  ((imgBinds m).filter BindEntry.isCredit).foldl (fun t b =>
    { t with cred := Tab.put 0 t.cred (ckey ctx b.owner b.counter) (BitVec.ofNat 16 b.capacity) }) s1

/-- Installs an accepted image: the context waits for placement (R273); a cluster with a program of its Skidder or Yarder
switches on (R356). -/
def State.install (s : State) (ctx : Nat) (m : Mem) (len : Nat) : State :=
  let s1 := ((((s.startCounters ctx m).installDescs ctx m).showBucking ctx m).installSlots ctx m).installStreams ctx m
  let s2 := s1.scalerDiscard ctx
  let s3 := if imgServing m then s2.beginServing ctx (imgServRec m) else s2
  let s4 := s3.updCtx ctx (fun c => { c with
    st := .waiting, image := m, len := len, nextImage := none, mapped := false, firstWait := true, preempted := false
    overrun := false, sliceDone := false })
  let s5 := ((List.range 8).filter (fun c => (imgStream m (0x80 + c)).isSome || (imgStream m (0x88 + c)).isSome)).foldl
    (fun t c => t.turnOn (128 + c)) s4
  ((s5.stamp ctx).restCheck ctx).planDone ctx

/-- PLAN_CMD 1 LOAD (R273, R282): refused with a reason, or installed once an earlier plan has been unloaded; it closes every
segment channel (R340). -/
def planLoad (s : State) (path ctx : Nat) : State :=
  s.onCmd path (okey (ctxIdx ctx) 3) (fun s =>
    let a := s.obj (okey (ctxIdx ctx) 1)
    let n := s.obj (okey (ctxIdx ctx) 2)
    let r := s.loadReason ctx a n
    let s : State := { s with segs := [] }
    if r ≠ 0 then s.planRefused ctx r 0x5001
    else
      let m := s.copyImage a n {} 0 3
      match s.imageBad m n ctx with
      | some (reason, code) =>
        let s1 := match s.descsBad m ctx with
          | some (_, _, some (num, why)) =>
            if s.beforeDescs m n ctx then s.setObj (okey (0x2800 + ctx) 4) (descResult why num) else s
          | _ => s
        s1.planRefused ctx reason code
      | none =>
        if s.loaded ctx then
          (s.updCtx ctx (fun c => { c with st := .unloading, nextImage := some (m, n), overrun := false, drain := 0 })).setObj
            (okey (ctxIdx ctx) 3) 1
        else s.install ctx m n)

/-! ### Unloading (R282) -/

/-- PLAN_CMD 2 UNLOAD (R282): dispatch stops until UNLOAD_COMPLETE. -/
def unload (s : State) (path ctx : Nat) : State :=
  s.onCmd path (okey (ctxIdx ctx) 3) (fun s =>
    if !s.loaded ctx then s.planRefused ctx 0xB 0x5001
    else (s.updCtx ctx (fun c => { c with st := .unloading, nextImage := none, overrun := false, drain := 0 })).setObj
      (okey (ctxIdx ctx) 3) 1)

/-- Frees what a plan holds: cores, save records, pins, the sequencer, descriptors with the objects of R119, posts under
way (log entry 59), captures of groups that are still open (R303), counters, streams, the image (R282). -/
def State.freePlan (s : State) (ctx : Nat) : State :=
  let s1 := (s.coresOf ctx).foldl (fun t n => t.leaveCore n) s
  let s2 := (s1.unpin ctx).endServing ctx
  let di := 0x2800 + ctx
  let s3 := (s2.showBucking ctx {}).startCounters ctx {}
  let s4 : State := { s3 with
    descs := s3.descs.filter (fun e => e.1 / 4096 ≠ ctx)
    objs := s3.objs.filter (fun e => e.1 / 256 ≠ di)
    pobjs := s3.pobjs.filter (fun e => e.1 % 2 ^ 24 / 256 ≠ di)
    posts := s3.posts.filter (fun p => p.ctx ≠ ctx)
    captures := s3.captures.filter (fun c => c.ctx ≠ ctx || c.phase ≠ .capturing) }
  (s4.updCtx ctx (fun c => { c with
    st := .empty, held := false, holdFault := 0, image := {}, len := 0, places := [], saves := [], broken := false
    mapped := false, preempted := false, sliceDone := false, c6Mark := none, c6Old := {} })).restCheck ctx

/-- UNLOAD_COMPLETE: every dispatched command and step of the context has ended; the plan goes, and an image that waits is installed
(R273, R282). `busy` is the part of the drain in which events fell, which no tick has counted (log entry 9). -/
def unloadComplete (s : State) (ctx busy : Nat) : State :=
  let c := s.ctx ctx
  if c.st ≠ .unloading || s.flights.any (fun f => f.ctx = ctx) || !s.dieRuns then s
  else
    let s1 := ((s.drainMore ctx busy).countDrain ctx).freePlan ctx
    match c.nextImage with
    | some (m, n) => s1.install ctx m n
    | none => (s1.updCtx ctx (fun x => { x with nextImage := none })).planDone ctx

/-! ### Placement (R274 to R276, R283) -/

/-- The unfenced engines of a core, as positions 0 to 3 (R274, R275). -/
def State.freeEngines (s : State) (n : Nat) : List Nat := (List.range 4).filter (fun k => !s.engFenced (4 * n + k))

/-- Whether a core can serve a task, occupied or not (R274, R322). -/
def State.usable (s : State) (n neng : Nat) : Bool := neng ≤ (s.freeEngines n).length && !s.unitDown n

/-- Whether no task holds a core, those of the contexts in `gone` not counted (R274, R278). -/
def State.unoccupied (s : State) (gone : List Nat) (n : Nat) : Bool :=
  (s.core n).phase = .free || gone.contains (s.core n).ctx

/-- Places tasks in list order on the lowest-numbered eligible cores; none where a cluster lacks cores (R22, R274). -/
def State.fitTasks (s : State) (gone : List Nat) (m : Mem) : List Nat → List (Nat × Nat) → Option (List (Nat × Nat))
  | [], acc => some acc
  | o :: t, acc =>
    match ((List.range 16).map (fun k => 16 * (o / 16) + k)).find? (fun n =>
        s.usable n (imgNeng m o) && s.unoccupied gone n && !acc.any (fun e => e.2 = n)) with
    | none => none
    | some n => s.fitTasks gone m t (acc ++ [(o, n)])

/-- The tasks of a context that are still to run. -/
def State.tasksLeft (s : State) (ctx : Nat) : List Nat :=
  (imgTaskList (s.ctx ctx).image).filter (fun o => !(s.stream ctx o).ended)

/-- The cores that PLACE_MAP records for a context's tasks (R283). -/
def State.recorded (s : State) (ctx : Nat) : List (Nat × Nat) :=
  (s.tasksLeft ctx).map (fun o => (o, Tab.get 0 (s.ctx ctx).placeMap o - 1))

/-- Whether a DETERMINISTIC context places by its recorded map (R283). -/
def State.byMap (s : State) (ctx : Nat) : Bool := imgDet (s.ctx ctx).image && (s.ctx ctx).mapped

/-- Where a waiter's tasks would go, with the contexts in `gone` removed (R274, R278, R283). -/
def State.fits (s : State) (gone : List Nat) (ctx : Nat) : Option (List (Nat × Nat)) :=
  if s.byMap ctx then
    (if (s.recorded ctx).all (fun e => s.usable e.2 (imgNeng (s.ctx ctx).image e.1) && s.unoccupied gone e.2)
      then some (s.recorded ctx) else none)
  else s.fitTasks gone (s.ctx ctx).image (s.tasksLeft ctx) []

/-- Whether a recorded core of a waiter is no longer eligible (R283). -/
def State.mapFenced (s : State) (ctx : Nat) : Bool :=
  s.byMap ctx && (s.recorded ctx).any (fun e => (s.freeEngines e.2).length < imgNeng (s.ctx ctx).image e.1)

/-- Whether a context waits for placement: WAITING or SAVED, not held for PLACE_FENCED, and alone under isolation (R278,
R283, R327). -/
def State.waiting (s : State) (ctx : Nat) : Bool :=
  let c := s.ctx ctx
  (c.st = .waiting || c.st = .saved) && !(c.held && c.holdFault = 0x5016)
    && (match s.isolated with | some i => i = ctx | none => true)

/-- PRIO of a context. -/
def State.prio (s : State) (ctx : Nat) : Nat := s.obj (okey (ctxIdx ctx) 6)

/-- Whether waiter a comes before waiter b (R278). -/
def State.waitsBefore (s : State) (a b : Nat) : Bool :=
  s.prio b < s.prio a || (s.prio a = s.prio b && ((s.ctx a).since < (s.ctx b).since
    || ((s.ctx a).since = (s.ctx b).since && a < b)))

/-- Inserts into a list that an order sorts. -/
def insertBy (before : Nat → Nat → Bool) (a : Nat) : List Nat → List Nat
  | [] => [a]
  | b :: t => if before a b then a :: b :: t else b :: insertBy before a t

/-- Sorts by an order. -/
def sortBy (before : Nat → Nat → Bool) (l : List Nat) : List Nat := l.foldr (insertBy before) []

/-- The waiters in order (R278). -/
def State.waiters (s : State) : List Nat := sortBy s.waitsBefore ((List.range 64).filter s.waiting)

/-- Changes the engine of every tile and conversion set of a task's data (R275, R279). -/
def CoreData.mapEngines (f : Nat → Nat) (d : CoreData) : CoreData :=
  { d with
    tiles := d.tiles.foldl (fun t e => Tab.put {} t (8 * f (e.1 / 8) + e.1 % 8) e.2) []
    sets := d.sets.foldl (fun t e => Tab.put {} t (16 * f (e.1 / 16) + e.1 % 16) e.2) [] }

/-- Puts a task on a core in a phase: engine mapping, place, history, power (R274, R275, R329, R356). -/
def State.placeTask (s : State) (ctx : Nat) (phase : CorePhase) (e : Nat × Nat) : State :=
  let n := e.2
  let engs := (s.freeEngines n).take (imgNeng (s.ctx ctx).image e.1)
  let h := okey (0x8000 + n) 5
  let s1 := s.updCore n (fun c => { c with phase := phase, ctx := ctx, task := e.1 % 16, engs := engs })
  let s2 := s1.updCtx ctx (fun c => { c with places := Tab.put 0 c.places e.1 (n + 1) })
  ((s2.setObj h ((s2.obj h * 256 + 128 + ctx) % 2 ^ 32)).turnOn n).turnOn (128 + n / 16)

/-- Places a context: a WAITING one is PLACED and its cores are cleared, a SAVED one is RESTORING; the first placement of a
DETERMINISTIC context is recorded (R274, R276, R279, R283). -/
def State.place (s : State) (ctx : Nat) (where_ : List (Nat × Nat)) : State :=
  let c := s.ctx ctx
  let saved := c.st = .saved
  let s1 := where_.foldl (fun t e => t.placeTask ctx (if saved then .restoring else .clearing) e) s
  let s2 := s1.updCtx ctx (fun x => { x with
    st := if saved && where_ ≠ [] then .restoring else .placed
    firstWait := false, sliceDone := false
    mapped := x.mapped || imgDet x.image
    placeMap := if imgDet x.image && !x.mapped then where_.foldl (fun t e => Tab.put 0 t e.1 (e.2 + 1)) [] else x.placeMap })
  (s2.stamp ctx).restCheck ctx

/-- The first waiter that fits now, with its cores (R278). -/
def State.nextPlaced (s : State) : Option (Nat × List (Nat × Nat)) :=
  s.waiters.findSome? (fun c => (s.fits [] c).map (fun w => (c, w)))

/-- Holds a waiter whose recorded core is no longer eligible (R283). -/
def State.holdFenced (s : State) (ctx : Nat) : State := (s.report 0x5016 7 0 (some ctx) 0 true false).hold ctx 0x5016

/-- PLACEMENT of a context: the first waiter in order that fits (R274, R278); a recorded core that is no longer eligible
holds the context (R283). -/
def placement (s : State) (ctx : Nat) : State :=
  if !s.dieRuns || !s.waiting ctx then s
  else if s.mapFenced ctx then
    (if (s.ctx ctx).held then s else s.holdFenced ctx)
  else match s.nextPlaced with
    | some (c, w) => if c = ctx then s.place ctx w else s
    | none => s

/-- CORE_CLEAR_COMPLETE of a core that is on: scratchpad, tiles and registers take their plan-start values; dispatch begins,
or the drain of a pre-emption (R276, R279, R356). -/
def coreClearComplete (s : State) (n : Nat) : State :=
  let c := s.core n
  if c.phase ≠ .clearing || Tab.get false s.power.off n || !s.dieRuns || s.unitDown n then s
  else
    ((s.dropTileCaps c.data.tiles).updCore n (fun x => { x with
      phase := if (s.ctx x.ctx).st = .saving then .draining else .running, data := {} })).restCheck c.ctx

/-! ### Pre-emption (R278 to R282) -/

/-- Stops dispatch for a pre-emption: the drain begins (R279). -/
def State.beginSave (s : State) (ctx : Nat) : State :=
  let s1 := (s.coresOf ctx).foldl (fun t n => t.updCore n (fun c =>
    { c with phase := if c.phase = .running then .draining else c.phase })) s
  (s1.updCtx ctx (fun c => { c with st := .saving, overrun := false, saves := [], drain := 0 })).restCheck ctx

/-- PLAN_CMD 4 PREEMPT (R282): busy until the context is SAVED. -/
def preempt (s : State) (path ctx : Nat) : State :=
  s.onCmd path (okey (ctxIdx ctx) 3) (fun s =>
    if (s.ctx ctx).st ≠ .placed then s.planRefused ctx 8 0x5001
    else if !imgPreemptible (s.ctx ctx).image then s.planRefused ctx 9 0x5001
    else ((s.beginSave ctx).updCtx ctx (fun c => { c with preempted := true })).setObj (okey (ctxIdx ctx) 3) 1)

/-- PLAN_CMD 5 CANCEL (R281, R282): the drain ends and dispatch resumes; accepted while PLAN_CMD is busy with a PREEMPT (log
entry 56). -/
def cancelPreempt (s : State) (path ctx : Nat) : State :=
  if s.access path (ctxIdx ctx) ≠ 0 then s.unserved path (ctxIdx ctx)
  else if s.obj (okey (ctxIdx ctx) 3) = 1 && !((s.ctx ctx).preempted && s.drains ctx) then
    s.dictRefuse path (okey (ctxIdx ctx) 3) 5
  else if !s.drains ctx then s.planRefused ctx 0xA 0x5001
  else
    let s1 := (s.coresOf ctx).foldl (fun t n => t.updCore n (fun c =>
      { c with phase := if c.phase = .clearing then .clearing else .running })) s
    ((s1.updCtx ctx (fun c => { c with st := .placed, saves := [], preempted := false })).restCheck ctx).planDone ctx

/-- The tier address of a task's save record (R279). -/
def State.saveAddr (s : State) (ctx o : Nat) : Nat := imgSaveFirst (s.ctx ctx).image * 2 ^ 26 + o * 5242880

/-- The bytes of a task's place in the save regions as they stand (R279). -/
def State.saveArea (s : State) (ctx o : Nat) : Mem := s.copyImage (s.saveAddr ctx o) 4788480 {} 0 2

/-- SAVE_START of core n: no command of the task is left; the record is written, and the last drain counts (R279, R281); `busy` is
the part of the drain in which events fell, which no tick has counted (log entry 9). The record's layout is not stated: its bytes are
undefined, and the model keeps what they mean (log entry 55). -/
def saveStart (s : State) (n busy : Nat) : State :=
  let c := s.core n
  let o := 16 * (n / 16) + c.task
  if c.phase ≠ .draining || s.flights.any (fun f => f.ctx = c.ctx && f.owner = o) || !s.dieRuns then s
  else
    let d := c.data.mapEngines (fun k => c.engs.idxOf k)
    let s1 := (s.updCore n (fun x => { x with phase := .saving })).tierLose (s.saveAddr c.ctx o) 4788480 2
    let s2 := s1.updCtx c.ctx (fun x =>
      { x with saves := Tab.put {} x.saves o { data := d, area := s1.saveArea c.ctx o } })
    let s3 := s2.drainMore c.ctx busy
    if s3.drains c.ctx then s3 else s3.countDrain c.ctx

/-- The data of a core that a saved task has left: its tiles are free, with flags and hashes as they stand until the core is
cleared (R78, R80, R276). -/
def CoreData.left (d : CoreData) : CoreData := { d with tiles := d.tiles.map (fun e => (e.1, e.2.freed)) }

/-- SAVE_COMPLETE of a context: every record is written; the cores are free, the context SAVED (R279). -/
def saveComplete (s : State) (ctx : Nat) : State :=
  let c := s.ctx ctx
  if c.st ≠ .saving || s.drains ctx || !s.dieRuns then s
  else
    let s1 := (s.coresOf ctx).foldl (fun t n => (t.leaveCore n).updData n CoreData.left) s
    let s2 := (s1.updCtx ctx (fun x => { x with st := .saved, places := [], preempted := false })).stamp ctx
    let s3 := (s2.addObj (okey (ctxIdx ctx) 0x15) 32 1).restCheck ctx
    if c.preempted then s3.planDone ctx else s3

/-- Whether a Landing reset has lost the save regions of a context (R141, R323). -/
def State.saveLost (s : State) (ctx : Nat) : Bool :=
  (regionRange (imgSaveFirst (s.ctx ctx).image) 10).any (fun r => (s.region r).lost)

/-- n free values from number b of the counter of free values, as a table in canonical form. -/
def freeTab {α : Type} [DecidableEq α] (b n : Nat) (d : α) (mk : Nat → α) : Tab α :=
  ((List.range n).map (fun k => (k, mk (Config.freeValue (b + k))))).filter (fun e => e.2 ≠ d)

/-- An accumulator tile of context ctx with free contents (log entry 55). -/
def freeTile (b ctx v : Nat) : Tile :=
  { st := if v % 2 = 1 then .opened else .free, owner := if v % 2 = 1 then ctx else 0
    els := freeTab b 4096 0 (BitVec.ofNat 32), ovfPos := bit v 1, ovfNeg := bit v 2, first := bits v 14 3, count := bits v 24 15
    hash := bits v 56 25 }

/-- A task's data with free contents (log entry 55). -/
def freeData (b ctx : Nat) : CoreData :=
  { pad := { holes := [{ lo := 0, len := 4194304, seed := b, off := 0 }] }
    tiles := ((List.range 32).map (fun k => (k, freeTile (b + 8192 * (k + 1)) ctx (Config.freeValue (b + k))))).filter
      (fun e => e.2 ≠ {})
    sets := ((List.range 64).map (fun k => (k, ({
      s := BitVec.ofNat 32 (Config.freeValue (b + 300000 + 5 * k)), b := BitVec.ofNat 32 (Config.freeValue (b + 300001 + 5 * k))
      lo := BitVec.ofNat 32 (Config.freeValue (b + 300002 + 5 * k)), hi := BitVec.ofNat 32 (Config.freeValue (b + 300003 + 5 * k))
      tscale := Config.freeValue (b + 300004 + 5 * k) % 256 } : ConvSet)))).filter (fun e => e.2 ≠ {})
    lanes := freeTab (b + 310000) 16384 0 (BitVec.ofNat 32)
    masks := (freeTab (b + 330000) 16 0 (BitVec.ofNat 256)).filter (fun e => e.1 ≠ 0)
    sas := freeTab (b + 331000) 16 {} Stat.ofWord
    wins := freeTab (b + 332000) 64 0 (BitVec.ofNat 32) }

/-- A task whose record has been written over takes free data, counters and stream position (R279; log entry 55). -/
def State.restoreFree (s : State) (n ctx o : Nat) : State :=
  let b := s.free
  let mine := fun (k : Nat) => k / 256 = skey ctx o
  let put := fun (t : Tab Ctr) (b n : Nat) =>
    (freeTab b n (0 : Ctr) (BitVec.ofNat 16)).foldl (fun u e => Tab.put 0 u (ckey ctx o e.1) e.2) (t.filter (fun e => !mine e.1))
  let s1 : State := { s with
    free := b + 400000
    tok := put s.tok (b + 340000) 256, acq := put s.acq (b + 341000) 256, cred := put s.cred (b + 342000) 64 }
  ((s1.updStream ctx o (fun x => { x with pos := Config.freeValue (b + 343000) % 2 ^ 22 })).updCore n (fun x =>
    { x with data := freeData b ctx }))

/-- RESTORE_COMPLETE of core n: the task's record is read back; with the last one the context is PLACED (R279, R280). Records
in a LOST region cannot be read: the context is held (R141). -/
def restoreComplete (s : State) (n : Nat) : State :=
  let c := s.core n
  let o := 16 * (n / 16) + c.task
  if c.phase ≠ .restoring || Tab.get false s.power.off n || !s.dieRuns || s.unitDown n then s
  else if s.saveLost c.ctx then (if (s.ctx c.ctx).held then s else s.holdShell 0x2005 n c.ctx 0)
  else
    let r := Tab.get {} (s.ctx c.ctx).saves o
    let s0 := s.updCore n (fun x => { x with phase := .running })
    let s1 := if s.saveArea c.ctx o = r.area then
        s0.updCore n (fun x => { x with data := r.data.mapEngines (fun k => c.engs.getD k k) })
      else (s0.dropTileCaps r.data.tiles).restoreFree n c.ctx o
    let last := (s1.coresOf c.ctx).all (fun k => (s1.core k).phase = .running)
    (if last && (s1.ctx c.ctx).st = .restoring then s1.updCtx c.ctx (fun x => { x with st := .placed, saves := [] })
      else s1).restCheck c.ctx

/-- PREEMPT_OVERRUN: a drain or an UNLOAD has lasted 1.6 ms; reported once, with the core, and in DETAIL the place in its
stream and the opcode, of the oldest command still running (R281, R282; log entry 57). -/
def preemptOverrun (s : State) (ctx : Nat) : State :=
  let c := s.ctx ctx
  if c.overrun || !(s.drains ctx || c.st = .unloading) || !s.dieRuns then s
  else match s.flights.find? (fun f => f.ctx = ctx && (c.st = .unloading || f.owner < 128)) with
    | none => s
    | some f =>
      (s.updCtx ctx (fun x => { x with overrun := true })).report 0x5015 1 (if f.owner < 128 then f.core else f.owner)
        (some ctx) (f.pos * 256 + f.op) false false

/-- SLICE_EXPIRY: a PLACED context has been placed for SLICE_SCLK (R278). -/
def sliceExpiry (s : State) (ctx : Nat) : State :=
  if (s.ctx ctx).st = .placed && s.dieRuns then s.updCtx ctx (fun c => { c with sliceDone := true }) else s

/-- Whether context p qualifies as a victim of waiter w (R278, R283). -/
def State.victim (s : State) (w p : Nat) : Bool :=
  let c := s.ctx p
  c.st = .placed && imgPreemptible c.image && !c.held && !imgDet c.image && s.prio p ≤ s.prio w && c.sliceDone

/-- Whether victim a is taken before victim b (R278). -/
def State.takenBefore (s : State) (a b : Nat) : Bool :=
  s.prio a < s.prio b || (s.prio a = s.prio b && ((s.ctx a).since < (s.ctx b).since
    || ((s.ctx a).since = (s.ctx b).since && a < b)))

/-- Contexts being saved, which count as removed (R278). -/
def State.saving (s : State) : List Nat := (List.range 64).filter (fun c => (s.ctx c).st = .saving)

/-- Takes victims one by one until the waiter fits (R278). -/
def State.takeVictims (s : State) (w : Nat) (gone : List Nat) : List Nat → List Nat
  | [] => []
  | p :: t => if (s.fits gone w).isSome then [] else p :: s.takeVictims w (p :: gone) t

/-- The victims that the first waiter able to fit asks for (R278). -/
def State.victims (s : State) : List Nat :=
  (s.waiters.findSome? (fun w =>
    let vs := sortBy s.takenBefore ((List.range 64).filter (s.victim w))
    if (s.fits (s.saving ++ vs) w).isSome then some (s.takeVictims w s.saving vs) else none)).getD []

/-- Places waiters in order while one fits; `k` at most (R278). -/
def State.placeAll (s : State) : Nat → State
  | 0 => s
  | k + 1 => match s.nextPlaced with
    | some (c, w) => (s.place c w).placeAll k
    | none => s

/-- SCHEDULER_EVALUATE: the policy of R278 once. -/
def schedulerEvaluate (s : State) : State :=
  if !s.dieRuns then s else ((s.victims.foldl (fun t p => t.beginSave p) s).placeAll 64)

/-! ### Holds (R282) and the Tally (R284) -/

/-- PLAN_CMD 3 RESUME (R282): HELD is cleared; a context that a firebreak has broken is held again at once (R324). -/
def resumePlan (s : State) (path ctx : Nat) : State :=
  s.onCmd path (okey (ctxIdx ctx) 3) (fun s =>
    if !(s.ctx ctx).held then s.planRefused ctx 7 0x5001
    else
      let s1 := (s.updCtx ctx (fun c => { c with held := false, holdFault := 0 })).planDone ctx
      if (s.ctx ctx).broken then s1.hold ctx 0x8003 else s1)

/-- PLAN_CMD 6 CLEAR_PLACEMENT (R282, R283). -/
def clearPlacement (s : State) (path ctx : Nat) : State :=
  s.onCmd path (okey (ctxIdx ctx) 3) (fun s =>
    if (s.ctx ctx).st = .placed || (s.ctx ctx).st = .saving then s.planRefused ctx 0xD 0x5001
    else (s.updCtx ctx (fun c => { c with mapped := false, placeMap := [] })).planDone ctx)

/-- TALLY_CLEAR (R284, R285). -/
def tallyClear (s : State) (path ctx : Nat) : State :=
  s.onCmd path (okey (ctxIdx ctx) 0x1F) (fun s =>
    ((List.range 9).foldl (fun t k => t.setObj (okey (ctxIdx ctx) (0x10 + k)) 0) s).setObj (okey (ctxIdx ctx) 0x1F) 2)

end Sys2Proof.Machine
end

