-- ==== Sys2Proof/Machine/Export.lean ====
section
/-!
DEFINITION. Wait exports (R39 to R41, R83, R264, R303) and the wait-for graph of the Snag (R311 to R313).
-/

namespace Sys2Proof.Machine

/-! ### Wait exports (R39 to R41) -/

/-- One part of a wait: KIND, WHAT, NEED, HAVE (R41). -/
structure Wait where
  kind : Nat := 0
  what : Nat := 0
  need : Nat := 0
  have_ : Nat := 0
  deriving DecidableEq, Repr

/-- The record of R41 for a context; a unit that does not wait exports 0. -/
def Wait.word (w : Wait) (ctx : Nat) : Nat :=
  if w.kind = 0 then 0
  else w.kind * 2 ^ 29 + ctx * 2 ^ 23 + w.what % 2 ^ 8 * 2 ^ 15 + w.need % 2 ^ 8 * 2 ^ 7 + min 127 w.have_

/-- The token part of a head's wait. -/
def State.tokenWait (s : State) (h : Head) (kind : Nat) : Wait :=
  { kind := kind, what := fld h.w 119 112, need := fld h.w 111 104, have_ := s.avail h.ctx h.owner (fld h.w 119 112) }

/-- The credit part of a head's wait. -/
def State.creditWait (s : State) (h : Head) : Wait :=
  { kind := 2, what := fld h.w 103 98, need := fld h.w 97 92, have_ := s.credits h.ctx h.owner (fld h.w 103 98) }

/-- The queue that a head would enter (R28, R29). -/
def State.queueOf (s : State) (h : Head) : QueueId :=
  let op := fld h.w 127 120
  if 128 ≤ h.owner then (if op ≤ 3 then .none else .unit)
  else if op = 0x90 || op = 0x91 then .movePort
  else if 0x10 ≤ op && op ≤ 0x1F then .engine (s.cmdEng h.core h.w)
  else if 0x60 ≤ op && op ≤ 0x8F then .limber
  else .none

/-- Whether a head waits at the scoreboard (R82, R83). -/
def State.tileWait (s : State) (h : Head) : Bool :=
  h.owner < 128 && admission (tileUse h.w) (s.tile h.core (s.cmdTile h.core h.w)) h.ctx = .wait

/-- What a head waits on (R39 to R41, R83, R303; log entry 60). -/
def State.waitOf (s : State) (h : Head) : Wait :=
  let op := fld h.w 127 120
  if s.unitDown h.unit || !s.dieRuns then {}
  else if s.barred h || s.stopped h.ctx h.w then { kind := 6 }
  else if s.tileWait h then { kind := 4, what := s.cmdEng h.core h.w * 2 ^ 6 + fld h.w 75 73 * 2 ^ 3 }
  else if !s.condTokens h then s.tokenWait h (if s.condCredits h then 1 else 3)
  else if !s.condCredits h then s.creditWait h
  else if op = 0xA7 && s.checksPending h.ctx ≠ 0 then { kind := 7 }
  else if !s.condQueue h (s.queueOf h) then { kind := 5, what := op }
  else if op = 1 && !s.streamIdle h then { kind := 5, what := op }
  else {}

/-- Whether a started step has frames to send and may send none now: every one of its present round waits for a grant (R203). -/
def CollStep.stalled (x : CollStep) : Bool :=
  x.started && (x.sendable (2 * x.yarder)).isNone && (x.sendable (2 * x.yarder + 1)).isNone

/-- The wait of a started step for a grant (R203): KIND 010b, NEED the frames of its present round that it has not sent to the
first destination that keeps it waiting (log entry 98). -/
def State.grantWait (s : State) (ctx u : Nat) : Option Wait :=
  match s.colls.find? (fun x => 0x88 ≤ u && x.ctx = ctx && x.yarder = u - 0x88 && x.out ≠ [] && x.stalled) with
  | none => none
  | some x => match x.out with
    | [] => none
    | o :: _ => some { kind := 2, need := min 255 (x.out.filter (fun e =>
        e.round = o.round && e.dest = o.dest && e.plane = o.plane)).length }

/-- The grant wait of a shell, if it has one (R203). -/
def State.shellGrant (s : State) : Shell → Option Wait
  | .core _ => none
  | .unit u ctx => if s.dieRuns && !s.unitDown u && !(s.ctx ctx).held then s.grantWait ctx u else none

/-- What a shell waits on: a grant for its started step, else what its head waits on (R39 to R41, R203; log entry 98). -/
def State.shellWait (s : State) (sh : Shell) : Wait :=
  match s.shellGrant sh, s.head sh with
  | some w, _ => w
  | none, some h => s.waitOf h
  | none, none => {}

/-- The context that a shell serves now. -/
def State.shellCtx (s : State) : Shell → Nat
  | .core n => (s.core n).ctx
  | .unit _ ctx => ctx

/-- WAIT_EXPORT and WAIT_CREDIT of a shell (R41). -/
def State.exports (s : State) (sh : Shell) : Nat × Nat :=
  let w := s.shellWait sh
  let ctx := s.shellCtx sh
  (w.word ctx, match s.head sh with | some h => if w.kind = 3 then (s.creditWait h).word ctx else 0 | none => 0)

/-- SEQ_WAIT of a serving context (R264): a slot token held for a slot that is FILLING. -/
def State.seqWait (s : State) (ctx : Nat) : Wait :=
  let v := s.serv ctx
  match v.batches with
  | [] => {}
  | b :: _ =>
    match b.pins[b.posted]? with
    | none => {}
    | some l =>
      if v.on && b.admitted && v.buf l (b.version % 2) = .filling then
        { kind := 1, what := servLdoneCtr v.record, need := 1, have_ := s.avail ctx 0x94 (servLdoneCtr v.record) }
      else {}

/-! ### The wait-for graph (R311 to R313) -/

/-- A node of the graph: the node ID of R311 and its context. The terminals of R313 have IDs of kind Fh. -/
abbrev Node := Nat × Nat

/-- HOST (R313). -/
def nodeHost : Node := (0xF000, 0)
/-- AWAY (R313). -/
def nodeAway : Node := (0xF001, 0)
/-- REMOTE (R313). -/
def nodeRemote : Node := (0xF002, 0)

/-- Whether a node is a terminal (R313). -/
def isTerminal (n : Node) : Bool := 0xF000 ≤ n.1

/-- The node of a unit of R19 for a context; unit 94h of a serving context without a program on it is its sequencer (R311;
log entry 60). -/
def State.unitNode (s : State) (ctx u : Nat) : Node :=
  if 0x94 ≤ u && (s.serv ctx).on && (imgStream (s.ctx ctx).image 0x94).isNone then (nodeId 8 ctx, ctx)
  else (unitNodeId u, ctx)

/-- The node of a task: the shell of its core, or AWAY (R312). -/
def State.taskNode (s : State) (ctx owner : Nat) : Node :=
  match Tab.get 0 (s.ctx ctx).places owner with
  | 0 => nodeAway
  | n + 1 => if (s.ctx ctx).st = .saving then nodeAway else (nodeId 0 n, ctx)

/-- The nodes that the bindings of a counter name (R312). -/
def State.partyNodes (s : State) (ctx owner k : Nat) (credit : Bool) : List Node :=
  let m := (s.ctx ctx).image
  (imgBindsOf m owner k credit).flatMap (fun b =>
    match b.party with
    | 0 => [s.taskNode ctx b.partyKey]
    | 1 => (List.range (imgTasks m b.partyKey)).map (fun t => s.taskNode ctx (16 * b.partyKey + t))
    | 2 => [s.unitNode ctx b.partyKey]
    | _ => [nodeRemote])

/-- The node of a queue's unit on a core (R312). -/
def queueNode (ctx core : Nat) : QueueId → List Node
  | .engine j => [(nodeId 1 (4 * core + j), ctx)]
  | .limber => [(nodeId 2 core, ctx)]
  | .movePort => [(nodeId 3 core, ctx)]
  | _ => []

/-- The edges of a waiting head (R312). -/
def State.headEdges (s : State) (h : Head) : List Node :=
  let w := s.waitOf h
  let tokens := s.partyNodes h.ctx h.owner (fld h.w 119 112) false
  let credits := s.partyNodes h.ctx h.owner (fld h.w 103 98) true
  match w.kind with
  | 1 => tokens
  | 2 => credits
  | 3 => tokens ++ credits
  | 4 => [(nodeId 1 (4 * h.core + s.cmdEng h.core h.w), h.ctx)]
  | 5 =>
    if 128 ≤ h.owner then [s.unitNode h.ctx h.owner]
    else if fld h.w 127 120 = 1 then
      (s.flights.filter (fun f => f.ctx = h.ctx && f.owner = h.owner)).flatMap (fun f => queueNode f.ctx f.core f.queue)
    else queueNode h.ctx h.core (s.queueOf h)
  | 6 => [nodeHost]
  | _ => []

/-- The shell of a shell node (R311). -/
def nodeShell (n : Node) : Option Shell :=
  let i := n.1 % 4096
  match n.1 / 4096 with
  | 0 => some (.core i)
  | 4 => some (.unit (0x80 + i) n.2)
  | 5 => some (.unit (0x88 + i) n.2)
  | 6 => some (.unit (0x90 + i) n.2)
  | 7 => some (.unit 0x94 n.2)
  | _ => none

/-- The started commands of a node's unit for its context (R312). -/
def State.startedOn (s : State) (n : Node) : List Flight :=
  let i := n.1 % 4096
  s.flights.filter (fun f => f.ctx = n.2 && f.phase ≠ .queued &&
    match n.1 / 4096 with
    | 1 => f.owner < 128 && f.core = i / 4 && f.queue = .engine (i % 4)
    | 2 => f.owner < 128 && f.core = i && f.queue = .limber
    | 3 => f.owner < 128 && f.core = i && f.queue = .movePort
    | 4 => f.owner = 0x80 + i
    | 5 => f.owner = 0x88 + i
    | 6 => f.owner = 0x90 + i
    | 7 => f.owner = 0x94
    | _ => false)

/-- KIND of a node's export, and its record (R312). -/
def State.nodeWait (s : State) (n : Node) : Wait :=
  match nodeShell n with
  | some sh => if s.shellCtx sh = n.2 then s.shellWait sh else {}
  | none => if n.1 / 4096 = 8 then s.seqWait n.2 else {}

/-- The edges of a Planer port's granule waits: on pins, and on staged or BUSY regions (R236, R237, R312). -/
def State.granEdges (s : State) (q ctx : Nat) : List Node :=
  let pinned := (s.rxBuf.filter (fun g => g.q = q && g.ctx = ctx && g.phase = .waiting)).flatMap (fun g =>
    if (s.slot g.slot).pin (g.step % 2) = 0 then []
    else (s.streams.filter (fun e => e.1 / 256 = ctx && e.1 % 256 < 128 && e.2.mark = s.curStep ctx)).map (fun e =>
      s.taskNode ctx (e.1 % 256)))
  let moved := (s.portQ.filter (fun g => g.q = q && g.ctx = ctx)).flatMap (fun g =>
    let z := s.slot g.slot
    match s.streamOf z with
    | none => []
    | some u =>
      let rs := spanRegions (recAddr z.image u.nstate g.gran) (u.nstate * 262144)
        ++ spanRegions (emitAddr z.image g.gran g.step) (2 * granLen z.image g.gran)
      rs.flatMap (fun r =>
        let x := s.region r
        if x.busy ≠ .idle then
          ((s.flights.filter (fun f => 0x80 ≤ f.owner && f.owner < 0x88 && f.regions.contains r)).map (fun f =>
            s.unitNode f.ctx f.owner))
        else if x.staged && x.home = .ddr && (spanRegions (recAddr z.image u.nstate g.gran) (u.nstate * 262144)).contains r
        then ((List.range 8).filter (fun c => (imgStream (s.ctx ctx).image (0x80 + c)).isSome)).map (fun c =>
          (nodeId 4 c, ctx))
        else []))
  pinned ++ moved

/-- Whether a node has not worked since the last sample (R311, R312). -/
def State.still (s : State) (n : Node) : Bool :=
  Tab.get 0 s.work (workKey n.1 n.2) = Tab.get 0 s.snag.last (workKey n.1 n.2)

/-- Whether every started step of a Yarder node waits on another module: for grants or for frames (R313; log entry 104). -/
def State.awaitsRemote (s : State) (n : Node) : Bool :=
  n.1 / 4096 = 5 && (s.startedOn n).all (fun f => s.colls.any (fun x => x.id = f.id && x.stalled))

/-- The edges that a node's export draws (R312). -/
def State.exportEdges (s : State) (n : Node) : List Node :=
  match nodeShell n with
  | some sh =>
    if (s.shellGrant sh).isSome then [nodeRemote]
    else match s.head sh with
      | some h => if h.ctx = n.2 then s.headEdges h else []
      | none => []
  | none => if n.1 / 4096 = 8 && (s.seqWait n.2).kind = 1 then
      s.partyNodes n.2 0x94 (servLdoneCtr (s.serv n.2).record) false else []

/-- The edges of a node (R312): of its export, of a Planer port's granule waits, and to itself with a started command and no
progress since the last sample. A held context points at HOST (R313). -/
def State.edges (s : State) (n : Node) : List Node :=
  let gran := if n.1 / 4096 = 6 then s.granEdges (n.1 % 4096) n.2 else []
  let self := if (s.nodeWait n).kind = 0 && s.startedOn n ≠ [] && s.still n then
    [if s.awaitsRemote n then nodeRemote else n] else []
  let all := s.exportEdges n ++ gran ++ self
  if (s.ctx n.2).held && all ≠ [] then [nodeHost] else all

/-- The unit of R19 that a node belongs to; a sequencer belongs to none. -/
def nodeUnit (n : Node) : Option Nat :=
  let i := n.1 % 4096
  match n.1 / 4096 with
  | 0 => some i
  | 1 => some (i / 4)
  | 2 => some i
  | 3 => some i
  | 4 => some (0x80 + i)
  | 5 => some (0x88 + i)
  | 6 => some (0x90 + i)
  | 7 => some 0x94
  | _ => none

/-- Every node of the graph (R311), those in scope of a reset dropped (R322). -/
def State.nodes (s : State) : List Node :=
  let cores := (s.cores.filter (fun e => e.2.phase ≠ .free)).flatMap (fun e =>
    [(nodeId 0 e.1, e.2.ctx)] ++ (List.range 4).map (fun k => (nodeId 1 (4 * e.1 + k), e.2.ctx))
      ++ [(nodeId 2 e.1, e.2.ctx), (nodeId 3 e.1, e.2.ctx)])
  let units := ((List.range 64).filter s.loaded).flatMap (fun c =>
    (((List.range 21).map (· + 128)).filter (fun u => (imgStream (s.ctx c).image u).isSome)).map (fun u => s.unitNode c u))
  let seqs := ((List.range 64).filter (fun c => (s.serv c).on)).map (fun c => (nodeId 8 c, c))
  (cores ++ units ++ seqs).filter (fun n => match nodeUnit n with | some u => !s.unitDown u | none => true)

/-- The edges of a list of nodes in a ring: each to the next, the last to the first. -/
def ringEdges (c : List Node) : List (Node × Node) := c.zip (c.drop 1 ++ c.take 1)

/-- Whether a list of nodes is a directed cycle: nodes of the graph, each waiting on the next, the last on the first (R313,
R314). -/
def State.isCycle (s : State) (c : List Node) : Bool :=
  c ≠ [] && c.length ≤ 64 && c = c.eraseDups && c.all (fun n => !isTerminal n && s.nodes.contains n)
    && (ringEdges c).all (fun e => (s.edges e.1).contains e.2)

/-- The nodes that wait on a set of nodes, nearest first, those of one distance in ascending order; `k` rounds. -/
def State.waitersOn (s : State) (all : List Node) (seen : List Node) : Nat → List Node
  | 0 => []
  | k + 1 =>
    let next := all.filter (fun n => !seen.contains n && (s.edges n).any (fun m => seen.contains m))
    if next = [] then [] else next ++ s.waitersOn all (seen ++ next) k

end Sys2Proof.Machine
end

