-- ==== Sys2Proof/Machine/Snag.lean ====
section
/-!
DEFINITION. The Snag's declaration and records (R314 to R317), dumps (R318 to R321) and isolation (R327, R328).
-/

namespace Sys2Proof.Machine

/-! ### Dumps (R318 to R321) -/

/-- A slot of the dump store. -/
def State.dump (s : State) (k : Nat) : DumpSlot := Tab.get {} s.dumps k

/-- Whether a dump is running. -/
def State.dumping (s : State) : Bool := s.dumps.any (fun e => e.2.st = .writing)

/-- The slot that a new dump takes: the one holding the older dump (R318). -/
def State.dumpSlot (s : State) : Nat := if (s.dump 1).seq < (s.dump 0).seq then 1 else 0

/-- One section of a dump: node ID, context or FFh, reads (R320; log entry 63). -/
abbrev Section := Nat × Nat × Nat

/-- The sections of a unit shared by contexts: one for each context with a program on it (R320). -/
def State.sharedSections (s : State) (kind inst unit reads : Nat) : List Section :=
  ((List.range 64).filter (fun c => s.loaded c && (imgStream (s.ctx c).image unit).isSome)).map (fun c =>
    (nodeId kind inst, c, reads))

/-- The sections of a dump in ascending node ID, then ascending context (R320). -/
def State.dumpSections (s : State) : List Section :=
  (List.range 128).map (fun n => (nodeId 0 n, 0xFF, 35)) ++ (List.range 512).map (fun e => (nodeId 1 e, 0xFF, 7))
    ++ (List.range 128).map (fun n => (nodeId 2 n, 0xFF, 2))
    ++ (List.range 8).flatMap (fun c => s.sharedSections 4 c (0x80 + c) 19)
    ++ (List.range 8).flatMap (fun c => s.sharedSections 5 c (0x88 + c) 20)
    ++ (List.range 4).flatMap (fun q => s.sharedSections 6 q (0x90 + q) 15)
    ++ s.sharedSections 7 0 0x94 15
    ++ ((List.range 64).filter (fun c => (s.serv c).on)).map (fun c => (nodeId 8 c, c, 1))
    ++ (List.range 8).map (fun k => (nodeId 9 k, 0xFF, 1)) ++ (List.range 20).map (fun k => (nodeId 10 k, 0xFF, 1))

/-- The header of a dump (R320). -/
def dumpHeader (seq cause num sections bad inc len fault : Nat) : List Nat :=
  leBytes 4 seq ++ [cause] ++ leBytes 3 num ++ leBytes 4 sections ++ leBytes 4 bad ++ leBytes 2 inc ++ [0, 0]
    ++ leBytes 4 len ++ leBytes 4 fault ++ List.replicate 36 0

/-- The offset of a section's header in the image. -/
def sectionOffset (secs : List Section) (k : Nat) : Nat :=
  64 + ((secs.take k).map (fun e => 16 + 64 * e.2.2)).foldl (· + ·) 0

/-- Writes the section headers from an offset up; the reads in between are not yet taken. -/
def putSections (m : Mem) (o : Nat) : List Section → Mem
  | [] => m
  | e :: t => putSections (m.writeBytes o (leBytes 2 e.1 ++ [e.2.1, e.2.2] ++ List.replicate 12 0)) (o + 16 + 64 * e.2.2) t

/-- Starts a dump of a cause; `num` is the Snag number or the firebreak kind. The observation reads follow one at a time
(R318 to R320). -/
def State.startDump (s : State) (cause num : Nat) : State :=
  let k := s.dumpSlot
  let old := s.dump k
  let seq := max (s.dump 0).seq (s.dump 1).seq + 1
  let secs := s.dumpSections
  let len := sectionOffset secs secs.length
  let q := s.seed
  let m := ({} : Mem).lose 0 len q.1
  let data := putSections (m.writeBytes 0 (dumpHeader seq cause num secs.length 0 s.incarnation len s.faults.seq)) 64 secs
  let s1 := if old.st = .ready then q.2.addObj (okey 0x5700 7) 32 1 else q.2
  { s1 with dumps := Tab.put {} s1.dumps k { st := .writing, cause := cause, seq := seq, kind := num, len := len, data := data } }

/-- DUMP_CMD 1: refused while a dump is running; it reads 1 until the dump ends (R318, R329). -/
def dumpCmd (s : State) (path v : Nat) : State :=
  let k := okey 0x5700 1
  s.onCmd path k (fun s =>
    if v ≠ 1 then s.dictRefuse path k 3
    else if s.dumping then s.setObj k 3
    else (s.startDump 0 0).setObj k 1)

/-- The sections of a dump as its own headers list them, from an offset up. -/
def readSections (m : Mem) (o len : Nat) : Nat → List (Nat × Section)
  | 0 => []
  | k + 1 =>
    if len ≤ o then []
    else (o, m.readLe o 2, m.rd (o + 2), m.rd (o + 3)) :: readSections m (o + 16 + 64 * m.rd (o + 3)) len k

/-- OBSERVATION_READ_TIMEOUT of a read of a node's section that has not been answered: zeros, the UNREADABLE bit, the header's
count; the section's first one is reported (R319). -/
def observationTimeout (s : State) (node ctx read : Nat) : State :=
  match (List.range 2).find? (fun k => (s.dump k).st = .writing) with
  | none => s
  | some k =>
    let d := s.dump k
    match (readSections d.data 64 d.len 4096).find? (fun e => e.2.1 = node && e.2.2.1 = ctx) with
    | none => s
    | some e =>
      if e.2.2.2 ≤ read || d.bad.contains (node, ctx, read) || e.1 < d.sec || (e.1 = d.sec && read < d.read) then s
      else
        let o := e.1
        let map := d.data.readLe (o + 4) 8
        let m := ((d.data.writeLe (o + 4) 8 (map + 2 ^ read)).zero (o + 16 + 64 * read) 64).writeLe 12 4 (d.bad.length + 1)
        let s1 : State := { s with dumps := Tab.put {} s.dumps k { d with data := m, bad := (node, ctx, read) :: d.bad } }
        if map = 0 then s1.report 0x8002 8 node none 0 false false else s1

/-- DUMP_RELEASE 1 of the slot that the path's DUMP_SEL names (R318). -/
def dumpRelease (s : State) (path v : Nat) : State :=
  let k := okey 0x5700 6
  s.onCmd path k (fun s =>
    if v ≠ 1 then s.dictRefuse path k 3
    else
      let i := s.pobj path (okey 0x5700 2)
      let d := s.dump i
      let s1 : State := if d.st = .ready then { s with dumps := Tab.put {} s.dumps i { d with st := .released } } else s
      s1.setObj k 2)

/-! ### Declarations (R314 to R317) -/

/-- An entry of a Snag record (R316). -/
def State.snagEntry (s : State) (n : Node) : Nat :=
  let w := s.nodeWait n
  n.1 * 2 ^ 48 + w.kind * 2 ^ 45 + n.2 % 64 * 2 ^ 39 + w.what % 256 * 2 ^ 31 + w.need % 256 * 2 ^ 23
    + min 127 w.have_ * 2 ^ 16

/-- The core of a core's own node: shell, engine, Limber or move port. -/
def nodeCore (n : Node) : Option Nat :=
  match n.1 / 4096 with
  | 0 => some (n.1 % 4096)
  | 1 => some (n.1 % 4096 / 4)
  | 2 => some (n.1 % 4096)
  | 3 => some (n.1 % 4096)
  | _ => none

/-- The contexts of a placement history (R329). -/
def histContexts (x : Nat) : List Nat :=
  ((List.range 4).filter (fun k => bit x (8 * k + 7))).map (fun k => bits x (8 * k + 5) (8 * k))

/-- The suspects of a cycle as a bit map (R317). -/
def State.suspects (s : State) (c : List Node) : Nat :=
  let own := c.map (fun n => n.2)
  let old := (c.filterMap nodeCore).flatMap (fun n => histContexts (s.obj (okey (0x8000 + n) 5)))
  ((own ++ old).eraseDups.map (fun i => 2 ^ i)).foldl (· + ·) 0

/-- The token and credit counters that the export of a node names (R314). -/
def State.namedCounters (s : State) (n : Node) : List Nat × List Nat :=
  match nodeShell n with
  | some sh => match s.shellGrant sh, s.head sh with
    | none, some h =>
      let k := (s.waitOf h).kind
      (if k = 1 || k = 3 then [ckey h.ctx h.owner (fld h.w 119 112)] else [],
        if k = 2 || k = 3 then [ckey h.ctx h.owner (fld h.w 103 98)] else [])
    | _, _ => ([], [])
  | none => if n.1 / 4096 = 8 then ([ckey n.2 0x94 (servLdoneCtr (s.serv n.2).record)], []) else ([], [])

/-- Whether nothing that could break a cycle has changed at a node since the last sample: its progress count, and the counters
that its export names (R314). -/
def State.unchanged (s : State) (n : Node) : Bool :=
  let k := s.namedCounters n
  s.still n && k.1.all (fun x => Tab.get 0 s.tok x = Tab.get 0 s.snag.tok x && Tab.get 0 s.acq x = Tab.get 0 s.snag.acq x)
    && k.2.all (fun x => Tab.get 0 s.cred x = Tab.get 0 s.snag.cred x)

/-- The samples for which an edge has stood after the one that first showed it, as the Snag sees it at a new sample (R314). -/
def State.edgeAge (s : State) (e : Node × Node) : Nat :=
  match s.snag.watch.find? (fun w => w.1 = e) with
  | some w => if s.unchanged e.1 then w.2 + 1 else 0
  | none => 0

/-- A sample of the Snag, one every 256 LCLK: the graph with the age of every edge, the counts to compare the next sample with;
a declared cycle that no longer stands is forgotten (R314, R329). -/
def State.snagSample (s : State) : State :=
  let ns := s.nodes
  let es := (ns.flatMap (fun n => (s.edges n).map (fun m => (n, m)))).eraseDups
  { s with snag := { s.snag with
    cycles := s.snag.cycles.filter s.isCycle
    last := s.work
    tok := s.tok
    acq := s.acq
    cred := s.cred
    waiting := (ns.filter (fun n => s.edges n ≠ [])).length
    watch := es.map (fun e => (e, s.edgeAge e)) } }

/-- Whether a cycle has been present, with nothing changed, at every sample for SNAG_STABLE_LCLK (R314). -/
def State.stood (s : State) (c : List Node) : Bool :=
  (ringEdges c).all (fun e => s.snag.watch.any (fun w => w.1 = e && s.obj (okey 0x5600 2) ≤ 256 * w.2))

/-- Whether a cycle of the same nodes has been declared and still stands (R314). -/
def State.declared (s : State) (c : List Node) : Bool :=
  s.snag.cycles.any (fun d => d.length = c.length && c.all d.contains)

/-- The bytes of a Snag record (R316). -/
def State.snagBytes (s : State) (num slot fault : Nat) (dumped : Bool) (c : List Node) : List Nat :=
  let rest := s.waitersOn s.nodes c 128
  let es := (c ++ rest).take 64
  let flags := b2n (64 < c.length + rest.length) + 2 * b2n dumped
  leBytes 4 num ++ leBytes 2 es.length ++ [c.length, flags, slot, 0, 0, 0] ++ leBytes 4 fault
    ++ es.flatMap (fun n => leBytes 8 (s.snagEntry n)) ++ List.replicate (8 * (64 - es.length)) 0

/-- SNAG_DECLARE of a cycle that has stood still for SNAG_STABLE_LCLK: the contexts are held, the fault reported, the record and its suspects
written, SNAG_PENDING set, a dump started (R314 to R317). -/
def snagDeclare (s : State) (cycle : List Node) : State :=
  if !s.dieRuns || s.obj (okey 0x5600 1) = 0 || !s.isCycle cycle || !s.stood cycle || s.declared cycle then s
  else
    let num := s.obj (okey 0x5600 3) + 1
    let own := (cycle.map (fun n => n.2)).eraseDups
    let dumped := !s.dumping
    let slot := s.dumpSlot
    let s1 := own.foldl (fun t c => (t.noteReplay c 2 0x8001 num).hold c 0x8001) s
    let s2 := s1.report 0x8001 8 0 (own.head?) num true false
    let r : SnagRec :=
      { seq := num, bytes := s.snagBytes num slot (match s2.faults.ring with | [] => 0 | f :: _ => f.seq) dumped cycle
        suspects := s.suspects cycle }
    let s3 : State := { s2 with snag := { s2.snag with
      cycles := cycle :: s2.snag.cycles, records := (r :: s2.snag.records).take 16 } }
    let s4 := (s3.setObj (okey 0x5600 3) num).setFlag (okey 0x5600 7) (okey 0x5600 8)
    let s5 := s4.signal (s4.obj (okey 0x5600 9))
    if dumped then s5.startDump 1 num else s5

/-! ### Isolation (R327, R328) -/

/-- Whether another context is active (R327). -/
def State.notAlone (s : State) (ctx : Nat) : Bool :=
  (List.range 64).any (fun c => c ≠ ctx &&
    ((s.ctx c).st = .placed || (s.ctx c).st = .saving || (s.ctx c).st = .restoring
      || s.flights.any (fun f => f.ctx = c && 128 ≤ f.owner)))

/-- REPLAY_CMD 1 (R327). -/
def replayStart (s : State) (path : Nat) : State :=
  let k := okey 0x5900 2
  s.onCmd path k (fun s =>
    let ctx := s.pobj path (okey 0x5900 1)
    let r := if s.notAlone ctx then 1 else if s.isolated.isSome then 2 else 0
    let s1 := (s.setObj (okey 0x5900 3) r).setObj k (if r = 0 then 2 else 3)
    if r ≠ 0 then s1 else { s1 with isolated := some ctx, snag := { s1.snag with noted := false } })

/-- REPLAY_CMD 2 (R327, R329). -/
def replayEnd (s : State) (path : Nat) : State :=
  let k := okey 0x5900 2
  s.onCmd path k (fun s =>
    if s.isolated.isNone then (s.setObj (okey 0x5900 3) 3).setObj k 3
    else { (s.setObj (okey 0x5900 3) 0).setObj k 2 with isolated := none })

end Sys2Proof.Machine
end

