-- ==== Sys2Proof/Machine/Reset.lean ====
section
/-!
DEFINITION. What a reset of the die (R323, code 6; R358) and a module reset (R373) leave of the state.
-/

namespace Sys2Proof.Machine

/-! ### What outlives a reset -/

/-- Objects kept in the non-volatile store, fixed at manufacture or held by the flash translation layer: they outlive every
module reset (R16, R174, R192, R310, R329, R353, R354, R372, R389). -/
def nvObject (k : Nat) : Bool :=
  let i := k / 256
  let j := k % 256
  i = 0x1000
    || (i = 0x1300 && [1, 2, 4, 5, 7, 8, 0x0E, 0x0F, 0x10, 0x11].contains j)
    || (i = 0x1481 && (j = 0x0B || j = 0x0C))
    || (0x3400 ≤ i && i < 0x3404)
    || (i = 0x4000 && j = 2)
    || (0x5200 ≤ i && i < 0x5400 && j = 1)
    || (i = 0x5800 && j = 6)
    || (i = 0x6000 && (j = 4 || j = 7))
    || (0x6020 ≤ i && i < 0x602C && j = 4)
    || (i = 0x6300 && j = 3)
    || (0x6400 ≤ i && i < 0x6408)
    || (i = 0x6480 && (j = 2 || j = 4 || j = 6))
    || (i = 0x6600 && (j = 1 || j = 2))
    || (0x9000 ≤ i && i < 0x9200 && j = 9)

/-- Objects that a die firebreak reset leaves: those of the non-volatile store, the always-on domain and the Planers (R88,
R109, R214, R247, R308, R323, R329, R330, R349, R354, R372, R389; log entries 68, 69). -/
def dieKeeps (k : Nat) : Bool :=
  let i := k / 256
  let j := k % 256
  nvObject k
    || (i = 0x1300 && 0x20 ≤ j && j < 0x30)
    || (0x1400 ≤ i && i < 0x1500)
    || (0x3200 ≤ i && i < 0x3240)
    || (0x3280 ≤ i && i < 0x3284 && j ≠ 9)
    || (0x32C0 ≤ i && i < 0x3300 && j ≠ 0x0F)
    || i = 0x5400 || i = 0x5600 || i = 0x5700 || i = 0x5800 || i = 0x5900
    || (0x6000 ≤ i && i < 0x7000)
    || i = 0x7010 || k = okey 0x7000 2
    || (0x8000 ≤ i && i < 0x8080 && j = 5)

/-- Bytes of the Landing's 6,144 frames (R143). -/
def landingBytes : Nat := 6144 * 2 ^ 26

/-- Landing contents are lost (R323, R358, R365; log entry 6). -/
def State.loseLanding (s : State) : State :=
  let q := s.seed
  { q.2 with landing := q.2.landing.lose 0 landingBytes q.1 }

/-- A CMD object whose action a reset stops and which the reset does not return to its default reads 3 (log entry 70). -/
def State.stopCmd (s : State) (k : Nat) : State := if s.obj k = 1 then s.setObj k 3 else s

/-! ### Granules at a Planer that a reset reaches (R236, R238, R326) -/

/-- Makes n bytes at the home of a tier address undefined, region by region. -/
def State.homeLose (s : State) (a n : Nat) : Nat → State
  | 0 => s
  | k + 1 =>
    if n = 0 then s
    else
      let m := min n (2 ^ 26 - a % 2 ^ 26)
      let q := s.seed
      let s1 : State := match s.homeLoc (s.region (a / 2 ^ 26)) (a % 2 ^ 26) with
        | .ddr p x => { q.2 with ddr := q.2.ddr.lose (planerAddr p x) m q.1 }
        | _ => q.2
      s1.homeLose (a + m) (n - m) k

/-- A granule becomes TORN: its record is undefined (R238). -/
def State.tear (s : State) (g : Granule) : State :=
  let z := s.slot g.slot
  let s1 := s.updGran g.slot g.gran (fun y => { y with torn := true })
  match s.streamOf z with
  | some u => s1.homeLose (recAddr z.image u.nstate g.gran) (u.nstate * 262144) 2
  | none => s1

/-- The receive buffers of Planers are emptied: an APPLYING granule becomes TORN, unless only the link went down and the die
had acknowledged its emission; requests are discarded (R238, R326). -/
def State.dropGranules (s : State) (qs : List Nat) (reset : Bool) : State :=
  let s1 := (s.rxBuf.filter (fun g => qs.contains g.q)).foldl (fun t g =>
    match g.phase with
    | .applying acked =>
      if acked && !reset then
        (t.updGran g.slot g.gran (fun _ => { applied := some g.step, epoch := g.epoch, torn := false })).addObj
          (okey (0x3280 + g.q) 1) 64 1
      else t.tear g
    | _ => t) s
  { s1 with
    rxBuf := s1.rxBuf.filter (fun g => !qs.contains g.q)
    reqs := s1.reqs.filter (fun r => !qs.contains r.1)
    tierQ := s1.tierQ.filter (fun t => !qs.contains t.q) }

/-! ### The die (R323, code 6) -/

/-- Every effect of a die firebreak reset but its report and FB_COUNT (R323, R358): INCARNATION increases, everything on the
die outside the always-on domain takes its reset value, the Landing's contents are lost, the Planers keep their state (R247)
and end the actions that needed the die (log entries 68 to 70). -/
def State.dieReset (s : State) : State :=
  let s0 := s.dropGranules [0, 1, 2, 3] false
  let s1 := (s0.stepRun.map (fun e => e.1)).foldl (fun t c => t.stepEnd c 4) s0
  let s2 : State := { s1 with
    objs := s1.objs.filter (fun e => dieKeeps e.1), pobjs := [], cores := [], streams := [], tok := [], acq := [], cred := []
    posts := [], flights := [], ctxs := [], descs := [], allocs := [], tmap := [], frames := [], hostWins := []
    faults := { s1.faults with ring := [] }
    captures := [], scaler := [], scalerC := [], scalerQ := [], downUnits := [], links := [], colls := [], members := []
    beatTurn := [], portQ := [], stepPin := [], commits := [], serving := [], segs := [], stepRun := [], turns := []
    slots := s1.slots.map (fun e => (e.1, { e.2 with pin0 := 0, pin1 := 0, done := [] })) }
  ((s2.addObj (okey 0x4000 2) 16 1).stopCmd (okey 0x7010 1)).loseLanding

/-! ### The module (R373) -/

/-- The SEQ floors after a power-on: the stored value plus 65,536, which passes a multiple of 65,536 and so is stored; no
response is cached (R349). -/
def Session.restart (x : Session) : Session := { floor := x.stored + 65536, stored := x.stored + 65536, cache := none }

/-- The firmware store after a reset: an open session ends, its bank stays INVALID (R384). -/
def Firmware.closed (f : Firmware) : Firmware :=
  { f with sess := none, len := 0, erased := false, units := [], queue := [], att := none }

/-- Objects that a module reset of a cause leaves: the non-volatile store; after a module firebreak also those of the power system,
and except after a loss of input power those of the dump store (R17, R318, R329, R372, R373; log entry 70). -/
def moduleKeeps (cause k : Nat) : Bool :=
  nvObject k || (cause = 3 && 0x6000 ≤ k / 256 && k / 256 < 0x7000) || (cause ≠ 1 && k / 256 = 0x5700)

/-- A module reset of BOOT_CAUSE `cause` (R373): the module is in its boot ROM; Landing, DDR and Tier Map are lost; error
history, non-volatile store and flash stay, and the dump store unless input power was lost. A loss of power also ends what
the Lookout had latched, but not the power stage's trip latch (R366). -/
def State.moduleReset (s : State) (cause : Nat) : State :=
  let s1 := ((s.stopCmd (okey 0x6000 2)).stopCmd (okey 0x6480 1)).setObj (okey 0x6000 1) 0
  let p := s.power
  let fresh : State := State.reset
  let power : Power := { fresh.power with
    stage := p.stage, history := p.history, warnHead := p.warnHead, due := p.due
    scrubFrom := p.scrubFrom, scrubLen := p.scrubLen
    energy := if cause = 3 then p.energy else []
    latched := if cause = 1 then [] else p.latched
    warned := if cause = 1 then [] else p.warned
    inputLow := if cause = 1 then false else p.inputLow
    samples := if cause = 1 then [] else p.samples }
  let s2 : State := { fresh with
    objs := s1.objs.filter (fun e => moduleKeeps cause e.1)
    flash := s.flash, ftl := s.ftl, host := s.host, nextId := s.nextId, seqNo := s.seqNo, free := s.free, out := s.out, pending := s.pending
    faults := { fresh.faults with seq := if cause = 3 then s.faults.seq else 0, history := s.faults.history }
    dumps := if cause = 1 then [] else s.dumps
    sess := s.sess.map (fun e => (e.1, e.2.restart))
    firmware := s.firmware.closed
    env := s.env, power := power }
  s2.setObj (okey 0x1480 2) cause

end Sys2Proof.Machine
end

