-- ==== Sys2Proof/Machine/Firebreak.lean ====
section
/-!
DEFINITION. Firebreak resets: the request, the reset of the units in scope, and its end (R322 to R326).
-/

namespace Sys2Proof.Machine

/-- FB_CMD (R329). -/
def fbCmdKey : Nat := okey 0x5800 2

/-- Units that FB_UNIT may name, by code (R323). -/
def fbUnits (code : Nat) : Nat :=
  match code with
  | 1 => 128 | 2 => 8 | 3 => 8 | 4 => 16 | 5 => 4 | 6 => 1 | 7 => 1 | _ => 0

/-- FB_CMD written with a code (R322): a dump of cause FIREBREAK starts at once, or after the one that runs (R318). -/
def fbRequest (s : State) (path code : Nat) : State :=
  let result := okey 0x5800 3
  if s.access path 0x5800 ≠ 0 then s.unserved path 0x5800
  else if s.obj fbCmdKey = 1 then (s.dictRefuse path fbCmdKey 5).setObj result 1
  else if fbUnits code = 0 then (s.dictRefuse path fbCmdKey 3).setObj result 3
  else
    let unit := s.pobj path (okey 0x5800 1)
    if fbUnits code ≤ unit then (s.setObj result 2).setObj fbCmdKey 3
    else
      let s1 := (((s.setObj result 0).setObj fbCmdKey 1).setObj (okey 0x5800 4) 1).setObj (okey 0x5800 5)
        (code * 2 ^ 24 + unit * 2 ^ 16)
      let s2 : State := { s1 with snag := { s1.snag with dumped := false } }
      if s2.dumping then s2 else s2.startDump 2 code

/-! ### Scopes -/

/-- The cores in scope (R323). -/
def fbCores (code unit : Nat) : List Nat :=
  match code with
  | 1 => [unit]
  | 2 => (List.range 16).map (· + 16 * unit)
  | 3 => List.range 128
  | _ => []

/-- The clusters in scope (R323). -/
def fbClusters (code unit : Nat) : List Nat :=
  match code with
  | 2 => [unit]
  | 3 => List.range 8
  | _ => []

/-- The units in scope: cores, Skidders, Yarders, the Landing, and the Planer port of a Planer (R322, R323, R330; log entry 71). -/
def fbScope (code unit : Nat) : List Nat :=
  fbCores code unit ++ (fbClusters code unit).flatMap (fun c => [0x80 + c, 0x88 + c]) ++ (if code = 3 then [landingUnit] else [])
    ++ (if code = 5 then [0x90 + unit] else [])

/-- Whether a reset breaks a context: a task placed, saved or restored on a core in scope, a program on a shell in scope, a
granule in the Planer's receive buffer; a context SAVED before is not broken by a core or cluster reset (R324). -/
def State.breaks (s : State) (code unit ctx : Nat) : Bool :=
  s.loaded ctx && !((s.ctx ctx).st = .saved && code ≤ 2)
    && ((s.coresOf ctx).any (fun n => (fbCores code unit).contains n)
      || (fbScope code unit).any (fun u => 128 ≤ u && (imgStream (s.ctx ctx).image u).isSome)
      || (code = 5 && s.rxBuf.any (fun g => g.q = unit && g.ctx = ctx)))

/-- Marks the broken contexts and holds them with HOLD_FAULT 8003h, also those held before (R324). -/
def State.breakAll (s : State) (code unit : Nat) : State :=
  if 3 < code && code ≠ 5 then s
  else ((List.range 64).filter (s.breaks code unit)).foldl (fun t c =>
    ((t.updCtx c (fun x => { x with broken := true })).hold c 0x8003).updCtx c (fun x => { x with holdFault := 0x8003 })) s

/-! ### Effects of the smaller firebreaks -/

/-- A Skidder step that a reset stops leaves its region as R325 says; a MOVE that has begun leaves its destination
undefined. -/
def State.stopMover (s : State) (f : Flight) : State :=
  let r := stepRegion f.w0
  match f.op with
  | 0x99 => (s.updRegion r (fun g => { g with busy := .idle, staged := false })).setFrame (stepFrame f.w0) (.pool f.ctx false)
  | 0x9A => s.updRegion r (fun g => { g with busy := .idle, dirty := true, pages := (List.range 16384).map (fun k => (k, true)) })
  | 0x9B => s.updRegion r (fun g => { g with busy := .idle, dirty := true, pages := (List.range 16384).map (fun k => (k, true)) })
  | 0x98 =>
    if f.phase = .queued then s
    else
      let b := moveBody f.words
      let dd := descOf (f.descs.getD 1 { num := 0, image := 0 }).image
      (moveWindows b).foldl (fun t o => (winPieces dd b.drd o).foldl (fun u p =>
        match u.translate f.ctx dd true p.addr with
        | some a => u.tierLose a p.len 2
        | none => u) t) s
  | _ => s

/-- Removes the commands of a shell in scope: they count as aborted (R324). -/
def State.dropFlights (s : State) (p : Flight → Bool) : State :=
  (s.flights.filter p).foldl (fun t f => t.endFlight f) s

/-- Clears a unit's shell for every context: token and credit counters, program positions, LAST_STEPMARK (R41, R323). -/
def State.clearShell (s : State) (owner : Nat) : State :=
  let other := fun (e : Nat × Ctr) => e.1 / 256 % 256 ≠ owner
  { s with
    tok := s.tok.filter other, acq := s.acq.filter other, cred := s.cred.filter other
    streams := s.streams.filter (fun e => e.1 % 256 ≠ owner) }

/-- Captures of an engine that is reset: a running group's is lost, a running check is queued again (log entry 71). -/
def Capture.afterReset (es : List Nat) (c : Capture) : List Capture :=
  match c.phase with
  | .capturing => if es.contains c.engine then [] else [c]
  | .checking e => if es.contains e then [{ c with phase := .queued }] else [c]
  | _ => [c]

/-- A core is reset: its commands, its shell's counters and stream position, tiles and scratchpad go, its objects take their
defaults but FENCED, CONFIRMED and PLACE_HIST; it becomes free (R88, R109, R323, R330). -/
def State.resetCore (s : State) (n : Nat) : State :=
  let c := s.core n
  let o := 16 * (n / 16) + c.task
  let s1 := s.dropFlights (fun f => f.owner < 128 && f.core = n)
  let s2 := if c.phase = .free then s1
    else s1.updCtx c.ctx (fun x => { x with places := Tab.put 0 x.places o 0 })
  let mine := fun (e : Nat × Ctr) => e.1 / 256 = skey c.ctx o && c.phase ≠ .free
  { s2 with
    tok := s2.tok.filter (fun e => !mine e), acq := s2.acq.filter (fun e => !mine e), cred := s2.cred.filter (fun e => !mine e)
    streams := s2.streams.filter (fun e => !(e.1 = skey c.ctx o && c.phase ≠ .free))
    cores := Tab.put {} s2.cores n {}
    captures := s2.captures.flatMap (Capture.afterReset ((List.range 4).map (· + 4 * n)))
    objs := s2.objs.filter (fun e =>
      !((e.1 / 256 = 0x8000 + n && e.1 % 256 ≠ 5)
        || (0x9000 + 4 * n ≤ e.1 / 256 && e.1 / 256 < 0x9004 + 4 * n && e.1 % 256 ≠ 9))) }

/-- A cluster is reset: its cores, Skidder and Yarder with their counters; stands with an open step on the Yarder abort with LOCAL_RESET (R212,
R323, R325). -/
def State.resetCluster (s : State) (c : Nat) : State :=
  let s1 := (s.colls.filter (fun x => x.yarder = c)).foldl (fun t x =>
    t.abortStand x.ctx 8 0 (t.collOf x).coll c none) s
  let s2 := (s1.flights.filter (fun f => f.owner = 0x80 + c)).foldl (fun t f => t.stopMover f) s1
  let s3 := s2.dropFlights (fun f => f.owner = 0x80 + c || f.owner = 0x88 + c)
  let s4 := (s3.clearShell (0x80 + c)).clearShell (0x88 + c)
  let s5 : State := { s4 with objs := s4.objs.filter (fun e => !(e.1 / 256 = 0x3600 + c || e.1 / 256 = 0x4200 + c)) }
  ((List.range 16).map (· + 16 * c)).foldl (fun t n => t.resetCore n) s5

/-- Whether a region's home is at one of some Planers. -/
def Region.atPlaner (g : Region) (qs : List Nat) : Bool := (g.home = .ddr || g.home = .flash) && qs.contains g.planer

/-- Whether a started step awaits an answer of a Planer: a staging step of a region of its own, a MOVE that reaches one there and
has not completed (R326; log entry 65). -/
def State.awaitsPlaner (s : State) (qs : List Nat) (f : Flight) : Bool :=
  match f.op with
  | 0x98 => f.phase ≠ .queued && f.regions.any (fun r => (s.region r).atPlaner qs && !(s.region r).staged)
  | 0x99 => (f.phase = .running || f.phase = .drained) && (s.region (stepRegion f.w0)).atPlaner qs
  | 0x9A => (f.phase = .running || f.phase = .drained) && (s.region (stepRegion f.w0)).atPlaner qs
  | 0x9B => (f.phase = .running || f.phase = .drained) && (s.region (stepRegion f.w0)).atPlaner qs
  | _ => false

/-- Ends the steps that await an answer of a Planer: their shells report PLANER_LINK_DOWN and hold their contexts (R326; log
entry 65). -/
def State.dropRequests (s : State) (qs : List Nat) : State :=
  (s.flights.filter (s.awaitsPlaner qs)).foldl (fun t f =>
      ((t.stopMover f).endFlight f).holdShell 0x1003 (t.unitOf f.ctx f.owner) f.ctx 0) s

/-- A link retrains with its retransmission buffer cleared (R323, code 3). -/
def State.retrainCleared (s : State) (n : Nat) : State :=
  let s1 := s.updLink n (fun l => { l with buf := [], nak := false })
  if (s1.link n).live then s1.startRetrain n 0 else s1

/-- The Landing is reset: every cluster, the contents of every frame, the retransmission buffers; LOST on every region with
a Landing copy; links retrain (R323, R326). -/
def State.resetStack (s : State) : State :=
  let s0 := s.dropRequests [0, 1, 2, 3]
  let s1 := (List.range 8).foldl (fun t c => t.resetCluster c) s0
  let s2 := (s1.dropGranules [0, 1, 2, 3] false).loseLanding
  let s3 : State := { s2 with tmap := s2.tmap.map (fun e =>
    (e.1, if e.2.home = .landing || e.2.staged then { e.2 with lost := true } else e.2)) }
  (List.range 20).foldl (fun t n => t.retrainCleared n) s3

/-- A link goes back to DISABLED, its objects and those of its lanes to their defaults (R214, R323). -/
def State.resetLink (s : State) (n : Nat) : State :=
  let s1 := s.updLink n (fun _ => freshLink n .disabled)
  { s1 with objs := s1.objs.filter (fun e =>
      !(e.1 / 256 = linkIndex n
        || (0xA000 + linkLane0 n ≤ e.1 / 256 && e.1 / 256 < 0xA000 + linkLane0 n + linkLanes n))) }

/-- A plane is reset: open steps on it abort with PLANE_DOWN (R212, R323). -/
def State.resetPlane (s : State) (p : Nat) : State := (s.abortPlane p 5).resetLink p

/-- A Planer is reset: APPLYING granules become TORN, requests go, its link reads DISABLED, its counting objects clear (R238,
R247, R323, R326). -/
def State.resetPlaner (s : State) (q : Nat) : State :=
  let s1 := ((s.dropRequests [q]).dropGranules [q] true).resetLink (16 + q)
  let s2 := s1.clearShell (0x90 + q)
  { s2 with objs := s2.objs.filter (fun e =>
      !(e.1 / 256 = 0x3280 + q && [1, 2, 3, 4, 9].contains (e.1 % 256))) }

/-- The effect of a firebreak's reset (R323). -/
def State.resetUnits (s : State) (code unit : Nat) : State :=
  match code with
  | 1 => s.resetCore unit
  | 2 => s.resetCluster unit
  | 3 => s.resetStack
  | 4 => s.resetPlane unit
  | 5 => s.resetPlaner unit
  | 6 => s.dieReset
  | _ => s

/-- FIREBREAK_RESET: the dump has been taken; the units go in scope and are reset; HANG FIREBREAK_RESET with a blaze record,
FB_COUNT (R322, R323). After a module firebreak the fault is raised when the Camp first runs (log entry 71). -/
def firebreakReset (s : State) : State :=
  if s.obj (okey 0x5800 4) ≠ 1 || !s.snag.dumped || s.dumping then s
  else
    let last := s.obj (okey 0x5800 5)
    let code := last / 2 ^ 24
    let unit := last / 2 ^ 16 % 256
    let detail := code * 256 + unit
    if code = 7 then
      let s1 := (s.addObj (okey 0x5800 6) 32 1).moduleReset 3
      { s1 with power := { s1.power with latched := s1.power.latched ++ [(0x8003, detail)] } }
    else
      let s1 := ((s.setObj (okey 0x5800 4) 2).breakAll code unit).resetUnits code unit
      let s2 : State := { s1 with downUnits := fbScope code unit }
      (s2.addObj (okey 0x5800 6) 32 1).report 0x8003 8 0 none detail (code ≤ 3 || code = 5) false

/-- FIREBREAK_COMPLETE: the reset has finished and FB_CMD reads 2 (R322). -/
def firebreakComplete (s : State) : State :=
  if s.obj (okey 0x5800 4) ≠ 2 then s
  else { (s.setObj (okey 0x5800 4) 0).setObj fbCmdKey 2 with downUnits := [] }

end Sys2Proof.Machine
end

