-- ==== Sys2Proof/Machine/Power.lean ====
section
/-!
DEFINITION. Power domains and states (R355 to R358), the Lookout's sensors, warnings and trips (R359, R360, R363 to R366),
clocks (R361), the scrub schedule (R367), the cruise (R368 to R370) and the energy figure (R371).
-/

namespace Sys2Proof.Machine

/-! ### Who runs -/

/-- Whether the Lookout runs: powered, with REFCLK, out of PERST#, in a stage whose firmware is the Lookout's (R361, R374). -/
def State.lookoutRuns (s : State) : Bool :=
  let b := s.obj (okey 0x1480 1)
  s.env.vin && s.env.refclk && !s.env.perst && 1 ≤ b && b ≤ 4

/-- Whether the Camp runs (R357, R361, R374). -/
def State.campRuns (s : State) : Bool :=
  s.lookoutRuns && s.env.rootPll && 3 ≤ s.obj (okey 0x1480 1) && s.obj (okey 0x6000 1) ≤ 1 && !s.dieResetting

/-- Whether a fault is one of those of which the Lookout keeps 16: INPUT_VOLTAGE and THERMAL_WARNING (R365). -/
def cappedFault (code : Nat) : Bool := code = 0x6004 || code = 0x6005

/-- Keeps a fault until the Camp runs, in the order latched; of warnings 16, further ones add to LOOKOUT_LOST (R365). -/
def State.latchFault (s : State) (code detail : Nat) : State :=
  if !cappedFault code || (s.power.latched.filter (fun e => cappedFault e.1)).length < 16 then
    { s with power := { s.power with latched := s.power.latched ++ [(code, detail)] } }
  else s.addObj (okey 0x6000 0x0B) 16 1

/-- A fault of the Lookout: raised at once, or latched while the Camp is off (R365). -/
def State.lookoutFault (s : State) (code detail : Nat) : State :=
  if s.campRuns then s.report code 8 0 none detail false false else s.latchFault code detail

/-- Raises the latched faults in order (R365, R366, R376). -/
def State.raiseLatched (s : State) : State :=
  s.power.latched.foldl (fun t e => t.report e.1 8 0 none e.2 false false) { s with power := { s.power with latched := [] } }

/-! ### Domains (R355, R356) -/

/-- Domains 0 to 135 all off. -/
def allOff : Tab Bool := (List.range 136).map (fun d => (d, true))

/-- Whether domains 0 to 135 are all off: IDLE (R357). -/
def State.allGated (s : State) : Bool := (List.range 136).all (fun d => Tab.get false s.power.off d)

/-- Switches a domain off; with the last of 0 to 135 the module is IDLE (R356, R357). -/
def State.gateOff (s : State) (d : Nat) : State :=
  let s1 : State := { s with power := { s.power with off := Tab.put false s.power.off d true } }
  if s1.allGated then s1.setObj (okey 0x6000 1) 1 else s1

/-- The engine on which a check or an arbitration of a capture runs or is pending (R301, R302). -/
def State.checkOn (s : State) (c : Capture) : Option Nat :=
  match c.phase with
  | .checking e => some e
  | .queued => s.nextChecker ((c.engine / 64 + 1) % 8)
  | .arbitrating _ => s.nextChecker ((c.engine / 64 + 2) % 8)
  | _ => none

/-- CORE_GATE_OFF: no task, no check or arbitration pending; the scratchpad and tiles are lost (R356). -/
def coreGateOff (s : State) (n : Nat) : State :=
  let busy := s.captures.any (fun c => match s.checkOn c with | some e => e / 4 = n | none => false)
  if !s.dieRuns || (s.core n).phase ≠ .free || busy || Tab.get false s.power.off n || Tab.get false s.power.turning n then s
  else ({ s with cores := Tab.put {} s.cores n { lastMark := (s.core n).lastMark } } : State).gateOff n

/-- CLUSTER_GATE_OFF: all 16 cores off no program on the Skidder or Yarder, no survey of it under way (R356, R369). -/
def clusterGateOff (s : State) (c : Nat) : State :=
  let d := 128 + c
  let used := (List.range 64).any (fun x => s.loaded x &&
    ((imgStream (s.ctx x).image (0x80 + c)).isSome || (imgStream (s.ctx x).image (0x88 + c)).isSome))
  if !s.dieRuns || used || s.power.survey.head? = some c || !((List.range 16).all (fun k => Tab.get false s.power.off (16 * c + k)))
      || Tab.get false s.power.off d || Tab.get false s.power.turning d then s
  else s.gateOff d

/-- DOMAIN_POWER_ON_COMPLETE: the domain is on, and IDLE becomes RUN (R356, R357). -/
def domainPowerOnComplete (s : State) (d : Nat) : State :=
  if !s.dieRuns || !Tab.get false s.power.turning d then s
  else
    let s1 : State := { s with power := { s.power with
      off := Tab.put false s.power.off d false, turning := Tab.put false s.power.turning d false } }
    if s1.obj (okey 0x6000 1) = 1 then s1.setObj (okey 0x6000 1) 0 else s1

/-! ### Power states (R357, R358, R362) -/

/-- POWER_STATE. -/
def State.powerState (s : State) : Nat := s.obj (okey 0x6000 1)

/-- Reasons of R358 for an entry, in the order of its table. -/
def State.entryRefused (s : State) (target : Nat) : Nat :=
  if s.ctxs.any (fun e => e.2.st ≠ .empty) then 1
  else if s.obj (okey 0x5800 4) ≠ 0 then 2
  else if s.dumping then 3
  else if s.powerState ≤ 1 || (target = 3 && s.powerState = 2) then 0
  else 4

/-- POWER_CMD ends at once with a reason (R358). -/
def State.powerRefused (s : State) (r : Nat) : State := (s.setObj (okey 0x6000 3) r).setObj (okey 0x6000 2) 3

/-- POWER_CMD 2 or 3: the entry begins, or is refused (R358). -/
def powerEntry (s : State) (path target : Nat) : State :=
  s.onCmd path (okey 0x6000 2) (fun s =>
    let r := if s.obj (okey 0x1480 1) ≠ 4 || s.power.target.isSome then 4 else s.entryRefused target
    if r ≠ 0 then s.powerRefused r
    else
      let s1 := (s.setObj (okey 0x6000 3) 0).setObj (okey 0x6000 2) 1
      { s1 with power := { s1.power with target := some target, excursion := none } })

/-- POWER_CMD 1: the exit to RUN begins, or is refused (R358, R362). An exit that an access has begun goes on. -/
def powerCmdRun (s : State) (path : Nat) : State :=
  s.onCmd path (okey 0x6000 2) (fun s =>
    if s.obj (okey 0x1480 1) ≠ 4 || s.powerState < 2 then s.powerRefused 4
    else if s.hot then s.powerRefused 5
    else
      let s1 := (s.setObj (okey 0x6000 3) 0).setObj (okey 0x6000 2) 1
      if s1.power.target = some 0 then s1 else s1.beginExit (if path = 0 then 1 else 2))

/-- Every link goes DISABLED; a LINK_CMD that runs ends (R358, R365). -/
def State.linksDown (s : State) : State :=
  (List.range 20).foldl (fun t n =>
    if (t.link n).st = .disabled then t
    else ((t.updLink n (fun _ => freshLink n .disabled)).showLanes n).endLinkCmd n 3) s

/-- The die's domains switch off: cores lose their contents, links are down (R357, R358, R365). -/
def State.dieOff (s : State) : State :=
  let s1 := s.linksDown
  { s1 with
    cores := [], power := { s1.power with off := allOff, turning := [] }
    captures := s1.captures.flatMap (Capture.afterReset (List.range 512)) }

/-- The next survey that is due begins (R369). -/
def State.startSurvey (s : State) : State :=
  let s1 : State := { s with power := { s.power with survey := s.power.survey ++ List.range 8, due := false } }
  match s1.power.survey with
  | [] => s1
  | c :: _ => s1.turnOn (128 + c)

/-- POWER_TRANSITION_COMPLETE: the state is reached and POWER_CMD reads 2 (R358). The exit from FALLOW fences every stand; the
exit from DORMANT or TRIPPED has the effects of a die firebreak reset, its report and blaze record among them, after the faults that
the Lookout kept (R322, R365). -/
def powerTransitionComplete (s : State) : State :=
  let done := fun (t : State) => if t.obj (okey 0x6000 2) = 1 then t.setObj (okey 0x6000 2) 2 else t
  if !s.lookoutRuns then s
  else match s.power.target with
    | none => s
    | some 0 =>
      let s1 := if s.powerState = 2 then
          (List.range 64).foldl (fun t c => (t.setObj (okey (standIdx c) 2) 1).bumpFence c) s
        else s.dieReset
      let s2 : State := { s1 with power := { s1.power with target := none, off := [], turning := [] } }
      let s4 := (s2.setObj (okey 0x6000 1) 0).raiseLatched
      let s3 := done (if s.powerState = 2 then s4 else s4.report 0x8003 8 0 none 0x600 false false)
      if s3.power.due then s3.startSurvey else s3
    | some k =>
      let s1 := if k = 3 then s.dieOff.loseLanding else s.dieOff
      let s2 : State := { s1 with power := { s1.power with target := none } }
      let s3 := done (s2.setObj (okey 0x6000 1) k)
      match s3.power.wake with
      | some w => s3.beginExit w
      | none => s3

/-! ### Trips (R359, R365, R366) -/

/-- OC_TRIPS of a rail; rail 12, the module input, has no object (R372). -/
def State.countTrip (s : State) (rail : Nat) : State := if rail < 12 then s.addObj (okey (0x6020 + rail) 4) 16 1 else s

/-- A protective trip: TRIP_CAUSE, the fault latched, the die and the Landing off, TRIPPED; an entry or exit ends (R358,
R365). -/
def State.trip (s : State) (code rail sensor : Nat) : State :=
  let s1 := ((s.setObj (okey 0x6000 6) (code * 2 ^ 16 + rail * 2 ^ 8 + sensor % 256)).latchFault code 0).stopCmd (okey 0x6000 2)
  let s2 := s1.dieOff.loseLanding.setObj (okey 0x6000 1) 4
  { s2 with power := { s2.power with target := none, wake := none, excursion := none } }

/-- OVERCURRENT_TRIP of a phase of a rail: rail 10 is the power stage's (R359, R365, R366). -/
def overcurrentTrip (s : State) (rail phase : Nat) : State :=
  if !s.lookoutRuns || s.powerState = 4 || rail = 10 || 12 < rail || (2 ≤ s.powerState && rail < 10) then s
  else (s.countTrip rail).trip 0x6002 rail phase

/-- The module without power: contents are lost as at the power-on that follows (R360, R366, R373). -/
def State.powerDown (s : State) : State :=
  let s1 := s.moduleReset 1
  { s1 with env := { s.env with vin := false, rootPll := true, counted := false } }

/-- POWER_STAGE_SHUTDOWN: an overcurrent of rail 10, or of the input that persists after its trip; the rail is latched (R366). -/
def powerStageShutdown (s : State) (rail : Nat) : State :=
  let persists := s.obj (okey 0x1480 1) = 4 && s.powerState = 4 && s.obj (okey 0x6000 6) / 2 ^ 8 = 0x600200 + 12
  if !s.env.vin || !(rail = 10 || (rail = 12 && persists)) then s
  else
    let s1 := s.powerDown
    { s1 with power := { s1.power with stage := some rail } }

/-- INPUT_POWER_LOSS (R360, R402). -/
def inputPowerLoss (s : State) : State := if s.env.vin then s.powerDown else s

/-- POWER_ON: input power is back after a loss; the module is in its boot ROM (R360, R373). -/
def powerOn (s : State) : State := if s.env.vin then s else { s with env := { s.env with vin := true } }

/-- INPUT_VOLTAGE: below 44.0 V or above 60.0 V it is a loss of input power; out of range for 1 ms, the fault is latched; a value
within range for 1 s arms it again (R360; log entry 73). -/
def inputVoltage (s : State) (mv : Nat) : State :=
  if mv < 44000 || 60000 < mv then inputPowerLoss s
  else if !s.lookoutRuns then s
  else if 48000 ≤ mv && mv ≤ 58000 then { s with power := { s.power with inputLow := false } }
  else if s.power.inputLow then s
  else ({ s with power := { s.power with inputLow := true } } : State).lookoutFault 0x6004 0

/-! ### Sensors (R363 to R365) -/

/-- The mean of the kept samples, rounded down (R363; log entry 73). -/
def meanOf (l : List Int) : Int := if l = [] then 0 else l.foldl (· + ·) 0 / (l.length : Int)

/-- The reported mean of a sensor. -/
def State.sensor (s : State) (k : Nat) : Int := meanOf (Tab.get [] s.power.samples k)

/-- The domain of junction diode k: eight per cluster, then the spine, Camp and links, which are off with the die (R363; log
entry 73). -/
def State.diodeOff (s : State) (k : Nat) : Bool :=
  2 ≤ s.powerState || (k < 64 && Tab.get false s.power.off (128 + k / 8))

/-- The largest of a list of integers. -/
def maxInt (l : List Int) : Int := match l with | [] => 0 | a :: t => t.foldl max a

/-- Sets a signed 32-bit object. -/
def State.setI32 (s : State) (k : Nat) (v : Int) : State := s.setObj k (toTwos 32 v)

/-- TJ, TJ_MAX and TJ_MAX_SENSOR after a sample of diode k (R363). -/
def State.showDiode (s : State) (k : Nat) : State :=
  let s1 := s.setI32 (okey 0x6300 (0x40 + k)) (s.sensor k)
  let live := (List.range 80).filter (fun d => !s.diodeOff d && Tab.get [] s.power.samples d ≠ [])
  let m := maxInt (live.map s.sensor)
  match live.find? (fun d => s.sensor d = m) with
  | some d => (s1.setI32 (okey 0x6300 1) m).setObj (okey 0x6300 2) d
  | none => s1

/-- The highest reported value of a range of sensors that have been sampled. -/
def State.maxSensor (s : State) (lo n : Nat) : Int :=
  maxInt ((((List.range n).map (· + lo)).filter (fun k => Tab.get [] s.power.samples k ≠ [])).map s.sensor)

/-- What a sample shows (R363, R372; log entry 73 numbers the sensors). -/
def State.showSensor (s : State) (k : Nat) : State :=
  let v := s.sensor k
  if k < 80 then s.showDiode k
  else if k < 88 then s.setI32 (okey 0x6300 4) (s.maxSensor 80 8)
  else if k < 108 then s.setI32 (okey 0x6300 5) (s.maxSensor 88 20)
  else if k < 111 then s.setI32 (okey 0x6300 (6 + (k - 108))) v
  else if k < 113 then
    (s.setObj (okey 0x6010 (k - 110)) v.toNat).setObj (okey 0x6010 3) ((s.sensor 111).toNat * (s.sensor 112).toNat / 1000)
  else if k < 125 then s.setObj (okey (0x6020 + (k - 113)) 1) v.toNat
  else s.setObj (okey (0x6020 + (k - 125)) 2) v.toNat

/-- The warning level of a sensor (R364). -/
def State.warnLevel (s : State) (k : Nat) : Option Int :=
  if k < 80 then some (signExt 32 (s.obj (okey 0x6300 3)))
  else if k < 88 then some 950
  else if 92 ≤ k && k < 108 then some 850
  else none

/-- The warning of R364: raised when the level is first reached, armed again 5.0 °C below it. -/
def State.warn (s : State) (k : Nat) : State :=
  match s.warnLevel k with
  | none => s
  | some l =>
    let v := s.sensor k
    let given := Tab.get false s.power.warned k
    if l ≤ v && !given then
      ({ s with power := { s.power with warned := Tab.put false s.power.warned k true } } : State).lookoutFault 0x6005 k
    else if v ≤ l - 50 then { s with power := { s.power with warned := Tab.put false s.power.warned k false } }
    else s

/-- SENSOR_SAMPLE: the mean of the last four is reported; two consecutive raw samples of a junction diode at 110.0 °C or more
trip the module (R363 to R365). -/
def sensorSample (s : State) (k : Nat) (raw : Int) : State :=
  if !s.lookoutRuns || 137 ≤ k || (k < 80 && s.diodeOff k) then s
  else
    let old := Tab.get [] s.power.samples k
    let s1 : State := { s with power := { s.power with samples := Tab.put [] s.power.samples k ((raw :: old).take 4) } }
    let s2 := (s1.showSensor k).warn k
    if k < 80 && 1100 ≤ raw && 1100 ≤ old.headD 0 && s2.powerState ≠ 4 then s2.trip 0x6001 0 k else s2

/-! ### Clocks (R361) -/

/-- PLL_LOSS_OF_LOCK of a PLL: 0 root, 1 to 20 the lanes of link pll − 1, 21 to 28 the HBM stacks, 29 to 36 DDR and NAND PHYs
(log entry 73). A link whose lanes lose their PLL enters FAULT (R190); the accesses through the PHY of a memory fail (R150). -/
def pllLossOfLock (s : State) (pll : Nat) : State :=
  if Tab.get false s.power.plls pll || !s.env.vin || !s.env.refclk then s
  else
    let s1 : State := { s with power := { s.power with plls := Tab.put false s.power.plls pll true } }
    let s2 := s1.addObj (okey 0x6200 2) 32 1
    if pll = 0 then { s2 with env := { s2.env with rootPll := false } }
    else if pll ≤ 20 && (s2.link (pll - 1)).live then s2.faultLink (pll - 1) (downCode (pll - 1)) 5
    else s2

/-- PLL_RELOCK (R361). -/
def pllRelock (s : State) (pll : Nat) : State :=
  if !Tab.get false s.power.plls pll then s
  else
    let s1 : State := { s with power := { s.power with plls := Tab.put false s.power.plls pll false } }
    if pll = 0 then { s1 with env := { s1.env with rootPll := true } } else s1

/-- REFCLK_STOP: every clock stops (R361). -/
def refclkStop (s : State) : State := { s with env := { s.env with refclk := false } }

/-- REFCLK_RETURN: the PLLs relock and the module resumes from its held state (R361). -/
def refclkReturn (s : State) : State :=
  if s.env.refclk then s
  else { s with env := { s.env with refclk := true, rootPll := true }, power := { s.power with plls := [] } }

/-! ### The cruise (R368 to R370) -/

/-- The index of a cluster's cruise objects. -/
def cruiseIdx (c : Nat) : Nat := 0x6400 + c

/-- HEADROOM of a cluster in steps of 2.5 mV (R368). -/
def State.headroom (s : State) (c : Nat) : Nat :=
  (s.obj (okey 0x6480 3) - s.obj (okey (cruiseIdx c) 1)) / 2500 - s.obj (okey (cruiseIdx c) 2)

/-- CRUISE_SURVEY: a survey of every cluster begins; one due in a sleep state waits for RUN (R369). -/
def cruiseSurvey (s : State) : State :=
  if !s.lookoutRuns || s.obj (okey 0x1480 1) ≠ 4 then s
  else if 2 ≤ s.powerState || s.power.target.isSome then { s with power := { s.power with due := true } }
  else if s.power.survey ≠ [] then s
  else s.startSurvey

/-- CRUISE_CMD 1: every cluster is surveyed now, after a survey that runs (R369, R372). -/
def cruiseCmd (s : State) (path : Nat) : State :=
  s.onCmd path (okey 0x6480 1) (fun s =>
    let s1 := s.setObj (okey 0x6480 1) 1
    if 2 ≤ s.powerState || s.power.target.isSome || s.obj (okey 0x1480 1) ≠ 4 then
      { s1 with power := { s1.power with due := true } }
    else s1.startSurvey)

/-- The least-squares slope of GUARD over a history of (hours, GUARD), per 1,000 hours, as an exact quotient: negative,
numerator, denominator (R369). -/
def slopeOf (h : List (Nat × Nat)) : Bool × Nat × Nat :=
  let n : Int := h.length
  let sx : Int := (h.map (fun e => (e.1 : Int))).foldl (· + ·) 0
  let sy : Int := (h.map (fun e => (e.2 : Int))).foldl (· + ·) 0
  let sxy : Int := (h.map (fun e => (e.1 * e.2 : Int))).foldl (· + ·) 0
  let sxx : Int := (h.map (fun e => (e.1 * e.1 : Int))).foldl (· + ·) 0
  let num := (n * sxy - sx * sy) * 1000
  let den := n * sxx - sx * sx
  if den ≤ 0 then (false, 0, 1) else (num < 0, num.natAbs, den.toNat)

/-- LIFE_HOURS (R370): at most FFFFFFFFh. -/
def lifeHours (headroom : Nat) (g : Bool × Nat × Nat) : Nat :=
  if headroom = 0 then 0
  else if g.1 || g.2.1 = 0 then 0xFFFFFFFF
  else min 0xFFFFFFFF (headroom * 1000 * g.2.2 / g.2.1)

/-- The survey of a cluster with the smallest slack of its monitors in ps (R369, R370). -/
def State.surveyed (s : State) (c : Nat) (slack : Int) : State :=
  let i := cruiseIdx c
  let short := ((s.obj (okey 0x6480 5) : Int) - slack).toNat
  let k := (short + 2) / 3
  let up := min k (s.headroom c)
  let guard := s.obj (okey i 2) + up
  let hours := s.obj (okey 0x1000 9)
  let h := ((hours, guard) :: Tab.get [] s.power.history c).take 30
  let g := slopeOf h
  let s1 : State := { s.setObj (okey i 2) guard with power := { s.power with history := Tab.put [] s.power.history c h } }
  let room := s1.headroom c
  let life := lifeHours room g
  let s2 := (((s1.setObj (okey i 4) (slack.toNat % 65536)).setObj (okey i 5)
    (toF32 ((Val.fin g.1 g.2.1 0).div (.fin false g.2.2 0))).toNat).setObj (okey i 6) life).setObj (okey i 7) hours
  let s3 := if up < k then s2.setObj (okey i 8) 1 else s2
  let given := Tab.get 0 s3.power.warnHead c
  if room ≤ s3.obj (okey 0x6480 4) && (given = 0 || room + 1 < given) then
    ({ s3 with power := { s3.power with warnHead := Tab.put 0 s3.power.warnHead c (room + 1) } } : State).lookoutFault 0x6003
      (c + room * 2 ^ 8 + life * 2 ^ 32)
  else s3

/-- CLUSTER_SURVEY_COMPLETE with the slacks of the 16 monitors: clusters in ascending order; with the last one the survey is
done (R369). -/
def clusterSurveyComplete (s : State) (c : Nat) (slacks : List Int) : State :=
  match s.power.survey, slacks with
  | d :: rest, x :: xs =>
    if d ≠ c || !s.dieRuns || Tab.get false s.power.off (128 + c) then s
    else
      let s1 := s.surveyed c (xs.foldl min x)
      let s2 : State := { s1 with power := { s1.power with survey := rest } }
      let s3 := if rest.length % 8 = 0 then s2.addObj (okey 0x6480 6) 32 1 else s2
      match rest with
      | [] => if s3.obj (okey 0x6480 1) = 1 then s3.setObj (okey 0x6480 1) 2 else s3
      | n :: _ => s3.turnOn (128 + n)
  | _, _ => s

/-! ### Powered hours and the flash scrub (R353, R367) -/

/-- POWERED_HOURS: one hour more, also since every Planer's last complete pass (R174, R353). -/
def poweredHours (s : State) : State :=
  if !s.lookoutRuns then s
  else (List.range 4).foldl (fun t q => t.addObj (okey (0x3400 + q) 9) 32 1) (s.addObj (okey 0x1000 9) 32 1)

/-- Powered hours until a Planer's scrub deadline: 168 after the start of its last complete pass, which took `scrubLen` hours and
ended FLASH_SCRUB_AGE hours ago (R146, R367). -/
def State.scrubDeadline (s : State) (q : Nat) : Nat :=
  168 - (s.obj (okey (0x3400 + q) 9) + Tab.get 0 s.power.scrubLen q)

/-- SCRUB_EXCURSION: asleep, with the deadline SCRUB_AHEAD_H hours or less away, one Planer at a time (R367). -/
def scrubExcursion (s : State) (q : Nat) : State :=
  if !s.lookoutRuns || s.obj (okey 0x1480 1) ≠ 4 || s.powerState < 2 || s.power.target.isSome || s.power.excursion.isSome
      || s.obj (okey 0x6600 1) < s.scrubDeadline q then s
  else ({ s with power := { s.power with excursion := some q } } : State).addObj (okey 0x6600 2) 32 1

/-- SCRUB_EXCURSION_COMPLETE: the pass is complete (R367). -/
def scrubExcursionComplete (s : State) (q : Nat) : State :=
  if s.power.excursion ≠ some q then s
  else ({ s with power := { s.power with excursion := none } } : State).scrubPassed q

/-! ### Energy (R371) -/

/-- MAC_ENERGY_WINDOW: the energy of rails 0 to 7 less their idle energy in fJ and the rows issued in a window of 1 s of RUN;
a window of fewer than a tenth of the peak's rows does not qualify (R371). -/
def macEnergyWindow (s : State) (energy rows : Nat) : State :=
  let m := rows * 4096
  if !s.dieRuns || s.powerState ≠ 0 || rows < 40960000000 then s
  else
    let e := (2 * energy + m) / (2 * m) % 2 ^ 32
    ((s.setObj (okey 0x6500 1) e).setObj (okey 0x6500 3) (toF32 ((Val.fin false e 0).div (.fin false 240 0))).toNat).addObj
      (okey 0x6500 8) 32 1

end Sys2Proof.Machine
end

