-- ==== Sys2Proof/Machine/Sha.lean ====
section
/-!
DEFINITION. The hash functions that the spec names: SHA-256 under HMAC (R348) and SHA-384 (R377, R378), after FIPS 180-4 and
RFC 2104 (log entry 108).
-/

namespace Sys2Proof.Machine

/-- Round constants 0 to 39 of SHA-384; the upper halves of 0 to 63 are those of SHA-256. -/
def shaRoundsA : List Nat :=
  [0x428A2F98D728AE22, 0x7137449123EF65CD, 0xB5C0FBCFEC4D3B2F, 0xE9B5DBA58189DBBC, 0x3956C25BF348B538,
   0x59F111F1B605D019, 0x923F82A4AF194F9B, 0xAB1C5ED5DA6D8118, 0xD807AA98A3030242, 0x12835B0145706FBE,
   0x243185BE4EE4B28C, 0x550C7DC3D5FFB4E2, 0x72BE5D74F27B896F, 0x80DEB1FE3B1696B1, 0x9BDC06A725C71235,
   0xC19BF174CF692694, 0xE49B69C19EF14AD2, 0xEFBE4786384F25E3, 0x0FC19DC68B8CD5B5, 0x240CA1CC77AC9C65,
   0x2DE92C6F592B0275, 0x4A7484AA6EA6E483, 0x5CB0A9DCBD41FBD4, 0x76F988DA831153B5, 0x983E5152EE66DFAB,
   0xA831C66D2DB43210, 0xB00327C898FB213F, 0xBF597FC7BEEF0EE4, 0xC6E00BF33DA88FC2, 0xD5A79147930AA725,
   0x06CA6351E003826F, 0x142929670A0E6E70, 0x27B70A8546D22FFC, 0x2E1B21385C26C926, 0x4D2C6DFC5AC42AED,
   0x53380D139D95B3DF, 0x650A73548BAF63DE, 0x766A0ABB3C77B2A8, 0x81C2C92E47EDAEE6, 0x92722C851482353B]

/-- Round constants 40 to 79. -/
def shaRoundsB : List Nat :=
  [0xA2BFE8A14CF10364, 0xA81A664BBC423001, 0xC24B8B70D0F89791, 0xC76C51A30654BE30, 0xD192E819D6EF5218,
   0xD69906245565A910, 0xF40E35855771202A, 0x106AA07032BBD1B8, 0x19A4C116B8D2D0C8, 0x1E376C085141AB53,
   0x2748774CDF8EEB99, 0x34B0BCB5E19B48A8, 0x391C0CB3C5C95A63, 0x4ED8AA4AE3418ACB, 0x5B9CCA4F7763E373,
   0x682E6FF3D6B2B8A3, 0x748F82EE5DEFB2FC, 0x78A5636F43172F60, 0x84C87814A1F0AB72, 0x8CC702081A6439EC,
   0x90BEFFFA23631E28, 0xA4506CEBDE82BDE9, 0xBEF9A3F7B2C67915, 0xC67178F2E372532B, 0xCA273ECEEA26619C,
   0xD186B8C721C0C207, 0xEADA7DD6CDE0EB1E, 0xF57D4F7FEE6ED178, 0x06F067AA72176FBA, 0x0A637DC5A2C898A6,
   0x113F9804BEF90DAE, 0x1B710B35131C471B, 0x28DB77F523047D84, 0x32CAAB7B40C72493, 0x3C9EBE0A15C9BEBC,
   0x431D67C49C100D4C, 0x4CC5D4BECB3E42B6, 0x597F299CFC657E2A, 0x5FCB6FAB3AD6FAEC, 0x6C44198C4A475817]

/-- What distinguishes the two functions: word width, start value, the rotations and shifts, the round constants. -/
structure ShaKind where
  w      : Nat
  start  : List Nat
  big0   : Nat × Nat × Nat
  big1   : Nat × Nat × Nat
  small0 : Nat × Nat × Nat
  small1 : Nat × Nat × Nat
  rounds : List Nat
  deriving DecidableEq, Repr

/-- SHA-256. -/
def sha256Kind : ShaKind :=
  { w := 32
    start := [0x6A09E667, 0xBB67AE85, 0x3C6EF372, 0xA54FF53A, 0x510E527F, 0x9B05688C, 0x1F83D9AB, 0x5BE0CD19]
    big0 := (2, 13, 22), big1 := (6, 11, 25), small0 := (7, 18, 3), small1 := (17, 19, 10)
    rounds := ((shaRoundsA ++ shaRoundsB).take 64).map (· / 2 ^ 32) }

/-- SHA-384. -/
def sha384Kind : ShaKind :=
  { w := 64
    start := [0xCBBB9D5DC1059ED8, 0x629A292A367CD507, 0x9159015A3070DD17, 0x152FECD8F70E5939,
      0x67332667FFC00B31, 0x8EB44A8768581511, 0xDB0C2E0D64F98FA7, 0x47B5481DBEFA4FA4]
    big0 := (28, 34, 39), big1 := (14, 18, 41), small0 := (1, 8, 7), small1 := (19, 61, 6)
    rounds := shaRoundsA ++ shaRoundsB }

/-- A word rotated right. -/
def rotr (w n x : Nat) : Nat := x / 2 ^ n + x % 2 ^ n * 2 ^ (w - n)

/-- Three rotations of a word, combined. -/
def shaBig (w : Nat) (r : Nat × Nat × Nat) (x : Nat) : Nat := (rotr w r.1 x ^^^ rotr w r.2.1 x) ^^^ rotr w r.2.2 x

/-- Two rotations and a shift of a word, combined. -/
def shaSmall (w : Nat) (r : Nat × Nat × Nat) (x : Nat) : Nat := (rotr w r.1 x ^^^ rotr w r.2.1 x) ^^^ (x / 2 ^ r.2.2)

/-- One round on the eight working variables. -/
def shaRound (k : ShaKind) (v : List Nat) (kw : Nat) : List Nat :=
  match v with
  | [a, b, c, d, e, f, g, h] =>
    let ch := (e &&& f) ^^^ ((2 ^ k.w - 1 - e) &&& g)
    let maj := ((a &&& b) ^^^ (a &&& c)) ^^^ (b &&& c)
    let t := h + shaBig k.w k.big1 e + ch + kw
    [(t + shaBig k.w k.big0 a + maj) % 2 ^ k.w, a, b, c, (d + t) % 2 ^ k.w, e, f, g]
  | _ => v

/-- The rounds of a block; `sched` holds the next sixteen words of the message schedule. -/
def shaRounds (k : ShaKind) : List Nat → List Nat → List Nat → List Nat
  | [], _, v => v
  | c :: cs, sched, v =>
    let x := fun (n : Nat) => sched.getD n 0
    let next := (shaSmall k.w k.small1 (x 14) + x 9 + shaSmall k.w k.small0 (x 1) + x 0) % 2 ^ k.w
    shaRounds k cs (sched.drop 1 ++ [next]) (shaRound k v ((c + x 0) % 2 ^ k.w))

/-- The sixteen big-endian words of a block. -/
def shaWords (k : ShaKind) (block : List Nat) : List Nat :=
  (List.range 16).map (fun n => leNat ((block.drop (n * (k.w / 8))).take (k.w / 8)).reverse)

/-- One block into the hash value. -/
def shaBlock (k : ShaKind) (h block : List Nat) : List Nat :=
  List.zipWith (fun a b => (a + b) % 2 ^ k.w) h (shaRounds k k.rounds (shaWords k block) h)

/-- A message padded to whole blocks of 2w bytes: 80h, zeros, its length in bits. -/
def shaPad (k : ShaKind) (bs : List Nat) : List Nat :=
  let block := 2 * k.w
  let tail := 1 + k.w / 4
  bs ++ [0x80] ++ List.replicate ((block - (bs.length + tail) % block) % block) 0 ++ beBytes (k.w / 4) (8 * bs.length)

/-- The hash value after n blocks. -/
def shaRun (k : ShaKind) : Nat → List Nat → List Nat → List Nat
  | 0, h, _ => h
  | n + 1, h, bs => shaRun k n (shaBlock k h (bs.take (2 * k.w))) (bs.drop (2 * k.w))

/-- The hash of a byte string: its first `n` words as bytes. -/
def sha (k : ShaKind) (n : Nat) (bs : List Nat) : List Nat :=
  let p := shaPad k bs
  ((shaRun k (p.length / (2 * k.w)) k.start p).take n).flatMap (beBytes (k.w / 8))

/-- SHA-384 of a byte string: 48 bytes as a number, first byte lowest. -/
def sha384 (bs : List Nat) : Nat := leNat (sha sha384Kind 6 bs)

/-- HMAC-SHA-256 under a key of 32 bytes (R348). -/
def hmac256 (key bs : List Nat) : List Nat :=
  let pad := fun (b : Nat) => (key ++ List.replicate 32 0).map (· ^^^ b)
  sha sha256Kind 8 (pad 0x5C ++ sha sha256Kind 8 (pad 0x36 ++ bs))

end Sys2Proof.Machine
end

