-- ==== Sys2Proof/Machine/Boot.lean ====
section
/-!
DEFINITION. Start-up and its failures (R373 to R376), measurement (R378), firmware (R377, R383, R384), attestation (R381), the
self-test (R385) and the probe (R386, R387).
-/

namespace Sys2Proof.Machine

/-! ### Banks and bundles (R376, R377) -/

/-- State of a bank. -/
def Firmware.bank (f : Firmware) (b : Nat) : BankSt := if b = 0 then f.bank0 else f.bank1

/-- Sets the state of a bank. -/
def Firmware.setBank (f : Firmware) (b : Nat) (x : BankSt) : Firmware :=
  if b = 0 then { f with bank0 := x } else { f with bank1 := x }

/-- Contents of a bank. -/
def Firmware.img (f : Firmware) (b : Nat) : Mem := if b = 0 then f.img0 else f.img1

/-- Sets the contents of a bank. -/
def Firmware.setImg (f : Firmware) (b : Nat) (m : Mem) : Firmware :=
  if b = 0 then { f with img0 := m } else { f with img1 := m }

/-- The lower-numbered bank in a state of a list. -/
def Firmware.findBank (f : Firmware) (p : BankSt → Bool) : Option Nat := (List.range 2).find? (fun b => p (f.bank b))

/-- Changes the firmware store. -/
def State.updFw (s : State) (g : Firmware → Firmware) : State := { s with firmware := g s.firmware }

/-- SVN of a manifest. -/
def fwSvn (m : Mem) : Nat := m.readLe 12 4
/-- FLOOR of a manifest. -/
def fwFloor (m : Mem) : Nat := m.readLe 16 4
/-- Version of a manifest. -/
def fwVersion (m : Mem) : Nat := m.readLe 8 4
/-- Key slot of a manifest. -/
def fwSlot (m : Mem) : Nat := m.rd 20
/-- REVOKE_BELOW of a manifest. -/
def fwRevoke (m : Mem) : Nat := m.rd 21
/-- Image count of a manifest. -/
def fwCount (m : Mem) : Nat := m.readLe 22 2

/-- Byte offset of an image entry of a manifest. -/
def fwEntry (k : Nat) : Nat := 64 + 60 * k

/-- The digest of the first image of a type that a manifest lists (R378). -/
def fwDigest (m : Mem) (type : Nat) : Nat :=
  match (List.range (fwCount m)).find? (fun k => m.rd (fwEntry k) = type) with
  | some k => m.readLe (fwEntry k + 12) 48
  | none => 0

/-- Whether n bytes from an offset are zero. -/
def zeroBytes (m : Mem) (o n : Nat) : Bool := (m.readBytes o n).all (· = 0)

/-- Whether an image entry lies in a bundle of `len` bytes, with its digest (R377). -/
def imageOk (m : Mem) (len k : Nat) : Bool :=
  let e := fwEntry k
  let o := m.readLe (e + 4) 4
  let n := m.readLe (e + 8) 4
  1 ≤ m.rd e && m.rd e ≤ 4 && zeroBytes m (e + 1) 3 && 8192 ≤ o && o + n ≤ len
    && sha384 (m.readBytes o n) % 2 ^ 384 = m.readLe (e + 12) 48

/-- Whether a manifest's format and images are right (R377; log entry 75). -/
def bundleFormat (m : Mem) (len : Nat) : Bool :=
  m.readBytes 0 8 = [0x43, 0x39, 0x46, 0x57, 0x42, 0x4E, 0x44, 0x31]
    && fwFloor m ≤ fwSvn m && fwSlot m ≤ 3 && fwRevoke m ≤ fwSlot m && 1 ≤ fwCount m && fwCount m ≤ 8
    && zeroBytes m 24 8 && zeroBytes m 56 8 && zeroBytes m 5901 2291
    && (List.range 8).all (fun k => if k < fwCount m then imageOk m len k else zeroBytes m (fwEntry k) 60)

/-- The fused hash of a key slot, or of the debug key (4) (R377, R386). -/
def fusedHash (slot : Nat) : Nat := Config.moduleConst (0x148100 + slot) % 2 ^ 384

/-- Whether the keys and both signatures of a manifest are good; `slots` has a bit per revoked slot (R377). -/
def bundleSigned (m : Mem) (slots : Nat) : Bool :=
  let msg := [0x43, 0x39, 0x46, 0x57, 0x53, 0x49, 0x47, 0x31] ++ m.readBytes 0 2528
  sha384 (m.readBytes 544 1984) % 2 ^ 384 = fusedHash (fwSlot m) && !bit slots (fwSlot m)
    && Config.edVerify (m.readLe 544 32) msg (m.readBytes 2528 64)
    && Config.mlVerify (m.readLe 576 1952) msg (m.readBytes 2592 3309)

/-- Whether a manifest marks a hardware level as compatible (R377). -/
def bundleFits (m : Mem) (hw : Nat) : Bool :=
  bit (m.readLe 32 8) (bits hw 31 24) && bit (m.readLe 40 8) (bits hw 23 16) && bit (m.readLe 48 8) (bits hw 15 8)

/-- Why a bundle of `len` bytes fails R377: 4 format, 5 signature or key, 6 SVN, 7 hardware level (R383). -/
def State.bundleBad (s : State) (m : Mem) (len : Nat) : Option Nat :=
  if !bundleFormat m len then some 4
  else if !bundleSigned m (s.obj (okey 0x1481 0x0C)) then some 5
  else if fwSvn m < s.obj (okey 0x1481 0x0B) then some 6
  else if !bundleFits m (s.obj (okey 0x1000 3)) then some 7
  else none

/-! ### Measurement (R378) -/

/-- Extends MRk with a digest and appends its log entry; the log holds 256. -/
def State.extendMr (s : State) (k type version d : Nat) : State :=
  let b := s.boot
  let v := sha384 (leBytes 48 (b.mrs.getD k 0) ++ leBytes 48 d) % 2 ^ 384
  { s with boot := { b with
    mrs := b.mrs.set k v
    log := if b.log.length < 256 then b.log ++ [(k, type, version, d)] else b.log } }

/-! ### Start-up (R374 to R376) -/

/-- BOOT_STATE. -/
def State.bootState (s : State) : Nat := s.obj (okey 0x1480 1)

/-- Whether start-up can go on. -/
def State.booting (s : State) : Bool :=
  s.env.vin && s.env.refclk && !s.env.perst && s.bootState ≤ 3 && s.powerState ≤ 1

/-- The boot ROM's choice: a PENDING bank with TRIES left for a trial boot, TRIES decreased, else the ACTIVE bank (R376). -/
def State.chooseBank (s : State) : State :=
  match s.firmware.findBank (· = .pending) with
  | some b =>
    if 0 < s.firmware.tries then
      (s.updFw (fun f => { f with tries := f.tries - 1 })).setObj (okey 0x1480 3) (b + 2)
    else s.setObj (okey 0x1480 3) ((s.firmware.findBank (· = .active)).getD 0)
  | none => s.setObj (okey 0x1480 3) ((s.firmware.findBank (· = .active)).getD 0)

/-- The bank that the module has booted. -/
def State.bootBank (s : State) : Nat := s.obj (okey 0x1480 3) % 2

/-- Whether the boot is a trial boot. -/
def State.trialBoot (s : State) : Bool := 2 ≤ s.obj (okey 0x1480 3)

/-- Stage 0: the bank, MR0 and MR1; a challenge is drawn (R374, R378, R386). -/
def State.stageRom (s : State) : State :=
  let s1 := s.chooseBank
  let m := s1.firmware.img s1.bootBank
  let fuses := sha384 ((List.range 5).flatMap (fun k => leBytes 48 (fusedHash k)) ++ [s1.obj (okey 0x1481 0x0C)]
    ++ leBytes 4 (s1.obj (okey 0x1481 0x0B))) % 2 ^ 384
  let s2 := (s1.extendMr 0 1 0 (Config.moduleConst 0x148106 % 2 ^ 384)).extendMr 0 2 0 fuses
  let s3 := (s2.extendMr 1 3 (fwVersion m) (sha384 (m.readBytes 0 8192) % 2 ^ 384)).extendMr 1 4 (fwVersion m)
    (fwDigest m 1)
  let v := s3.fresh
  { v.2 with boot := { v.2.boot with challenge := v.1 % 2 ^ 256 } }

/-- The power stage's trip latch is read: TRIP_CAUSE, OC_TRIPS, the fault (R366). -/
def State.readTripLatch (s : State) : State :=
  match s.power.stage with
  | none => s
  | some r =>
    let s1 := ((s.setObj (okey 0x6000 6) (0x6002 * 2 ^ 16 + r * 2 ^ 8)).countTrip r).latchFault 0x6002 0
    { s1 with power := { s1.power with stage := none } }

/-- Stage 1: the trip latch; MR2 to MR5, BOOT_DIGEST (R366, R374, R378; log entry 74 on the boot record's bytes). -/
def State.stageLookout (s : State) : State :=
  let m := s.firmware.img s.bootBank
  let v := fwVersion m
  let s1 := s.readTripLatch.extendMr 2 5 v (fwDigest m 2)
  let s2 := (List.range 4).foldl (fun t _ => t.extendMr 3 6 v (fwDigest m 3)) s1
  let rec_ := sha384 [s2.bootBank, b2n s2.trialBoot, s2.obj (okey 0x1480 2), s2.obj (okey 0x1300 8)] % 2 ^ 384
  let s3 := (s2.extendMr 4 7 v (fwDigest m 4)).extendMr 5 8 0 rec_
  { s3 with boot := { s3.boot with
    digest := sha384 ((s3.boot.mrs.take 7).flatMap (leBytes 48)) % 2 ^ 384 } }

/-- Stage 2: INCARNATION increases once for the whole start-up, the Landing reads zeros, the latched faults are raised (R192,
R365, R373, R374). -/
def State.stageDie (s : State) : State :=
  let s1 := if s.env.counted then s else s.addObj (okey 0x4000 2) 16 1
  ({ s1 with landing := {}, env := { s1.env with counted := true } } : State)

/-- Stage 3: DDR reads zeros; READY, every domain of 0 to 135 off, IDLE (R374, R375). A survey that was due begins (R369). -/
def State.stagePlaners (s : State) : State :=
  let s1 : State := { s with ddr := {}, env := { s.env with counted := false }, power := { s.power with off := allOff } }
  let s2 := s1.setObj (okey 0x6000 1) 1
  if s2.power.due then s2.startSurvey else s2

/-- BOOT_STAGE_COMPLETE: the stage has done its work and BOOT_STATE advances (R374). That the images verified is what the row
says; a stage that fails is BOOT_TIMEOUT (log entry 74). -/
def bootStageComplete (s : State) : State :=
  if !s.booting then s
  else
    let k := okey 0x1480 1
    match s.bootState with
    | 0 => s.stageRom.setObj k 1
    | 1 => s.stageLookout.setObj k 2
    | 2 => (s.stageDie.setObj k 3).raiseLatched
    | _ => s.stagePlaners.setObj k 4

/-- BOOT_TIMEOUT: 30 s have passed (code 0), or the chosen bank fails R377 with code 7003h or 7004h, which is latched with the
bank. The module resets as by PERST#; a PENDING bank without TRIES becomes INACTIVE; when the ACTIVE bank fails R377, no
bank can be booted: RECOVERY (R376). -/
def bootTimeout (s : State) (code : Nat) : State :=
  if !s.booting then s
  else
    let s1 := if s.bootState = 0 then s.chooseBank else s
    let b := s1.bootBank
    let s2 := if code = 0 then s1 else s1.latchFault code b
    if s1.trialBoot then
      (s2.moduleReset 2).updFw (fun f => if f.tries = 0 then f.setBank b .inactive else f)
    else if code = 0 then s2.moduleReset 2
    else s2.setObj (okey 0x1480 1) 5

/-- PERST_ASSERT: every unit stops at once; contents are lost as at the start-up that follows (R373). -/
def perstAssert (s : State) : State :=
  if s.env.perst then s
  else
    let s1 := if s.env.vin then s.moduleReset 2 else s
    { s1 with env := { s1.env with perst := true } }

/-- PERST_RELEASE: the boot ROM starts (R374). -/
def perstRelease (s : State) : State := { s with env := { s.env with perst := false } }

/-! ### Changing firmware (R383, R384) -/

/-- FW_CMD (R389). -/
def fwCmdKey : Nat := okey 0x1481 1

/-- FW_CMD ends with a result. -/
def State.fwEnd (s : State) (r : Nat) : State := (s.setObj (okey 0x1481 2) r).setObj fwCmdKey (if r = 0 then 2 else 3)

/-- A refused signature or SVN is reported, with the bank in DETAIL (R289, R376, R377). -/
def State.fwFault (s : State) (r bank : Nat) : State :=
  let code := if r = 5 then 0x7003 else 0x7004
  if r ≠ 5 && r ≠ 6 then s
  else if s.campRuns then s.report code 7 0 none bank false false else s.latchFault code bank

/-- FW_CMD 1 BEGIN: a session of the path; the target bank is erased (R383). Where one bank is ACTIVE and the other PENDING
there is no target: a dictionary refusal with STATE (log entry 75). -/
def fwBegin (s : State) (path : Nat) : State :=
  s.onCmd path fwCmdKey (fun s =>
    let n := s.obj (okey 0x1481 3)
    if s.firmware.sess.isSome then s.fwEnd 2
    else if n < 8192 || 50331648 < n || n % 1024 ≠ 0 then s.fwEnd 4
    else match s.firmware.findBank (fun b => b = .invalid || b = .inactive) with
      | none => s.dictRefuse path fwCmdKey 8
      | some b =>
        let q := s.seed
        (q.2.updFw (fun f =>
          { (f.setBank b .invalid).setImg b (({} : Mem).lose 0 67108864 q.1) with
            sess := some path, len := n, erased := false, units := [], queue := [] })).fwEnd 0)

/-- The bank that an open session writes. -/
def Firmware.target (f : Firmware) : Nat := (f.findBank (· = .invalid)).getD 0

/-- FW_ERASE_COMPLETE (R383). -/
def fwEraseComplete (s : State) : State :=
  if s.firmware.sess.isSome then s.updFw (fun f => { f with erased := true }) else s

/-- Programs the unit at the head of the queue (R383). -/
def Firmware.program (f : Firmware) : Firmware :=
  match f.queue with
  | [] => f
  | (u, d) :: t => { f.setImg f.target ((f.img f.target).writeLe (1024 * u) 1024 d) with queue := t }

/-- FW_UNIT_PROGRAMMED (R383). -/
def fwUnitProgrammed (s : State) : State := if s.firmware.erased then s.updFw Firmware.program else s

/-- FW_CHUNK: 1,024 B at FW_OFFSET join the queue (R383). -/
def fwChunkWrite (s : State) (path data : Nat) : State :=
  let f := s.firmware
  let o := s.obj (okey 0x1481 4)
  let bad : Bool := f.sess ≠ some path || o % 1024 ≠ 0 || f.len ≤ o || Tab.get false f.units (o / 1024)
  s.onWrite path (okey 0x1481 5) (if bad then some 8 else if 16 ≤ f.queue.length then some 5 else none) (fun s =>
    s.updFw (fun f => { f with
      units := Tab.put false f.units (o / 1024) true, queue := f.queue ++ [(o / 1024, data % 2 ^ 8192)] }))

/-- FW_CMD 2 VERIFY: the waiting units are programmed, then every unit must be written and the bundle valid; the bank becomes
PENDING with TRIES 2 and the session closes (R377, R383). -/
def fwVerify (s : State) (path : Nat) : State :=
  s.onCmd path fwCmdKey (fun s =>
    if s.firmware.sess ≠ some path then s.fwEnd 1
    else
      let s1 := s.updFw (fun f => (List.range f.queue.length).foldl (fun g _ => g.program) f)
      let f := s1.firmware
      let b := f.target
      if !((List.range (f.len / 1024)).all (fun u => Tab.get false f.units u)) then s1.fwEnd 3
      else match s1.bundleBad (f.img b) f.len with
        | some r => (s1.fwFault r b).fwEnd r
        | none => (s1.updFw (fun g => { (g.setBank b .pending).closed with tries := 2, att := g.att })).fwEnd 0)

/-- FW_CMD 3 ABORT: the session closes, the bank stays INVALID (R383). -/
def fwAbort (s : State) (path : Nat) : State :=
  s.onCmd path fwCmdKey (fun s =>
    if s.firmware.sess ≠ some path then s.fwEnd 1
    else (s.updFw (fun f => { f.closed with att := f.att })).fwEnd 0)

/-- FW_CMD 4 CONFIRM in a trial boot: SVN_FLOOR, revocations, bank states (R384). -/
def fwConfirm (s : State) (path : Nat) : State :=
  s.onCmd path fwCmdKey (fun s =>
    let b := s.bootBank
    if !s.trialBoot || s.firmware.bank b ≠ .pending then s.fwEnd 8
    else
      let m := s.firmware.img b
      let slots := (List.range 4).foldl (fun a k => if k < fwRevoke m && !bit a k then a + 2 ^ k else a)
        (s.obj (okey 0x1481 0x0C))
      let s1 := (s.setObj (okey 0x1481 0x0B) (max (s.obj (okey 0x1481 0x0B)) (fwFloor m))).setObj (okey 0x1481 0x0C) slots
      (s1.updFw (fun f => ((if f.bank (1 - b) = .active then f.setBank (1 - b) .inactive else f).setBank b .active))).fwEnd 0)

/-- FW_CMD 5 SWITCH: the INACTIVE bank becomes PENDING when it passes R377 (R383). Without an INACTIVE bank the write is a
dictionary refusal with STATE (log entry 75). -/
def fwSwitch (s : State) (path : Nat) : State :=
  s.onCmd path fwCmdKey (fun s =>
    match s.firmware.findBank (· = .inactive) with
    | none => s.dictRefuse path fwCmdKey 8
    | some b =>
      match s.bundleBad (s.firmware.img b) 50331648 with
      | some r => (s.fwFault r b).fwEnd r
      | none => (s.updFw (fun f => { f.setBank b .pending with tries := 2 })).fwEnd 0)

/-! ### Attestation (R381) -/

/-- ATT_CMD 1: evidence over the path's nonce is begun (R381). -/
def attCmd (s : State) (path : Nat) : State :=
  s.onCmd path (okey 0x1410 2) (fun s =>
    (s.updFw (fun f => { f with att := some (path, s.pobj path (okey 0x1410 1)) })).setObj (okey 0x1410 2) 1)

/-- FW_VERSION and PLANER_FW_VERSION: the version of the booted bundle (R353, R377). -/
def State.fwRunning (s : State) : Nat := fwVersion (s.firmware.img s.bootBank)

/-- The payload of attestation evidence over a nonce (R381). -/
def State.attPayload (s : State) (nonce : Nat) : List Nat :=
  cborMap [
    (1, cborUint 1), (2, cborBytes (leBytes 32 nonce)), (3, cborText (leBytes 16 (s.obj (okey 0x1000 2)))),
    (4, cborUint s.incarnation),
    (5, cborArray [cborUint s.bootState, cborUint (s.obj (okey 0x1480 2)), cborUint s.bootBank, cborUint (b2n s.trialBoot)]),
    (6, cborArray (s.boot.mrs.map (fun x => cborBytes (leBytes 48 x)))), (7, cborBytes (leBytes 48 s.boot.digest)),
    (8, cborArray [cborUint s.fwRunning, cborUint s.fwRunning, cborUint (s.obj (okey 0x1481 0x0B)),
      cborUint (s.obj (okey 0x1481 0x0C))]),
    (9, cborUint (s.obj (okey 0x7000 1))), (10, cborUint (s.obj (okey 0x1300 8))), (11, cborBytes (leBytes 64 s.fencedMap)),
    (12, cborUint (s.obj (okey 0x1000 9)))]

/-- The evidence: payload and both signatures of the alias keys (R381). -/
def evidenceOf (payload : List Nat) : List Nat :=
  let msg := [0x43, 0x39, 0x41, 0x54, 0x54, 0x45, 0x53, 0x54, 0x31] ++ payload
  cborArray [cborBytes payload, cborBytes (leBytes 64 (Config.edSign 1 msg)), cborBytes (leBytes 3309 (Config.mlSign 1 msg))]

/-- EVIDENCE_READY: the evidence of the path's request is signed; ATT_CMD reads 2 (R381). -/
def evidenceReady (s : State) (path : Nat) : State :=
  match s.firmware.att with
  | some (p, nonce) =>
    if p ≠ path || !s.lookoutRuns then s
    else
      let ev := evidenceOf (s.attPayload nonce)
      let s1 := (s.setPobj path (okey 0x1410 3) ev.length).setPobj path (okey 0x1410 4) (leNat ev)
      (s1.updFw (fun f => { f with att := none })).setObj (okey 0x1410 2) 2
  | none => s

/-! ### The self-test (R385) -/

/-- SELFTEST_CMD 1: refused unless every context is EMPTY (R385). -/
def selftest (s : State) (path : Nat) : State :=
  s.onCmd path (okey 0x7010 1) (fun s =>
    if s.ctxs.any (fun e => e.2.st ≠ .empty) then (s.setObj (okey 0x7010 2) 1).setObj (okey 0x7010 1) 3
    else (s.setObj (okey 0x7010 2) 0).setObj (okey 0x7010 1) 1)

/-- A bit map of numbers. -/
def bitMap (l : List Nat) : Nat := (l.eraseDups.map (fun k => 2 ^ k)).foldl (· + ·) 0

/-- SELFTEST_COMPLETE with the failing engines and Limbers: it raises no fault and fences nothing (R385). -/
def selftestComplete (s : State) (engines limbers : List Nat) : State :=
  if s.obj (okey 0x7010 1) ≠ 1 || !s.dieRuns then s
  else
    (((s.setObj (okey 0x7010 3) (bitMap engines)).setObj (okey 0x7010 4) (bitMap limbers)).addObj (okey 0x7010 5) 32 1).setObj
      (okey 0x7010 1) 2

/-! ### The probe (R386, R387) -/

/-- Why the object in PROBE_UNLOCK does not unlock the probe (R387). -/
def State.unlockBad (s : State) (bs : List Nat) : Option Nat :=
  let at_ := fun o n => leNat ((bs.drop o).take n)
  let msg := bs.take 64
  if bs.take 8 ≠ [0x43, 0x39, 0x50, 0x52, 0x4F, 0x42, 0x45, 0x31] || at_ 27 1 ≠ 0 || at_ 60 4 ≠ 0
      || at_ 26 1 = 0 || 3 < at_ 26 1 then some 1
  else if at_ 8 16 ≠ s.obj (okey 0x1000 2) then some 2
  else if at_ 24 2 ≠ s.incarnation then some 3
  else if at_ 28 32 ≠ s.boot.challenge then some 4
  else if !(Config.edVerify (fusedHash 4) msg ((bs.drop 64).take 64) && Config.mlVerify (fusedHash 4) msg (bs.drop 128)) then
    some 5
  else none

/-- PROBE_CMD 1: the unlock object is checked; the challenge is drawn anew in any case (R386, R387). -/
def probeEnable (s : State) (path : Nat) : State :=
  s.onCmd path (okey 0x7000 4) (fun s =>
    let bs := leBytes 3437 (s.obj (okey 0x7000 3))
    let v := s.fresh
    let s1 : State := { v.2 with boot := { v.2.boot with challenge := v.1 % 2 ^ 256 } }
    match s.unlockBad bs with
    | some r =>
      let s2 := if r ≠ 5 then s1
        else if s1.campRuns then s1.report 0x7003 7 0 none 0 false false else s1.latchFault 0x7003 0
      (s2.setObj (okey 0x7000 5) r).setObj (okey 0x7000 4) 3
    | none =>
      let s2 := (s1.setObj (okey 0x7000 1) (bs.getD 26 0)).extendMr 7 9 0 (sha384 bs % 2 ^ 384)
      let s3 := if s2.campRuns then s2.report 0x7005 7 0 none 0 false false else s2.latchFault 0x7005 0
      (s3.setObj (okey 0x7000 5) 0).setObj (okey 0x7000 4) 2)

/-- PROBE_CMD 2 (R387). -/
def probeDisable (s : State) (path : Nat) : State :=
  s.onCmd path (okey 0x7000 4) (fun s =>
    ((s.setObj (okey 0x7000 1) 0).setObj (okey 0x7000 5) 0).setObj (okey 0x7000 4) 2)

end Sys2Proof.Machine
end

