-- ==== Sys2Proof/WellFormed.lean ====
section
/-!
DEFINITION. Which operands a command may carry: the numbering of units, contexts, links, engines and paths of R10, R19 and
R336, and the widths of the values that travel with a command (log entry 10).
-/

namespace Sys2Proof

/-- Every element of a list is a byte. -/
def allBytes (bs : List Nat) : Bool := bs.all (· < 256)

/-- A shell of R19: a core 0 to 127, or a unit 80h to 94h for one of 64 contexts. -/
def Shell.wf : Shell → Bool
  | .core n => n < 128
  | .unit uid ctx => 0x80 ≤ uid && uid ≤ 0x94 && ctx < 64

/-- A dispatch names a shell; a start names a command by its number, and any number may be asked for. -/
def Moment.wf : Moment → Bool
  | .dispatch sh => sh.wf
  | .start _ => true

/-- A step's two moments name shells that exist; which number a start names is the model's. -/
def StepMoment.wf : StepMoment → Bool
  | .dispatch sh => sh.wf
  | .start _ _ => true

/-- An access path of R336: 0 the host on BAR0, 1 to 16 the sessions of the management port, 17 DOE. -/
def pathOk (path : Nat) : Bool := path < 18

/-- A context of R10. -/
def ctxOk (ctx : Nat) : Bool := ctx < 64

/-- The regulator phases of a rail; the module input has one limit (R359). -/
def railPhases (rail : Nat) : Nat :=
  if rail < 8 then 30 else match rail with | 8 => 24 | 9 => 16 | 10 => 8 | 11 => 12 | _ => 1

/-- A path and a context. -/
def atOk (path ctx : Nat) : Bool := pathOk path && ctxOk ctx

/-- A 32-bit value. -/
def u32 (v : Nat) : Bool := v < 2 ^ 32

/-- A frame as a link carries it: a 256-bit header, bytes. -/
def Frame.shape (f : Frame) : Bool := f.header < 2 ^ 256 && allBytes f.payload

/-- A transfer as a Planer link carries it: a 512-bit header, bytes. -/
def Xfer.shape (x : Xfer) : Bool := x.header < 2 ^ 512 && allBytes x.data

/-- Whether a command's operands lie within the numbering. -/
def wellFormed : Instr → Bool
  | .nop sh => sh.wf
  | .settle sh => sh.wf
  | .stepmark sh => sh.wf
  | .endStream sh => sh.wf
  | .commandComplete _ => true
  | .postArrival _ => true
  | .creditReturn _ => true
  | .stopStepWrite path ctx v => atOk path ctx && u32 v
  | .mma m _ => m.wf
  | .mmaRowIssue e => e < 512
  | .preload m _ => m.wf
  | .drain m => m.wf
  | .topk m => m.wf
  | .tilerel m => m.wf
  | .cvtsc m => m.wf
  | .cvtcl m => m.wf
  | .vld m => m.wf
  | .vst m => m.wf
  | .vstat m => m.wf
  | .vimm m => m.wf
  | .vsel m => m.wf
  | .vadd m => m.wf
  | .vsub m => m.wf
  | .vmul m => m.wf
  | .vfma m => m.wf
  | .vfnma m => m.wf
  | .vmax m => m.wf
  | .vmin m => m.wf
  | .vabs m => m.wf
  | .vneg m => m.wf
  | .vdiv m => m.wf
  | .vsqrt m => m.wf
  | .vrcp m => m.wf
  | .vrsqrt m => m.wf
  | .vexp2 m => m.wf
  | .vlog2 m => m.wf
  | .vexp m => m.wf
  | .vtanh m => m.wf
  | .verf m => m.wf
  | .vrsum m => m.wf
  | .vrmax m => m.wf
  | .vrmin m => m.wf
  | .vrdot m => m.wf
  | .vcmp m => m.wf
  | .kop m => m.wf
  | .kcol m => m.wf
  | .fill m _ => m.wf
  | .spill m _ => m.wf
  | .winset sh => sh.wf
  | .move m _ => m.wf
  | .stage m => m.wf
  | .stageComplete _ _ => true
  | .evict m => m.wf
  | .evictDrainEnd _ => true
  | .evictComplete _ _ => true
  | .clean m => m.wf
  | .cleanComplete _ _ => true
  | .descCreate path ctx => atOk path ctx
  | .descDestroy path ctx v => atOk path ctx && u32 v
  | .c6Flush path ctx => atOk path ctx
  | .c6FlushComplete ctx => ctxOk ctx
  | .mapRegion path => pathOk path
  | .unmap path => pathOk path
  | .trim path => pathOk path
  | .discard path => pathOk path
  | .allocGrant path ctx => atOk path ctx
  | .allocRelease path ctx => atOk path ctx
  | .frameToPool path ctx => atOk path ctx
  | .frameToFree path => pathOk path
  | .hostwinAddrWrite path v => pathOk path && v < 2 ^ 64
  | .flashScrubNow path q => pathOk path && q < 4
  | .flashBackgroundScrub q read weak _ _ => q < 4 && read.all (fun e => e.1 < 2 ^ 32) && weak.all (fun e => e.block < 2 ^ 32)
  | .readDisturbRelocation q b => q < 4 && b.block < 2 ^ 32
  | .staticWearLevelling q b => q < 4 && b.block < 2 ^ 32
  | .garbageCollection q b _ _ _ => q < 4 && b < 2 ^ 32
  | .ddrPatrolScrub q _ _ => q < 4
  | .codewordReceive lane message parity => lane < 176 && message < 2 ^ 5280 && parity < 2 ^ 160
  | .frameReceive link f crc => link < 20 && f.shape && u32 crc
  | .frameSend link => link < 20
  | .retransmitTimeout link => link < 20
  | .laneLossOfLock lane => lane < 176
  | .laneErrorThreshold lane => lane < 176
  | .linkTrain path link => pathOk path && link < 20
  | .linkDisable path link => pathOk path && link < 20
  | .linkRetrain path link => pathOk path && link < 20
  | .trainingComplete link lanes => link < 20 && lanes < 2 ^ 12
  | .trainingTimeout link => link < 20
  | .retrainComplete link lanes => link < 20 && lanes < 2 ^ 12
  | .retrainTimeout link => link < 20
  | .dataFrame plane => plane < 16
  | .endFrame plane => plane < 16
  | .ecredFrame plane => plane < 16
  | .beatFrame plane => plane < 16
  | .abortFrame plane => plane < 16
  | .commitFrame plane => plane < 16
  | .creditFrame plane => plane < 16
  | .epochCmd path ctx => atOk path ctx
  | .memberEntryWrite path ctx v => atOk path ctx && v < 2 ^ 64
  | .selfWrite path ctx v => atOk path ctx && u32 v
  | .beatTimer ctx => ctxOk ctx
  | .noProgress ctx member => ctxOk ctx && member < 16384
  | .rs m => m.wf
  | .ag m => m.wf
  | .ar m => m.wf
  | .sendStep m => m.wf
  | .recvStep m => m.wf
  | .a2a m => m.wf
  | .ring m => m.wf
  | .commitStep m => m.wf
  | .collectiveComplete _ => true
  | .commitComplete _ => true
  | .rdReq q x => q < 4 && x.xfer.shape
  | .rdData q x => q < 4 && x.shape
  | .wrData q x => q < 4 && x.shape
  | .wrAck q x => q < 4 && x.shape
  | .grad q x => q < 4 && x.shape
  | .emitTransfer q x => q < 4 && x.shape
  | .granDone q x => q < 4 && x.shape
  | .errTransfer q x => q < 4 && x.shape
  | .stepset q x => q < 4 && x.shape
  | .granuleHandoff _ => true
  | .granuleApply q _ => q < 4
  | .granuleComplete q _ => q < 4
  | .setStep path ctx => atOk path ctx
  | .rollForward path ctx => atOk path ctx
  | .emitStep path ctx => atOk path ctx
  | .snapshot path ctx => atOk path ctx
  | .restoreStep path ctx => atOk path ctx
  | .stepActionComplete ctx => ctxOk ctx
  | .weightLoad path ctx => atOk path ctx
  | .weightSwitch path ctx => atOk path ctx
  | .revert path ctx => atOk path ctx
  | .slotFillStart ctx => ctxOk ctx
  | .slotReady ctx => ctxOk ctx
  | .batchSubmit path ctx => atOk path ctx
  | .batchAdmit ctx _ => ctxOk ctx
  | .slotTokenPost ctx => ctxOk ctx
  | .batchComplete ctx => ctxOk ctx
  | .resAck path r v => pathOk path && r < 1024 && u32 v
  | .resWordRead path r => pathOk path && r < 1024
  | .planLoad path ctx => atOk path ctx
  | .unload path ctx => atOk path ctx
  | .unloadComplete ctx _ => ctxOk ctx
  | .resumePlan path ctx => atOk path ctx
  | .preempt path ctx => atOk path ctx
  | .cancel path ctx => atOk path ctx
  | .clearPlacement path ctx => atOk path ctx
  | .tallyClear path ctx => atOk path ctx
  | .placement ctx => ctxOk ctx
  | .coreClearComplete n => n < 128
  | .schedulerEvaluate => true
  | .sliceExpiry ctx => ctxOk ctx
  | .saveStart n _ => n < 128
  | .saveComplete ctx => ctxOk ctx
  | .restoreComplete n => n < 128
  | .preemptOverrun ctx => ctxOk ctx
  | .scalerRecord => true
  | .scalerExport path ctx => atOk path ctx
  | .scalerImport path ctx => atOk path ctx
  | .scalerWindowWrite path ctx v => atOk path ctx && u32 v
  | .checkStart _ e => e < 512
  | .checkComplete _ flip => flip < 2 ^ 64
  | .arbitrationComplete _ e flip => e < 512 && flip < 2 ^ 64
  | .xchkExport path => pathOk path
  | .xchkRun path => pathOk path
  | .blazeSign => true
  | .faultRecordRead path => pathOk path
  | .w1cFlagClear path idx sub _ => pathOk path && idx < 65536 && sub < 256
  | .snagDeclare cycle => cycle.all (fun e => e.1 < 65536 && ctxOk e.2)
  | .dumpCmd path v => pathOk path && u32 v
  | .observationReadTimeout node ctx _ => node < 65536 && (ctxOk ctx || ctx = 0xFF)
  | .dumpComplete => true
  | .dumpRelease path v => pathOk path && u32 v
  | .fbCore path => pathOk path
  | .fbCluster path => pathOk path
  | .fbLandingStack path => pathOk path
  | .fbLinkPlane path => pathOk path
  | .fbPlaner path => pathOk path
  | .fbDie path => pathOk path
  | .fbModule path => pathOk path
  | .firebreakReset => true
  | .firebreakComplete => true
  | .replayStart path => pathOk path
  | .replayEnd path => pathOk path
  | .registerWrite path idx sub _ => pathOk path && idx < 65536 && sub < 256
  | .bar0ReadRequest off dws be _ => off % 4 = 0 && off < 2 ^ 26 && 1 ≤ dws && be < 16 ^ dws
  | .bar0WriteRequest off be data _ => off % 4 = 0 && off < 2 ^ 26 && data ≠ [] && be < 16 ^ data.length && data.all u32
  | .u64SlotRead idx sub => idx < 65536 && sub < 256
  | .segOpenRead k => k < 8
  | .segOpenWrite k => k < 8
  | .segCommit k => k < 8
  | .segClose k => k < 8
  | .segWindowWrite k w v => k < 8 && w < 64 && u32 v
  | .mgmtFrameReceive f => allBytes f.bytes
  | .neighborSolicitation f => allBytes f.bytes
  | .echoRequest f => allBytes f.bytes
  | .bdpRequest d src => allBytes d && src < 2 ^ 144
  | .bdpRead sess => sess < 16
  | .bdpWrite sess => sess < 16
  | .notifySend => true
  | .mgmtKeyWrite path key => pathOk path && key < 2 ^ 256
  | .doeDiscovery index => index < 256
  | .doeBdpOperation d => allBytes d
  | .powerCmdRun path => pathOk path
  | .powerCmdFallow path => pathOk path
  | .powerCmdDormant path => pathOk path
  | .powerTransitionComplete => true
  | .wakeOnAccess src => src ≤ 1
  | .coreGateOff n => n < 128
  | .clusterGateOff c => c < 8
  | .domainPowerOnComplete d => d < 136
  | .sensorSample sensor _ => sensor < 137
  | .overcurrentTrip rail phase => rail < 13 && phase < railPhases rail
  | .powerStageShutdown rail => rail < 13
  | .inputVoltage mv => u32 mv
  | .inputPowerLoss => true
  | .powerOn => true
  | .pllLossOfLock pll => pll < 37
  | .pllRelock pll => pll < 37
  | .refclkStop => true
  | .cruiseSurvey => true
  | .cruiseCmd path => pathOk path
  | .clusterSurveyComplete c _ => c < 8
  | .scrubExcursion q => q < 4
  | .scrubExcursionComplete q => q < 4
  | .macEnergyWindow _ _ => true
  | .poweredHours => true
  | .perstAssert => true
  | .perstRelease => true
  | .bootStageComplete => true
  | .bootTimeout code => code = 0 || code = 0x7003 || code = 0x7004
  | .fwBegin path => pathOk path
  | .fwEraseComplete => true
  | .fwChunkWrite path data => pathOk path && data < 2 ^ 8192
  | .fwVerify path => pathOk path
  | .fwAbort path => pathOk path
  | .fwConfirm path => pathOk path
  | .fwSwitch path => pathOk path
  | .attCmd path => pathOk path
  | .evidenceReady path => pathOk path
  | .selftest path => pathOk path
  | .selftestComplete engines limbers => engines.all (· < 512) && limbers.all (· < 128)
  | .probeEnable path => pathOk path
  | .probeDisable path => pathOk path
  | .pcieHotReset => true
  | .d3hotEntry => true
  | .msixUnmask v => v < 64
  | .completionTimeout _ => true
  | .refclkReturn => true
  | .portLinkUp => true
  | .portLinkDown => true
  | .d3hotExit => true
  | .fwUnitProgrammed => true

end Sys2Proof
end

