-- ==== Sys2Proof/Machine/ExecBoot.lean ====
section
/-!
DEFINITION. The rows of start-up, firmware, attestation, self-test and probes. Each meaning refuses operands outside
the numbering (log entry 10) and is otherwise one operation of the layers below.
-/

namespace Sys2Proof.Machine

/-- PERST_ASSERT (R373). -/
def execPerstAssert (s : State) : Host.Outcome State Fault Refusal :=
  need (wellFormed (.perstAssert)) (perstAssert s)

/-- PERST_RELEASE (R374). -/
def execPerstRelease (s : State) : Host.Outcome State Fault Refusal :=
  need (wellFormed (.perstRelease)) (perstRelease s)

/-- BOOT_STAGE_COMPLETE (R374). -/
def execBootStageComplete (s : State) : Host.Outcome State Fault Refusal :=
  need (wellFormed (.bootStageComplete)) (bootStageComplete s)

/-- BOOT_TIMEOUT (R376). -/
def execBootTimeout (code : Nat) (s : State) : Host.Outcome State Fault Refusal :=
  need (wellFormed (.bootTimeout code)) (bootTimeout s code)

/-- FW_BEGIN (R383). -/
def execFwBegin (path : Nat) (s : State) : Host.Outcome State Fault Refusal :=
  need (wellFormed (.fwBegin path)) (fwBegin s path)

/-- FW_ERASE_COMPLETE (R383). -/
def execFwEraseComplete (s : State) : Host.Outcome State Fault Refusal :=
  need (wellFormed (.fwEraseComplete)) (fwEraseComplete s)

/-- FW_UNIT_PROGRAMMED (R383). -/
def execFwUnitProgrammed (s : State) : Host.Outcome State Fault Refusal :=
  need (wellFormed (.fwUnitProgrammed)) (fwUnitProgrammed s)

/-- FW_CHUNK_WRITE (R383). -/
def execFwChunkWrite (path : Nat) (data : Nat) (s : State) : Host.Outcome State Fault Refusal :=
  need (wellFormed (.fwChunkWrite path data)) (fwChunkWrite s path data)

/-- FW_VERIFY (R383). -/
def execFwVerify (path : Nat) (s : State) : Host.Outcome State Fault Refusal :=
  need (wellFormed (.fwVerify path)) (fwVerify s path)

/-- FW_ABORT (R383). -/
def execFwAbort (path : Nat) (s : State) : Host.Outcome State Fault Refusal :=
  need (wellFormed (.fwAbort path)) (fwAbort s path)

/-- CONFIRM (R384). -/
def execFwConfirm (path : Nat) (s : State) : Host.Outcome State Fault Refusal :=
  need (wellFormed (.fwConfirm path)) (fwConfirm s path)

/-- FW_SWITCH (R383). -/
def execFwSwitch (path : Nat) (s : State) : Host.Outcome State Fault Refusal :=
  need (wellFormed (.fwSwitch path)) (fwSwitch s path)

/-- ATT_CMD (R381). -/
def execAttCmd (path : Nat) (s : State) : Host.Outcome State Fault Refusal :=
  need (wellFormed (.attCmd path)) (attCmd s path)

/-- EVIDENCE_READY (R381). -/
def execEvidenceReady (path : Nat) (s : State) : Host.Outcome State Fault Refusal :=
  need (wellFormed (.evidenceReady path)) (evidenceReady s path)

/-- SELFTEST (R385). -/
def execSelftest (path : Nat) (s : State) : Host.Outcome State Fault Refusal :=
  need (wellFormed (.selftest path)) (selftest s path)

/-- SELFTEST_COMPLETE (R385). -/
def execSelftestComplete (engines limbers : List Nat) (s : State) : Host.Outcome State Fault Refusal :=
  need (wellFormed (.selftestComplete engines limbers)) (selftestComplete s engines limbers)

/-- PROBE_ENABLE (R387). -/
def execProbeEnable (path : Nat) (s : State) : Host.Outcome State Fault Refusal :=
  need (wellFormed (.probeEnable path)) (probeEnable s path)

/-- PROBE_DISABLE (R387). -/
def execProbeDisable (path : Nat) (s : State) : Host.Outcome State Fault Refusal :=
  need (wellFormed (.probeDisable path)) (probeDisable s path)

end Sys2Proof.Machine
end

