-- ==== Sys2Proof/Machine/ExecColl.lean ====
section
/-!
DEFINITION. The rows of stands and collectives: frames by type, epochs, members, collective steps. Each meaning
refuses operands outside the numbering (log entry 10) and is otherwise one operation of the layers below.
-/

namespace Sys2Proof.Machine

/-- DATA (R195). -/
def execDataFrame (plane : Nat) (s : State) : Host.Outcome State Fault Refusal :=
  need (wellFormed (.dataFrame plane)) (dataReceived s plane)

/-- END_FRAME (R209). -/
def execEndFrame (plane : Nat) (s : State) : Host.Outcome State Fault Refusal :=
  need (wellFormed (.endFrame plane)) (endReceived s plane)

/-- ECRED (R203). -/
def execEcredFrame (plane : Nat) (s : State) : Host.Outcome State Fault Refusal :=
  need (wellFormed (.ecredFrame plane)) (ecredReceived s plane)

/-- BEAT (R211). -/
def execBeatFrame (plane : Nat) (s : State) : Host.Outcome State Fault Refusal :=
  need (wellFormed (.beatFrame plane)) (beatReceived s plane)

/-- ABORT (R212). -/
def execAbortFrame (plane : Nat) (s : State) : Host.Outcome State Fault Refusal :=
  need (wellFormed (.abortFrame plane)) (abortReceived s plane)

/-- COMMIT_FRAME (R210). -/
def execCommitFrame (plane : Nat) (s : State) : Host.Outcome State Fault Refusal :=
  need (wellFormed (.commitFrame plane)) (commitFrame s plane)

/-- CREDIT (R204). -/
def execCreditFrame (plane : Nat) (s : State) : Host.Outcome State Fault Refusal :=
  need (wellFormed (.creditFrame plane)) (creditReceived s plane)

/-- EPOCH_CMD (R196). -/
def execEpochCmd (path ctx : Nat) (s : State) : Host.Outcome State Fault Refusal :=
  need (wellFormed (.epochCmd path ctx)) (epochCmd onEpoch s path ctx)

/-- MEMBER_ENTRY_WRITE (R196). -/
def execMemberEntryWrite (path ctx v : Nat) (s : State) : Host.Outcome State Fault Refusal :=
  need (wellFormed (.memberEntryWrite path ctx v)) (memberEntryWrite s path ctx v)

/-- SELF_WRITE (R196). -/
def execSelfWrite (path ctx v : Nat) (s : State) : Host.Outcome State Fault Refusal :=
  need (wellFormed (.selfWrite path ctx v)) (selfWrite s path ctx v)

/-- BEAT_TIMER (R211). -/
def execBeatTimer (ctx : Nat) (s : State) : Host.Outcome State Fault Refusal :=
  need (wellFormed (.beatTimer ctx)) (beatTimer s ctx)

/-- NO_PROGRESS (R212). -/
def execNoProgress (ctx member : Nat) (s : State) : Host.Outcome State Fault Refusal :=
  need (wellFormed (.noProgress ctx member)) (noProgress s ctx member)

/-- COLLECTIVE_COMPLETE (R202). -/
def execCollectiveComplete (id : Nat) (s : State) : Host.Outcome State Fault Refusal :=
  need (wellFormed (.collectiveComplete id)) (collectiveComplete s id)

/-- COMMIT_COMPLETE (R242). -/
def execCommitComplete (id : Nat) (s : State) : Host.Outcome State Fault Refusal :=
  need (wellFormed (.commitComplete id)) (commitComplete s id)

/-- RS (R205). -/
def execRs (m : StepMoment) (s : State) : Host.Outcome State Fault Refusal :=
  need (wellFormed (.rs m))
    (match m with
     | .dispatch sh => s.dispatchColl sh 0xA0
     | .start id err => s.startColl id 0xA0 err)

/-- AG (R210). -/
def execAg (m : StepMoment) (s : State) : Host.Outcome State Fault Refusal :=
  need (wellFormed (.ag m))
    (match m with
     | .dispatch sh => s.dispatchColl sh 0xA1
     | .start id err => s.startColl id 0xA1 err)

/-- AR (R210). -/
def execAr (m : StepMoment) (s : State) : Host.Outcome State Fault Refusal :=
  need (wellFormed (.ar m))
    (match m with
     | .dispatch sh => s.dispatchColl sh 0xA2
     | .start id err => s.startColl id 0xA2 err)

/-- SEND (R210). -/
def execSendStep (m : StepMoment) (s : State) : Host.Outcome State Fault Refusal :=
  need (wellFormed (.sendStep m))
    (match m with
     | .dispatch sh => s.dispatchColl sh 0xA3
     | .start id err => s.startColl id 0xA3 err)

/-- RECV (R210). -/
def execRecvStep (m : Moment) (s : State) : Host.Outcome State Fault Refusal :=
  need (wellFormed (.recvStep m))
    (match m with
     | .dispatch sh => s.dispatchColl sh 0xA4
     | .start id => s.startColl id 0xA4 none)

/-- A2A (R210). -/
def execA2a (m : StepMoment) (s : State) : Host.Outcome State Fault Refusal :=
  need (wellFormed (.a2a m))
    (match m with
     | .dispatch sh => s.dispatchColl sh 0xA5
     | .start id err => s.startColl id 0xA5 err)

/-- RING (R210). -/
def execRing (m : StepMoment) (s : State) : Host.Outcome State Fault Refusal :=
  need (wellFormed (.ring m))
    (match m with
     | .dispatch sh => s.dispatchColl sh 0xA6
     | .start id err => s.startColl id 0xA6 err)

/-- COMMIT (R241). -/
def execCommitStep (m : Moment) (s : State) : Host.Outcome State Fault Refusal :=
  need (wellFormed (.commitStep m))
    (match m with
     | .dispatch sh => s.dispatchCommit sh
     | .start id => s.startCommit id)

end Sys2Proof.Machine
end

