-- ==== Sys2Proof/Machine/ExecContext.lean ====
section
/-!
DEFINITION. The rows of contexts: loading, placement, pre-emption, scheduling. Each meaning refuses operands outside
the numbering (log entry 10) and is otherwise one operation of the layers below.
-/

namespace Sys2Proof.Machine

/-- PLAN_LOAD (R273). -/
def execPlanLoad (path ctx : Nat) (s : State) : Host.Outcome State Fault Refusal :=
  need (wellFormed (.planLoad path ctx)) (planLoad s path ctx)

/-- UNLOAD (R282). -/
def execUnload (path ctx : Nat) (s : State) : Host.Outcome State Fault Refusal :=
  need (wellFormed (.unload path ctx)) (unload s path ctx)

/-- UNLOAD_COMPLETE (R282). -/
def execUnloadComplete (ctx busy : Nat) (s : State) : Host.Outcome State Fault Refusal :=
  need (wellFormed (.unloadComplete ctx busy)) (unloadComplete s ctx busy)

/-- RESUME (R282). -/
def execResumePlan (path ctx : Nat) (s : State) : Host.Outcome State Fault Refusal :=
  need (wellFormed (.resumePlan path ctx)) (resumePlan s path ctx)

/-- PREEMPT (R282). -/
def execPreempt (path ctx : Nat) (s : State) : Host.Outcome State Fault Refusal :=
  need (wellFormed (.preempt path ctx)) (preempt s path ctx)

/-- CANCEL (R282). -/
def execCancel (path ctx : Nat) (s : State) : Host.Outcome State Fault Refusal :=
  need (wellFormed (.cancel path ctx)) (cancelPreempt s path ctx)

/-- CLEAR_PLACEMENT (R282). -/
def execClearPlacement (path ctx : Nat) (s : State) : Host.Outcome State Fault Refusal :=
  need (wellFormed (.clearPlacement path ctx)) (clearPlacement s path ctx)

/-- TALLY_CLEAR (R285). -/
def execTallyClear (path ctx : Nat) (s : State) : Host.Outcome State Fault Refusal :=
  need (wellFormed (.tallyClear path ctx)) (tallyClear s path ctx)

/-- PLACEMENT (R274). -/
def execPlacement (ctx : Nat) (s : State) : Host.Outcome State Fault Refusal :=
  need (wellFormed (.placement ctx)) (placement s ctx)

/-- CORE_CLEAR_COMPLETE (R276). -/
def execCoreClearComplete (n : Nat) (s : State) : Host.Outcome State Fault Refusal :=
  need (wellFormed (.coreClearComplete n)) (coreClearComplete s n)

/-- SCHEDULER_EVALUATE (R278). -/
def execSchedulerEvaluate (s : State) : Host.Outcome State Fault Refusal :=
  need (wellFormed (.schedulerEvaluate)) (schedulerEvaluate s)

/-- SLICE_EXPIRY (R278). -/
def execSliceExpiry (ctx : Nat) (s : State) : Host.Outcome State Fault Refusal :=
  need (wellFormed (.sliceExpiry ctx)) (sliceExpiry s ctx)

/-- SAVE_START (R279). -/
def execSaveStart (n busy : Nat) (s : State) : Host.Outcome State Fault Refusal :=
  need (wellFormed (.saveStart n busy)) (saveStart s n busy)

/-- SAVE_COMPLETE (R279). -/
def execSaveComplete (ctx : Nat) (s : State) : Host.Outcome State Fault Refusal :=
  need (wellFormed (.saveComplete ctx)) (saveComplete s ctx)

/-- RESTORE_COMPLETE (R279). -/
def execRestoreComplete (n : Nat) (s : State) : Host.Outcome State Fault Refusal :=
  need (wellFormed (.restoreComplete n)) (restoreComplete s n)

/-- PREEMPT_OVERRUN (R281). -/
def execPreemptOverrun (ctx : Nat) (s : State) : Host.Outcome State Fault Refusal :=
  need (wellFormed (.preemptOverrun ctx)) (preemptOverrun s ctx)

end Sys2Proof.Machine
end

