-- ==== Sys2Proof/Machine/Cards.lean ====
section
/-!
DEFINITION. The object cards of the dictionary (R16, R17, R331): every index with its instances, its sub-indices, their access
kinds and types.
-/

namespace Sys2Proof.Machine

/-- Access kinds of R16; RWS counts as read and write. -/
inductive Acc where
  | ro | rw | wo | w1c | cmd
  deriving DecidableEq, Repr

/-- Types of R16 by width; I32, F32, CMD and a REC of 32 bits fill a 32-bit slot, a REC with a U64 container is 64 bits, STR is
a BLOB (R332). -/
inductive Ty where
  | bool | u8 | u16 | u32 | u64
  | blob (n : Nat)
  deriving DecidableEq, Repr

/-- One line of the cards of an index: sub-indices `lo` to `hi`, access and type. -/
structure Card where
  lo  : Nat
  hi  : Nat
  acc : Acc
  ty  : Ty
  deriving DecidableEq, Repr

/-- Bytes of a value as it travels over BDP (R346). -/
def Ty.bytes : Ty → Nat
  | .u64 => 8
  | .blob n => n
  | _ => 4

/-- Bytes of a value on its card, which a segment channel moves (R16, R340). -/
def Ty.size : Ty → Nat
  | .bool => 1
  | .u8 => 1
  | .u16 => 2
  | .u32 => 4
  | .u64 => 8
  | .blob n => n

/-- Values that a type holds are below this bound (R332). -/
def Ty.bound : Ty → Nat
  | .bool => 2
  | .u8 => 2 ^ 8
  | .u16 => 2 ^ 16
  | .u32 => 2 ^ 32
  | .u64 => 2 ^ 64
  | .blob n => 2 ^ (8 * n)

/-- The indices that hold objects: the first index of a group and how many instances it has (R331). -/
def families : List (Nat × Nat) :=
  [(0x1000, 1), (0x1100, 1), (0x1200, 8), (0x1210, 1), (0x1300, 1), (0x1400, 1), (0x1410, 1), (0x1420, 1),
   (0x1480, 1), (0x1481, 1), (0x2000, 64), (0x2100, 64), (0x2200, 64), (0x2400, 1024), (0x2800, 64), (0x3000, 1),
   (0x3010, 1), (0x3011, 1), (0x3020, 1), (0x3100, 64), (0x3200, 64), (0x3280, 4), (0x3290, 1), (0x32C0, 64),
   (0x3300, 4), (0x3400, 4), (0x3500, 8), (0x3510, 1), (0x3600, 9), (0x4000, 1), (0x4010, 16), (0x4020, 4),
   (0x4100, 64), (0x4200, 8), (0x5000, 1), (0x5010, 1), (0x5100, 64), (0x5200, 512), (0x5400, 1), (0x5500, 1),
   (0x5600, 1), (0x5700, 1), (0x5800, 1), (0x5900, 1), (0x6000, 1), (0x6010, 1), (0x6020, 12), (0x6200, 1),
   (0x6300, 1), (0x6400, 8), (0x6480, 1), (0x6500, 1), (0x6600, 1), (0x7000, 1), (0x7010, 1), (0x8000, 128),
   (0x9000, 512), (0xA000, 176)]

/-- The first index of the group that an index belongs to, and the instance. -/
def familyOf (i : Nat) : Option (Nat × Nat) :=
  (families.find? (fun f => f.1 ≤ i && i < f.1 + f.2)).map (fun f => (f.1, i - f.1))

/-- The cards of a group (R331). -/
def cards : Nat → List Card
  | 0x1000 =>
    [⟨0x01, 0x02, .ro, .blob 16⟩, ⟨0x03, 0x05, .ro, .u32⟩, ⟨0x06, 0x06, .ro, .u16⟩, ⟨0x07, 0x07, .ro, .u64⟩,
     ⟨0x08, 0x09, .ro, .u32⟩]
  | 0x1100 =>
    [⟨0x01, 0x01, .rw, .u8⟩, ⟨0x02, 0x02, .ro, .blob 32⟩]
  | 0x1200 =>
    [⟨0x01, 0x01, .rw, .u32⟩, ⟨0x02, 0x02, .cmd, .u32⟩, ⟨0x03, 0x03, .ro, .u8⟩, ⟨0x04, 0x04, .ro, .u32⟩,
     ⟨0x05, 0x05, .rw, .u32⟩, ⟨0x06, 0x06, .ro, .u8⟩, ⟨0x40, 0x7F, .rw, .u32⟩]
  | 0x1210 =>
    [⟨0x01, 0x01, .rw, .u32⟩, ⟨0x02, 0x02, .w1c, .bool⟩, ⟨0x03, 0x03, .ro, .u16⟩, ⟨0x04, 0x04, .ro, .u64⟩,
     ⟨0x05, 0x05, .ro, .u32⟩]
  | 0x1300 =>
    [⟨0x01, 0x01, .rw, .bool⟩, ⟨0x02, 0x02, .rw, .u8⟩, ⟨0x03, 0x03, .ro, .u8⟩, ⟨0x04, 0x04, .rw, .blob 16⟩,
     ⟨0x05, 0x05, .rw, .u8⟩, ⟨0x06, 0x06, .ro, .u16⟩, ⟨0x07, 0x07, .wo, .blob 32⟩, ⟨0x08, 0x08, .ro, .u8⟩,
     ⟨0x09, 0x09, .ro, .u64⟩, ⟨0x0A, 0x0D, .ro, .u32⟩, ⟨0x0E, 0x0E, .rw, .blob 16⟩, ⟨0x0F, 0x0F, .rw, .u16⟩,
     ⟨0x10, 0x10, .rw, .u32⟩, ⟨0x11, 0x11, .rw, .u64⟩, ⟨0x12, 0x12, .ro, .u32⟩, ⟨0x20, 0x2F, .ro, .u64⟩]
  | 0x1400 =>
    [⟨0x01, 0x01, .ro, .blob 1024⟩, ⟨0x02, 0x02, .ro, .blob 8192⟩, ⟨0x03, 0x03, .ro, .blob 1024⟩,
     ⟨0x04, 0x04, .ro, .blob 8192⟩, ⟨0x05, 0x05, .ro, .blob 1024⟩, ⟨0x06, 0x06, .ro, .blob 8192⟩]
  | 0x1410 =>
    [⟨0x01, 0x01, .rw, .blob 32⟩, ⟨0x02, 0x02, .cmd, .u32⟩, ⟨0x03, 0x03, .ro, .u16⟩, ⟨0x04, 0x04, .ro, .blob 4406⟩]
  | 0x1420 =>
    [⟨0x01, 0x09, .ro, .blob 48⟩, ⟨0x0A, 0x0A, .ro, .u16⟩, ⟨0x0B, 0x0B, .ro, .blob 16384⟩]
  | 0x1480 =>
    [⟨0x01, 0x03, .ro, .u8⟩]
  | 0x1481 =>
    [⟨0x01, 0x01, .cmd, .u32⟩, ⟨0x02, 0x02, .ro, .u8⟩, ⟨0x03, 0x04, .rw, .u32⟩, ⟨0x05, 0x05, .wo, .blob 1024⟩,
     ⟨0x06, 0x0B, .ro, .u32⟩, ⟨0x0C, 0x0C, .ro, .u8⟩]
  | 0x2000 =>
    [⟨0x01, 0x01, .rw, .u64⟩, ⟨0x02, 0x02, .rw, .u32⟩, ⟨0x03, 0x03, .cmd, .u32⟩, ⟨0x04, 0x05, .ro, .u32⟩,
     ⟨0x06, 0x06, .rw, .u8⟩, ⟨0x07, 0x07, .rw, .u32⟩, ⟨0x08, 0x08, .rw, .u8⟩, ⟨0x09, 0x09, .ro, .blob 128⟩,
     ⟨0x10, 0x14, .ro, .u64⟩, ⟨0x15, 0x16, .ro, .u32⟩, ⟨0x17, 0x17, .ro, .u64⟩, ⟨0x18, 0x18, .ro, .u32⟩,
     ⟨0x1F, 0x1F, .cmd, .u32⟩]
  | 0x2100 =>
    [⟨0x01, 0x07, .ro, .u16⟩, ⟨0x08, 0x08, .ro, .u32⟩, ⟨0x09, 0x09, .rw, .u32⟩, ⟨0x0A, 0x0A, .ro, .bool⟩,
     ⟨0x0B, 0x0B, .ro, .u32⟩]
  | 0x2200 =>
    [⟨0x01, 0x03, .ro, .u32⟩, ⟨0x04, 0x04, .cmd, .u32⟩, ⟨0x05, 0x05, .ro, .u8⟩, ⟨0x06, 0x06, .ro, .u32⟩,
     ⟨0x07, 0x07, .rw, .blob 352⟩, ⟨0x08, 0x08, .cmd, .u32⟩, ⟨0x09, 0x09, .ro, .u8⟩, ⟨0x0A, 0x0A, .ro, .u32⟩,
     ⟨0x0B, 0x0C, .ro, .u16⟩, ⟨0x0D, 0x0D, .ro, .blob 256⟩, ⟨0x0E, 0x0E, .ro, .u32⟩, ⟨0x0F, 0x0F, .ro, .u64⟩,
     ⟨0x10, 0x11, .ro, .u32⟩]
  | 0x2400 =>
    [⟨0x01, 0x03, .ro, .u32⟩, ⟨0x04, 0x04, .ro, .blob 32⟩, ⟨0x05, 0x05, .ro, .u16⟩, ⟨0x06, 0x06, .wo, .u32⟩,
     ⟨0x07, 0x07, .ro, .u8⟩]
  | 0x2800 =>
    [⟨0x01, 0x01, .rw, .u16⟩, ⟨0x02, 0x02, .rw, .blob 64⟩, ⟨0x03, 0x03, .cmd, .u32⟩, ⟨0x04, 0x04, .ro, .u32⟩,
     ⟨0x05, 0x05, .cmd, .u32⟩, ⟨0x06, 0x06, .ro, .u16⟩, ⟨0x07, 0x07, .rw, .u64⟩, ⟨0x08, 0x08, .rw, .u32⟩,
     ⟨0x09, 0x09, .cmd, .u32⟩, ⟨0x0A, 0x0A, .ro, .blob 64⟩, ⟨0x0B, 0x0B, .ro, .u64⟩]
  | 0x3000 =>
    [⟨0x01, 0x03, .ro, .u16⟩, ⟨0x04, 0x04, .ro, .u32⟩]
  | 0x3010 =>
    [⟨0x01, 0x01, .rw, .u32⟩, ⟨0x02, 0x02, .ro, .u64⟩, ⟨0x03, 0x03, .ro, .u16⟩, ⟨0x04, 0x04, .rw, .u64⟩,
     ⟨0x05, 0x05, .cmd, .u32⟩, ⟨0x06, 0x06, .ro, .u32⟩]
  | 0x3011 =>
    [⟨0x01, 0x01, .rw, .u16⟩, ⟨0x02, 0x02, .ro, .u32⟩, ⟨0x03, 0x03, .cmd, .u32⟩]
  | 0x3020 =>
    [⟨0x01, 0x01, .rw, .u16⟩, ⟨0x02, 0x02, .rw, .u64⟩]
  | 0x3100 =>
    [⟨0x01, 0x01, .rw, .u8⟩, ⟨0x02, 0x03, .rw, .u32⟩, ⟨0x04, 0x04, .cmd, .u32⟩]
  | 0x3200 =>
    [⟨0x01, 0x01, .ro, .blob 784⟩, ⟨0x02, 0x02, .ro, .u8⟩, ⟨0x03, 0x03, .ro, .u64⟩]
  | 0x3280 =>
    [⟨0x01, 0x04, .ro, .u64⟩, ⟨0x05, 0x05, .ro, .u8⟩, ⟨0x06, 0x08, .ro, .u32⟩, ⟨0x09, 0x09, .ro, .u64⟩,
     ⟨0x0A, 0x0A, .rw, .u8⟩, ⟨0x40, 0x7F, .ro, .u32⟩]
  | 0x3290 =>
    [⟨0x01, 0x01, .rw, .u16⟩, ⟨0x02, 0x02, .ro, .blob 32⟩, ⟨0x03, 0x03, .ro, .u8⟩, ⟨0x04, 0x08, .ro, .u32⟩]
  | 0x32C0 =>
    [⟨0x01, 0x01, .ro, .u32⟩, ⟨0x02, 0x02, .rw, .u32⟩, ⟨0x03, 0x03, .cmd, .u32⟩, ⟨0x04, 0x04, .ro, .u8⟩,
     ⟨0x05, 0x07, .ro, .u32⟩, ⟨0x08, 0x08, .ro, .bool⟩, ⟨0x09, 0x0A, .ro, .u32⟩, ⟨0x0B, 0x0E, .rw, .u32⟩,
     ⟨0x0F, 0x0F, .ro, .u64⟩]
  | 0x3300 =>
    [⟨0x01, 0x02, .ro, .u32⟩, ⟨0x03, 0x03, .ro, .u64⟩]
  | 0x3400 =>
    [⟨0x01, 0x01, .ro, .u32⟩, ⟨0x02, 0x03, .ro, .u64⟩, ⟨0x04, 0x05, .ro, .u32⟩, ⟨0x06, 0x07, .ro, .u16⟩,
     ⟨0x08, 0x0A, .ro, .u32⟩, ⟨0x0B, 0x0B, .cmd, .u32⟩]
  | 0x3500 =>
    [⟨0x01, 0x01, .ro, .u64⟩, ⟨0x02, 0x03, .ro, .u32⟩]
  | 0x3510 =>
    [⟨0x01, 0x05, .ro, .u64⟩, ⟨0x11, 0x15, .ro, .u64⟩]
  | 0x3600 =>
    [⟨0x01, 0x01, .rw, .u8⟩, ⟨0x02, 0x04, .ro, .u32⟩, ⟨0x05, 0x06, .ro, .u64⟩]
  | 0x4000 =>
    [⟨0x01, 0x01, .rw, .u32⟩, ⟨0x02, 0x02, .ro, .u16⟩, ⟨0x03, 0x03, .rw, .bool⟩, ⟨0x04, 0x05, .rw, .u8⟩,
     ⟨0x06, 0x06, .rw, .u16⟩, ⟨0x07, 0x07, .ro, .u32⟩]
  | 0x4010 =>
    [⟨0x01, 0x01, .ro, .u32⟩, ⟨0x02, 0x02, .cmd, .u32⟩, ⟨0x03, 0x04, .ro, .u64⟩, ⟨0x05, 0x05, .ro, .u32⟩,
     ⟨0x06, 0x06, .ro, .u16⟩, ⟨0x07, 0x07, .ro, .u32⟩, ⟨0x08, 0x08, .ro, .u64⟩]
  | 0x4020 =>
    [⟨0x01, 0x01, .ro, .u32⟩, ⟨0x02, 0x02, .cmd, .u32⟩, ⟨0x03, 0x04, .ro, .u64⟩, ⟨0x05, 0x05, .ro, .u32⟩,
     ⟨0x06, 0x06, .ro, .u16⟩, ⟨0x07, 0x07, .ro, .u32⟩, ⟨0x08, 0x08, .ro, .u64⟩]
  | 0x4100 =>
    [⟨0x01, 0x01, .ro, .u32⟩, ⟨0x02, 0x02, .ro, .bool⟩, ⟨0x03, 0x03, .ro, .u32⟩, ⟨0x04, 0x05, .rw, .u32⟩,
     ⟨0x06, 0x06, .cmd, .u32⟩, ⟨0x07, 0x08, .rw, .u16⟩, ⟨0x09, 0x09, .rw, .u64⟩, ⟨0x0A, 0x0A, .ro, .u16⟩,
     ⟨0x0B, 0x0E, .ro, .u32⟩, ⟨0x0F, 0x0F, .ro, .u64⟩, ⟨0x10, 0x12, .ro, .u32⟩, ⟨0x13, 0x13, .ro, .u8⟩]
  | 0x4200 =>
    [⟨0x01, 0x01, .rw, .u8⟩, ⟨0x02, 0x05, .ro, .u32⟩, ⟨0x06, 0x09, .ro, .u64⟩]
  | 0x5000 =>
    [⟨0x01, 0x01, .ro, .u32⟩, ⟨0x02, 0x02, .rw, .u32⟩, ⟨0x03, 0x03, .ro, .blob 32⟩, ⟨0x04, 0x04, .ro, .u32⟩,
     ⟨0x05, 0x05, .w1c, .bool⟩, ⟨0x06, 0x06, .ro, .u16⟩, ⟨0x07, 0x07, .rw, .u8⟩]
  | 0x5010 =>
    [⟨0x01, 0x01, .rw, .u16⟩, ⟨0x02, 0x02, .rw, .u8⟩, ⟨0x03, 0x04, .ro, .u64⟩, ⟨0x05, 0x05, .ro, .u32⟩]
  | 0x5100 =>
    [⟨0x01, 0x01, .w1c, .bool⟩, ⟨0x02, 0x02, .ro, .u16⟩, ⟨0x03, 0x04, .ro, .u32⟩, ⟨0x05, 0x05, .rw, .u32⟩,
     ⟨0x06, 0x09, .ro, .u64⟩, ⟨0x0A, 0x0A, .rw, .u8⟩, ⟨0x0B, 0x0B, .rw, .bool⟩, ⟨0x0C, 0x0C, .rw, .u32⟩,
     ⟨0x0D, 0x0D, .ro, .blob 8224⟩, ⟨0x0E, 0x0E, .rw, .u64⟩, ⟨0x0F, 0x0F, .cmd, .u32⟩]
  | 0x5200 =>
    [⟨0x01, 0x01, .rw, .u8⟩, ⟨0x02, 0x03, .ro, .u64⟩]
  | 0x5400 =>
    [⟨0x01, 0x01, .ro, .u32⟩, ⟨0x02, 0x02, .rw, .u32⟩, ⟨0x03, 0x03, .ro, .u16⟩, ⟨0x04, 0x04, .ro, .blob 4406⟩,
     ⟨0x05, 0x05, .ro, .u32⟩]
  | 0x5500 =>
    [⟨0x01, 0x01, .rw, .u64⟩, ⟨0x02, 0x02, .rw, .u8⟩, ⟨0x03, 0x03, .cmd, .u32⟩, ⟨0x04, 0x04, .ro, .u64⟩]
  | 0x5600 =>
    [⟨0x01, 0x01, .rw, .bool⟩, ⟨0x02, 0x02, .rw, .u32⟩, ⟨0x03, 0x03, .ro, .u32⟩, ⟨0x04, 0x04, .rw, .u32⟩,
     ⟨0x05, 0x05, .ro, .blob 528⟩, ⟨0x06, 0x06, .ro, .u64⟩, ⟨0x07, 0x07, .w1c, .bool⟩, ⟨0x08, 0x08, .ro, .u16⟩,
     ⟨0x09, 0x09, .rw, .u8⟩, ⟨0x0A, 0x0A, .ro, .u16⟩]
  | 0x5700 =>
    [⟨0x01, 0x01, .cmd, .u32⟩, ⟨0x02, 0x02, .rw, .u8⟩, ⟨0x03, 0x04, .ro, .u32⟩, ⟨0x05, 0x05, .ro, .blob 4194304⟩,
     ⟨0x06, 0x06, .cmd, .u32⟩, ⟨0x07, 0x07, .ro, .u32⟩]
  | 0x5800 =>
    [⟨0x01, 0x01, .rw, .u8⟩, ⟨0x02, 0x02, .cmd, .u32⟩, ⟨0x03, 0x04, .ro, .u8⟩, ⟨0x05, 0x05, .ro, .u32⟩,
     ⟨0x06, 0x06, .rw, .u32⟩]
  | 0x5900 =>
    [⟨0x01, 0x01, .rw, .u8⟩, ⟨0x02, 0x02, .cmd, .u32⟩, ⟨0x03, 0x03, .ro, .u8⟩, ⟨0x04, 0x04, .ro, .u32⟩,
     ⟨0x05, 0x05, .rw, .u8⟩, ⟨0x06, 0x06, .ro, .u64⟩]
  | 0x6000 =>
    [⟨0x01, 0x01, .ro, .u8⟩, ⟨0x02, 0x02, .cmd, .u32⟩, ⟨0x03, 0x03, .ro, .u8⟩, ⟨0x04, 0x04, .rw, .u8⟩,
     ⟨0x05, 0x05, .ro, .u8⟩, ⟨0x06, 0x06, .ro, .u32⟩, ⟨0x07, 0x07, .rw, .u32⟩, ⟨0x08, 0x08, .ro, .u8⟩,
     ⟨0x09, 0x0A, .ro, .blob 23⟩, ⟨0x0B, 0x0B, .ro, .u16⟩]
  | 0x6010 =>
    [⟨0x01, 0x03, .ro, .u32⟩, ⟨0x04, 0x04, .ro, .u64⟩]
  | 0x6020 =>
    [⟨0x01, 0x02, .ro, .u32⟩, ⟨0x03, 0x03, .ro, .u64⟩, ⟨0x04, 0x04, .ro, .u16⟩]
  | 0x6200 =>
    [⟨0x01, 0x02, .ro, .u32⟩]
  | 0x6300 =>
    [⟨0x01, 0x01, .ro, .u32⟩, ⟨0x02, 0x02, .ro, .u8⟩, ⟨0x03, 0x03, .rw, .u32⟩, ⟨0x04, 0x08, .ro, .u32⟩,
     ⟨0x09, 0x09, .ro, .blob 10⟩, ⟨0x40, 0x8F, .ro, .u32⟩]
  | 0x6400 =>
    [⟨0x01, 0x01, .ro, .u32⟩, ⟨0x02, 0x03, .ro, .u8⟩, ⟨0x04, 0x04, .ro, .u16⟩, ⟨0x05, 0x07, .ro, .u32⟩,
     ⟨0x08, 0x08, .ro, .bool⟩]
  | 0x6480 =>
    [⟨0x01, 0x01, .cmd, .u32⟩, ⟨0x02, 0x02, .rw, .u16⟩, ⟨0x03, 0x03, .ro, .u32⟩, ⟨0x04, 0x04, .rw, .u8⟩,
     ⟨0x05, 0x05, .ro, .u16⟩, ⟨0x06, 0x06, .ro, .u32⟩]
  | 0x6500 =>
    [⟨0x01, 0x04, .ro, .u32⟩, ⟨0x05, 0x06, .ro, .u16⟩, ⟨0x07, 0x08, .ro, .u32⟩]
  | 0x6600 =>
    [⟨0x01, 0x01, .rw, .u16⟩, ⟨0x02, 0x02, .ro, .u32⟩, ⟨0x03, 0x03, .ro, .blob 16⟩]
  | 0x7000 =>
    [⟨0x01, 0x01, .ro, .u8⟩, ⟨0x02, 0x02, .ro, .blob 32⟩, ⟨0x03, 0x03, .wo, .blob 3437⟩, ⟨0x04, 0x04, .cmd, .u32⟩,
     ⟨0x05, 0x05, .ro, .u8⟩, ⟨0x10, 0x21, .rw, .u16⟩]
  | 0x7010 =>
    [⟨0x01, 0x01, .cmd, .u32⟩, ⟨0x02, 0x02, .ro, .u8⟩, ⟨0x03, 0x03, .ro, .blob 64⟩, ⟨0x04, 0x04, .ro, .blob 16⟩,
     ⟨0x05, 0x05, .ro, .u32⟩]
  | 0x8000 =>
    [⟨0x02, 0x05, .ro, .u32⟩, ⟨0x08, 0x08, .ro, .u32⟩, ⟨0x09, 0x0E, .ro, .u64⟩, ⟨0x10, 0x1F, .ro, .u32⟩,
     ⟨0x20, 0x2F, .ro, .blob 16⟩, ⟨0x40, 0xDF, .ro, .u32⟩]
  | 0x9000 =>
    [⟨0x01, 0x01, .ro, .u32⟩, ⟨0x03, 0x03, .ro, .u64⟩, ⟨0x04, 0x04, .ro, .u32⟩, ⟨0x05, 0x06, .ro, .u64⟩,
     ⟨0x07, 0x07, .w1c, .bool⟩, ⟨0x08, 0x08, .ro, .u16⟩, ⟨0x09, 0x09, .rw, .bool⟩, ⟨0x10, 0x1F, .ro, .u32⟩]
  | 0xA000 =>
    [⟨0x01, 0x01, .ro, .u8⟩, ⟨0x02, 0x02, .ro, .u64⟩, ⟨0x03, 0x03, .ro, .u32⟩, ⟨0x04, 0x04, .ro, .u8⟩]
  | _ => []

/-- The highest sub-index in use of a group, which sub-index 00h reads (R13). -/
def topSub (b : Nat) : Nat := ((cards b).map (fun c => c.hi)).foldl max 0

/-- The card of object idx.sub; sub-index 00h is a U8 that is only read (R13, R331). -/
def cardOf (idx sub : Nat) : Option Card :=
  match familyOf idx with
  | none => none
  | some (b, _) =>
    if sub = 0 then some { lo := 0, hi := 0, acc := .ro, ty := .u8 }
    else (cards b).find? (fun c => c.lo ≤ sub && sub ≤ c.hi)

/-- The key of an object's card: that of the same sub-index at the first index of its group. -/
def cardKey (k : Nat) : Nat :=
  match familyOf (k / 256) with
  | none => k
  | some (b, _) => b * 256 + k % 256

/-- The instance of an object's index in its group. -/
def instOf (k : Nat) : Nat :=
  match familyOf (k / 256) with
  | none => 0
  | some (_, i) => i

/-- Whether a card's object is wider than 32 bits (R332). -/
def Ty.wide (t : Ty) : Bool := 4 < t.bytes

/-- Objects with one instance per path (R336), by card key. -/
def perPath (ck : Nat) : Bool :=
  [0x121001, 0x280001, 0x280002, 0x220007, 0x301001, 0x301004, 0x301101, 0x302001, 0x310001, 0x310002, 0x310003, 0x329001,
   0x32C002, 0x410004, 0x410005, 0x410008, 0x110001, 0x500002, 0x51000C, 0x540002, 0x51000E, 0x550001, 0x550002, 0x560004,
   0x570002, 0x580001, 0x590001, 0x590005, 0x360001, 0x32800A, 0x420001, 0x141001, 0x141003, 0x141004].contains ck

end Sys2Proof.Machine
end

