-- ==== Sys2Proof/Machine/Views.lean ====
section
/-!
DEFINITION. What the objects read that show other state of the module (R335): their values are computed from that state.
-/

namespace Sys2Proof.Machine

/-! ### Records as words and bytes -/

/-- A Tier Map entry as R142 lays it out; an entry of home NONE reads 0. -/
def Region.word (g : Region) : Nat :=
  let code := match g.home with | .none => 0 | .landing => 1 | .ddr => 2 | .flash => 3 | .host => 4
  if g.home = .none then 0
  else
    code * 2 ^ 61 + b2n g.staged * 2 ^ 60 + b2n g.dirty * 2 ^ 59 + b2n (g.busy ≠ .idle) * 2 ^ 58 + b2n g.lost * 2 ^ 57
      + g.owner % 64 * 2 ^ 51 + b2n g.allocated * 2 ^ 50 + g.planer % 4 * 2 ^ 48 + g.frame % 2 ^ 13 * 2 ^ 35
      + g.homeFrame % 2 ^ 20 * 2 ^ 15

/-- FRAME_STATE (R174). -/
def FrameUse.word : FrameUse → Nat
  | .free => 0
  | .pool c _ => 2 ^ 30 + c * 2 ^ 24
  | .home r => 2 ^ 31 + r
  | .staged c r => 2 ^ 31 + 2 ^ 30 + c * 2 ^ 24 + r

/-- The code of a context's state in CTX_STATE (R285). -/
def CtxState.code : CtxState → Nat
  | .empty => 0 | .loading => 1 | .waiting => 2 | .placed => 3 | .saving => 4 | .saved => 5 | .restoring => 6 | .unloading => 1

/-- A fault record's 32 bytes (R290). -/
def FaultRec.bytes (r : FaultRec) : List Nat :=
  leBytes 4 r.seq ++ leBytes 2 r.code
    ++ [r.kind % 16 + b2n r.ctx.isSome * 16 + b2n r.held * 32 + b2n r.abort * 64 + b2n r.blaze * 128, r.ctx.getD 0]
    ++ leBytes 2 r.source ++ leBytes 2 r.count ++ leBytes 4 r.step ++ leBytes 4 r.epoch ++ leBytes 2 r.inc ++ [0, 0]
    ++ leBytes 8 r.detail

/-- A step record's bytes (R298). -/
def StepRec.bytes (r : StepRec) : List Nat :=
  leBytes 4 r.step ++ leBytes 4 r.epoch ++ leBytes 2 r.entries.length ++ [b2n r.det, 0] ++ leBytes 4 r.reasons
    ++ leBytes 4 r.checks ++ leBytes 2 r.mismatch ++ [0, 0] ++ leBytes 4 r.special ++ leBytes 4 r.overflow
    ++ r.entries.flatMap (fun e =>
      leBytes 4 (e.1 * 2 ^ 21 + e.2.1 * 2 ^ 17 + e.2.2.1 * 2 ^ 9 + b2n e.2.2.2 * 2 ^ 8))

/-- The code of a buffer's state in LSLOT_BUF (R268). -/
def BufState.code : BufState → Nat
  | .empty => 0 | .filling => 1 | .ready => 2

/-- The code of a dump slot's state (R329). -/
def DumpSt.code : DumpSt → Nat
  | .empty => 0 | .writing => 1 | .ready => 2 | .released => 3

/-- The code of a bank's state in FW_STATE (R389). -/
def BankSt.code : BankSt → Nat
  | .invalid => 0 | .inactive => 1 | .pending => 2 | .active => 3

/-- A bit map over the numbers below n. -/
def mapBits (n : Nat) (p : Nat → Bool) : Nat := ((List.range n).map (fun k => b2n (p k) * 2 ^ k)).foldl (· + ·) 0

/-! ### Contexts, serving (R216, R268, R285) -/

/-- CTX_STATE (R285). -/
def State.ctxStateWord (s : State) (i : Nat) : Nat :=
  let c := s.ctx i
  c.st.code * 2 ^ 29 + b2n c.held * 2 ^ 28 + s.obj (okey (0x2100 + i) 0x0A) * 2 ^ 27 + b2n (imgDet c.image) * 2 ^ 26
    + b2n (imgPreemptible c.image) * 2 ^ 25 + b2n (s.drains i) * 2 ^ 24 + mapBits 8 (fun k => imgTasks c.image k ≠ 0) * 2 ^ 16
    + (if c.held then c.holdFault else 0)

/-- Objects of 2200h + i that show the sequencer (R256 to R268). -/
def State.servView (s : State) (i j : Nat) : Option Nat :=
  let v := s.serv i
  let slots := if v.on then s.servSlots i else []
  let ready := slots.filter (fun l => v.holds l (s.wloadVer i))
  match j with
  | 6 =>
    if s.wloadVer i = 0 then some (slots.length * 2 ^ 6)
    else some ((if v.on && s.filling i then 1 else 2) * 2 ^ 30 + ready.length * 2 ^ 18 + slots.length * 2 ^ 6)
  | 0x0A => some (b2n (v.batches.any (fun b => b.admitted)) * 2 ^ 31 + b2n (v.batches.any (fun b => !b.admitted)) * 2 ^ 30)
  | 0x0B => some (if v.on then (s.joinFrames i).length else 0)
  | 0x0C => some ((v.kv.map (fun e => e.2.length)).foldl (· + ·) 0)
  | 0x0D => some (leNat ((List.range 256).map v.reserved))
  | 0x10 => some ((s.seqWait i).word i)
  | 0x11 => some (match v.batches with | b :: _ => if b.admitted then batchSeq b.image else 0 | [] => 0)
  | _ => none

/-! ### Descriptors and tiers (R119, R174) -/

/-- Objects of 2800h + i that show the descriptor table. -/
def State.descView (s : State) (path i j : Nat) : Option Nat :=
  let own := s.descs.filter (fun e => e.1 / 4096 = i)
  match j with
  | 5 => some (own.filter (fun e => e.2.st = .pending)).length
  | 6 => some (own.filter (fun e => e.2.st = .live)).length
  | 0x0A =>
    let e := s.desc i (s.pobj path (okey (0x2800 + i) 1))
    some (if e.st = .free then 0 else e.image)
  | _ => none

/-- Frames of the Landing in a use (R143). -/
def State.framesIn (s : State) (p : FrameUse → Bool) : Nat := (s.frames.filter (fun e => p e.2)).length

/-- Objects of 3000h to 3020h and of the Planers' flash that show the tiers. -/
def State.tierView (s : State) (path ck i : Nat) : Option Nat :=
  let r := s.region (s.tmapSel path)
  let pool := s.framesIn (fun u => match u with | .pool .. => true | .staged .. => true | _ => false)
  let home := s.framesIn (fun u => match u with | .home _ => true | _ => false)
  match ck with
  | 0x300001 => some (6080 - pool - home)
  | 0x300002 => some pool
  | 0x300003 => some home
  | 0x300004 => some (s.tmap.filter (fun e => e.2.home ≠ .none)).length
  | 0x301002 => some r.word
  | 0x301003 => some r.pages.length
  | 0x301102 => some (s.frame (s.pobj path (okey 0x3011 1))).word
  | 0x302002 => some (s.hostWin (s.pobj path (okey 0x3020 1)))
  | 0x330001 => some (s.obj (okey (0x3300 + i) 1) + corrected (0x3300 + i) (s.obj (okey (0x3300 + i) 3)))
  | 0x340004 => some (s.eraseMax i (eraseStart i))
  | 0x340005 => some (s.eraseMean i (meanStart i))
  | 0x340006 => some (s.eraseMean i (meanStart i) * 1000 / 3000)
  | 0x350002 => some (s.obj (okey (0x3500 + i) 2) + corrected (0x3500 + i) (s.obj (okey (0x3500 + i) 1)))
  | _ => none

/-! ### Planers (R247, R268) -/

/-- Granules of a context's slots: slot, granule and its state. -/
def granulesOf (slots : List (Nat × Slot)) : List (Slot × Nat) :=
  slots.flatMap (fun e => (List.range (slotGrans e.2.image)).map (fun g => (e.2, g)))

/-- Whether a granule is prepared: APPLIED is its Planer's counter + 1 (R238). -/
def State.prepared (s : State) (ctx : Nat) (e : Slot × Nat) : Bool :=
  e.1.appliedStep e.2 = (s.stepCtr (e.2 % 4) ctx + 1) % 2 ^ 32

/-- Objects of 3200h to 32FFh that show layer slots, update streams and granules. -/
def State.planerView (s : State) (path ck i : Nat) : Option Nat :=
  let l := s.pobj path (okey 0x3290 1)
  let z := s.slot l
  let ctx := z.owner.getD 0
  let v := s.serv ctx
  let own := granulesOf (s.ownSlots i)
  match ck with
  | 0x320001 => some (leNat ((s.ustream i).words.flatMap (fun w => leBytes 16 w.toNat)))
  | 0x320002 => some ((s.ustream i).owner.getD 0xFF)
  | 0x328005 => some (s.rxBuf.filter (fun g => g.q = i)).length
  | 0x329002 => some z.image
  | 0x329003 => some (z.owner.getD 0xFF)
  | 0x329004 => some (z.pin1 * 2 ^ 16 + z.pin0)
  | 0x329005 => some (if z.owner.isNone then 0 else ((granulesOf [(l, z)]).filter (s.prepared ctx)).length)
  | 0x329006 => some ((v.buf l 1).code * 2 ^ 30 + (v.buf l 0).code * 2 ^ 28)
  | 0x329007 => some (v.ver l 0)
  | 0x329008 => some (v.ver l 1)
  | 0x32C005 => some own.length
  | 0x32C006 => some (own.filter (s.prepared i)).length
  | 0x32C007 => some (own.filter (fun e => (e.1.gran e.2).torn)).length
  | _ => none

/-! ### Shells (R41, R277) -/

/-- WAIT_EXPORT, WAIT_CREDIT or LAST_STEPMARK of a unit's shell for a context (R277). -/
def State.unitView (s : State) (uid ctx j : Nat) : Nat :=
  match j with
  | 0 => (s.exports (.unit uid ctx)).1
  | 1 => (s.exports (.unit uid ctx)).2
  | _ => ((s.stream ctx uid).mark).getD 0

/-- OPEN_COLL of a Yarder for a context (R214). -/
def State.openCollWord (s : State) (ctx c : Nat) : Nat :=
  match s.openSteps ctx c with
  | [] => 0
  | x :: _ => (s.collOf x).coll * 2 ^ 16 + 2 ^ 15

/-- Objects of the Skidders, the host DMA engine, the Planer ports, the Yarders, the links and the stands that show their
state. -/
def State.linkView (s : State) (path ck i : Nat) : Option Nat :=
  let mover := if i = 8 then 0x94 else 0x80 + i
  let ctxM := s.pobj path (okey (0x3600 + i) 1)
  let ctxP := s.pobj path (okey (0x3280 + i) 0x0A)
  let ctxY := s.pobj path (okey (0x4200 + i) 1)
  match ck with
  | 0x360002 => some (s.unitView mover ctxM 0)
  | 0x360003 => some (s.unitView mover ctxM 1)
  | 0x360004 => some (s.unitView mover ctxM 2)
  | 0x328006 => some (s.unitView (0x90 + i) ctxP 0)
  | 0x328007 => some (s.unitView (0x90 + i) ctxP 1)
  | 0x328008 => some (s.unitView (0x90 + i) ctxP 2)
  | 0x401001 => some (s.link i).stateWord
  | 0x402001 => some (s.link (16 + i)).stateWord
  | 0x410003 => some (s.fenceToken i)
  | 0x410009 => some (s.member i (s.pobj path (okey (0x4100 + i) 8)))
  | 0x420002 => some (s.unitView (0x88 + i) ctxY 0)
  | 0x420003 => some (s.unitView (0x88 + i) ctxY 1)
  | 0x420004 => some (s.unitView (0x88 + i) ctxY 2)
  | 0x420005 => some (s.openCollWord ctxY i)
  | _ => none

/-! ### Faults, checks, blaze records, Snag, dumps (R290 to R329) -/

/-- The readable blaze record that a path's BLAZE_SEL names (R308). -/
def State.blazeSel (s : State) (path : Nat) : List Nat :=
  match s.faults.blazes.find? (fun b => b.seq = s.pobj path (okey 0x5400 2) && b.signed) with
  | some b => b.bytes
  | none => []

/-- The Snag record that a path's SNAG_SEL names (R316). -/
def State.snagSel (s : State) (path : Nat) : Option SnagRec :=
  s.snag.records.find? (fun r => r.seq = s.pobj path (okey 0x5600 4))

/-- Objects of 1100h and 5000h to 59FFh that show records. -/
def State.healthView (s : State) (path ck i : Nat) : Option Nat :=
  let d := s.dump (s.pobj path (okey 0x5700 2))
  match ck with
  | 0x110002 => some (match s.faults.history[s.pobj path (okey 0x1100 1)]? with | some r => leNat r.bytes | none => 0)
  | 0x500001 => some s.faults.seq
  | 0x500003 =>
    some (match s.faults.ring.find? (fun r => r.seq = s.pobj path (okey 0x5000 2)) with | some r => leNat r.bytes | none => 0)
  | 0x510004 => some (s.checksPending i)
  | 0x51000D =>
    some (match (s.scalerCtx i).records.find? (fun r => r.step = s.pobj path (okey (intIdx i) 0x0C)) with
      | some r => leNat r.bytes
      | none => 0)
  | 0x540001 => some s.faults.blazeSeq
  | 0x540003 => some (s.blazeSel path).length
  | 0x540004 => some (leNat (s.blazeSel path))
  | 0x560005 => some (match s.snagSel path with | some r => leNat r.bytes | none => 0)
  | 0x560006 => some (match s.snagSel path with | some r => r.suspects | none => 0)
  | 0x56000A => some s.snag.waiting
  | 0x570003 => some (d.st.code * 2 ^ 30 + d.cause * 2 ^ 28 + d.seq % 2 ^ 28)
  | 0x570004 => some (if d.st = .ready then d.len else 0)
  | 0x570005 => some (if d.st = .ready then leNat (d.data.readBytes 0 d.len) else 0)
  | 0x590004 => some (match s.isolated with | some c => 2 ^ 31 + c * 2 ^ 25 | none => 0)
  | 0x590006 => some ((s.snag.log[s.pobj path (okey 0x5900 5)]?).getD 0)
  | _ => none

/-! ### Power, trust (R353 to R389) -/

/-- Domains that a running scrub excursion has switched on (R367). -/
def State.excursionOn (s : State) (d : Nat) : Bool :=
  match s.power.excursion with
  | some q => d = 168 + q || d = 172 + q || d = 176 + q
  | none => false

/-- Domains that are on (R355 to R357, R367). -/
def State.domainOn (s : State) (d : Nat) : Bool :=
  if s.powerState ≤ 1 then d ≥ 136 || !Tab.get false s.power.off d else d = 167 || 180 ≤ d || s.excursionOn d

/-- Domains in retention (R357). -/
def State.domainRet (s : State) (d : Nat) : Bool :=
  2 ≤ s.powerState && ((172 ≤ d && d ≤ 175) || (s.powerState = 2 && 136 ≤ d && d ≤ 143)) && !s.excursionOn d

/-- PLL_LOCK: the PLLs in lock, numbered as log entry 73 says (R361). -/
def State.pllWord (s : State) : Nat :=
  let up := fun k => !Tab.get false s.power.plls k
  b2n (up 0) * 2 ^ 31 + mapBits 20 (fun k => up (1 + k)) * 2 ^ 11 + mapBits 8 (fun k => up (21 + k)) * 2 ^ 3
    + b2n ((List.range 8).all (fun k => up (29 + k))) * 2 ^ 2

/-- A certificate: one value per module, of the alias one per BOOT_DIGEST (R379, R380; log entry 4). -/
def State.certificate (s : State) (j : Nat) : Nat :=
  Config.moduleConst (if j ≤ 4 then okey 0x1400 j else okey 0x1400 j + 2 ^ 24 * (1 + s.boot.digest))
    % 2 ^ (if j % 2 = 1 then 8192 else 65536)

/-- An entry of the measurement log (R378). -/
def measEntry (e : Nat × Nat × Nat × Nat) : List Nat :=
  [e.1, e.2.1, 0, 0] ++ leBytes 4 e.2.2.1 ++ leBytes 48 e.2.2.2 ++ List.replicate 8 0

/-- A meter's reading in J or mJ (R372; log entry 9). -/
def State.energyOf (s : State) (k : Nat) : Nat := Tab.get 0 s.power.energy k / 400000000000

/-- STATUS# at J7 position 25: driven low while BOOT_STATE reads 4 and POWER_STATE is 0 or 1 (R400). -/
def State.statusLow (s : State) : Bool := s.env.vin && s.bootState = 4 && s.powerState ≤ 1

/-- Objects of 1000h, 1400h to 14FFh, 6000h to 70FFh that show state. -/
def State.trustView (s : State) (ck i : Nat) : Option Nat :=
  let f := s.firmware
  let j := ck % 256
  match ck / 256 with
  | 0x1000 => if j = 4 || j = 5 then some s.fwRunning else none
  | 0x1400 => some (s.certificate j)
  | 0x1420 =>
    if j ≤ 8 then some (s.boot.mrs.getD (j - 1) 0)
    else if j = 9 then some s.boot.digest
    else if j = 0x0A then some s.boot.log.length
    else some (leNat (s.boot.log.flatMap measEntry))
  | 0x1481 =>
    match j with
    | 6 => some (f.bank1.code * 2 ^ 30 + f.bank0.code * 2 ^ 28 + f.tries % 4 * 2 ^ 26 + b2n f.sess.isSome * 2 ^ 25
        + f.sess.getD 0 % 32 * 2 ^ 20 + f.units.length % 2 ^ 20)
    | 7 => some (if f.bank0 = .invalid then 0 else fwVersion f.img0)
    | 8 => some (if f.bank1 = .invalid then 0 else fwVersion f.img1)
    | 9 => some (fwSvn f.img0)
    | 0x0A => some (fwSvn f.img1)
    | _ => none
  | 0x6000 =>
    match j with
    | 8 => some (mapBits 8 (fun c => Tab.get false s.power.off (128 + c)))
    | 9 => some (mapBits 184 s.domainOn)
    | 0x0A => some (mapBits 184 s.domainRet)
    | _ => none
  | 0x6010 => if j = 4 then some (s.energyOf 0) else none
  | 0x6020 => if j = 3 then some (s.energyOf (1 + i)) else none
  | 0x6200 => if j = 1 then some s.pllWord else none
  | 0x6300 => if j = 9 then some (mapBits 80 s.diodeOff) else none
  | 0x6400 => if j = 3 then some (s.headroom i) else none
  | 0x6600 => if j = 3 then some (leNat ((List.range 4).flatMap (fun q => leBytes 4 (s.scrubDeadline q)))) else none
  | 0x7000 => if j = 2 then some s.boot.challenge else none
  | _ => none

/-! ### Cores and engines (R41, R88, R109, R174) -/

/-- Commands in a queue of a core. -/
def State.coreFlights (s : State) (n : Nat) (q : QueueId) : List Flight :=
  s.flights.filter (fun f => f.owner < 128 && f.core = n && f.queue = q)

/-- ENG_STATE (R88). -/
def State.engState (s : State) (e : Nat) : Nat :=
  let fs := s.coreFlights (e / 4) (.engine (e % 4))
  let runs := fun (p : Nat → Bool) => fs.any (fun f => f.phase ≠ .queued && p f.op)
  (fs.filter (fun f => f.phase = .queued)).length * 2 ^ 28 + b2n (runs (· = 0x10)) * 2 ^ 27 + b2n (runs (· = 0x11)) * 2 ^ 26
    + b2n (runs (fun o => 0x12 ≤ o && o ≤ 0x14)) * 2 ^ 25 + b2n (s.engFenced e) * 2 ^ 24
    + mapBits 8 (fun t => (s.tile (e / 4) (tileKey (e % 4) t)).st ≠ .free) * 2 ^ 16

/-- LIMBER_STATE (R109). CTX is the context of the task that the core has, from its placement on, and 0 where it has none (log
entry 76). -/
def State.limberState (s : State) (n : Nat) : Nat :=
  let fs := s.coreFlights n .limber
  let waiting := fs.filter (fun f => f.phase = .queued)
  waiting.length * 2 ^ 28 + b2n (fs.any (fun f => f.phase ≠ .queued)) * 2 ^ 27
    + (if (s.core n).phase = .free then 0 else (s.core n).ctx) * 2 ^ 21
    + (match waiting with | [] => 0 | f :: _ => f.op) * 2 ^ 13

/-- LIMBER_BANK_STALL_ACLK: what each VLD and VST issued has lost in bank arbitration; the object's own value counts them (R108; log
entry 111). -/
def State.bankLost (s : State) (n : Nat) : Nat :=
  ((List.range (s.obj (okey (0x8000 + n) 0x0B))).map (Config.bankLost n)).foldl (· + ·) 0

/-- Objects of 8000h + n (R41, R109, R174): counters are those of the task on the core. -/
def State.coreView (s : State) (n j : Nat) : Option Nat :=
  let c := s.core n
  let on := c.phase ≠ .free
  let owner := 16 * (n / 16) + c.task
  let tok := fun k => (Tab.get 0 s.tok (ckey c.ctx owner k)).toNat
  if j = 2 then some (s.exports (.core n)).1
  else if j = 3 then some (s.exports (.core n)).2
  else if j = 4 then some (if on then ((s.stream c.ctx owner).mark).getD 0 else c.lastMark)
  else if j = 8 then some (s.limberState n)
  else if j = 0x0B then some (s.bankLost n)
  else if 0x10 ≤ j && j < 0x20 then some (c.data.sa (j - 0x10)).word
  else if 0x20 ≤ j && j < 0x30 then
    some (leNat ((c.data.win (j - 0x20)).flatMap (fun x => leBytes 4 (toTwos 32 x))))
  else if 0x40 ≤ j && j < 0xC0 then
    some (if on then tok (2 * (j - 0x40)) + tok (2 * (j - 0x40) + 1) * 2 ^ 16 else 0)
  else if 0xC0 ≤ j then
    some (if on then s.credits c.ctx owner (2 * (j - 0xC0)) + s.credits c.ctx owner (2 * (j - 0xC0) + 1) * 2 ^ 16 else 0)
  else none

/-- Objects of 9000h + e (R88). -/
def State.engineView (s : State) (e j : Nat) : Option Nat :=
  let tile := fun t => s.tile (e / 4) (tileKey (e % 4) t)
  if j = 1 then some (s.engState e)
  else if 0x10 ≤ j && j < 0x18 then some (tile (j - 0x10)).flagsWord
  else if 0x18 ≤ j then some (tile (j - 0x18)).hash
  else none

/-! ### Segment channels, sessions (R340, R349) -/

/-- Channel k. -/
def State.seg (s : State) (k : Nat) : Seg := Tab.get {} s.segs k

/-- Byte o of an open channel: of the buffer, or of the dump read in place while it stays as it was opened (R340). -/
def State.segByte (s : State) (g : Seg) (o : Nat) : Nat :=
  if g.mode = 0 || g.len ≤ o then 0
  else match g.place with
    | none => g.buf.getD o 0
    | some p =>
      let d := s.dump (p % 2)
      if d.st = .ready && d.seq = p / 2 then d.data.rd o else 0

/-- Objects of 1200h + k (R341). -/
def State.segView (s : State) (k j : Nat) : Option Nat :=
  let g := s.seg k
  let o := s.obj (okey (0x1200 + k) 5)
  if j = 4 then some g.len
  else if j = 6 then some g.mode
  else if 0x40 ≤ j then some (leNat ((List.range 4).map (fun b => s.segByte g (o + 4 * (j - 0x40) + b))))
  else none

/-- A BDP session; number 16 counts the notifications (R349, R351). -/
def State.session (s : State) (n : Nat) : Session := Tab.get {} s.sess n

/-! ### Any object -/

/-- The value of an object that shows other state; none where the object holds its own value. -/
def State.view (s : State) (path ck i : Nat) : Option Nat :=
  let b := ck / 256
  let j := ck % 256
  if j = 0 then some (topSub b)
  else match b with
    | 0x1200 => s.segView i j
    | 0x1300 => if 0x20 ≤ j then some (s.session (j - 0x20)).floor else none
    | 0x2000 =>
      if j = 5 then some (s.ctxStateWord i)
      else if j = 9 then some (leNat ((List.range 128).map (fun t => Tab.get 0 (s.ctx i).placeMap t)))
      else none
    | 0x2200 => s.servView i j
    | 0x2800 => s.descView path i j
    | 0x8000 => s.coreView i j
    | 0x9000 => s.engineView i j
    | _ =>
      ((((s.tierView path ck i).or (s.planerView path ck i)).or (s.linkView path ck i)).or (s.healthView path ck i)).or
        (s.trustView ck i)

/-- The value of an existing object on a path: WO objects read zero (R16), the others show state or hold their value (R335,
R336). -/
def State.valueOf (s : State) (path k : Nat) (c : Card) : Nat :=
  let ck := cardKey k
  if c.acc = .wo then 0
  else match s.view path ck (instOf k) with
    | some v => v % c.ty.bound
    | none => if perPath ck then s.pobj path k else s.obj k

/-- The length of an object in bytes as SEG_LEN gives it (R340). -/
def State.lengthOf (s : State) (path k : Nat) (c : Card) : Nat :=
  if k = 0x540004 then (s.blazeSel path).length
  else if k = 0x570005 then (s.valueOf path 0x570004 { lo := 4, hi := 4, acc := .ro, ty := .u32 })
  else c.ty.bytes

end Sys2Proof.Machine
end

