-- ==== Sys2Proof/Machine/Dict.lean ====
section
/-!
DEFINITION. Writes and reads of dictionary objects (R331 to R336), the BAR0 window (R337 to R339) and the segment channels (R340,
R341).
-/

namespace Sys2Proof.Machine

/-! ### Which values an object takes (R333) -/

/-- RANGE outside lo to hi (R347). -/
def inRange (lo hi v : Nat) : Option Nat := if lo ≤ v && v ≤ hi then none else some 3

/-- RANGE unless a value is a tier byte address aligned to 64 B. -/
def tierAddr (v : Nat) : Option Nat := if v % 64 = 0 && v < 2 ^ 46 then none else some 3

/-- RANGE unless a value is an MSI-X vector or FFh. -/
def vector (v : Nat) : Option Nat := if v ≤ 63 || v = 0xFF then none else some 3

/-- RESERVED where reserved bits are not zero, else what another check gives. -/
def reservedThen (x : Nat) (r : Option Nat) : Option Nat := if x ≠ 0 then some 4 else r

/-- Instances that a group of a digital pin's selection has (R388). -/
def digitalCount : Nat → Nat
  | 0 => 1 | 1 => 6 | 2 => 29 | 3 => 0x95 | 4 => 0x95 | 5 => 512 | 6 => 3 | _ => 0

/-- Instances that a group of an analogue pin's selection has (R388). -/
def analogueCount : Nat → Nat
  | 0 => 1 | 1 => 11 | 2 => 80 | _ => 0

/-- RESERVED for a selection that R388 does not list. -/
def pinSelect (count : Nat → Nat) (v : Nat) : Option Nat := if v % 4096 < count (v / 4096) then none else some 4

/-- CHECK_RATE: 0 or a power of two from 16 to 4,096 (R299). -/
def checkRate (v : Nat) : Option Nat := if [0, 16, 32, 64, 128, 256, 512, 1024, 2048, 4096].contains v then none else some 3

/-- FINDING_ACTION: no reserved action code, JUMP 1 to 64, reserved bits zero (R295, R310). -/
def findingAction (v : Nat) : Option Nat :=
  if bits v 31 30 = 3 || bits v 29 28 = 3 || bits v 27 26 = 3 || bits v 25 24 = 3 then some 4
  else reservedThen (bits v 15 0) (inRange 1 64 (bits v 23 16))

/-- Why a value of an object that it holds itself is refused, by card key: the ranges, reserved fields and encodings of the
cards (R333). -/
def valueBad (ck v : Nat) : Option Nat :=
  match ck with
  | 0x110001 => inRange 0 63 v
  | 0x120001 => reservedThen (v % 256) none
  | 0x120005 => if v % 256 = 0 then none else some 3
  | 0x130002 => inRange 0 1 v
  | 0x130005 => inRange 1 128 v
  | 0x13000F => inRange 1 65535 v
  | 0x130010 => reservedThen (v / 16) none
  | 0x148104 => if v % 1024 = 0 then none else some 3
  | 0x200001 => tierAddr v
  | 0x200002 => inRange 160 67108864 v
  | 0x200006 => inRange 0 7 v
  | 0x200007 => inRange 40000 400000000 v
  | 0x200008 => vector v
  | 0x280001 => inRange 0 4095 v
  | 0x280007 => tierAddr v
  | 0x280008 => inRange 0 33554432 v
  | 0x301001 => inRange 0 1048575 v
  | 0x301004 => reservedThen (v % 2 ^ 15) none
  | 0x301101 => inRange 64 6143 v
  | 0x310003 => inRange 0 1048576 v
  | 0x32800A => inRange 0 63 v
  | 0x329001 => inRange 0 2047 v
  | 0x360001 => inRange 0 63 v
  | 0x400001 => inRange 0 1048575 v
  | 0x400004 => inRange 1 8 v
  | 0x400005 => inRange 1 12 v
  | 0x400006 => inRange 16 1024 v
  | 0x410008 => inRange 0 16383 v
  | 0x420001 => inRange 0 63 v
  | 0x500007 => vector v
  | 0x501001 => checkRate v
  | 0x501002 => inRange 1 15 v
  | 0x510005 => findingAction v
  | 0x51000E => tierAddr v
  | 0x550001 => tierAddr v
  | 0x550002 => inRange 0 63 v
  | 0x560002 => inRange 125000 25000000 v
  | 0x560009 => vector v
  | 0x570002 => inRange 0 1 v
  | 0x590001 => inRange 0 63 v
  | 0x590005 => inRange 0 7 v
  | 0x600004 => reservedThen (v / 4) none
  | 0x600007 => inRange 2000 200000000 v
  | 0x630003 => inRange 800 1050 v
  | 0x648002 => inRange 1 168 v
  | 0x648004 => inRange 0 16 v
  | 0x660001 => inRange 1 72 v
  | _ =>
    if 0x700010 ≤ ck && ck < 0x700020 then pinSelect digitalCount v
    else if ck = 0x700020 || ck = 0x700021 then pinSelect analogueCount v
    else none

/-- STATE where the rule on a card forbids a write in the present state: FABRIC_ID while a plane is not DISABLED (R214),
SEG_TARGET while its channel is open (R341). -/
def State.stateBad (s : State) (k : Nat) : Option Nat :=
  if k = 0x400001 && (List.range 16).any (fun p => (s.link p).st ≠ .disabled) then some 8
  else if cardKey k = 0x120001 && (s.seg (instOf k)).mode ≠ 0 then some 8
  else none

/-! ### Objects whose writes do more (R149, R219, R336, R348) -/

/-- A write of STOP_STEP: STEPMARKs stop at the new step from now on (R219). -/
def stopStepWrite (s : State) (path ctx v : Nat) : State :=
  let k := okey (0x2100 + ctx) 9
  s.onWrite path k none (fun s => (s.setObj k v).restCheck ctx)

/-- A write of HOSTWIN_ADDR: refused while a mapped region names the window, TIER_RESULT reading 3h (R149, R174). -/
def hostwinAddrWrite (s : State) (path v : Nat) : State :=
  let k := okey 0x3020 2
  let used := s.windowUsed (s.pobj path (okey 0x3020 1))
  s.onWrite path k (if bits v 11 1 ≠ 0 then some 4 else none) (fun s =>
    let s1 := hostwinWrite s path v
    if used then s1.dictRefuse path k 8 else s1)

/-- A write of MGMT_KEY: KEY_STATE, every session's floor 0 and cache empty, the sessions' per-path objects at their defaults
(R336, R348). -/
def mgmtKeyWrite (s : State) (path key : Nat) : State :=
  s.onWrite path 0x130007 (if path = 0 then none else some 6) (fun s =>
    let s1 := (s.setObj 0x130007 (key % 2 ^ 256)).setObj 0x130008 (b2n (key % 2 ^ 256 ≠ 0))
    { s1 with
      sess := s1.sess.filter (fun e => 16 ≤ e.1)
      pobjs := s1.pobjs.filter (fun e => e.1 / 2 ^ 24 = 0 || 17 ≤ e.1 / 2 ^ 24) })

/-- A write of ALLOC_SEL shows the allocation (R336). -/
def allocSelWrite (s : State) (path ctx v : Nat) : State :=
  s.onWrite path (okey (0x3100 + ctx) 1) none (fun s => (s.setPobj path (okey (0x3100 + ctx) 1) v).showAlloc path ctx)

/-! ### Segment channels (R340, R341) -/

/-- The index of channel k. -/
def segIdx (k : Nat) : Nat := 0x1200 + k

/-- Changes a channel. -/
def State.setSeg (s : State) (k : Nat) (g : Seg) : State := { s with segs := Tab.put {} s.segs k g }

/-- SEG_CMD ends with a result: it reads 2, or 3 when the action was refused (R340, R341). -/
def State.segEnd (s : State) (k r : Nat) : State :=
  (s.setObj (okey (segIdx k) 3) r).setObj (okey (segIdx k) 2) (if r = 0 || r = 6 then 2 else 3)

/-- The object that SEG_TARGET names, with its card, where its index is served (R341, R362; log entry 77). -/
def State.segTarget (s : State) (k : Nat) : Nat × Option Card :=
  let t := s.obj (okey (segIdx k) 1) / 256
  (t, if s.access 0 (t / 256) ≠ 0 then none else cardOf (t / 256) (t % 256))

/-- What reading an object does beside returning its value: it marks a fault or blaze record read, or counts a read of RES_WORD
(R267, R291, R308, R335). -/
def State.readEffect (s : State) (path k : Nat) : State :=
  if k = 0x500003 then faultRecordRead s path
  else if k = 0x540004 then
    { s with faults := { s.faults with blazes := s.faults.blazes.map (fun b =>
      if b.seq = s.pobj path 0x540002 && b.signed then { b with read := true } else b) } }
  else if cardKey k = 0x240001 then resWordRead s path (instOf k)
  else s

/-- SEG_CMD 1 OPEN_READ: a copy of the value, or DUMP_DATA in place (R340). -/
def segOpenRead (s : State) (path k : Nat) : State :=
  s.onCmd path (okey (segIdx k) 2) (fun s =>
    if (s.seg k).mode ≠ 0 then s.dictRefuse path (okey (segIdx k) 2) 5
    else match s.segTarget k with
      | (_, none) => s.segEnd k 1
      | (t, some c) =>
        if !c.ty.wide then s.segEnd k 2
        else if c.acc = .wo then s.segEnd k 4
        else
          let n := s.lengthOf 0 t c
          let i := s.pobj 0 (okey 0x5700 2)
          let g : Seg :=
            if 16384 < c.ty.bytes then { mode := 1, target := t, len := n, place := some ((s.dump i).seq * 2 + i) }
            else { mode := 1, target := t, len := n, buf := leBytes n (s.valueOf 0 t c) }
          ((s.readEffect 0 t).setSeg k g).segEnd k 0)

/-- SEG_CMD 2 OPEN_WRITE of an object of any width that is not RO: a buffer of zeros (R340, R341; log entry 109). -/
def segOpenWrite (s : State) (path k : Nat) : State :=
  s.onCmd path (okey (segIdx k) 2) (fun s =>
    if (s.seg k).mode ≠ 0 then s.dictRefuse path (okey (segIdx k) 2) 5
    else match s.segTarget k with
      | (_, none) => s.segEnd k 1
      | (t, some c) =>
        if c.acc = .ro then s.segEnd k 3
        else (s.setSeg k { mode := 2, target := t, len := c.ty.size, buf := List.replicate c.ty.size 0 }).segEnd k 0)

/-- SEG_CMD 4 CLOSE: CHANGED where the dump read in place has left READY (R340). -/
def segClose (s : State) (path k : Nat) : State :=
  s.onCmd path (okey (segIdx k) 2) (fun s =>
    let g := s.seg k
    if g.mode = 0 then s.setObj (okey (segIdx k) 2) 2
    else
      let changed : Bool := match g.place with
        | none => false
        | some p => !((s.dump (p % 2)).st = .ready && (s.dump (p % 2)).seq = p / 2)
      (s.setSeg k {}).segEnd k (if changed = true then 6 else 0))

/-- A write of window slot w of channel k (R340). -/
def segWindowWrite (s : State) (path k w v : Nat) : State :=
  let g := s.seg k
  let o := s.obj (okey (segIdx k) 5) + 4 * w
  let bad := if g.mode ≠ 2 then some 8 else if g.len ≤ o then some 7 else none
  s.onWrite path (okey (segIdx k) (0x40 + w)) bad (fun s =>
    let put := fun (b : List Nat) (j : Nat) => b.set (o + j) (v / 256 ^ j % 256)
    s.setSeg k { g with buf := (List.range 4).foldl put g.buf })

/-! ### One write (R333, R334) -/

/-- The action that a value of a CMD object names, by card key and instance; none where it names no action (R334). COMMIT is
done where it can write an object. -/
def cmdAction (path k ck i v : Nat) : Option (State → State) :=
  match ck, v with
  | 0x120002, 1 => some (fun s => segOpenRead s path i)
  | 0x120002, 2 => some (fun s => segOpenWrite s path i)
  | 0x120002, 4 => some (fun s => segClose s path i)
  | 0x141002, 1 => some (fun s => attCmd s path)
  | 0x148101, 1 => some (fun s => fwBegin s path)
  | 0x148101, 2 => some (fun s => fwVerify s path)
  | 0x148101, 3 => some (fun s => fwAbort s path)
  | 0x148101, 4 => some (fun s => fwConfirm s path)
  | 0x148101, 5 => some (fun s => fwSwitch s path)
  | 0x200003, 1 => some (fun s => planLoad s path i)
  | 0x200003, 2 => some (fun s => unload s path i)
  | 0x200003, 3 => some (fun s => resumePlan s path i)
  | 0x200003, 4 => some (fun s => preempt s path i)
  | 0x200003, 5 => some (fun s => cancelPreempt s path i)
  | 0x200003, 6 => some (fun s => clearPlacement s path i)
  | 0x20001F, 1 => some (fun s => tallyClear s path i)
  | 0x220004, 1 => some (fun s => weightLoad s path i)
  | 0x220004, 2 => some (fun s => weightSwitch s path i)
  | 0x220004, 3 => some (fun s => weightRevert s path i)
  | 0x220008, 1 => some (fun s => batchSubmit s path i)
  | 0x280003, 1 => some (fun s => s.onCmd path k (fun s => descCreate s path i))
  | 0x280009, 1 => some (fun s => s.onCmd path k (fun s => c6Flush s i))
  | 0x301005, 1 => some (fun s => s.onCmd path k (fun s => mapRegion s path))
  | 0x301005, 2 => some (fun s => s.onCmd path k (fun s => unmapRegion s path))
  | 0x301005, 3 => some (fun s => s.onCmd path k (fun s => trimRegion s path))
  | 0x301005, 4 => some (fun s => s.onCmd path k (fun s => discardRegion s path))
  | 0x310004, 1 => some (fun s => s.onCmd path k (fun s => allocGrant s path i))
  | 0x310004, 2 => some (fun s => s.onCmd path k (fun s => allocRelease s path i))
  | 0x32C003, 1 => some (fun s => setStep s path i)
  | 0x32C003, 2 => some (fun s => rollForward s path i)
  | 0x32C003, 3 => some (fun s => emitStep s path i)
  | 0x32C003, 4 => some (fun s => snapshotStep s path i)
  | 0x32C003, 5 => some (fun s => restoreStep s path i)
  | 0x34000B, 1 => some (fun s => s.onCmd path k (fun s => flashScrubNow s i))
  | 0x401002, 1 => some (fun s => linkTrain s path i)
  | 0x401002, 2 => some (fun s => linkDisable s path i)
  | 0x401002, 3 => some (fun s => linkRetrain s path i)
  | 0x402002, 1 => some (fun s => linkTrain s path (16 + i))
  | 0x402002, 2 => some (fun s => linkDisable s path (16 + i))
  | 0x402002, 3 => some (fun s => linkRetrain s path (16 + i))
  | 0x410006, 1 => some (fun s => epochCmd onEpoch s path i)
  | 0x51000F, 1 => some (fun s => scalerExport s path i)
  | 0x51000F, 2 => some (fun s => scalerImport s path i)
  | 0x550003, 1 => some (fun s => xchkExport s path)
  | 0x550003, 2 => some (fun s => xchkRun s path)
  | 0x570001, 1 => some (fun s => dumpCmd s path 1)
  | 0x570006, 1 => some (fun s => dumpRelease s path 1)
  | 0x590002, 1 => some (fun s => replayStart s path)
  | 0x590002, 2 => some (fun s => replayEnd s path)
  | 0x600002, 1 => some (fun s => powerCmdRun s path)
  | 0x600002, 2 => some (fun s => powerEntry s path 2)
  | 0x600002, 3 => some (fun s => powerEntry s path 3)
  | 0x648001, 1 => some (fun s => cruiseCmd s path)
  | 0x700004, 1 => some (fun s => probeEnable s path)
  | 0x700004, 2 => some (fun s => probeDisable s path)
  | 0x701001, 1 => some (fun s => selftest s path)
  | _, _ =>
    if ck = 0x280005 && v ≤ 4095 then some (fun s => s.onWrite path k none (fun s => descDestroy s i v))
    else if ck = 0x301103 && 64 ≤ v && v < 128 then some (fun s => s.onCmd path k (fun s => frameToPool s path (v - 64)))
    else if ck = 0x301103 && v = 0xFF then some (fun s => s.onCmd path k (fun s => frameToFree s path))
    else if ck = 0x580002 then some (fun s => fbRequest s path v)
    else none

/-- A write to a CMD object other than COMMIT: its action, or RANGE (R334). -/
def State.cmdWrite (s : State) (path k v : Nat) : State :=
  match cmdAction path k (cardKey k) (instOf k) v with
  | some act => act s
  | none => s.onCmd path k (fun s => s.dictRefuse path k 3)

/-- A write to an object that holds a value: the objects with a rule of their own, else the checks of the card (R333). -/
def State.plainWrite (s : State) (path k v : Nat) : State :=
  let ck := cardKey k
  let i := instOf k
  match ck with
  | 0x130007 => mgmtKeyWrite s path v
  | 0x148105 => fwChunkWrite s path v
  | 0x210009 => stopStepWrite s path i v
  | 0x240006 => resAck s path i v
  | 0x302002 => hostwinAddrWrite s path v
  | 0x310001 => allocSelWrite s path i v
  | 0x410007 => selfWrite s path i v
  | 0x410009 => memberEntryWrite s path i v
  | 0x51000A => scalerWindowWrite s path i v
  | _ =>
    if 0x120040 ≤ ck && ck < 0x120080 then segWindowWrite s path i (ck - 0x120040) v
    else match (s.stateBad k).or (valueBad ck v) with
      | some r => s.dictRefuse path k r
      | none => if perPath ck then s.setPobj path k v else s.setObj k v

/-- One write of value v to an object on a path, COMMIT of a channel apart (R331 to R334). -/
def dictWrite (s : State) (path k v : Nat) : State :=
  if s.access path (k / 256) ≠ 0 then s.unserved path (k / 256)
  else match cardOf (k / 256) (k % 256) with
    | none => s.dictRefuse path k 1
    | some c =>
      if c.acc = .ro then s.dictRefuse path k 2
      else if path ≠ 0 && (k = 0x130001 || k = 0x130007) then s.dictRefuse path k 6
      else if c.ty.bound ≤ v then s.dictRefuse path k 3
      else match c.acc with
        | .cmd => s.cmdWrite path k v
        | .w1c => if v = 0 then s else w1cFlagClear s path k none
        | _ => s.plainWrite path k v

/-- The reason with which a write was refused, from the states before and after it: DICT_REFUSALS counts each refusal (R333). -/
def refusedIn (before after : State) : Option Nat :=
  if before.obj 0x121005 = after.obj 0x121005 then none else some (after.obj 0x121004 / 2 ^ 60)

/-- SEG_CMD 3 COMMIT: the buffer as one write on path 0 (R340). -/
def segCommit (s : State) (path k : Nat) : State :=
  s.onCmd path (okey (segIdx k) 2) (fun s =>
    let g := s.seg k
    if g.mode ≠ 2 then s.segEnd k 7
    else if s.access 0 (g.target / 256) ≠ 0 then s.segEnd k 1
    else
      let s1 := dictWrite s 0 g.target (leNat (g.buf.take g.len))
      s1.segEnd k (if (refusedIn s s1).isSome then 5 else 0))

/-- REGISTER_WRITE: one write of any object on a path; 64-bit and BLOB values whole (R333, R336). -/
def registerWrite (s : State) (path k v : Nat) : State :=
  if cardKey k = 0x120002 && v = 3 && s.access path (k / 256) = 0 then segCommit s path (instOf k) else dictWrite s path k v

/-! ### The BAR0 window (R337 to R339) -/

/-- Whether the endpoint answers BAR0 requests: a stage after the boot ROM, input power, REFCLK, no PERST# (R361, R374). -/
def State.pcieUp (s : State) : Bool := s.access 0 0x1000 ≠ 0xFF

/-- A BAR0 read of a slot: low 32 bits or first four bytes; a 64-bit slot latches its high word into DICT_HI; unused and unserved
slots read zero (R331, R332, R335, R339, R352, R362, R375). -/
def slotRead (s : State) (k : Nat) : Nat × State :=
  if s.access 0 (k / 256) ≠ 0 then (0, s.unserved 0 (k / 256))
  else match cardOf (k / 256) (k % 256) with
    | none => (0, s)
    | some c =>
      let v := s.valueOf 0 k c
      let s1 := s.readEffect 0 k
      (v % 2 ^ 32, if c.ty = .u64 then s1.setPobj 0 0x121001 (v / 2 ^ 32 % 2 ^ 32) else s1)

/-- The four byte-enable bits of DW j of a request. -/
def dwEnables (be j : Nat) : Nat := be / 16 ^ j % 16

/-- Serves the DWs of a read in ascending address order; the bytes selected by the enables go into the completion (R337). -/
def readDws (s : State) (k be : Nat) : Nat → List Nat × State
  | 0 => ([], s)
  | n + 1 =>
    let r := readDws s k be n
    let e := dwEnables be n
    if e = 0 then r
    else
      let v := slotRead r.2 (k + n)
      (r.1 ++ ((List.range 4).filter (fun b => bit e b)).map (fun b => v.1 / 256 ^ b % 256), v.2)

/-- A completion for the host (R337). -/
def State.completion (s : State) (status : Nat) (bs : List Nat) : State := { s with out := s.out ++ [.completion status bs] }

/-- BAR0_READ_REQUEST of `dws` DWs from byte offset `off`; more than 16 DWs, a locked or atomic-operation request and any
request in D3hot complete with Unsupported Request, 1 (R337, R397). -/
def bar0Read (s : State) (off dws be : Nat) (locked : Bool) : State :=
  if !s.pcieUp then s
  else if s.d3hot || locked || 16 < dws then s.completion 1 []
  else
    let r := readDws s (off / 4) be dws
    r.2.completion 0 r.1

/-- A BAR0 write of one slot with byte enables (R332, R337, R339). -/
def slotWrite (s : State) (k e v : Nat) : State :=
  if e = 0 then s
  else if s.access 0 (k / 256) ≠ 0 then s.unserved 0 (k / 256)
  else if e ≠ 15 then s.dictRefuse 0 k 7
  else match cardOf (k / 256) (k % 256) with
    | none => s.dictRefuse 0 k 1
    | some c =>
      if c.ty = .u64 then registerWrite s 0 k (s.pobj 0 0x121001 * 2 ^ 32 + v % 2 ^ 32)
      else if c.ty.wide then s.dictRefuse 0 k (if c.acc = .ro then 2 else 7)
      else registerWrite s 0 k (v % 2 ^ 32)

/-- The slot writes of a request in ascending address order. -/
def writeDws (s : State) (k be : Nat) (data : List Nat) : State :=
  (data.mapIdx (fun j v => (j, v))).foldl (fun t e => slotWrite t (k + e.1) (dwEnables be e.1) e.2) s

/-- BAR0_WRITE_REQUEST (R337): poisoned, or in D3hot, it is discarded; more than 16 DWs are refused once with LENGTH. -/
def bar0Write (s : State) (off be : Nat) (data : List Nat) (poisoned : Bool) : State :=
  let k := off / 4
  if !s.pcieUp || s.d3hot || poisoned then s
  else if 16 < data.length then
    (if s.access 0 (k / 256) ≠ 0 then s.unserved 0 (k / 256) else s.dictRefuse 0 k 7)
  else writeDws s k be data

/-- U64_SLOT_READ: a BAR0 read of one 64-bit slot (R339). -/
def u64SlotRead (s : State) (k : Nat) : State :=
  match cardOf (k / 256) (k % 256) with
  | some c => if c.ty = .u64 then bar0Read s (4 * k) 1 15 false else s
  | none => s

end Sys2Proof.Machine
end

