-- ==== Sys2Proof/Machine/Bdp.lean ====
section
/-!
DEFINITION. The Boryo dictionary protocol (R344 to R352): messages, operations, sessions, the queue, notifications; and the data
objects of PCIe DOE, which carry one operation (R382).
-/

namespace Sys2Proof.Machine

/-! ### Operations (R346, R347) -/

/-- The little-endian number of n bytes at an offset. -/
def leAt (bs : List Nat) (o n : Nat) : Nat := leNat ((bs.drop o).take n)

/-- One operation of a request (R346). -/
structure BdpOp where
  op   : Nat
  sub  : Nat
  idx  : Nat
  len  : Nat
  rsv  : Nat
  off  : Nat
  data : List Nat
  deriving DecidableEq, Repr

/-- The operation at the head of a body and the rest; a WRITE's data is padded to a multiple of 4 B (R344, R346). -/
def takeOp (bs : List Nat) : Option (BdpOp × List Nat) :=
  let n := if bs.headD 0 = 2 then leAt bs 4 2 else 0
  let total := 12 + 4 * ceilDiv n 4
  if bs.length < 12 || bs.length < total then none
  else
    some ({ op := bs.headD 0, sub := leAt bs 1 1, idx := leAt bs 2 2, len := leAt bs 4 2, rsv := leAt bs 6 2
            off := leAt bs 8 4, data := (bs.drop 12).take n }, bs.drop total)

/-- The n operations that fill a body exactly. -/
def parseOps : Nat → List Nat → Option (List BdpOp)
  | 0, bs => if bs = [] then some [] else none
  | n + 1, bs =>
    match takeOp bs with
    | none => none
    | some (o, t) => (parseOps n t).map (fun l => o :: l)

/-- What an operation answers: STATUS, total length of the object, data, and the state after it. -/
structure OpResult where
  status : Nat
  total  : Nat
  data   : List Nat
  state  : State

/-- The key of an operation's object. -/
def BdpOp.key (o : BdpOp) : Nat := okey o.idx o.sub

/-- The total length of an operation's object, whatever its STATUS; 0 for an unused object (R346; log entry 79). -/
def State.opTotal (s : State) (path : Nat) (o : BdpOp) : Nat :=
  match cardOf o.idx o.sub with
  | none => 0
  | some c => s.lengthOf path o.key c

/-- An operation that ends with a STATUS and moves nothing. -/
def State.opEnd (s : State) (path : Nat) (o : BdpOp) (status : Nat) (t : State) : OpResult :=
  { status := status, total := s.opTotal path o, data := [], state := t }

/-- An operation on an index that is not served: ASLEEP, with a wake where the path is authenticated, or RESETTING (R347, R352,
R362). -/
def State.opUnserved (s : State) (path : Nat) (auth : Bool) (o : BdpOp) : OpResult :=
  s.opEnd path o (s.access path o.idx) (if auth then s.unserved path o.idx else s)

/-- A READ of at most `most` bytes (R346). -/
def State.readOp (s : State) (path most : Nat) (auth allowed : Bool) (o : BdpOp) : OpResult :=
  if !allowed then s.opEnd path o 6 s
  else if s.access path o.idx ≠ 0 then s.opUnserved path auth o
  else match cardOf o.idx o.sub with
    | none => s.opEnd path o 1 s
    | some c =>
      let n := s.lengthOf path o.key c
      if n < o.off then s.opEnd path o 7 s
      else
        let want := if o.len = 0 then most else min o.len most
        { status := 0, total := n, data := ((leBytes n (s.valueOf path o.key c)).drop o.off).take want
          state := s.readEffect path o.key }

/-- A WRITE of a whole object; each failure but ASLEEP and RESETTING is a refused write (R333, R346, R347). -/
def State.writeOp (s : State) (path : Nat) (auth allowed : Bool) (o : BdpOp) : OpResult :=
  let fail := fun (r : Nat) => s.opEnd path o r (s.dictRefuse path o.key r)
  if !allowed then fail 6
  else if s.access path o.idx ≠ 0 then s.opUnserved path auth o
  else match cardOf o.idx o.sub with
    | none => fail 1
    | some c =>
      if c.acc = .ro then fail 2
      else if o.key = 0x130001 || o.key = 0x130007 then fail 6
      else if o.len ≠ c.ty.bytes || o.off ≠ 0 then fail 7
      else
        let s1 := registerWrite s path o.key (leNat o.data)
        s.opEnd path o ((refusedIn s s1).getD 0) s1

/-- The bytes of an operation in a response (R346). -/
def BdpOp.answer (o : BdpOp) (status total : Nat) (data : List Nat) : List Nat :=
  [o.op, o.sub] ++ leBytes 2 o.idx ++ leBytes 2 data.length ++ [status, 0] ++ leBytes 4 total ++ data
    ++ List.replicate (4 * ceilDiv data.length 4 - data.length) 0

/-! ### Messages (R344, R348) -/

/-- Whether the management key is set (R348). -/
def State.keySet (s : State) : Bool := s.obj 0x130008 = 1

/-- The tag of a message: the first 16 bytes of HMAC-SHA-256 under MGMT_KEY; zeros while no key is set (R348). -/
def State.bdpTag (s : State) (bs : List Nat) : Nat :=
  if s.keySet then leNat ((hmac256 (leBytes 32 (s.obj 0x130007)) bs).take 16) else 0

/-- A message header (R344). -/
def bdpHeader (type sess flags seq nops len status : Nat) : List Nat :=
  [1, type, sess, flags] ++ leBytes 8 seq ++ leBytes 2 nops ++ leBytes 2 len ++ [status] ++ List.replicate 7 0

/-- A message with its tag. -/
def State.tagged (s : State) (bs : List Nat) : List Nat := bs ++ leBytes 16 (s.bdpTag bs)

/-! ### Datagrams sent (R343) -/

/-- MAC_ADDRESS, first byte first. -/
def State.mac (s : State) : List Nat := beBytes 6 (s.obj 0x100007)

/-- The link-local address: fe80::/64 with the modified EUI-64 of the MAC address (R343). -/
def State.linkLocal (s : State) : List Nat :=
  let m := s.mac
  [0xFE, 0x80, 0, 0, 0, 0, 0, 0, m.getD 0 0 ^^^ 2] ++ (m.drop 1).take 2 ++ [0xFF, 0xFE] ++ m.drop 3

/-- The ones' complement sum of a byte string's 16-bit words. -/
def wordSum : List Nat → Nat
  | [] => 0
  | [a] => 256 * a
  | a :: b :: t => 256 * a + b + wordSum t

/-- The checksum of an upper-layer packet with its IPv6 pseudo-header, the packet's own checksum field included: 0 when it is
right. -/
def upperSum (src dst : List Nat) (next : Nat) (p : List Nat) : Nat :=
  let n := wordSum (src ++ dst ++ beBytes 4 p.length ++ [0, 0, 0, next] ++ p)
  let m := n % 65536 + n / 65536
  65535 - (m % 65536 + m / 65536) % 65536

/-- The source address of a datagram to an address: the link-local one to a link-local address or while there is no other, else
IP_ADDR (log entry 110). -/
def State.sourceFor (s : State) (dst : List Nat) : List Nat :=
  if s.obj 0x130004 = 0 || (dst.getD 0 0 = 0xFE && dst.getD 1 0 / 64 = 2) then s.linkLocal else leBytes 16 (s.obj 0x130004)

/-- The IPv6 header of a packet sent: hop limit 64, no extension header (R343). -/
def ipv6Header (src dst : List Nat) (next len : Nat) : List Nat := [0x60, 0, 0, 0] ++ beBytes 2 len ++ [next, 64] ++ src ++ dst

/-- The IPv6 packet that carries a message to an address and port: UDP from port 30911 with its checksum, a sum of zero as FFFFh
(R343; log entry 110). -/
def State.bdpPacket (s : State) (dest : Nat) (bs : List Nat) : List Nat :=
  let dst := leBytes 16 (dest / 65536)
  let src := s.sourceFor dst
  let n := 8 + bs.length
  let ports := beBytes 2 30911 ++ beBytes 2 (dest % 65536) ++ beBytes 2 n
  let sum := upperSum src dst 17 (ports ++ [0, 0] ++ bs)
  ipv6Header src dst 17 n ++ ports ++ beBytes 2 (if sum = 0 then 65535 else sum) ++ bs

/-- Sends a message to an address and port. -/
def State.bdpSend (s : State) (dest : Nat) (bs : List Nat) : State :=
  { s with out := s.out ++ [.bdp dest (s.bdpPacket dest bs)] }

/-- Whether the management port carries frames: the Lookout runs and the link is up (R352, R354). -/
def State.portUp (s : State) : Bool := s.lookoutRuns && s.obj 0x130003 = 1

/-- Changes a session. -/
def State.updSession (s : State) (n : Nat) (f : Session → Session) : State := { s with sess := Tab.update {} s.sess n f }

/-- A floor moves to a SEQ; the non-volatile store takes it when it reaches or passes a multiple of 65,536 (R349). -/
def Session.moveTo (x : Session) (seq : Nat) : Session :=
  { floor := seq, stored := if seq / 65536 = x.floor / 65536 then x.stored else seq, cache := none }

/-- The operations of a request, where its format is good (R344). -/
def requestOps (d : List Nat) : Option (List BdpOp) :=
  let nops := leAt d 12 2
  let len := leAt d 14 2
  if leAt d 3 1 > 1 || leAt d 16 8 ≠ 0 || nops = 0 || 64 < nops || len < 12 || 1192 < len || d.length ≠ 40 + len then none
  else match parseOps nops ((d.drop 24).take len) with
    | none => none
    | some ops => if ops.all (fun o => o.rsv = 0) then some ops else none

/-- A response with MSG_STATUS and a body to a request's sender; the FLAGS bit of a response is not given (R344; log entry
79). -/
def State.respond (s : State) (src sess seq status nops : Nat) (body : List Nat) : List Nat × State :=
  let q := s.fresh
  let bs := q.2.tagged (bdpHeader 2 sess (q.1 % 2) seq nops body.length status ++ body)
  (bs, q.2.bdpSend src bs)

/-- A response that is cached, as long as the session's floor is the request's SEQ (R349). -/
def State.respondCached (s : State) (src sess seq status nops : Nat) (body : List Nat) : State :=
  let r := s.respond src sess seq status nops body
  r.2.updSession sess (fun x => if x.floor = seq then { x with cache := some r.1 } else x)

/-- The request at the head of the queue is done: its response fits in 1,232 B or is BAD_FORMAT (R346, R349, R350). -/
def State.bdpFinish (s : State) (r : BdpReq) : State :=
  let s1 : State := ({ s with bdpQ := s.bdpQ.drop 1 } : State).addObj 0x130009 64 1
  let seq := leAt r.bytes 4 8
  if 1232 < 40 + r.body.length then s1.respondCached r.src r.sess seq 1 0 []
  else s1.respondCached r.src r.sess seq 0 (leAt r.bytes 12 2) r.body

/-- Serves the head of the queue up to its next READ or WRITE: unknown operations answer RANGE, those after a failure with
STOP_ON_ERROR answer SKIPPED, a request without operations left is answered (R346, R347). -/
def State.bdpAdvance (s : State) : Nat → State
  | 0 => s
  | n + 1 =>
    match s.bdpQ with
    | [] => s
    | r :: t =>
      match ((requestOps r.bytes).getD [])[r.next]? with
      | none => (s.bdpFinish r).bdpAdvance n
      | some o =>
        if !r.skip && (o.op = 1 || o.op = 2) then s
        else
          let st := if r.skip then 0x0B else 3
          let r1 : BdpReq := { r with
            next := r.next + 1, body := r.body ++ o.answer st (s.opTotal (1 + r.sess) o) [], skip := r.skip || bit (leAt r.bytes 3 1) 0 }
          ({ s with bdpQ := r1 :: t } : State).bdpAdvance n

/-- Steps that serve whatever the queue can hold without a READ or WRITE: 16 requests of 64 operations. -/
def bdpFuel : Nat := 1040

/-- A BDP message from an address and port (R344, R345, R348 to R350). -/
def bdpReceive (s : State) (d : List Nat) (src : Nat) : State :=
  let sess := leAt d 2 1
  let seq := leAt d 4 8
  let msg := d.take (d.length - 16)
  let x := s.session sess
  if s.obj 0x130001 = 0 || d.length < 40 || leAt d 0 1 ≠ 1 || leAt d 1 1 ≠ 1 || 15 < sess then s.addObj 0x13000A 32 1
  else if leAt d (d.length - 16) 16 ≠ s.bdpTag msg then s.addObj 0x13000B 32 1
  else if seq < x.floor then s.addObj 0x13000C 32 1
  else if seq = x.floor then
    (match x.cache with
     | some bs => s.bdpSend src bs
     | none => s.addObj 0x13000C 32 1)
  else if 16 ≤ s.bdpQ.length then ((s.addObj 0x13000D 32 1).respond src sess seq 2 0 []).2
  else
    let s1 := s.updSession sess (fun x => x.moveTo seq)
    match requestOps d with
    | none => s1.respondCached src sess seq 1 0 []
    | some _ =>
      ({ s1 with bdpQ := s1.bdpQ ++ [{ sess := sess, src := src, bytes := d }] } : State).bdpAdvance bdpFuel

/-- BDP_REQUEST: a datagram reaches the port. -/
def bdpRequest (s : State) (d : List Nat) (src : Nat) : State := if s.portUp then bdpReceive s d src else s

/-- Runs the next operation of the request at the head of the queue, when it is the session's and has the code wanted: while no
key is set a WRITE, and a READ outside 1000h to 14FFh, give NOT_AUTHORISED (R346 to R348). -/
def State.bdpRun (s : State) (sess op : Nat) : State :=
  match s.bdpQ with
  | [] => s
  | r :: t =>
    match ((requestOps r.bytes).getD [])[r.next]? with
    | none => s
    | some o =>
      if r.sess ≠ sess || r.skip || o.op ≠ op || !s.lookoutRuns then s
      else
        let path := 1 + sess
        let a :=
          if op = 1 then s.readOp path 1024 s.keySet (s.keySet || (0x1000 ≤ o.idx && o.idx ≤ 0x14FF)) o
          else s.writeOp path s.keySet s.keySet o
        let r1 : BdpReq := { r with
          next := r.next + 1, body := r.body ++ o.answer a.status a.total a.data
          skip := a.status ≠ 0 && bit (leAt r.bytes 3 1) 0 }
        ({ a.state with bdpQ := r1 :: t } : State).bdpAdvance bdpFuel

/-- BDP_READ: the next operation of a session's request, a READ (R346). -/
def bdpRead (s : State) (sess : Nat) : State := s.bdpRun sess 1

/-- BDP_WRITE: the next operation of a session's request, a WRITE (R346). -/
def bdpWrite (s : State) (sess : Nat) : State := s.bdpRun sess 2

/-! ### Notifications (R351) -/

/-- The event counters that NOTIFY_MASK and NOTIFY_CTX_MASK name, in order (R351). -/
def State.notifyKeys (s : State) : List Nat :=
  let m := s.obj 0x130010
  (if bit m 0 then [0x500006] else []) ++ (if bit m 1 then [0x560008] else []) ++ (if bit m 2 then [0x121003] else [])
    ++ (if bit m 3 then ((List.range 64).filter (bit (s.obj 0x130011))).map (fun i => okey (0x5100 + i) 2) else [])

/-- NOTIFY_SEND: one NOTIFY for every named counter when one has changed since the last NOTIFY; FLAGS and NOPS of a NOTIFY are not
given (R344, R351; log entry 79). -/
def notifySend (s : State) : State :=
  let keys := s.notifyKeys
  if !s.portUp || s.obj 0x13000E = 0 || keys.all (fun k => s.obj k = Tab.get 0 s.notified k) then s
  else
    let q := s.fresh
    let s1 := (q.2.updSession 16 (fun x => x.moveTo (x.floor + 1))).addObj 0x130012 32 1
    let body := keys.flatMap (fun k => leBytes 2 (k / 256) ++ [k % 256, 0] ++ leBytes 4 (s.obj k))
    let bs := s1.tagged (bdpHeader 3 0xFF (q.1 % 2) (s1.session 16).floor (q.1 / 2 % 65536) body.length 0 ++ body)
    let s2 : State := { s1 with notified := keys.foldl (fun t k => Tab.put 0 t k (s.obj k)) s1.notified }
    s2.bdpSend (s.obj 0x13000E * 65536 + s.obj 0x13000F) bs

/-! ### PCIe DOE (R382) -/

/-- A DOE data object: vendor, type, length in DWORDs, payload. -/
def doeObject (vendor type : Nat) (payload : List Nat) : List Nat :=
  leBytes 2 vendor ++ [type, 0] ++ leBytes 4 (2 + ceilDiv payload.length 4) ++ payload

/-- Sends a DOE response. -/
def State.doeSend (s : State) (bs : List Nat) : State := { s with out := s.out ++ [.doe bs] }

/-- DOE_DISCOVERY of an index: the two types of R382 in turn; what an index beyond them answers is not given (log entry 79). -/
def doeDiscovery (s : State) (index : Nat) : State :=
  if !s.lookoutRuns then s
  else if index = 0 then s.doeSend (doeObject 0x0001 0 [0x01, 0x00, 0x00, 0x01])
  else if index = 1 then s.doeSend (doeObject 0x0001 0 [0x3C, 0x1F, 0x01, 0x00])
  else
    let q := s.fresh
    q.2.doeSend (doeObject 0x0001 0 (leBytes 4 q.1))

/-- Whether DOE permits an operation (R382). -/
def doeAllows (o : BdpOp) : Bool :=
  if o.op = 1 then o.idx = 0x1000 || (0x1400 ≤ o.idx && o.idx ≤ 0x14FF)
  else o.op = 2 && o.idx = 0x1410 && (o.sub = 1 || o.sub = 2)

/-- DOE_BDP_OPERATION: one operation on path 17; any but those of R382 answer NOT_AUTHORISED; bytes that are no operation get a
response without payload (R382; log entry 79). -/
def doeBdpOperation (s : State) (d : List Nat) : State :=
  if !s.lookoutRuns then s
  else match takeOp d with
    | none => s.doeSend (doeObject 0x1F3C 1 [])
    | some (o, rest) =>
      if rest ≠ [] || o.rsv ≠ 0 then s.doeSend (doeObject 0x1F3C 1 [])
      else
        let a :=
          if o.op = 2 then s.writeOp 17 true (doeAllows o) o
          else s.readOp 17 8192 true (doeAllows o) o
        a.state.doeSend (doeObject 0x1F3C 1 (o.answer a.status a.total a.data))

end Sys2Proof.Machine
end

