-- ==== Sys2Proof/Machine/Mgmt.lean ====
section
/-!
DEFINITION. Frames on the management port (R343): Ethernet, IPv6, neighbour discovery, echo, and UDP to the BDP port. A frame is
its bytes from the destination address up to, and without, its frame check sequence.
-/

namespace Sys2Proof.Machine

/-- The big-endian number of n bytes at an offset. -/
def beAt (bs : List Nat) (o n : Nat) : Nat := leNat ((bs.drop o).take n).reverse

end Sys2Proof.Machine

namespace Sys2Proof

/-! ### Parts of a frame -/

/-- The IPv6 packet of a frame. -/
def MgmtFrame.packet (f : MgmtFrame) : List Nat := f.bytes.drop 14

/-- Source and destination address of the packet. -/
def MgmtFrame.src (f : MgmtFrame) : List Nat := (f.packet.drop 8).take 16

/-- Destination address of the packet. -/
def MgmtFrame.dst (f : MgmtFrame) : List Nat := (f.packet.drop 24).take 16

/-- The upper-layer packet, as long as the IPv6 header says. -/
def MgmtFrame.upper (f : MgmtFrame) : List Nat := (f.packet.drop 40).take (Machine.beAt f.packet 4 2)

/-- The sender's Ethernet address. -/
def MgmtFrame.fromMac (f : MgmtFrame) : List Nat := (f.bytes.drop 6).take 6

end Sys2Proof

namespace Sys2Proof.Machine

/-! ### Addresses (R343, R353, R354) -/

/-- The module's IPv6 addresses (R343). -/
def State.addresses (s : State) : List (List Nat) :=
  s.linkLocal :: (if s.obj 0x130004 = 0 then [] else [leBytes 16 (s.obj 0x130004)])

/-- The all-nodes multicast address. -/
def allNodes : List Nat := [0xFF, 2, 0, 0, 0, 0, 0, 0, 0, 0, 0, 0, 0, 0, 0, 1]

/-- The solicited-node multicast address of an address. -/
def solicitedNode (a : List Nat) : List Nat := [0xFF, 2, 0, 0, 0, 0, 0, 0, 0, 0, 0, 1, 0xFF] ++ a.drop 13

/-- The Ethernet address of an IPv6 multicast address. -/
def multicastMac (a : List Nat) : List Nat := [0x33, 0x33] ++ a.drop 12

/-- Multicast addresses that the module hears. -/
def State.groups (s : State) : List (List Nat) := allNodes :: s.addresses.map solicitedNode

/-! ### Frames received -/

/-- What a received frame is. -/
inductive MgmtKind where
  | discard | solicit | advert | echo | reply | datagram
  deriving DecidableEq, Repr

/-- Whether a frame is one that R343 lists up to IPv6: untagged, at most 1,518 B with its check sequence, addressed to the module
on both layers, an IPv6 packet without extension headers that is wholly there. -/
def State.hears (s : State) (f : MgmtFrame) : Bool :=
  let mac := f.bytes.take 6
  54 ≤ f.bytes.length && f.bytes.length ≤ 1514 && (mac = s.mac || (s.groups.map multicastMac).contains mac)
    && beAt f.bytes 12 2 = 0x86DD && beAt f.packet 0 1 / 16 = 6 && 40 + beAt f.packet 4 2 ≤ f.packet.length
    && (s.addresses.contains f.dst || s.groups.contains f.dst)

/-- What a frame is to the module (R343). -/
def State.classify (s : State) (f : MgmtFrame) : MgmtKind :=
  let u := f.upper
  let next := beAt f.packet 6 1
  if !s.hears f || upperSum f.src f.dst next u ≠ 0 then .discard
  else if next = 58 then
    (match u.getD 0 0, u.getD 1 0 with
     | 135, 0 => if 24 ≤ u.length && s.addresses.contains ((u.drop 8).take 16) then .solicit else .discard
     | 136, 0 => if 24 ≤ u.length then .advert else .discard
     | 128, 0 => if 8 ≤ u.length then .echo else .discard
     | 129, 0 => if 8 ≤ u.length then .reply else .discard
     | _, _ => .discard)
  else if next = 17 then
    (if 8 ≤ u.length && beAt u 4 2 = u.length && beAt u 6 2 ≠ 0 && beAt u 2 2 = 30911 then .datagram else .discard)
  else .discard

/-! ### Replies -/

/-- Sends an ICMPv6 message, its checksum filled in, hop limit 64 (R343). -/
def State.sendIcmp (s : State) (toMac src dst : List Nat) (type : Nat) (rest : List Nat) : State :=
  let blank := [type, 0, 0, 0] ++ rest
  let sum := upperSum src dst 58 blank
  let frame := toMac ++ s.mac ++ [0x86, 0xDD] ++ ipv6Header src dst 58 blank.length
    ++ [type, 0] ++ beBytes 2 sum ++ rest
  { s with out := s.out ++ [.mgmt frame] }

/-- Answers a Neighbor Solicitation with an Advertisement for its target; one from the unspecified address is answered to all
nodes (R343; log entry 80). -/
def State.advertise (s : State) (f : MgmtFrame) : State :=
  let target := (f.upper.drop 8).take 16
  let body := fun (flags : Nat) => [flags, 0, 0, 0] ++ target ++ [2, 1] ++ s.mac
  if f.src.all (· = 0) then s.sendIcmp (multicastMac allNodes) target allNodes 136 (body 0x20)
  else s.sendIcmp f.fromMac target f.src 136 (body 0x60)

/-- Answers an Echo Request with its own identifier, number and data (R343). -/
def State.echoReply (s : State) (f : MgmtFrame) : State :=
  let src := if s.addresses.contains f.dst then f.dst else s.linkLocal
  s.sendIcmp f.fromMac src f.src 129 (f.upper.drop 4)

/-- NEIGHBOR_SOLICITATION (R343). -/
def neighborSolicitation (s : State) (f : MgmtFrame) : State :=
  if s.portUp && s.classify f = .solicit then s.advertise f else s

/-- ECHO_REQUEST (R343). -/
def echoRequest (s : State) (f : MgmtFrame) : State :=
  if s.portUp && s.classify f = .echo then s.echoReply f else s

/-- MGMT_FRAME_RECEIVE: a frame that R343 supports is handled, every other is discarded and counted. -/
def mgmtFrameReceive (s : State) (f : MgmtFrame) : State :=
  if !s.portUp then s
  else match s.classify f with
    | .discard => s.addObj 0x13000A 32 1
    | .solicit => s.advertise f
    | .advert => s
    | .echo => s.echoReply f
    | .reply => s
    | .datagram => bdpReceive s (f.upper.drop 8) (leNat f.src * 65536 + beAt f.upper 0 2)

end Sys2Proof.Machine
end

