-- ==== Sys2Proof/Machine/Pcie.lean ====
section
/-!
DEFINITION. PCIe link events, MSI-X and completion timeouts (R395 to R397), and the link of the management port (R354).
-/

namespace Sys2Proof.Machine

/-- PCIE_HOT_RESET: configuration space, with it the power state D0, and the MSI-X table return to their defaults (R397). -/
def pcieHotReset (s : State) : State := if s.pcieUp then { s with d3hot := false, msixOpen := [] } else s

/-- D3HOT_ENTRY (R397). -/
def d3hotEntry (s : State) : State := if s.pcieUp then { s with d3hot := true } else s

/-- D3HOT_EXIT: No_Soft_Reset = 1, so nothing else changes (R393, R397). -/
def d3hotExit (s : State) : State := if s.pcieUp then { s with d3hot := false } else s

/-- MSIX_UNMASK of a vector: a pending message is sent (R395). -/
def msixUnmask (s : State) (v : Nat) : State :=
  if !s.pcieUp then s
  else
    let s1 : State := { s with msixOpen := Tab.put false s.msixOpen v true, msixPend := Tab.put false s.msixPend v false }
    if Tab.get false s.msixPend v then { s1 with out := s1.out ++ [.msix v] } else s1

/-- The first access of a MOVE that reads host memory, among its accesses in order. -/
def State.hostRead (s : State) (f : Flight) (b : MoveBody) (sd dd : Desc) : Option Nat :=
  ((moveOrder b sd dd).flatMap (fun e =>
    moveUnits (moveRowAccs b sd dd e.2 (dd.rowValid b.drd e.1 e.2) e.1))).findIdx? (fun e =>
      !e.write && match s.accAddr f.ctx sd dd e with
        | some a => (match s.resolve a with | .host _ => true | _ => false)
        | none => false)

/-- COMPLETION_TIMEOUT: a step that reads host memory fails there with MEM HOST_ACCESS (R150, R396): a STAGE of a HOST region
that runs, a MOVE as it starts (log entry 81). -/
def completionTimeout (s : State) (id : Nat) : State :=
  match s.flight id with
  | none => s
  | some f =>
    if f.op = 0x99 then
      (if (s.region (stepRegion f.w0)).home = .host then stageComplete s id (some 0) else s)
    else if f.op = 0x98 then
      let b := moveBody f.words
      let sd := descOf (f.descs.getD 0 { num := 0, image := 0 }).image
      let dd := descOf (f.descs.getD 1 { num := 0, image := 0 }).image
      (match s.hostRead f b sd dd with
       | some k => s.runMove id (some k)
       | none => s)
    else s

/-- PORT_LINK_UP: PORT_STATE reads 1 (R354). -/
def portLinkUp (s : State) : State := if s.lookoutRuns then s.setObj 0x130003 1 else s

/-- PORT_LINK_DOWN: PORT_STATE reads 0 (R354). -/
def portLinkDown (s : State) : State := if s.lookoutRuns then s.setObj 0x130003 0 else s

end Sys2Proof.Machine
end

