-- ==== Sys2Proof/Machine/ExecDict.lean ====
section
/-!
DEFINITION. The rows of the dictionary, BAR0, segments, the management port, DOE and PCI Express. Each meaning
refuses operands outside the numbering (log entry 10) and is otherwise one operation of the layers below.
-/

namespace Sys2Proof.Machine

/-- REGISTER_WRITE (R333). -/
def execRegisterWrite (path idx sub v : Nat) (s : State) : Host.Outcome State Fault Refusal :=
  need (wellFormed (.registerWrite path idx sub v)) (registerWrite s path (okey idx sub) v)

/-- BAR0_READ_REQUEST (R337). -/
def execBar0ReadRequest (off dws be : Nat) (locked : Bool) (s : State) : Host.Outcome State Fault Refusal :=
  need (wellFormed (.bar0ReadRequest off dws be locked)) (bar0Read s off dws be locked)

/-- BAR0_WRITE_REQUEST (R337). -/
def execBar0WriteRequest (off be : Nat) (data : List Nat) (poisoned : Bool) (s : State) : Host.Outcome State Fault Refusal :=
  need (wellFormed (.bar0WriteRequest off be data poisoned)) (bar0Write s off be data poisoned)

/-- U64_SLOT_READ (R339). -/
def execU64SlotRead (idx sub : Nat) (s : State) : Host.Outcome State Fault Refusal :=
  need (wellFormed (.u64SlotRead idx sub)) (u64SlotRead s (okey idx sub))

/-- SEG_OPEN_READ (R340). -/
def execSegOpenRead (k : Nat) (s : State) : Host.Outcome State Fault Refusal :=
  need (wellFormed (.segOpenRead k)) (segOpenRead s 0 k)

/-- SEG_OPEN_WRITE (R340). -/
def execSegOpenWrite (k : Nat) (s : State) : Host.Outcome State Fault Refusal :=
  need (wellFormed (.segOpenWrite k)) (segOpenWrite s 0 k)

/-- SEG_COMMIT (R340). -/
def execSegCommit (k : Nat) (s : State) : Host.Outcome State Fault Refusal :=
  need (wellFormed (.segCommit k)) (segCommit s 0 k)

/-- SEG_CLOSE (R340). -/
def execSegClose (k : Nat) (s : State) : Host.Outcome State Fault Refusal :=
  need (wellFormed (.segClose k)) (segClose s 0 k)

/-- SEG_WINDOW_WRITE (R340). -/
def execSegWindowWrite (k w v : Nat) (s : State) : Host.Outcome State Fault Refusal :=
  need (wellFormed (.segWindowWrite k w v)) (segWindowWrite s 0 k w v)

/-- MGMT_FRAME_RECEIVE (R343). -/
def execMgmtFrameReceive (f : MgmtFrame) (s : State) : Host.Outcome State Fault Refusal :=
  need (wellFormed (.mgmtFrameReceive f)) (mgmtFrameReceive s f)

/-- NEIGHBOR_SOLICITATION (R343). -/
def execNeighborSolicitation (f : MgmtFrame) (s : State) : Host.Outcome State Fault Refusal :=
  need (wellFormed (.neighborSolicitation f)) (neighborSolicitation s f)

/-- ECHO_REQUEST (R343). -/
def execEchoRequest (f : MgmtFrame) (s : State) : Host.Outcome State Fault Refusal :=
  need (wellFormed (.echoRequest f)) (echoRequest s f)

/-- BDP_REQUEST (R349). -/
def execBdpRequest (d : List Nat) (src : Nat) (s : State) : Host.Outcome State Fault Refusal :=
  need (wellFormed (.bdpRequest d src)) (bdpRequest s d src)

/-- BDP_READ (R346). -/
def execBdpRead (sess : Nat) (s : State) : Host.Outcome State Fault Refusal :=
  need (wellFormed (.bdpRead sess)) (bdpRead s sess)

/-- BDP_WRITE (R346). -/
def execBdpWrite (sess : Nat) (s : State) : Host.Outcome State Fault Refusal :=
  need (wellFormed (.bdpWrite sess)) (bdpWrite s sess)

/-- NOTIFY_SEND (R351). -/
def execNotifySend (s : State) : Host.Outcome State Fault Refusal :=
  need (wellFormed (.notifySend)) (notifySend s)

/-- MGMT_KEY_WRITE (R348). -/
def execMgmtKeyWrite (path : Nat) (key : Nat) (s : State) : Host.Outcome State Fault Refusal :=
  need (wellFormed (.mgmtKeyWrite path key)) (mgmtKeyWrite s path key)

/-- DOE_DISCOVERY (R382). -/
def execDoeDiscovery (index : Nat) (s : State) : Host.Outcome State Fault Refusal :=
  need (wellFormed (.doeDiscovery index)) (doeDiscovery s index)

/-- DOE_BDP_OPERATION (R382). -/
def execDoeBdpOperation (d : List Nat) (s : State) : Host.Outcome State Fault Refusal :=
  need (wellFormed (.doeBdpOperation d)) (doeBdpOperation s d)

/-- PCIE_HOT_RESET (R397). -/
def execPcieHotReset (s : State) : Host.Outcome State Fault Refusal :=
  need (wellFormed (.pcieHotReset)) (pcieHotReset s)

/-- D3HOT_ENTRY (R397). -/
def execD3hotEntry (s : State) : Host.Outcome State Fault Refusal :=
  need (wellFormed (.d3hotEntry)) (d3hotEntry s)

/-- D3HOT_EXIT (R397). -/
def execD3hotExit (s : State) : Host.Outcome State Fault Refusal :=
  need (wellFormed (.d3hotExit)) (d3hotExit s)

/-- MSIX_UNMASK (R395). -/
def execMsixUnmask (v : Nat) (s : State) : Host.Outcome State Fault Refusal :=
  need (wellFormed (.msixUnmask v)) (msixUnmask s v)

/-- COMPLETION_TIMEOUT (R396). -/
def execCompletionTimeout (id : Nat) (s : State) : Host.Outcome State Fault Refusal :=
  need (wellFormed (.completionTimeout id)) (completionTimeout s id)

/-- PORT_LINK_UP (R354). -/
def execPortLinkUp (s : State) : Host.Outcome State Fault Refusal :=
  need (wellFormed (.portLinkUp)) (portLinkUp s)

/-- PORT_LINK_DOWN (R354). -/
def execPortLinkDown (s : State) : Host.Outcome State Fault Refusal :=
  need (wellFormed (.portLinkDown)) (portLinkDown s)

end Sys2Proof.Machine
end

