-- ==== Sys2Proof/Machine/ExecEngine.lean ====
section
/-!
DEFINITION. The matrix engine rows. Each meaning refuses operands outside the numbering (log entry 10) and is
otherwise one operation of the layers below.
-/

namespace Sys2Proof.Machine

/-- MMA (R68). -/
def execMma (m : Moment) (sampled : Bool) (s : State) : Host.Outcome State Fault Refusal :=
  need (wellFormed (.mma m sampled))
    (match m with
     | .dispatch sh => s.dispatchEngine sh 0x10 sampled
     | .start id => startMma s id)

/-- MMA_ROW_ISSUE (R61). -/
def execMmaRowIssue (e : Nat) (s : State) : Host.Outcome State Fault Refusal :=
  need (wellFormed (.mmaRowIssue e)) (mmaRowIssue s e)

/-- PRELOAD (R69). -/
def execPreload (m : Moment) (sampled : Bool) (s : State) : Host.Outcome State Fault Refusal :=
  need (wellFormed (.preload m sampled))
    (match m with
     | .dispatch sh => s.dispatchEngine sh 0x11 sampled
     | .start id => startPreload s id)

/-- DRAIN (R72). -/
def execDrain (m : Moment) (s : State) : Host.Outcome State Fault Refusal :=
  need (wellFormed (.drain m))
    (match m with
     | .dispatch sh => s.dispatchEngine sh 0x12 false
     | .start id => startDrain s id)

/-- TOPK (R74). -/
def execTopk (m : Moment) (s : State) : Host.Outcome State Fault Refusal :=
  need (wellFormed (.topk m))
    (match m with
     | .dispatch sh => s.dispatchEngine sh 0x13 false
     | .start id => startTopk s id)

/-- TILEREL (R75). -/
def execTilerel (m : Moment) (s : State) : Host.Outcome State Fault Refusal :=
  need (wellFormed (.tilerel m))
    (match m with
     | .dispatch sh => s.dispatchEngine sh 0x14 false
     | .start id => startTilerel s id)

/-- CVTSC (R71). -/
def execCvtsc (m : Moment) (s : State) : Host.Outcome State Fault Refusal :=
  need (wellFormed (.cvtsc m))
    (match m with
     | .dispatch sh => s.dispatchEngine sh 0x15 false
     | .start id => startCvtsc s id)

/-- CVTCL (R71). -/
def execCvtcl (m : Moment) (s : State) : Host.Outcome State Fault Refusal :=
  need (wellFormed (.cvtcl m))
    (match m with
     | .dispatch sh => s.dispatchEngine sh 0x16 false
     | .start id => startCvtcl s id)

end Sys2Proof.Machine
end

