-- ==== Sys2Proof/Machine/ExecHealth.lean ====
section
/-!
DEFINITION. The rows of the Scaler, checks, blaze records and fault records. Each meaning refuses operands outside
the numbering (log entry 10) and is otherwise one operation of the layers below.
-/

namespace Sys2Proof.Machine

/-- SCALER_RECORD (R294). -/
def execScalerRecord (s : State) : Host.Outcome State Fault Refusal :=
  need (wellFormed (.scalerRecord)) (scalerRecord s)

/-- SCALER_EXPORT (R298). -/
def execScalerExport (path ctx : Nat) (s : State) : Host.Outcome State Fault Refusal :=
  need (wellFormed (.scalerExport path ctx)) (scalerExport s path ctx)

/-- SCALER_IMPORT (R298). -/
def execScalerImport (path ctx : Nat) (s : State) : Host.Outcome State Fault Refusal :=
  need (wellFormed (.scalerImport path ctx)) (scalerImport s path ctx)

/-- SCALER_WINDOW_WRITE (R310). -/
def execScalerWindowWrite (path ctx v : Nat) (s : State) : Host.Outcome State Fault Refusal :=
  need (wellFormed (.scalerWindowWrite path ctx v)) (scalerWindowWrite s path ctx v)

/-- CHECK_START (R301). -/
def execCheckStart (cap e : Nat) (s : State) : Host.Outcome State Fault Refusal :=
  need (wellFormed (.checkStart cap e)) (checkStart s cap e)

/-- CHECK_COMPLETE (R301). -/
def execCheckComplete (cap flip : Nat) (s : State) : Host.Outcome State Fault Refusal :=
  need (wellFormed (.checkComplete cap flip)) (checkComplete s cap flip)

/-- ARBITRATION_COMPLETE (R302). -/
def execArbitrationComplete (cap e flip : Nat) (s : State) : Host.Outcome State Fault Refusal :=
  need (wellFormed (.arbitrationComplete cap e flip)) (arbitrationComplete s cap e flip)

/-- XCHK_EXPORT (R304). -/
def execXchkExport (path : Nat) (s : State) : Host.Outcome State Fault Refusal :=
  need (wellFormed (.xchkExport path)) (xchkExport s path)

/-- XCHK_RUN (R304). -/
def execXchkRun (path : Nat) (s : State) : Host.Outcome State Fault Refusal :=
  need (wellFormed (.xchkRun path)) (xchkRun s path)

/-- BLAZE_SIGN (R308). -/
def execBlazeSign (s : State) : Host.Outcome State Fault Refusal :=
  need (wellFormed (.blazeSign)) (blazeSign s)

/-- FAULT_RECORD_READ (R335). -/
def execFaultRecordRead (path : Nat) (s : State) : Host.Outcome State Fault Refusal :=
  need (wellFormed (.faultRecordRead path)) (faultRecordRead s path)

/-- W1C_FLAG_CLEAR (R342). -/
def execW1cFlagClear (path idx sub : Nat) (hwSet : Option Nat) (s : State) : Host.Outcome State Fault Refusal :=
  need (wellFormed (.w1cFlagClear path idx sub hwSet)) (w1cFlagClear s path (okey idx sub) hwSet)

end Sys2Proof.Machine
end

