-- ==== Sys2Proof/Machine/ExecLimber.lean ====
section
/-!
DEFINITION. The vector unit rows. Each meaning refuses operands outside the numbering (log entry 10) and is
otherwise one operation of the layers below.
-/

namespace Sys2Proof.Machine

/-- VLD (R104). -/
def execVld (m : Moment) (s : State) : Host.Outcome State Fault Refusal :=
  need (wellFormed (.vld m)) (memoryRow 0x60 doVld s m)

/-- VST (R105). -/
def execVst (m : Moment) (s : State) : Host.Outcome State Fault Refusal :=
  need (wellFormed (.vst m)) (memoryRow 0x61 doVst s m)

/-- VSTAT (R106). -/
def execVstat (m : Moment) (s : State) : Host.Outcome State Fault Refusal :=
  need (wellFormed (.vstat m))
    (match m with
     | .dispatch sh => s.dispatchLimber sh 0x62
     | .start id => startVstat s id)

/-- VIMM (R95). -/
def execVimm (m : Moment) (s : State) : Host.Outcome State Fault Refusal :=
  need (wellFormed (.vimm m)) (limberRow 0x63 doVimm s m)

/-- VSEL (R100). -/
def execVsel (m : Moment) (s : State) : Host.Outcome State Fault Refusal :=
  need (wellFormed (.vsel m)) (limberRow 0x64 doVsel s m)

/-- VADD (R97). -/
def execVadd (m : Moment) (s : State) : Host.Outcome State Fault Refusal :=
  need (wellFormed (.vadd m)) (limberRow 0x68 (lanes2 f32Add) s m)

/-- VSUB (R97). -/
def execVsub (m : Moment) (s : State) : Host.Outcome State Fault Refusal :=
  need (wellFormed (.vsub m)) (limberRow 0x69 (lanes2 f32Sub) s m)

/-- VMUL (R97). -/
def execVmul (m : Moment) (s : State) : Host.Outcome State Fault Refusal :=
  need (wellFormed (.vmul m)) (limberRow 0x6A (lanes2 f32Mul) s m)

/-- VFMA (R97). -/
def execVfma (m : Moment) (s : State) : Host.Outcome State Fault Refusal :=
  need (wellFormed (.vfma m)) (limberRow 0x6B (lanes3 f32Fma) s m)

/-- VFNMA (R97). -/
def execVfnma (m : Moment) (s : State) : Host.Outcome State Fault Refusal :=
  need (wellFormed (.vfnma m)) (limberRow 0x6C (lanes3 f32Fnma) s m)

/-- VMAX (R99). -/
def execVmax (m : Moment) (s : State) : Host.Outcome State Fault Refusal :=
  need (wellFormed (.vmax m)) (limberRow 0x6D (lanes2 f32Max) s m)

/-- VMIN (R99). -/
def execVmin (m : Moment) (s : State) : Host.Outcome State Fault Refusal :=
  need (wellFormed (.vmin m)) (limberRow 0x6E (lanes2 f32Min) s m)

/-- VABS (R97). -/
def execVabs (m : Moment) (s : State) : Host.Outcome State Fault Refusal :=
  need (wellFormed (.vabs m)) (limberRow 0x6F (lanes1 f32Abs) s m)

/-- VNEG (R97). -/
def execVneg (m : Moment) (s : State) : Host.Outcome State Fault Refusal :=
  need (wellFormed (.vneg m)) (limberRow 0x70 (lanes1 f32Neg) s m)

/-- VDIV (R97). -/
def execVdiv (m : Moment) (s : State) : Host.Outcome State Fault Refusal :=
  need (wellFormed (.vdiv m)) (limberRow 0x71 (lanes2 f32Div) s m)

/-- VSQRT (R97). -/
def execVsqrt (m : Moment) (s : State) : Host.Outcome State Fault Refusal :=
  need (wellFormed (.vsqrt m)) (limberRow 0x72 (lanes1 f32Sqrt) s m)

/-- VRCP (R98). -/
def execVrcp (m : Moment) (s : State) : Host.Outcome State Fault Refusal :=
  need (wellFormed (.vrcp m)) (limberRow 0x73 (lanes1 f32Rcp) s m)

/-- VRSQRT (R98). -/
def execVrsqrt (m : Moment) (s : State) : Host.Outcome State Fault Refusal :=
  need (wellFormed (.vrsqrt m)) (limberRow 0x74 (lanes1 f32Rsqrt) s m)

/-- VEXP2 (R98). -/
def execVexp2 (m : Moment) (s : State) : Host.Outcome State Fault Refusal :=
  need (wellFormed (.vexp2 m)) (limberRow 0x75 (lanes1 (f32Exp 0x75)) s m)

/-- VLOG2 (R98). -/
def execVlog2 (m : Moment) (s : State) : Host.Outcome State Fault Refusal :=
  need (wellFormed (.vlog2 m)) (limberRow 0x76 (lanes1 f32Log2) s m)

/-- VEXP (R98). -/
def execVexp (m : Moment) (s : State) : Host.Outcome State Fault Refusal :=
  need (wellFormed (.vexp m)) (limberRow 0x77 (lanes1 (f32Exp 0x77)) s m)

/-- VTANH (R98). -/
def execVtanh (m : Moment) (s : State) : Host.Outcome State Fault Refusal :=
  need (wellFormed (.vtanh m)) (limberRow 0x78 (lanes1 (f32Sigmoid 0x78)) s m)

/-- VERF (R98). -/
def execVerf (m : Moment) (s : State) : Host.Outcome State Fault Refusal :=
  need (wellFormed (.verf m)) (limberRow 0x79 (lanes1 (f32Sigmoid 0x79)) s m)

/-- VRSUM (R102). -/
def execVrsum (m : Moment) (s : State) : Host.Outcome State Fault Refusal :=
  need (wellFormed (.vrsum m)) (limberRow 0x7C (reduceRows f32Add 0 operandA) s m)

/-- VRMAX (R102). -/
def execVrmax (m : Moment) (s : State) : Host.Outcome State Fault Refusal :=
  need (wellFormed (.vrmax m)) (limberRow 0x7D (reduceRows f32Max 0xFF800000 operandA) s m)

/-- VRMIN (R102). -/
def execVrmin (m : Moment) (s : State) : Host.Outcome State Fault Refusal :=
  need (wellFormed (.vrmin m)) (limberRow 0x7E (reduceRows f32Min 0x7F800000 operandA) s m)

/-- VRDOT (R102). -/
def execVrdot (m : Moment) (s : State) : Host.Outcome State Fault Refusal :=
  need (wellFormed (.vrdot m)) (limberRow 0x7F (reduceRows f32Add 0 operandAB) s m)

/-- VCMP (R99). -/
def execVcmp (m : Moment) (s : State) : Host.Outcome State Fault Refusal :=
  need (wellFormed (.vcmp m)) (limberRow 0x80 doVcmp s m)

/-- KOP (R101). -/
def execKop (m : Moment) (s : State) : Host.Outcome State Fault Refusal :=
  need (wellFormed (.kop m)) (limberRow 0x81 doKop s m)

/-- KCOL (R101). -/
def execKcol (m : Moment) (s : State) : Host.Outcome State Fault Refusal :=
  need (wellFormed (.kcol m)) (limberRow 0x82 doKcol s m)

end Sys2Proof.Machine
end

