-- ==== Sys2Proof/Machine/ExecLink.lean ====
section
/-!
DEFINITION. The link rows: codewords, frames, lanes, training. Each meaning refuses operands outside the numbering
(log entry 10) and is otherwise one operation of the layers below.
-/

namespace Sys2Proof.Machine

/-- CODEWORD_RECEIVE (R177 to R180): transfers that it completes on a Planer link are carried out (R227). -/
def execCodewordReceive (lane message parity : Nat) (s : State) : Host.Outcome State Fault Refusal :=
  need (wellFormed (.codewordReceive lane message parity))
    ((codewordReceive s lane (receivedWord message parity)).takeTransfers (laneLink lane))

/-- FRAME_RECEIVE (R185): a transfer that it completes on a Planer link is carried out (R227). -/
def execFrameReceive (link : Nat) (f : Frame) (crc : Nat) (s : State) : Host.Outcome State Fault Refusal :=
  need (wellFormed (.frameReceive link f crc)) ((frameReceive s link f crc).takeTransfers link)

/-- FRAME_SEND (R187). -/
def execFrameSend (link : Nat) (s : State) : Host.Outcome State Fault Refusal :=
  need (wellFormed (.frameSend link)) (frameSend s link)

/-- RETRANSMIT_TIMEOUT (R186). -/
def execRetransmitTimeout (link : Nat) (s : State) : Host.Outcome State Fault Refusal :=
  need (wellFormed (.retransmitTimeout link)) (retransmitTimeout s link)

/-- LANE_LOSS_OF_LOCK (R190). -/
def execLaneLossOfLock (lane : Nat) (s : State) : Host.Outcome State Fault Refusal :=
  need (wellFormed (.laneLossOfLock lane)) (laneLossOfLock s lane)

/-- LANE_ERROR_THRESHOLD (R190). -/
def execLaneErrorThreshold (lane : Nat) (s : State) : Host.Outcome State Fault Refusal :=
  need (wellFormed (.laneErrorThreshold lane)) (laneErrorThreshold s lane)

/-- LINK_TRAIN (R189). -/
def execLinkTrain (path link : Nat) (s : State) : Host.Outcome State Fault Refusal :=
  need (wellFormed (.linkTrain path link)) (linkTrain s path link)

/-- LINK_DISABLE (R189). -/
def execLinkDisable (path link : Nat) (s : State) : Host.Outcome State Fault Refusal :=
  need (wellFormed (.linkDisable path link)) (linkDisable s path link)

/-- LINK_RETRAIN (R191). -/
def execLinkRetrain (path link : Nat) (s : State) : Host.Outcome State Fault Refusal :=
  need (wellFormed (.linkRetrain path link)) (linkRetrain s path link)

/-- TRAINING_COMPLETE (R189). -/
def execTrainingComplete (link lanes : Nat) (s : State) : Host.Outcome State Fault Refusal :=
  need (wellFormed (.trainingComplete link lanes)) (trainingComplete s link lanes)

/-- TRAINING_TIMEOUT (R189). -/
def execTrainingTimeout (link : Nat) (s : State) : Host.Outcome State Fault Refusal :=
  need (wellFormed (.trainingTimeout link)) (trainingTimeout s link)

/-- RETRAIN_COMPLETE (R191). -/
def execRetrainComplete (link lanes : Nat) (s : State) : Host.Outcome State Fault Refusal :=
  need (wellFormed (.retrainComplete link lanes)) (retrainComplete s link lanes)

/-- RETRAIN_TIMEOUT (R191). -/
def execRetrainTimeout (link : Nat) (s : State) : Host.Outcome State Fault Refusal :=
  need (wellFormed (.retrainTimeout link)) (retrainTimeout s link)

end Sys2Proof.Machine
end

