-- ==== Sys2Proof/Machine/ExecPlaner.lean ====
section
/-!
DEFINITION. The Planer rows: transfers by kind, granules, the STEP_CMD actions. Each meaning refuses operands
outside the numbering (log entry 10) and is otherwise one operation of the layers below.
-/

namespace Sys2Proof.Machine

/-- RD_REQ (R227). -/
def execRdReq (q : Nat) (x : ReadReq) (s : State) : Host.Outcome State Fault Refusal :=
  need (wellFormed (.rdReq q x)) (rdReq s q x)

/-- RD_DATA (R227). -/
def execRdData (q : Nat) (x : Xfer) (s : State) : Host.Outcome State Fault Refusal :=
  need (wellFormed (.rdData q x)) (rdData s q x)

/-- WR_DATA (R227). -/
def execWrData (q : Nat) (x : Xfer) (s : State) : Host.Outcome State Fault Refusal :=
  need (wellFormed (.wrData q x)) (wrData s q x)

/-- WR_ACK (R227). -/
def execWrAck (q : Nat) (x : Xfer) (s : State) : Host.Outcome State Fault Refusal :=
  need (wellFormed (.wrAck q x)) (wrAck s q x)

/-- GRAD (R236). -/
def execGrad (q : Nat) (x : Xfer) (s : State) : Host.Outcome State Fault Refusal :=
  need (wellFormed (.grad q x)) (gradReceived s q x)

/-- EMIT_TRANSFER (R237). -/
def execEmitTransfer (q : Nat) (x : Xfer) (s : State) : Host.Outcome State Fault Refusal :=
  need (wellFormed (.emitTransfer q x)) (emitTransfer s q x)

/-- GRAN_DONE (R237). -/
def execGranDone (q : Nat) (x : Xfer) (s : State) : Host.Outcome State Fault Refusal :=
  need (wellFormed (.granDone q x)) (granDone s q x)

/-- ERR (R227). -/
def execErrTransfer (q : Nat) (x : Xfer) (s : State) : Host.Outcome State Fault Refusal :=
  need (wellFormed (.errTransfer q x)) (errTransfer s q x)

/-- STEPSET (R242). -/
def execStepset (q : Nat) (x : Xfer) (s : State) : Host.Outcome State Fault Refusal :=
  need (wellFormed (.stepset q x)) (stepsetReceived s q x)

/-- GRANULE_HANDOFF (R237). -/
def execGranuleHandoff (id : Nat) (s : State) : Host.Outcome State Fault Refusal :=
  need (wellFormed (.granuleHandoff id)) (granuleHandoff s id)

/-- GRANULE_APPLY (R237). -/
def execGranuleApply (q i : Nat) (s : State) : Host.Outcome State Fault Refusal :=
  if s.granTouchesNone q i then .fault .unmapped
  else need (wellFormed (.granuleApply q i)) (granuleApply s q i)

/-- GRANULE_COMPLETE (R237). -/
def execGranuleComplete (q i : Nat) (s : State) : Host.Outcome State Fault Refusal :=
  need (wellFormed (.granuleComplete q i)) (granuleComplete s q i)

/-- SET_STEP (R245). -/
def execSetStep (path ctx : Nat) (s : State) : Host.Outcome State Fault Refusal :=
  need (wellFormed (.setStep path ctx)) (setStep s path ctx)

/-- ROLL_FORWARD (R245). -/
def execRollForward (path ctx : Nat) (s : State) : Host.Outcome State Fault Refusal :=
  need (wellFormed (.rollForward path ctx)) (rollForward s path ctx)

/-- EMIT (R245). -/
def execEmitStep (path ctx : Nat) (s : State) : Host.Outcome State Fault Refusal :=
  need (wellFormed (.emitStep path ctx)) (emitStep s path ctx)

/-- SNAPSHOT (R245). -/
def execSnapshot (path ctx : Nat) (s : State) : Host.Outcome State Fault Refusal :=
  need (wellFormed (.snapshot path ctx)) (snapshotStep s path ctx)

/-- RESTORE (R245). -/
def execRestoreStep (path ctx : Nat) (s : State) : Host.Outcome State Fault Refusal :=
  need (wellFormed (.restoreStep path ctx)) (restoreStep s path ctx)

/-- STEP_ACTION_COMPLETE (R247). -/
def execStepActionComplete (ctx : Nat) (s : State) : Host.Outcome State Fault Refusal :=
  need (wellFormed (.stepActionComplete ctx)) (stepActionComplete s ctx)

end Sys2Proof.Machine
end

