-- ==== Sys2Proof/Machine/ExecPower.lean ====
section
/-!
DEFINITION. The rows of power, sensors, clocks and CRUISE. Each meaning refuses operands outside the numbering (log
entry 10) and is otherwise one operation of the layers below.
-/

namespace Sys2Proof.Machine

/-- POWER_CMD_RUN (R358). -/
def execPowerCmdRun (path : Nat) (s : State) : Host.Outcome State Fault Refusal :=
  need (wellFormed (.powerCmdRun path)) (powerCmdRun s path)

/-- POWER_CMD_FALLOW (R358). -/
def execPowerCmdFallow (path : Nat) (s : State) : Host.Outcome State Fault Refusal :=
  need (wellFormed (.powerCmdFallow path)) (powerEntry s path 2)

/-- POWER_CMD_DORMANT (R358). -/
def execPowerCmdDormant (path : Nat) (s : State) : Host.Outcome State Fault Refusal :=
  need (wellFormed (.powerCmdDormant path)) (powerEntry s path 3)

/-- POWER_TRANSITION_COMPLETE (R358). -/
def execPowerTransitionComplete (s : State) : Host.Outcome State Fault Refusal :=
  need (wellFormed (.powerTransitionComplete)) (powerTransitionComplete s)

/-- WAKE_ON_ACCESS (R362). -/
def execWakeOnAccess (src : Nat) (s : State) : Host.Outcome State Fault Refusal :=
  need (wellFormed (.wakeOnAccess src)) (s.wakeBy src)

/-- CORE_GATE_OFF (R356). -/
def execCoreGateOff (n : Nat) (s : State) : Host.Outcome State Fault Refusal :=
  need (wellFormed (.coreGateOff n)) (coreGateOff s n)

/-- CLUSTER_GATE_OFF (R356). -/
def execClusterGateOff (c : Nat) (s : State) : Host.Outcome State Fault Refusal :=
  need (wellFormed (.clusterGateOff c)) (clusterGateOff s c)

/-- DOMAIN_POWER_ON_COMPLETE (R356). -/
def execDomainPowerOnComplete (d : Nat) (s : State) : Host.Outcome State Fault Refusal :=
  need (wellFormed (.domainPowerOnComplete d)) (domainPowerOnComplete s d)

/-- SENSOR_SAMPLE (R363). -/
def execSensorSample (sensor : Nat) (raw : Int) (s : State) : Host.Outcome State Fault Refusal :=
  need (wellFormed (.sensorSample sensor raw)) (sensorSample s sensor raw)

/-- OVERCURRENT_TRIP (R365). -/
def execOvercurrentTrip (rail phase : Nat) (s : State) : Host.Outcome State Fault Refusal :=
  need (wellFormed (.overcurrentTrip rail phase)) (overcurrentTrip s rail phase)

/-- POWER_STAGE_SHUTDOWN (R366). -/
def execPowerStageShutdown (rail : Nat) (s : State) : Host.Outcome State Fault Refusal :=
  need (wellFormed (.powerStageShutdown rail)) (powerStageShutdown s rail)

/-- INPUT_VOLTAGE (R360). -/
def execInputVoltage (mv : Nat) (s : State) : Host.Outcome State Fault Refusal :=
  need (wellFormed (.inputVoltage mv)) (inputVoltage s mv)

/-- INPUT_POWER_LOSS (R360). -/
def execInputPowerLoss (s : State) : Host.Outcome State Fault Refusal :=
  need (wellFormed (.inputPowerLoss)) (inputPowerLoss s)

/-- POWER_ON (R373). -/
def execPowerOn (s : State) : Host.Outcome State Fault Refusal :=
  need (wellFormed (.powerOn)) (powerOn s)

/-- PLL_LOSS_OF_LOCK (R361). -/
def execPllLossOfLock (pll : Nat) (s : State) : Host.Outcome State Fault Refusal :=
  need (wellFormed (.pllLossOfLock pll)) (pllLossOfLock s pll)

/-- PLL_RELOCK (R361). -/
def execPllRelock (pll : Nat) (s : State) : Host.Outcome State Fault Refusal :=
  need (wellFormed (.pllRelock pll)) (pllRelock s pll)

/-- REFCLK_STOP (R361). -/
def execRefclkStop (s : State) : Host.Outcome State Fault Refusal :=
  need (wellFormed (.refclkStop)) (refclkStop s)

/-- REFCLK_RETURN (R361). -/
def execRefclkReturn (s : State) : Host.Outcome State Fault Refusal :=
  need (wellFormed (.refclkReturn)) (refclkReturn s)

/-- CRUISE_SURVEY (R369). -/
def execCruiseSurvey (s : State) : Host.Outcome State Fault Refusal :=
  need (wellFormed (.cruiseSurvey)) (cruiseSurvey s)

/-- CRUISE_CMD (R369). -/
def execCruiseCmd (path : Nat) (s : State) : Host.Outcome State Fault Refusal :=
  need (wellFormed (.cruiseCmd path)) (cruiseCmd s path)

/-- CLUSTER_SURVEY_COMPLETE (R369). -/
def execClusterSurveyComplete (c : Nat) (slacks : List Int) (s : State) : Host.Outcome State Fault Refusal :=
  need (wellFormed (.clusterSurveyComplete c slacks)) (clusterSurveyComplete s c slacks)

/-- SCRUB_EXCURSION (R367). -/
def execScrubExcursion (q : Nat) (s : State) : Host.Outcome State Fault Refusal :=
  need (wellFormed (.scrubExcursion q)) (scrubExcursion s q)

/-- SCRUB_EXCURSION_COMPLETE (R367). -/
def execScrubExcursionComplete (q : Nat) (s : State) : Host.Outcome State Fault Refusal :=
  need (wellFormed (.scrubExcursionComplete q)) (scrubExcursionComplete s q)

/-- MAC_ENERGY_WINDOW (R371). -/
def execMacEnergyWindow (energy rows : Nat) (s : State) : Host.Outcome State Fault Refusal :=
  need (wellFormed (.macEnergyWindow energy rows)) (macEnergyWindow s energy rows)

/-- POWERED_HOURS (R353). -/
def execPoweredHours (s : State) : Host.Outcome State Fault Refusal :=
  need (wellFormed (.poweredHours)) (poweredHours s)

end Sys2Proof.Machine
end

