-- ==== Sys2Proof/Machine/ExecServing.lean ====
section
/-!
DEFINITION. The serving rows: weight versions, batches, results. Each meaning refuses operands outside the numbering
(log entry 10) and is otherwise one operation of the layers below.
-/

namespace Sys2Proof.Machine

/-- WEIGHT_LOAD (R252). -/
def execWeightLoad (path ctx : Nat) (s : State) : Host.Outcome State Fault Refusal :=
  need (wellFormed (.weightLoad path ctx)) (weightLoad s path ctx)

/-- WEIGHT_SWITCH (R252). -/
def execWeightSwitch (path ctx : Nat) (s : State) : Host.Outcome State Fault Refusal :=
  need (wellFormed (.weightSwitch path ctx)) (weightSwitch s path ctx)

/-- REVERT (R252). -/
def execRevert (path ctx : Nat) (s : State) : Host.Outcome State Fault Refusal :=
  need (wellFormed (.revert path ctx)) (weightRevert s path ctx)

/-- SLOT_FILL_START (R253). -/
def execSlotFillStart (ctx : Nat) (s : State) : Host.Outcome State Fault Refusal :=
  need (wellFormed (.slotFillStart ctx)) (slotFillStart s ctx)

/-- SLOT_READY (R253). -/
def execSlotReady (ctx : Nat) (s : State) : Host.Outcome State Fault Refusal :=
  need (wellFormed (.slotReady ctx)) (slotReady s ctx)

/-- BATCH_SUBMIT (R257). -/
def execBatchSubmit (path ctx : Nat) (s : State) : Host.Outcome State Fault Refusal :=
  need (wellFormed (.batchSubmit path ctx)) (batchSubmit s path ctx)

/-- BATCH_ADMIT (R258). -/
def execBatchAdmit (ctx : Nat) (order : List Nat) (s : State) : Host.Outcome State Fault Refusal :=
  need (wellFormed (.batchAdmit ctx order)) (batchAdmit s ctx order)

/-- SLOT_TOKEN_POST (R259). -/
def execSlotTokenPost (ctx : Nat) (s : State) : Host.Outcome State Fault Refusal :=
  need (wellFormed (.slotTokenPost ctx)) (slotTokenPost s ctx)

/-- BATCH_COMPLETE (R262). -/
def execBatchComplete (ctx : Nat) (s : State) : Host.Outcome State Fault Refusal :=
  need (wellFormed (.batchComplete ctx)) (batchComplete s ctx)

/-- RES_ACK (R267). -/
def execResAck (path r v : Nat) (s : State) : Host.Outcome State Fault Refusal :=
  need (wellFormed (.resAck path r v)) (resAck s path r v)

/-- RES_WORD_READ (R267). -/
def execResWordRead (path r : Nat) (s : State) : Host.Outcome State Fault Refusal :=
  need (wellFormed (.resWordRead path r)) (resWordRead s path r)

end Sys2Proof.Machine
end

