-- ==== Sys2Proof/Machine/Complete.lean ====
section
/-!
DEFINITION. Completion of commands whose effect is done, and the arrival of posts with what waits on them in the Yarders
and in the serving sequencer.
-/

namespace Sys2Proof.Machine

/-- Whether COMMAND_COMPLETE completes an opcode: steps that end with a row of their own (STAGE, EVICT, CLEAN, the
collectives, COMMIT) do not. -/
def completesPlainly (op : Nat) : Bool := !(0x99 ≤ op && op ≤ 0x9B) && !(0xA0 ≤ op && op ≤ 0xA7)

/-- Whether a command may complete before others of its queue: Limber and the move port complete in queue order (R94, R159),
the pipelines of an engine out of it (R63). -/
def State.inOrder (s : State) (f : Flight) : Bool :=
  match f.queue with
  | .limber | .movePort =>
    (match s.flights.find? (fun g => g.owner < 128 && g.core = f.core && g.queue = f.queue) with
    | some g => g.id = f.id
    | none => true)
  | _ => true

/-- COMMAND_COMPLETE: a command whose effect is done completes: its tile or capture moves on, LIMBER_INSTR counts a
Limber instruction, and its post is issued (R30, R82, R93). -/
def commandComplete (s : State) (id : Nat) : State :=
  match s.flight id with
  | none => s
  | some f =>
    if f.phase = .done && completesPlainly f.op && s.inOrder f && s.dieRuns && !s.ownerDown f.ctx f.owner then
      let s1 := s.engineDone f
      let s2 := if 0x60 ≤ f.op && f.op ≤ 0x8F then s1.addObj (okey (0x8000 + f.core) 9) 64 1 else s1
      s2.complete f
    else s

/-- What waits on a counter looks at it again: a RING step on its Yarder (R211), the serving sequencer (R251, R259). -/
def State.wake (s : State) (p : Post) : State :=
  (s.wakeYarder p.ctx p.target p.counter).wakeSequencer p.ctx p.target p.counter

/-- Whether post i arrives now. -/
def State.arrives (s : State) (i : Nat) (credit : Bool) : Option Post :=
  match s.posts[i]? with
  | none => none
  | some p => if postReady s.posts i && p.credit = credit && s.dieRuns then some p else none

/-- POST_ARRIVAL with what waits on the counter (R32). -/
def tokenArrival (s : State) (i : Nat) : State :=
  match s.arrives i false with
  | none => s
  | some p => (postArrival s i).wake p

/-- CREDIT_RETURN with what waits on the counter (R36). -/
def creditArrival (s : State) (i : Nat) : State :=
  match s.arrives i true with
  | none => s
  | some p => (creditReturn s i).wake p

end Sys2Proof.Machine
end

