-- ==== Sys2Proof/Machine/ExecShell.lean ====
section
/-!
DEFINITION. The shell rows and the step boundary: NOP to END, completion, posts and credit returns, STOP_STEP. Each
meaning refuses operands outside the numbering (log entry 10) and is otherwise one operation of the layers below.
-/

namespace Sys2Proof.Machine

/-- NOP (R26). -/
def execNop (sh : Shell) (s : State) : Host.Outcome State Fault Refusal :=
  need (wellFormed (.nop sh)) (nop s sh)

/-- SETTLE (R26). -/
def execSettle (sh : Shell) (s : State) : Host.Outcome State Fault Refusal :=
  need (wellFormed (.settle sh)) (settle s sh)

/-- STEPMARK (R27). -/
def execStepmark (sh : Shell) (s : State) : Host.Outcome State Fault Refusal :=
  need (wellFormed (.stepmark sh)) (stepmark pinStep s sh)

/-- END (R26). -/
def execEndStream (sh : Shell) (s : State) : Host.Outcome State Fault Refusal :=
  need (wellFormed (.endStream sh)) (endStream s sh)

/-- COMMAND_COMPLETE (R30). -/
def execCommandComplete (id : Nat) (s : State) : Host.Outcome State Fault Refusal :=
  need (wellFormed (.commandComplete id)) (commandComplete s id)

/-- POST_ARRIVAL (R32). -/
def execPostArrival (i : Nat) (s : State) : Host.Outcome State Fault Refusal :=
  need (wellFormed (.postArrival i)) (tokenArrival s i)

/-- CREDIT_RETURN (R36). -/
def execCreditReturn (i : Nat) (s : State) : Host.Outcome State Fault Refusal :=
  need (wellFormed (.creditReturn i)) (creditArrival s i)

/-- STOP_STEP_WRITE (R219). -/
def execStopStepWrite (path ctx v : Nat) (s : State) : Host.Outcome State Fault Refusal :=
  need (wellFormed (.stopStepWrite path ctx v)) (stopStepWrite s path ctx v)

end Sys2Proof.Machine
end

