-- ==== Sys2Proof/Machine/Dump.lean ====
section
/-!
DEFINITION. The observation reads of a dump and its end (R319 to R321). R320 names the content of each read and not the places in
its 64 B; the places here are the model's (log entry 63).
-/

namespace Sys2Proof.Machine

/-- A field of an observation read: offset in the 64 B, bytes, value; no value for what the model holds no state of. -/
abbrev DumpField := Nat × Nat × Option Nat

/-- Fields of one width from an offset on. -/
def fieldsFrom (o w : Nat) (vs : List Nat) : List DumpField := vs.mapIdx (fun k v => (o + w * k, w, some v))

/-- Read k of a run of counters of two bytes, 32 to a read. -/
def ctrRead (f : Nat → Nat) (k : Nat) : List DumpField := fieldsFrom 0 2 ((List.range 32).map (fun j => f (32 * k + j)))

/-- The token counter k of an owner as R41 shows it. -/
def State.tokenValue (s : State) (ctx owner k : Nat) : Nat := (Tab.get 0 s.tok (ckey ctx owner k)).toNat

/-- The acquired count k of an owner (R31). -/
def State.acqValue (s : State) (ctx owner k : Nat) : Nat := (Tab.get 0 s.acq (ckey ctx owner k)).toNat

/-- The words of the n-th command waiting in a queue of a core; 0 for an empty entry. -/
def State.coreEntry (s : State) (n : Nat) (q : QueueId) (k : Nat) : Nat :=
  match ((s.coreFlights n q).filter (fun f => f.phase = .queued))[k]? with
  | some f => f.w0.toNat
  | none => 0

/-- The six queues of a core in the order of R320. -/
def coreQueues : List QueueId := [.engine 0, .engine 1, .engine 2, .engine 3, .limber, .movePort]

/-- Read r of core shell n (R320). -/
def State.coreRead (s : State) (n r : Nat) : List DumpField :=
  let c := s.core n
  let o := 16 * (n / 16) + c.task
  let e := s.exports (.core n)
  if r = 0 then
    fieldsFrom 0 4 [e.1, e.2, ((s.coreView n 4).getD 0), (s.stream c.ctx o).pos, c.task, s.ctxStateWord c.ctx]
      ++ fieldsFrom 24 1 (coreQueues.map (fun q => s.queued n q))
  else if r < 13 then
    fieldsFrom 0 16 ((List.range 4).map (fun k => s.coreEntry n (coreQueues.getD ((r - 1) / 2) .none) (4 * ((r - 1) % 2) + k)))
  else if r < 21 then ctrRead (s.tokenValue c.ctx o) (r - 13)
  else if r < 29 then ctrRead (s.acqValue c.ctx o) (r - 21)
  else if r < 31 then ctrRead (s.credits c.ctx o) (r - 29)
  else fieldsFrom 0 4 ((List.range 16).map (fun k => (Tab.get 0 c.data.wins (16 * (r - 31) + k)).toNat))

/-- The position of an engine's pipeline: command, K cant, row; zero where it is idle (R320). -/
def pipeFields (o : Nat) : Option Flight → List DumpField
  | some f => [(o, 4, some f.id), (o + 4, 2, some (f.rows / 64)), (o + 6, 2, some (f.rows % 64))]
  | none => []

/-- Read r of engine e (R320): the B loader has no state of its own in the model. -/
def State.engineRead (s : State) (e r : Nat) : List DumpField :=
  let n := e / 4
  let p := e % 4
  let started := fun (ops : Nat → Bool) => (s.coreFlights n (.engine p)).find? (fun f => f.phase ≠ .queued && ops f.op)
  let cnt := fun j => s.obj (okey (0x9000 + e) j)
  let tile := fun t => s.tile n (tileKey p t)
  if r = 0 then
    [(0, 4, some (s.engState e))] ++ pipeFields 4 (started (· = 0x10)) ++ pipeFields 12 (started (· = 0x11))
      ++ pipeFields 20 (started isReadout) ++ [(28, 4, none), (32, 8, some (cnt 3)), (40, 4, some (cnt 4)), (44, 8, some (cnt 5)),
        (52, 8, some (cnt 6)), (60, 2, some (cnt 8))]
  else if r = 1 then
    fieldsFrom 0 4 ((List.range 8).map (fun t => (tile t).flagsWord)) ++ fieldsFrom 32 4 ((List.range 8).map (fun t => (tile t).hash))
  else
    fieldsFrom 0 4 ((List.range 16).map (fun k =>
      let x := 16 * (r - 2) + k
      let c := (s.core n).data.set p (x / 5)
      match x % 5 with
      | 0 => c.s.toNat | 1 => c.b.toNat | 2 => c.lo.toNat | 3 => c.hi.toNat | _ => c.tscale))

/-- Read r of Limber n (R320). -/
def State.limberRead (s : State) (n r : Nat) : List DumpField :=
  if r = 0 then [(0, 4, some (s.limberState n)), (16, 16, some (s.coreEntry n .limber 0))]
  else fieldsFrom 0 4 ((List.range 16).map (fun k => ((s.core n).data.sa k).word))

/-- The n-th step waiting in a unit's queue for a context, its words from the lowest on. -/
def State.unitEntry (s : State) (u ctx k : Nat) : List DumpField :=
  match (s.flights.filter (fun f => f.owner = u && f.ctx = ctx && f.phase = .queued))[k]? with
  | some f => fieldsFrom 0 16 (f.words.map (fun w => w.toNat))
  | none => []

/-- Read r of a shared shell for a context: exports, LAST_STEPMARK, position and, with no step running, no byte moved; queue
entries; then `c` reads each of token counters and acquired counts, and two of credit counters (R320). -/
def State.unitRead (s : State) (u ctx c r : Nat) : List DumpField :=
  let e := s.exports (.unit u ctx)
  let t := s.stream ctx u
  let runs := s.flights.any (fun f => f.owner = u && f.ctx = ctx && f.phase ≠ .queued)
  if r = 0 then fieldsFrom 0 4 [e.1, e.2, t.mark.getD 0, t.pos] ++ [(16, 8, if runs then none else some 0)]
  else if r < 9 then s.unitEntry u ctx (r - 1)
  else if r < 9 + c then ctrRead (s.tokenValue ctx u) (r - 9)
  else if r < 9 + 2 * c then ctrRead (s.acqValue ctx u) (r - 9 - c)
  else ctrRead (s.credits ctx u) (r - 9 - 2 * c)

/-- Read 19 of a Yarder for a context: COLL and round of its open step, and the frames received from positions 0 to 29
(R320). -/
def State.openRead (s : State) (y ctx : Nat) : List DumpField :=
  match s.colls.find? (fun x => x.ctx = ctx && x.yarder = y && x.started) with
  | none => []
  | some x =>
    let round := match x.out with | o :: _ => o.round | [] => x.rounds
    fieldsFrom 0 2 ([(s.collOf x).coll, round] ++ (List.range 30).map (fun p => (x.rx.filter (fun f => f.pos = p)).length))

/-- The read of a link (R320): LINK_STATE, LSEQ sent and acknowledged, outstanding frames, credits used and granted per VC. -/
def State.linkRead (s : State) (n : Nat) : List DumpField :=
  let l := s.link n
  [(0, 4, some l.stateWord)] ++ fieldsFrom 4 2 [l.txSeq, (l.txSeq + 4096 - l.buf.length) % 4096, l.buf.length]
    ++ fieldsFrom 12 4 [l.used0, l.lim0, l.used1, l.lim1]

/-- The read of a serving sequencer (R320). -/
def State.servRead (s : State) (ctx : Nat) : List DumpField :=
  let r := (s.serv ctx).record
  fieldsFrom 0 4 [(s.servView ctx 0x10).getD 0, (s.servView ctx 0x0A).getD 0, (s.servView ctx 6).getD 0]
    ++ fieldsFrom 12 2 [s.acqValue ctx 0x94 (servBdoneCtr r), s.acqValue ctx 0x94 (servLdoneCtr r)]

/-- What read r of a node's section returns (R320); the controller of a Landing stack is no state of the model. -/
def State.observe (s : State) (node ctx r : Nat) : List DumpField :=
  let i := node % 4096
  match node / 4096 with
  | 0 => s.coreRead i r
  | 1 => s.engineRead i r
  | 2 => s.limberRead i r
  | 4 => s.unitRead (0x80 + i) ctx 4 r
  | 5 => if r = 19 then s.openRead i ctx else s.unitRead (0x88 + i) ctx 4 r
  | 6 => s.unitRead (0x90 + i) ctx 2 r
  | 7 => s.unitRead 0x94 ctx 2 r
  | 8 => s.servRead ctx
  | 9 => [(0, 64, none)]
  | _ => s.linkRead i

/-- Puts a field of a read into an image; bytes without a value keep what the image has there. -/
def putField (m : Mem) (o : Nat) (f : DumpField) : Mem :=
  match f.2.2 with
  | some v => m.writeLe (o + f.1) f.2.1 (v % 256 ^ f.2.1)
  | none => m

/-- The bytes of a read that its fields leave without a value. -/
def openBytes (fs : List DumpField) : List (Nat × Nat) := (fs.filter (fun f => f.2.2.isNone)).map (fun f => (f.1, f.2.1))

/-- The 64 B of a read: the fields, zeros between them, nothing where a field has no value. -/
def putRead (m : Mem) (o : Nat) (fs : List DumpField) : Mem :=
  let kept := openBytes fs
  let blank := (List.range 16).foldl (fun t k =>
    if kept.any (fun e => e.1 < 4 * k + 4 && 4 * k < e.1 + e.2) then t else t.zero (o + 4 * k) 4) m
  fs.foldl (fun t f => putField t o f) blank

/-- The next observation read of the dump in a slot: its bytes, unless it was UNREADABLE, and the place of the one after it
(R319, R320). -/
def State.takeRead (s : State) (k : Nat) : State :=
  let d := s.dump k
  let node := d.data.readLe d.sec 2
  let ctx := d.data.rd (d.sec + 2)
  let n := d.data.rd (d.sec + 3)
  if d.len ≤ d.sec then s
  else
    let data := if d.bad.contains (node, ctx, d.read) then d.data
      else putRead d.data (d.sec + 16 + 64 * d.read) (s.observe node ctx d.read)
    let next : Nat × Nat := if d.read + 1 < n then (d.sec, d.read + 1) else (d.sec + 16 + 64 * n, 0)
    { s with dumps := Tab.put {} s.dumps k { d with data := data, sec := next.1, read := next.2 } }

/-- The reads of the dump in a slot that are left; `n` at most. -/
def State.takeReads (s : State) (k : Nat) : Nat → State
  | 0 => s
  | n + 1 => if (s.dump k).len ≤ (s.dump k).sec then s else (s.takeRead k).takeReads k n

/-- The dump being written, by its slot. -/
def State.writingDump (s : State) : Option Nat := (List.range 2).find? (fun k => (s.dump k).st = .writing)

/-- The most observation reads of a dump (R321). -/
def maxReads : Nat := 33180

/-- DUMP_COMPLETE: the reads left are taken and the slot reads READY; DUMP_CMD leaves busy; a firebreak that waited takes its own
dump (R318, R321, R322). -/
def dumpComplete (s : State) : State :=
  match s.writingDump with
  | none => s
  | some k =>
    let s0 := s.takeReads k maxReads
    let d := s0.dump k
    let s1 : State := { s0 with dumps := Tab.put {} s0.dumps k { d with st := .ready } }
    let s2 := if d.cause = 0 then s1.setObj (okey 0x5700 1) 2 else s1
    if s2.obj (okey 0x5800 4) = 1 then
      (if d.cause = 2 then { s2 with snag := { s2.snag with dumped := true } }
        else s2.startDump 2 (s2.obj (okey 0x5800 5) / 2 ^ 24))
    else s2

end Sys2Proof.Machine
end

