-- ==== Sys2Proof/Machine/ExecSnag.lean ====
section
/-!
DEFINITION. The rows of the Snag, dumps, firebreaks and isolation. Each meaning refuses operands outside the
numbering (log entry 10) and is otherwise one operation of the layers below.
-/

namespace Sys2Proof.Machine

/-- SNAG_DECLARE (R315). -/
def execSnagDeclare (cycle : List (Nat × Nat)) (s : State) : Host.Outcome State Fault Refusal :=
  need (wellFormed (.snagDeclare cycle)) (snagDeclare s cycle)

/-- DUMP_CMD (R318). -/
def execDumpCmd (path v : Nat) (s : State) : Host.Outcome State Fault Refusal :=
  need (wellFormed (.dumpCmd path v)) (dumpCmd s path v)

/-- OBSERVATION_READ_TIMEOUT (R319). -/
def execObservationReadTimeout (node ctx read : Nat) (s : State) : Host.Outcome State Fault Refusal :=
  need (wellFormed (.observationReadTimeout node ctx read)) (observationTimeout s node ctx read)

/-- DUMP_COMPLETE (R321). -/
def execDumpComplete (s : State) : Host.Outcome State Fault Refusal :=
  need (wellFormed (.dumpComplete)) (dumpComplete s)

/-- DUMP_RELEASE (R318). -/
def execDumpRelease (path v : Nat) (s : State) : Host.Outcome State Fault Refusal :=
  need (wellFormed (.dumpRelease path v)) (dumpRelease s path v)

/-- FB_CORE (R323). -/
def execFbCore (path : Nat) (s : State) : Host.Outcome State Fault Refusal :=
  need (wellFormed (.fbCore path)) (fbRequest s path 1)

/-- FB_CLUSTER (R323). -/
def execFbCluster (path : Nat) (s : State) : Host.Outcome State Fault Refusal :=
  need (wellFormed (.fbCluster path)) (fbRequest s path 2)

/-- FB_LANDING_STACK (R323). -/
def execFbLandingStack (path : Nat) (s : State) : Host.Outcome State Fault Refusal :=
  need (wellFormed (.fbLandingStack path)) (fbRequest s path 3)

/-- FB_LINK_PLANE (R323). -/
def execFbLinkPlane (path : Nat) (s : State) : Host.Outcome State Fault Refusal :=
  need (wellFormed (.fbLinkPlane path)) (fbRequest s path 4)

/-- FB_PLANER (R323). -/
def execFbPlaner (path : Nat) (s : State) : Host.Outcome State Fault Refusal :=
  need (wellFormed (.fbPlaner path)) (fbRequest s path 5)

/-- FB_DIE (R323). -/
def execFbDie (path : Nat) (s : State) : Host.Outcome State Fault Refusal :=
  need (wellFormed (.fbDie path)) (fbRequest s path 6)

/-- FB_MODULE (R323). -/
def execFbModule (path : Nat) (s : State) : Host.Outcome State Fault Refusal :=
  need (wellFormed (.fbModule path)) (fbRequest s path 7)

/-- FIREBREAK_RESET (R322). -/
def execFirebreakReset (s : State) : Host.Outcome State Fault Refusal :=
  need (wellFormed (.firebreakReset)) (firebreakReset s)

/-- FIREBREAK_COMPLETE (R322). -/
def execFirebreakComplete (s : State) : Host.Outcome State Fault Refusal :=
  need (wellFormed (.firebreakComplete)) (firebreakComplete s)

/-- REPLAY_START (R327). -/
def execReplayStart (path : Nat) (s : State) : Host.Outcome State Fault Refusal :=
  need (wellFormed (.replayStart path)) (replayStart s path)

/-- REPLAY_END (R327). -/
def execReplayEnd (path : Nat) (s : State) : Host.Outcome State Fault Refusal :=
  need (wellFormed (.replayEnd path)) (replayEnd s path)

end Sys2Proof.Machine
end

