-- ==== Sys2Proof/Machine/ExecTier.lean ====
section
/-!
DEFINITION. The rows of descriptors, moves, tiers and allocations. Each meaning refuses operands outside the
numbering (log entry 10) and is otherwise one operation of the layers below.
-/

namespace Sys2Proof.Machine

/-- FILL (R157). -/
def execFill (m : Moment) (err : Option Nat) (s : State) : Host.Outcome State Fault Refusal :=
  if startsAs m (fun id => (s.startable id 0x90).isSome && s.touchesNone id) then .fault .unmapped
  else need (wellFormed (.fill m err))
    (match m with
     | .dispatch sh => s.dispatchMove sh 0x90 false
     | .start id => s.startMove id 0x90 false err)

/-- SPILL (R157). -/
def execSpill (m : Moment) (err : Option Nat) (s : State) : Host.Outcome State Fault Refusal :=
  if startsAs m (fun id => (s.startable id 0x91).isSome && s.touchesNone id) then .fault .unmapped
  else need (wellFormed (.spill m err))
    (match m with
     | .dispatch sh => s.dispatchMove sh 0x91 true
     | .start id => s.startMove id 0x91 true err)

/-- WINSET (R156). -/
def execWinset (sh : Shell) (s : State) : Host.Outcome State Fault Refusal :=
  need (wellFormed (.winset sh)) (winset s sh)

/-- MOVE (R168). -/
def execMove (m : Moment) (err : Option Nat) (s : State) : Host.Outcome State Fault Refusal :=
  if startsAs m (fun id => (s.startableStep id 0x98).isSome && s.touchesNone id) then .fault .unmapped
  else need (wellFormed (.move m err))
    (match m with
     | .dispatch sh => s.dispatchMover sh
     | .start id => s.runMove id err)

/-- STAGE (R162). -/
def execStage (m : Moment) (s : State) : Host.Outcome State Fault Refusal :=
  need (wellFormed (.stage m))
    (match m with
     | .dispatch sh => s.dispatchStage sh
     | .start id => s.startStage id)

/-- STAGE_COMPLETE (R162). -/
def execStageComplete (id : Nat) (err : Option Nat) (s : State) : Host.Outcome State Fault Refusal :=
  need (wellFormed (.stageComplete id err)) (stageComplete s id err)

/-- EVICT (R164). -/
def execEvict (m : Moment) (s : State) : Host.Outcome State Fault Refusal :=
  need (wellFormed (.evict m))
    (match m with
     | .dispatch sh => s.dispatchBack sh 0x9A .evict
     | .start id => s.startEvict id)

/-- EVICT_DRAIN_END (R164). -/
def execEvictDrainEnd (id : Nat) (s : State) : Host.Outcome State Fault Refusal :=
  need (wellFormed (.evictDrainEnd id)) (evictDrainEnd s id)

/-- EVICT_COMPLETE (R164). -/
def execEvictComplete (id : Nat) (err : Option Nat) (s : State) : Host.Outcome State Fault Refusal :=
  need (wellFormed (.evictComplete id err)) (evictComplete s id err)

/-- CLEAN (R165). -/
def execClean (m : Moment) (s : State) : Host.Outcome State Fault Refusal :=
  need (wellFormed (.clean m))
    (match m with
     | .dispatch sh => s.dispatchBack sh 0x9B .clean
     | .start id => s.startClean id)

/-- CLEAN_COMPLETE (R165). -/
def execCleanComplete (id : Nat) (err : Option Nat) (s : State) : Host.Outcome State Fault Refusal :=
  need (wellFormed (.cleanComplete id err)) (cleanComplete s id err)

/-- DESC_CREATE (R121). -/
def execDescCreate (path ctx : Nat) (s : State) : Host.Outcome State Fault Refusal :=
  need (wellFormed (.descCreate path ctx)) (s.onCmd path (okey (0x2800 + ctx) 3) (fun s => descCreate s path ctx))

/-- DESC_DESTROY (R117). -/
def execDescDestroy (path ctx v : Nat) (s : State) : Host.Outcome State Fault Refusal :=
  need (wellFormed (.descDestroy path ctx v))
    (s.onWrite path (okey (0x2800 + ctx) 5) (if v ≤ 4095 then none else some 3) (fun s => descDestroy s ctx v))

/-- C6_FLUSH (R136). -/
def execC6Flush (path ctx : Nat) (s : State) : Host.Outcome State Fault Refusal :=
  need (wellFormed (.c6Flush path ctx)) (s.onCmd path (okey (0x2800 + ctx) 9) (fun s => c6Flush s ctx))

/-- C6_FLUSH_COMPLETE (R136). -/
def execC6FlushComplete (ctx : Nat) (s : State) : Host.Outcome State Fault Refusal :=
  need (wellFormed (.c6FlushComplete ctx)) (c6FlushComplete s ctx)

/-- MAP (R151). -/
def execMapRegion (path : Nat) (s : State) : Host.Outcome State Fault Refusal :=
  need (wellFormed (.mapRegion path)) (s.onCmd path (okey 0x3010 5) (fun s => mapRegion s path))

/-- UNMAP (R151). -/
def execUnmap (path : Nat) (s : State) : Host.Outcome State Fault Refusal :=
  need (wellFormed (.unmap path)) (s.onCmd path (okey 0x3010 5) (fun s => unmapRegion s path))

/-- TRIM (R151). -/
def execTrim (path : Nat) (s : State) : Host.Outcome State Fault Refusal :=
  need (wellFormed (.trim path)) (s.onCmd path (okey 0x3010 5) (fun s => trimRegion s path))

/-- DISCARD (R151). -/
def execDiscard (path : Nat) (s : State) : Host.Outcome State Fault Refusal :=
  need (wellFormed (.discard path)) (s.onCmd path (okey 0x3010 5) (fun s => discardRegion s path))

/-- ALLOC_GRANT (R152). -/
def execAllocGrant (path ctx : Nat) (s : State) : Host.Outcome State Fault Refusal :=
  need (wellFormed (.allocGrant path ctx)) (s.onCmd path (okey (0x3100 + ctx) 4) (fun s => allocGrant s path ctx))

/-- ALLOC_RELEASE (R152). -/
def execAllocRelease (path ctx : Nat) (s : State) : Host.Outcome State Fault Refusal :=
  need (wellFormed (.allocRelease path ctx)) (s.onCmd path (okey (0x3100 + ctx) 4) (fun s => allocRelease s path ctx))

/-- FRAME_TO_POOL (R154). -/
def execFrameToPool (path ctx : Nat) (s : State) : Host.Outcome State Fault Refusal :=
  need (wellFormed (.frameToPool path ctx)) (s.onCmd path (okey 0x3011 3) (fun s => frameToPool s path ctx))

/-- FRAME_TO_FREE (R154). -/
def execFrameToFree (path : Nat) (s : State) : Host.Outcome State Fault Refusal :=
  need (wellFormed (.frameToFree path)) (s.onCmd path (okey 0x3011 3) (fun s => frameToFree s path))

/-- HOSTWIN_ADDR_WRITE (R149). -/
def execHostwinAddrWrite (path v : Nat) (s : State) : Host.Outcome State Fault Refusal :=
  need (wellFormed (.hostwinAddrWrite path v)) (hostwinAddrWrite s path v)

/-- FLASH_SCRUB_NOW (R174). -/
def execFlashScrubNow (path q : Nat) (s : State) : Host.Outcome State Fault Refusal :=
  need (wellFormed (.flashScrubNow path q)) (s.onCmd path (okey (0x3400 + q) 0x0B) (fun s => flashScrubNow s q))

/-- FLASH_BACKGROUND_SCRUB (R146). -/
def execFlashBackgroundScrub (q : Nat) (read : List (Nat × Nat)) (weak : List BlockMove) (uncorr : Nat) (passEnd : Bool)
    (s : State) : Host.Outcome State Fault Refusal :=
  need (wellFormed (.flashBackgroundScrub q read weak uncorr passEnd)) (flashScrub s q read weak uncorr passEnd)

/-- READ_DISTURB_RELOCATION (R146). -/
def execReadDisturbRelocation (q : Nat) (b : BlockMove) (s : State) : Host.Outcome State Fault Refusal :=
  need (wellFormed (.readDisturbRelocation q b)) (readDisturb s q b)

/-- STATIC_WEAR_LEVELLING (R146). -/
def execStaticWearLevelling (q : Nat) (b : BlockMove) (s : State) : Host.Outcome State Fault Refusal :=
  need (wellFormed (.staticWearLevelling q b)) (wearLevel s q b)

/-- GARBAGE_COLLECTION (R146). -/
def execGarbageCollection (q block bytes spare uncorr : Nat) (s : State) : Host.Outcome State Fault Refusal :=
  need (wellFormed (.garbageCollection q block bytes spare uncorr)) (garbageCollect s q block bytes spare uncorr)

/-- DDR_PATROL_SCRUB (R145). -/
def execDdrPatrolScrub (q corrected uncorr : Nat) (s : State) : Host.Outcome State Fault Refusal :=
  need (wellFormed (.ddrPatrolScrub q corrected uncorr)) (ddrScrub s q corrected uncorr)

end Sys2Proof.Machine
end

