-- ==== Sys2Proof/Machine/Dispatch.lean ====
section
/-!
DEFINITION. One arm per command: one direct call of its meaning.
-/

namespace Sys2Proof.Machine

/-- The effect of a command on everything but the queue. -/
def exec (i : Instr) (s : State) : Host.Outcome State Fault Refusal :=
  match i with
  | .nop sh => Sys2Proof.Machine.execNop sh s
  | .settle sh => Sys2Proof.Machine.execSettle sh s
  | .stepmark sh => Sys2Proof.Machine.execStepmark sh s
  | .endStream sh => Sys2Proof.Machine.execEndStream sh s
  | .commandComplete id => Sys2Proof.Machine.execCommandComplete id s
  | .postArrival j => Sys2Proof.Machine.execPostArrival j s
  | .creditReturn j => Sys2Proof.Machine.execCreditReturn j s
  | .stopStepWrite path ctx v => Sys2Proof.Machine.execStopStepWrite path ctx v s
  | .mma m sampled => Sys2Proof.Machine.execMma m sampled s
  | .mmaRowIssue e => Sys2Proof.Machine.execMmaRowIssue e s
  | .preload m sampled => Sys2Proof.Machine.execPreload m sampled s
  | .drain m => Sys2Proof.Machine.execDrain m s
  | .topk m => Sys2Proof.Machine.execTopk m s
  | .tilerel m => Sys2Proof.Machine.execTilerel m s
  | .cvtsc m => Sys2Proof.Machine.execCvtsc m s
  | .cvtcl m => Sys2Proof.Machine.execCvtcl m s
  | .vld m => Sys2Proof.Machine.execVld m s
  | .vst m => Sys2Proof.Machine.execVst m s
  | .vstat m => Sys2Proof.Machine.execVstat m s
  | .vimm m => Sys2Proof.Machine.execVimm m s
  | .vsel m => Sys2Proof.Machine.execVsel m s
  | .vadd m => Sys2Proof.Machine.execVadd m s
  | .vsub m => Sys2Proof.Machine.execVsub m s
  | .vmul m => Sys2Proof.Machine.execVmul m s
  | .vfma m => Sys2Proof.Machine.execVfma m s
  | .vfnma m => Sys2Proof.Machine.execVfnma m s
  | .vmax m => Sys2Proof.Machine.execVmax m s
  | .vmin m => Sys2Proof.Machine.execVmin m s
  | .vabs m => Sys2Proof.Machine.execVabs m s
  | .vneg m => Sys2Proof.Machine.execVneg m s
  | .vdiv m => Sys2Proof.Machine.execVdiv m s
  | .vsqrt m => Sys2Proof.Machine.execVsqrt m s
  | .vrcp m => Sys2Proof.Machine.execVrcp m s
  | .vrsqrt m => Sys2Proof.Machine.execVrsqrt m s
  | .vexp2 m => Sys2Proof.Machine.execVexp2 m s
  | .vlog2 m => Sys2Proof.Machine.execVlog2 m s
  | .vexp m => Sys2Proof.Machine.execVexp m s
  | .vtanh m => Sys2Proof.Machine.execVtanh m s
  | .verf m => Sys2Proof.Machine.execVerf m s
  | .vrsum m => Sys2Proof.Machine.execVrsum m s
  | .vrmax m => Sys2Proof.Machine.execVrmax m s
  | .vrmin m => Sys2Proof.Machine.execVrmin m s
  | .vrdot m => Sys2Proof.Machine.execVrdot m s
  | .vcmp m => Sys2Proof.Machine.execVcmp m s
  | .kop m => Sys2Proof.Machine.execKop m s
  | .kcol m => Sys2Proof.Machine.execKcol m s
  | .fill m err => Sys2Proof.Machine.execFill m err s
  | .spill m err => Sys2Proof.Machine.execSpill m err s
  | .winset sh => Sys2Proof.Machine.execWinset sh s
  | .move m err => Sys2Proof.Machine.execMove m err s
  | .stage m => Sys2Proof.Machine.execStage m s
  | .stageComplete id err => Sys2Proof.Machine.execStageComplete id err s
  | .evict m => Sys2Proof.Machine.execEvict m s
  | .evictDrainEnd id => Sys2Proof.Machine.execEvictDrainEnd id s
  | .evictComplete id err => Sys2Proof.Machine.execEvictComplete id err s
  | .clean m => Sys2Proof.Machine.execClean m s
  | .cleanComplete id err => Sys2Proof.Machine.execCleanComplete id err s
  | .descCreate path ctx => Sys2Proof.Machine.execDescCreate path ctx s
  | .descDestroy path ctx v => Sys2Proof.Machine.execDescDestroy path ctx v s
  | .c6Flush path ctx => Sys2Proof.Machine.execC6Flush path ctx s
  | .c6FlushComplete ctx => Sys2Proof.Machine.execC6FlushComplete ctx s
  | .mapRegion path => Sys2Proof.Machine.execMapRegion path s
  | .unmap path => Sys2Proof.Machine.execUnmap path s
  | .trim path => Sys2Proof.Machine.execTrim path s
  | .discard path => Sys2Proof.Machine.execDiscard path s
  | .allocGrant path ctx => Sys2Proof.Machine.execAllocGrant path ctx s
  | .allocRelease path ctx => Sys2Proof.Machine.execAllocRelease path ctx s
  | .frameToPool path ctx => Sys2Proof.Machine.execFrameToPool path ctx s
  | .frameToFree path => Sys2Proof.Machine.execFrameToFree path s
  | .hostwinAddrWrite path v => Sys2Proof.Machine.execHostwinAddrWrite path v s
  | .flashScrubNow path q => Sys2Proof.Machine.execFlashScrubNow path q s
  | .flashBackgroundScrub q read weak uncorr passEnd => Sys2Proof.Machine.execFlashBackgroundScrub q read weak uncorr passEnd s
  | .readDisturbRelocation q b => Sys2Proof.Machine.execReadDisturbRelocation q b s
  | .staticWearLevelling q b => Sys2Proof.Machine.execStaticWearLevelling q b s
  | .garbageCollection q block bytes spare uncorr => Sys2Proof.Machine.execGarbageCollection q block bytes spare uncorr s
  | .ddrPatrolScrub q corrected uncorr => Sys2Proof.Machine.execDdrPatrolScrub q corrected uncorr s
  | .codewordReceive lane message parity => Sys2Proof.Machine.execCodewordReceive lane message parity s
  | .frameReceive link f crc => Sys2Proof.Machine.execFrameReceive link f crc s
  | .frameSend link => Sys2Proof.Machine.execFrameSend link s
  | .retransmitTimeout link => Sys2Proof.Machine.execRetransmitTimeout link s
  | .laneLossOfLock lane => Sys2Proof.Machine.execLaneLossOfLock lane s
  | .laneErrorThreshold lane => Sys2Proof.Machine.execLaneErrorThreshold lane s
  | .linkTrain path link => Sys2Proof.Machine.execLinkTrain path link s
  | .linkDisable path link => Sys2Proof.Machine.execLinkDisable path link s
  | .linkRetrain path link => Sys2Proof.Machine.execLinkRetrain path link s
  | .trainingComplete link lanes => Sys2Proof.Machine.execTrainingComplete link lanes s
  | .trainingTimeout link => Sys2Proof.Machine.execTrainingTimeout link s
  | .retrainComplete link lanes => Sys2Proof.Machine.execRetrainComplete link lanes s
  | .retrainTimeout link => Sys2Proof.Machine.execRetrainTimeout link s
  | .dataFrame plane => Sys2Proof.Machine.execDataFrame plane s
  | .endFrame plane => Sys2Proof.Machine.execEndFrame plane s
  | .ecredFrame plane => Sys2Proof.Machine.execEcredFrame plane s
  | .beatFrame plane => Sys2Proof.Machine.execBeatFrame plane s
  | .abortFrame plane => Sys2Proof.Machine.execAbortFrame plane s
  | .commitFrame plane => Sys2Proof.Machine.execCommitFrame plane s
  | .creditFrame plane => Sys2Proof.Machine.execCreditFrame plane s
  | .epochCmd path ctx => Sys2Proof.Machine.execEpochCmd path ctx s
  | .memberEntryWrite path ctx v => Sys2Proof.Machine.execMemberEntryWrite path ctx v s
  | .selfWrite path ctx v => Sys2Proof.Machine.execSelfWrite path ctx v s
  | .beatTimer ctx => Sys2Proof.Machine.execBeatTimer ctx s
  | .noProgress ctx member => Sys2Proof.Machine.execNoProgress ctx member s
  | .rs m => Sys2Proof.Machine.execRs m s
  | .ag m => Sys2Proof.Machine.execAg m s
  | .ar m => Sys2Proof.Machine.execAr m s
  | .sendStep m => Sys2Proof.Machine.execSendStep m s
  | .recvStep m => Sys2Proof.Machine.execRecvStep m s
  | .a2a m => Sys2Proof.Machine.execA2a m s
  | .ring m => Sys2Proof.Machine.execRing m s
  | .commitStep m => Sys2Proof.Machine.execCommitStep m s
  | .collectiveComplete id => Sys2Proof.Machine.execCollectiveComplete id s
  | .commitComplete id => Sys2Proof.Machine.execCommitComplete id s
  | .rdReq q x => Sys2Proof.Machine.execRdReq q x s
  | .rdData q x => Sys2Proof.Machine.execRdData q x s
  | .wrData q x => Sys2Proof.Machine.execWrData q x s
  | .wrAck q x => Sys2Proof.Machine.execWrAck q x s
  | .grad q x => Sys2Proof.Machine.execGrad q x s
  | .emitTransfer q x => Sys2Proof.Machine.execEmitTransfer q x s
  | .granDone q x => Sys2Proof.Machine.execGranDone q x s
  | .errTransfer q x => Sys2Proof.Machine.execErrTransfer q x s
  | .stepset q x => Sys2Proof.Machine.execStepset q x s
  | .granuleHandoff id => Sys2Proof.Machine.execGranuleHandoff id s
  | .granuleApply q j => Sys2Proof.Machine.execGranuleApply q j s
  | .granuleComplete q j => Sys2Proof.Machine.execGranuleComplete q j s
  | .setStep path ctx => Sys2Proof.Machine.execSetStep path ctx s
  | .rollForward path ctx => Sys2Proof.Machine.execRollForward path ctx s
  | .emitStep path ctx => Sys2Proof.Machine.execEmitStep path ctx s
  | .snapshot path ctx => Sys2Proof.Machine.execSnapshot path ctx s
  | .restoreStep path ctx => Sys2Proof.Machine.execRestoreStep path ctx s
  | .stepActionComplete ctx => Sys2Proof.Machine.execStepActionComplete ctx s
  | .weightLoad path ctx => Sys2Proof.Machine.execWeightLoad path ctx s
  | .weightSwitch path ctx => Sys2Proof.Machine.execWeightSwitch path ctx s
  | .revert path ctx => Sys2Proof.Machine.execRevert path ctx s
  | .slotFillStart ctx => Sys2Proof.Machine.execSlotFillStart ctx s
  | .slotReady ctx => Sys2Proof.Machine.execSlotReady ctx s
  | .batchSubmit path ctx => Sys2Proof.Machine.execBatchSubmit path ctx s
  | .batchAdmit ctx order => Sys2Proof.Machine.execBatchAdmit ctx order s
  | .slotTokenPost ctx => Sys2Proof.Machine.execSlotTokenPost ctx s
  | .batchComplete ctx => Sys2Proof.Machine.execBatchComplete ctx s
  | .resAck path r v => Sys2Proof.Machine.execResAck path r v s
  | .resWordRead path r => Sys2Proof.Machine.execResWordRead path r s
  | .planLoad path ctx => Sys2Proof.Machine.execPlanLoad path ctx s
  | .unload path ctx => Sys2Proof.Machine.execUnload path ctx s
  | .unloadComplete ctx busy => Sys2Proof.Machine.execUnloadComplete ctx busy s
  | .resumePlan path ctx => Sys2Proof.Machine.execResumePlan path ctx s
  | .preempt path ctx => Sys2Proof.Machine.execPreempt path ctx s
  | .cancel path ctx => Sys2Proof.Machine.execCancel path ctx s
  | .clearPlacement path ctx => Sys2Proof.Machine.execClearPlacement path ctx s
  | .tallyClear path ctx => Sys2Proof.Machine.execTallyClear path ctx s
  | .placement ctx => Sys2Proof.Machine.execPlacement ctx s
  | .coreClearComplete n => Sys2Proof.Machine.execCoreClearComplete n s
  | .schedulerEvaluate => Sys2Proof.Machine.execSchedulerEvaluate s
  | .sliceExpiry ctx => Sys2Proof.Machine.execSliceExpiry ctx s
  | .saveStart n busy => Sys2Proof.Machine.execSaveStart n busy s
  | .saveComplete ctx => Sys2Proof.Machine.execSaveComplete ctx s
  | .restoreComplete n => Sys2Proof.Machine.execRestoreComplete n s
  | .preemptOverrun ctx => Sys2Proof.Machine.execPreemptOverrun ctx s
  | .scalerRecord => Sys2Proof.Machine.execScalerRecord s
  | .scalerExport path ctx => Sys2Proof.Machine.execScalerExport path ctx s
  | .scalerImport path ctx => Sys2Proof.Machine.execScalerImport path ctx s
  | .scalerWindowWrite path ctx v => Sys2Proof.Machine.execScalerWindowWrite path ctx v s
  | .checkStart cap e => Sys2Proof.Machine.execCheckStart cap e s
  | .checkComplete cap flip => Sys2Proof.Machine.execCheckComplete cap flip s
  | .arbitrationComplete cap e flip => Sys2Proof.Machine.execArbitrationComplete cap e flip s
  | .xchkExport path => Sys2Proof.Machine.execXchkExport path s
  | .xchkRun path => Sys2Proof.Machine.execXchkRun path s
  | .blazeSign => Sys2Proof.Machine.execBlazeSign s
  | .faultRecordRead path => Sys2Proof.Machine.execFaultRecordRead path s
  | .w1cFlagClear path idx sub hwSet => Sys2Proof.Machine.execW1cFlagClear path idx sub hwSet s
  | .snagDeclare cycle => Sys2Proof.Machine.execSnagDeclare cycle s
  | .dumpCmd path v => Sys2Proof.Machine.execDumpCmd path v s
  | .observationReadTimeout node ctx read => Sys2Proof.Machine.execObservationReadTimeout node ctx read s
  | .dumpComplete => Sys2Proof.Machine.execDumpComplete s
  | .dumpRelease path v => Sys2Proof.Machine.execDumpRelease path v s
  | .fbCore path => Sys2Proof.Machine.execFbCore path s
  | .fbCluster path => Sys2Proof.Machine.execFbCluster path s
  | .fbLandingStack path => Sys2Proof.Machine.execFbLandingStack path s
  | .fbLinkPlane path => Sys2Proof.Machine.execFbLinkPlane path s
  | .fbPlaner path => Sys2Proof.Machine.execFbPlaner path s
  | .fbDie path => Sys2Proof.Machine.execFbDie path s
  | .fbModule path => Sys2Proof.Machine.execFbModule path s
  | .firebreakReset => Sys2Proof.Machine.execFirebreakReset s
  | .firebreakComplete => Sys2Proof.Machine.execFirebreakComplete s
  | .replayStart path => Sys2Proof.Machine.execReplayStart path s
  | .replayEnd path => Sys2Proof.Machine.execReplayEnd path s
  | .registerWrite path idx sub v => Sys2Proof.Machine.execRegisterWrite path idx sub v s
  | .bar0ReadRequest off dws be locked => Sys2Proof.Machine.execBar0ReadRequest off dws be locked s
  | .bar0WriteRequest off be data poisoned => Sys2Proof.Machine.execBar0WriteRequest off be data poisoned s
  | .u64SlotRead idx sub => Sys2Proof.Machine.execU64SlotRead idx sub s
  | .segOpenRead k => Sys2Proof.Machine.execSegOpenRead k s
  | .segOpenWrite k => Sys2Proof.Machine.execSegOpenWrite k s
  | .segCommit k => Sys2Proof.Machine.execSegCommit k s
  | .segClose k => Sys2Proof.Machine.execSegClose k s
  | .segWindowWrite k w v => Sys2Proof.Machine.execSegWindowWrite k w v s
  | .mgmtFrameReceive f => Sys2Proof.Machine.execMgmtFrameReceive f s
  | .neighborSolicitation f => Sys2Proof.Machine.execNeighborSolicitation f s
  | .echoRequest f => Sys2Proof.Machine.execEchoRequest f s
  | .bdpRequest d src => Sys2Proof.Machine.execBdpRequest d src s
  | .bdpRead sess => Sys2Proof.Machine.execBdpRead sess s
  | .bdpWrite sess => Sys2Proof.Machine.execBdpWrite sess s
  | .notifySend => Sys2Proof.Machine.execNotifySend s
  | .mgmtKeyWrite path key => Sys2Proof.Machine.execMgmtKeyWrite path key s
  | .doeDiscovery index => Sys2Proof.Machine.execDoeDiscovery index s
  | .doeBdpOperation d => Sys2Proof.Machine.execDoeBdpOperation d s
  | .powerCmdRun path => Sys2Proof.Machine.execPowerCmdRun path s
  | .powerCmdFallow path => Sys2Proof.Machine.execPowerCmdFallow path s
  | .powerCmdDormant path => Sys2Proof.Machine.execPowerCmdDormant path s
  | .powerTransitionComplete => Sys2Proof.Machine.execPowerTransitionComplete s
  | .wakeOnAccess src => Sys2Proof.Machine.execWakeOnAccess src s
  | .coreGateOff n => Sys2Proof.Machine.execCoreGateOff n s
  | .clusterGateOff c => Sys2Proof.Machine.execClusterGateOff c s
  | .domainPowerOnComplete d => Sys2Proof.Machine.execDomainPowerOnComplete d s
  | .sensorSample sensor raw => Sys2Proof.Machine.execSensorSample sensor raw s
  | .overcurrentTrip rail phase => Sys2Proof.Machine.execOvercurrentTrip rail phase s
  | .powerStageShutdown rail => Sys2Proof.Machine.execPowerStageShutdown rail s
  | .inputVoltage mv => Sys2Proof.Machine.execInputVoltage mv s
  | .inputPowerLoss => Sys2Proof.Machine.execInputPowerLoss s
  | .powerOn => Sys2Proof.Machine.execPowerOn s
  | .pllLossOfLock pll => Sys2Proof.Machine.execPllLossOfLock pll s
  | .pllRelock pll => Sys2Proof.Machine.execPllRelock pll s
  | .refclkStop => Sys2Proof.Machine.execRefclkStop s
  | .cruiseSurvey => Sys2Proof.Machine.execCruiseSurvey s
  | .cruiseCmd path => Sys2Proof.Machine.execCruiseCmd path s
  | .clusterSurveyComplete c slacks => Sys2Proof.Machine.execClusterSurveyComplete c slacks s
  | .scrubExcursion q => Sys2Proof.Machine.execScrubExcursion q s
  | .scrubExcursionComplete q => Sys2Proof.Machine.execScrubExcursionComplete q s
  | .macEnergyWindow energy rows => Sys2Proof.Machine.execMacEnergyWindow energy rows s
  | .poweredHours => Sys2Proof.Machine.execPoweredHours s
  | .perstAssert => Sys2Proof.Machine.execPerstAssert s
  | .perstRelease => Sys2Proof.Machine.execPerstRelease s
  | .bootStageComplete => Sys2Proof.Machine.execBootStageComplete s
  | .bootTimeout code => Sys2Proof.Machine.execBootTimeout code s
  | .fwBegin path => Sys2Proof.Machine.execFwBegin path s
  | .fwEraseComplete => Sys2Proof.Machine.execFwEraseComplete s
  | .fwChunkWrite path data => Sys2Proof.Machine.execFwChunkWrite path data s
  | .fwVerify path => Sys2Proof.Machine.execFwVerify path s
  | .fwAbort path => Sys2Proof.Machine.execFwAbort path s
  | .fwConfirm path => Sys2Proof.Machine.execFwConfirm path s
  | .fwSwitch path => Sys2Proof.Machine.execFwSwitch path s
  | .attCmd path => Sys2Proof.Machine.execAttCmd path s
  | .evidenceReady path => Sys2Proof.Machine.execEvidenceReady path s
  | .selftest path => Sys2Proof.Machine.execSelftest path s
  | .selftestComplete engines limbers => Sys2Proof.Machine.execSelftestComplete engines limbers s
  | .probeEnable path => Sys2Proof.Machine.execProbeEnable path s
  | .probeDisable path => Sys2Proof.Machine.execProbeDisable path s
  | .pcieHotReset => Sys2Proof.Machine.execPcieHotReset s
  | .d3hotEntry => Sys2Proof.Machine.execD3hotEntry s
  | .msixUnmask v => Sys2Proof.Machine.execMsixUnmask v s
  | .completionTimeout id => Sys2Proof.Machine.execCompletionTimeout id s
  | .refclkReturn => Sys2Proof.Machine.execRefclkReturn s
  | .portLinkUp => Sys2Proof.Machine.execPortLinkUp s
  | .portLinkDown => Sys2Proof.Machine.execPortLinkDown s
  | .d3hotExit => Sys2Proof.Machine.execD3hotExit s
  | .fwUnitProgrammed => Sys2Proof.Machine.execFwUnitProgrammed s

end Sys2Proof.Machine
end

