-- ==== Sys2Proof/Machine/Tick.lean ====
section
/-!
DEFINITION. The clock: what one SCLK cycle in which no command's event falls does (R9, R42). Counters of time, the energy meters,
codewords on the links, samples of the Snag and the reads of a dump advance here; every other effect waits for its command (log
entries 2, 7, 9).
-/

namespace Sys2Proof.Machine

/-! ### Waits of Limber (R94) -/

/-- The destination of a Limber instruction: a vector register, or 64 and a mask register (R95, R96, R103). -/
def limberDest (w : W128) : Option Nat :=
  let op := fld w 127 120
  if op = 0x61 || op = 0x62 then none
  else if 0x80 ≤ op then some (64 + fld w 77 74)
  else some (fld w 77 72)

/-- The source registers and masks of a Limber instruction (R95, R96, R103). -/
def limberSources (w : W128) : List Nat :=
  let op := fld w 127 120
  let mask := 64 + vmask w
  if op = 0x60 then [64 + lsMask w]
  else if op = 0x61 then [fld w 77 72, 64 + lsMask w]
  else if op = 0x62 || op = 0x82 then []
  else if op = 0x63 then [mask]
  else if op = 0x81 then [64 + fld w 73 70, 64 + fld w 69 66]
  else if op = 0x6B || op = 0x6C || op = 0x7F then [va w, vb w, vc w, mask]
  else if 0x7C ≤ op && op ≤ 0x7E then [va w, vc w, mask]
  else if op = 0x64 || (0x68 ≤ op && op ≤ 0x6E) || op = 0x71 || op = 0x80 then [va w, vb w, mask]
  else [va w, mask]

/-- The scratchpad bytes that a VLD reads or a VST writes in its active lanes (R103, R105). -/
def lsBytes (d : CoreData) (w : W128) : List Nat :=
  let f := lsFmt w
  let base := 64 * fld w 62 47
  (((List.range 256).filter (d.active (lsMask w))).flatMap (fun l =>
    let p := lanePos w (fld w 127 120 = 0x60) l
    let o := base + p.1 * f.rowBytes + p.2 * f.width / 8
    (List.range (ceilDiv f.width 8)).map (o + ·) ++ (if f.isMx then [base + 64 * f.rowBytes + 2 * p.1 + p.2 / 32] else []))).eraseDups

/-- Whether an instruction waits for an earlier one of its queue that has issued and not completed (R94). -/
def limberWaits (d : CoreData) (f g : Flight) : Bool :=
  (match limberDest g.w0 with | some r => (limberSources f.w0).contains r | none => false)
    || (f.op = 0x60 && g.op = 0x61 && (lsBytes d f.w0).any (lsBytes d g.w0).contains)

/-- Whether the head of a core's Limber queue waits under R94. -/
def State.limberStalled (s : State) (n : Nat) : Bool :=
  let fs := s.coreFlights n .limber
  match fs.find? (fun f => f.phase = .queued) with
  | none => false
  | some f => fs.any (fun g => g.phase ≠ .queued && g.id < f.id && limberWaits (s.core n).data f g)

/-! ### What a cycle counts -/

/-- A counter and what a cycle adds to it. -/
abbrev Count := Nat × Nat

/-- One count where a condition holds. -/
def countIf (p : Bool) (k n : Nat) : List Count := if p then [(k, n)] else []

/-- Whether a context's head step waits for an entry of some unit's queue while another context holds entries there (R284). -/
def State.queueWaits (s : State) (ctx : Nat) : Bool :=
  ((List.range 21).map (· + 128)).any (fun u => match s.head (.unit u ctx) with
    | none => false
    | some h => 3 < fld h.w 127 120 && !s.barred h && s.condTokens h && s.condCredits h && !s.condQueue h .unit
        && s.flights.any (fun f => f.owner = u && f.ctx ≠ ctx && f.phase = .queued))

/-- The Tally of a context (R284). -/
def State.tallyCounts (s : State) (i : Nat) : List Count :=
  let c := s.ctx i
  let k := fun j => okey (ctxIdx i) j
  countIf (c.st = .placed) (k 0x10) 1 ++ countIf (c.st = .waiting && c.firstWait) (k 0x11) 1
    ++ countIf (c.st = .saving || c.st = .saved || c.st = .restoring) (k 0x12) 1
    ++ countIf (s.queueWaits i) (k 0x13) 1 ++ countIf c.held (k 0x14) 1

/-- A core's engines, Limber and move port: scoreboard waits, ACLK with a started MMA and no row issued, with the head of Limber's
queue waiting, with a started move and no byte moved (R83, R88, R94, R109, R159). -/
def State.coreCounts (s : State) (n : Nat) : List Count :=
  let sb := match s.head (.core n) with
    | some h => countIf ((s.waitOf h).kind = 4) (okey (0x9000 + 4 * n + s.cmdEng n h.w) 5) 1
    | none => []
  let feed := (List.range 4).flatMap (fun j =>
    countIf ((s.mmas n (.engine j)).any (fun f => f.rows < 64 * (mmaBody f.w0).kc)) (okey (0x9000 + 4 * n + j) 6) 2)
  sb ++ feed ++ countIf (s.limberStalled n) (okey (0x8000 + n) 0x0A) 2
    ++ countIf ((s.coreFlights n .movePort).any (fun f => f.phase ≠ .queued)) (okey (0x8000 + n) 0x0E) 2

/-- Whether a frame of a link waits for credits (R187). -/
def State.waitsCredits (s : State) (n : Nat) : Bool :=
  let l := s.link n
  let own := ((l.vc1.take 1) ++ (l.vc0.take 1)).map (fun o => o.frame)
  let steps := if n < 16 then (s.colls.filter (fun x => x.yarder = n / 2)).filterMap (fun x =>
    (x.sendable n).map (fun o => o.frame)) else []
  l.live && (own ++ steps).any (fun f => !l.fits f)

/-- Whether received data of a started step waits for Yarder c's reduce unit (R214). -/
def State.reduceWaits (s : State) (c : Nat) : Bool :=
  s.colls.any (fun x => x.yarder = c && x.started && x.rx ≠ [] && ((s.collOf x).op = 0xA0 || (s.collOf x).op = 0xA2))

/-- Skidders and host DMA engine with a started step, links and Yarders (R170, R187, R214). -/
def State.unitCounts (s : State) : List Count :=
  ([0x80, 0x81, 0x82, 0x83, 0x84, 0x85, 0x86, 0x87, 0x94].flatMap (fun u =>
      countIf (s.flights.any (fun f => f.owner = u && f.phase ≠ .queued)) (okey (moverIndex u) 6) 1))
    ++ (List.range 20).flatMap (fun n => countIf (s.waitsCredits n) (okey (linkIndex n) 8) 1)
    ++ (List.range 8).flatMap (fun c => countIf (s.reduceWaits c) (okey (0x4200 + c) 9) 1)

/-- Whether a granule at a Planer port waits for a region in motion (R237). -/
def State.regionWaits (s : State) (g : Granule) : Bool :=
  match s.streamOf (s.slot g.slot) with
  | none => false
  | some u => s.granPlace g.ctx (s.slot g.slot).image u.nstate g.gran g.step = .motion

/-- Planers: PCLK, three a SCLK, with an update core executing and with a granule waiting on pins; region waits (R224, R236, R237,
R247). -/
def State.planerCounts (s : State) : List Count :=
  ((List.range 4).flatMap (fun q =>
      countIf (s.rxBuf.any (fun g => g.q = q && g.phase ≠ .waiting)) (okey (0x3280 + q) 3) 3
        ++ countIf (s.portQ.any (fun g => g.q = q && s.regionWaits g)) (okey (0x3280 + q) 9) 1))
    ++ ((s.rxBuf.map (fun g => g.ctx)).eraseDups).flatMap (fun i =>
      countIf (s.rxBuf.any (fun g => g.ctx = i && g.phase = .waiting && (s.slot g.slot).pin (g.step % 2) ≠ 0)) (okey (0x32C0 + i) 0x0F) 3)

/-- The Landing's classes with a request pending, four FCLK a SCLK: a started command has its requests pending until its event
(R171, R174; log entry 9). -/
def State.classCounts (s : State) : List Count :=
  let runs := fun (p : Flight → Bool) => s.flights.any (fun f => f.phase = .running && p f)
  let k := fun j => okey 0x3510 (0x10 + j)
  countIf (s.colls.any (fun x => x.started)) (k 1) 4 ++ countIf (runs (fun f => f.owner < 128 && f.queue = .movePort)) (k 2) 4
    ++ countIf (s.reqs ≠ []) (k 3) 4 ++ countIf (runs (fun f => 0x80 ≤ f.owner && f.owner < 0x88)) (k 4) 4
    ++ countIf (runs (fun f => f.owner = 0x94)) (k 5) 4

/-- Everything that a cycle counts. -/
def State.cycleCounts (s : State) : List Count :=
  s.ctxs.flatMap (fun e => s.tallyCounts e.1) ++ (s.cores.filter (fun e => e.2.phase ≠ .free)).flatMap (fun e => s.coreCounts e.1)
    ++ s.unitCounts ++ s.planerCounts ++ s.classCounts

/-- Adds counts to 64-bit counters. -/
def State.addCounts (s : State) (cs : List Count) : State := cs.foldl (fun t c => t.addObj c.1 64 c.2) s

/-- The drains under way, of a pre-emption or an UNLOAD, get one SCLK older (R281, R282). -/
def State.ageDrains (s : State) : State :=
  { s with ctxs := s.ctxs.map (fun e =>
      if s.drains e.1 || e.2.st = .unloading then (e.1, { e.2 with drain := e.2.drain + 1 }) else e) }

/-! ### The cycle -/

/-- The energy meters: the input's power and each rail's, as last measured, over one SCLK; the units are 2.5 × 10^-12 J and
2.5 × 10^-12 mJ (R359, R372; log entry 9). -/
def State.meterEnergy (s : State) : State :=
  let add := fun (t : Tab Nat) (k p : Nat) => Tab.put 0 t k (Tab.get 0 t k + p)
  let t0 := add s.power.energy 0 (s.obj (okey 0x6010 3))
  { s with power := { s.power with
    sclk := s.power.sclk + 1
    energy := (List.range 12).foldl (fun t r => add t (1 + r) (s.obj (okey (0x6020 + r) 1) * s.obj (okey (0x6020 + r) 2))) t0 } }

/-- One codeword on every lane in use each 12.8 ns: 25 every 128 SCLK (R178). -/
def State.linkCycle (s : State) : State :=
  if s.power.sclk * 25 / 128 = (s.power.sclk - 1) * 25 / 128 then s
  else (List.range 20).foldl (fun t n => t.sendCodewords n) s

/-- A sample of the Snag every 256 LCLK, which are 4,096 SCLK (R314). -/
def State.snagCycle (s : State) : State := if s.power.sclk % 4096 = 0 then s.snagSample else s

/-- A dump under way takes one observation read every 4 SCLK (R319; log entry 63). -/
def State.dumpCycle (s : State) : State :=
  match s.writingDump with
  | some k => if s.power.sclk % 4 = 0 then s.takeRead k else s
  | none => s

/-- One SCLK cycle without a command's event; nothing happens while the Lookout does not run, and only the meters advance while the
die's clocks stand still (R9, R357, R361; log entries 7, 9). -/
def State.tick (s : State) : State :=
  if !s.lookoutRuns then s
  else
    let s1 := s.meterEnergy
    if !s1.dieRuns then s1
    else ((((s1.addCounts s1.cycleCounts).ageDrains).linkCycle).snagCycle).dumpCycle

end Sys2Proof.Machine
end

