-- ==== Sys2Proof/Safety.lean ====
section
/-!
DEFINITION. What counts as a safe run: what holds of every state the module can be in, and what one step may not do.
-/

namespace Sys2Proof.Machine

/-- The memories of the tiers and of the host are in canonical form, so that equal contents are equal data. -/
def State.memWf (s : State) : Bool := s.landing.wf && s.ddr.wf && s.flash.wf && s.host.wf

/-- Every command that waits carries operands within the numbering. -/
def State.queueWf (s : State) : Bool := s.pending.all wellFormed

/-- A step of a state is safe when it neither faults nor refuses. -/
def State.stepsOn (s : State) : Prop := ∃ t, step s = .next t

/-- The number of the next dispatched command lies above every number in use. -/
def State.idsBelow (s : State) : Bool := s.flights.all (fun f => f.id < s.nextId)

/-- At most one bank of the boot flash is ACTIVE (R376). -/
def Firmware.oneActive (f : Firmware) : Bool := f.bank0 ≠ .active || f.bank1 ≠ .active

end Sys2Proof.Machine
end

