-- ==== Sys2Proof/Certificates/Slice0/Obligations.lean ====
section
/-!
DEFINITION. What the spec's rules say the module does, as statements for the provers: one Prop each, family by family.
-/

open Sys2Proof Sys2Proof.Machine

/-- A step runs the command at the front of the queue on the state with the rest of the queue; on an empty queue one
SCLK passes (the model's choice, log entry 7) (R334, R9, R357). -/
def Obligations.StepRunsFrontCommand : Prop :=
  (∀ (c : Instr) (q : List Instr) (s : State), step { s with pending := c :: q } = exec c { s with pending := q })
  ∧ (∀ s : State, s.pending = [] → step s = .next s.tick)
  ∧ (∀ s : State, s.tick = { s with
      objs := s.tick.objs, power := s.tick.power, ctxs := s.tick.ctxs, links := s.tick.links, out := s.tick.out
      snag := s.tick.snag, dumps := s.tick.dumps })
  ∧ (∀ s : State, s.lookoutRuns = false → s.tick = s)
  ∧ (∀ (s : State) (i : Nat), { (s.tick.ctx i) with drain := 0 } = { (s.ctx i) with drain := 0 })
  ∧ (∀ (s : State) (nbits w : Nat), decodeTableWord nbits w = none ∧ s.withFetchWord nbits w = s)

/-- Reset: objects at their defaults, every table of contexts, tasks, tokens, descriptors, regions, frames and faults
empty (R17, R19, R36, R142, R143, R285, R290, R374). -/
def Obligations.ResetHoldsDefaults : Prop :=
  (∀ k, State.reset.obj k = objDefault k) ∧ (∀ p k, State.reset.pobj p k = objDefault k)
  ∧ State.reset.obj (okey 0x1480 1) = 0
  ∧ (∀ c, (State.reset.ctx c).st = .empty ∧ (State.reset.ctx c).held = false)
  ∧ (∀ n, (State.reset.core n).phase = .free)
  ∧ (∀ c o k, State.reset.avail c o k = 0 ∧ State.reset.credits c o k = 0)
  ∧ (∀ d, (Tab.get ({} : DescEntry) State.reset.descs d).st = .free)
  ∧ (∀ r, (Tab.get ({} : Region) State.reset.tmap r).home = .none)
  ∧ (∀ f, Tab.get .free State.reset.frames f = .free)
  ∧ (∀ l, (State.reset.link l).st = .disabled)
  ∧ State.reset.flights = [] ∧ State.reset.posts = [] ∧ State.reset.faults.ring = [] ∧ State.reset.portQ = []
  ∧ State.reset.rxBuf = [] ∧ State.reset.out = [] ∧ State.reset.pending = []

/-- Reset: the memories are canonical, one bank at most is ACTIVE, no dispatched command carries a number still to be
given (R376, R142, R30). -/
def Obligations.ResetMeetsInvariants : Prop :=
  State.reset.memWf = true ∧ State.reset.firmware.oneActive = true ∧ State.reset.idsBelow = true
  ∧ State.reset.queueWf = true

/-- Every step keeps the memories of the tiers and of the host in canonical form (R142, R143, R151, R212, R323). -/
def Obligations.StepKeepsMemoriesCanonical : Prop :=
  ∀ s t : State, s.memWf = true → step s = .next t → t.memWf = true

/-- Every step keeps at most one bank of the boot flash ACTIVE (R376, R384). -/
def Obligations.StepKeepsOneActiveBank : Prop :=
  ∀ s t : State, s.firmware.oneActive = true → step s = .next t → t.firmware.oneActive = true

/-- A step takes one command, withdraws nothing that has left the module, and never reuses a command number or a free
value (R34, R334). -/
def Obligations.StepKeepsQueueOrderAndOutputs : Prop :=
  ∀ s t : State, step s = .next t →
    t.pending = s.pending.tail ∧ s.out <+: t.out ∧ s.nextId ≤ t.nextId ∧ s.free ≤ t.free

/-- NOP, SETTLE and END dispatch when their waits are met: tokens and credits taken, the stream advanced, the post
issued (R24, R26, R28, R31, R36, R38). -/
def Obligations.ShellControlDispatches : Prop :=
  (∀ (s : State) (sh : Shell) (h : Head), sh.wf = true → s.readyHead sh 0x00 (fun _ => .none) = some h →
    exec (.nop sh) s =
      .next ((((s.acquire h).issuePost h.ctx h.owner h.w).freeEnded h.ctx h.owner).restCheck h.ctx))
  ∧ (∀ (s : State) (sh : Shell) (h : Head), sh.wf = true → s.readyHead sh 0x01 (fun _ => .none) = some h →
    exec (.settle sh) s = .next (if s.streamIdle h
      then (((s.acquire h).issuePost h.ctx h.owner h.w).freeEnded h.ctx h.owner).restCheck h.ctx else s))
  ∧ (∀ (s : State) (sh : Shell) (h : Head), sh.wf = true → s.readyHead sh 0x03 (fun _ => .none) = some h →
    exec (.endStream sh) s =
      .next (((((s.updStream h.ctx h.owner (fun x => { x with ended := true })).acquire h).issuePost h.ctx h.owner
        h.w).freeEnded h.ctx h.owner).restCheck h.ctx))
  ∧ (∀ (s : State) (h : Head),
      Tab.get 0 (s.acquire h).acq (ckey h.ctx h.owner (fld h.w 119 112))
        = Tab.get 0 s.acq (ckey h.ctx h.owner (fld h.w 119 112)) + BitVec.ofNat 16 (fld h.w 111 104)
      ∧ Tab.get 0 (s.acquire h).cred (ckey h.ctx h.owner (fld h.w 103 98))
        = Tab.get 0 s.cred (ckey h.ctx h.owner (fld h.w 103 98)) - BitVec.ofNat 16 (fld h.w 97 92)
      ∧ ((s.acquire h).stream h.ctx h.owner).pos = (s.stream h.ctx h.owner).pos + h.words.length
      ∧ (s.acquire h).objs = s.objs ∧ (s.acquire h).posts = s.posts ∧ (s.acquire h).flights = s.flights
      ∧ (∀ k, k ≠ ckey h.ctx h.owner (fld h.w 119 112) → Tab.get 0 (s.acquire h).acq k = Tab.get 0 s.acq k)
      ∧ (∀ k, k ≠ ckey h.ctx h.owner (fld h.w 103 98) → Tab.get 0 (s.acquire h).cred k = Tab.get 0 s.cred k))

/-- STEPMARK: one more than the previous mark, STEP_ORDER otherwise; the current step is the smallest mark (R27). -/
def Obligations.StepmarkKeepsStepOrder : Prop :=
  (∀ (s t : State) (sh : Shell) (h : Head), sh.wf = true → s.readyHead sh 0x02 (fun _ => .none) = some h →
    s.stopped h.ctx h.w = false →
    ((s.stream h.ctx h.owner).mark = none ∨ ∃ m, (s.stream h.ctx h.owner).mark = some m ∧ fld h.w 31 0 = m + 1) →
    pinStep s h (fld h.w 31 0) = .ok t →
    exec (.stepmark sh) s =
      .next (((((t.updStream h.ctx h.owner (fun x => { x with mark := some (fld h.w 31 0) })).acquire h).issuePost
        h.ctx h.owner h.w).freeEnded h.ctx h.owner).restCheck h.ctx))
  ∧ (∀ (s : State) (sh : Shell) (h : Head) (m : Nat), sh.wf = true →
    s.readyHead sh 0x02 (fun _ => .none) = some h → s.stopped h.ctx h.w = false →
    (s.stream h.ctx h.owner).mark = some m → fld h.w 31 0 ≠ m + 1 →
    exec (.stepmark sh) s =
      .next ((s.report 0x5002 1 h.unit (some h.ctx) 0 true false).hold h.ctx 0x5002))
  ∧ (∀ (s : State) (ctx : Nat), s.marks ctx = [] → s.curStep ctx = none)
  ∧ (∀ (s : State) (ctx n : Nat), s.curStep ctx = some n → n ∈ s.marks ctx ∧ ∀ m ∈ s.marks ctx, n ≤ m)
  ∧ (∀ (s : State) (ctx m : Nat), m ∈ s.marks ctx → ∃ n, s.curStep ctx = some n)
  ∧ (∀ (s : State) (ctx owner m : Nat), owner < 256 → (s.stream ctx owner).mark = some m → m ∈ s.marks ctx)

/-- A served STOP_STEP write takes effect at once, and a STEPMARK above STOP_STEP does not dispatch (R219, R220, R285,
R334). -/
def Obligations.StopStepHoldsStepmarks : Prop :=
  (∀ (s : State) (path ctx v : Nat), path < 18 → ctx < 64 → v < 2 ^ 32 → s.access path (0x2100 + ctx) = 0 →
    exec (.stopStepWrite path ctx v) s = .next ((s.setObj (okey (0x2100 + ctx) 9) v).restCheck ctx)
    ∧ ((s.setObj (okey (0x2100 + ctx) 9) v).restCheck ctx).obj (okey (0x2100 + ctx) 9) = v)
  ∧ (∀ (s : State) (sh : Shell) (h : Head), sh.wf = true → s.readyHead sh 0x02 (fun _ => .none) = some h →
    s.obj (okey (0x2100 + h.ctx) 9) < fld h.w 31 0 → exec (.stepmark sh) s = .next s)

/-- COMMAND_COMPLETE, POST_ARRIVAL and CREDIT_RETURN: completion posts, a bound post adds its tokens or credits,
others report (R30, R31, R32, R33, R34, R35, R36, R37). -/
def Obligations.PostsReachCounters : Prop :=
  (∀ (s : State) (id : Nat) (f : Flight), s.flight id = some f → f.phase = .done → completesPlainly f.op = true →
    s.inOrder f = true → s.dieRuns = true → s.ownerDown f.ctx f.owner = false →
    exec (.commandComplete id) s = .next (if 0x60 ≤ f.op ∧ f.op ≤ 0x8F
      then ((s.engineDone f).addObj (okey (0x8000 + f.core) 9) 64 1).complete f else (s.engineDone f).complete f))
  ∧ (∀ (s : State) (f : Flight), ((((s.dropFlight f.id).releaseCopies f.ctx f.descs).issuePost f.ctx f.owner
      f.w0).freeEnded f.ctx f.owner).flight f.id = none)
  ∧ (∀ (s : State) (ctx owner : Nat) (w : W128), fld w 91 90 = 0 → s.issuePost ctx owner w = s)
  ∧ (∀ (s : State) (ctx owner : Nat) (w : W128), fld w 91 90 = 1 → s.issuePost ctx owner w = { s with
      work := (s.shellWork ctx owner).work
      posts := s.posts ++ [{ ctx := ctx, producer := owner, target := owner, counter := fld w 89 82
                             amount := fld w 81 78, credit := false }] })
  ∧ (∀ (s : State) (ctx owner : Nat) (w : W128), 2 ≤ fld w 91 90 →
    let e := imgRoute (s.ctx ctx).image owner (fld w 89 82 % 64)
    (routeNames (s.ctx ctx).image e = false →
      s.issuePost ctx owner w = s.holdShell 0x5004 (s.unitOf ctx owner) ctx 0)
    ∧ (routeNames (s.ctx ctx).image e = true → s.issuePost ctx owner w = { s with
        work := (s.shellWork ctx owner).work
        posts := s.posts ++ (s.routeTargets ctx e).map (fun t =>
          { ctx := ctx, producer := owner, target := t, counter := bits e 17 10, amount := fld w 81 78
            credit := fld w 91 90 = 3 }) }))
  ∧ (∀ (s : State) (id : Nat) (f : Flight), s.flight id = some f →
    (f.phase ≠ .done ∨ completesPlainly f.op = false ∨ s.inOrder f = false) → exec (.commandComplete id) s = .next s)
  ∧ (∀ (s : State) (i : Nat) (p : Post), s.posts[i]? = some p → postReady s.posts i = true → p.credit = false →
    s.dieRuns = true → s.loaded p.ctx = true → (s.ctx p.ctx).broken = false → s.ownerDown p.ctx p.target = false →
    exec (.postArrival i) s =
      .next (State.wake (
        let r : State := { s with posts := s.posts.eraseIdx i }
        let k := ckey p.ctx p.target p.counter
        let a : State := { r with tok := Tab.put 0 r.tok k (Tab.get 0 r.tok k + BitVec.ofNat 16 p.amount) }
        if (imgBindsOf (s.ctx p.ctx).image p.target p.counter false).any (fun b => b.names p.producer) then
          if a.avail p.ctx p.target p.counter ≤ 32767 then a
          else a.holdShell 0x5003 (s.unitOf p.ctx p.target) p.ctx 0
        else r.holdShell 0x5004 (s.unitOf p.ctx p.target) p.ctx 0) p))
  ∧ (∀ (s : State) (i : Nat) (p : Post) (b : BindEntry), s.posts[i]? = some p → postReady s.posts i = true →
    p.credit = true → s.dieRuns = true → s.loaded p.ctx = true → (s.ctx p.ctx).broken = false →
    s.ownerDown p.ctx p.target = false →
    ((imgBindsOf (s.ctx p.ctx).image p.target p.counter true).filter (fun b => b.names p.producer)).head? = some b →
    exec (.creditReturn i) s =
      .next (State.wake (
        let r : State := { s with posts := s.posts.eraseIdx i }
        let k := ckey p.ctx p.target p.counter
        if (Tab.get 0 s.cred k).toNat + p.amount ≤ b.capacity then
          { r with cred := Tab.put 0 r.cred k (BitVec.ofNat 16 ((Tab.get 0 r.cred k).toNat + p.amount)) }
        else r.holdShell 0x5005 (s.unitOf p.ctx p.target) p.ctx 0) p))

def Sys2Proof.Claims.engineRows (sh : Shell) (b : Bool) : List (Instr × Nat × Bool) :=
  [(.mma (.dispatch sh) b, 0x10, b), (.preload (.dispatch sh) b, 0x11, b), (.drain (.dispatch sh), 0x12, false),
   (.topk (.dispatch sh), 0x13, false), (.tilerel (.dispatch sh), 0x14, false), (.cvtsc (.dispatch sh), 0x15, false),
   (.cvtcl (.dispatch sh), 0x16, false)]

/-- Engine commands pass the tile scoreboard in order and enter their engine's queue, claiming their tile as they
dispatch (R28, R63, R66, R82, R83, R299, R300). -/
def Obligations.EngineCommandsDispatch : Prop :=
  (∀ (s : State) (sh : Shell) (b : Bool) (h : Head), sh.wf = true → ∀ r ∈ Claims.engineRows sh b,
    s.readyHead sh r.2.1 (fun h => .engine (s.cmdEng h.core h.w)) = some h →
    admission (tileUse h.w) (s.tile h.core (s.cmdTile h.core h.w)) h.ctx = .pass →
    exec r.1 s = .next ((((s.claimTile h r.2.2).acquire h).launch
      { h.flight (.engine (s.cmdEng h.core h.w)) with pos := (s.stream h.ctx h.owner).pos }).restCheck h.ctx))
  ∧ (∀ (s : State) (h : Head), tileUse h.w = .opening →
      ((s.claimTile h false).tile h.core (s.cmdTile h.core h.w)) = { st := .opened, owner := h.ctx })
  ∧ (∀ (s : State) (h : Head), tileUse h.w = .releasing →
      ((s.claimTile h false).tile h.core (s.cmdTile h.core h.w))
        = { s.tile h.core (s.cmdTile h.core h.w) with st := .closing })
  ∧ (∀ (s : State) (h : Head) (b : Bool) (k : Nat), k ≠ s.cmdTile h.core h.w →
      (s.claimTile h b).tile h.core k = s.tile h.core k)
  ∧ (∀ (s : State) (sh : Shell) (b : Bool) (h : Head), sh.wf = true → ∀ r ∈ Claims.engineRows sh b,
    s.head sh = some h → fld h.w 127 120 = r.2.1 → s.barred h = false →
    let n := 4 * h.core + s.cmdEng h.core h.w
    (admission (tileUse h.w) (s.tile h.core (s.cmdTile h.core h.w)) h.ctx = .foreign →
      exec r.1 s = .next ((s.report 0x5006 1 h.unit (some h.ctx) (n * 8 + fld h.w 75 73) true false).hold h.ctx 0x5006))
    ∧ (admission (tileUse h.w) (s.tile h.core (s.cmdTile h.core h.w)) h.ctx = .refuse →
      exec r.1 s = .next ((s.report 0x5007 1 h.unit (some h.ctx) (n * 8 + fld h.w 75 73) true false).hold h.ctx 0x5007))
    ∧ (admission (tileUse h.w) (s.tile h.core (s.cmdTile h.core h.w)) h.ctx = .wait →
      exec r.1 s = .next (if (s.stream h.ctx h.owner).sbWait then s else
        (s.addObj (okey (0x9000 + n) 4) 32 1).updStream h.ctx h.owner (fun x => { x with sbWait := true }))))

/-- MMA starts when the pipeline is free and each row issue accumulates one row of 64 elements and touches nothing
else of the core (R60, R61, R63, R68, R76, R79, R80, R88). -/
def Obligations.MmaIssuesRowsInOrder : Prop :=
  (∀ (s : State) (id : Nat) (b : Bool) (f : Flight), s.startable id 0x10 = some f →
    exec (.mma (.start id) b) s = .next (if s.issueFree f then s.updFlight id (fun g => { g with phase := .running })
      else s))
  ∧ (∀ (s : State) (e : Nat) (f : Flight), e < 512 → s.dieRuns = true → s.unitDown (e / 4) = false →
    (s.mmas (e / 4) (.engine (e % 4))).find? (fun g => g.rows < 64 * (mmaBody g.w0).kc) = some f →
    let b := mmaBody f.w0
    let d := (s.core f.core).data
    let pos := s.cmdEng f.core f.w0
    let k := tileKey pos b.tile
    let i := f.rows % 64
    let c := f.rows / 64
    let bimg := if i = 0 then d.pad.copy (b.b + c * b.bfmt.slotBytes) b.bfmt.slotBytes {} 0 else f.bimg
    let arow := operandRow d.pad b.afmt b.atsc (b.a + c * b.afmt.slotBytes) b.ax i
    let row := (List.range 64).map (fun j => accumulate (valOf (Tab.get 0 (s.tile f.core k).els (64 * i + j)) ::
      List.zipWith Val.mul arow (operandCol bimg b.bfmt b.btsc 0 b.bx j)))
    let hashed := hashRow d.pad.rd b.afmt (b.a + c * b.afmt.slotBytes) b.ax i ++
      (if i = 63 then (List.range 64).flatMap (hashRow bimg.rd b.bfmt 0 b.bx) else [])
    let t := s.issueRow f
    exec (.mmaRowIssue e) s = .next (t.runReadout (e / 4) (.engine (e % 4)))
      ∧ (∀ j, j < 64 → Tab.get 0 (t.tile f.core k).els (64 * i + j) =
          (accumulate (valOf (Tab.get 0 (s.tile f.core k).els (64 * i + j)) ::
            List.zipWith Val.mul arow (operandCol bimg b.bfmt b.btsc 0 b.bx j))).1)
      ∧ (∀ x, x / 64 ≠ i → Tab.get 0 (t.tile f.core k).els x = Tab.get 0 (s.tile f.core k).els x)
      ∧ (t.tile f.core k).st = (s.tile f.core k).st ∧ (t.tile f.core k).owner = (s.tile f.core k).owner
      ∧ { t.tile f.core k with cap := none } = { (s.tile f.core k).writeRow i row with
          hash := crc32cRun ((s.tile f.core k).hash ^^^ 0xFFFFFFFF) hashed ^^^ 0xFFFFFFFF, cap := none }
      ∧ (∀ k', k' ≠ k → t.tile f.core k' = s.tile f.core k')
      ∧ (∀ n, n ≠ f.core → t.core n = s.core n)
      ∧ (t.core f.core).data.pad = d.pad ∧ (t.core f.core).data.sets = d.sets
      ∧ (t.core f.core).data.lanes = d.lanes
      ∧ t.obj (okey (0x9000 + (4 * f.core + pos)) 3) = (s.obj (okey (0x9000 + (4 * f.core + pos)) 3) + 1) % 2 ^ 64
      ∧ (let sat := (List.range 64).countP (fun j => (accumulate
            (valOf (Tab.get 0 (s.tile f.core k).els (64 * i + j)) ::
              List.zipWith Val.mul arow (operandCol bimg b.bfmt b.btsc 0 b.bx j))).2);
          t.obj (okey (0x9000 + (4 * f.core + pos)) 8) = (if sat = 0 then s.obj (okey (0x9000 + (4 * f.core + pos)) 8)
            else (s.obj (okey (0x9000 + (4 * f.core + pos)) 8) + sat) % 2 ^ 16))
      ∧ t.flights = s.flights.map (fun g => if g.id = f.id then { g with
          rows := f.rows + 1, bimg := bimg, phase := if f.rows + 1 = 64 * b.kc then .done else .running } else g)
      ∧ t.landing = s.landing ∧ t.ddr = s.ddr ∧ t.flash = s.flash ∧ t.host = s.host ∧ t.out = s.out
      ∧ t.tmap = s.tmap ∧ t.ctxs = s.ctxs ∧ t.tok = s.tok ∧ t.cred = s.cred)
  ∧ (∀ (s : State) (e : Nat), e < 512 →
    (s.dieRuns = false ∨ s.unitDown (e / 4) = true
      ∨ ∀ g ∈ s.mmas (e / 4) (.engine (e % 4)), 64 * (mmaBody g.w0).kc ≤ g.rows) → exec (.mmaRowIssue e) s = .next s)

/-- PRELOAD, DRAIN, TOPK and TILEREL: a tile's rows from a slot, a tile's conversion and record into the scratchpad,
lists merged in place (R59, R69, R72, R73, R74, R78, R81, R84, R293). -/
def Obligations.TilesPreloadDrainAndSort : Prop :=
  (∀ (s : State) (id : Nat) (b : Bool) (f : Flight), s.startable id 0x11 = some f →
    let d := (s.core f.core).data
    let k := s.cmdTile f.core f.w0
    let fmt := (Format.ofCode (fld f.w0 72 69)).getD .fp32
    ∃ t, exec (.preload (.start id) b) s = .next t
      ∧ (∀ i j, i < 64 → j < 64 → Tab.get 0 (t.tile f.core k).els (64 * i + j) =
          (decodeF32 0 ((operandRow d.pad fmt (fld f.w0 50 43) (64 * fld f.w0 66 51) (fld f.w0 68 68 = 1)
            (if fld f.w0 67 67 = 1 then 0 else i)).getD j .nan)).1)
      ∧ (∀ k', k' ≠ k → t.tile f.core k' = s.tile f.core k') ∧ (t.core f.core).data.pad = d.pad
      ∧ (t.core f.core).data.sets = d.sets ∧ (t.core f.core).data.lanes = d.lanes
      ∧ (∀ n, n ≠ f.core → t.core n = s.core n)
      ∧ t.flights = s.flights.map (fun g => if g.id = id then { g with phase := .done } else g)
      ∧ t.landing = s.landing ∧ t.ddr = s.ddr ∧ t.flash = s.flash ∧ t.host = s.host ∧ t.out = s.out)
  ∧ (∀ (s : State) (id : Nat) (f : Flight),
    let q := (s.updFlight id (fun g => { g with phase := .running, conv := s.convSet f })).runReadout f.core f.queue
    let go := fun (i : Instr) => exec i s = .next (if (s.readout f.core f.queue).isSome then s else q)
    (s.startable id 0x12 = some f → go (.drain (.start id))) ∧ (s.startable id 0x13 = some f → go (.topk (.start id)))
    ∧ (s.startable id 0x14 = some f → go (.tilerel (.start id))))
  ∧ (∀ (s : State) (n : Nat) (q : QueueId), s.readout n q = none → s.runReadout n q = s)
  ∧ (∀ (s : State) (n : Nat) (q : QueueId) (f : Flight), s.readout n q = some f →
    let w := f.w0
    let d := (s.core n).data
    let pos := s.cmdEng n w
    let e := 4 * n + pos
    let k := s.cmdTile n w
    let tile := s.tile n k
    let fmt := (Format.ofCode (fld w 70 67)).getD .fp32
    let img := convertSlot (f.conv.params fmt) tile.rows
    let outp := d.pad.writeBytes (64 * fld w 62 47) (slotImageBytes img)
    let t := s.runReadout n q
    (s.tileQuiet f = false → t = s)
    ∧ (s.tileQuiet f = true →
      (∀ k', k' ≠ k → t.tile n k' = s.tile n k') ∧ (t.core n).data.sets = d.sets ∧ (t.core n).data.lanes = d.lanes
      ∧ (∀ m, m ≠ n → t.core m = s.core m) ∧ t.landing = s.landing ∧ t.ddr = s.ddr ∧ t.flash = s.flash
      ∧ t.host = s.host ∧ t.out = s.out ∧ t.tok = s.tok ∧ t.cred = s.cred)
    ∧ (s.tileQuiet f = true → f.op = 0x12 →
      (t.core n).data.pad = (if fld w 46 46 = 1 then outp.writeBytes (64 * fld w 45 30)
          (drainRecord img.2.2 tile.flagsWord e (fld w 75 73) fmt.code (fld w 66 63) tile.hash) else outp)
      ∧ t.tile n k = tile.afterMode (fld w 72 71)
      ∧ t.scalerQ = s.scalerQ ++ [{ ctx := f.ctx, kind := 2, source := e, item := fld w 75 73, stat := img.2.2
                                    ovf := tile.ovfPos || tile.ovfNeg, ovfPos := tile.first }]
      ∧ t.flights = s.flights.map (fun g => if g.id = f.id
          then { g with phase := .done, rows := tile.cap.getD 0 } else g))
    ∧ (s.tileQuiet f = true → f.op = 0x13 →
      (t.core n).data.pad = d.pad.writeBytes (64 * fld w 55 40)
          ((List.range 64).flatMap (fun r => (topkRow d.pad tile w r).flatMap candBytes))
      ∧ t.tile n k = tile.afterMode (fld w 72 71) ∧ t.objs = s.objs ∧ t.scalerQ = s.scalerQ
      ∧ t.flights = s.flights.map (fun g => if g.id = f.id then { g with phase := .done } else g))
    ∧ (s.tileQuiet f = true → f.op = 0x14 →
      (t.core n).data.pad = d.pad ∧ t.tile n k = { tile with cap := none } ∧ t.objs = s.objs ∧ t.scalerQ = s.scalerQ
      ∧ t.captures = s.captures.filter (fun c => tile.cap ≠ some c.id)
      ∧ t.flights = s.flights.map (fun g => if g.id = f.id then { g with phase := .done } else g)))

/-- TILEREL discards a tile that its completion frees, and CVTSC and CVTCL write one conversion set (R70, R71, R75,
R82, R299, R301). -/
def Obligations.TilesReleaseAndSetsLoad : Prop :=
  (∀ (s : State) (id : Nat) (f : Flight), s.startable id 0x14 = some f → s.readout f.core f.queue = none →
    exec (.tilerel (.start id)) s = .next ((s.updFlight id (fun g => { g with
      phase := .running, conv := s.convSet f })).runReadout f.core f.queue))
  ∧ (∀ (s : State) (f : Flight), tileUse f.w0 = .releasing →
      ((s.engineDone f).tile f.core (s.cmdTile f.core f.w0)) = (s.tile f.core (s.cmdTile f.core f.w0)).freed)
  ∧ (∀ t : Tile, t.freed.flagsWord % 2 ^ 24 = t.flagsWord % 2 ^ 24 ∧ t.freed.hash = t.hash ∧ t.freed.st = .free)
  ∧ (∀ (s : State) (id : Nat) (f : Flight), s.startable id 0x15 = some f →
    let pos := s.cmdEng f.core f.w0
    let k := fld f.w0 75 72
    let d := (s.core f.core).data
    ∃ t, exec (.cvtsc (.start id)) s = .next t
      ∧ (t.core f.core).data.set pos k = { d.set pos k with
          s := BitVec.ofNat 32 (fld f.w0 63 32), b := BitVec.ofNat 32 (fld f.w0 31 0) }
      ∧ (∀ x, x ≠ 16 * pos + k → Tab.get ({} : ConvSet) (t.core f.core).data.sets x = Tab.get {} d.sets x)
      ∧ t = (s.updCore f.core (fun c => { c with data := { d with sets := (t.core f.core).data.sets } })).updFlight id
          (fun g => { g with phase := .done }))
  ∧ (∀ (s : State) (id : Nat) (f : Flight), s.startable id 0x16 = some f →
    let pos := s.cmdEng f.core f.w0
    let k := fld f.w0 75 72
    let d := (s.core f.core).data
    ∃ t, exec (.cvtcl (.start id)) s = .next t
      ∧ (t.core f.core).data.set pos k = { d.set pos k with
          tscale := fld f.w0 71 64, hi := BitVec.ofNat 32 (fld f.w0 63 32), lo := BitVec.ofNat 32 (fld f.w0 31 0) }
      ∧ (∀ x, x ≠ 16 * pos + k → Tab.get ({} : ConvSet) (t.core f.core).data.sets x = Tab.get {} d.sets x)
      ∧ t = (s.updCore f.core (fun c => { c with data := { d with sets := (t.core f.core).data.sets } })).updFlight id
          (fun g => { g with phase := .done }))

def Sys2Proof.Claims.limberRows (m : Moment) : List (Instr × Nat) :=
  [(.vld m, 0x60), (.vst m, 0x61), (.vstat m, 0x62), (.vimm m, 0x63), (.vsel m, 0x64), (.vadd m, 0x68), (.vsub m, 0x69),
   (.vmul m, 0x6A), (.vfma m, 0x6B), (.vfnma m, 0x6C), (.vmax m, 0x6D), (.vmin m, 0x6E), (.vabs m, 0x6F),
   (.vneg m, 0x70), (.vdiv m, 0x71), (.vsqrt m, 0x72), (.vrcp m, 0x73), (.vrsqrt m, 0x74), (.vexp2 m, 0x75),
   (.vlog2 m, 0x76), (.vexp m, 0x77), (.vtanh m, 0x78), (.verf m, 0x79), (.vrsum m, 0x7C), (.vrmax m, 0x7D),
   (.vrmin m, 0x7E), (.vrdot m, 0x7F), (.vcmp m, 0x80), (.kop m, 0x81), (.kcol m, 0x82)]

/-- Limber commands dispatch into their core's Limber queue with their tokens and credits taken (R28, R43, R94, R95).
-/
def Obligations.LimberCommandsDispatch : Prop :=
  ∀ (s : State) (sh : Shell) (h : Head), sh.wf = true → ∀ r ∈ Claims.limberRows (.dispatch sh),
    s.readyHead sh r.2 (fun _ => .limber) = some h →
    exec r.1 s = .next (((s.acquire h).launch { h.flight .limber with
      pos := (s.stream h.ctx h.owner).pos }).restCheck h.ctx)

def Sys2Proof.Claims.laneRows (m : Moment) :
    List (Instr × Nat × (CoreData → W128 → Nat → Bool) × (CoreData → W128 → Nat → F32)) :=
  let act := fun (d : CoreData) (w : W128) (l : Nat) => d.active (fld w 53 50) l
  let a := fun (d : CoreData) (w : W128) (l : Nat) => d.lane (fld w 71 66) l
  let b := fun (d : CoreData) (w : W128) (l : Nat) => d.lane (fld w 65 60) l
  let c := fun (d : CoreData) (w : W128) (l : Nat) => d.lane (fld w 59 54) l
  [(.vimm m, 0x63, act, fun _ w _ => f32Canon (BitVec.ofNat 32 (fld w 31 0))),
   (.vsel m, 0x64, fun _ _ _ => true, fun d w l => f32Canon (if act d w l then a d w l else b d w l)),
   (.vadd m, 0x68, act, fun d w l => f32Add (a d w l) (b d w l)),
   (.vsub m, 0x69, act, fun d w l => f32Sub (a d w l) (b d w l)),
   (.vmul m, 0x6A, act, fun d w l => f32Mul (a d w l) (b d w l)),
   (.vfma m, 0x6B, act, fun d w l => f32Fma (a d w l) (b d w l) (c d w l)),
   (.vfnma m, 0x6C, act, fun d w l => f32Fnma (a d w l) (b d w l) (c d w l)),
   (.vmax m, 0x6D, act, fun d w l => f32Max (a d w l) (b d w l)),
   (.vmin m, 0x6E, act, fun d w l => f32Min (a d w l) (b d w l)),
   (.vabs m, 0x6F, act, fun d w l => f32Abs (a d w l)),
   (.vneg m, 0x70, act, fun d w l => f32Neg (a d w l)),
   (.vdiv m, 0x71, act, fun d w l => f32Div (a d w l) (b d w l)),
   (.vsqrt m, 0x72, act, fun d w l => f32Sqrt (a d w l)),
   (.vrcp m, 0x73, act, fun d w l => f32Rcp (a d w l)),
   (.vrsqrt m, 0x74, act, fun d w l => f32Rsqrt (a d w l)),
   (.vexp2 m, 0x75, act, fun d w l => f32Exp 0x75 (a d w l)),
   (.vlog2 m, 0x76, act, fun d w l => f32Log2 (a d w l)),
   (.vexp m, 0x77, act, fun d w l => f32Exp 0x77 (a d w l)),
   (.vtanh m, 0x78, act, fun d w l => f32Sigmoid 0x78 (a d w l)),
   (.verf m, 0x79, act, fun d w l => f32Sigmoid 0x79 (a d w l))]

/-- Lane operations write their result to the active lanes of VD and change nothing else of the machine (R89, R90,
R91, R95, R96, R97, R98, R99, R100). -/
def Obligations.LaneOperationsWriteActiveLanes : Prop :=
  (∀ (s : State) (id : Nat) (f : Flight), ∀ r ∈ Claims.laneRows (.start id), s.startable id r.2.1 = some f →
    let d := (s.core f.core).data
    ∃ lanes : Tab F32,
      exec r.1 s = .next ((s.updCore f.core (fun c => { c with data := { c.data with lanes := lanes } })).updFlight id
        (fun g => { g with phase := .done }))
      ∧ ∀ reg l, l < 256 → Tab.get 0 lanes (256 * reg + l) =
          if reg = fld f.w0 77 72 ∧ r.2.2.1 d f.w0 l = true then r.2.2.2 d f.w0 l else d.lane reg l)
  ∧ (∀ (d : CoreData) (l : Nat), l < 256 → d.active 0 l = true)

def Sys2Proof.Claims.tree (f : F32 → F32 → F32) (p : Nat → F32) : Nat → Nat → F32
  | 0, i => p i
  | k + 1, i => f (tree f p k (2 * i)) (tree f p k (2 * i + 1))

def Sys2Proof.Claims.reductionRows (m : Moment) :
    List (Instr × Nat × (F32 → F32 → F32) × F32 × (CoreData → W128 → Nat → F32)) :=
  let a := fun (d : CoreData) (w : W128) (l : Nat) => d.lane (fld w 71 66) l
  [(.vrsum m, 0x7C, f32Add, 0, a), (.vrmax m, 0x7D, f32Max, 0xFF800000, a), (.vrmin m, 0x7E, f32Min, 0x7F800000, a),
   (.vrdot m, 0x7F, f32Add, 0, fun d w l => f32Mul (d.lane (fld w 71 66) l) (d.lane (fld w 65 60) l))]

/-- Row reductions combine 64 operands in the fixed tree of six levels, inactive lanes as the identity, and add VC
(R99, R100, R102). -/
def Obligations.RowReductionsFollowTheTree : Prop :=
  ∀ (s : State) (id : Nat) (f : Flight), ∀ r ∈ Claims.reductionRows (.start id), s.startable id r.2.1 = some f →
    let d := (s.core f.core).data
    let act := d.active (fld f.w0 53 50)
    let p := fun (q c : Nat) => if act (64 * q + c) then r.2.2.2.2 d f.w0 (64 * q + c) else r.2.2.2.1
    ∃ lanes : Tab F32,
      exec r.1 s = .next ((s.updCore f.core (fun c => { c with data := { c.data with lanes := lanes } })).updFlight id
        (fun g => { g with phase := .done }))
      ∧ ∀ reg l, l < 256 → Tab.get 0 lanes (256 * reg + l) =
          if reg = fld f.w0 77 72 ∧ (fld f.w0 49 49 = 1 ∨ act l = true)
          then r.2.2.1 (Claims.tree r.2.2.1 (p (l / 64)) 6 0) (d.lane (fld f.w0 59 54) l) else d.lane reg l

def Sys2Proof.Claims.maskRows (m : Moment) : List (Instr × Nat × (CoreData → W128 → Nat → Bool)) :=
  [(.vcmp m, 0x80, fun d w l =>
      d.active (fld w 53 50) l && f32Cmp (fld w 49 47) (d.lane (fld w 71 66) l) (d.lane (fld w 65 60) l)),
   (.kop m, 0x81, fun d w l =>
      let a := d.active (fld w 73 70) l
      let b := d.active (fld w 69 66) l
      let o := fld w 65 63
      if o = 0 then a && b else if o = 1 then a || b else if o = 2 then a && !b else if o = 3 then a != b else !a),
   (.kcol m, 0x82, fun _ w l => decide (fld w 73 68 ≤ l % 64 ∧ l % 64 ≤ fld w 67 62 ∧ fld w 61 60 ≤ l / 64
      ∧ l / 64 ≤ fld w 59 58))]

/-- VCMP, KOP and KCOL write every bit of mask KD and nothing else (R101). -/
def Obligations.MaskOperationsWriteOneMask : Prop :=
  ∀ (s : State) (id : Nat) (f : Flight), ∀ r ∈ Claims.maskRows (.start id), s.startable id r.2.1 = some f →
    let d := (s.core f.core).data
    ∃ masks : Tab (BitVec 256),
      exec r.1 s = .next ((s.updCore f.core (fun c => { c with data := { c.data with masks := masks } })).updFlight id
        (fun g => { g with phase := .done }))
      ∧ (fld f.w0 77 74 ≠ 0 → ∀ l, l < 256 → (Tab.get 0 masks (fld f.w0 77 74)).getLsbD l = r.2.2 d f.w0 l)
      ∧ (∀ k, (k ≠ fld f.w0 77 74 ∨ fld f.w0 77 74 = 0) → Tab.get 0 masks k = Tab.get 0 d.masks k)

/-- VLD, VST and VSTAT: active lanes from and to stored elements, status merged, the record written and zeroed (R43,
R57, R59, R89, R93, R100, R103, R104, R106). -/
def Obligations.VectorLoadsStoresAndStatus : Prop :=
  (∀ (s : State) (id : Nat) (f : Flight), s.startable id 0x60 = some f →
    let w := f.w0
    let d := (s.core f.core).data
    let fmt := (Format.ofCode (fld w 71 68)).getD .fp32
    let pos := fun (l : Nat) => lanePos w true l
    let one := fun (l : Nat) => decodeF32 (64 * (pos l).1 + (pos l).2)
      (slotVal d.pad.rd fmt (fld w 46 39) (64 * fld w 62 47) (pos l).1 (pos l).2)
    ∃ (lanes : Tab F32) (sas : Tab Stat),
      exec (.vld (.start id)) s = .next (((s.addObj (okey (0x8000 + f.core) 0x0B) 64 1).updCore f.core (fun c =>
        { c with data := { c.data with lanes := lanes, sas := sas } })).updFlight id
          (fun g => { g with phase := .done }))
      ∧ (∀ reg l, l < 256 → Tab.get 0 lanes (256 * reg + l) =
          if reg = fld w 77 72 ∧ d.active (fld w 33 30) l = true then (one l).1 else d.lane reg l)
      ∧ (∀ k, k ≠ fld w 38 34 ∨ k = 0x1F → Tab.get ({} : Stat) sas k = d.sa k)
      ∧ (fld w 38 34 ≠ 0x1F → Tab.get ({} : Stat) sas (fld w 38 34) = (d.sa (fld w 38 34)).merge
          (((List.range 256).filter (d.active (fld w 33 30))).foldl (fun a l => a.merge (one l).2) {})))
  ∧ (∀ (s : State) (id : Nat) (f : Flight), s.startable id 0x61 = some f →
    let w := f.w0
    let d := (s.core f.core).data
    let fmt := (Format.ofCode (fld w 71 68)).getD .fp32
    ∃ (pad : Mem) (sas : Tab Stat),
      exec (.vst (.start id)) s = .next (((s.addObj (okey (0x8000 + f.core) 0x0B) 64 1).updCore f.core (fun c =>
        { c with data := { c.data with pad := pad, sas := sas } })).updFlight id (fun g => { g with phase := .done }))
      ∧ (∀ a, (a < 64 * fld w 62 47 ∨ 64 * fld w 62 47 + fmt.slotBytes ≤ a) → pad.read a = d.pad.read a)
      ∧ (fmt.isMx = false → ∀ l, l < 256 → d.active (fld w 33 30) l = true →
          let p := lanePos w false l
          elemAt pad.rd fmt (64 * fld w 62 47 + p.1 * fmt.rowBytes) p.2
            = (convert (plainParams fmt (fld w 46 39)) [(64 * p.1 + p.2, valOf (d.lane (fld w 77 72) l))]).1.headD 0
                % 2 ^ fmt.width)
      ∧ ((∀ l, l < 256 → d.active (fld w 33 30) l = false) → pad = d.pad ∧ sas = d.sas)
      ∧ (∀ k, k ≠ fld w 38 34 ∨ k = 0x1F → Tab.get ({} : Stat) sas k = d.sa k))
  ∧ (∀ (s : State) (id : Nat) (f : Flight), s.startable id 0x62 = some f →
    let w := f.w0
    let d := (s.core f.core).data
    let k := fld w 77 74
    exec (.vstat (.start id)) s = .next (({ s.updCore f.core (fun c => { c with data := { c.data with
          pad := d.pad.writeBytes (64 * fld w 62 47)
            (leBytes 4 (d.sa k).word ++ leBytes 4 (f.core + k * 2 ^ 8) ++ List.replicate 56 0)
          sas := Tab.put {} d.sas k {} } }) with
        scalerQ := s.scalerQ ++ [{ ctx := f.ctx, kind := 1, source := f.core, item := k, stat := d.sa k, ovf := false
                                   ovfPos := 0 }] } : State).updFlight id (fun g => { g with phase := .done })))

/-- WINSET, FILL and SPILL dispatch: two coordinates set, the origin taken and the window advanced, or the context
held; DETAIL: log entry 83 (R117, R141, R155, R156, R157, R159, R255). -/
def Obligations.MovePortDispatches : Prop :=
  (∀ (s : State) (sh : Shell) (h : Head), sh.wf = true → s.readyHead sh 0x92 (fun _ => .none) = some h →
    let r := 4 * fld h.w 77 74 + (if fld h.w 73 73 = 1 then 2 else 0)
    let d := (s.core h.core).data
    ∃ wins, exec (.winset sh) s = .next (((((s.updCore h.core (fun c => { c with data := { c.data with
        wins := wins } })).acquire h).issuePost h.ctx h.owner h.w).freeEnded h.ctx h.owner).restCheck h.ctx)
      ∧ Tab.get 0 wins r = BitVec.ofInt 32 (fld h.w 72 49) ∧ Tab.get 0 wins (r + 1) = BitVec.ofInt 32 (fld h.w 48 25)
      ∧ ∀ k, k ≠ r → k ≠ r + 1 → Tab.get 0 wins k = Tab.get 0 d.wins k)
  ∧ (∀ (s : State) (sh : Shell) (h : Head) (d : Desc) (wr : Bool) (err : Option Nat), sh.wf = true →
    let i : Instr := if wr then .spill (.dispatch sh) err else .fill (.dispatch sh) err
    s.readyHead sh (if wr then 0x91 else 0x90) (fun _ => .movePort) = some h →
    s.useDesc h.ctx (fld h.w 77 66) (!wr) wr = some d →
    let o := (s.core h.core).data.win (fld h.w 63 60)
    let ps := winPieces d (fld h.w 65 64) o
    let rs := s.pieceRegions h.ctx d wr ps
    let r := 4 * fld h.w 63 60 + fld h.w 43 42
    (badWindow d h.w o = true → exec i s = .next (s.holdShell 0x500C h.unit h.ctx 0))
    ∧ (∀ code, badWindow d h.w o = false → s.notResident rs = some code →
        exec i s = .next (s.holdShell code h.unit h.ctx (accessDetail code (s.firstPiece h.ctx d wr ps))))
    ∧ (badWindow d h.w o = false → s.notResident rs = none → wr = true → s.piecesBusy h.ctx d ps = true →
      exec i s = .next (s.holdShell 0x5013 h.unit h.ctx (s.firstPiece h.ctx d wr ps)))
    ∧ (badWindow d h.w o = false → s.notResident rs = none → (wr && s.piecesBusy h.ctx d ps) = false →
      ∃ wins, exec i s = .next ((((s.updCore h.core (fun c => { c with data := { c.data with wins := wins } })).acquire
            h).launch { h.flight .movePort with
              pos := (s.stream h.ctx h.owner).pos
              descs := [s.copyOf h.ctx (fld h.w 77 66)], origin := o, regions := rs }).restCheck h.ctx)
          ∧ Tab.get 0 wins r = BitVec.ofInt 32 (o.getD (fld h.w 43 42) 0 + signExt 16 (fld h.w 41 26))
          ∧ ∀ k, k ≠ r → Tab.get 0 wins k = Tab.get 0 (s.core h.core).data.wins k))
  ∧ (∀ (s : State) (sh : Shell) (h : Head) (wr : Bool) (err : Option Nat), sh.wf = true →
    s.readyHead sh (if wr then 0x91 else 0x90) (fun _ => .movePort) = some h →
    s.useDesc h.ctx (fld h.w 77 66) (!wr) wr = none →
    exec (if wr then .spill (.dispatch sh) err else .fill (.dispatch sh) err) s
      = .next (s.holdShell 0x5008 h.unit h.ctx 0))

/-- FILL writes kerf and valid bytes of its window into the slot, SPILL the slot's valid bytes into tier space, or
they end with the context held (R117, R124, R125, R126, R127, R135, R150, R155, R157, R174). -/
def Obligations.FillAndSpillMoveTheWindow : Prop :=
  (∀ (s : State) (id : Nat) (f : Flight), s.startable id 0x90 = some f → s.touchesNone id = false →
    let d := descOf (f.descs.headD { num := 0, image := 0 }).image
    let slot := 64 * fld f.w0 59 44
    let kerf := kerfWrites d (fld f.w0 65 64) f.origin
    let ps := winPieces d (fld f.w0 65 64) f.origin
    let pad := (s.core f.core).data.pad
    let pad1 := ps.foldl (fun m p => m.writeBytes (slot + p.slot) (s.tierBytes p.addr p.len))
      (kerf.foldl (fun m e => m.writeBytes (slot + e.1) e.2) pad)
    d.c6 = false →
    (∀ p ∈ ps, s.phyDown (s.resolve p.addr) = false ∧ s.phyDown (s.resolve (p.addr + p.len - 1)) = false) →
    (∃ objs, exec (.fill (.start id) none) s = .next (({ s.updCore f.core (fun c => { c with data := { c.data with
        pad := pad1 } }) with objs := objs } : State).updFlight id (fun g => { g with phase := .done }))
      ∧ ({ s with objs := objs } : State).obj (okey (0x8000 + f.core) 0x0C)
        = (s.obj (okey (0x8000 + f.core) 0x0C) + d.fmt.slotBytes) % 2 ^ 64)
    ∧ (∀ a, (a < slot ∨ slot + d.fmt.slotBytes ≤ a) → pad1.read a = pad.read a))
  ∧ (∀ (s : State) (id : Nat) (f : Flight), s.startable id 0x91 = some f → s.touchesNone id = false →
    let d := descOf (f.descs.headD { num := 0, image := 0 }).image
    let slot := 64 * fld f.w0 59 44
    let pad := (s.core f.core).data.pad
    let t := (winPieces d (fld f.w0 65 64) f.origin).foldl
      (fun u p => u.tierWriteBytes p.addr (pad.readBytes (slot + p.slot) p.len)) s
    d.c6 = false →
    (∀ p ∈ winPieces d (fld f.w0 65 64) f.origin,
      s.phyDown (s.resolve p.addr) = false ∧ s.phyDown (s.resolve (p.addr + p.len - 1)) = false) →
    ∃ objs, exec (.spill (.start id) none) s = .next (({ t with objs := objs } : State).updFlight id
        (fun g => { g with phase := .done }))
      ∧ ({ s with objs := objs } : State).obj (okey (0x8000 + f.core) 0x0D)
        = (s.obj (okey (0x8000 + f.core) 0x0D) + d.fmt.slotBytes) % 2 ^ 64)
  ∧ (∀ (s : State) (id : Nat) (f : Flight) (wr : Bool) (err : Option Nat),
    s.startable id (if wr then 0x91 else 0x90) = some f → s.touchesNone id = false →
    ∃ t, exec (if wr then .spill (.start id) err else .fill (.start id) err) s = .next t
      ∧ ((∃ g, t.flight id = some g ∧ g.phase = .done)
        ∨ (t.flight id = none ∧ (t.ctx f.ctx).held = true ∧ t.posts = s.posts)))
  ∧ (∀ (s : State) (id : Nat) (f : Flight) (wr : Bool) (err : Option Nat),
    s.startable id (if wr then 0x91 else 0x90) = some f → s.touchesNone id = true →
    exec (if wr then .spill (.start id) err else .fill (.start id) err) s = .fault .unmapped)

/-- A byte written to tier space reads back at its address, its staged page is dirty, and every other place reads as
before (R140, R142, R163, R261, R322). -/
def Obligations.TierSpaceReadsBack : Prop :=
  (∀ (s : State) (a b : Nat), b < 256 → s.isKv (a / 2 ^ 26) = false → (s.region (a / 2 ^ 26)).home ≠ .none →
    s.unitDown landingUnit = false →
    (s.tierWrite a b).tierRead a = b
    ∧ (∀ x, s.isKv (x / 2 ^ 26) = false → s.resolve x ≠ s.resolve a →
        (∀ q q' y y', s.resolve x = .ddr q y ∨ s.resolve x = .flash q y → s.resolve a = .ddr q' y' ∨
          s.resolve a = .flash q' y' → y < 2 ^ 44 ∧ y' < 2 ^ 44) →
        (s.tierWrite a b).tierRead x = s.tierRead x)
    ∧ (∀ x, (s.tierWrite a b).resolve x = s.resolve x)
    ∧ ((s.region (a / 2 ^ 26)).staged = true →
        ((s.tierWrite a b).region (a / 2 ^ 26)).dirty = true
        ∧ ((s.tierWrite a b).region (a / 2 ^ 26)).pageDirty a = true)
    ∧ (∀ x, pageOf x ≠ pageOf a ∨ x / 2 ^ 26 ≠ a / 2 ^ 26 →
        ((s.tierWrite a b).region (x / 2 ^ 26)).pageDirty x = (s.region (x / 2 ^ 26)).pageDirty x)
    ∧ ((s.region (a / 2 ^ 26)).staged = false → (s.tierWrite a b).tmap = s.tmap)
    ∧ (s.tierWrite a b).objs = s.objs ∧ (s.tierWrite a b).cores = s.cores ∧ (s.tierWrite a b).frames = s.frames)
  ∧ (∀ (s : State) (a b : Nat), s.isKv (a / 2 ^ 26) = true → (s.region (a / 2 ^ 26)).staged = false →
      s.tierWrite a b = s)
  ∧ (∀ (s : State) (x b : Nat), s.unitDown landingUnit = true → s.locWrite (.landing x) b = s)

def Sys2Proof.Claims.moveRowInto (b : MoveBody) (sd dd : Desc) (u : State) (e : List Int × Nat) : State :=
  let nv := dd.rowValid b.drd e.1 e.2
  let row := moveRow b sd dd u.tierRead e.2 nv e.1
  let x := winPos b.drd e.1 e.2 0
  let v := u.tierWriteBytes (dd.rowAddr x + x.getD 0 0 * dd.fmt.width / 8).toNat row.1
  if dd.fmt.isMx && nv ≠ 0 then v.tierWriteBytes (dd.scaleAddr x).toNat row.2.1 else v

/-- MOVE dispatches with copies of its two descriptors and writes its destination windows row by row from what tier
space then holds; DETAIL: log entry 83 (R117, R130, R131, R132, R135, R141, R150, R166, R167, R168, R190). -/
def Obligations.MovesRunWindowByWindow : Prop :=
  (∀ (s : State) (sh : Shell) (h : Head) (sd dd : Desc) (err : Option Nat), sh.wf = true →
    s.readyHead sh 0x98 (fun _ => .unit) = some h →
    let b := moveBody h.words
    s.useDesc h.ctx b.sdesc true false = some sd → s.useDesc h.ctx b.ddesc false true = some dd →
    let src := s.moveRegions h.ctx b sd dd false
    let dst := s.moveRegions h.ctx b sd dd true
    (∀ code, s.moveFault h b sd dd src dst = some code →
      exec (.move (.dispatch sh) err) s
        = .next (s.holdShell code h.unit h.ctx (accessDetail code (s.moveFirst h.ctx b sd dd false))))
    ∧ (s.moveFault h b sd dd src dst = none → s.moveBusy h.ctx b sd dd = true →
      exec (.move (.dispatch sh) err) s = .next (s.holdShell 0x5013 h.unit h.ctx (s.moveFirst h.ctx b sd dd true)))
    ∧ (s.moveFault h b sd dd src dst = none → s.moveBusy h.ctx b sd dd = false →
      exec (.move (.dispatch sh) err) s = .next (((s.acquire h).launch { h.flight .unit with
        pos := (s.stream h.ctx h.owner).pos
        descs := [s.copyOf h.ctx b.sdesc, s.copyOf h.ctx b.ddesc]
        regions := (src ++ dst).eraseDups }).restCheck h.ctx)))
  ∧ (∀ (s : State) (sh : Shell) (h : Head) (err : Option Nat), sh.wf = true →
    s.readyHead sh 0x98 (fun _ => .unit) = some h →
    (s.useDesc h.ctx (moveBody h.words).sdesc true false = none
      ∨ s.useDesc h.ctx (moveBody h.words).ddesc false true = none) →
    exec (.move (.dispatch sh) err) s = .next (s.holdShell 0x5008 h.unit h.ctx 0))
  ∧ (∀ (s : State) (id : Nat) (f : Flight), s.startableStep id 0x98 = some f → s.touchesNone id = false →
    (∀ r ∈ f.regions, (s.region r).staged = true ∨ s.isKv r = true ∨ s.homeUp (s.region r) = true) →
    let b := moveBody f.words
    let sd := descOf (f.descs.getD 0 { num := 0, image := 0 }).image
    let dd := descOf (f.descs.getD 1 { num := 0, image := 0 }).image
    let t := ((moveWindows b).flatMap (fun o => (List.range 64).map (fun k => (o, k)))).foldl
      (Claims.moveRowInto b sd dd) s
    sd.c6 = false → dd.c6 = false → (∀ l, s.phyDown l = false) → s.unitDown landingUnit = false →
    (moveWindows b).Nodup →
    ∃ objs ftl sq, exec (.move (.start id) none) s = .next (({ t with objs := objs, ftl := ftl, scalerQ := sq } :
        State).updFlight id (fun g => { g with phase := .done }))
      ∧ (moveConverts b sd dd = false → sq = s.scalerQ)
      ∧ (moveConverts b sd dd = true → sq.length = s.scalerQ.length + (moveWindows b).length))
  ∧ (∀ (s : State) (id : Nat) (f : Flight) (err : Option Nat), s.startableStep id 0x98 = some f →
    s.touchesNone id = false →
    (∀ r ∈ f.regions, (s.region r).staged = true ∨ s.isKv r = true ∨ s.homeUp (s.region r) = true) →
    s.unitDown landingUnit = false →
    ∃ t, exec (.move (.start id) err) s = .next t
      ∧ ((∃ g, t.flight id = some g ∧ g.phase = .done)
        ∨ (t.flight id = none ∧ (t.ctx f.ctx).held = true ∧ t.posts = s.posts)))
  ∧ (∀ (s : State) (id r : Nat) (f : Flight) (err : Option Nat), s.startableStep id 0x98 = some f →
    s.touchesNone id = false → r ∈ f.regions → (s.region r).staged = false → s.isKv r = false →
    s.homeUp (s.region r) = false → exec (.move (.start id) err) s = .next s)
  ∧ (∀ (s : State) (id r : Nat) (f : Flight) (err : Option Nat), s.startableStep id 0x98 = some f →
    s.touchesNone id = false → s.unitDown landingUnit = true →
    r ∈ s.moveRegions f.ctx (moveBody f.words) (descOf (f.descs.getD 0 { num := 0, image := 0 }).image)
      (descOf (f.descs.getD 1 { num := 0, image := 0 }).image) false → (s.region r).inLanding = true →
    exec (.move (.start id) err) s = .next s)
  ∧ (∀ (s : State) (id : Nat) (f : Flight) (err : Option Nat), s.startableStep id 0x98 = some f →
    s.touchesNone id = true → exec (.move (.start id) err) s = .fault .unmapped)

/-- STAGE reserves a pool frame and holds its region BUSY; its completion copies 64 MiB into the frame and the region
is STAGED and clean; DETAIL: log entry 83 (R143, R150, R153, R161, R162, R174). -/
def Obligations.StageBringsARegionIn : Prop :=
  (∀ (s : State) (sh : Shell) (h : Head), sh.wf = true → s.readyHead sh 0x99 (fun _ => .unit) = some h →
    let r := fld h.w 75 56
    let g := s.region r
    let fr := fld h.w 55 43
    (∀ code, s.stageFault h false = some code →
      exec (.stage (.dispatch sh)) s = .next (s.holdShell code h.unit h.ctx (accessDetail code (r * 2 ^ 26))))
    ∧ (s.stageFault h false = none →
      (g.staged = true ∨ g.busy ≠ .idle ∨ g.home = .none ∨ g.home = .landing ∨ s.frame fr ≠ .pool h.ctx false) →
      exec (.stage (.dispatch sh)) s = .next (s.holdShell 0x500B h.unit h.ctx 0))
    ∧ (s.stageFault h false = none → g.staged = false → g.busy = .idle → g.home ≠ .none → g.home ≠ .landing →
      s.frame fr = .pool h.ctx false →
      exec (.stage (.dispatch sh)) s = .next (((((s.updRegion r (fun x => { x with busy := .stage })).setFrame fr
        (.pool h.ctx true)).acquire h).launch { h.flight .unit with
          pos := (s.stream h.ctx h.owner).pos, regions := [r] }).restCheck h.ctx)))
  ∧ (∀ (s : State) (id : Nat) (f : Flight), s.startableStep id 0x99 = some f →
    exec (.stage (.start id)) s = .next (s.updFlight f.id (fun g => { g with phase := .running })))
  ∧ (∀ (s : State) (id : Nat) (f : Flight), s.runningStep id 0x99 .running = some f →
    let r := fld f.w0 75 56
    let fr := fld f.w0 55 43
    let s1 := s.copyIn (s.region r) fr 0 (2 ^ 26)
    (∀ err, s.granHolds r = true → exec (.stageComplete id err) s = .next s)
    ∧ (s.granHolds r = false → s.copyStop (s.region r) fr [(0, 2 ^ 26)] = none →
      exec (.stageComplete id none) s = .next (((((((s1.updRegion r (fun g =>
        { g with staged := true, frame := fr, pages := [], dirty := false, busy := .idle })).setFrame fr
        (.staged f.ctx r)).addObj (okey (moverIndex f.owner) 5) 64 (2 ^ 26)).countFrame (moverClass f.owner)).countHome
        (s.region r) (2 ^ 26)).readHome (s.region r)).complete f))
    ∧ (s.physDown = false → s.copyStop (s.region r) fr [(0, 2 ^ 26)] = none)
    ∧ (s.memWf = true → (s.region r).home = .ddr ∨ (s.region r).home = .flash ∨ (s.region r).home = .host →
        (∀ o, o < 2 ^ 26 → s1.landing.rd (fr * 2 ^ 26 + o) = s.locRead (s.homeLoc (s.region r) o))
        ∧ ∀ a, a / 2 ^ 26 ≠ fr → s1.landing.rd a = s.landing.rd a))
  ∧ (∀ (s : State) (id x : Nat) (f : Flight) (err : Option Nat), s.runningStep id 0x99 .running = some f →
    let r := fld f.w0 75 56
    let fr := fld f.w0 55 43
    let o := x % 2 ^ 26
    s.granHolds r = false →
    (err = some x ∨ (err = none ∧ s.copyStop (s.region r) fr [(0, 2 ^ 26)] = some x)) →
    exec (.stageComplete id err) s = .next (((s.updRegion r (fun g => { g with busy := .idle })).setFrame fr
      (.pool f.ctx false)).memFaultAt f (if s.phyDown (.landing (fr * 2 ^ 26 + o)) then .landing (fr * 2 ^ 26 + o)
        else s.homeLoc (s.region r) o) (r * 2 ^ 26 + o)))

/-- EVICT drains, writes the dirty units back and frees the frame; CLEAN writes them back and the region stays staged;
DETAIL: log entry 83 (R150, R153, R164, R165, R173, R174, R190). -/
def Obligations.EvictAndCleanWriteBack : Prop :=
  (∀ (s : State) (sh : Shell) (h : Head) (clean : Bool), sh.wf = true →
    s.readyHead sh (if clean then 0x9B else 0x9A) (fun _ => .unit) = some h →
    let i : Instr := if clean then .clean (.dispatch sh) else .evict (.dispatch sh)
    let r := fld h.w 75 56
    let g := s.region r
    (∀ code, s.stageFault h true = some code →
      exec i s = .next (s.holdShell code h.unit h.ctx (accessDetail code (r * 2 ^ 26))))
    ∧ (s.stageFault h true = none → (g.staged = false ∨ g.busy ≠ .idle) →
        exec i s = .next (s.holdShell 0x500B h.unit h.ctx 0))
    ∧ (s.stageFault h true = none → g.staged = true → g.busy = .idle →
        exec i s = .next ((((s.updRegion r (fun x => { x with busy := if clean then .clean else .evict })).acquire
          h).launch { h.flight .unit with
            pos := (s.stream h.ctx h.owner).pos, regions := [r] }).restCheck h.ctx)))
  ∧ (∀ (s : State) (id : Nat) (f : Flight), s.startableStep id 0x9A = some f →
    exec (.evict (.start id)) s = .next (s.updFlight f.id (fun g => { g with phase := .running })))
  ∧ (∀ (s : State) (id : Nat) (f : Flight), s.runningStep id 0x9A .running = some f →
    exec (.evictDrainEnd id) s = .next (if (s.flights.takeWhile (fun g => g.id ≠ id)).any (fun g =>
        g.regions.contains (fld f.w0 75 56)) || s.granHolds (fld f.w0 75 56) then s
      else s.updFlight id (fun g => { g with phase := .drained })))
  ∧ (∀ (s : State) (id : Nat) (f : Flight) (err : Option Nat), s.runningStep id 0x9A .drained = some f →
    let r := fld f.w0 75 56
    let g := s.region r
    (g.staged = false → exec (.evictComplete id err) s
      = .next ((s.updRegion r (fun x => { x with busy := .idle })).complete f))
    ∧ (g.staged = true → s.backStop g err = none →
      exec (.evictComplete id err) s = .next ((((s.writeBack f.owner r).updRegion r (fun g =>
        { g with staged := false, frame := 0, pages := [], dirty := false, busy := .idle })).setFrame g.frame
        (.pool f.ctx false)).complete f))
    ∧ (∀ o, g.staged = true → s.backStop g err = some o →
      exec (.evictComplete id err) s = .next (((s.writeUnits f.owner r (unitsUpTo g o)).updRegion r (fun x =>
        { x with pages := g.pages, dirty := g.pages.any (fun e => e.2), busy := .idle })).memFaultAt f
          (s.backPlace r err o) (r * 2 ^ 26 + o))))
  ∧ (∀ (s : State) (id : Nat) (f : Flight), s.startableStep id 0x9B = some f →
    let r := fld f.w0 75 56
    exec (.clean (.start id)) s = .next ((s.updRegion r (fun g => { g with pages := [] })).updFlight id (fun x =>
      { x with phase := .running, pages := ((s.region r).pages.filter (fun e => e.2)).map (fun e => e.1) })))
  ∧ (∀ (s : State) (id : Nat) (f : Flight) (err : Option Nat), s.runningStep id 0x9B .running = some f →
    let r := fld f.w0 75 56
    let g := s.region r
    let c : Region := { g with pages := f.pages.map (fun p => (p, true)) }
    (g.staged = false → exec (.cleanComplete id err) s
      = .next ((s.updRegion r (fun x => { x with busy := .idle })).complete f))
    ∧ (g.staged = true → s.backStop c err = none →
      exec (.cleanComplete id err) s = .next (((s.writeUnits f.owner r (dirtyUnits c)).updRegion r (fun x =>
        { x with dirty := g.pages.any (fun e => e.2), busy := .idle })).complete f))
    ∧ (∀ o, g.staged = true → s.backStop c err = some o → ∃ ps : Tab Bool,
      exec (.cleanComplete id err) s = .next (((s.writeUnits f.owner r (unitsUpTo c o)).updRegion r (fun x =>
        { x with pages := ps, dirty := ps.any (fun e => e.2), busy := .idle })).memFaultAt f
          (s.backPlace r err o) (r * 2 ^ 26 + o))
      ∧ ∀ p, Tab.get false ps p = (Tab.get false g.pages p || decide (p ∈ f.pages ∧ o ≤ 4096 * p))))
  ∧ (∀ (s : State) (u r : Nat), (s.writeBack u r).obj (okey (moverIndex u) 5)
      = (s.obj (okey (moverIndex u) 5) + ((dirtyUnits (s.region r)).map (fun e => e.2)).foldl (· + ·) 0) % 2 ^ 64)
  ∧ (∀ (s : State) (g : Region), s.physDown = false → s.backStop g none = none)
  ∧ (∀ (s : State) (u r q hf : Nat), s.memWf = true → (s.region r).home = .ddr → (s.region r).planer = q →
      (s.region r).homeFrame = hf →
      (s.region r).pages = [(pageOf (r * 2 ^ 26), true)] →
      (∀ o, o < 4096 → (s.writeBack u r).ddr.rd (planerAddr q (hf * 2 ^ 26 + o))
          = s.landing.rd ((s.region r).frame * 2 ^ 26 + o))
      ∧ (∀ a, (a < planerAddr q (hf * 2 ^ 26) ∨ planerAddr q (hf * 2 ^ 26) + 4096 ≤ a) →
          (s.writeBack u r).ddr.rd a = s.ddr.rd a)
      ∧ (s.writeBack u r).landing = s.landing ∧ (s.writeBack u r).tmap = s.tmap)

/-- DESC_CREATE installs a valid image or refuses it, DESC_DESTROY frees or leaves pending, C6_FLUSH ends with the
commands before it, C6 accesses are translated (R114, R115, R116, R117, R119, R120, R121, R134, R135, R136). -/
def Obligations.DescriptorsAreCreatedAndDestroyed : Prop :=
  (∀ (s : State) (path ctx : Nat), path < 18 → ctx < 64 → s.access path (0x2800 + ctx) = 0 →
    s.obj (okey (0x2800 + ctx) 3) ≠ 1 →
    let n := s.pobj path (okey (0x2800 + ctx) 1)
    let x := s.pobj path (okey (0x2800 + ctx) 2)
    ((s.desc ctx n).st = .free → validateDesc (s.alloc ctx) x = none →
      exec (.descCreate path ctx) s = .next ((({ s with
        descs := Tab.put ({} : DescEntry) s.descs (ctx * 4096 + n) { st := .live, image := x } } : State).setObj
        (okey (0x2800 + ctx) 4) (n * 2 ^ 13)).setObj
        (okey (0x2800 + ctx) 3) 2))
    ∧ (∀ r, (s.desc ctx n).st = .free → validateDesc (s.alloc ctx) x = some r →
      exec (.descCreate path ctx) s = .next (((s.setObj (okey (0x2800 + ctx) 4) (descResult r n)).report
        (descFault r.1) 7 0 (some ctx) 0 false false).setObj (okey (0x2800 + ctx) 3) 3))
    ∧ ((s.desc ctx n).st ≠ .free →
      exec (.descCreate path ctx) s = .next (((s.setObj (okey (0x2800 + ctx) 4) (10 * 2 ^ 28 + n * 2 ^ 13)).report
        0x5008 7 0 (some ctx) 0 false false).setObj (okey (0x2800 + ctx) 3) 3)))
  ∧ (∀ (s : State) (path ctx n : Nat), path < 18 → ctx < 64 → n ≤ 4095 → s.access path (0x2800 + ctx) = 0 →
    exec (.descDestroy path ctx n) s = .next (
      if (s.desc ctx n).st = .live then
        { s with
          descs := Tab.put {} s.descs (ctx * 4096 + n)
            (if s.copyHeld ctx n then { st := .pending, image := (s.desc ctx n).image } else {}) }
      else s))
  ∧ (∀ (s : State) (path ctx n : Nat), path < 18 → ctx < 64 → 4095 < n → n < 2 ^ 32 →
    s.access path (0x2800 + ctx) = 0 →
    exec (.descDestroy path ctx n) s = .next (s.dictRefuse path (okey (0x2800 + ctx) 5) 3))
  ∧ (∀ (s : State) (path ctx : Nat), path < 18 → ctx < 64 → s.access path (0x2800 + ctx) = 0 →
    s.obj (okey (0x2800 + ctx) 9) ≠ 1 →
    exec (.c6Flush path ctx) s = .next ((s.setObj (okey (0x2800 + ctx) 9) 1).updCtx ctx (fun c =>
      { c with c6Mark := some s.nextId })))
  ∧ (∀ (s : State) (ctx m : Nat), ctx < 64 → (s.ctx ctx).c6Mark = some m →
    exec (.c6FlushComplete ctx) s = .next (if s.flights.any (fun f => f.ctx = ctx && f.id < m) then s
      else (s.setObj (okey (0x2800 + ctx) 9) 0).updCtx ctx (fun c =>
        { c with c6Mark := none, c6Old := s.c6Table ctx })))
  ∧ (∀ (s : State) (ctx va : Nat) (wr : Bool),
    let page := va / 2 ^ 21
    let entries := s.obj (okey (0x2800 + ctx) 8)
    let new := leNat (s.tierBytes (s.obj (okey (0x2800 + ctx) 7) + 8 * page) 8)
    let old := (s.ctx ctx).c6Old.readLe (8 * page) 8
    (entries ≤ page → s.c6Translate ctx va wr = none)
    ∧ (page < entries → ∃ e, (e = old ∨ e = new) ∧
      let a := bits e 24 0 * 2 ^ 21 + va % 2 ^ 21
      let may := bit e 63 = true ∧ bits e 60 25 = 0 ∧ bit e (if wr then 61 else 62) = true
        ∧ (s.region (a / 2 ^ 26)).ownedBy ctx = true
      (may → s.c6Translate ctx va wr = some a) ∧ (¬ may → s.c6Translate ctx va wr = none)))

/-- MAP, UNMAP, TRIM and DISCARD change one region of the Tier Map, or are refused with TIER_RESULT and change nothing
else (R142, R143, R151, R174, R334). -/
def Obligations.RegionCommandsChangeTheTierMap : Prop :=
  ∀ (s : State) (path : Nat), path < 18 → s.access path 0x3010 = 0 → s.obj (okey 0x3010 5) ≠ 1 →
    let r := s.pobj path (okey 0x3010 1)
    let x := s.pobj path (okey 0x3010 4)
    let g := s.region r
    let new := fun (hm : Home) => ({ home := hm, planer := bits x 49 48, frame := bits x 47 35
                                     homeFrame := bits x 34 15 } : Region)
    let done := fun (t : State) (reason : Nat) => (t.setObj (okey 0x3010 5) (if reason = 0 then 2 else 3)).setObj
      (okey 0x3010 6) (tierResult reason 0 r 0)
    (∀ hm, s.mapReason r x = 0 → argHome x = some hm → hm ≠ .landing →
      exec (.mapRegion path) s = .next (done (s.updRegion r (fun _ => new hm)) 0))
    ∧ (s.mapReason r x = 0 → argHome x = some .landing →
      exec (.mapRegion path) s = .next (done ((s.updRegion r (fun _ => new .landing)).setFrame (bits x 47 35)
        (.home r)) 0))
    ∧ (s.mapReason r x ≠ 0 → exec (.mapRegion path) s = .next (done s (s.mapReason r x)))
    ∧ (s.isKv r = false → g.allocated = false → g.staged = false → g.home ≠ .landing →
      exec (.unmap path) s = .next (done (s.updRegion r (fun _ => {})) 0))
    ∧ (s.isKv r = false → g.allocated = false → g.staged = false → g.home = .landing →
      exec (.unmap path) s = .next (done (({ s.updRegion r (fun _ => {}) with
        free := s.free + 1
        landing := s.landing.lose (g.frame * 2 ^ 26) (2 ^ 26) s.free } : State).setFrame g.frame .free) 0))
    ∧ (s.isKv r = false → g.allocated = true ∨ g.staged = true →
      exec (.unmap path) s = .next (done s (if g.allocated then 5 else 6)))
    ∧ (s.isKv r = false → g.home = .flash → g.allocated = false →
      exec (.trim path) s = .next (done { s with
        free := s.free + 1
        flash := s.flash.lose (planerAddr g.planer (g.homeFrame * 2 ^ 26)) (2 ^ 26) s.free } 0))
    ∧ (s.isKv r = false → g.home ≠ .flash ∨ g.allocated = true →
      exec (.trim path) s = .next (done s (if g.home ≠ .flash then 1 else 5)))
    ∧ (s.isKv r = false → g.staged = true →
        (g.allocated = false ∨ s.loaded g.owner = false ∨ (s.ctx g.owner).held = true) →
      exec (.discard path) s = .next (done ((s.setFrame g.frame (.pool (stagedPool (s.frame g.frame)) false)).updRegion
        r (fun y => { y with staged := false, dirty := false, lost := false, frame := 0, pages := [] })) 0))
    ∧ (s.isKv r = false → g.staged = true → g.allocated = true → s.loaded g.owner = true →
        (s.ctx g.owner).held = false → exec (.discard path) s = .next (done s 7))
    ∧ (s.isKv r = false → g.staged = false → exec (.discard path) s = .next (done s 4))
    ∧ (s.isKv r = true → exec (.unmap path) s = .next (done s 7) ∧ exec (.trim path) s = .next (done s 7)
        ∧ exec (.discard path) s = .next (done s 7))

/-- ALLOC_CMD grants and releases runs of regions, FRAME_CMD moves Landing frames between FREE and a context's pool
(R118, R143, R152, R154, R174). -/
def Obligations.AllocationsAndFramesAreGranted : Prop :=
  (∀ (s : State) (path ctx : Nat), path < 18 → ctx < 64 → s.access path (0x3100 + ctx) = 0 →
    s.obj (okey (0x3100 + ctx) 4) ≠ 1 →
    let sel := s.pobj path (okey (0x3100 + ctx) 1)
    let first := s.pobj path (okey (0x3100 + ctx) 2)
    let count := s.pobj path (okey (0x3100 + ctx) 3)
    let a := s.alloc ctx sel
    ((s.alloc ctx sel).count = 0 → count ≠ 0 → first + count ≤ 1048576 →
      (∀ r, first ≤ r → r < first + count →
        (s.region r).home ≠ .none ∧ (s.region r).allocated = false ∧ (s.region r).lost = false) →
      ∃ t, exec (.allocGrant path ctx) s = .next t
        ∧ (∀ r, first ≤ r → r < first + count →
            t.region r = { s.region r with allocated := true, owner := ctx })
        ∧ (∀ r, (r < first ∨ first + count ≤ r) → t.region r = s.region r)
        ∧ t.alloc ctx sel = { first := first, count := count } ∧ t.obj (okey (0x3100 + ctx) 4) = 2
        ∧ t.obj (okey 0x3010 6) = tierResult 0 1 first ctx
        ∧ t.pobj path (okey (0x3100 + ctx) 2) = first ∧ t.pobj path (okey (0x3100 + ctx) 3) = count
        ∧ (∀ c n, (c ≠ ctx ∨ n ≠ sel) → c * 256 + n ≠ ctx * 256 + sel → t.alloc c n = s.alloc c n)
        ∧ t = { s with tmap := t.tmap, allocs := t.allocs, objs := t.objs, pobjs := t.pobjs })
    ∧ ((a.count ≠ 0 ∨ count = 0 ∨ 1048576 < first + count) →
      exec (.allocGrant path ctx) s = .next ((s.setObj (okey (0x3100 + ctx) 4) 3).setObj (okey 0x3010 6)
        (tierResult 1 1 first ctx)))
    ∧ (∀ (r : Nat) (why : Nat), a.count = 0 → count ≠ 0 → first + count ≤ 1048576 →
      ((regionRange first count).find? (fun r => (s.region r).home = .none) = some r ∧ why = 4
        ∨ (regionRange first count).find? (fun r => (s.region r).home = .none) = none
          ∧ (regionRange first count).find? (fun r => (s.region r).allocated) = some r ∧ why = 5
        ∨ (regionRange first count).find? (fun r => (s.region r).home = .none) = none
          ∧ (regionRange first count).find? (fun r => (s.region r).allocated) = none
          ∧ (regionRange first count).find? (fun r => (s.region r).lost) = some r ∧ why = 9) →
      exec (.allocGrant path ctx) s = .next ((s.setObj (okey (0x3100 + ctx) 4) 3).setObj (okey 0x3010 6)
        (tierResult why 1 r ctx)))
    ∧ (a.count = 0 → exec (.allocRelease path ctx) s = .next ((s.setObj (okey (0x3100 + ctx) 4) 3).setObj
        (okey 0x3010 6) (tierResult 1 1 a.first ctx)))
    ∧ (∀ r, a.count ≠ 0 → s.allocHeld ctx sel = false →
      (regionRange a.first a.count).find? (fun r => (s.region r).staged) = some r →
      exec (.allocRelease path ctx) s = .next ((s.setObj (okey (0x3100 + ctx) 4) 3).setObj (okey 0x3010 6)
        (tierResult 6 1 r ctx)))
    ∧ (a.count ≠ 0 → s.allocHeld ctx sel = false →
      (∀ r, a.first ≤ r → r < a.first + a.count → (s.region r).staged = false) →
      ∃ t, exec (.allocRelease path ctx) s = .next t
        ∧ (∀ r, a.first ≤ r → r < a.first + a.count →
            t.region r = { s.region r with allocated := false, owner := 0 })
        ∧ (∀ r, (r < a.first ∨ a.first + a.count ≤ r) → t.region r = s.region r)
        ∧ t.alloc ctx sel = {} ∧ t.obj (okey (0x3100 + ctx) 4) = 2 ∧ t.obj (okey 0x3010 6) = tierResult 0 1 a.first ctx
        ∧ t.pobj path (okey (0x3100 + ctx) 2) = 0 ∧ t.pobj path (okey (0x3100 + ctx) 3) = 0
        ∧ t = { s with tmap := t.tmap, allocs := t.allocs, objs := t.objs, pobjs := t.pobjs })
    ∧ (a.count ≠ 0 → s.allocHeld ctx sel = true →
      exec (.allocRelease path ctx) s = .next (((s.report 0x5009 7 0 (some ctx) 0 false false).setObj
        (okey (0x3100 + ctx) 4) 3).setObj (okey 0x3010 6) (tierResult 8 1 a.first ctx))))
  ∧ (∀ (s : State) (path ctx : Nat), path < 18 → ctx < 64 → s.access path 0x3011 = 0 → s.obj (okey 0x3011 3) ≠ 1 →
    let f := s.pobj path (okey 0x3011 1)
    let done := fun (t : State) (reason c : Nat) => (t.setObj (okey 0x3011 3) (if reason = 0 then 2 else 3)).setObj
      (okey 0x3010 6) (tierResult reason 2 f c)
    (s.frame f = .free → exec (.frameToPool path ctx) s = .next (done { s with
        frames := Tab.put .free s.frames f (.pool ctx false) } 0 ctx)
      ∧ exec (.frameToFree path) s = .next (done s 0 0))
    ∧ (∀ c, s.frame f = .pool c false → exec (.frameToFree path) s = .next (done { s with
        frames := Tab.put .free s.frames f .free } 0 c))
    ∧ (∀ c, s.frame f = .pool c true → exec (.frameToFree path) s = .next (done s 6 c))
    ∧ (∀ c b, s.frame f = .pool c b → exec (.frameToPool path ctx) s = .next (done s 1 ctx))
    ∧ (∀ r, s.frame f = .home r → exec (.frameToPool path ctx) s = .next (done s 3 ctx)
      ∧ exec (.frameToFree path) s = .next (done s 3 0))
    ∧ (∀ c r, s.frame f = .staged c r → exec (.frameToPool path ctx) s = .next (done s 6 ctx)
      ∧ exec (.frameToFree path) s = .next (done s 6 c)))

/-- Host windows and the background work of flash and DDR change their objects alone (R145, R146, R148, R149, R174).
-/
def Obligations.TiersCountTheirBackgroundWork : Prop :=
  (∀ (s : State) (path v : Nat), path < 18 → v < 2 ^ 64 → bits v 11 1 = 0 → s.access path 0x3020 = 0 →
    let w := s.pobj path (okey 0x3020 1)
    exec (.hostwinAddrWrite path v) s = .next (if s.windowUsed w
      then (s.setObj (okey 0x3010 6) (tierResult 3 3 w 0)).dictRefuse path (okey 0x3020 2) 8
      else ({ s with hostWins := Tab.put 0 s.hostWins w v } : State).setObj (okey 0x3010 6) (tierResult 0 3 w 0)))
  ∧ (∀ (s : State) (path q : Nat), path < 18 → q < 4 → s.access path (0x3400 + q) = 0 →
    s.obj (okey (0x3400 + q) 0x0B) ≠ 1 →
    exec (.flashScrubNow path q) s = .next { s.setObj (okey (0x3400 + q) 0x0B) 1 with power := { s.power with
      scrubFrom := Tab.put 0 s.power.scrubFrom q (s.obj (okey (0x3400 + q) 9)) } })
  ∧ (∀ (s : State) (q b n : Nat), s.readBlock q b n = { s with ftl := Tab.update {} s.ftl (blockKey q b) (fun x =>
      { x with reads := x.reads + n }) })
  ∧ (∀ (s : State) (q uncorr : Nat) (read : List (Nat × Nat)) (weak : List BlockMove), q < 4 →
    read.all (fun e => e.1 < 2 ^ 32) = true → weak.all (fun e => e.block < 2 ^ 32) = true →
    let k := fun (j : Nat) => okey (0x3400 + q) j
    let s0 := read.foldl (fun t e => t.readBlock q e.1 e.2) s
    let r := (weak.foldl (fun t e => t.relocate q e.block e.bytes) s0).addObj (k 0x0A) 32 uncorr
    (∀ e, s.planerOn q = false → exec (.flashBackgroundScrub q read weak uncorr e) s = .next s)
    ∧ (s.planerOn q = true → exec (.flashBackgroundScrub q read weak uncorr false) s = .next r)
    ∧ (s.planerOn q = true → s.obj (k 0x0B) = 1 → exec (.flashBackgroundScrub q read weak uncorr true) s
        = .next ((r.scrubPassed q).setObj (k 0x0B) 2))
    ∧ (s.planerOn q = true → s.obj (k 0x0B) ≠ 1 → exec (.flashBackgroundScrub q read weak uncorr true) s
        = .next (r.scrubPassed q))
    ∧ (r.scrubPassed q).obj (k 9) = 0)
  ∧ (∀ (s : State) (q b bytes : Nat), q < 4 → b < 2 ^ 32 →
    let t := s.relocate q b bytes
    t.erases q b = s.erases q b + 1 ∧ (Tab.get {} t.ftl (blockKey q b)).reads = 0
    ∧ (∀ x, x ≠ blockKey q b → Tab.get ({} : FlashBlock) t.ftl x = Tab.get {} s.ftl x)
    ∧ t.obj (okey (0x3400 + q) 8) = (s.obj (okey (0x3400 + q) 8) + 1) % 2 ^ 32
    ∧ t.obj (okey (0x3400 + q) 3) = (s.obj (okey (0x3400 + q) 3) + bytes) % 2 ^ 64
    ∧ t = { s with ftl := t.ftl, objs := t.objs })
  ∧ (∀ (s : State) (q b bytes : Nat), q < 4 → b < 2 ^ 32 →
    (exec (.readDisturbRelocation q ⟨b, bytes⟩) s = .next (
      if s.planerOn q = true ∧ 200000 ≤ (Tab.get ({} : FlashBlock) s.ftl (blockKey q b)).reads then s.relocate q b bytes
      else s))
    ∧ (exec (.staticWearLevelling q ⟨b, bytes⟩) s = .next (
      if s.planerOn q = true ∧ s.erases q b + 150 < s.eraseMax q (eraseStart q)
        ∧ (∀ e ∈ s.ftlBlocks q, s.erases q b ≤ s.erases q (e.1 % 2 ^ 32)) then s.eraseBlock q b bytes else s))
    ∧ (s.eraseBlock q b bytes).erases q b = s.erases q b + 1
    ∧ (s.eraseBlock q b bytes).obj (okey (0x3400 + q) 8) = s.obj (okey (0x3400 + q) 8))
  ∧ (∀ (s : State) (q b bytes spare uncorr : Nat), q < 4 → b < 2 ^ 32 → spare < 2 ^ 16 →
    let k := fun (j : Nat) => okey (0x3400 + q) j
    let r := ((s.eraseBlock q b bytes).addObj (k 0x0A) 32 uncorr).setObj (k 7) spare
    exec (.garbageCollection q b bytes spare uncorr) s = .next (if s.planerOn q = false then s
      else if spare < 10 ∧ 10 ≤ s.obj (k 7) then r.report 0x2006 5 q none 0 false false else r))
  ∧ (∀ (s : State) (q corrected uncorr : Nat), q < 4 →
    exec (.ddrPatrolScrub q corrected uncorr) s = .next (if s.planerOn q = false then s
      else (s.addObj (okey (0x3300 + q) 1) 32 corrected).addObj (okey (0x3300 + q) 2) 32 uncorr))

/-- A frame is accepted only when it is the next one and its link CRC holds; a codeword updates ACK, credits and NAK
of its link (R178, R179, R183, R184, R185, R186, R187, R191, R214, R225, R177). -/
def Obligations.FramesAndCodewordsAreReceivedInOrder : Prop :=
  (∀ (s : State) (n crc : Nat) (f : Frame), wellFormed (.frameReceive n f crc) = true →
    let l := s.link n
    let good := crc = f.crc ∧ f.lseq = l.rxSeq
    ((s.link n).live = false → exec (.frameReceive n f crc) s = .next s)
    ∧ (n < 16 → exec (.frameReceive n f crc) s = .next (frameReceive s n f crc))
    ∧ (16 ≤ n → exec (.frameReceive n f crc) s = .next ((frameReceive s n f crc).takeTransfers n))
    ∧ ((s.link n).live = true → ∃ t, frameReceive s n f crc = t
      ∧ t = { s with links := t.links, objs := t.objs }
      ∧ (∀ k, k ≠ n → t.link k = s.link k)
      ∧ t.link n = { l with
          got0 := if f.type = 1 then l.got0 + f.units else l.got0
          got1 := if f.type = 1 then l.got1 else l.got1 + f.units
          rxSeq := if good then (l.rxSeq + 1) % 4096 else l.rxSeq
          nak := if good then false else l.nak || decide (f.lseq = l.rxSeq)
          inbox := if good ∧ linkTakes n f = true then l.inbox ++ [f] else l.inbox }
      ∧ t.obj (okey (linkIndex n) 4)
          = (if good then (s.obj (okey (linkIndex n) 4) + 1) % 2 ^ 64 else s.obj (okey (linkIndex n) 4))
      ∧ t.obj (okey (linkIndex n) 7) = (if crc ≠ f.crc ∨ (good ∧ linkTakes n f = false)
          then (s.obj (okey (linkIndex n) 7) + 1) % 2 ^ 32 else s.obj (okey (linkIndex n) 7))
      ∧ (∀ k, k ≠ okey (linkIndex n) 4 → k ≠ okey (linkIndex n) 7 → t.obj k = s.obj k)))
  ∧ (∀ (s : State) (lane message parity : Nat), lane < 176 → message < 2 ^ 5280 → parity < 2 ^ 160 →
    let word := message + parity * 2 ^ 5280
    let n := laneLink lane
    let b := laneBit lane
    let l := s.link n
    let z := Tab.get ({} : LaneSt) l.lane b
    let p := prbsCodeword z.rxScr
    let k := fun (j : Nat) => okey (0xA000 + lane) j
    let s0 := s.updLink n (fun x => { x with lane := Tab.update {} x.lane b (fun y => { y with rxScr := p.2 }) })
    ((l.st = .disabled ∨ l.st = .fault) → ∃ t, exec (.codewordReceive lane message parity) s = .next t
      ∧ t = s.takeTransfers n)
    ∧ (l.st ≠ .disabled → l.st ≠ .fault → decodeCodeword (word ^^^ p.1) = none →
      exec (.codewordReceive lane message parity) s
        = .next (((s0.addObj (k 3) 32 1).takeUnit n b z.rxCw none).takeTransfers n))
    ∧ (∀ data ccw errs, l.st ≠ .disabled → l.st ≠ .fault → decodeCodeword (word ^^^ p.1) = some (data, ccw, errs) →
      exec (.codewordReceive lane message parity) s
        = .next ((((((s0.addObj (k 2) 64 errs).setObj (k 4) (max errs (s.obj (k 4)))).updLink n (fun x => { x with
          lane := Tab.update {} x.lane b (fun y =>
            { y with far := some (bits ccw 159 156) }) })).takeCcw n ccw).takeUnit
            n b (bits ccw 95 64) (some data)).takeTransfers n)))
  ∧ (∀ (s : State) (n ccw : Nat),
    let l := s.link n
    let ack := bits ccw 155 144
    let map := bits ccw 142 131
    let taken := s.updLink n (fun x => { x with
      cwseq := some (bits ccw 95 64)
      buf := ackDrop ack x.buf
      lim0 := credRaise x.lim0 (bits ccw 130 115)
      lim1 := credRaise x.lim1 (bits ccw 114 99)
      far := some map
      farNak := if bit ccw 143 then some ack else none })
    (newer (bits ccw 95 64) l.cwseq = false → s.takeCcw n ccw = s)
    ∧ (newer (bits ccw 95 64) l.cwseq = true → bits ccw 98 96 = 2 → l.live = true →
      s.takeCcw n ccw = taken.startRetrain n (l.cut ||| (l.lanes &&& (4095 - map))))
    ∧ (newer (bits ccw 95 64) l.cwseq = true → (bits ccw 98 96 ≠ 2 ∨ l.live = false) →
      (bit ccw 143 = false ∨ l.live = false ∨ l.farNak = some ack) → s.takeCcw n ccw = taken)
    ∧ (newer (bits ccw 95 64) l.cwseq = true → bits ccw 98 96 ≠ 2 → bit ccw 143 = true → l.live = true →
      l.farNak ≠ some ack → s.takeCcw n ccw = taken.recoverLink n))
  ∧ (∀ (s : State) (n cut : Nat),
    let t := s.startRetrain n cut
    t = { s with links := t.links, objs := t.objs }
    ∧ t.link n = { s.link n with
        st := .retraining, cut := cut, tx := [], units := [], rx := [], rxNext := none, sync := true }
    ∧ ∀ j, j ≠ n → t.link j = s.link j)
  ∧ (∀ x y, credRaise x y = x ∨ (x < credRaise x y ∧ credRaise x y < x + 32768
      ∧ credRaise x y % 65536 = y % 65536))

def Sys2Proof.Claims.sendSteps (s : State) (n : Nat) : List (CollStep × OutEntry) :=
  if n < 16 then (s.colls.filter (fun x => x.yarder = n / 2)).filterMap (fun x => (x.sendable n).map (fun o => (x, o)))
  else []

/-- A VC1 frame goes before any DATA frame, only within credit and buffer room; the silence timer resends every
outstanding frame (R180, R182, R185, R186, R187, R209, R214, R225, R277). -/
def Obligations.FramesAreSentUnderCreditAndResent : Prop :=
  (∀ (s : State) (n : Nat), n < 20 →
    let l := s.link n
    let ready := fun (f : Frame) => l.fits f && l.room f
    let steps := Claims.sendSteps s n
    ((l.live = false ∨ s.dieRuns = false) → exec (.frameSend n) s = .next s)
    ∧ (∀ o rest, l.live = true → s.dieRuns = true → l.vc1 = o :: rest →
      (ready o.frame = false → exec (.frameSend n) s = .next s)
      ∧ (ready o.frame = true → ∃ t, exec (.frameSend n) s = .next t
        ∧ t = { s with links := t.links, objs := t.objs, out := t.out, work := t.work }
        ∧ t.out = s.out ++ [.frame n (o.frame.withLseq l.txSeq)]
        ∧ (∀ k, k ≠ n → t.link k = s.link k)
        ∧ t.link n = { l with
            vc1 := rest
            txSeq := (l.txSeq + 1) % 4096
            used0 := if o.frame.type = 1 then l.used0 + o.frame.units else l.used0
            used1 := if o.frame.type = 1 then l.used1 else l.used1 + o.frame.units
            buf := l.buf ++ [{ lseq := l.txSeq, frame := o.frame.withLseq l.txSeq, flight := o.flight, sends := 1 }]
            tx := l.tx ++ wireOf (o.frame.withLseq l.txSeq) }
        ∧ (t.link n).buf.length ≤ 2048
        ∧ t.obj (okey (linkIndex n) 3) = (s.obj (okey (linkIndex n) 3) + 1) % 2 ^ 64
        ∧ (∀ k, k ≠ okey (linkIndex n) 3 → t.obj k = s.obj k)))
    ∧ (∀ e, l.live = true → s.dieRuns = true → l.vc1 = [] →
      s.frameTurn (n / 2) (steps.filter (fun e => e.2.last && ready e.2.frame)) = some e →
      exec (.frameSend n) s = .next (s.sendTurn n e.1 e.2))
    ∧ (∀ e, l.live = true → s.dieRuns = true → l.vc1 = [] →
      s.frameTurn (n / 2) (steps.filter (fun e => e.2.last && ready e.2.frame)) = none →
      s.frameTurn (n / 2) (steps.filter (fun e => !e.2.last && ready e.2.frame)) = some e →
      exec (.frameSend n) s = .next (s.sendTurn n e.1 e.2))
    ∧ (∀ o rest, l.live = true → s.dieRuns = true → l.vc1 = [] → (∀ e ∈ steps, ready e.2.frame = false) →
      l.vc0 = o :: rest → exec (.frameSend n) s = .next (if ready o.frame
        then (s.updLink n (fun x => { x with vc0 := rest })).startFrame n o.frame o.flight else s))
    ∧ (l.live = true → l.vc1 = [] → l.vc0 = [] → (∀ e ∈ steps, ready e.2.frame = false) →
      exec (.frameSend n) s = .next s))
  ∧ (∀ (s : State) (c : Nat) (es : List (CollStep × OutEntry)),
    (∀ e, s.frameTurn c es = some e → e ∈ es) ∧ (s.frameTurn c es = none ↔ ∀ e ∈ es, 64 ≤ e.1.ctx))
  ∧ (∀ (s : State) (n : Nat),
    ((s.link n).st = .disabled ∨ (s.link n).st = .fault → s.sendCodewords n = s)
    ∧ ((s.link n).live = true →
      let ks := (List.range (linkLanes n)).filter (fun k => bit (s.link n).lanes k)
      let t := s.sendCodewords n
      t = { s with links := t.links, out := t.out } ∧ (t.link n).tx = (s.link n).tx.drop (640 * ks.length)
      ∧ (t.link n).cw = ((s.link n).cw + 1) % 2 ^ 32 ∧ (t.link n).buf = (s.link n).buf
      ∧ s.out <+: t.out ∧ t.out.length = s.out.length + ks.length ∧ ∀ j, j ≠ n → t.link j = s.link j))
  ∧ (∀ (s : State) (n : Nat), n < 20 →
    let l := s.link n
    ((l.live = false ∨ l.buf = []) → exec (.retransmitTimeout n) s = .next s)
    ∧ (l.live = true → l.buf ≠ [] → (∃ t ∈ l.buf, 4 ≤ t.sends) →
      exec (.retransmitTimeout n) s = .next ((s.addObj (okey (linkIndex n) 6) 16 1).faultLink n 0x1004 4))
    ∧ (l.live = true → l.buf ≠ [] → (∀ t ∈ l.buf, t.sends < 4) → ∃ t, exec (.retransmitTimeout n) s = .next t
      ∧ t = { s with links := t.links, objs := t.objs, out := t.out }
      ∧ t.out = s.out ++ l.buf.map (fun x => Output.frame n x.frame)
      ∧ (∀ k, k ≠ n → t.link k = s.link k)
      ∧ t.link n = { l with
          buf := l.buf.map (fun x => { x with sends := x.sends + 1 })
          tx := l.tx ++ l.buf.flatMap (fun x => wireOf x.frame) }
      ∧ t.obj (okey (linkIndex n) 5) = (s.obj (okey (linkIndex n) 5) + l.buf.length) % 2 ^ 32
      ∧ (∀ k, k ≠ okey (linkIndex n) 5 → t.obj k = s.obj k)))

/-- Training brings a link up on the lanes that trained, a lane that fails narrows it or ends it in FAULT, and
retraining keeps its frames (R175, R189, R190, R191, R212, R214). -/
def Obligations.LinksTrainNarrowAndRetrain : Prop :=
  (∀ (s : State) (path n : Nat), path < 18 → n < 20 → s.access path (linkIndex n) = 0 →
    let k := okey (linkIndex n) 2
    let l := s.link n
    ((l.st = .disabled ∨ l.st = .fault) → ∃ t, exec (.linkTrain path n) s = .next t
      ∧ t = { s with links := t.links, objs := t.objs }
      ∧ t.link n = { st := .training, lane := seedLanes n } ∧ t.obj k = 1
      ∧ ∀ j, j ≠ n → t.link j = s.link j)
    ∧ (l.st ≠ .disabled → l.st ≠ .fault → exec (.linkTrain path n) s = .next (s.dictRefuse path k 8))
    ∧ ((16 ≤ n ∨ l.st = .disabled ∨ l.st = .training ∨ l.st = .fault) → ∃ t, exec (.linkDisable path n) s = .next t
      ∧ t = { s with links := t.links, objs := t.objs } ∧ t.link n = { st := .disabled } ∧ t.obj k = 2
      ∧ ∀ j, j ≠ n → t.link j = s.link j)
    ∧ (n < 16 → (l.live = true ∨ l.st = .retraining) → exec (.linkDisable path n) s
      = .next ((((s.updLink n (fun _ => freshLink n .disabled)).showLanes n).setObj k 2).abortPlane n 5))
    ∧ (l.live = true → ∃ t, exec (.linkRetrain path n) s = .next t
      ∧ t = { s with links := t.links, objs := t.objs }
      ∧ t.link n = { l with
          st := .retraining, cut := 0, tx := [], units := [], rx := [], rxNext := none, sync := true }
      ∧ t.obj k = 1 ∧ ∀ j, j ≠ n → t.link j = s.link j)
    ∧ (l.live = false → exec (.linkRetrain path n) s = .next (s.dictRefuse path k 8)))
  ∧ (∀ (s : State) (n lanes : Nat), n < 20 → lanes < 2 ^ 12 →
    let l := s.link n
    let m := l.both (lanes % 2 ^ linkLanes n)
    let r := l.both ((lanes % 2 ^ linkLanes n) &&& (2 ^ linkLanes n - 1 - l.cut))
    (l.st = .training → s.minWidth n ≤ popCount m 12 → ∃ t, exec (.trainingComplete n lanes) s = .next t
      ∧ t = { s with links := t.links, objs := t.objs }
      ∧ t.link n = { l with st := if popCount m (linkLanes n) = linkLanes n then .up else .degraded, lanes := m }
      ∧ (t.link n).live = true ∧ ∀ j, j ≠ n → t.link j = s.link j)
    ∧ ((l.st ≠ .training ∨ popCount m 12 < s.minWidth n) → exec (.trainingComplete n lanes) s = .next s)
    ∧ (l.st = .retraining → s.minWidth n ≤ popCount r 12 → ∃ t, exec (.retrainComplete n lanes) s = .next t
      ∧ t = { s with links := t.links, objs := t.objs, out := t.out }
      ∧ t.link n = { l with
          st := if popCount r (linkLanes n) = linkLanes n then .up else .degraded, lanes := r
          tx := l.tx ++ l.buf.flatMap (fun x => wireOf x.frame) }
      ∧ t.out = s.out ++ l.buf.map (fun x => Output.frame n x.frame) ∧ ∀ j, j ≠ n → t.link j = s.link j)
    ∧ ((l.st ≠ .retraining ∨ popCount r 12 < s.minWidth n) → exec (.retrainComplete n lanes) s = .next s))
  ∧ (∀ (s : State) (n : Nat), n < 20 →
    ((s.link n).st = .training →
      exec (.trainingTimeout n) s = .next (((s.setLink n .fault 0).endLinkCmd n 3).reportLink n 0x1009))
    ∧ ((s.link n).st ≠ .training → exec (.trainingTimeout n) s = .next s)
    ∧ ((s.link n).st = .retraining → exec (.retrainTimeout n) s = .next (s.faultLink n (downCode n) 5))
    ∧ ((s.link n).st ≠ .retraining → exec (.retrainTimeout n) s = .next s))
  ∧ (∀ (s : State) (lane : Nat), lane < 176 → ∀ i ∈ ([.laneLossOfLock lane, .laneErrorThreshold lane] : List Instr),
    let n := laneLink lane
    let k := laneBit lane
    let l := s.link n
    lane = linkLane0 n + k
    ∧ ((l.live = false ∨ bit l.lanes k = false) → exec i s = .next s)
    ∧ (l.live = true → bit l.lanes k = true → s.obj (okey 0x4000 3) = 1 → s.minWidth n ≤ l.width - 1 →
      ∃ t, exec i s = .next t
      ∧ t.link n = { l with
          lanes := l.lanes - 2 ^ k, st := .retraining, cut := l.cut + 2 ^ k
          tx := [], units := [], rx := [], rxNext := none, sync := true }
      ∧ (∀ j, j ≠ n → t.link j = s.link j) ∧ t.colls = s.colls ∧ t.ctxs = s.ctxs ∧ t.flights = s.flights)
    ∧ (l.live = true → bit l.lanes k = true → (s.obj (okey 0x4000 3) ≠ 1 ∨ l.width - 1 < s.minWidth n) →
      exec i s = .next (s.faultLink n (downCode n) 5)))

def Sys2Proof.Claims.frameRows (p : Nat) : List (Instr × Nat) :=
  [(.dataFrame p, 1), (.endFrame p, 2), (.ecredFrame p, 3), (.beatFrame p, 4), (.abortFrame p, 5), (.commitFrame p, 6),
   (.creditFrame p, 7)]

/-- A received frame of any type passes the destination, epoch, incarnation and source checks or is dropped and
counted (R182, R192, R195, R212, R214). -/
def Obligations.FramesOfAStandAreChecked : Prop :=
  ∀ (s : State) (plane : Nat), plane < 16 → ∀ r ∈ Claims.frameRows plane,
    (s.inboxHead plane r.2 = none → exec r.1 s = .next s)
    ∧ (∀ f, s.inboxHead plane r.2 = some f →
      let s0 := s.updLink plane (fun l => { l with inbox := l.inbox.drop 1 })
      let ctx := rxCtx f
      let fid := bits f.header 43 24 = s.obj (okey 0x4000 1)
      let epoch := s.epoch ctx ≠ 0 ∧ bits f.header 95 64 = s.epoch ctx
      let inc := bits f.header 127 112 = s.incarnation
      (¬ fid → exec r.1 s = .next (s0.addObj (okey 0x4000 7) 32 1))
      ∧ (fid → ¬ epoch → exec r.1 s = .next (s0.addObj (okey (standIdx ctx) 0x0B) 32 1))
      ∧ (fid → epoch → ¬ inc → exec r.1 s = .next (s0.addObj (okey (standIdx ctx) 0x0C) 32 1))
      ∧ (fid → epoch → inc → (∀ m ∈ s.validMembers ctx, bits m.2 47 28 ≠ bits f.header 63 44) →
        exec r.1 s = .next (s0.addObj (okey (standIdx ctx) 0x0D) 32 1))
      ∧ (∀ m, fid → epoch → inc → s.sourceOf f = some m → bits f.header 111 96 ≠ bits m.2 27 12 →
        let s1 := s0.addObj (okey (standIdx ctx) 0x0C) 32 1
        ((∀ x ∈ s.colls, x.ctx = ctx → s.awaits x m.1 = false) → exec r.1 s = .next s1)
        ∧ (∀ x, s.colls.find? (fun x => x.ctx = ctx && s.awaits x m.1) = some x →
          exec r.1 s = .next (s1.abortStand ctx 2 m.1 (s.collOf x).coll x.yarder none))))

def Sys2Proof.Claims.accepted (s : State) (plane type : Nat) (f : Frame) (m : Nat × Nat) : Prop :=
  s.inboxHead plane type = some f ∧ bits f.header 43 24 = s.obj (okey 0x4000 1) ∧ s.epoch (rxCtx f) ≠ 0
    ∧ bits f.header 95 64 = s.epoch (rxCtx f) ∧ bits f.header 127 112 = s.incarnation ∧ s.sourceOf f = some m
    ∧ bits f.header 111 96 = bits m.2 27 12

/-- What each type of accepted frame does: DATA kept and counted, END checked, grants raised (early: log entry 84),
aborts passed on, COMMITs and credits counted (R183, R195, R203, R204, R206, R209, R210, R211, R212, R214). -/
def Obligations.AcceptedFramesReachTheirSteps : Prop :=
  ∀ (s : State) (plane : Nat) (f : Frame) (m : Nat × Nat), plane < 16 →
    let s0 := s.updLink plane (fun l => { l with inbox := l.inbox.drop 1 })
    let ctx := rxCtx f
    let c := plane / 2
    let s1 := s0.noteWork (nodeId 5 c) ctx
    let coll := bits f.header 183 168
    let step := bits f.header 159 128
    let found := (s.openSteps ctx c).find? (fun x => (s.collOf x).coll = coll)
    (Claims.accepted s plane 4 f m → exec (.beatFrame plane) s = .next s1)
    ∧ (Claims.accepted s plane 5 f m → exec (.abortFrame plane) s
        = .next (s1.abortStand ctx 7 (bits f.header 247 234) 0 c (some (bits f.header 255 192))))
    ∧ (Claims.accepted s plane 3 f m →
      (found = none → exec (.ecredFrame plane) s = .next (s1.updCtx ctx (fun y =>
          let k := earlyKey coll plane m.1
          { y with early := Tab.put 0 y.early k (max (Tab.get 0 y.early k) (bits f.header 255 224)) })))
      ∧ (∀ x, found = some x → exec (.ecredFrame plane) s = .next (s1.updColl x.id (fun y =>
          let k := pkeyOf ((s.collGroup x).idxOf m.1) plane
          { y with grant := Tab.put 0 y.grant k (max (Tab.get 0 y.grant k) (bits f.header 255 224)) }))))
    ∧ (Claims.accepted s plane 6 f m →
      (step ≠ s.yarderStep ctx c → exec (.commitFrame plane) s = .next (s1.abortStand ctx 6 m.1 coll c none))
      ∧ (step = s.yarderStep ctx c → s.commits.contains (ctx, step, m.1) = true →
        exec (.commitFrame plane) s = .next s1)
      ∧ (step = s.yarderStep ctx c → s.commits.contains (ctx, step, m.1) = false →
        exec (.commitFrame plane) s = .next { s1 with
          commits := (ctx, step, m.1) :: s.commits
          colls := s.colls.map (fun x =>
            if x.ctx = ctx && (s.collOf x).op = 0xA7 && s.yarderStep ctx x.yarder = step
              && (s.collGroup x).contains m.1
            then { x with commits := (s.collGroup x).idxOf m.1 :: x.commits } else x) }))
    ∧ (Claims.accepted s plane 7 f m →
      let owner := 0x88 + c
      let k := bits f.header 255 250
      let bound := (imgBindsOf (s.ctx ctx).image owner k true).find? (fun b =>
        b.party = 3 && ((imgGroup (s.ctx ctx).image b.group).getD []).getD b.position 16384 = m.1)
      let v := s.credits ctx owner k + bits f.header 249 234
      (s.loaded ctx = false → exec (.creditFrame plane) s = .next s1)
      ∧ (s.loaded ctx = true → bound = none → exec (.creditFrame plane) s = .next (s1.holdShell 0x5004 owner ctx 0))
      ∧ (∀ b, s.loaded ctx = true → bound = some b → b.capacity < v →
        exec (.creditFrame plane) s = .next (s1.holdShell 0x5005 owner ctx 0))
      ∧ (∀ b, s.loaded ctx = true → bound = some b → v ≤ b.capacity →
        (∀ x ∈ s.openSteps ctx c, (s.collOf x).op ≠ 0xA6) →
        exec (.creditFrame plane) s
          = .next { s1 with cred := Tab.put 0 s.cred (ckey ctx owner k) (BitVec.ofNat 16 v) }))
    ∧ (∀ r ∈ ([(.dataFrame plane, 1), (.endFrame plane, 2)] : List (Instr × Nat)),
      Claims.accepted s plane r.2 f m →
      (found = none → exec r.1 s = .next (s0.dropCount ctx 0x0E))
      ∧ (∀ x, found = some x →
        let g := s.collGroup x
        let pos := g.idxOf m.1
        let b := s.collOf x
        let sender := g.contains m.1 && (b.senders g.length (s.collPos x)).contains pos
          && (b.planeList c).contains plane
        (sender = false → exec r.1 s = .next ((s0.dropCount ctx 0x0D).abortStand ctx 3 m.1 coll c none))
        ∧ (sender = true → step ≠ s.yarderStep ctx c → exec r.1 s = .next (s0.abortStand ctx 6 m.1 coll c none))))
    ∧ (∀ x, Claims.accepted s plane 1 f m → found = some x → step = s.yarderStep ctx c →
      let g := s.collGroup x
      let pos := g.idxOf m.1
      let b := s.collOf x
      let k := pkeyOf pos plane
      let n := Tab.get 0 x.cnt k + 1
      g.contains m.1 = true → (b.senders g.length (s.collPos x)).contains pos = true →
      (b.planeList c).contains plane = true →
      let fmtOk := rxFmt f ≠ 0 ∧ rxFmt f ≤ 9 ∧ ((rxFmt f = 2 ∨ rxFmt f = 3) → rxTsc f ≠ 0xFF)
        ∧ s.inPiece x pos plane f = true
      (¬ fmtOk → exec (.dataFrame plane) s = .next (s0.abortStand ctx 3 m.1 coll c none))
      ∧ (fmtOk → ∃ t, exec (.dataFrame plane) s = .next t
        ∧ t = { s with links := t.links, objs := t.objs, colls := t.colls, work := s1.work }
        ∧ t.colls = s.colls.map (fun y => if y.id = x.id then { y with
            rx := y.rx ++ [{ pos := pos, phase := y.endsOf pos plane, frame := f }]
            cnt := Tab.put 0 y.cnt k n
            crc := Tab.put 0 y.crc k
              (crc64Run (Tab.get 0 y.crc k ^^^ 0xFFFFFFFFFFFFFFFF) f.payload ^^^ 0xFFFFFFFFFFFFFFFF) } else y)
        ∧ t.obj (okey (0x4200 + x.yarder) 7) = (s.obj (okey (0x4200 + x.yarder) 7) + 64 * f.len) % 2 ^ 64
        ∧ (∀ j, j ≠ plane → t.link j = s.link j)
        ∧ (t.link plane).inbox = (s.link plane).inbox.drop 1
        ∧ (n % 16 ≠ 0 → (t.link plane).vc1 = (s.link plane).vc1)
        ∧ (n % 16 = 0 → ∃ o, (t.link plane).vc1 = (s.link plane).vc1 ++ [o] ∧ o.flight = some x.id
            ∧ o.frame = s.ctlTo ctx (g.getD pos 0) 3 ((s.obj (okey 0x4000 6) + n) * 2 ^ 32) b.coll
                (s.yarderStep ctx c))))
    ∧ (∀ x, Claims.accepted s plane 2 f m → found = some x → step = s.yarderStep ctx c →
      let g := s.collGroup x
      let pos := g.idxOf m.1
      let b := s.collOf x
      let k := pkeyOf pos plane
      g.contains m.1 = true → (b.senders g.length (s.collPos x)).contains pos = true →
      (b.planeList c).contains plane = true →
      (Tab.get 0 x.crc k ≠ bits f.header 255 192 →
        exec (.endFrame plane) s = .next (s0.abortStand ctx 3 (g.getD pos 0) b.coll x.yarder none))
      ∧ (Tab.get 0 x.crc k = bits f.header 255 192 →
        exec (.endFrame plane) s = .next ((s1.updColl x.id (fun y => { y with
          crc := Tab.put 0 y.crc k 0, ends := Tab.put 0 y.ends k (y.endsOf pos plane + 1) })).advance x.id)))

/-- EPOCH_CMD takes a higher epoch under the fence token, members and SELF change only while no step is open, beats
take turns (R192, R196, R211, R212, R214, R237, R245, R296, R336). -/
def Obligations.StandsAreSetByTheHost : Prop :=
  (∀ (s : State) (path ctx : Nat), path < 18 → ctx < 64 → s.access path (standIdx ctx) = 0 →
    let i := standIdx ctx
    let new := s.pobj path (okey i 4)
    (s.obj (okey i 6) ≠ 1 → s.pobj path (okey i 5) = s.fenceToken ctx → s.epoch ctx < new → s.anyOpen ctx = false →
      memberValid (s.member ctx (s.self ctx)) = true → ∃ t, exec (.epochCmd path ctx) s = .next t
        ∧ t.epoch ctx = new ∧ t.fenced ctx = false ∧ t.obj (okey i 3) = (s.obj (okey i 3) + 1) % 2 ^ 16
        ∧ t.obj (okey (0x32C0 + ctx) 8) = 0 ∧ t.obj (okey i 0x13) = 0 ∧ t.obj (okey i 6) = 2
        ∧ t.slots = (s.restartDone ctx).slots ∧ t.commits = s.commits.filter (fun e => e.1 ≠ ctx)
        ∧ (t.ctx ctx).early = []
        ∧ t = { s with objs := t.objs, slots := t.slots, scaler := t.scaler, commits := t.commits, ctxs := t.ctxs })
    ∧ (∀ r, s.obj (okey i 6) ≠ 1 →
        r = (if s.pobj path (okey i 5) ≠ s.fenceToken ctx then 1 else if new ≤ s.epoch ctx then 2
          else if s.anyOpen ctx then 3 else if !memberValid (s.member ctx (s.self ctx)) then 4 else 0) → r ≠ 0 →
        exec (.epochCmd path ctx) s = .next ((s.setObj (okey i 0x13) r).setObj (okey i 6) 3))
    ∧ (∀ v, v < 2 ^ 64 →
      let sel := s.pobj path (okey i 8)
      let used := memberValid v && (s.validMembers ctx).any (fun m => m.1 ≠ sel && bits m.2 47 28 = bits v 47 28)
      let reserved := bits v 62 54 ≠ 0 ∨ bits v 11 0 ≠ 0
      (s.anyOpen ctx = true → exec (.memberEntryWrite path ctx v) s
        = .next ((s.setObj (okey i 0x13) 3).dictRefuse path (okey i 9) 8))
      ∧ (s.anyOpen ctx = false → used = true → exec (.memberEntryWrite path ctx v) s
        = .next ((s.setObj (okey i 0x13) 5).dictRefuse path (okey i 9) 8))
      ∧ (s.anyOpen ctx = false → used = false → reserved → exec (.memberEntryWrite path ctx v) s
        = .next ((s.setObj (okey i 0x13) 6).dictRefuse path (okey i 9) 4))
      ∧ (s.anyOpen ctx = false → used = false → ¬ reserved → ∃ t, exec (.memberEntryWrite path ctx v) s = .next t
        ∧ t = { s with members := t.members, objs := t.objs } ∧ t.member ctx sel = v
        ∧ (∀ c p, c * 16384 + p ≠ ctx * 16384 + sel → t.member c p = s.member c p)
        ∧ t.obj (okey i 0x0A) = (t.validMembers ctx).length))
    ∧ (∀ v, v < 2 ^ 32 →
      (s.anyOpen ctx = true → exec (.selfWrite path ctx v) s
        = .next ((s.setObj (okey i 0x13) 3).dictRefuse path (okey i 7) 8))
      ∧ (s.anyOpen ctx = false → 16383 < v → exec (.selfWrite path ctx v) s = .next (s.dictRefuse path (okey i 7) 3))
      ∧ (s.anyOpen ctx = false → v ≤ 16383 → exec (.selfWrite path ctx v) s = .next (s.setObj (okey i 7) v))))
  ∧ (∀ (s : State) (ctx : Nat), ctx < 64 →
    let planes := (List.range 16).filter (fun p => (s.link p).live)
    let turn := Tab.get 0 s.beatTurn ctx
    let p := planes.getD (turn % planes.length) 0
    ((s.dieRuns = false ∨ s.loaded ctx = false ∨ (s.ctx ctx).held = true ∨ s.epoch ctx = 0 ∨ s.fenced ctx = true
      ∨ planes = []) → exec (.beatTimer ctx) s = .next s)
    ∧ (s.dieRuns = true → s.loaded ctx = true → (s.ctx ctx).held = false → s.epoch ctx ≠ 0 → s.fenced ctx = false →
      planes ≠ [] → ∃ t arg, exec (.beatTimer ctx) s = .next t
        ∧ t = { s with links := t.links, beatTurn := Tab.put 0 s.beatTurn ctx (turn + 1) }
        ∧ (∀ j, j ≠ p → t.link j = s.link j)
        ∧ (t.link p).vc1 = (s.link p).vc1 ++ ((s.validMembers ctx).filter (fun m => m.1 ≠ s.self ctx)).map (fun m =>
            { frame := s.ctlTo ctx m.1 4 (arg * 2 ^ 48) 0 (s.yarderStep ctx (p / 2)), flight := none })))
  ∧ (∀ (s : State) (ctx member : Nat), ctx < 64 → member < 16384 →
    ((s.dieRuns = false ∨ ∀ x ∈ s.colls, x.ctx = ctx → s.awaits x member = false) →
      exec (.noProgress ctx member) s = .next s)
    ∧ (∀ x, s.dieRuns = true → s.colls.find? (fun x => x.ctx = ctx && s.awaits x member) = some x →
      exec (.noProgress ctx member) s = .next (s.abortStand ctx 1 member (s.collOf x).coll x.yarder none)))

def Sys2Proof.Claims.collRows (m : StepMoment) : List (Instr × Nat) :=
  let recv : Moment := match m with | .dispatch sh => .dispatch sh | .start id _ => .start id
  [(.rs m, 0xA0), (.ag m, 0xA1), (.ar m, 0xA2), (.sendStep m, 0xA3), (.recvStep recv, 0xA4), (.a2a m, 0xA5),
   (.ring m, 0xA6)]

/-- A collective step dispatches when nothing of R197 to R201 bars it and opens with its wire format; COMMIT passes
its gate (DETAIL, early grants: log 83, 84) (R28, R197, R198, R199, R201, R202, R203, R210, R218, R241, R297). -/
def Obligations.CollectiveStepsDispatchAndOpen : Prop :=
  (∀ (s : State) (sh : Shell) (h : Head), sh.wf = true →
    ∀ r ∈ Claims.collRows (.dispatch sh),
    s.readyHead sh r.2 (fun _ => .unit) = some h →
    let b := collBody h.words
    (∀ e, s.collFault h b = some e → exec r.1 s = .next (s.holdShell e.1 h.unit h.ctx e.2))
    ∧ (s.collFault h b = none →
      exec r.1 s = .next ((((s.openColl h b).acquire h).launch
        { s.collFlight h b with pos := (s.stream h.ctx h.owner).pos }).restCheck h.ctx)))
  ∧ (∀ (s : State) (h : Head) (b : CollBody),
    let t := s.openColl h b
    let w := if b.scal then (Tab.get {} s.scaler (scalerKey h.ctx b.lslot)).choice else (b.wfmt, b.wtsc)
    let c := h.unit - 0x88
    let g := (imgGroup (s.ctx h.ctx).image b.group).getD []
    t = { s with colls := t.colls, links := t.links, ctxs := t.ctxs }
    ∧ t.colls = s.colls ++ [{ id := s.nextId, ctx := h.ctx, yarder := c, fmt := w.1, tsc := w.2
                              grant := s.earlyGrants h.ctx b.coll c g }]
    ∧ t.ctx h.ctx = { s.ctx h.ctx with early := (s.ctx h.ctx).early.filter (fun e => !earlyMine b.coll c e) }
    ∧ (∀ i, i ≠ h.ctx → t.ctx i = s.ctx i)
    ∧ ∀ n, n ∉ b.planeList (h.unit - 0x88) → t.link n = s.link n)
  ∧ (∀ (s : State) (sh : Shell) (h : Head), sh.wf = true → s.readyHead sh 0xA7 (fun _ => .unit) = some h →
    let b := collBody h.words
    let n := s.yarderStep h.ctx (h.unit - 0x88)
    let g := (imgGroup (s.ctx h.ctx).image b.group).getD []
    let gate := s.committed h.ctx + 1 = n ∧ (∀ q, q < 4 → s.stepCtr q h.ctx + 1 = n)
      ∧ (∀ e ∈ s.ownGrans h.ctx, e.2.1.appliedStep e.2.2.1 = n) ∧ s.obj (okey (0x32C0 + h.ctx) 8) = 0
      ∧ s.obj (okey (0x5100 + h.ctx) 1) = 0
    let early := (s.commits.filter (fun e => e.1 = h.ctx && e.2.1 = n && g.contains e.2.2)).map (fun e => g.idxOf e.2.2)
    (∀ e, s.collFault h b = some e →
      exec (.commitStep (.dispatch sh)) s = .next (s.holdShell e.1 h.unit h.ctx e.2))
    ∧ (s.collFault h b = none → (∃ m ∈ s.validMembers h.ctx, m.1 ∉ g) →
      exec (.commitStep (.dispatch sh)) s = .next (s.holdShell 0x500F h.unit h.ctx 0))
    ∧ (s.collFault h b = none → (∀ m ∈ s.validMembers h.ctx, m.1 ∈ g) →
      (s.checksPending h.ctx ≠ 0 → exec (.commitStep (.dispatch sh)) s = .next s)
      ∧ (s.checksPending h.ctx = 0 → ¬ gate →
        exec (.commitStep (.dispatch sh)) s = .next (s.holdShell 0x4006 h.unit h.ctx 0))
      ∧ (s.checksPending h.ctx = 0 → gate → exec (.commitStep (.dispatch sh)) s
        = .next (((((s.openColl h b).updColl s.nextId (fun x => { x with commits := early })).acquire h).launch
            { s.collFlight h b with pos := (s.stream h.ctx h.owner).pos }).restCheck h.ctx))))

/-- A step sends its pieces when it starts, completes only when all is acknowledged and checked, and reduces in fixed
order (R202, R205, R206, R207, R208, R209, R210, R212, R237, R242, R296). -/
def Obligations.CollectiveStepsStartAndComplete : Prop :=
  (∀ (s : State) (id : Nat) (f : Flight) (x : CollStep) (err : Option Nat),
    ∀ r ∈ Claims.collRows (.start id err), s.startableStep id r.2 = some f → s.collStep id = some x →
    let fails := ((if r.2 = 0xA4 then none else err).bind (s.readAddr x)).or (s.readDown x)
    let s0 := (s.countReads x).updFlight id (fun g => { g with phase := .running })
    (∀ a, s.sourceBlocked x = some a → exec r.1 s = .next ((s.closeColl id).c6Fault f a))
    ∧ (∀ a, s.sourceBlocked x = none → fails = some a → exec r.1 s = .next ((s.closeColl id).memFault f a))
    ∧ (s.sourceBlocked x = none → fails = none → s.firstPieces x = none →
      exec r.1 s = .next (s0.holdShell 0x5010 f.owner f.ctx 0))
    ∧ (∀ e, s.sourceBlocked x = none → fails = none → s.firstPieces x = some e →
      let b := s.collOf x
      let s1 := (s0.updColl id (fun y => { y with started := true, own := e.1 })).updColl id (fun y => { y with
        out := y.out ++ e.2 })
      let s2 := (s.collDesc x b.sdesc).elim s1 (fun d =>
        if b.scal then s1.countSource x b (s.linVals x.ctx d b.sstart b.count) else s1)
      exec r.1 s = .next (s2.advance id)))
  ∧ (∀ (s : State) (id : Nat) (f : Flight) (x : CollStep), s.collStep id = some x → s.flight id = some f →
    let b := s.collOf x
    let ready := b.op ≠ 0xA7 ∧ x.started = true ∧ s.sentAll x = true ∧ s.stripesDone x (b.stripes x.format) = true
      ∧ (b.op = 0xA6 → x.rounds = b.rounds ∧ x.phase = b.rounds)
      ∧ (b.op = 0xA2 → b.oneshot x.format = true ∨ x.phase = 1)
    let free := s.dieRuns = true ∧ s.unitDown f.owner = false
    let r := s.writeOutput x
    (ready → free → r.2 = none → exec (.collectiveComplete id) s = .next ((r.1.closeColl id).complete f))
    ∧ (∀ a, ready → free → r.2 = some a →
      exec (.collectiveComplete id) s = .next ((r.1.closeColl id).accFault f a.1 a.2))
    ∧ (¬ (ready ∧ free) → exec (.collectiveComplete id) s = .next s))
  ∧ (∀ (s : State) (id : Nat), s.collStep id = none →
    exec (.collectiveComplete id) s = .next s ∧ exec (.commitComplete id) s = .next s)
  ∧ (∀ (s : State) (id : Nat) (f : Flight) (x : CollStep), s.collStep id = some x →
    let b := s.collOf x
    let n := s.yarderStep x.ctx x.yarder
    (s.startableStep id 0xA7 = some f → ∃ t, exec (.commitStep (.start id)) s = .next t
      ∧ t = { s with links := t.links, colls := t.colls, flights := t.flights, work := t.work }
      ∧ t.flights = s.flights.map (fun g => if g.id = id then { g with phase := .running } else g)
      ∧ t.colls = s.colls.map (fun y => if y.id = id then { y with started := true } else y)
      ∧ ∀ p, (t.link p).vc1 = (s.link p).vc1 ++ (if (b.planeList x.yarder).contains p && (s.link p).live then
          ((s.collGroup x).filter (fun m => m ≠ s.self x.ctx)).map (fun m =>
            { frame := s.ctlTo x.ctx m 6 0 b.coll n, flight := some id }) else []))
    ∧ (s.flight id = some f →
      let ready := f.op = 0xA7 ∧ x.started = true ∧ s.sentAll x = true
        ∧ (∀ p, p < (s.collGroup x).length → p ≠ s.collPos x → p ∈ x.commits) ∧ s.dieRuns = true
        ∧ s.unitDown f.owner = false
      (¬ ready → exec (.commitComplete id) s = .next s)
      ∧ (ready →
        let s1 := (List.range 4).foldl (fun u q => u.dieXfer q (mkXfer 9 0 x.ctx 0 0 0 0 n 0 0 0 0 false []))
          (s.setObj (okey (0x32C0 + x.ctx) 1) n)
        let s2 := (s1.scalerCommit x.ctx n).restartDone x.ctx
        let s3 : State := { s2 with commits := s2.commits.filter (fun e => !(e.1 = x.ctx && e.2.1 ≤ n)) }
        exec (.commitComplete id) s = .next ((s3.closeColl id).complete f))))
  ∧ (∀ (s : State) (x : CollStep) (rx : List RxFrame), s.fixedOrder x = true →
    (∀ p, (rx.filter (fun r => r.phase = 0)).filter (fun r => r.pos = p)
      = (x.rx.filter (fun r => r.phase = 0)).filter (fun r => r.pos = p)) →
    s.reduced { x with rx := rx } = s.reduced x)

def Sys2Proof.Claims.xferRows (q : Nat) (x : Xfer) (err : Bool) : List (Instr × Nat) :=
  [(.rdReq q ⟨x, err⟩, 1), (.rdData q x, 2), (.wrData q x, 3), (.wrAck q x, 4), (.grad q x, 5), (.emitTransfer q x, 6),
   (.granDone q x, 7), (.errTransfer q x, 8), (.stepset q x, 9)]

def Sys2Proof.Claims.answered (s t : State) (q : Nat) (x answer : Xfer) : Prop :=
  t.reqs = s.reqs ++ [(q, x.tag)] ∧ t.nextId = s.nextId + 1 ∧ t.out = s.out ++ [.xfer q answer]

/-- The nine transfer kinds act only on a working Planer with their own KIND; requests are answered under their tag in
arrival order (log entry 44) (R225, R226, R227, R228, R242, R311). -/
def Obligations.TransfersAreServedByTheirPlaner : Prop :=
  ∀ (s : State) (q : Nat) (x : Xfer) (err : Bool), q < 4 → x.shape = true →
    let s1 : State := { s.noteWork (nodeId 6 q) x.ctx with reqs := s.reqs.filter (fun r => r ≠ (q, x.tag)) }
    let ddr := (s.region (x.addr / 2 ^ 26)).home = .ddr
    let span := if x.kind = 1 then max 1 x.len else max 1 x.data.length
    let blocked := s.reqBlocked s.nextId q (x.addr, span)
    let l := s.homeLoc (s.region (x.addr / 2 ^ 26)) (x.addr % 2 ^ 26)
    let lost := (spanRegions x.addr span).any (fun r => (s.region r).lost)
    let e := if x.kind = 1 then err else false
    (∀ r ∈ Claims.xferRows q x err, (s.planerUp q = false ∨ x.kind ≠ r.2) → exec r.1 s = .next s)
    ∧ (s.planerUp q = true →
      (∀ r ∈ ([(.rdReq q ⟨x, err⟩, 1), (.wrData q x, 3)] : List (Instr × Nat)), x.kind = r.2 →
        (blocked = true → exec r.1 s = .next { s with
          nextId := s.nextId + 1, tierQ := s.tierQ ++ [{ id := s.nextId, q := q, x := x, err := e }] })
        ∧ (∀ code, blocked = false →
          ((lost = true ∧ code = 0x2005) ∨ (lost = false ∧ s.onPlaner q x.addr span = false ∧ code = 0x500A)
            ∨ (lost = false ∧ s.onPlaner q x.addr span = true ∧ (e || s.phyDown l) = true ∧ code = l.uncorrCode)) →
          ∃ t, exec r.1 s = .next t ∧ t = { s with objs := t.objs, reqs := t.reqs, nextId := t.nextId, out := t.out }
            ∧ Claims.answered s t q x (mkXfer 8 x.tag x.ctx 0 0 0 0 0 0 0 x.addr code false [])))
      ∧ (blocked = false → lost = false → s.onPlaner q x.addr span = true → (e || s.phyDown l) = false →
        (x.kind = 1 → ∃ t, exec (.rdReq q ⟨x, err⟩) s = .next t
          ∧ t = { s with objs := t.objs, reqs := t.reqs, nextId := t.nextId, out := t.out }
          ∧ Claims.answered s t q x (mkXfer 2 x.tag x.ctx 0 0 0 0 0 0 0 x.addr 0 false
              ((List.range x.len).map (fun k => s.homeRead (x.addr + k))))
          ∧ t.obj (okey (0x3300 + q) 3) = (if ddr then (s.obj (okey (0x3300 + q) 3) + x.len) % 2 ^ 64
              else s.obj (okey (0x3300 + q) 3))
          ∧ ∀ k, k ≠ okey (0x3300 + q) 3 → t.obj k = s.obj k)
        ∧ (x.kind = 3 → ∃ t, exec (.wrData q x) s = .next t
          ∧ t = { s.homeWrite x.addr x.data with objs := t.objs, reqs := t.reqs, nextId := t.nextId, out := t.out }
          ∧ Claims.answered s t q x (mkXfer 4 x.tag x.ctx 0 0 0 0 0 0 0 x.addr 0 false [])
          ∧ ∀ k, t.obj k = (if (ddr ∧ k = okey (0x3300 + q) 3)
                ∨ (¬ ddr ∧ (k = okey (0x3400 + q) 2 ∨ k = okey (0x3400 + q) 3))
              then (s.obj k + x.data.length) % 2 ^ 64 else s.obj k)))
      ∧ (x.kind = 2 → exec (.rdData q x) s = .next s1)
      ∧ (x.kind = 4 → exec (.wrAck q x) s = .next s1)
      ∧ (x.kind = 8 → (x.code = 0x4002 ∨ x.code = 0x4003 ∨ x.code = 0x4004 ∨ x.code = 0x2008) →
        exec (.errTransfer q x) s = .next s1)
      ∧ (x.kind = 8 → x.code ≠ 0x4002 → x.code ≠ 0x4003 → x.code ≠ 0x4004 → x.code ≠ 0x2008 →
        exec (.errTransfer q x) s = .next ((s1.report x.code 5 q (some x.ctx) x.addr true false).hold x.ctx x.code))
      ∧ (x.kind = 9 → ∃ t, exec (.stepset q x) s = .next t ∧ t = { s with objs := t.objs } ∧ t.stepCtr q x.ctx = x.step
        ∧ ∀ k, k ≠ okey (0x3280 + q) (0x40 + x.ctx) → t.obj k = s.obj k))

/-- A granule is applied only at the next step, whole and not torn, never twice in an epoch, and only past its pins
(R227, R231, R234, R236, R237, R239, R240, R247, R311). -/
def Obligations.GranulesAreCheckedAndAppliedOnce : Prop :=
  (∀ (s : State) (id : Nat),
    (s.portQ.find? (fun g => g.id = id) = none → exec (.granuleHandoff id) s = .next s)
    ∧ (∀ g, s.portQ.find? (fun g => g.id = id) = some g →
      let z := s.slot g.slot
      let may := s.planerUp g.q = true ∧ (s.rxBuf.filter (fun r => r.q = g.q)).length < 32
      (¬ may → exec (.granuleHandoff id) s = .next s)
      ∧ (may → s.streamOf z = none → exec (.granuleHandoff id) s = .next (s.handoffFault g))
      ∧ (∀ u, may → s.streamOf z = some u →
        let at_ := s.granPlace g.ctx z.image u.nstate g.gran g.step
        (at_ = .fault → exec (.granuleHandoff id) s = .next (s.handoffFault g))
        ∧ (at_ = .motion → exec (.granuleHandoff id) s
          = .next (if s.granStuck g.ctx z.image u.nstate g.gran then s.handoffFault g else s))
        ∧ (at_ = .ready → ∃ t, exec (.granuleHandoff id) s = .next t
          ∧ (let x := mkXfer 5 0 g.ctx g.fmt g.tsc g.slot (slotStream z.image) g.step g.epoch g.gran
              (emitAddr z.image g.gran g.step) 0 true g.data
            t = { s with
              portQ := s.portQ.filter (fun r => r.id ≠ id), out := s.out ++ [.xfer g.q x], links := t.links
              work := (s.noteWork (nodeId 6 g.q) g.ctx).work }
            ∧ (t.link (16 + g.q)).vc0 = (s.link (16 + g.q)).vc0
                ++ (xferFrames x s.incarnation).map (fun f => { frame := f, flight := none })
            ∧ ∀ j, j ≠ 16 + g.q → t.link j = s.link j)))))
  ∧ (∀ (s : State) (g : Granule), g.ctx < 64 →
    ((g.told = true ∧ (s.ctx g.ctx).held = true) → s.handoffFault g = s)
    ∧ ((g.told = false ∨ (s.ctx g.ctx).held = false) → ((s.handoffFault g).ctx g.ctx).held = true
      ∧ (s.handoffFault g).portQ = s.portQ.map (fun r => if r.id = g.id then { r with told := true } else r)))
  ∧ (∀ (s : State) (q : Nat) (x : Xfer), q < 4 → x.shape = true → s.planerUp q = true → x.kind = 5 →
    let z := s.slot x.lslot
    let takes := (s.rxBuf.filter (fun r => r.q = q)).length < 32 ∧ z.owner = some x.ctx ∧ x.granule % 4 = q
    let g : Granule :=
      { id := s.nextId, q := q, ctx := x.ctx, slot := x.lslot, gran := x.granule, step := x.step, epoch := x.epoch
        fmt := x.fmt, tsc := x.tsc, data := x.data, phase := .waiting, tag := x.tag }
    let s1 := s.addObj (okey (0x3280 + q) 4) 64 x.data.length
    let next := x.step = (s.stepCtr q x.ctx + 1) % 2 ^ 32
    let done := z.appliedStep x.granule = x.step
    (¬ takes → exec (.grad q x) s = .next s)
    ∧ (takes → crc64 x.data ≠ x.crc64 → exec (.grad q x) s = .next (s1.granFails g 0x4003))
    ∧ (takes → crc64 x.data = x.crc64 → ¬ next → exec (.grad q x) s = .next (s1.granFails g 0x4002))
    ∧ (takes → crc64 x.data = x.crc64 → next → done → (z.gran x.granule).epoch = x.epoch →
      exec (.grad q x) s = .next (s1.granFails g 0x4004))
    ∧ (takes → crc64 x.data = x.crc64 → next → ¬ done → (z.gran x.granule).torn = true →
      exec (.grad q x) s = .next (s1.granFails g 0x2008))
    ∧ (takes → crc64 x.data = x.crc64 → next →
      ((done ∧ (z.gran x.granule).epoch ≠ x.epoch) ∨ (¬ done ∧ (z.gran x.granule).torn = false)) →
      exec (.grad q x) s = .next { s1 with rxBuf := s.rxBuf ++ [g], nextId := s.nextId + 1 }))
  ∧ (∀ (s : State) (g : Granule) (code : Nat), g.ctx < 64 →
    let t := s.granFails g code
    (t.ctx g.ctx).held = true ∧ t.slots = s.slots ∧ t.rxBuf = s.rxBuf ∧ t.ddr = s.ddr ∧ t.frames = s.frames
    ∧ (code = 0x4002 → t.obj (okey (0x32C0 + g.ctx) 8) = 1)
    ∧ t.out.getLast? = some (.xfer g.q (g.message 8 code)))
  ∧ (∀ (s : State) (q i : Nat), q < 4 →
    (s.rxGran q i = none → exec (.granuleApply q i) s = .next s ∧ exec (.granuleComplete q i) s = .next s)
    ∧ (s.planerUp q = false → exec (.granuleComplete q i) s = .next s
      ∧ (s.granTouchesNone q i = false → exec (.granuleApply q i) s = .next s))
    ∧ (s.granTouchesNone q i = true → exec (.granuleApply q i) s = .fault .unmapped))
  ∧ (∀ (s : State) (q i : Nat) (g : Granule), q < 4 → s.rxGran q i = some g → s.planerUp q = true →
    s.granTouchesNone q i = false →
    let z := s.slot g.slot
    ((g.phase ≠ .waiting ∨ z.pin (g.step % 2) ≠ 0 ∨ s.reqBlocked g.id q (s.granSpan g) = true ∨ s.streamOf z = none) →
      exec (.granuleApply q i) s = .next s)
    ∧ (∀ u, g.phase = .waiting → z.pin (g.step % 2) = 0 → s.reqBlocked g.id q (s.granSpan g) = false →
      s.streamOf z = some u →
      (∀ code, s.granCheck g = .fails code →
        (let t := (s.dropRx g.id).granFails g code
        exec (.granuleApply q i) s = .next (t.serveReqs t.tierQ)))
      ∧ (s.granCheck g = .replay → ∃ t : State, exec (.granuleApply q i) s = .next (t.serveReqs t.tierQ)
        ∧ t = { s with objs := t.objs, scalerQ := t.scalerQ, rxBuf := t.rxBuf, out := t.out }
        ∧ t.rxBuf = s.rxBuf.map (fun y => if y.id = g.id then { y with phase := .reemit false } else y)
        ∧ t.out = s.out ++ [.xfer q (g.emission z.image
            (emitCodes (s.stateArray (recAddr z.image u.nstate g.gran) 0 (granLen z.image g.gran))).1)])
      ∧ (s.granCheck g = .apply → ∃ t : State, exec (.granuleApply q i) s = .next (t.serveReqs t.tierQ)
        ∧ t = { s.writeRecord (recAddr z.image u.nstate g.gran) (s.updated u g z.image) with
            objs := t.objs, scalerQ := t.scalerQ, rxBuf := t.rxBuf, out := t.out }
        ∧ t.rxBuf = s.rxBuf.map (fun y => if y.id = g.id then { y with phase := .applying false } else y)
        ∧ t.out = s.out ++ [.xfer q (g.emission z.image (emitCodes ((s.updated u g z.image).headD [])).1)]
        ∧ t.slots = s.slots)))
  ∧ (∀ (s : State) (q : Nat) (x : Xfer) (g : Granule), q < 4 → x.shape = true → s.planerUp q = true → x.kind = 6 →
    s.rxBuf.find? (fun g => g.emits q x) = some g →
    (crc64 x.data ≠ x.crc64 → exec (.emitTransfer q x) s = .next s)
    ∧ (crc64 x.data = x.crc64 → exec (.emitTransfer q x) s = .next (((((s.noteWork (nodeId 6 q) g.ctx).tierWriteBytes
        x.addr x.data).countAccess 3 x.addr x.data.length)).updRx g.id (fun y => { y with phase := y.phase.ack }))))
  ∧ (∀ (s : State) (q i : Nat) (g : Granule), q < 4 → s.rxGran q i = some g → s.planerUp q = true →
    (g.phase = .applying true → ∃ t, exec (.granuleComplete q i) s = .next t
      ∧ t = { s with objs := t.objs, slots := t.slots, rxBuf := t.rxBuf, out := t.out }
      ∧ t.rxBuf = s.rxBuf.filter (fun y => y.id ≠ g.id)
      ∧ (t.slot g.slot).gran g.gran = { applied := some g.step, epoch := g.epoch, torn := false }
      ∧ (∀ n k, (n ≠ g.slot ∨ k ≠ g.gran) → (t.slot n).gran k = (s.slot n).gran k)
      ∧ t.obj (okey (0x3280 + q) 1) = (s.obj (okey (0x3280 + q) 1) + 1) % 2 ^ 64
      ∧ t.out = s.out ++ [.xfer q (g.message 7 0)])
    ∧ (g.phase = .reemit true → ∃ t, exec (.granuleComplete q i) s = .next t
      ∧ t = { s with objs := t.objs, rxBuf := t.rxBuf, out := t.out }
      ∧ t.rxBuf = s.rxBuf.filter (fun y => y.id ≠ g.id)
      ∧ t.obj (okey (0x3280 + q) 2) = (s.obj (okey (0x3280 + q) 2) + 1) % 2 ^ 64
      ∧ t.out = s.out ++ [.xfer q (g.message 7 1)])
    ∧ (g.phase ≠ .applying true → g.phase ≠ .reemit true → exec (.granuleComplete q i) s = .next s))
  ∧ (∀ (s : State) (q : Nat) (x : Xfer), q < 4 → x.shape = true → s.planerUp q = true → x.kind = 7 →
    let z := s.slot x.lslot
    let counts := z.owner = some x.ctx ∧ x.epoch = s.epoch x.ctx ∧ x.granule ∉ z.done ∧ x.granule < slotGrans z.image
    (¬ counts → exec (.granDone q x) s = .next s)
    ∧ (counts → exec (.granDone q x) s = .next {
        (s.noteWork (nodeId 6 q) x.ctx).updSlot x.lslot (fun y => { y with done := x.granule :: y.done }) with
        posts := s.posts ++ (if slotPostEn z.image = true ∧ z.done.length + 1 = slotGrans z.image then
          [{ ctx := x.ctx, producer := 0x90, target := s.unitOwner (slotPostUnit z.image)
             counter := slotPostCtr z.image, amount := 1, credit := false }] else []) }))

def Sys2Proof.Claims.stepRows (path ctx : Nat) : List Instr :=
  [.setStep path ctx, .rollForward path ctx, .emitStep path ctx, .snapshot path ctx, .restoreStep path ctx]

/-- STEP_CMD: SET_STEP, ROLL_FORWARD, EMIT, SNAPSHOT and RESTORE act only on a quiet context, each under its own
condition (R223, R244, R245, R247, R295, R296). -/
def Obligations.StepActionsMoveTheCommittedStep : Prop :=
  (∀ (s : State) (path ctx : Nat), path < 18 → ctx < 64 → s.access path (0x32C0 + ctx) = 0 →
    s.obj (okey (0x32C0 + ctx) 3) ≠ 1 →
    let i := 0x32C0 + ctx
    let refused := fun (r : Nat) => (.next ((s.setObj (okey i 4) r).setObj (okey i 3) 3) :
      Host.Outcome State Fault Refusal)
    let begun := fun (k : Nat) => (.next
      (({ s with stepRun := Tab.put 0 s.stepRun ctx k } : State).setObj (okey i 3) 1) :
      Host.Outcome State Fault Refusal)
    let v := s.committed ctx
    let grans := s.ownGrans ctx
    let counters := ∀ q, q < 4 → s.stepCtr q ctx = v
    (s.quiet ctx = false → ∀ c ∈ Claims.stepRows path ctx, exec c s = refused 1)
    ∧ (s.quiet ctx = true →
      (∃ t, exec (.setStep path ctx) s = .next t
        ∧ t.committed ctx = s.pobj path (okey i 2) ∧ (∀ q, q < 4 → t.stepCtr q ctx = s.pobj path (okey i 2))
        ∧ (∀ q c, q < 4 → c < 64 → c ≠ ctx → t.stepCtr q c = s.stepCtr q c ∧ t.committed c = s.committed c)
        ∧ t.obj (okey i 8) = 0 ∧ t.obj (okey i 4) = 0 ∧ t.obj (okey i 3) = 2
        ∧ t.slots = s.slots.map (fun e => (e.1, if e.2.owner = some ctx then
            { e.2 with base := s.pobj path (okey i 2), grans := [] } else e.2))
        ∧ t.ddr = s.ddr ∧ t.flash = s.flash ∧ t.frames = s.frames)
      ∧ (¬ counters → exec (.rollForward path ctx) s = refused 6)
      ∧ (counters → (∃ e ∈ grans, (e.2.1.gran e.2.2.1).torn = true) → exec (.rollForward path ctx) s = refused 3)
      ∧ (counters → (∀ e ∈ grans, (e.2.1.gran e.2.2.1).torn = false) →
        (∃ e ∈ grans, e.2.1.appliedStep e.2.2.1 ≠ v + 1) → exec (.rollForward path ctx) s = refused 2)
      ∧ (counters → (∀ e ∈ grans, (e.2.1.gran e.2.2.1).torn = false ∧ e.2.1.appliedStep e.2.2.1 = v + 1) →
        ∃ t, exec (.rollForward path ctx) s = .next t ∧ t = { s with objs := t.objs }
        ∧ t.committed ctx = (v + 1) % 2 ^ 32 ∧ (∀ q, q < 4 → t.stepCtr q ctx = (v + 1) % 2 ^ 32)
        ∧ t.obj (okey i 4) = 0 ∧ t.obj (okey i 3) = 2)
      ∧ (s.emitPlaced ctx = false → exec (.emitStep path ctx) s = refused 4)
      ∧ (s.emitPlaced ctx = true → exec (.emitStep path ctx) s = begun 3)
      ∧ ((∃ e ∈ grans, s.stepCtr (e.2.2.1 % 4) ctx < e.2.1.appliedStep e.2.2.1) →
        exec (.snapshot path ctx) s = refused 2)
      ∧ ((∀ e ∈ grans, e.2.1.appliedStep e.2.2.1 ≤ s.stepCtr (e.2.2.1 % 4) ctx) →
        exec (.snapshot path ctx) s = if s.snapPlaced ctx then begun 4 else refused 4)
      ∧ ((s.snapStep ctx = 0xFFFFFFFF ∨ Tab.get [] s.snaps ctx ≠ s.slotImages ctx) →
        exec (.restoreStep path ctx) s = refused 5)
      ∧ (s.snapStep ctx ≠ 0xFFFFFFFF → Tab.get [] s.snaps ctx = s.slotImages ctx →
        exec (.restoreStep path ctx) s = begun 5)))
  ∧ (∀ (s : State) (ctx : Nat), ctx < 64 →
    let k := Tab.get 0 s.stepRun ctx
    ((s.dieRuns = false ∨ (k ≠ 3 ∧ k ≠ 4 ∧ k ≠ 5)) → exec (.stepActionComplete ctx) s = .next s)
    ∧ (s.dieRuns = true → (k = 3 ∨ k = 4 ∨ k = 5) → ∃ t, exec (.stepActionComplete ctx) s = .next t
      ∧ t.stepRun = Tab.put 0 s.stepRun ctx 0
      ∧ ((t.obj (okey (0x32C0 + ctx) 4) = 0 ∧ t.obj (okey (0x32C0 + ctx) 3) = 2)
        ∨ (k = 5 ∧ t.obj (okey (0x32C0 + ctx) 4) = 4 ∧ t.obj (okey (0x32C0 + ctx) 3) = 3))
      ∧ (k = 4 → t.snapStep ctx = s.committed ctx ∧ Tab.get [] t.snaps ctx = s.slotImages ctx)
      ∧ (k = 3 → t.committed ctx = s.committed ctx)
      ∧ (k = 5 → t.committed ctx = s.snapStep ctx)))

/-- WLOAD_CMD loads version WVER + 1, switches or reverts at the next batch; slots fill in ascending order, only
unpinned buffers (R248, R251, R252, R253, R254, R268). -/
def Obligations.WeightsLoadAndSwitchByVersion : Prop :=
  (∀ (s : State) (path ctx : Nat), path < 18 → ctx < 64 → s.access path (servIdx ctx) = 0 →
    s.obj (okey (servIdx ctx) 4) ≠ 1 →
    let i := servIdx ctx
    let v := s.serv ctx
    let w := (s.wver ctx + 1) % 2 ^ 32
    let fills := s.wloadVer ctx ≠ 0 ∧ (v.started < (s.servSlots ctx).length
      ∨ ∃ l ∈ s.servSlots ctx, v.buf l (s.wloadVer ctx % 2) = .filling)
    let otherReady := ∀ l ∈ s.servSlots ctx, v.buf l ((s.wver ctx + 1) % 2) = .ready
    let refused := fun (r : Nat) => (.next ((s.setObj (okey i 5) r).setObj (okey i 4) 3) :
      Host.Outcome State Fault Refusal)
    (v.on = false → ∀ c ∈ ([.weightLoad path ctx, .weightSwitch path ctx, .revert path ctx] : List Instr),
      exec c s = refused 1)
    ∧ (v.on = true →
      (fills → exec (.weightLoad path ctx) s = refused 2 ∧ exec (.revert path ctx) s = refused 2)
      ∧ (¬ fills → v.switch = true → exec (.weightLoad path ctx) s = refused 3 ∧ exec (.revert path ctx) s = refused 3)
      ∧ (v.switch = true → exec (.weightSwitch path ctx) s = refused 3)
      ∧ (v.switch = false → s.wloadVer ctx ≠ w → exec (.weightSwitch path ctx) s = refused 4)
      ∧ (¬ fills → v.switch = false → ¬ otherReady → exec (.revert path ctx) s = refused 5)
      ∧ (¬ fills → v.switch = false → ∃ t, exec (.weightLoad path ctx) s = .next t
        ∧ t = { s with objs := t.objs, serving := t.serving } ∧ t.wloadVer ctx = w ∧ t.wver ctx = s.wver ctx
        ∧ t.serv ctx = { v with started := 0 } ∧ t.obj (okey i 5) = 0 ∧ t.obj (okey i 4) = 2)
      ∧ (v.switch = false → s.wloadVer ctx = w → ∃ t, exec (.weightSwitch path ctx) s = .next t
        ∧ t = { s with objs := t.objs, serving := t.serving } ∧ t.obj (okey i 2) = w ∧ t.wver ctx = s.wver ctx
        ∧ t.serv ctx = { v with switch := true } ∧ t.obj (okey i 5) = 0 ∧ t.obj (okey i 4) = 2)
      ∧ (¬ fills → v.switch = false → otherReady → ∃ t, exec (.revert path ctx) s = .next t
        ∧ t = { s with objs := t.objs, serving := t.serving } ∧ t.wver ctx = s.wver ctx
        ∧ t.obj (okey i 2) = v.ver ((s.servSlots ctx).headD 0) ((s.wver ctx + 1) % 2)
        ∧ t.serv ctx = { v with switch := true } ∧ t.obj (okey i 5) = 0 ∧ t.obj (okey i 4) = 2)))
  ∧ (∀ (s : State) (ctx : Nat), ctx < 64 →
    let v := s.serv ctx
    let w := s.wloadVer ctx
    let b := w % 2
    let k := servLdoneCtr v.record
    let acquired := s.seqAcquire ctx k 1
    ((v.on = false ∨ s.filling ctx = false ∨ s.dieRuns = false ∨ (s.servSlots ctx)[v.started]? = none) →
      exec (.slotFillStart ctx) s = .next s)
    ∧ (∀ l, (s.servSlots ctx)[v.started]? = some l → (s.slot l).pin b ≠ 0 → exec (.slotFillStart ctx) s = .next s)
    ∧ (∀ l, v.on = true → s.filling ctx = true → s.dieRuns = true → (s.servSlots ctx)[v.started]? = some l →
      (s.slot l).pin b = 0 → ∃ t, exec (.slotFillStart ctx) s = .next t
        ∧ t = { s with
            serving := t.serving
            posts := s.posts ++ [{ ctx := ctx, producer := 0x94, target := s.unitOwner (servLgoUnit v.record),
                                   counter := servLgoCtr v.record, amount := 1, credit := false }]
            work := (s.noteWork (nodeId 8 ctx) ctx).work }
        ∧ (t.serv ctx).buf l b = .filling ∧ (t.serv ctx).ver l b = w ∧ (t.serv ctx).started = v.started + 1
        ∧ ∀ l' b', b' < 2 → (l' ≠ l ∨ b' ≠ b) →
          (t.serv ctx).buf l' b' = v.buf l' b' ∧ (t.serv ctx).ver l' b' = v.ver l' b')
    ∧ ((v.on = false ∨ s.avail ctx 0x94 k = 0 ∨ s.dieRuns = false) → exec (.slotReady ctx) s = .next s)
    ∧ (v.on = true → s.avail ctx 0x94 k ≠ 0 → s.dieRuns = true →
      ((∀ l ∈ s.servSlots ctx, v.buf l b ≠ .filling) →
        exec (.slotReady ctx) s = .next (acquired.holdShell 0x5004 0x94 ctx 0))
      ∧ (∀ l, (s.servSlots ctx).find? (fun l => v.buf l b = .filling) = some l → ∃ t, exec (.slotReady ctx) s = .next t
        ∧ t = { acquired with serving := t.serving } ∧ (t.serv ctx).buf l b = .ready
        ∧ ∀ l' b', b' < 2 → (l' ≠ l ∨ b' ≠ b) → (t.serv ctx).buf l' b' = v.buf l' b')))

/-- Batches are accepted in order, admitted one at a time under one pinned version, and reported in their result
object (R256, R257, R258, R259, R260, R262, R263, R266, R267, R268, R270). -/
def Obligations.BatchesAreAdmittedAndReported : Prop :=
  (∀ (s : State) (path ctx : Nat), path < 18 → ctx < 64 → s.access path (servIdx ctx) = 0 →
    s.obj (okey (servIdx ctx) 8) ≠ 1 →
    let i := servIdx ctx
    let x := s.pobj path (okey i 7)
    let r := s.batchReason ctx x
    (r ≠ 0 → exec (.batchSubmit path ctx) s = .next ((s.setObj (okey i 9) r).setObj (okey i 8) 3))
    ∧ (r = 0 → ∃ t, exec (.batchSubmit path ctx) s = .next t
      ∧ t = { s with objs := t.objs, serving := t.serving } ∧ t.obj (okey i 9) = 0 ∧ t.obj (okey i 8) = 2
      ∧ t.serv ctx = { s.serv ctx with
          lastSeq := some (batchSeq x)
          batches := (s.serv ctx).batches ++ [{ image := x, result := batchResult (s.serv ctx).record x }] }
      ∧ (t.serv ctx).batches.length ≤ 2))
  ∧ (∀ (s : State) (ctx : Nat) (order : List Nat), ctx < 64 →
    let v := s.serv ctx
    let w := if v.switch then s.obj (okey (servIdx ctx) 2) else s.wver ctx
    (v.batches = [] → exec (.batchAdmit ctx order) s = .next s ∧ exec (.slotTokenPost ctx) s = .next s
      ∧ exec (.batchComplete ctx) s = .next s)
    ∧ (∀ b rest, v.batches = b :: rest →
      let i := 0x2400 + b.result
      let x := (s.slot (b.pins.getD b.posted 0)).image
      ((v.on = false ∨ b.admitted = true ∨ s.dieRuns = false) → exec (.batchAdmit ctx order) s = .next s)
      ∧ (v.on = true → b.admitted = false → s.dieRuns = true → ∃ t a d m, exec (.batchAdmit ctx order) s = .next t
        ∧ t.wver ctx = w ∧ (t.serv ctx).switch = false
        ∧ (t.serv ctx).batches = { b with admitted := true, version := w, pins := s.servSlots ctx, active := a,
                                          deferred := d, defMap := m } :: rest
        ∧ a = (t.serv ctx).kv.length
        ∧ t.obj (okey (servIdx ctx) 0x0E) = (if d = 0 then s.obj (okey (servIdx ctx) 0x0E)
            else (s.obj (okey (servIdx ctx) 0x0E) + d) % 2 ^ 32)
        ∧ t.slots = (s.pinSlots (s.servSlots ctx) (w % 2) (· + 1)).slots
        ∧ (∀ k, 1 ≤ k → k ≤ 5 → t.obj (okey i k) = 0)
        ∧ t.posts = s.posts ++ [{ ctx := ctx, producer := 0x94, target := s.unitOwner (servBstartUnit v.record),
                                  counter := servBstartCtr v.record, amount := 1, credit := false }])
      ∧ ((b.admitted = false ∨ s.dieRuns = false ∨ b.pins.length ≤ b.posted ∨ v.holds (b.pins.getD b.posted 0) b.version
          = false) → exec (.slotTokenPost ctx) s = .next s)
      ∧ (b.admitted = true → s.dieRuns = true → b.posted < b.pins.length →
        v.holds (b.pins.getD b.posted 0) b.version = true →
        exec (.slotTokenPost ctx) s = .next { s.updServ ctx (fun v => { v with
            batches := { b with posted := b.posted + 1 } :: rest }) with
          posts := s.posts ++ [{ ctx := ctx, producer := 0x94, target := s.unitOwner (slotPostUnit x),
                                 counter := slotPostCtr x, amount := 1, credit := false }]
          work := (s.noteWork (nodeId 8 ctx) ctx).work })
      ∧ ((b.admitted = false ∨ b.bdone ≠ servBdoneN v.record ∨ (s.ctx ctx).held = true ∨ s.dieRuns = false) →
        exec (.batchComplete ctx) s = .next s)
      ∧ (b.admitted = true → b.bdone = servBdoneN v.record → (s.ctx ctx).held = false → s.dieRuns = true →
        ∃ t, exec (.batchComplete ctx) s = .next t
        ∧ (t.serv ctx).batches = rest
        ∧ (t.serv ctx).kv = v.kv.filter (fun e => !(e.1 < 256 && batchLeave b.image e.1))
        ∧ t.slots = (s.pinSlots b.pins (b.version % 2) (· - 1)).slots
        ∧ t.obj (okey i 1) = 2 ^ 30 + b.active * 2 ^ 21 + b.deferred * 2 ^ 12 + batchSeq b.image % 4096
        ∧ t.obj (okey i 2) = batchSeq b.image ∧ t.obj (okey i 3) = b.version ∧ t.obj (okey i 4) = b.defMap
        ∧ t.obj (okey (servIdx ctx) 0x0F) = (s.obj (okey (servIdx ctx) 0x0F) + 1) % 2 ^ 64)))
  ∧ (∀ (s : State) (path r v : Nat), path < 18 → r < 1024 → v < 2 ^ 32 → s.access path (0x2400 + r) = 0 →
    let w := s.obj (okey (0x2400 + r) 1)
    let shown := bits w 31 30 = 1 ∨ bits w 31 30 = 2
    let reads := s.obj (okey (0x2400 + r) 5)
    (shown → s.obj (okey (0x2400 + r) 2) = v →
      exec (.resAck path r v) s = .next (s.setObj (okey (0x2400 + r) 1) (2 ^ 31 + w % 2 ^ 30)))
    ∧ ((¬ shown ∨ s.obj (okey (0x2400 + r) 2) ≠ v) →
      exec (.resAck path r v) s = .next ((s.dictRefuse path (okey (0x2400 + r) 6) 8).refuse 0x5014 none 0))
    ∧ (shown → exec (.resWordRead path r) s = .next (s.setObj (okey (0x2400 + r) 5) (min 65535 (reads + 1))))
    ∧ (¬ shown → exec (.resWordRead path r) s = .next s))

/-- LOAD validates and installs a plan or is refused with its reason; UNLOAD waits for the context's work and frees
what the plan holds (R23, R26, R119, R231, R271, R273, R282, R285, R340, R356). -/
def Obligations.PlansAreLoadedAndUnloaded : Prop :=
  (∀ (s : State) (path ctx : Nat), path < 18 → ctx < 64 → s.access path (ctxIdx ctx) = 0 →
    s.obj (okey (ctxIdx ctx) 3) ≠ 1 →
    let n := s.obj (okey (ctxIdx ctx) 2)
    let s0 : State := { s with segs := [] }
    let r := s.loadReason ctx (s.obj (okey (ctxIdx ctx) 1)) n
    let m := s0.copyImage (s.obj (okey (ctxIdx ctx) 1)) n {} 0 3
    (r ≠ 0 → exec (.planLoad path ctx) s = .next (s0.planRefused ctx r 0x5001))
    ∧ (∀ e, r = 0 → s0.imageBad m n ctx = some e → ∃ t, exec (.planLoad path ctx) s = .next t
      ∧ (t.ctx ctx).image = (s.ctx ctx).image ∧ t.streams = s.streams ∧ t.tok = s.tok ∧ t.cores = s.cores
      ∧ t.obj (okey (ctxIdx ctx) 3) = 3 ∧ t.obj (okey (ctxIdx ctx) 4) = e.1 * 2 ^ 28 + e.2)
    ∧ (r = 0 → s0.imageBad m n ctx = none → s.loaded ctx = false → ∃ t, exec (.planLoad path ctx) s = .next t
      ∧ t.segs = [] ∧ (t.ctx ctx).st = .waiting ∧ (t.ctx ctx).image = m ∧ (t.ctx ctx).len = n
      ∧ (∀ o, o < 256 → t.stream ctx o = {})
      ∧ (∀ o k, o < 256 → k < 256 → Tab.get 0 t.tok (ckey ctx o k) = 0 ∧ Tab.get 0 t.acq (ckey ctx o k) = 0)
      ∧ t.obj (okey (ctxIdx ctx) 3) = 2 ∧ t.obj (okey (ctxIdx ctx) 4) = 0)
    ∧ (r = 0 → s0.imageBad m n ctx = none → s.loaded ctx = true → exec (.planLoad path ctx) s
      = .next ((s0.updCtx ctx (fun c => { c with
          st := .unloading, nextImage := some (m, n), overrun := false, drain := 0 })).setObj
          (okey (ctxIdx ctx) 3) 1))
    ∧ (s.loaded ctx = false → exec (.unload path ctx) s = .next (s.planRefused ctx 0xB 0x5001))
    ∧ (s.loaded ctx = true → exec (.unload path ctx) s
      = .next ((s.updCtx ctx (fun c => { c with
          st := .unloading, nextImage := none, overrun := false, drain := 0 })).setObj
          (okey (ctxIdx ctx) 3) 1)))
  ∧ (∀ (s : State) (ctx busy : Nat), ctx < 64 →
    let may := (s.ctx ctx).st = .unloading ∧ (∀ f ∈ s.flights, f.ctx ≠ ctx) ∧ s.dieRuns = true
    let freed := ((s.drainMore ctx busy).countDrain ctx).freePlan ctx
    (¬ may → exec (.unloadComplete ctx busy) s = .next s)
    ∧ (may → (s.ctx ctx).nextImage = none → ∃ t, exec (.unloadComplete ctx busy) s = .next t
      ∧ (t.ctx ctx).st = .empty ∧ t.loaded ctx = false ∧ (t.ctx ctx).held = false ∧ (t.ctx ctx).places = []
      ∧ (t.ctx ctx).saves = [] ∧ (∀ e ∈ t.descs, e.1 / 4096 ≠ ctx) ∧ (∀ p ∈ t.posts, p.ctx ≠ ctx)
      ∧ (∀ c ∈ t.captures, c.ctx = ctx → c.phase ≠ .capturing)
      ∧ t.obj (okey (ctxIdx ctx) 0x18) = max (s.obj (okey (ctxIdx ctx) 0x18)) (((s.ctx ctx).drain + busy) % 2 ^ 32)
      ∧ t.obj (okey (ctxIdx ctx) 3) = 2 ∧ t.flights = s.flights
      ∧ (∀ e ∈ t.cores, (t.core e.1).phase = .free ∨ (t.core e.1).ctx ≠ ctx))
    ∧ (∀ m n, may → (s.ctx ctx).nextImage = some (m, n) →
      exec (.unloadComplete ctx busy) s = .next (freed.install ctx m n)))

/-- Waiting contexts are placed in order of priority, PREEMPT and CANCEL stop and resume dispatch, RESUME clears a
hold (R274, R276, R278, R279, R281, R282, R283, R284, R285, R324). -/
def Obligations.ContextsArePlacedAndPreempted : Prop :=
  (∀ (s : State) (path ctx : Nat), path < 18 → ctx < 64 → s.access path (ctxIdx ctx) = 0 →
    let c := s.ctx ctx
    let k := okey (ctxIdx ctx) 3
    let resumed := (s.updCtx ctx (fun c => { c with held := false, holdFault := 0 })).planDone ctx
    (s.obj k ≠ 1 →
      (c.held = false → exec (.resumePlan path ctx) s = .next (s.planRefused ctx 7 0x5001))
      ∧ (c.held = true → c.broken = false → exec (.resumePlan path ctx) s = .next resumed)
      ∧ (c.held = true → c.broken = true → exec (.resumePlan path ctx) s
        = .next (resumed.hold ctx 0x8003))
      ∧ (c.st ≠ .placed → exec (.preempt path ctx) s = .next (s.planRefused ctx 8 0x5001))
      ∧ (c.st = .placed → imgPreemptible c.image = false →
        exec (.preempt path ctx) s = .next (s.planRefused ctx 9 0x5001))
      ∧ (c.st = .placed → imgPreemptible c.image = true → ∃ t, exec (.preempt path ctx) s = .next t
        ∧ (t.ctx ctx).st = .saving ∧ (t.ctx ctx).preempted = true ∧ t.obj k = 1 ∧ t.flights = s.flights
        ∧ ∀ n, (t.core n).data = (s.core n).data ∧ (t.core n).phase ≠ .running ∨ (s.core n).ctx ≠ ctx
            ∨ (s.core n).phase = .free)
      ∧ ((c.st = .placed ∨ c.st = .saving) → exec (.clearPlacement path ctx) s = .next (s.planRefused ctx 0xD 0x5001))
      ∧ (c.st ≠ .placed → c.st ≠ .saving → exec (.clearPlacement path ctx) s
        = .next ((s.updCtx ctx (fun c => { c with mapped := false, placeMap := [] })).planDone ctx)))
    ∧ (s.obj k = 1 → (c.preempted = false ∨ s.drains ctx = false) →
      exec (.cancel path ctx) s = .next (s.dictRefuse path k 5))
    ∧ (s.obj k ≠ 1 → s.drains ctx = false → exec (.cancel path ctx) s = .next (s.planRefused ctx 0xA 0x5001))
    ∧ (s.drains ctx = true → (s.obj k = 1 → c.preempted = true) → ∃ t, exec (.cancel path ctx) s = .next t
      ∧ (t.ctx ctx).st = .placed ∧ (t.ctx ctx).preempted = false ∧ (t.ctx ctx).saves = [] ∧ t.obj k = 2
      ∧ t.flights = s.flights)
    ∧ (s.obj (okey (ctxIdx ctx) 0x1F) ≠ 1 → ∃ t, exec (.tallyClear path ctx) s = .next t
      ∧ t = { s with objs := t.objs } ∧ (∀ j, 0x10 ≤ j → j ≤ 0x18 → t.obj (okey (ctxIdx ctx) j) = 0)
      ∧ t.obj (okey (ctxIdx ctx) 0x1F) = 2
      ∧ ∀ j, (∀ i, 0x10 ≤ i → i ≤ 0x18 → j ≠ okey (ctxIdx ctx) i) → j ≠ okey (ctxIdx ctx) 0x1F → t.obj j = s.obj j))
  ∧ (∀ (s : State) (ctx : Nat), ctx < 64 →
    let first := s.waiters.findSome? (fun c => (s.fits [] c).map (fun w => (c, w)))
    ((s.dieRuns = false ∨ s.waiting ctx = false) → exec (.placement ctx) s = .next s)
    ∧ (s.dieRuns = true → s.waiting ctx = true → s.mapFenced ctx = true → exec (.placement ctx) s = .next
        (if (s.ctx ctx).held then s else (s.report 0x5016 7 0 (some ctx) 0 true false).hold ctx 0x5016))
    ∧ (∀ w, s.dieRuns = true → s.waiting ctx = true → s.mapFenced ctx = false → first = some (ctx, w) →
      exec (.placement ctx) s = .next (s.place ctx w))
    ∧ (s.dieRuns = true → s.waiting ctx = true → s.mapFenced ctx = false → (∀ w, first ≠ some (ctx, w)) →
      exec (.placement ctx) s = .next s)
    ∧ (((s.ctx ctx).st ≠ .placed ∨ s.dieRuns = false) → exec (.sliceExpiry ctx) s = .next s)
    ∧ ((s.ctx ctx).st = .placed → s.dieRuns = true → exec (.sliceExpiry ctx) s
      = .next (s.updCtx ctx (fun c => { c with sliceDone := true })))
    ∧ (s.dieRuns = false → exec .schedulerEvaluate s = .next s)
    ∧ (s.dieRuns = true → exec .schedulerEvaluate s
      = .next ((s.victims.foldl (fun t p => t.beginSave p) s).placeAll 64))
    ∧ (∀ p ∈ s.victims, (s.ctx p).st = .placed ∧ imgPreemptible (s.ctx p).image = true ∧ (s.ctx p).held = false
        ∧ imgDet (s.ctx p).image = false ∧ (s.ctx p).sliceDone = true))
  ∧ (∀ (s : State) (n : Nat), n < 128 →
    let may := (s.core n).phase = .clearing ∧ Tab.get false s.power.off n = false ∧ s.dieRuns = true
      ∧ s.unitDown n = false
    (¬ may → exec (.coreClearComplete n) s = .next s)
    ∧ (may → ∃ t, exec (.coreClearComplete n) s = .next t ∧ (t.core n).data = {}
      ∧ (t.core n).phase = (if (s.ctx (s.core n).ctx).st = .saving then .draining else .running)
      ∧ (∀ k, k ≠ n → t.core k = s.core k) ∧ t.flights = s.flights ∧ t.streams = s.streams))

/-- A task is saved when its commands have ended and comes back with its data under its new core's engines (contents
written over: log entry 55) (R78, R141, R275, R276, R279, R280, R281, R282, R284, R285). -/
def Obligations.TasksAreSavedAndRestored : Prop :=
  (∀ (s : State) (n busy : Nat), n < 128 →
    let c := s.core n
    let o := 16 * (n / 16) + c.task
    let may := c.phase = .draining ∧ (∀ f ∈ s.flights, f.ctx = c.ctx → f.owner ≠ o) ∧ s.dieRuns = true
    let longest := okey (ctxIdx c.ctx) 0x18
    let overruns := okey (ctxIdx c.ctx) 0x16
    let excess := okey (ctxIdx c.ctx) 0x17
    let drain := (s.ctx c.ctx).drain + busy
    (¬ may → exec (.saveStart n busy) s = .next s)
    ∧ (may → ∃ t, exec (.saveStart n busy) s = .next t ∧ t.core n = { c with phase := .saving }
      ∧ Tab.get {} (t.ctx c.ctx).saves o
        = { data := c.data.mapEngines (fun k => c.engs.idxOf k), area := t.saveArea c.ctx o }
      ∧ (t.ctx c.ctx).drain = drain
      ∧ (∀ k, k ≠ n → t.core k = s.core k) ∧ t.flights = s.flights ∧ t.streams = s.streams
      ∧ (t.drains c.ctx = true → ∀ k, k = longest ∨ k = overruns ∨ k = excess → t.obj k = s.obj k)
      ∧ (t.drains c.ctx = false → t.obj longest = max (s.obj longest) (drain % 2 ^ 32)
        ∧ (drain ≤ 160000 → t.obj overruns = s.obj overruns ∧ t.obj excess = s.obj excess)
        ∧ (160000 < drain → t.obj overruns = (s.obj overruns + 1) % 2 ^ 32
          ∧ t.obj excess = (s.obj excess + (drain - 160000)) % 2 ^ 64))))
  ∧ (∀ (s : State) (ctx : Nat), ctx < 64 →
    let c := s.ctx ctx
    (¬ (c.st = .saving ∧ s.drains ctx = false ∧ s.dieRuns = true) → exec (.saveComplete ctx) s = .next s)
    ∧ (c.st = .saving → s.drains ctx = false → s.dieRuns = true → ∃ t, exec (.saveComplete ctx) s = .next t
      ∧ (t.ctx ctx).st = .saved ∧ (t.ctx ctx).places = [] ∧ (t.ctx ctx).saves = c.saves ∧ t.streams = s.streams
      ∧ (∀ n ∈ s.coresOf ctx, (t.core n).phase = .free ∧ (t.core n).data = (s.core n).data.left)
      ∧ (∀ n, n ∉ s.coresOf ctx → t.core n = s.core n)
      ∧ t.obj (okey (ctxIdx ctx) 0x15) = (s.obj (okey (ctxIdx ctx) 0x15) + 1) % 2 ^ 32
      ∧ (c.preempted = true → t.obj (okey (ctxIdx ctx) 3) = 2))
    ∧ (let oldest := s.flights.find? (fun f => f.ctx = ctx && (c.st = .unloading || f.owner < 128))
      (∀ f, c.overrun = false → (s.drains ctx = true ∨ c.st = .unloading) → s.dieRuns = true → oldest = some f →
        exec (.preemptOverrun ctx) s = .next ((s.updCtx ctx (fun x => { x with overrun := true })).report 0x5015 1
          (if f.owner < 128 then f.core else f.owner) (some ctx) (f.pos * 256 + f.op) false false))
      ∧ ((c.overrun = true ∨ (s.drains ctx = false ∧ c.st ≠ .unloading) ∨ s.dieRuns = false ∨ oldest = none) →
        exec (.preemptOverrun ctx) s = .next s)))
  ∧ (∀ (s : State) (n : Nat), n < 128 →
    let c := s.core n
    let o := 16 * (n / 16) + c.task
    let may := c.phase = .restoring ∧ Tab.get false s.power.off n = false ∧ s.dieRuns = true ∧ s.unitDown n = false
    let saved := Tab.get {} (s.ctx c.ctx).saves o
    let intact := s.saveArea c.ctx o = saved.area
    (¬ may → exec (.restoreComplete n) s = .next s)
    ∧ (may → s.saveLost c.ctx = true → exec (.restoreComplete n) s
      = .next (if (s.ctx c.ctx).held then s else s.holdShell 0x2005 n c.ctx 0))
    ∧ (may → s.saveLost c.ctx = false → ∃ t, exec (.restoreComplete n) s = .next t
      ∧ (intact → t.core n = { c with phase := .running, data := saved.data.mapEngines (fun k => c.engs.getD k k) }
        ∧ t.streams = s.streams ∧ t.tok = s.tok ∧ t.acq = s.acq ∧ t.cred = s.cred ∧ t.free = s.free)
      ∧ (¬ intact → t.core n = { c with phase := .running, data := freeData s.free c.ctx } ∧ t.free = s.free + 400000
        ∧ ∀ k, k ≠ skey c.ctx o → Tab.get {} t.streams k = Tab.get {} s.streams k)
      ∧ (∀ k, k ≠ n → t.core k = s.core k) ∧ t.flights = s.flights
      ∧ ((s.ctx c.ctx).st = .restoring → (∀ e ∈ s.cores, e.1 ≠ n → e.2.ctx = c.ctx → e.2.phase = .free ∨
          (s.core e.1).phase = .running) → (t.ctx c.ctx).st = .placed)))
  ∧ (∀ (d : CoreData) (old new : List Nat),
    let r := (d.mapEngines (fun k => old.idxOf k)).mapEngines (fun k => new.getD k k)
    r.pad = d.pad ∧ r.lanes = d.lanes ∧ r.masks = d.masks ∧ r.sas = d.sas ∧ r.wins = d.wins
    ∧ (old.Nodup → new.Nodup → new.length = old.length →
      ((d.tiles.map Prod.fst).Pairwise (· < ·) → (∀ e ∈ d.tiles, e.1 / 8 ∈ old) → ∀ j k, j < old.length → k < 8 →
        Tab.get {} r.tiles (8 * new.getD j 0 + k) = Tab.get {} d.tiles (8 * old.getD j 0 + k))
      ∧ ((d.sets.map Prod.fst).Pairwise (· < ·) → (∀ e ∈ d.sets, e.1 / 16 ∈ old) → ∀ j k, j < old.length → k < 16 →
        Tab.get {} r.sets (16 * new.getD j 0 + k) = Tab.get {} d.sets (16 * old.getD j 0 + k))))

/-- A fault merges into the newest record it repeats, else takes the next SEQ in a ring of 1,024; reads mark records,
clears lose no set (R16, R290, R291, R292, R295, R310, R335, R342). -/
def Obligations.FaultsAreRecordedAndMerged : Prop :=
  (∀ (s : State) (code kind source detail : Nat) (ctx : Option Nat) (held abort : Bool),
    let t := s.report code kind source ctx detail held abort
    t = { s with objs := t.objs, faults := t.faults, out := t.out, msixPend := t.msixPend }
    ∧ t.obj (okey 0x5000 5) = 1 ∧ t.obj (okey 0x5000 6) = (s.obj (okey 0x5000 6) + 1) % 2 ^ 16
    ∧ (∀ r rest, s.faults.ring = r :: rest → r.code = code → r.kind = kind → r.source = source → r.ctx = ctx →
        r.count < 65535 → t.faults.seq = s.faults.seq ∧ t.faults.history = s.faults.history
        ∧ t.faults.ring = { r with
            count := r.count + 1, held := r.held || held, abort := r.abort || abort
            blaze := r.blaze || hasBlaze code } :: rest)
    ∧ ((∀ r rest, s.faults.ring = r :: rest → r.merges code kind source ctx = false) →
        t.faults.seq = s.faults.seq + 1 ∧ t.faults.ring.length ≤ 1024
        ∧ ∃ r, t.faults.ring = (r :: s.faults.ring).take 1024 ∧ r.seq = s.faults.seq + 1 ∧ r.code = code ∧ r.kind = kind
          ∧ r.source = source ∧ r.ctx = ctx ∧ r.count = 1 ∧ r.held = held ∧ r.abort = abort ∧ r.detail = detail
          ∧ r.inc = s.incarnation
          ∧ t.faults.history = (if inHistory code then (r :: s.faults.history).take 64 else s.faults.history)))
  ∧ (∀ (s : State) (path : Nat), path < 18 → s.access path 0x5000 = 0 →
    exec (.faultRecordRead path) s = .next { s with faults := { s.faults with
      ring := s.faults.ring.map (fun r =>
        if r.seq = s.pobj path (okey 0x5000 2) then { r with read := true } else r) } })
  ∧ (∀ (s : State) (path i j : Nat) (set : Option Nat), path < 18 → i < 65536 → j < 256 → s.access path i = 0 →
    let hold := 0x5100 ≤ i ∧ i < 0x5140 ∧ j = 1
    let flag := (i = 0x1210 ∧ j = 2) ∨ (i = 0x5000 ∧ j = 5) ∨ hold ∨ (i = 0x5600 ∧ j = 7)
      ∨ (0x9000 ≤ i ∧ i < 0x9200 ∧ j = 7)
    let counted := (s.obj (okey i (j + 1)) + 1) % 2 ^ 16
    (¬ flag → exec (.w1cFlagClear path i j set) s = .next s)
    ∧ (flag → set = none → ∃ t, exec (.w1cFlagClear path i j set) s = .next t ∧ t = { s with objs := t.objs }
      ∧ t.obj (okey i j) = 0 ∧ (hold → t.obj (okey i 3) = 0)
      ∧ ∀ k, k ≠ okey i j → (hold → k ≠ okey i 3) → t.obj k = s.obj k)
    ∧ (∀ r, flag → ¬ hold → set = some r → ∃ t, exec (.w1cFlagClear path i j set) s = .next t
      ∧ t = { s with objs := t.objs } ∧ t.obj (okey i j) = 1 ∧ t.obj (okey i (j + 1)) = counted
      ∧ ∀ k, k ≠ okey i j → k ≠ okey i (j + 1) → t.obj k = s.obj k)
    ∧ (∀ r, hold → set = some r → ∃ t, exec (.w1cFlagClear path i j set) s = .next t
      ∧ t.obj (okey i 1) = 1 ∧ t.obj (okey i 2) = counted
      ∧ t.obj (okey i 3) = s.obj (okey i 3) ||| 2 ^ (26 + r % 6)
      ∧ t.flights = s.flights ∧ t.streams = s.streams ∧ t.cores = s.cores
      ∧ (s.loaded (i - 0x5100) = false → t.ctxs = s.ctxs)))

def Sys2Proof.Claims.makeFindings (s : State) (r : ScalerIn) : State :=
  let detail := fun pos => findingDetail pos r.source r.item
  let s1 := if r.stat.special then s.finding r.ctx 0 r.kind r.source (detail r.stat.first) else s
  let s2 := if r.ovf then s1.finding r.ctx 1 r.kind r.source (detail r.ovfPos) else s1
  if r.stat.saturated then s2.finding r.ctx 2 r.kind r.source (detail r.stat.first) else s2

/-- SCALER_RECORD makes the findings of a status, HOLD sets COMMIT_HOLD, the choice follows the window's exponents
(layout: log 37; choice within a step: log 103) (R141, R218, R223, R293, R294, R295, R296, R297, R298, R310). -/
def Obligations.TheScalerFindsAndChooses : Prop :=
  (∀ (s : State), ((s.scalerQ = [] ∨ s.dieRuns = false) → exec .scalerRecord s = .next s)
    ∧ ∀ r rest, s.scalerQ = r :: rest → s.dieRuns = true →
      exec .scalerRecord s = .next (Claims.makeFindings { s with scalerQ := rest } r))
  ∧ (∀ (s : State) (ctx n kind source detail : Nat), ctx < 64 → n < 4 →
    let t := s.finding ctx n kind source detail
    let i := intIdx ctx
    t.obj (okey i (6 + n)) = (s.obj (okey i (6 + n)) + 1) % 2 ^ 64
    ∧ t.flights = s.flights ∧ t.streams = s.streams ∧ t.cores = s.cores ∧ t.scaler = s.scaler
    ∧ (s.findingAction ctx n = 0 → t = { s with objs := t.objs, scalerC := t.scalerC })
    ∧ (s.findingAction ctx n = 2 → t.obj (okey i 1) = 1 ∧ t.obj (okey i 2) = (s.obj (okey i 2) + 1) % 2 ^ 16
      ∧ t.obj (okey i 3) = s.obj (okey i 3) ||| 2 ^ (31 - n))
    ∧ (s.findingAction ctx n ≠ 2 → t.ctxs = s.ctxs ∧ t.obj (okey i 1) = s.obj (okey i 1)))
  ∧ (∀ (force : Bool) (window : Nat) (w : List (Tab Nat × Bool)),
    let c := scalerChoice force window w
    let h := windowBin w
    let total := ((List.range 254).map (fun b => h (b + 1))).foldl (· + ·) 0
    (c = (1, 0) ∨ c = (4, 0) ∨ (c.1 = 3 ∧ c.2 ≤ 254))
    ∧ (c.1 ≠ 1 → force = false ∧ window ≤ w.length ∧ h 255 = 0 ∧ (∀ e ∈ w, e.2 = false)
        ∧ ∃ b, 1 ≤ b ∧ b ≤ 254 ∧ h b ≠ 0)
    ∧ (c.1 = 3 → ∃ lo hi, h hi ≠ 0 ∧ 1 ≤ hi ∧ hi ≤ 254 ∧ (∀ b, hi < b → b ≤ 254 → h b = 0) ∧ hi - lo ≤ 27
        ∧ c.2 = min 254 (hi - 13)
        ∧ ((List.range (lo - 1)).map (fun b => h (b + 1))).foldl (· + ·) 0 * 1024 ≤ total))
  ∧ (∀ (s : State) (path ctx v : Nat), path < 18 → ctx < 64 → v < 2 ^ 32 → s.access path (intIdx ctx) = 0 →
    let i := intIdx ctx
    let a := s.pobj path (okey i 0x0E)
    let n := s.scalerBytes ctx
    ((v = 0 ∨ 32 < v) → exec (.scalerWindowWrite path ctx v) s = .next (s.dictRefuse path (okey i 0x0A) 3))
    ∧ (1 ≤ v → v ≤ 32 → ∃ t, exec (.scalerWindowWrite path ctx v) s = .next t
      ∧ t = { s with objs := t.objs, scaler := t.scaler } ∧ t.obj (okey i 0x0A) = v
      ∧ (∀ l, l < 2048 → Tab.get {} t.scaler (scalerKey ctx l) = { Tab.get {} s.scaler (scalerKey ctx l) with
          window := []
          choice := if s.choiceTaken ctx l then (Tab.get {} s.scaler (scalerKey ctx l)).choice else (1, 0) })
      ∧ (∀ k, k / 2048 ≠ ctx → Tab.get {} t.scaler k = Tab.get {} s.scaler k))
    ∧ (s.obj (okey i 0x0F) ≠ 1 → s.xferOk ctx a n = false →
      exec (.scalerExport path ctx) s = .next (s.setObj (okey i 0x0F) 3))
    ∧ (s.obj (okey i 0x0F) ≠ 1 → s.xferOk ctx a n = true → exec (.scalerExport path ctx) s
      = .next ((s.tierWriteBytes a (s.scalerImage ctx)).setObj (okey i 0x0F) 2))
    ∧ (s.obj (okey i 0x0F) ≠ 1 →
      let rd := fun x => s.tierRead (a + x)
      let m := rd 8 + 256 * rd 9
      let win := s.obj (okey i 0x0A)
      let step := leNat ((List.range 4).map (fun j => rd (4 + j)))
      let zs := (List.range m).map (fun k => scalerSlotAt rd (64 + 1028 * win * k) win)
      let good := s.xferOk ctx a 64 = true ∧ leNat ((List.range 4).map rd) = scalerMark ∧ rd 10 = win ∧ m ≤ 2048
        ∧ s.xferOk ctx a (64 + 1028 * win * m) = true ∧ (∀ z ∈ zs, z ≠ none)
        ∧ ((zs.filterMap id).map Prod.fst).Pairwise (· < ·)
      (¬ good → exec (.scalerImport path ctx) s = .next (s.setObj (okey i 0x0F) 3))
      ∧ (good → ∃ t, exec (.scalerImport path ctx) s = .next t
        ∧ t = { s with objs := t.objs, scaler := t.scaler, scalerC := t.scalerC } ∧ t.obj (okey i 0x0F) = 2
        ∧ (∀ l z, some (l, z) ∈ zs → Tab.get {} t.scaler (scalerKey ctx l) = z)
        ∧ (∀ l, l < 2048 → (∀ z, some (l, z) ∉ zs) → Tab.get {} t.scaler (scalerKey ctx l) = {})
        ∧ (∀ k, k / 2048 ≠ ctx → Tab.get {} t.scaler k = Tab.get {} s.scaler k)
        ∧ (t.scalerCtx ctx).missing = ((s.scalerCtx ctx).missing && step ≠ s.committed ctx))))

/-- A queued capture is replayed on the next cluster, a mismatch arbitrated; the verdict charges an engine or sets
COMMIT_HOLD (log 101) (R77, R88, R290, R295, R300, R301, R302, R303, R304, R308, R310). -/
def Obligations.ChecksRunToAVerdict : Prop :=
  (∀ (s : State) (cap e flip : Nat), e < 512 → flip < 2 ^ 64 → s.captures.find? (fun c => c.id = cap) = none →
    exec (.checkStart cap e) s = .next s ∧ exec (.checkComplete cap flip) s = .next s
    ∧ exec (.arbitrationComplete cap e flip) s = .next s)
  ∧ (∀ (s : State) (cl e : Nat), cl < 8 → s.nextChecker cl = some e → e / 64 = cl ∧ s.obj (okey (0x9000 + e) 9) ≠ 1
    ∧ s.unitDown (e / 4) = false ∧ ∀ c ∈ s.captures, c.phase ≠ .checking e)
  ∧ (∀ (s : State) (cap e : Nat) (c : Capture), e < 512 → s.captures.find? (fun c => c.id = cap) = some c →
    let may := c.phase = .queued ∧ s.nextChecker ((c.engine / 64 + 1) % 8) = some e ∧ s.dieRuns = true
    (¬ may → exec (.checkStart cap e) s = .next s)
    ∧ (may → s.unitOff (e / 4) = true → exec (.checkStart cap e) s = .next (s.turnOn (e / 4)))
    ∧ (may → s.unitOff (e / 4) = false → ∃ t, exec (.checkStart cap e) s = .next t
      ∧ t = { s with
          captures := s.captures.map (fun x => if x.id = cap then { x with phase := .checking e } else x)
          turns := Tab.put 0 s.turns (512 + e / 64) (e % 64 + 1), objs := t.objs }
      ∧ t.obj (okey 0x3510 2) = (s.obj (okey 0x3510 2) + c.slotBytes.length) % 2 ^ 64
      ∧ ∀ k, k ≠ okey 0x3510 2 → t.obj k = s.obj k))
  ∧ (∀ (s : State) (cap flip e : Nat) (c : Capture), flip < 2 ^ 64 →
    s.captures.find? (fun c => c.id = cap) = some c →
    let counted := ((s.addObj (okey (0x5200 + e) 2) 64 c.issues).addObj (okey 0x5010 3) 64 1).addObj
      (okey (0x5200 + c.engine) 3) 64 1
    let digest := c.replay ^^^ flip
    ((s.dieRuns = false ∨ ∀ k, c.phase = .checking k → s.unitDown (k / 4) = true) →
      exec (.checkComplete cap flip) s = .next s)
    ∧ (c.phase = .checking e → s.dieRuns = true → s.unitDown (e / 4) = false → digest = c.digest →
      exec (.checkComplete cap flip) s = .next ((counted.countCheck c 1 0).dropCapture cap))
    ∧ (c.phase = .checking e → s.dieRuns = true → s.unitDown (e / 4) = false → digest ≠ c.digest →
      ∃ t, exec (.checkComplete cap flip) s = .next t
      ∧ t.captures = s.captures.map (fun x =>
          if x.id = cap then { x with phase := .arbitrating e, check := digest } else x)
      ∧ t.obj (okey 0x5010 5) = (s.obj (okey 0x5010 5) + 1) % 2 ^ 32
      ∧ t.obj (okey 0x5010 3) = (s.obj (okey 0x5010 3) + 1) % 2 ^ 64
      ∧ (∃ r, t.faults.ring.head? = some r ∧ r.code = 0x4008 ∧ r.kind = 2 ∧ r.source = c.engine ∧ r.ctx = some c.ctx)
      ∧ t.ctxs = s.ctxs))
  ∧ (∀ (s : State) (cap e flip k : Nat) (c : Capture), e < 512 → flip < 2 ^ 64 →
    s.captures.find? (fun c => c.id = cap) = some c →
    let may := s.nextChecker ((c.engine / 64 + 2) % 8) = some e ∧ s.dieRuns = true
    let digest := c.replay ^^^ flip
    let agrees := if digest = c.digest then 1 else if digest = c.check then 2 else 3
    let charged := if digest = c.digest then k else c.engine
    let count := min 255 (s.obj (okey (0x5200 + charged) 1) + 1)
    let fence := okey (0x9000 + charged) 9
    ((¬ may ∨ ∀ j, c.phase ≠ .arbitrating j) → exec (.arbitrationComplete cap e flip) s = .next s)
    ∧ (c.phase = .arbitrating k → may → s.unitOff (e / 4) = true →
      exec (.arbitrationComplete cap e flip) s = .next (s.turnOn (e / 4)))
    ∧ (c.phase = .arbitrating k → may → s.unitOff (e / 4) = false → c.ctx < 64 → c.engine < 512 → k < 512 →
      ∃ t, exec (.arbitrationComplete cap e flip) s = .next t
      ∧ (∃ r ∈ t.faults.ring, r.code = 0x4009 ∧ r.kind = 2 ∧ r.source = charged ∧ r.ctx = some c.ctx)
      ∧ (agrees = 3 → t.obj (okey (0x5200 + charged) 1) = s.obj (okey (0x5200 + charged) 1)
          ∧ t.captures = s.captures.map (fun x => if x.id = cap then { x with phase := .kept } else x))
      ∧ (agrees ≠ 3 → t.obj (okey (0x5200 + charged) 1) = count
          ∧ t.captures = s.captures.filter (fun x => x.id ≠ cap)
          ∧ (s.obj (okey 0x5010 2) ≤ count → t.obj fence = 1
            ∧ (s.obj fence ≠ 1 → ∃ r ∈ t.faults.ring, r.code = 0x400A ∧ r.kind = 2 ∧ r.source = charged))
          ∧ (count < s.obj (okey 0x5010 2) → t.obj fence = s.obj fence))
      ∧ (agrees = 1 → t.obj (okey (intIdx c.ctx) 1) = s.obj (okey (intIdx c.ctx) 1) ∧ t.ctxs = s.ctxs)
      ∧ (agrees ≠ 1 → t.obj (okey (intIdx c.ctx) 1) = 1)
      ∧ t.flights = s.flights ∧ t.streams = s.streams ∧ t.cores = s.cores))
  ∧ (∀ (s : State) (path : Nat), path < 18 → s.access path 0x5500 = 0 → s.obj (okey 0x5500 3) ≠ 1 →
    let ctx := s.pobj path (okey 0x5500 2)
    let a := s.pobj path (okey 0x5500 1)
    let placed := s.inLandingAlloc ctx a (2 ^ 21)
    let kept := s.captures.find? (fun c => c.ctx = ctx && c.phase = .kept)
    let found := captureDigest (fun x => s.tierRead (a + x))
    ((placed = false ∨ kept = none) → exec (.xchkExport path) s = .next (s.setObj (okey 0x5500 3) 3))
    ∧ (∀ c, placed = true → kept = some c → exec (.xchkExport path) s
      = .next (((s.tierWriteBytes a c.slotBytes).dropCapture c.id).setObj (okey 0x5500 3) 2))
    ∧ ((placed = false ∨ found = none) → exec (.xchkRun path) s = .next (s.setObj (okey 0x5500 3) 3))
    ∧ (∀ d, placed = true → found = some d →
      exec (.xchkRun path) s = .next ((s.setObj (okey 0x5500 4) d).setObj (okey 0x5500 3) 2)))
  ∧ (∀ (s : State), (s.dieRuns = false → exec .blazeSign s = .next s)
    ∧ (s.dieRuns = true → ∀ a b rest, s.faults.blazes = a ++ b :: rest → b.signed = false →
      (∀ x ∈ rest, x.signed = true) →
      exec .blazeSign s = .next { s with
        faults := { s.faults with blazes := a ++ { b with signed := true } :: rest } }))

/-- A cycle that has stood still is declared, recorded and dumped; dumps fill the older slot, read READY at their end,
are released (read layout: log 63) (R311, R314, R315, R316, R317, R318, R319, R320, R321, R329). -/
def Obligations.CyclesAreDeclaredAndDumped : Prop :=
  (∀ (s : State) (cycle : List (Nat × Nat)), wellFormed (.snagDeclare cycle) = true →
    let due := s.dieRuns = true ∧ s.obj (okey 0x5600 1) ≠ 0 ∧ s.isCycle cycle = true ∧ s.stood cycle = true
      ∧ s.declared cycle = false
    (¬ due → exec (.snagDeclare cycle) s = .next s)
    ∧ (due → ∃ t, exec (.snagDeclare cycle) s = .next t
      ∧ (∀ n ∈ cycle, (t.ctx n.2).held = true) ∧ (∀ c, (∀ n ∈ cycle, n.2 ≠ c) → t.ctx c = s.ctx c)
      ∧ t.obj (okey 0x5600 3) = s.obj (okey 0x5600 3) + 1 ∧ t.obj (okey 0x5600 7) = 1
      ∧ t.obj (okey 0x5600 8) = (s.obj (okey 0x5600 8) + 1) % 2 ^ 16
      ∧ t.snag.cycles = cycle :: s.snag.cycles
      ∧ (∃ r, t.snag.records = (r :: s.snag.records).take 16 ∧ r.seq = s.obj (okey 0x5600 3) + 1
          ∧ r.suspects = s.suspects cycle)
      ∧ t.dumping = true ∧ t.flights = s.flights ∧ t.streams = s.streams ∧ t.cores = s.cores ∧ t.posts = s.posts))
  ∧ (∀ (s : State), ∃ n, s.snagSample = { s with snag := n } ∧ n.records = s.snag.records ∧ n.last = s.work
    ∧ (∀ c ∈ n.cycles, c ∈ s.snag.cycles ∧ s.isCycle c = true)
    ∧ ∀ w ∈ n.watch, w.1.2 ∈ s.edges w.1.1 ∧ (w.2 ≠ 0 → s.unchanged w.1.1 = true
        ∧ ∃ v ∈ s.snag.watch, v.1 = w.1 ∧ w.2 = v.2 + 1))
  ∧ (∀ (s : State) (path v : Nat), path < 18 → v < 2 ^ 32 → s.access path 0x5700 = 0 →
    let k := okey 0x5700 1
    let kr := okey 0x5700 6
    let slot := s.dumpSlot
    let i := s.pobj path (okey 0x5700 2)
    (s.obj k ≠ 1 → v ≠ 1 → exec (.dumpCmd path v) s = .next (s.dictRefuse path k 3))
    ∧ (s.obj k ≠ 1 → v = 1 → s.dumping = true → exec (.dumpCmd path v) s = .next (s.setObj k 3))
    ∧ (s.obj k ≠ 1 → v = 1 → s.dumping = false → ∃ t, exec (.dumpCmd path v) s = .next t
      ∧ t = { s with objs := t.objs, dumps := t.dumps, free := s.free + 1 } ∧ t.obj k = 1
      ∧ (t.dump slot).st = .writing ∧ (t.dump slot).cause = 0
      ∧ (t.dump slot).seq = max (s.dump 0).seq (s.dump 1).seq + 1 ∧ (∀ j, j ≠ slot → t.dump j = s.dump j)
      ∧ (s.dump slot).seq ≤ (s.dump (1 - slot)).seq)
    ∧ (s.obj kr ≠ 1 → v ≠ 1 → exec (.dumpRelease path v) s = .next (s.dictRefuse path kr 3))
    ∧ (s.obj kr ≠ 1 → v = 1 → ∃ t, exec (.dumpRelease path v) s = .next t
      ∧ t = { s with objs := t.objs, dumps := t.dumps } ∧ t.obj kr = 2
      ∧ t.dump i = (if (s.dump i).st = .ready then { s.dump i with st := .released } else s.dump i)
      ∧ ∀ j, j ≠ i → t.dump j = s.dump j))
  ∧ (∀ (s : State) (node ctx read : Nat), wellFormed (.observationReadTimeout node ctx read) = true →
    let running := (List.range 2).find? (fun k => (s.dump k).st = .writing)
    (running = none → exec (.observationReadTimeout node ctx read) s = .next s ∧ exec .dumpComplete s = .next s)
    ∧ (∀ k, running = some k →
      let d := s.dump k
      let found := (readSections d.data 64 d.len 4096).find? (fun e => e.2.1 = node && e.2.2.1 = ctx)
      let s0 := s.takeReads k maxReads
      let ended : State := { s0 with dumps := Tab.put {} s0.dumps k { s0.dump k with st := .ready } }
      let answered := fun (e : Nat × Nat × Nat × Nat) => e.1 < d.sec ∨ (e.1 = d.sec ∧ read < d.read)
      let shown := if d.cause = 0 then ended.setObj (okey 0x5700 1) 2 else ended
      (found = none → exec (.observationReadTimeout node ctx read) s = .next s)
      ∧ (∀ e, found = some e → (e.2.2.2 ≤ read ∨ (node, ctx, read) ∈ d.bad ∨ answered e) →
        exec (.observationReadTimeout node ctx read) s = .next s)
      ∧ (∀ e, found = some e → read < e.2.2.2 → (node, ctx, read) ∉ d.bad → ¬ answered e →
        ∃ t, exec (.observationReadTimeout node ctx read) s = .next t
        ∧ (t.dump k).bad = (node, ctx, read) :: d.bad ∧ (t.dump k).st = .writing
        ∧ (t.dump k).data = ((d.data.writeLe (e.1 + 4) 8 (d.data.readLe (e.1 + 4) 8 + 2 ^ read)).zero
            (e.1 + 16 + 64 * read) 64).writeLe 12 4 (d.bad.length + 1)
        ∧ t.ctxs = s.ctxs ∧ t.flights = s.flights)
      ∧ (s0 = { s with dumps := s0.dumps } ∧ (s0.dump k).len = d.len ∧ (s0.dump k).seq = d.seq
        ∧ ∀ j, j ≠ k → s0.dump j = s.dump j)
      ∧ (s.obj (okey 0x5800 4) ≠ 1 → exec .dumpComplete s = .next shown)
      ∧ (s.obj (okey 0x5800 4) = 1 → d.cause = 2 →
        exec .dumpComplete s = .next { shown with snag := { s.snag with dumped := true } })
      ∧ (s.obj (okey 0x5800 4) = 1 → d.cause ≠ 2 →
        exec .dumpComplete s = .next (shown.startDump 2 (s.obj (okey 0x5800 5) / 2 ^ 24)))))

def Sys2Proof.Claims.fbRows (path : Nat) : List (Instr × Nat × Nat) :=
  [(.fbCore path, 1, 128), (.fbCluster path, 2, 8), (.fbLandingStack path, 3, 8), (.fbLinkPlane path, 4, 16),
   (.fbPlaner path, 5, 4), (.fbDie path, 6, 1), (.fbModule path, 7, 1)]

/-- A firebreak request is checked and dumped first, then its units are reset, the contexts they carry are held, and
FB_CMD ends (R88, R192, R238, R247, R318, R322, R323, R324, R329). -/
def Obligations.FirebreaksAreRequestedAndRun : Prop :=
  (∀ (s : State) (path : Nat), path < 18 → s.access path 0x5800 = 0 → ∀ r ∈ Claims.fbRows path,
    let cmd := okey 0x5800 2
    let result := okey 0x5800 3
    let unit := s.pobj path (okey 0x5800 1)
    (s.obj cmd = 1 → exec r.1 s = .next ((s.dictRefuse path cmd 5).setObj result 1))
    ∧ (s.obj cmd ≠ 1 → r.2.2 ≤ unit → exec r.1 s = .next ((s.setObj result 2).setObj cmd 3))
    ∧ (s.obj cmd ≠ 1 → unit < r.2.2 → ∃ t, exec r.1 s = .next t
      ∧ t = { s with objs := t.objs, dumps := t.dumps, free := t.free, snag := { s.snag with dumped := false } }
      ∧ t.obj cmd = 1 ∧ t.obj result = 0 ∧ t.obj (okey 0x5800 4) = 1
      ∧ t.obj (okey 0x5800 5) = r.2.1 * 2 ^ 24 + unit * 2 ^ 16 ∧ t.dumping = true
      ∧ (s.dumping = true → t.dumps = s.dumps)
      ∧ (s.dumping = false → (t.dump s.dumpSlot).cause = 2)))
  ∧ (∀ (s : State),
    let last := s.obj (okey 0x5800 5)
    let code := last / 2 ^ 24
    let unit := last / 2 ^ 16 % 256
    let due := s.obj (okey 0x5800 4) = 1 ∧ s.snag.dumped = true ∧ s.dumping = false
    (¬ due → exec .firebreakReset s = .next s)
    ∧ (due → code ≤ 6 →
      let r := ((s.setObj (okey 0x5800 4) 2).breakAll code unit).resetUnits code unit
      exec .firebreakReset s = .next ((({ r with downUnits := fbScope code unit } : State).addObj (okey 0x5800 6) 32
        1).report 0x8003 8 0 none (code * 256 + unit) (code ≤ 3 || code = 5) false))
    ∧ (due → code = 1 → unit < 128 → ∃ t, exec .firebreakReset s = .next t
      ∧ t.core unit = {} ∧ (∀ f ∈ t.flights, ¬ (f.owner < 128 ∧ f.core = unit)) ∧ t.ddr = s.ddr ∧ t.tmap = s.tmap
      ∧ (∀ c, c < 64 → s.breaks 1 unit c = true → (t.ctx c).held = true ∧ (t.ctx c).broken = true))
    ∧ (due → code = 6 → ∃ t, exec .firebreakReset s = .next t
      ∧ t.ctxs = [] ∧ t.cores = [] ∧ t.flights = [] ∧ t.posts = [] ∧ t.streams = [] ∧ t.tmap = [] ∧ t.frames = []
      ∧ t.links = [] ∧ t.members = [] ∧ t.serving = []
      ∧ t.incarnation = (s.incarnation + 1) % 2 ^ 16
      ∧ (∀ c, c < 64 → t.epoch c = 0 ∧ t.fenced c = true)
      ∧ t.flash = s.flash ∧ t.dumps = s.dumps ∧ t.ustreams = s.ustreams ∧ t.power = s.power
      ∧ (∀ n, (t.slot n).image = (s.slot n).image ∧ (t.slot n).pin0 = 0 ∧ (t.slot n).pin1 = 0))
    ∧ (due → code = 7 → ∃ t, exec .firebreakReset s = .next t
      ∧ t.obj (okey 0x1480 1) = 0 ∧ t.obj (okey 0x1480 2) = 3 ∧ t.flash = s.flash ∧ t.faults.history = s.faults.history
      ∧ t.faults.ring = [] ∧ t.tmap = [] ∧ t.landing = {} ∧ t.ddr = {} ∧ t.ctxs = [] ∧ t.flights = []
      ∧ t.power.latched = s.power.latched ++ [(0x8003, code * 256 + unit)] ∧ t.pending = s.pending)
    ∧ (s.obj (okey 0x5800 4) ≠ 2 → exec .firebreakComplete s = .next s)
    ∧ (s.obj (okey 0x5800 4) = 2 → exec .firebreakComplete s
      = .next { (s.setObj (okey 0x5800 4) 0).setObj (okey 0x5800 2) 2 with downUnits := [] }))

/-- REPLAY_CMD isolates one context when no other is active; under isolation only it is placed, and its first outcome
is logged (R274, R278, R327, R328, R329). -/
def Obligations.IsolationRunsOneContext : Prop :=
  (∀ (s : State) (path : Nat), path < 18 → s.access path 0x5900 = 0 → s.obj (okey 0x5900 2) ≠ 1 →
    let ctx := s.pobj path (okey 0x5900 1)
    let ends := fun (r v : Nat) => (s.setObj (okey 0x5900 3) r).setObj (okey 0x5900 2) v
    (s.notAlone ctx = true → exec (.replayStart path) s = .next (ends 1 3))
    ∧ (s.notAlone ctx = false → s.isolated.isSome = true → exec (.replayStart path) s = .next (ends 2 3))
    ∧ (s.notAlone ctx = false → s.isolated = none → exec (.replayStart path) s
      = .next { ends 0 2 with isolated := some ctx, snag := { s.snag with noted := false } })
    ∧ (s.isolated = none → exec (.replayEnd path) s = .next (ends 3 3))
    ∧ (s.isolated.isSome = true → exec (.replayEnd path) s = .next { ends 0 2 with isolated := none }))
  ∧ (∀ (s : State) (i c : Nat), s.isolated = some i → s.waiting c = true → c = i)
  ∧ (∀ (s : State) (i c : Nat) (w : List (Nat × Nat)), s.isolated = some i → s.nextPlaced = some (c, w) → c = i)
  ∧ (∀ (s : State) (ctx outcome code num : Nat),
    ((s.isolated ≠ some ctx ∨ s.snag.noted = true) → s.noteReplay ctx outcome code num = s)
    ∧ (s.isolated = some ctx → s.snag.noted = false → ∃ o p, s.noteReplay ctx outcome code num = { s with
        snag := { s.snag with
          log := ((outcome * 2 ^ 62 + ctx * 2 ^ 56 + code * 2 ^ 40 + num % 2 ^ 32) :: s.snag.log).take 8
          noted := true }
        out := o, msixPend := p }))

def Sys2Proof.Claims.cmdRows : List (Nat × Nat × Nat × Nat × (Nat → Nat → Instr)) :=
  [(0x1410, 1, 2, 1, fun p _ => .attCmd p), (0x1481, 1, 1, 1, fun p _ => .fwBegin p),
   (0x1481, 1, 1, 2, fun p _ => .fwVerify p), (0x1481, 1, 1, 3, fun p _ => .fwAbort p),
   (0x1481, 1, 1, 4, fun p _ => .fwConfirm p), (0x1481, 1, 1, 5, fun p _ => .fwSwitch p),
   (0x2000, 64, 3, 1, .planLoad), (0x2000, 64, 3, 2, .unload), (0x2000, 64, 3, 3, .resumePlan),
   (0x2000, 64, 3, 4, .preempt), (0x2000, 64, 3, 6, .clearPlacement), (0x2000, 64, 0x1F, 1, .tallyClear),
   (0x2200, 64, 4, 1, .weightLoad), (0x2200, 64, 4, 2, .weightSwitch), (0x2200, 64, 4, 3, .revert),
   (0x2200, 64, 8, 1, .batchSubmit), (0x2800, 64, 3, 1, .descCreate), (0x2800, 64, 9, 1, .c6Flush),
   (0x3010, 1, 5, 1, fun p _ => .mapRegion p), (0x3010, 1, 5, 2, fun p _ => .unmap p),
   (0x3010, 1, 5, 3, fun p _ => .trim p), (0x3010, 1, 5, 4, fun p _ => .discard p),
   (0x3011, 1, 3, 0xFF, fun p _ => .frameToFree p), (0x3100, 64, 4, 1, .allocGrant), (0x3100, 64, 4, 2, .allocRelease),
   (0x32C0, 64, 3, 1, .setStep), (0x32C0, 64, 3, 2, .rollForward), (0x32C0, 64, 3, 3, .emitStep),
   (0x32C0, 64, 3, 4, .snapshot), (0x32C0, 64, 3, 5, .restoreStep), (0x3400, 4, 0x0B, 1, .flashScrubNow),
   (0x4100, 64, 6, 1, .epochCmd), (0x5100, 64, 0x0F, 1, .scalerExport), (0x5100, 64, 0x0F, 2, .scalerImport),
   (0x5500, 1, 3, 1, fun p _ => .xchkExport p), (0x5500, 1, 3, 2, fun p _ => .xchkRun p),
   (0x5700, 1, 1, 1, fun p _ => .dumpCmd p 1), (0x5700, 1, 6, 1, fun p _ => .dumpRelease p 1),
   (0x5900, 1, 2, 1, fun p _ => .replayStart p), (0x5900, 1, 2, 2, fun p _ => .replayEnd p),
   (0x6000, 1, 2, 1, fun p _ => .powerCmdRun p), (0x6000, 1, 2, 2, fun p _ => .powerCmdFallow p),
   (0x6000, 1, 2, 3, fun p _ => .powerCmdDormant p), (0x6480, 1, 1, 1, fun p _ => .cruiseCmd p),
   (0x7000, 1, 4, 1, fun p _ => .probeEnable p), (0x7000, 1, 4, 2, fun p _ => .probeDisable p),
   (0x7010, 1, 1, 1, fun p _ => .selftest p)]

/-- Actions whose row does not wait for the CMD, and objects with a rule of their own: first index, instances,
sub-index, values from and below, row. -/
def Sys2Proof.Claims.valueRows : List (Nat × Nat × Nat × Nat × Nat × (Nat → Nat → Nat → Instr)) :=
  [(0x2000, 64, 3, 5, 6, fun p i _ => .cancel p i), (0x4010, 16, 2, 1, 2, fun p i _ => .linkTrain p i),
   (0x4010, 16, 2, 3, 4, fun p i _ => .linkRetrain p i), (0x4020, 4, 2, 1, 2, fun p i _ => .linkTrain p (16 + i)),
   (0x4020, 4, 2, 3, 4, fun p i _ => .linkRetrain p (16 + i)), (0x4010, 16, 2, 2, 3, fun p i _ => .linkDisable p i),
   (0x4020, 4, 2, 2, 3, fun p i _ => .linkDisable p (16 + i)), (0x2800, 64, 5, 0, 4096, .descDestroy),
   (0x3011, 1, 3, 64, 128, fun p _ v => .frameToPool p (v - 64)), (0x2100, 64, 9, 0, 2 ^ 32, .stopStepWrite),
   (0x2400, 1024, 6, 0, 2 ^ 32, .resAck), (0x3020, 1, 2, 0, 2 ^ 64, fun p _ v => .hostwinAddrWrite p v),
   (0x4100, 64, 7, 0, 2 ^ 16, .selfWrite), (0x4100, 64, 9, 0, 2 ^ 64, .memberEntryWrite),
   (0x5100, 64, 0x0A, 0, 256, .scalerWindowWrite), (0x1300, 1, 7, 0, 2 ^ 256, fun p _ v => .mgmtKeyWrite p v),
   (0x1481, 1, 5, 0, 2 ^ 8192, fun p _ v => .fwChunkWrite p v)]

/-- Card keys of objects whose writes have a rule of their own. -/
def Sys2Proof.Claims.ownRule (ck : Nat) : Bool :=
  [0x130007, 0x148105, 0x210009, 0x240006, 0x302002, 0x310001, 0x410007, 0x410009, 0x51000A].contains ck
    || (0x120040 ≤ ck && ck < 0x120080)

/-- One write of an object: refused with the reason R333 gives, applied where it passes, an action of a CMD object run
as its row says (R331, R333, R334, R336, R347, R352, R362). -/
def Obligations.DictionaryWritesAreCheckedOrApplied : Prop :=
  (∀ (s : State) (path idx sub v : Nat), path < 18 → idx < 65536 → sub < 256 →
    let k := okey idx sub
    let mgmt := k = 0x130001 ∨ k = 0x130007
    (s.access path idx ≠ 0 → exec (.registerWrite path idx sub v) s = .next (s.unserved path idx))
    ∧ (s.access path idx = 0 → cardOf idx sub = none →
      exec (.registerWrite path idx sub v) s = .next (s.dictRefuse path k 1))
    ∧ (∀ c, s.access path idx = 0 → cardOf idx sub = some c →
      (c.acc = .ro → exec (.registerWrite path idx sub v) s = .next (s.dictRefuse path k 2))
      ∧ (c.acc ≠ .ro → path ≠ 0 → mgmt → exec (.registerWrite path idx sub v) s = .next (s.dictRefuse path k 6))
      ∧ (c.acc ≠ .ro → (path = 0 ∨ ¬ mgmt) →
        (c.ty.bound ≤ v → exec (.registerWrite path idx sub v) s = .next (s.dictRefuse path k 3))
        ∧ (v < c.ty.bound → c.acc = .w1c → v = 0 → exec (.registerWrite path idx sub v) s = .next s)
        ∧ (v < c.ty.bound → c.acc = .cmd → cmdAction path k (cardKey k) (instOf k) v = none →
          ¬ (cardKey k = 0x120002 ∧ v = 3) →
          exec (.registerWrite path idx sub v) s = .next (s.dictRefuse path k (if s.obj k = 1 then 5 else 3)))
        ∧ (v < c.ty.bound → c.acc = .rw ∨ c.acc = .wo → Claims.ownRule (cardKey k) = false →
          (∀ r, (s.stateBad k).or (valueBad (cardKey k) v) = some r →
            exec (.registerWrite path idx sub v) s = .next (s.dictRefuse path k r))
          ∧ (s.stateBad k = none → valueBad (cardKey k) v = none →
            (perPath (cardKey k) = false → exec (.registerWrite path idx sub v) s = .next (s.setObj k v)
              ∧ (s.setObj k v).obj k = v)
            ∧ (perPath (cardKey k) = true → exec (.registerWrite path idx sub v) s = .next (s.setPobj path k v)
              ∧ (s.setPobj path k v).pobj path k = v
              ∧ (∀ q, q ≠ path → (s.setPobj path k v).pobj q k = s.pobj q k)))))))
  ∧ (∀ e ∈ Claims.cmdRows, ∀ (s : State) (path i : Nat), path < 18 → i < e.2.1 →
    let row := e.2.2.2.2 path i
    exec (.registerWrite path (e.1 + i) e.2.2.1 e.2.2.2.1) s = exec row s
    ∧ (s.access path (e.1 + i) ≠ 0 → exec row s = .next (s.unserved path (e.1 + i)))
    ∧ (s.access path (e.1 + i) = 0 → s.obj (okey (e.1 + i) e.2.2.1) = 1 →
      exec row s = .next (s.dictRefuse path (okey (e.1 + i) e.2.2.1) 5)))
  ∧ (∀ e ∈ Claims.valueRows, ∀ (s : State) (path i v : Nat), path < 18 → i < e.2.1 → e.2.2.2.1 ≤ v → v < e.2.2.2.2.1 →
    exec (.registerWrite path (e.1 + i) e.2.2.1 v) s = exec (e.2.2.2.2.2 path i v) s
    ∧ (s.access path (e.1 + i) ≠ 0 → exec (e.2.2.2.2.2 path i v) s = .next (s.unserved path (e.1 + i))))

/-- BAR0 requests read and write 32-bit slots with a high word apart, and segment channels carry the wide objects
(R331, R332, R335, R337, R338, R339, R340, R341). -/
def Obligations.WindowsCarryDictionaryAccesses : Prop :=
  (∀ (s : State) (off dws be : Nat) (locked : Bool), off % 4 = 0 → off < 2 ^ 26 → 1 ≤ dws → be < 16 ^ dws →
    let done := fun (t : State) (st : Nat) (bs : List Nat) => { t with out := t.out ++ [.completion st bs] }
    (s.pcieUp = false → exec (.bar0ReadRequest off dws be locked) s = .next s)
    ∧ (s.pcieUp = true → s.d3hot = true ∨ locked = true ∨ 16 < dws →
      exec (.bar0ReadRequest off dws be locked) s = .next (done s 1 []))
    ∧ (s.pcieUp = true → s.d3hot = false → locked = false → dws ≤ 16 → ∃ t bs,
      exec (.bar0ReadRequest off dws be locked) s = .next (done t 0 bs)
      ∧ (dws = 1 → be = 15 → s.access 0 (off / 4 / 256) = 0 →
        (cardOf (off / 4 / 256) (off / 4 % 256) = none → bs = [0, 0, 0, 0] ∧ t = s)
        ∧ (∀ c, cardOf (off / 4 / 256) (off / 4 % 256) = some c →
          bs = leBytes 4 (s.valueOf 0 (off / 4) c) ∧ (c.ty ≠ .u64 → t = s.readEffect 0 (off / 4))
          ∧ (c.ty = .u64 → t.pobj 0 0x121001 = s.valueOf 0 (off / 4) c / 2 ^ 32 % 2 ^ 32
            ∧ exec (.u64SlotRead (off / 4 / 256) (off / 4 % 256)) s = .next (done t 0 bs))))))
  ∧ (∀ (s : State) (idx sub : Nat), idx < 65536 → sub < 256 → (∀ c, cardOf idx sub = some c → c.ty ≠ .u64) →
    exec (.u64SlotRead idx sub) s = .next s)
  ∧ (∀ (s : State) (off be : Nat) (data : List Nat) (poisoned : Bool), off % 4 = 0 → off < 2 ^ 26 → data ≠ [] →
    be < 16 ^ data.length → (∀ v ∈ data, v < 2 ^ 32) →
    let k := off / 4
    let idx := k / 256
    (s.pcieUp = false ∨ s.d3hot = true ∨ poisoned = true → exec (.bar0WriteRequest off be data poisoned) s = .next s)
    ∧ (s.pcieUp = true → s.d3hot = false → poisoned = false →
      (s.access 0 idx = 0 → 16 < data.length →
        exec (.bar0WriteRequest off be data poisoned) s = .next (s.dictRefuse 0 k 7))
      ∧ (∀ v, data = [v] →
        (be = 0 → exec (.bar0WriteRequest off be data poisoned) s = .next s)
        ∧ (be ≠ 0 → s.access 0 idx ≠ 0 → exec (.bar0WriteRequest off be data poisoned) s = .next (s.unserved 0 idx))
        ∧ (be ≠ 0 → be ≠ 15 → s.access 0 idx = 0 →
          exec (.bar0WriteRequest off be data poisoned) s = .next (s.dictRefuse 0 k 7))
        ∧ (be = 15 → s.access 0 idx = 0 → ∀ c, cardOf idx (k % 256) = some c →
          (c.ty = .u64 → exec (.bar0WriteRequest off be data poisoned) s
            = exec (.registerWrite 0 idx (k % 256) (s.pobj 0 0x121001 * 2 ^ 32 + v)) s)
          ∧ (c.ty.wide = false → exec (.bar0WriteRequest off be data poisoned) s
            = exec (.registerWrite 0 idx (k % 256) v) s)
          ∧ (c.ty ≠ .u64 → c.ty.wide = true → exec (.bar0WriteRequest off be data poisoned) s
            = .next (s.dictRefuse 0 k (if c.acc = .ro then 2 else 7)))))))
  ∧ (∀ (s : State) (ch : Nat), ch < 8 →
    let idx := 0x1200 + ch
    let cmd := okey idx 2
    let res := okey idx 3
    let tgt := s.obj (okey idx 1) / 256
    let ends := fun (t : State) (r v : Nat) => (t.setObj res r).setObj cmd v
    (s.access 0 idx ≠ 0 → exec (.segOpenRead ch) s = .next (s.unserved 0 idx)
      ∧ exec (.segOpenWrite ch) s = .next (s.unserved 0 idx) ∧ exec (.segCommit ch) s = .next (s.unserved 0 idx)
      ∧ exec (.segClose ch) s = .next (s.unserved 0 idx))
    ∧ (s.access 0 idx = 0 → s.obj cmd ≠ 1 →
      ((s.seg ch).mode ≠ 0 → exec (.segOpenRead ch) s = .next (s.dictRefuse 0 cmd 5)
        ∧ exec (.segOpenWrite ch) s = .next (s.dictRefuse 0 cmd 5))
      ∧ ((s.seg ch).mode = 0 → exec (.segClose ch) s = .next (s.setObj cmd 2)
        ∧ (s.access 0 (tgt / 256) ≠ 0 ∨ cardOf (tgt / 256) (tgt % 256) = none →
          exec (.segOpenRead ch) s = .next (ends s 1 3) ∧ exec (.segOpenWrite ch) s = .next (ends s 1 3))
        ∧ (∀ c, s.access 0 (tgt / 256) = 0 → cardOf (tgt / 256) (tgt % 256) = some c →
          (c.ty.wide = false → exec (.segOpenRead ch) s = .next (ends s 2 3))
          ∧ (c.ty.wide = true → c.acc = .wo → exec (.segOpenRead ch) s = .next (ends s 4 3))
          ∧ (c.acc = .ro → exec (.segOpenWrite ch) s = .next (ends s 3 3))
          ∧ (c.ty.wide = true → c.acc ≠ .wo → c.ty.bytes ≤ 16384 → ∃ t, exec (.segOpenRead ch) s = .next t
            ∧ t.seg ch = { mode := 1, target := tgt, len := s.lengthOf 0 tgt c
                           buf := leBytes (s.lengthOf 0 tgt c) (s.valueOf 0 tgt c), place := none }
            ∧ t.obj cmd = 2 ∧ t.obj res = 0)
          ∧ (c.acc ≠ .ro → ∃ t, exec (.segOpenWrite ch) s = .next t
            ∧ t.seg ch = { mode := 2, target := tgt, len := c.ty.size, buf := List.replicate c.ty.size 0
                           place := none }
            ∧ t.obj cmd = 2 ∧ t.obj res = 0)))
      ∧ ((s.seg ch).mode ≠ 2 → exec (.segCommit ch) s = .next (ends s 7 3))
      ∧ ((s.seg ch).mode = 2 → s.access 0 ((s.seg ch).target / 256) ≠ 0 → exec (.segCommit ch) s = .next (ends s 1 3))
      ∧ (∀ t, (s.seg ch).mode = 2 → s.access 0 ((s.seg ch).target / 256) = 0 → (s.seg ch).target / 256 < 65536 →
        cardKey (s.seg ch).target ≠ 0x120002 →
        exec (.registerWrite 0 ((s.seg ch).target / 256) ((s.seg ch).target % 256)
          (leNat ((s.seg ch).buf.take (s.seg ch).len))) s = .next t →
        exec (.segCommit ch) s = .next (if t.obj 0x121005 = s.obj 0x121005 then ends t 0 2 else ends t 5 3))
      ∧ ((s.seg ch).mode ≠ 0 → ∃ t r, exec (.segClose ch) s = .next (ends t r 2) ∧ t.seg ch = {} ∧ t.objs = s.objs
        ∧ ((s.seg ch).place = none → r = 0)
        ∧ (∀ p, (s.seg ch).place = some p → ((s.dump (p % 2)).st = .ready ∧ (s.dump (p % 2)).seq = p / 2 ↔ r = 0)
          ∧ (r = 0 ∨ r = 6)))))
  ∧ (∀ (s : State) (ch w v : Nat), ch < 8 → w < 64 → v < 2 ^ 32 →
    let idx := 0x1200 + ch
    let k := okey idx (0x40 + w)
    let g := s.seg ch
    let o := s.obj (okey idx 5) + 4 * w
    (s.access 0 idx ≠ 0 → exec (.segWindowWrite ch w v) s = .next (s.unserved 0 idx))
    ∧ (s.access 0 idx = 0 → g.mode ≠ 2 → exec (.segWindowWrite ch w v) s = .next (s.dictRefuse 0 k 8))
    ∧ (s.access 0 idx = 0 → g.mode = 2 → g.len ≤ o → exec (.segWindowWrite ch w v) s = .next (s.dictRefuse 0 k 7))
    ∧ (s.access 0 idx = 0 → g.mode = 2 → o < g.len → ∃ b,
      exec (.segWindowWrite ch w v) s = .next { s with segs := Tab.put {} s.segs ch { g with buf := b } }
      ∧ b.length = g.buf.length
      ∧ (∀ j, b.getD j 0 = if o ≤ j ∧ j < o + 4 ∧ j < g.buf.length then v / 256 ^ (j - o) % 256 else g.buf.getD j 0)))

/-- Frames on the management port, its key and notifications, and the PCIe events (R343, R348, R351, R354, R393, R395,
R396, R397). -/
def Obligations.HostAndPortEventsMoveTheirState : Prop :=
  (∀ (s : State) (f : MgmtFrame), (∀ b ∈ f.bytes, b < 256) →
    let addr := if s.addresses.contains f.dst then f.dst else s.linkLocal
    let target := (f.upper.drop 8).take 16
    (s.portUp = false → exec (.mgmtFrameReceive f) s = .next s ∧ exec (.neighborSolicitation f) s = .next s
      ∧ exec (.echoRequest f) s = .next s)
    ∧ (s.portUp = true →
      (s.classify f = .discard → exec (.mgmtFrameReceive f) s = .next (s.addObj 0x13000A 32 1))
      ∧ (s.classify f = .advert ∨ s.classify f = .reply → exec (.mgmtFrameReceive f) s = .next s)
      ∧ (s.classify f = .solicit → exec (.mgmtFrameReceive f) s = exec (.neighborSolicitation f) s)
      ∧ (s.classify f = .echo → exec (.mgmtFrameReceive f) s = exec (.echoRequest f) s)
      ∧ (s.classify f = .datagram → exec (.mgmtFrameReceive f) s
        = exec (.bdpRequest (f.upper.drop 8) (leNat f.src * 65536 + beAt f.upper 0 2)) s)
      ∧ (s.classify f ≠ .solicit → exec (.neighborSolicitation f) s = .next s)
      ∧ (s.classify f ≠ .echo → exec (.echoRequest f) s = .next s)
      ∧ (s.classify f = .echo → exec (.echoRequest f) s
        = .next (s.sendIcmp f.fromMac addr f.src 129 (f.upper.drop 4)))
      ∧ (s.classify f = .solicit → f.src.all (· = 0) = false → exec (.neighborSolicitation f) s
        = .next (s.sendIcmp f.fromMac target f.src 136 ([0x60, 0, 0, 0] ++ target ++ [2, 1] ++ s.mac)))
      ∧ (s.classify f = .solicit → f.src.all (· = 0) = true → exec (.neighborSolicitation f) s
        = .next (s.sendIcmp [0x33, 0x33, 0, 0, 0, 1] target allNodes 136
          ([0x20, 0, 0, 0] ++ target ++ [2, 1] ++ s.mac)))))
  ∧ (∀ (s : State) (host src dst rest : List Nat) (type : Nat), ∃ sum,
    s.sendIcmp host src dst type rest = { s with out := s.out ++ [.mgmt (host ++ s.mac ++ [0x86, 0xDD, 0x60, 0, 0, 0]
      ++ beBytes 2 (4 + rest.length) ++ [58, 64] ++ src ++ dst ++ [type, 0] ++ beBytes 2 sum ++ rest)] })
  ∧ (∀ (s : State) (path key : Nat), path < 18 → key < 2 ^ 256 → s.access path 0x1300 = 0 →
    (path ≠ 0 → exec (.mgmtKeyWrite path key) s = .next (s.dictRefuse path 0x130007 6))
    ∧ (path = 0 → ∃ t, exec (.mgmtKeyWrite path key) s = .next t ∧ t.obj 0x130007 = key
      ∧ t.obj 0x130008 = (if key = 0 then 0 else 1) ∧ (∀ n, n < 16 → t.session n = {}) ∧ t.session 16 = s.session 16
      ∧ (∀ k, k < 2 ^ 24 → t.pobj 0 k = s.pobj 0 k ∧ t.pobj 17 k = s.pobj 17 k
        ∧ ∀ q, 1 ≤ q → q ≤ 16 → t.pobj q k = objDefault k)
      ∧ t = { s with objs := t.objs, sess := t.sess, pobjs := t.pobjs }))
  ∧ (∀ (s : State),
    let due := s.portUp = true ∧ s.obj 0x13000E ≠ 0 ∧ ∃ k ∈ s.notifyKeys, s.obj k ≠ Tab.get 0 s.notified k
    (¬ due → exec .notifySend s = .next s)
    ∧ (due → ∃ t bs, exec .notifySend s = .next t
      ∧ (let dest := s.obj 0x13000E * 65536 + s.obj 0x13000F
        t.out = s.out ++ [.bdp dest (s.bdpPacket dest bs)]) ∧ bs.take 3 = [1, 3, 255]
      ∧ (bs.drop 4).take 8 = leBytes 8 (t.session 16).floor ∧ (t.session 16).floor = (s.session 16).floor + 1
      ∧ t.obj 0x130012 = (s.obj 0x130012 + 1) % 2 ^ 32 ∧ (∀ k ∈ s.notifyKeys, Tab.get 0 t.notified k = s.obj k)
      ∧ exec .notifySend t = .next t))
  ∧ (∀ (s : State),
    exec .portLinkUp s = .next (if s.lookoutRuns then s.setObj 0x130003 1 else s)
    ∧ exec .portLinkDown s = .next (if s.lookoutRuns then s.setObj 0x130003 0 else s)
    ∧ (s.pcieUp = true → exec .pcieHotReset s = .next { s with d3hot := false, msixOpen := [] }
      ∧ exec .d3hotEntry s = .next { s with d3hot := true } ∧ exec .d3hotExit s = .next { s with d3hot := false })
    ∧ (s.pcieUp = false → exec .pcieHotReset s = .next s ∧ exec .d3hotEntry s = .next s ∧ exec .d3hotExit s = .next s
      ∧ ∀ v, v < 64 → exec (.msixUnmask v) s = .next s))
  ∧ (∀ (s : State) (v : Nat), v < 64 → s.pcieUp = true → ∃ t, exec (.msixUnmask v) s = .next t
    ∧ Tab.get false t.msixOpen v = true ∧ Tab.get false t.msixPend v = false
    ∧ t.out = (if Tab.get false s.msixPend v then s.out ++ [.msix v] else s.out)
    ∧ (∀ u, u ≠ v → Tab.get false t.msixOpen u = Tab.get false s.msixOpen u
      ∧ Tab.get false t.msixPend u = Tab.get false s.msixPend u)
    ∧ t = { s with msixOpen := t.msixOpen, msixPend := t.msixPend, out := t.out })
  ∧ (∀ (s : State) (id : Nat),
    (s.flight id = none → exec (.completionTimeout id) s = .next s)
    ∧ (∀ f, s.flight id = some f →
      (f.op ≠ 0x98 → f.op ≠ 0x99 → exec (.completionTimeout id) s = .next s)
      ∧ (f.op = 0x98 →
        let host := s.hostRead f (moveBody f.words) (descOf (f.descs.getD 0 { num := 0, image := 0 }).image)
          (descOf (f.descs.getD 1 { num := 0, image := 0 }).image)
        (host = none → exec (.completionTimeout id) s = .next s)
        ∧ ∀ k, host = some k → exec (.completionTimeout id) s = .next (s.runMove id (some k)))
      ∧ (f.op = 0x99 → (s.region (stepRegion f.w0)).home ≠ .host → exec (.completionTimeout id) s = .next s)
      ∧ (f.op = 0x99 → (s.region (stepRegion f.w0)).home = .host →
        exec (.completionTimeout id) s = .next (stageComplete s id (some 0)))))

/-- BDP requests are checked, queued and never run twice; READ and WRITE operations answer their status; DOE carries
one operation (R344, R345, R346, R347, R348, R349, R350, R382). -/
def Obligations.BdpOperationsAreServedInOrder : Prop :=
  (∀ (s : State) (d : List Nat) (src : Nat), (∀ b ∈ d, b < 256) → src < 2 ^ 144 →
    let sess := leAt d 2 1
    let seq := leAt d 4 8
    let bad := s.obj 0x130001 = 0 ∨ d.length < 40 ∨ leAt d 0 1 ≠ 1 ∨ leAt d 1 1 ≠ 1 ∨ 15 < sess
    let tag := leAt d (d.length - 16) 16 = s.bdpTag (d.take (d.length - 16))
    (s.portUp = false → exec (.bdpRequest d src) s = .next s)
    ∧ (s.portUp = true →
      (bad → exec (.bdpRequest d src) s = .next (s.addObj 0x13000A 32 1))
      ∧ (¬ bad → ¬ tag → exec (.bdpRequest d src) s = .next (s.addObj 0x13000B 32 1))
      ∧ (¬ bad → tag →
        (seq < (s.session sess).floor → exec (.bdpRequest d src) s = .next (s.addObj 0x13000C 32 1))
        ∧ (seq = (s.session sess).floor → (s.session sess).cache = none →
          exec (.bdpRequest d src) s = .next (s.addObj 0x13000C 32 1))
        ∧ (∀ bs, seq = (s.session sess).floor → (s.session sess).cache = some bs →
          exec (.bdpRequest d src) s = .next { s with out := s.out ++ [.bdp src (s.bdpPacket src bs)] })
        ∧ ((s.session sess).floor < seq → 16 ≤ s.bdpQ.length → ∃ t bs, exec (.bdpRequest d src) s = .next t
          ∧ t.out = s.out ++ [.bdp src (s.bdpPacket src bs)] ∧ (bs.drop 16).take 1 = [2]
          ∧ t.session sess = s.session sess
          ∧ t.bdpQ = s.bdpQ
          ∧ t.obj 0x13000D = (s.obj 0x13000D + 1) % 2 ^ 32)
        ∧ ((s.session sess).floor < seq → s.bdpQ.length < 16 → ∃ t, exec (.bdpRequest d src) s = .next t
          ∧ (t.session sess).floor = seq
          ∧ (requestOps d = none → t.bdpQ = s.bdpQ ∧ ∃ bs, t.out = s.out ++ [.bdp src (s.bdpPacket src bs)]
            ∧ (bs.drop 16).take 1 = [1]
            ∧ (t.session sess).cache = some bs)
          ∧ (∀ ops, requestOps d = some ops → t = ({ s.updSession sess (fun x => x.moveTo seq) with
              bdpQ := s.bdpQ ++ [{ sess := sess, src := src, bytes := d }] } : State).bdpAdvance bdpFuel)))))
  ∧ (∀ (s : State) (sess : Nat), sess < 16 →
    (s.bdpQ = [] ∨ s.lookoutRuns = false → exec (.bdpRead sess) s = .next s ∧ exec (.bdpWrite sess) s = .next s)
    ∧ (∀ r q, s.bdpQ = r :: q →
      (r.sess ≠ sess ∨ r.skip = true → exec (.bdpRead sess) s = .next s ∧ exec (.bdpWrite sess) s = .next s)
      ∧ (∀ ops o, requestOps r.bytes = some ops → ops[r.next]? = some o → r.sess = sess → r.skip = false →
        s.lookoutRuns = true →
        let runs := fun (a : OpResult) => (({ a.state with bdpQ := { r with
          next := r.next + 1, body := r.body ++ o.answer a.status a.total a.data
          skip := a.status ≠ 0 && bit (leAt r.bytes 3 1) 0 } :: q } : State).bdpAdvance bdpFuel)
        (o.op = 1 → exec (.bdpRead sess) s = .next (runs (s.readOp (1 + sess) 1024 s.keySet
            (s.keySet || (0x1000 ≤ o.idx && o.idx ≤ 0x14FF)) o)) ∧ exec (.bdpWrite sess) s = .next s)
        ∧ (o.op = 2 → exec (.bdpWrite sess) s = .next (runs (s.writeOp (1 + sess) s.keySet s.keySet o))
          ∧ exec (.bdpRead sess) s = .next s)
        ∧ (o.op ≠ 1 → o.op ≠ 2 → exec (.bdpRead sess) s = .next s ∧ exec (.bdpWrite sess) s = .next s))))
  ∧ (∀ (s : State) (path most : Nat) (auth : Bool) (o : BdpOp), path < 18 → o.idx < 65536 → o.sub < 256 →
    let total := match cardOf o.idx o.sub with | none => 0 | some c => s.lengthOf path o.key c
    (∀ a, (s.readOp path most auth a o).total = total ∧ (s.writeOp path auth a o).total = total)
    ∧ ((s.readOp path most auth false o).status = 6 ∧ (s.readOp path most auth false o).state = s)
    ∧ (s.writeOp path auth false o).state = s.dictRefuse path o.key 6
    ∧ (s.access path o.idx ≠ 0 → (s.readOp path most auth true o).status = s.access path o.idx
      ∧ (s.writeOp path auth true o).status = s.access path o.idx
      ∧ (s.writeOp path auth true o).state = (if auth then s.unserved path o.idx else s))
    ∧ (s.access path o.idx = 0 → cardOf o.idx o.sub = none → (s.readOp path most auth true o).status = 1
      ∧ (s.writeOp path auth true o).status = 1 ∧ (s.writeOp path auth true o).state = s.dictRefuse path o.key 1)
    ∧ (∀ c, s.access path o.idx = 0 → cardOf o.idx o.sub = some c →
      (s.lengthOf path o.key c < o.off → (s.readOp path most auth true o).status = 7)
      ∧ (o.off ≤ s.lengthOf path o.key c → (s.readOp path most auth true o).status = 0
        ∧ (s.readOp path most auth true o).data = ((leBytes (s.lengthOf path o.key c)
          (s.valueOf path o.key c)).drop o.off).take (if o.len = 0 then most else min o.len most))
      ∧ (c.acc = .ro → (s.writeOp path auth true o).status = 2)
      ∧ (c.acc ≠ .ro → o.key = 0x130001 ∨ o.key = 0x130007 → (s.writeOp path auth true o).status = 6)
      ∧ (c.acc ≠ .ro → o.key ≠ 0x130001 → o.key ≠ 0x130007 →
        (o.len ≠ c.ty.bytes ∨ o.off ≠ 0 → (s.writeOp path auth true o).status = 7)
        ∧ (o.len = c.ty.bytes → o.off = 0 →
          exec (.registerWrite path o.idx o.sub (leNat o.data)) s = .next (s.writeOp path auth true o).state
          ∧ ((s.writeOp path auth true o).state.obj 0x121005 = s.obj 0x121005 →
            (s.writeOp path auth true o).status = 0)))))
  ∧ (∀ (x : Session) (seq : Nat), x.stored / 65536 = x.floor / 65536 → x.floor < seq →
    (x.moveTo seq).floor = seq ∧ (x.moveTo seq).stored / 65536 = seq / 65536 ∧ seq < (x.moveTo seq).restart.floor
    ∧ x.floor < x.restart.floor ∧ x.restart.stored / 65536 = x.restart.floor / 65536)
  ∧ (∀ (s : State) (index : Nat), index < 256 →
    (s.lookoutRuns = false → exec (.doeDiscovery index) s = .next s)
    ∧ (s.lookoutRuns = true → ∃ t bs, exec (.doeDiscovery index) s = .next t ∧ t.out = s.out ++ [.doe bs]
      ∧ (index = 0 → bs = [1, 0, 0, 0, 3, 0, 0, 0, 0x01, 0x00, 0x00, 0x01])
      ∧ (index = 1 → bs = [1, 0, 0, 0, 3, 0, 0, 0, 0x3C, 0x1F, 0x01, 0x00])))
  ∧ (∀ (s : State) (d : List Nat), (∀ b ∈ d, b < 256) →
    (s.lookoutRuns = false → exec (.doeBdpOperation d) s = .next s)
    ∧ (s.lookoutRuns = true → takeOp d = none →
      exec (.doeBdpOperation d) s = .next { s with out := s.out ++ [.doe (doeObject 0x1F3C 1 [])] })
    ∧ (∀ o, s.lookoutRuns = true → takeOp d = some (o, []) → o.rsv = 0 →
      let r := s.readOp 17 8192 true (doeAllows o) o
      let w := s.writeOp 17 true (doeAllows o) o
      let sends := fun (a : OpResult) =>
        ({ a.state with out := a.state.out ++ [.doe (doeObject 0x1F3C 1 (o.answer a.status a.total a.data))] } : State)
      exec (.doeBdpOperation d) s = .next (if o.op = 2 then sends w else sends r)))

/-- POWER_CMD, wakes and completions move POWER_STATE; domains gate off and on; input power is lost and returns (R301,
R302, R355, R356, R357, R358, R360, R362, R365, R373). -/
def Obligations.PowerStatesAreEnteredAndLeft : Prop :=
  (∀ (s : State) (path : Nat) (row : Instr) (target : Nat),
    (row = .powerCmdFallow path ∧ target = 2) ∨ (row = .powerCmdDormant path ∧ target = 3) →
    path < 18 → s.access path 0x6000 = 0 → s.obj (okey 0x6000 2) ≠ 1 →
    let refused := fun (r : Nat) =>
      (Host.Outcome.next ((s.setObj (okey 0x6000 3) r).setObj (okey 0x6000 2) 3) : Host.Outcome State Fault Refusal)
    let st := s.obj (okey 0x6000 1)
    let free := s.obj (okey 0x1480 1) = 4 ∧ s.power.target = none
    let loaded := s.ctxs.any (fun e => e.2.st ≠ .empty)
    (¬ free → exec row s = refused 4)
    ∧ (free → loaded = true → exec row s = refused 1)
    ∧ (free → loaded = false →
      (s.obj (okey 0x5800 4) ≠ 0 → exec row s = refused 2)
      ∧ (s.obj (okey 0x5800 4) = 0 →
        (s.dumping = true → exec row s = refused 3)
        ∧ (s.dumping = false → st ≤ 1 ∨ (target = 3 ∧ st = 2) →
          exec row s = .next { (s.setObj (okey 0x6000 3) 0).setObj (okey 0x6000 2) 1 with
            power := { s.power with target := some target, excursion := none } })
        ∧ (s.dumping = false → ¬ (st ≤ 1 ∨ (target = 3 ∧ st = 2)) → exec row s = refused 4))))
  ∧ (∀ (s : State) (path : Nat), path < 18 → s.access path 0x6000 = 0 → s.obj (okey 0x6000 2) ≠ 1 →
    let st := s.obj (okey 0x6000 1)
    let ends := fun (r v : Nat) => (s.setObj (okey 0x6000 3) r).setObj (okey 0x6000 2) v
    (s.obj (okey 0x1480 1) ≠ 4 ∨ st < 2 → exec (.powerCmdRun path) s = .next (ends 4 3))
    ∧ (s.obj (okey 0x1480 1) = 4 → 2 ≤ st →
      (s.hot = true → exec (.powerCmdRun path) s = .next (ends 5 3))
      ∧ (s.hot = false → s.power.target = some 0 → exec (.powerCmdRun path) s = .next (ends 0 1))
      ∧ (s.hot = false → s.power.target ≠ some 0 → ∃ t, exec (.powerCmdRun path) s = .next t
        ∧ t.obj (okey 0x6000 2) = 1 ∧ t.obj (okey 0x6000 3) = 0
        ∧ t.obj (okey 0x6000 5) = (if path = 0 then 1 else 2)
        ∧ t = { s with objs := t.objs, power := { s.power with target := some 0, excursion := none, wake := none } })))
  ∧ (∀ (s : State) (src : Nat), src ≤ 1 →
    let wakes := s.obj (okey 0x1480 1) = 4 ∧ 2 ≤ s.obj (okey 0x6000 1) ∧ bit (s.obj (okey 0x6000 4)) src = true
      ∧ s.power.target ≠ some 0
    (¬ wakes → exec (.wakeOnAccess src) s = .next s)
    ∧ (wakes → s.hot = true → exec (.wakeOnAccess src) s = .next (s.setObj (okey 0x6000 3) 5))
    ∧ (wakes → s.hot = false → s.power.target ≠ none →
      exec (.wakeOnAccess src) s = .next { s with power := { s.power with wake := some (3 + src) } })
    ∧ (wakes → s.hot = false → s.power.target = none → exec (.wakeOnAccess src) s
      = .next { s.setObj (okey 0x6000 5) (3 + src) with
        power := { s.power with target := some 0, excursion := none, wake := none } }))
  ∧ (∀ (s : State),
    (s.lookoutRuns = false ∨ s.power.target = none → exec .powerTransitionComplete s = .next s)
    ∧ (∀ k, s.lookoutRuns = true → s.power.target = some k → k ≠ 0 → ∃ t, exec .powerTransitionComplete s = .next t
      ∧ t.obj (okey 0x6000 1) = k ∧ t.allGated = true ∧ t.cores = [] ∧ (∀ n, n < 20 → (t.link n).st = .disabled)
      ∧ (s.obj (okey 0x6000 2) = 1 → t.obj (okey 0x6000 2) = 2)
      ∧ (k = 2 → t.landing = s.landing)
      ∧ (s.power.wake = none → t.power.target = none)
      ∧ (∀ w, s.power.wake = some w → t.power.target = some 0 ∧ t.obj (okey 0x6000 5) = w))
    ∧ (s.lookoutRuns = true → s.power.target = some 0 → ∃ t, exec .powerTransitionComplete s = .next t
      ∧ t.obj (okey 0x6000 1) = 0 ∧ t.power.target = none ∧ t.power.latched = []
      ∧ (∀ d, Tab.get false t.power.off d = false) ∧ (∀ c, c < 64 → t.fenced c = true)
      ∧ (s.obj (okey 0x6000 2) = 1 → t.obj (okey 0x6000 2) = 2)
      ∧ (s.obj (okey 0x6000 1) ≠ 2 → t.ctxs = [] ∧ t.tmap = [] ∧ t.frames = []
        ∧ ∃ r, t.faults.ring.head? = some r ∧ r.code = 0x8003)))
  ∧ (∀ (s : State) (n : Nat), n < 128 →
    let busy := ∃ c ∈ s.captures, ∃ e, s.checkOn c = some e ∧ e / 4 = n
    let off := Tab.get false s.power.off n || Tab.get false s.power.turning n
    (s.dieRuns = false ∨ (s.core n).phase ≠ .free ∨ busy ∨ off = true → exec (.coreGateOff n) s = .next s)
    ∧ (s.dieRuns = true → (s.core n).phase = .free → ¬ busy → off = false → ∃ t, exec (.coreGateOff n) s = .next t
      ∧ t.core n = { lastMark := (s.core n).lastMark } ∧ Tab.get false t.power.off n = true
      ∧ t.obj (okey 0x6000 1) = (if t.allGated then 1 else s.obj (okey 0x6000 1))
      ∧ t = { s with objs := t.objs, cores := t.cores, power := { s.power with off := t.power.off } }))
  ∧ (∀ (s : State) (c : Nat), c < 8 →
    let d := 128 + c
    let used := (List.range 64).any (fun x => s.loaded x &&
      ((imgStream (s.ctx x).image (0x80 + c)).isSome || (imgStream (s.ctx x).image (0x88 + c)).isSome))
    let gated := (List.range 16).all (fun k => Tab.get false s.power.off (16 * c + k))
    let off := Tab.get false s.power.off d || Tab.get false s.power.turning d
    (s.dieRuns = false ∨ used = true ∨ s.power.survey.head? = some c ∨ gated = false ∨ off = true →
      exec (.clusterGateOff c) s = .next s)
    ∧ (s.dieRuns = true → used = false → s.power.survey.head? ≠ some c → gated = true → off = false → ∃ t,
      exec (.clusterGateOff c) s = .next t ∧ Tab.get false t.power.off d = true
      ∧ t.obj (okey 0x6000 1) = (if t.allGated then 1 else s.obj (okey 0x6000 1))
      ∧ t = { s with objs := t.objs, power := { s.power with off := t.power.off } }))
  ∧ (∀ (s : State) (d : Nat), d < 136 →
    (s.dieRuns = false ∨ Tab.get false s.power.turning d = false → exec (.domainPowerOnComplete d) s = .next s)
    ∧ (s.dieRuns = true → Tab.get false s.power.turning d = true → ∃ t, exec (.domainPowerOnComplete d) s = .next t
      ∧ Tab.get false t.power.off d = false ∧ Tab.get false t.power.turning d = false ∧ t.obj (okey 0x6000 1) = 0))
  ∧ (∀ (s : State),
    (s.env.vin = false → exec .inputPowerLoss s = .next s)
    ∧ (s.env.vin = true → ∃ t, exec .inputPowerLoss s = .next t ∧ t.env.vin = false ∧ t.obj (okey 0x1480 1) = 0
      ∧ t.obj (okey 0x1480 2) = 1 ∧ t.dumps = [] ∧ t.landing = {} ∧ t.ddr = {} ∧ t.flash = s.flash
      ∧ t.faults.history = s.faults.history ∧ t.power.latched = [] ∧ t.ctxs = [] ∧ t.pending = s.pending)
    ∧ (s.env.vin = true → exec .powerOn s = .next s)
    ∧ (s.env.vin = false → exec .powerOn s = .next { s with env := { s.env with vin := true } }))

/-- Samples are averaged, warn and trip; rails trip; the input warns; PLLs and REFCLK stop and return (R359, R360,
R361, R363, R364, R365, R366). -/
def Obligations.SensorsAndClocksWarnAndTrip : Prop :=
  (∀ (s : State) (k : Nat) (raw : Int), k < 137 →
    let dead := s.lookoutRuns = false ∨ (k < 80 ∧ s.diodeOff k = true)
    let old := Tab.get [] s.power.samples k
    let mean := meanOf ((raw :: old).take 4)
    let trips := k < 80 ∧ 1100 ≤ raw ∧ 1100 ≤ old.headD 0
    (dead → exec (.sensorSample k raw) s = .next s)
    ∧ (¬ dead → ∃ t, exec (.sensorSample k raw) s = .next t
      ∧ Tab.get [] t.power.samples k = (raw :: old).take 4
      ∧ (∀ j, j ≠ k → Tab.get [] t.power.samples j = Tab.get [] s.power.samples j)
      ∧ (k < 80 → t.obj (okey 0x6300 (0x40 + k)) = toTwos 32 mean)
      ∧ (∀ l, s.warnLevel k = some l →
        (l ≤ mean → Tab.get false t.power.warned k = true)
        ∧ (mean < l → mean ≤ l - 50 → Tab.get false t.power.warned k = false)
        ∧ (mean < l → l - 50 < mean → Tab.get false t.power.warned k = Tab.get false s.power.warned k))
      ∧ (trips → t.obj (okey 0x6000 1) = 4 ∧ t.obj (okey 0x6000 6) = 0x60010000 + k ∧ t.cores = []
        ∧ (0x6001, 0) ∈ t.power.latched)
      ∧ (¬ trips → t.obj (okey 0x6000 1) = s.obj (okey 0x6000 1) ∧ t.obj (okey 0x6000 6) = s.obj (okey 0x6000 6)
        ∧ t.cores = s.cores)))
  ∧ (∀ (s : State) (rail phase : Nat), rail < 13 → phase < railPhases rail →
    let st := s.obj (okey 0x6000 1)
    let dead := s.lookoutRuns = false ∨ st = 4 ∨ rail = 10 ∨ (2 ≤ st ∧ rail < 10)
    (dead → exec (.overcurrentTrip rail phase) s = .next s)
    ∧ (¬ dead → ∃ t, exec (.overcurrentTrip rail phase) s = .next t ∧ t.obj (okey 0x6000 1) = 4
      ∧ t.obj (okey 0x6000 6) = 0x60020000 + rail * 256 + phase ∧ t.cores = [] ∧ t.allGated = true
      ∧ (∀ n, n < 20 → (t.link n).st = .disabled) ∧ t.power.target = none
      ∧ (rail < 12 → t.obj (okey (0x6020 + rail) 4) = (s.obj (okey (0x6020 + rail) 4) + 1) % 2 ^ 16)
      ∧ t.power.latched = s.power.latched ++ [(0x6002, 0)]))
  ∧ (∀ (s : State) (rail : Nat), rail < 13 →
    let persists := s.obj (okey 0x1480 1) = 4 ∧ s.obj (okey 0x6000 1) = 4 ∧ s.obj (okey 0x6000 6) / 256 = 0x60020C
    let stops := s.env.vin = true ∧ (rail = 10 ∨ (rail = 12 ∧ persists))
    (¬ stops → exec (.powerStageShutdown rail) s = .next s)
    ∧ (stops → ∃ t, exec (.powerStageShutdown rail) s = .next t ∧ t.env.vin = false ∧ t.power.stage = some rail
      ∧ t.obj (okey 0x1480 2) = 1 ∧ t.flash = s.flash))
  ∧ (∀ (s : State) (mv : Nat), mv < 2 ^ 32 →
    let good := 48000 ≤ mv ∧ mv ≤ 58000
    let on := 44000 ≤ mv ∧ mv ≤ 60000
    (¬ on → exec (.inputVoltage mv) s = exec .inputPowerLoss s)
    ∧ (on → s.lookoutRuns = false → exec (.inputVoltage mv) s = .next s)
    ∧ (on → s.lookoutRuns = true → good →
      exec (.inputVoltage mv) s = .next { s with power := { s.power with inputLow := false } })
    ∧ (on → s.lookoutRuns = true → ¬ good → s.power.inputLow = true → exec (.inputVoltage mv) s = .next s)
    ∧ (on → s.lookoutRuns = true → ¬ good → s.power.inputLow = false →
      let low : State := { s with power := { s.power with inputLow := true } }
      exec (.inputVoltage mv) s = .next (if s.campRuns then low.report 0x6004 8 0 none 0 false false
        else low.latchFault 0x6004 0)))
  ∧ (∀ (s : State) (code detail : Nat), code ≠ 0x6004 → code ≠ 0x6005 →
    s.latchFault code detail = { s with power := { s.power with latched := s.power.latched ++ [(code, detail)] } })
  ∧ (∀ (s : State) (p : Nat), p < 37 →
    let dead := Tab.get false s.power.plls p = true ∨ s.env.vin = false ∨ s.env.refclk = false
    let lost : State := ({ s with power := { s.power with plls := Tab.put false s.power.plls p true } } : State).addObj
      (okey 0x6200 2) 32 1
    let live := 1 ≤ p ∧ p ≤ 20 ∧ (s.link (p - 1)).live = true
    (dead → exec (.pllLossOfLock p) s = .next s)
    ∧ (¬ dead → p = 0 → exec (.pllLossOfLock p) s = .next { lost with env := { s.env with rootPll := false } })
    ∧ (¬ dead → p ≠ 0 → ¬ live → exec (.pllLossOfLock p) s = .next lost)
    ∧ (¬ dead → live → exec (.pllLossOfLock p) s = .next (lost.faultLink (p - 1) (downCode (p - 1)) 5))
    ∧ (∀ a, (p = 21 + stackOf a → lost.phyDown (.landing a) = true)
      ∧ ∀ q, (p = 29 + q → lost.phyDown (.ddr q a) = true) ∧ (p = 33 + q → lost.phyDown (.flash q a) = true))
    ∧ (Tab.get false s.power.plls p = false → exec (.pllRelock p) s = .next s)
    ∧ (Tab.get false s.power.plls p = true → ∃ t, exec (.pllRelock p) s = .next t
      ∧ Tab.get false t.power.plls p = false ∧ t.env.rootPll = (p = 0 || s.env.rootPll)
      ∧ t = { s with env := t.env, power := { s.power with plls := t.power.plls } }))
  ∧ (∀ (s : State),
    exec .refclkStop s = .next { s with env := { s.env with refclk := false } }
    ∧ (s.env.refclk = true → exec .refclkReturn s = .next s)
    ∧ (s.env.refclk = false → exec .refclkReturn s = .next { s with
        env := { s.env with refclk := true, rootPll := true }
        power := { s.power with plls := [] } }))

/-- Surveys raise GUARD and warn, the scrub excursion wakes one Planer, hours and the energy figure are kept (R146,
R353, R367, R368, R369, R370, R371). -/
def Obligations.CruiseScrubAndHoursAreKept : Prop :=
  (∀ (s : State),
    let sleeps := 2 ≤ s.obj (okey 0x6000 1) ∨ s.power.target ≠ none
    let runs := s.lookoutRuns = true ∧ s.obj (okey 0x1480 1) = 4
    (¬ runs → exec .cruiseSurvey s = .next s)
    ∧ (runs → sleeps → exec .cruiseSurvey s = .next { s with power := { s.power with due := true } })
    ∧ (runs → ¬ sleeps → s.power.survey ≠ [] → exec .cruiseSurvey s = .next s)
    ∧ (runs → ¬ sleeps → s.power.survey = [] → ∃ t, exec .cruiseSurvey s = .next t
      ∧ t.power.survey = List.range 8 ∧ t.power.due = false ∧ t.objs = s.objs))
  ∧ (∀ (s : State) (path : Nat), path < 18 → s.access path 0x6480 = 0 → s.obj (okey 0x6480 1) ≠ 1 → ∃ t,
    exec (.cruiseCmd path) s = .next t ∧ t.obj (okey 0x6480 1) = 1
    ∧ (s.obj (okey 0x1480 1) = 4 → s.obj (okey 0x6000 1) ≤ 1 → s.power.target = none →
      t.power.survey = s.power.survey ++ List.range 8 ∧ t.power.due = false)
    ∧ (s.obj (okey 0x1480 1) ≠ 4 ∨ 2 ≤ s.obj (okey 0x6000 1) ∨ s.power.target ≠ none →
      t.power.survey = s.power.survey ∧ t.power.due = true))
  ∧ (∀ (s : State) (c : Nat) (slacks : List Int), c < 8 →
    (s.power.survey.head? ≠ some c ∨ slacks = [] ∨ s.dieRuns = false ∨ Tab.get false s.power.off (128 + c) = true →
      exec (.clusterSurveyComplete c slacks) s = .next s)
    ∧ (∀ rest x xs, s.power.survey = c :: rest → slacks = x :: xs → s.dieRuns = true →
      Tab.get false s.power.off (128 + c) = false → ∃ t, exec (.clusterSurveyComplete c slacks) s = .next t
      ∧ t.power.survey = rest
      ∧ (let least := xs.foldl min x
         let steps := (((s.obj (okey 0x6480 5) : Int) - least).toNat + 2) / 3
         t.obj (okey (0x6400 + c) 2) = s.obj (okey (0x6400 + c) 2) + min steps (s.headroom c)
         ∧ t.obj (okey (0x6400 + c) 4) = least.toNat % 65536
         ∧ t.obj (okey (0x6400 + c) 7) = s.obj (okey 0x1000 9)
         ∧ (s.headroom c < steps → t.obj (okey (0x6400 + c) 8) = 1)
         ∧ (steps ≤ s.headroom c → t.obj (okey (0x6400 + c) 8) = s.obj (okey (0x6400 + c) 8)))
      ∧ (rest = [] → t.obj (okey 0x6480 6) = (s.obj (okey 0x6480 6) + 1) % 2 ^ 32
        ∧ (s.obj (okey 0x6480 1) = 1 → t.obj (okey 0x6480 1) = 2))))
  ∧ (∀ (s : State) (q : Nat), q < 4 →
    let due := s.lookoutRuns = true ∧ s.obj (okey 0x1480 1) = 4 ∧ 2 ≤ s.obj (okey 0x6000 1) ∧ s.power.target = none
      ∧ s.power.excursion = none
      ∧ 168 - (s.obj (okey (0x3400 + q) 9) + Tab.get 0 s.power.scrubLen q) ≤ s.obj (okey 0x6600 1)
    (¬ due → exec (.scrubExcursion q) s = .next s)
    ∧ (due → exec (.scrubExcursion q) s
      = .next (({ s with power := { s.power with excursion := some q } } : State).addObj (okey 0x6600 2) 32 1))
    ∧ (s.power.excursion ≠ some q → exec (.scrubExcursionComplete q) s = .next s)
    ∧ (s.power.excursion = some q → exec (.scrubExcursionComplete q) s
      = .next { s.setObj (okey (0x3400 + q) 9) 0 with power := { s.power with
          excursion := none
          scrubLen := Tab.put 0 s.power.scrubLen q (s.obj (okey (0x3400 + q) 9) - Tab.get 0 s.power.scrubFrom q)
          scrubFrom := Tab.put 0 s.power.scrubFrom q 0 } }))
  ∧ (∀ (s : State),
    (s.lookoutRuns = false → exec .poweredHours s = .next s)
    ∧ (s.lookoutRuns = true → ∃ t, exec .poweredHours s = .next t
      ∧ t.obj (okey 0x1000 9) = (s.obj (okey 0x1000 9) + 1) % 2 ^ 32
      ∧ (∀ q, q < 4 → t.obj (okey (0x3400 + q) 9) = (s.obj (okey (0x3400 + q) 9) + 1) % 2 ^ 32)
      ∧ t = { s with objs := t.objs }))
  ∧ (∀ (s : State) (energy rows : Nat),
    let counts := s.dieRuns = true ∧ s.obj (okey 0x6000 1) = 0 ∧ 40960000000 ≤ rows
    (¬ counts → exec (.macEnergyWindow energy rows) s = .next s)
    ∧ (counts → ∃ t, exec (.macEnergyWindow energy rows) s = .next t
      ∧ t.obj (okey 0x6500 1) = (2 * energy + rows * 4096) / (2 * (rows * 4096)) % 2 ^ 32
      ∧ t.obj (okey 0x6500 8) = (s.obj (okey 0x6500 8) + 1) % 2 ^ 32
      ∧ t = { s with objs := t.objs }))

/-- Start-up stages and failures, PERST#, and the attestation, self-test and probe commands (R366, R373, R374, R375,
R376, R378, R381, R385, R386, R387). -/
def Obligations.StartUpMeasuresAndTrustAnswers : Prop :=
  (∀ (s : State), s.booting = false → exec .bootStageComplete s = .next s
    ∧ ∀ code, (code = 0 ∨ code = 0x7003 ∨ code = 0x7004) → exec (.bootTimeout code) s = .next s)
  ∧ (∀ (s : State), s.booting = true → ∃ t, exec .bootStageComplete s = .next t
    ∧ t.bootState = s.bootState + 1
    ∧ (s.bootState = 0 →
      (∀ b, s.firmware.findBank (· = .pending) = some b → 0 < s.firmware.tries →
        t.obj (okey 0x1480 3) = b + 2 ∧ t.firmware.tries = s.firmware.tries - 1)
      ∧ (s.firmware.findBank (· = .pending) = none ∨ s.firmware.tries = 0 →
        t.obj (okey 0x1480 3) = (s.firmware.findBank (· = .active)).getD 0 ∧ t.firmware = s.firmware))
    ∧ (s.bootState = 1 → t.boot.digest = sha384 ((t.boot.mrs.take 7).flatMap (leBytes 48)) % 2 ^ 384
      ∧ t.power.stage = none
      ∧ (∀ r, s.power.stage = some r → t.obj (okey 0x6000 6) = 0x60020000 + r * 256))
    ∧ (s.bootState = 2 → t.landing = {} ∧ t.power.latched = [] ∧ t.env.counted = true
      ∧ t.incarnation = (if s.env.counted then s.incarnation else (s.incarnation + 1) % 2 ^ 16))
    ∧ (s.bootState = 3 → t.ddr = {} ∧ t.obj (okey 0x6000 1) = 1 ∧ t.env.counted = false
      ∧ ∀ d, d < 136 → Tab.get false t.power.off d = true))
  ∧ (∀ (s : State) (code : Nat), code = 0 ∨ code = 0x7003 ∨ code = 0x7004 → s.booting = true →
    let s1 := if s.bootState = 0 then s.chooseBank else s
    let b := s1.bootBank
    ∃ t, exec (.bootTimeout code) s = .next t
    ∧ (s1.trialBoot = true ∨ code = 0 → t.bootState = 0 ∧ t.obj (okey 0x1480 2) = 2 ∧ t.flash = s.flash)
    ∧ (s1.trialBoot = true → s1.firmware.tries = 0 → t.firmware.bank b = .inactive)
    ∧ (s1.trialBoot = true → s1.firmware.tries ≠ 0 → t.firmware.bank b = s1.firmware.bank b)
    ∧ (s1.trialBoot = false → code ≠ 0 → t.bootState = 5)
    ∧ (code ≠ 0 → t.power.latched = s.power.latched ++ [(code, b)])
    ∧ (code = 0 → t.power.latched = s.power.latched))
  ∧ (∀ (s : State),
    (s.env.perst = true → exec .perstAssert s = .next s)
    ∧ (s.env.perst = false → ∃ t, exec .perstAssert s = .next t ∧ t.env.perst = true ∧ t.flash = s.flash
      ∧ t.dumps = s.dumps ∧ t.pending = s.pending
      ∧ (s.env.vin = true → t.bootState = 0 ∧ t.obj (okey 0x1480 2) = 2 ∧ t.ctxs = [] ∧ t.tmap = [] ∧ t.landing = {}
        ∧ t.ddr = {}))
    ∧ exec .perstRelease s = .next { s with env := { s.env with perst := false } })
  ∧ (∀ (s : State) (path : Nat), path < 18 →
    (s.access path 0x1410 = 0 → s.obj (okey 0x1410 2) ≠ 1 → ∃ t, exec (.attCmd path) s = .next t
      ∧ t.obj (okey 0x1410 2) = 1 ∧ t.firmware.att = some (path, s.pobj path (okey 0x1410 1)))
    ∧ (∀ nonce, s.firmware.att = some (path, nonce) → s.lookoutRuns = true → ∃ t, exec (.evidenceReady path) s = .next t
      ∧ t.obj (okey 0x1410 2) = 2 ∧ t.firmware.att = none
      ∧ t.pobj path (okey 0x1410 3) = (evidenceOf (s.attPayload nonce)).length
      ∧ t.pobj path (okey 0x1410 4) = leNat (evidenceOf (s.attPayload nonce)))
    ∧ ((∀ nonce, s.firmware.att ≠ some (path, nonce)) ∨ s.lookoutRuns = false →
      exec (.evidenceReady path) s = .next s))
  ∧ (∀ (s : State) (path : Nat), path < 18 → s.access path 0x7010 = 0 → s.obj (okey 0x7010 1) ≠ 1 →
    let loaded := s.ctxs.any (fun e => e.2.st ≠ .empty)
    exec (.selftest path) s = .next ((s.setObj (okey 0x7010 2) (b2n loaded)).setObj (okey 0x7010 1)
      (if loaded then 3 else 1)))
  ∧ (∀ (s : State) (engines limbers : List Nat), (∀ e ∈ engines, e < 512) → (∀ n ∈ limbers, n < 128) →
    let runs := s.obj (okey 0x7010 1) = 1 ∧ s.dieRuns = true
    (¬ runs → exec (.selftestComplete engines limbers) s = .next s)
    ∧ (runs → ∃ t, exec (.selftestComplete engines limbers) s = .next t ∧ t.obj (okey 0x7010 1) = 2
      ∧ t.obj (okey 0x7010 3) = bitMap engines ∧ t.obj (okey 0x7010 4) = bitMap limbers
      ∧ t.obj (okey 0x7010 5) = (s.obj (okey 0x7010 5) + 1) % 2 ^ 32 ∧ t.faults = s.faults
      ∧ ∀ e, e < 512 → t.engFenced e = s.engFenced e))
  ∧ (∀ (s : State) (path : Nat), path < 18 → s.access path 0x7000 = 0 → s.obj (okey 0x7000 4) ≠ 1 →
    (exec (.probeDisable path) s
      = .next (((s.setObj (okey 0x7000 1) 0).setObj (okey 0x7000 5) 0).setObj (okey 0x7000 4) 2))
    ∧ (∃ t, exec (.probeEnable path) s = .next t ∧ t.boot.challenge = Config.freeValue s.free % 2 ^ 256
      ∧ t.free = s.free + 1
      ∧ (∀ r, s.unlockBad (leBytes 3437 (s.obj (okey 0x7000 3))) = some r → t.obj (okey 0x7000 4) = 3
        ∧ t.obj (okey 0x7000 5) = r ∧ t.obj (okey 0x7000 1) = s.obj (okey 0x7000 1) ∧ t.boot.mrs = s.boot.mrs)
      ∧ (s.unlockBad (leBytes 3437 (s.obj (okey 0x7000 3))) = none → t.obj (okey 0x7000 4) = 2
        ∧ t.obj (okey 0x7000 5) = 0 ∧ t.obj (okey 0x7000 1) = (leBytes 3437 (s.obj (okey 0x7000 3))).getD 26 0
        ∧ t.boot.mrs = s.boot.mrs.set 7 (sha384 (leBytes 48 (s.boot.mrs.getD 7 0)
          ++ leBytes 48 (sha384 (leBytes 3437 (s.obj (okey 0x7000 3))) % 2 ^ 384)) % 2 ^ 384))))

/-- FW_CMD: a session writes a bank unit by unit, only a bundle that passes R377 becomes PENDING, CONFIRM makes it
ACTIVE (R376, R377, R383, R384). -/
def Obligations.FirmwareIsWrittenVerifiedAndConfirmed : Prop :=
  (∀ (s : State) (path : Nat), path < 18 → s.access path 0x1481 = 0 → s.obj (okey 0x1481 1) ≠ 1 →
    let ends := fun (t : State) (r : Nat) =>
      (t.setObj (okey 0x1481 2) r).setObj (okey 0x1481 1) (if r = 0 then 2 else 3)
    let n := s.obj (okey 0x1481 3)
    let f := s.firmware
    let badLen := n < 8192 ∨ 50331648 < n ∨ n % 1024 ≠ 0
    (f.sess ≠ none → exec (.fwBegin path) s = .next (ends s 2))
    ∧ (f.sess = none → badLen → exec (.fwBegin path) s = .next (ends s 4))
    ∧ (f.sess = none → ¬ badLen → f.findBank (fun b => b = .invalid || b = .inactive) = none →
      exec (.fwBegin path) s = .next (s.dictRefuse path (okey 0x1481 1) 8))
    ∧ (∀ b, f.sess = none → ¬ badLen → f.findBank (fun b => b = .invalid || b = .inactive) = some b → ∃ t,
      exec (.fwBegin path) s = .next t ∧ t.obj (okey 0x1481 1) = 2 ∧ t.obj (okey 0x1481 2) = 0
      ∧ t.firmware.sess = some path ∧ t.firmware.len = n ∧ t.firmware.erased = false ∧ t.firmware.units = []
      ∧ t.firmware.queue = [] ∧ t.firmware.bank b = .invalid ∧ t.firmware.bank (1 - b) = f.bank (1 - b))
    ∧ (f.sess ≠ some path → exec (.fwVerify path) s = .next (ends s 1) ∧ exec (.fwAbort path) s = .next (ends s 1))
    ∧ (f.sess = some path → ∃ t, exec (.fwAbort path) s = .next t ∧ t.firmware.sess = none
      ∧ t.firmware.bank 0 = f.bank 0 ∧ t.firmware.bank 1 = f.bank 1 ∧ t.obj (okey 0x1481 1) = 2)
    ∧ (f.sess = some path →
      let p := s.updFw (fun f => (List.range f.queue.length).foldl (fun g _ => g.program) f)
      let b := p.firmware.target
      let whole := (List.range (f.len / 1024)).all (fun u => Tab.get false f.units u)
      (whole = false → exec (.fwVerify path) s = .next (ends p 3))
      ∧ (∀ r, whole = true → p.bundleBad (p.firmware.img b) f.len = some r →
        exec (.fwVerify path) s = .next (ends (p.fwFault r b) r))
      ∧ (whole = true → p.bundleBad (p.firmware.img b) f.len = none → ∃ t, exec (.fwVerify path) s = .next t
        ∧ t.firmware.bank b = .pending ∧ t.firmware.tries = 2 ∧ t.firmware.sess = none
        ∧ t.obj (okey 0x1481 1) = 2 ∧ t.obj (okey 0x1481 2) = 0))
    ∧ (let b := s.bootBank
       let trial := 2 ≤ s.obj (okey 0x1480 3) ∧ f.bank b = .pending
       (¬ trial → exec (.fwConfirm path) s = .next (ends s 8))
       ∧ (trial → ∃ t, exec (.fwConfirm path) s = .next t ∧ t.firmware.bank b = .active
         ∧ t.firmware.bank (1 - b) = (if f.bank (1 - b) = .active then .inactive else f.bank (1 - b))
         ∧ t.obj (okey 0x1481 0x0B) = max (s.obj (okey 0x1481 0x0B)) (fwFloor (f.img b))
         ∧ (∀ k, k < 4 → bit (t.obj (okey 0x1481 0x0C)) k
           = (bit (s.obj (okey 0x1481 0x0C)) k || k < fwRevoke (f.img b)))
         ∧ t.obj (okey 0x1481 1) = 2 ∧ t.obj (okey 0x1481 2) = 0))
    ∧ (f.findBank (· = .inactive) = none → exec (.fwSwitch path) s = .next (s.dictRefuse path (okey 0x1481 1) 8))
    ∧ (∀ b, f.findBank (· = .inactive) = some b →
      (∀ r, s.bundleBad (f.img b) 50331648 = some r → exec (.fwSwitch path) s = .next (ends (s.fwFault r b) r))
      ∧ (s.bundleBad (f.img b) 50331648 = none → ∃ t, exec (.fwSwitch path) s = .next t
        ∧ t.firmware.bank b = .pending ∧ t.firmware.bank (1 - b) = f.bank (1 - b) ∧ t.firmware.tries = 2
        ∧ t.obj (okey 0x1481 1) = 2)))
  ∧ (∀ (s : State) (m : Mem) (len : Nat),
    (bundleFormat m len = false → s.bundleBad m len = some 4)
    ∧ (bundleFormat m len = true → bundleSigned m (s.obj (okey 0x1481 0x0C)) = false → s.bundleBad m len = some 5)
    ∧ (bundleFormat m len = true → bundleSigned m (s.obj (okey 0x1481 0x0C)) = true →
      fwSvn m < s.obj (okey 0x1481 0x0B) → s.bundleBad m len = some 6)
    ∧ (s.bundleBad m len = none → s.obj (okey 0x1481 0x0B) ≤ fwSvn m ∧ fwFloor m ≤ fwSvn m
      ∧ bundleFits m (s.obj (okey 0x1000 3)) = true))
  ∧ (∀ (s : State) (path data : Nat), path < 18 → data < 2 ^ 8192 → s.access path 0x1481 = 0 →
    let f := s.firmware
    let o := s.obj (okey 0x1481 4)
    let bad := f.sess ≠ some path ∨ o % 1024 ≠ 0 ∨ f.len ≤ o ∨ Tab.get false f.units (o / 1024) = true
    (bad → exec (.fwChunkWrite path data) s = .next (s.dictRefuse path (okey 0x1481 5) 8))
    ∧ (¬ bad → 16 ≤ f.queue.length → exec (.fwChunkWrite path data) s = .next (s.dictRefuse path (okey 0x1481 5) 5))
    ∧ (¬ bad → f.queue.length < 16 → exec (.fwChunkWrite path data) s = .next { s with firmware := { f with
        units := Tab.put false f.units (o / 1024) true
        queue := f.queue ++ [(o / 1024, data)] } }))
  ∧ (∀ (s : State),
    (s.firmware.sess = none → exec .fwEraseComplete s = .next s)
    ∧ (s.firmware.sess ≠ none →
      exec .fwEraseComplete s = .next { s with firmware := { s.firmware with erased := true } })
    ∧ (s.firmware.erased = false ∨ s.firmware.queue = [] → exec .fwUnitProgrammed s = .next s)
    ∧ (∀ u d q, s.firmware.erased = true → s.firmware.queue = (u, d) :: q → ∃ t, exec .fwUnitProgrammed s = .next t
      ∧ t.firmware.queue = q ∧ t.firmware.img s.firmware.target
        = (s.firmware.img s.firmware.target).writeLe (1024 * u) 1024 d))
end

