-- ==== Sys2Proof/Laws/State.lean ====
section
/-!
SUPPORT. What each basic update of the state leaves alone: one lemma per field and update, true by definition.
-/

namespace Sys2Proof.Machine

@[simp] theorem State.setObj_pobjs (s : State) (k v : Nat) : (s.setObj k v).pobjs = s.pobjs := rfl
@[simp] theorem State.setObj_cores (s : State) (k v : Nat) : (s.setObj k v).cores = s.cores := rfl
@[simp] theorem State.setObj_streams (s : State) (k v : Nat) : (s.setObj k v).streams = s.streams := rfl
@[simp] theorem State.setObj_tok (s : State) (k v : Nat) : (s.setObj k v).tok = s.tok := rfl
@[simp] theorem State.setObj_acq (s : State) (k v : Nat) : (s.setObj k v).acq = s.acq := rfl
@[simp] theorem State.setObj_cred (s : State) (k v : Nat) : (s.setObj k v).cred = s.cred := rfl
@[simp] theorem State.setObj_posts (s : State) (k v : Nat) : (s.setObj k v).posts = s.posts := rfl
@[simp] theorem State.setObj_flights (s : State) (k v : Nat) : (s.setObj k v).flights = s.flights := rfl
@[simp] theorem State.setObj_nextId (s : State) (k v : Nat) : (s.setObj k v).nextId = s.nextId := rfl
@[simp] theorem State.setObj_turns (s : State) (k v : Nat) : (s.setObj k v).turns = s.turns := rfl
@[simp] theorem State.setObj_work (s : State) (k v : Nat) : (s.setObj k v).work = s.work := rfl
@[simp] theorem State.setObj_ctxs (s : State) (k v : Nat) : (s.setObj k v).ctxs = s.ctxs := rfl
@[simp] theorem State.setObj_descs (s : State) (k v : Nat) : (s.setObj k v).descs = s.descs := rfl
@[simp] theorem State.setObj_allocs (s : State) (k v : Nat) : (s.setObj k v).allocs = s.allocs := rfl
@[simp] theorem State.setObj_tmap (s : State) (k v : Nat) : (s.setObj k v).tmap = s.tmap := rfl
@[simp] theorem State.setObj_frames (s : State) (k v : Nat) : (s.setObj k v).frames = s.frames := rfl
@[simp] theorem State.setObj_hostWins (s : State) (k v : Nat) : (s.setObj k v).hostWins = s.hostWins := rfl
@[simp] theorem State.setObj_landing (s : State) (k v : Nat) : (s.setObj k v).landing = s.landing := rfl
@[simp] theorem State.setObj_ddr (s : State) (k v : Nat) : (s.setObj k v).ddr = s.ddr := rfl
@[simp] theorem State.setObj_flash (s : State) (k v : Nat) : (s.setObj k v).flash = s.flash := rfl
@[simp] theorem State.setObj_host (s : State) (k v : Nat) : (s.setObj k v).host = s.host := rfl
@[simp] theorem State.setObj_ftl (s : State) (k v : Nat) : (s.setObj k v).ftl = s.ftl := rfl
@[simp] theorem State.setObj_faults (s : State) (k v : Nat) : (s.setObj k v).faults = s.faults := rfl
@[simp] theorem State.setObj_captures (s : State) (k v : Nat) : (s.setObj k v).captures = s.captures := rfl
@[simp] theorem State.setObj_scaler (s : State) (k v : Nat) : (s.setObj k v).scaler = s.scaler := rfl
@[simp] theorem State.setObj_scalerC (s : State) (k v : Nat) : (s.setObj k v).scalerC = s.scalerC := rfl
@[simp] theorem State.setObj_scalerQ (s : State) (k v : Nat) : (s.setObj k v).scalerQ = s.scalerQ := rfl
@[simp] theorem State.setObj_msixOpen (s : State) (k v : Nat) : (s.setObj k v).msixOpen = s.msixOpen := rfl
@[simp] theorem State.setObj_msixPend (s : State) (k v : Nat) : (s.setObj k v).msixPend = s.msixPend := rfl
@[simp] theorem State.setObj_env (s : State) (k v : Nat) : (s.setObj k v).env = s.env := rfl
@[simp] theorem State.setObj_isolated (s : State) (k v : Nat) : (s.setObj k v).isolated = s.isolated := rfl
@[simp] theorem State.setObj_downUnits (s : State) (k v : Nat) : (s.setObj k v).downUnits = s.downUnits := rfl
@[simp] theorem State.setObj_links (s : State) (k v : Nat) : (s.setObj k v).links = s.links := rfl
@[simp] theorem State.setObj_colls (s : State) (k v : Nat) : (s.setObj k v).colls = s.colls := rfl
@[simp] theorem State.setObj_members (s : State) (k v : Nat) : (s.setObj k v).members = s.members := rfl
@[simp] theorem State.setObj_beatTurn (s : State) (k v : Nat) : (s.setObj k v).beatTurn = s.beatTurn := rfl
@[simp] theorem State.setObj_slots (s : State) (k v : Nat) : (s.setObj k v).slots = s.slots := rfl
@[simp] theorem State.setObj_ustreams (s : State) (k v : Nat) : (s.setObj k v).ustreams = s.ustreams := rfl
@[simp] theorem State.setObj_portQ (s : State) (k v : Nat) : (s.setObj k v).portQ = s.portQ := rfl
@[simp] theorem State.setObj_rxBuf (s : State) (k v : Nat) : (s.setObj k v).rxBuf = s.rxBuf := rfl
@[simp] theorem State.setObj_stepPin (s : State) (k v : Nat) : (s.setObj k v).stepPin = s.stepPin := rfl
@[simp] theorem State.setObj_commits (s : State) (k v : Nat) : (s.setObj k v).commits = s.commits := rfl
@[simp] theorem State.setObj_reqs (s : State) (k v : Nat) : (s.setObj k v).reqs = s.reqs := rfl
@[simp] theorem State.setObj_tierQ (s : State) (k v : Nat) : (s.setObj k v).tierQ = s.tierQ := rfl
@[simp] theorem State.setObj_serving (s : State) (k v : Nat) : (s.setObj k v).serving = s.serving := rfl
@[simp] theorem State.setObj_dumps (s : State) (k v : Nat) : (s.setObj k v).dumps = s.dumps := rfl
@[simp] theorem State.setObj_snag (s : State) (k v : Nat) : (s.setObj k v).snag = s.snag := rfl
@[simp] theorem State.setObj_firmware (s : State) (k v : Nat) : (s.setObj k v).firmware = s.firmware := rfl
@[simp] theorem State.setObj_boot (s : State) (k v : Nat) : (s.setObj k v).boot = s.boot := rfl
@[simp] theorem State.setObj_power (s : State) (k v : Nat) : (s.setObj k v).power = s.power := rfl
@[simp] theorem State.setObj_segs (s : State) (k v : Nat) : (s.setObj k v).segs = s.segs := rfl
@[simp] theorem State.setObj_sess (s : State) (k v : Nat) : (s.setObj k v).sess = s.sess := rfl
@[simp] theorem State.setObj_bdpQ (s : State) (k v : Nat) : (s.setObj k v).bdpQ = s.bdpQ := rfl
@[simp] theorem State.setObj_notified (s : State) (k v : Nat) : (s.setObj k v).notified = s.notified := rfl
@[simp] theorem State.setObj_d3hot (s : State) (k v : Nat) : (s.setObj k v).d3hot = s.d3hot := rfl
@[simp] theorem State.setObj_stepRun (s : State) (k v : Nat) : (s.setObj k v).stepRun = s.stepRun := rfl
@[simp] theorem State.setObj_snaps (s : State) (k v : Nat) : (s.setObj k v).snaps = s.snaps := rfl
@[simp] theorem State.setObj_seqNo (s : State) (k v : Nat) : (s.setObj k v).seqNo = s.seqNo := rfl
@[simp] theorem State.setObj_free (s : State) (k v : Nat) : (s.setObj k v).free = s.free := rfl
@[simp] theorem State.setObj_out (s : State) (k v : Nat) : (s.setObj k v).out = s.out := rfl
@[simp] theorem State.setObj_pending (s : State) (k v : Nat) : (s.setObj k v).pending = s.pending := rfl

@[simp] theorem State.addObj_pobjs (s : State) (k w n : Nat) : (s.addObj k w n).pobjs = s.pobjs := rfl
@[simp] theorem State.addObj_cores (s : State) (k w n : Nat) : (s.addObj k w n).cores = s.cores := rfl
@[simp] theorem State.addObj_streams (s : State) (k w n : Nat) : (s.addObj k w n).streams = s.streams := rfl
@[simp] theorem State.addObj_tok (s : State) (k w n : Nat) : (s.addObj k w n).tok = s.tok := rfl
@[simp] theorem State.addObj_acq (s : State) (k w n : Nat) : (s.addObj k w n).acq = s.acq := rfl
@[simp] theorem State.addObj_cred (s : State) (k w n : Nat) : (s.addObj k w n).cred = s.cred := rfl
@[simp] theorem State.addObj_posts (s : State) (k w n : Nat) : (s.addObj k w n).posts = s.posts := rfl
@[simp] theorem State.addObj_flights (s : State) (k w n : Nat) : (s.addObj k w n).flights = s.flights := rfl
@[simp] theorem State.addObj_nextId (s : State) (k w n : Nat) : (s.addObj k w n).nextId = s.nextId := rfl
@[simp] theorem State.addObj_turns (s : State) (k w n : Nat) : (s.addObj k w n).turns = s.turns := rfl
@[simp] theorem State.addObj_work (s : State) (k w n : Nat) : (s.addObj k w n).work = s.work := rfl
@[simp] theorem State.addObj_ctxs (s : State) (k w n : Nat) : (s.addObj k w n).ctxs = s.ctxs := rfl
@[simp] theorem State.addObj_descs (s : State) (k w n : Nat) : (s.addObj k w n).descs = s.descs := rfl
@[simp] theorem State.addObj_allocs (s : State) (k w n : Nat) : (s.addObj k w n).allocs = s.allocs := rfl
@[simp] theorem State.addObj_tmap (s : State) (k w n : Nat) : (s.addObj k w n).tmap = s.tmap := rfl
@[simp] theorem State.addObj_frames (s : State) (k w n : Nat) : (s.addObj k w n).frames = s.frames := rfl
@[simp] theorem State.addObj_hostWins (s : State) (k w n : Nat) : (s.addObj k w n).hostWins = s.hostWins := rfl
@[simp] theorem State.addObj_landing (s : State) (k w n : Nat) : (s.addObj k w n).landing = s.landing := rfl
@[simp] theorem State.addObj_ddr (s : State) (k w n : Nat) : (s.addObj k w n).ddr = s.ddr := rfl
@[simp] theorem State.addObj_flash (s : State) (k w n : Nat) : (s.addObj k w n).flash = s.flash := rfl
@[simp] theorem State.addObj_host (s : State) (k w n : Nat) : (s.addObj k w n).host = s.host := rfl
@[simp] theorem State.addObj_ftl (s : State) (k w n : Nat) : (s.addObj k w n).ftl = s.ftl := rfl
@[simp] theorem State.addObj_faults (s : State) (k w n : Nat) : (s.addObj k w n).faults = s.faults := rfl
@[simp] theorem State.addObj_captures (s : State) (k w n : Nat) : (s.addObj k w n).captures = s.captures := rfl
@[simp] theorem State.addObj_scaler (s : State) (k w n : Nat) : (s.addObj k w n).scaler = s.scaler := rfl
@[simp] theorem State.addObj_scalerC (s : State) (k w n : Nat) : (s.addObj k w n).scalerC = s.scalerC := rfl
@[simp] theorem State.addObj_scalerQ (s : State) (k w n : Nat) : (s.addObj k w n).scalerQ = s.scalerQ := rfl
@[simp] theorem State.addObj_msixOpen (s : State) (k w n : Nat) : (s.addObj k w n).msixOpen = s.msixOpen := rfl
@[simp] theorem State.addObj_msixPend (s : State) (k w n : Nat) : (s.addObj k w n).msixPend = s.msixPend := rfl
@[simp] theorem State.addObj_env (s : State) (k w n : Nat) : (s.addObj k w n).env = s.env := rfl
@[simp] theorem State.addObj_isolated (s : State) (k w n : Nat) : (s.addObj k w n).isolated = s.isolated := rfl
@[simp] theorem State.addObj_downUnits (s : State) (k w n : Nat) : (s.addObj k w n).downUnits = s.downUnits := rfl
@[simp] theorem State.addObj_links (s : State) (k w n : Nat) : (s.addObj k w n).links = s.links := rfl
@[simp] theorem State.addObj_colls (s : State) (k w n : Nat) : (s.addObj k w n).colls = s.colls := rfl
@[simp] theorem State.addObj_members (s : State) (k w n : Nat) : (s.addObj k w n).members = s.members := rfl
@[simp] theorem State.addObj_beatTurn (s : State) (k w n : Nat) : (s.addObj k w n).beatTurn = s.beatTurn := rfl
@[simp] theorem State.addObj_slots (s : State) (k w n : Nat) : (s.addObj k w n).slots = s.slots := rfl
@[simp] theorem State.addObj_ustreams (s : State) (k w n : Nat) : (s.addObj k w n).ustreams = s.ustreams := rfl
@[simp] theorem State.addObj_portQ (s : State) (k w n : Nat) : (s.addObj k w n).portQ = s.portQ := rfl
@[simp] theorem State.addObj_rxBuf (s : State) (k w n : Nat) : (s.addObj k w n).rxBuf = s.rxBuf := rfl
@[simp] theorem State.addObj_stepPin (s : State) (k w n : Nat) : (s.addObj k w n).stepPin = s.stepPin := rfl
@[simp] theorem State.addObj_commits (s : State) (k w n : Nat) : (s.addObj k w n).commits = s.commits := rfl
@[simp] theorem State.addObj_reqs (s : State) (k w n : Nat) : (s.addObj k w n).reqs = s.reqs := rfl
@[simp] theorem State.addObj_tierQ (s : State) (k w n : Nat) : (s.addObj k w n).tierQ = s.tierQ := rfl
@[simp] theorem State.addObj_serving (s : State) (k w n : Nat) : (s.addObj k w n).serving = s.serving := rfl
@[simp] theorem State.addObj_dumps (s : State) (k w n : Nat) : (s.addObj k w n).dumps = s.dumps := rfl
@[simp] theorem State.addObj_snag (s : State) (k w n : Nat) : (s.addObj k w n).snag = s.snag := rfl
@[simp] theorem State.addObj_firmware (s : State) (k w n : Nat) : (s.addObj k w n).firmware = s.firmware := rfl
@[simp] theorem State.addObj_boot (s : State) (k w n : Nat) : (s.addObj k w n).boot = s.boot := rfl
@[simp] theorem State.addObj_power (s : State) (k w n : Nat) : (s.addObj k w n).power = s.power := rfl
@[simp] theorem State.addObj_segs (s : State) (k w n : Nat) : (s.addObj k w n).segs = s.segs := rfl
@[simp] theorem State.addObj_sess (s : State) (k w n : Nat) : (s.addObj k w n).sess = s.sess := rfl
@[simp] theorem State.addObj_bdpQ (s : State) (k w n : Nat) : (s.addObj k w n).bdpQ = s.bdpQ := rfl
@[simp] theorem State.addObj_notified (s : State) (k w n : Nat) : (s.addObj k w n).notified = s.notified := rfl
@[simp] theorem State.addObj_d3hot (s : State) (k w n : Nat) : (s.addObj k w n).d3hot = s.d3hot := rfl
@[simp] theorem State.addObj_stepRun (s : State) (k w n : Nat) : (s.addObj k w n).stepRun = s.stepRun := rfl
@[simp] theorem State.addObj_snaps (s : State) (k w n : Nat) : (s.addObj k w n).snaps = s.snaps := rfl
@[simp] theorem State.addObj_seqNo (s : State) (k w n : Nat) : (s.addObj k w n).seqNo = s.seqNo := rfl
@[simp] theorem State.addObj_free (s : State) (k w n : Nat) : (s.addObj k w n).free = s.free := rfl
@[simp] theorem State.addObj_out (s : State) (k w n : Nat) : (s.addObj k w n).out = s.out := rfl
@[simp] theorem State.addObj_pending (s : State) (k w n : Nat) : (s.addObj k w n).pending = s.pending := rfl

@[simp] theorem State.setPobj_objs (s : State) (p k v : Nat) : (s.setPobj p k v).objs = s.objs := rfl
@[simp] theorem State.setPobj_cores (s : State) (p k v : Nat) : (s.setPobj p k v).cores = s.cores := rfl
@[simp] theorem State.setPobj_streams (s : State) (p k v : Nat) : (s.setPobj p k v).streams = s.streams := rfl
@[simp] theorem State.setPobj_tok (s : State) (p k v : Nat) : (s.setPobj p k v).tok = s.tok := rfl
@[simp] theorem State.setPobj_acq (s : State) (p k v : Nat) : (s.setPobj p k v).acq = s.acq := rfl
@[simp] theorem State.setPobj_cred (s : State) (p k v : Nat) : (s.setPobj p k v).cred = s.cred := rfl
@[simp] theorem State.setPobj_posts (s : State) (p k v : Nat) : (s.setPobj p k v).posts = s.posts := rfl
@[simp] theorem State.setPobj_flights (s : State) (p k v : Nat) : (s.setPobj p k v).flights = s.flights := rfl
@[simp] theorem State.setPobj_nextId (s : State) (p k v : Nat) : (s.setPobj p k v).nextId = s.nextId := rfl
@[simp] theorem State.setPobj_turns (s : State) (p k v : Nat) : (s.setPobj p k v).turns = s.turns := rfl
@[simp] theorem State.setPobj_work (s : State) (p k v : Nat) : (s.setPobj p k v).work = s.work := rfl
@[simp] theorem State.setPobj_ctxs (s : State) (p k v : Nat) : (s.setPobj p k v).ctxs = s.ctxs := rfl
@[simp] theorem State.setPobj_descs (s : State) (p k v : Nat) : (s.setPobj p k v).descs = s.descs := rfl
@[simp] theorem State.setPobj_allocs (s : State) (p k v : Nat) : (s.setPobj p k v).allocs = s.allocs := rfl
@[simp] theorem State.setPobj_tmap (s : State) (p k v : Nat) : (s.setPobj p k v).tmap = s.tmap := rfl
@[simp] theorem State.setPobj_frames (s : State) (p k v : Nat) : (s.setPobj p k v).frames = s.frames := rfl
@[simp] theorem State.setPobj_hostWins (s : State) (p k v : Nat) : (s.setPobj p k v).hostWins = s.hostWins := rfl
@[simp] theorem State.setPobj_landing (s : State) (p k v : Nat) : (s.setPobj p k v).landing = s.landing := rfl
@[simp] theorem State.setPobj_ddr (s : State) (p k v : Nat) : (s.setPobj p k v).ddr = s.ddr := rfl
@[simp] theorem State.setPobj_flash (s : State) (p k v : Nat) : (s.setPobj p k v).flash = s.flash := rfl
@[simp] theorem State.setPobj_host (s : State) (p k v : Nat) : (s.setPobj p k v).host = s.host := rfl
@[simp] theorem State.setPobj_ftl (s : State) (p k v : Nat) : (s.setPobj p k v).ftl = s.ftl := rfl
@[simp] theorem State.setPobj_faults (s : State) (p k v : Nat) : (s.setPobj p k v).faults = s.faults := rfl
@[simp] theorem State.setPobj_captures (s : State) (p k v : Nat) : (s.setPobj p k v).captures = s.captures := rfl
@[simp] theorem State.setPobj_scaler (s : State) (p k v : Nat) : (s.setPobj p k v).scaler = s.scaler := rfl
@[simp] theorem State.setPobj_scalerC (s : State) (p k v : Nat) : (s.setPobj p k v).scalerC = s.scalerC := rfl
@[simp] theorem State.setPobj_scalerQ (s : State) (p k v : Nat) : (s.setPobj p k v).scalerQ = s.scalerQ := rfl
@[simp] theorem State.setPobj_msixOpen (s : State) (p k v : Nat) : (s.setPobj p k v).msixOpen = s.msixOpen := rfl
@[simp] theorem State.setPobj_msixPend (s : State) (p k v : Nat) : (s.setPobj p k v).msixPend = s.msixPend := rfl
@[simp] theorem State.setPobj_env (s : State) (p k v : Nat) : (s.setPobj p k v).env = s.env := rfl
@[simp] theorem State.setPobj_isolated (s : State) (p k v : Nat) : (s.setPobj p k v).isolated = s.isolated := rfl
@[simp] theorem State.setPobj_downUnits (s : State) (p k v : Nat) : (s.setPobj p k v).downUnits = s.downUnits := rfl
@[simp] theorem State.setPobj_links (s : State) (p k v : Nat) : (s.setPobj p k v).links = s.links := rfl
@[simp] theorem State.setPobj_colls (s : State) (p k v : Nat) : (s.setPobj p k v).colls = s.colls := rfl
@[simp] theorem State.setPobj_members (s : State) (p k v : Nat) : (s.setPobj p k v).members = s.members := rfl
@[simp] theorem State.setPobj_beatTurn (s : State) (p k v : Nat) : (s.setPobj p k v).beatTurn = s.beatTurn := rfl
@[simp] theorem State.setPobj_slots (s : State) (p k v : Nat) : (s.setPobj p k v).slots = s.slots := rfl
@[simp] theorem State.setPobj_ustreams (s : State) (p k v : Nat) : (s.setPobj p k v).ustreams = s.ustreams := rfl
@[simp] theorem State.setPobj_portQ (s : State) (p k v : Nat) : (s.setPobj p k v).portQ = s.portQ := rfl
@[simp] theorem State.setPobj_rxBuf (s : State) (p k v : Nat) : (s.setPobj p k v).rxBuf = s.rxBuf := rfl
@[simp] theorem State.setPobj_stepPin (s : State) (p k v : Nat) : (s.setPobj p k v).stepPin = s.stepPin := rfl
@[simp] theorem State.setPobj_commits (s : State) (p k v : Nat) : (s.setPobj p k v).commits = s.commits := rfl
@[simp] theorem State.setPobj_reqs (s : State) (p k v : Nat) : (s.setPobj p k v).reqs = s.reqs := rfl
@[simp] theorem State.setPobj_tierQ (s : State) (p k v : Nat) : (s.setPobj p k v).tierQ = s.tierQ := rfl
@[simp] theorem State.setPobj_serving (s : State) (p k v : Nat) : (s.setPobj p k v).serving = s.serving := rfl
@[simp] theorem State.setPobj_dumps (s : State) (p k v : Nat) : (s.setPobj p k v).dumps = s.dumps := rfl
@[simp] theorem State.setPobj_snag (s : State) (p k v : Nat) : (s.setPobj p k v).snag = s.snag := rfl
@[simp] theorem State.setPobj_firmware (s : State) (p k v : Nat) : (s.setPobj p k v).firmware = s.firmware := rfl
@[simp] theorem State.setPobj_boot (s : State) (p k v : Nat) : (s.setPobj p k v).boot = s.boot := rfl
@[simp] theorem State.setPobj_power (s : State) (p k v : Nat) : (s.setPobj p k v).power = s.power := rfl
@[simp] theorem State.setPobj_segs (s : State) (p k v : Nat) : (s.setPobj p k v).segs = s.segs := rfl
@[simp] theorem State.setPobj_sess (s : State) (p k v : Nat) : (s.setPobj p k v).sess = s.sess := rfl
@[simp] theorem State.setPobj_bdpQ (s : State) (p k v : Nat) : (s.setPobj p k v).bdpQ = s.bdpQ := rfl
@[simp] theorem State.setPobj_notified (s : State) (p k v : Nat) : (s.setPobj p k v).notified = s.notified := rfl
@[simp] theorem State.setPobj_d3hot (s : State) (p k v : Nat) : (s.setPobj p k v).d3hot = s.d3hot := rfl
@[simp] theorem State.setPobj_stepRun (s : State) (p k v : Nat) : (s.setPobj p k v).stepRun = s.stepRun := rfl
@[simp] theorem State.setPobj_snaps (s : State) (p k v : Nat) : (s.setPobj p k v).snaps = s.snaps := rfl
@[simp] theorem State.setPobj_seqNo (s : State) (p k v : Nat) : (s.setPobj p k v).seqNo = s.seqNo := rfl
@[simp] theorem State.setPobj_free (s : State) (p k v : Nat) : (s.setPobj p k v).free = s.free := rfl
@[simp] theorem State.setPobj_out (s : State) (p k v : Nat) : (s.setPobj p k v).out = s.out := rfl
@[simp] theorem State.setPobj_pending (s : State) (p k v : Nat) : (s.setPobj p k v).pending = s.pending := rfl

@[simp] theorem State.updCtx_objs (s : State) (i : Nat) (f : Ctx → Ctx) : (s.updCtx i f).objs = s.objs := rfl
@[simp] theorem State.updCtx_pobjs (s : State) (i : Nat) (f : Ctx → Ctx) : (s.updCtx i f).pobjs = s.pobjs := rfl
@[simp] theorem State.updCtx_cores (s : State) (i : Nat) (f : Ctx → Ctx) : (s.updCtx i f).cores = s.cores := rfl
@[simp] theorem State.updCtx_streams (s : State) (i : Nat) (f : Ctx → Ctx) : (s.updCtx i f).streams = s.streams := rfl
@[simp] theorem State.updCtx_tok (s : State) (i : Nat) (f : Ctx → Ctx) : (s.updCtx i f).tok = s.tok := rfl
@[simp] theorem State.updCtx_acq (s : State) (i : Nat) (f : Ctx → Ctx) : (s.updCtx i f).acq = s.acq := rfl
@[simp] theorem State.updCtx_cred (s : State) (i : Nat) (f : Ctx → Ctx) : (s.updCtx i f).cred = s.cred := rfl
@[simp] theorem State.updCtx_posts (s : State) (i : Nat) (f : Ctx → Ctx) : (s.updCtx i f).posts = s.posts := rfl
@[simp] theorem State.updCtx_flights (s : State) (i : Nat) (f : Ctx → Ctx) : (s.updCtx i f).flights = s.flights := rfl
@[simp] theorem State.updCtx_nextId (s : State) (i : Nat) (f : Ctx → Ctx) : (s.updCtx i f).nextId = s.nextId := rfl
@[simp] theorem State.updCtx_turns (s : State) (i : Nat) (f : Ctx → Ctx) : (s.updCtx i f).turns = s.turns := rfl
@[simp] theorem State.updCtx_work (s : State) (i : Nat) (f : Ctx → Ctx) : (s.updCtx i f).work = s.work := rfl
@[simp] theorem State.updCtx_descs (s : State) (i : Nat) (f : Ctx → Ctx) : (s.updCtx i f).descs = s.descs := rfl
@[simp] theorem State.updCtx_allocs (s : State) (i : Nat) (f : Ctx → Ctx) : (s.updCtx i f).allocs = s.allocs := rfl
@[simp] theorem State.updCtx_tmap (s : State) (i : Nat) (f : Ctx → Ctx) : (s.updCtx i f).tmap = s.tmap := rfl
@[simp] theorem State.updCtx_frames (s : State) (i : Nat) (f : Ctx → Ctx) : (s.updCtx i f).frames = s.frames := rfl
@[simp] theorem State.updCtx_hostWins (s : State) (i : Nat) (f : Ctx → Ctx) : (s.updCtx i f).hostWins = s.hostWins := rfl
@[simp] theorem State.updCtx_landing (s : State) (i : Nat) (f : Ctx → Ctx) : (s.updCtx i f).landing = s.landing := rfl
@[simp] theorem State.updCtx_ddr (s : State) (i : Nat) (f : Ctx → Ctx) : (s.updCtx i f).ddr = s.ddr := rfl
@[simp] theorem State.updCtx_flash (s : State) (i : Nat) (f : Ctx → Ctx) : (s.updCtx i f).flash = s.flash := rfl
@[simp] theorem State.updCtx_host (s : State) (i : Nat) (f : Ctx → Ctx) : (s.updCtx i f).host = s.host := rfl
@[simp] theorem State.updCtx_ftl (s : State) (i : Nat) (f : Ctx → Ctx) : (s.updCtx i f).ftl = s.ftl := rfl
@[simp] theorem State.updCtx_faults (s : State) (i : Nat) (f : Ctx → Ctx) : (s.updCtx i f).faults = s.faults := rfl
@[simp] theorem State.updCtx_captures (s : State) (i : Nat) (f : Ctx → Ctx) : (s.updCtx i f).captures = s.captures := rfl
@[simp] theorem State.updCtx_scaler (s : State) (i : Nat) (f : Ctx → Ctx) : (s.updCtx i f).scaler = s.scaler := rfl
@[simp] theorem State.updCtx_scalerC (s : State) (i : Nat) (f : Ctx → Ctx) : (s.updCtx i f).scalerC = s.scalerC := rfl
@[simp] theorem State.updCtx_scalerQ (s : State) (i : Nat) (f : Ctx → Ctx) : (s.updCtx i f).scalerQ = s.scalerQ := rfl
@[simp] theorem State.updCtx_msixOpen (s : State) (i : Nat) (f : Ctx → Ctx) : (s.updCtx i f).msixOpen = s.msixOpen := rfl
@[simp] theorem State.updCtx_msixPend (s : State) (i : Nat) (f : Ctx → Ctx) : (s.updCtx i f).msixPend = s.msixPend := rfl
@[simp] theorem State.updCtx_env (s : State) (i : Nat) (f : Ctx → Ctx) : (s.updCtx i f).env = s.env := rfl
@[simp] theorem State.updCtx_isolated (s : State) (i : Nat) (f : Ctx → Ctx) : (s.updCtx i f).isolated = s.isolated := rfl
@[simp] theorem State.updCtx_downUnits (s : State) (i : Nat) (f : Ctx → Ctx) : (s.updCtx i f).downUnits = s.downUnits := rfl
@[simp] theorem State.updCtx_links (s : State) (i : Nat) (f : Ctx → Ctx) : (s.updCtx i f).links = s.links := rfl
@[simp] theorem State.updCtx_colls (s : State) (i : Nat) (f : Ctx → Ctx) : (s.updCtx i f).colls = s.colls := rfl
@[simp] theorem State.updCtx_members (s : State) (i : Nat) (f : Ctx → Ctx) : (s.updCtx i f).members = s.members := rfl
@[simp] theorem State.updCtx_beatTurn (s : State) (i : Nat) (f : Ctx → Ctx) : (s.updCtx i f).beatTurn = s.beatTurn := rfl
@[simp] theorem State.updCtx_slots (s : State) (i : Nat) (f : Ctx → Ctx) : (s.updCtx i f).slots = s.slots := rfl
@[simp] theorem State.updCtx_ustreams (s : State) (i : Nat) (f : Ctx → Ctx) : (s.updCtx i f).ustreams = s.ustreams := rfl
@[simp] theorem State.updCtx_portQ (s : State) (i : Nat) (f : Ctx → Ctx) : (s.updCtx i f).portQ = s.portQ := rfl
@[simp] theorem State.updCtx_rxBuf (s : State) (i : Nat) (f : Ctx → Ctx) : (s.updCtx i f).rxBuf = s.rxBuf := rfl
@[simp] theorem State.updCtx_stepPin (s : State) (i : Nat) (f : Ctx → Ctx) : (s.updCtx i f).stepPin = s.stepPin := rfl
@[simp] theorem State.updCtx_commits (s : State) (i : Nat) (f : Ctx → Ctx) : (s.updCtx i f).commits = s.commits := rfl
@[simp] theorem State.updCtx_reqs (s : State) (i : Nat) (f : Ctx → Ctx) : (s.updCtx i f).reqs = s.reqs := rfl
@[simp] theorem State.updCtx_tierQ (s : State) (i : Nat) (f : Ctx → Ctx) : (s.updCtx i f).tierQ = s.tierQ := rfl
@[simp] theorem State.updCtx_serving (s : State) (i : Nat) (f : Ctx → Ctx) : (s.updCtx i f).serving = s.serving := rfl
@[simp] theorem State.updCtx_dumps (s : State) (i : Nat) (f : Ctx → Ctx) : (s.updCtx i f).dumps = s.dumps := rfl
@[simp] theorem State.updCtx_snag (s : State) (i : Nat) (f : Ctx → Ctx) : (s.updCtx i f).snag = s.snag := rfl
@[simp] theorem State.updCtx_firmware (s : State) (i : Nat) (f : Ctx → Ctx) : (s.updCtx i f).firmware = s.firmware := rfl
@[simp] theorem State.updCtx_boot (s : State) (i : Nat) (f : Ctx → Ctx) : (s.updCtx i f).boot = s.boot := rfl
@[simp] theorem State.updCtx_power (s : State) (i : Nat) (f : Ctx → Ctx) : (s.updCtx i f).power = s.power := rfl
@[simp] theorem State.updCtx_segs (s : State) (i : Nat) (f : Ctx → Ctx) : (s.updCtx i f).segs = s.segs := rfl
@[simp] theorem State.updCtx_sess (s : State) (i : Nat) (f : Ctx → Ctx) : (s.updCtx i f).sess = s.sess := rfl
@[simp] theorem State.updCtx_bdpQ (s : State) (i : Nat) (f : Ctx → Ctx) : (s.updCtx i f).bdpQ = s.bdpQ := rfl
@[simp] theorem State.updCtx_notified (s : State) (i : Nat) (f : Ctx → Ctx) : (s.updCtx i f).notified = s.notified := rfl
@[simp] theorem State.updCtx_d3hot (s : State) (i : Nat) (f : Ctx → Ctx) : (s.updCtx i f).d3hot = s.d3hot := rfl
@[simp] theorem State.updCtx_stepRun (s : State) (i : Nat) (f : Ctx → Ctx) : (s.updCtx i f).stepRun = s.stepRun := rfl
@[simp] theorem State.updCtx_snaps (s : State) (i : Nat) (f : Ctx → Ctx) : (s.updCtx i f).snaps = s.snaps := rfl
@[simp] theorem State.updCtx_seqNo (s : State) (i : Nat) (f : Ctx → Ctx) : (s.updCtx i f).seqNo = s.seqNo := rfl
@[simp] theorem State.updCtx_free (s : State) (i : Nat) (f : Ctx → Ctx) : (s.updCtx i f).free = s.free := rfl
@[simp] theorem State.updCtx_out (s : State) (i : Nat) (f : Ctx → Ctx) : (s.updCtx i f).out = s.out := rfl
@[simp] theorem State.updCtx_pending (s : State) (i : Nat) (f : Ctx → Ctx) : (s.updCtx i f).pending = s.pending := rfl

@[simp] theorem State.updCore_objs (s : State) (n : Nat) (f : Core → Core) : (s.updCore n f).objs = s.objs := rfl
@[simp] theorem State.updCore_pobjs (s : State) (n : Nat) (f : Core → Core) : (s.updCore n f).pobjs = s.pobjs := rfl
@[simp] theorem State.updCore_streams (s : State) (n : Nat) (f : Core → Core) : (s.updCore n f).streams = s.streams := rfl
@[simp] theorem State.updCore_tok (s : State) (n : Nat) (f : Core → Core) : (s.updCore n f).tok = s.tok := rfl
@[simp] theorem State.updCore_acq (s : State) (n : Nat) (f : Core → Core) : (s.updCore n f).acq = s.acq := rfl
@[simp] theorem State.updCore_cred (s : State) (n : Nat) (f : Core → Core) : (s.updCore n f).cred = s.cred := rfl
@[simp] theorem State.updCore_posts (s : State) (n : Nat) (f : Core → Core) : (s.updCore n f).posts = s.posts := rfl
@[simp] theorem State.updCore_flights (s : State) (n : Nat) (f : Core → Core) : (s.updCore n f).flights = s.flights := rfl
@[simp] theorem State.updCore_nextId (s : State) (n : Nat) (f : Core → Core) : (s.updCore n f).nextId = s.nextId := rfl
@[simp] theorem State.updCore_turns (s : State) (n : Nat) (f : Core → Core) : (s.updCore n f).turns = s.turns := rfl
@[simp] theorem State.updCore_work (s : State) (n : Nat) (f : Core → Core) : (s.updCore n f).work = s.work := rfl
@[simp] theorem State.updCore_ctxs (s : State) (n : Nat) (f : Core → Core) : (s.updCore n f).ctxs = s.ctxs := rfl
@[simp] theorem State.updCore_descs (s : State) (n : Nat) (f : Core → Core) : (s.updCore n f).descs = s.descs := rfl
@[simp] theorem State.updCore_allocs (s : State) (n : Nat) (f : Core → Core) : (s.updCore n f).allocs = s.allocs := rfl
@[simp] theorem State.updCore_tmap (s : State) (n : Nat) (f : Core → Core) : (s.updCore n f).tmap = s.tmap := rfl
@[simp] theorem State.updCore_frames (s : State) (n : Nat) (f : Core → Core) : (s.updCore n f).frames = s.frames := rfl
@[simp] theorem State.updCore_hostWins (s : State) (n : Nat) (f : Core → Core) : (s.updCore n f).hostWins = s.hostWins := rfl
@[simp] theorem State.updCore_landing (s : State) (n : Nat) (f : Core → Core) : (s.updCore n f).landing = s.landing := rfl
@[simp] theorem State.updCore_ddr (s : State) (n : Nat) (f : Core → Core) : (s.updCore n f).ddr = s.ddr := rfl
@[simp] theorem State.updCore_flash (s : State) (n : Nat) (f : Core → Core) : (s.updCore n f).flash = s.flash := rfl
@[simp] theorem State.updCore_host (s : State) (n : Nat) (f : Core → Core) : (s.updCore n f).host = s.host := rfl
@[simp] theorem State.updCore_ftl (s : State) (n : Nat) (f : Core → Core) : (s.updCore n f).ftl = s.ftl := rfl
@[simp] theorem State.updCore_faults (s : State) (n : Nat) (f : Core → Core) : (s.updCore n f).faults = s.faults := rfl
@[simp] theorem State.updCore_captures (s : State) (n : Nat) (f : Core → Core) : (s.updCore n f).captures = s.captures := rfl
@[simp] theorem State.updCore_scaler (s : State) (n : Nat) (f : Core → Core) : (s.updCore n f).scaler = s.scaler := rfl
@[simp] theorem State.updCore_scalerC (s : State) (n : Nat) (f : Core → Core) : (s.updCore n f).scalerC = s.scalerC := rfl
@[simp] theorem State.updCore_scalerQ (s : State) (n : Nat) (f : Core → Core) : (s.updCore n f).scalerQ = s.scalerQ := rfl
@[simp] theorem State.updCore_msixOpen (s : State) (n : Nat) (f : Core → Core) : (s.updCore n f).msixOpen = s.msixOpen := rfl
@[simp] theorem State.updCore_msixPend (s : State) (n : Nat) (f : Core → Core) : (s.updCore n f).msixPend = s.msixPend := rfl
@[simp] theorem State.updCore_env (s : State) (n : Nat) (f : Core → Core) : (s.updCore n f).env = s.env := rfl
@[simp] theorem State.updCore_isolated (s : State) (n : Nat) (f : Core → Core) : (s.updCore n f).isolated = s.isolated := rfl
@[simp] theorem State.updCore_downUnits (s : State) (n : Nat) (f : Core → Core) : (s.updCore n f).downUnits = s.downUnits := rfl
@[simp] theorem State.updCore_links (s : State) (n : Nat) (f : Core → Core) : (s.updCore n f).links = s.links := rfl
@[simp] theorem State.updCore_colls (s : State) (n : Nat) (f : Core → Core) : (s.updCore n f).colls = s.colls := rfl
@[simp] theorem State.updCore_members (s : State) (n : Nat) (f : Core → Core) : (s.updCore n f).members = s.members := rfl
@[simp] theorem State.updCore_beatTurn (s : State) (n : Nat) (f : Core → Core) : (s.updCore n f).beatTurn = s.beatTurn := rfl
@[simp] theorem State.updCore_slots (s : State) (n : Nat) (f : Core → Core) : (s.updCore n f).slots = s.slots := rfl
@[simp] theorem State.updCore_ustreams (s : State) (n : Nat) (f : Core → Core) : (s.updCore n f).ustreams = s.ustreams := rfl
@[simp] theorem State.updCore_portQ (s : State) (n : Nat) (f : Core → Core) : (s.updCore n f).portQ = s.portQ := rfl
@[simp] theorem State.updCore_rxBuf (s : State) (n : Nat) (f : Core → Core) : (s.updCore n f).rxBuf = s.rxBuf := rfl
@[simp] theorem State.updCore_stepPin (s : State) (n : Nat) (f : Core → Core) : (s.updCore n f).stepPin = s.stepPin := rfl
@[simp] theorem State.updCore_commits (s : State) (n : Nat) (f : Core → Core) : (s.updCore n f).commits = s.commits := rfl
@[simp] theorem State.updCore_reqs (s : State) (n : Nat) (f : Core → Core) : (s.updCore n f).reqs = s.reqs := rfl
@[simp] theorem State.updCore_tierQ (s : State) (n : Nat) (f : Core → Core) : (s.updCore n f).tierQ = s.tierQ := rfl
@[simp] theorem State.updCore_serving (s : State) (n : Nat) (f : Core → Core) : (s.updCore n f).serving = s.serving := rfl
@[simp] theorem State.updCore_dumps (s : State) (n : Nat) (f : Core → Core) : (s.updCore n f).dumps = s.dumps := rfl
@[simp] theorem State.updCore_snag (s : State) (n : Nat) (f : Core → Core) : (s.updCore n f).snag = s.snag := rfl
@[simp] theorem State.updCore_firmware (s : State) (n : Nat) (f : Core → Core) : (s.updCore n f).firmware = s.firmware := rfl
@[simp] theorem State.updCore_boot (s : State) (n : Nat) (f : Core → Core) : (s.updCore n f).boot = s.boot := rfl
@[simp] theorem State.updCore_power (s : State) (n : Nat) (f : Core → Core) : (s.updCore n f).power = s.power := rfl
@[simp] theorem State.updCore_segs (s : State) (n : Nat) (f : Core → Core) : (s.updCore n f).segs = s.segs := rfl
@[simp] theorem State.updCore_sess (s : State) (n : Nat) (f : Core → Core) : (s.updCore n f).sess = s.sess := rfl
@[simp] theorem State.updCore_bdpQ (s : State) (n : Nat) (f : Core → Core) : (s.updCore n f).bdpQ = s.bdpQ := rfl
@[simp] theorem State.updCore_notified (s : State) (n : Nat) (f : Core → Core) : (s.updCore n f).notified = s.notified := rfl
@[simp] theorem State.updCore_d3hot (s : State) (n : Nat) (f : Core → Core) : (s.updCore n f).d3hot = s.d3hot := rfl
@[simp] theorem State.updCore_stepRun (s : State) (n : Nat) (f : Core → Core) : (s.updCore n f).stepRun = s.stepRun := rfl
@[simp] theorem State.updCore_snaps (s : State) (n : Nat) (f : Core → Core) : (s.updCore n f).snaps = s.snaps := rfl
@[simp] theorem State.updCore_seqNo (s : State) (n : Nat) (f : Core → Core) : (s.updCore n f).seqNo = s.seqNo := rfl
@[simp] theorem State.updCore_free (s : State) (n : Nat) (f : Core → Core) : (s.updCore n f).free = s.free := rfl
@[simp] theorem State.updCore_out (s : State) (n : Nat) (f : Core → Core) : (s.updCore n f).out = s.out := rfl
@[simp] theorem State.updCore_pending (s : State) (n : Nat) (f : Core → Core) : (s.updCore n f).pending = s.pending := rfl

@[simp] theorem State.updData_objs (s : State) (n : Nat) (f : CoreData → CoreData) : (s.updData n f).objs = s.objs := rfl
@[simp] theorem State.updData_pobjs (s : State) (n : Nat) (f : CoreData → CoreData) : (s.updData n f).pobjs = s.pobjs := rfl
@[simp] theorem State.updData_streams (s : State) (n : Nat) (f : CoreData → CoreData) : (s.updData n f).streams = s.streams := rfl
@[simp] theorem State.updData_tok (s : State) (n : Nat) (f : CoreData → CoreData) : (s.updData n f).tok = s.tok := rfl
@[simp] theorem State.updData_acq (s : State) (n : Nat) (f : CoreData → CoreData) : (s.updData n f).acq = s.acq := rfl
@[simp] theorem State.updData_cred (s : State) (n : Nat) (f : CoreData → CoreData) : (s.updData n f).cred = s.cred := rfl
@[simp] theorem State.updData_posts (s : State) (n : Nat) (f : CoreData → CoreData) : (s.updData n f).posts = s.posts := rfl
@[simp] theorem State.updData_flights (s : State) (n : Nat) (f : CoreData → CoreData) : (s.updData n f).flights = s.flights := rfl
@[simp] theorem State.updData_nextId (s : State) (n : Nat) (f : CoreData → CoreData) : (s.updData n f).nextId = s.nextId := rfl
@[simp] theorem State.updData_turns (s : State) (n : Nat) (f : CoreData → CoreData) : (s.updData n f).turns = s.turns := rfl
@[simp] theorem State.updData_work (s : State) (n : Nat) (f : CoreData → CoreData) : (s.updData n f).work = s.work := rfl
@[simp] theorem State.updData_ctxs (s : State) (n : Nat) (f : CoreData → CoreData) : (s.updData n f).ctxs = s.ctxs := rfl
@[simp] theorem State.updData_descs (s : State) (n : Nat) (f : CoreData → CoreData) : (s.updData n f).descs = s.descs := rfl
@[simp] theorem State.updData_allocs (s : State) (n : Nat) (f : CoreData → CoreData) : (s.updData n f).allocs = s.allocs := rfl
@[simp] theorem State.updData_tmap (s : State) (n : Nat) (f : CoreData → CoreData) : (s.updData n f).tmap = s.tmap := rfl
@[simp] theorem State.updData_frames (s : State) (n : Nat) (f : CoreData → CoreData) : (s.updData n f).frames = s.frames := rfl
@[simp] theorem State.updData_hostWins (s : State) (n : Nat) (f : CoreData → CoreData) : (s.updData n f).hostWins = s.hostWins := rfl
@[simp] theorem State.updData_landing (s : State) (n : Nat) (f : CoreData → CoreData) : (s.updData n f).landing = s.landing := rfl
@[simp] theorem State.updData_ddr (s : State) (n : Nat) (f : CoreData → CoreData) : (s.updData n f).ddr = s.ddr := rfl
@[simp] theorem State.updData_flash (s : State) (n : Nat) (f : CoreData → CoreData) : (s.updData n f).flash = s.flash := rfl
@[simp] theorem State.updData_host (s : State) (n : Nat) (f : CoreData → CoreData) : (s.updData n f).host = s.host := rfl
@[simp] theorem State.updData_ftl (s : State) (n : Nat) (f : CoreData → CoreData) : (s.updData n f).ftl = s.ftl := rfl
@[simp] theorem State.updData_faults (s : State) (n : Nat) (f : CoreData → CoreData) : (s.updData n f).faults = s.faults := rfl
@[simp] theorem State.updData_captures (s : State) (n : Nat) (f : CoreData → CoreData) : (s.updData n f).captures = s.captures := rfl
@[simp] theorem State.updData_scaler (s : State) (n : Nat) (f : CoreData → CoreData) : (s.updData n f).scaler = s.scaler := rfl
@[simp] theorem State.updData_scalerC (s : State) (n : Nat) (f : CoreData → CoreData) : (s.updData n f).scalerC = s.scalerC := rfl
@[simp] theorem State.updData_scalerQ (s : State) (n : Nat) (f : CoreData → CoreData) : (s.updData n f).scalerQ = s.scalerQ := rfl
@[simp] theorem State.updData_msixOpen (s : State) (n : Nat) (f : CoreData → CoreData) : (s.updData n f).msixOpen = s.msixOpen := rfl
@[simp] theorem State.updData_msixPend (s : State) (n : Nat) (f : CoreData → CoreData) : (s.updData n f).msixPend = s.msixPend := rfl
@[simp] theorem State.updData_env (s : State) (n : Nat) (f : CoreData → CoreData) : (s.updData n f).env = s.env := rfl
@[simp] theorem State.updData_isolated (s : State) (n : Nat) (f : CoreData → CoreData) : (s.updData n f).isolated = s.isolated := rfl
@[simp] theorem State.updData_downUnits (s : State) (n : Nat) (f : CoreData → CoreData) : (s.updData n f).downUnits = s.downUnits := rfl
@[simp] theorem State.updData_links (s : State) (n : Nat) (f : CoreData → CoreData) : (s.updData n f).links = s.links := rfl
@[simp] theorem State.updData_colls (s : State) (n : Nat) (f : CoreData → CoreData) : (s.updData n f).colls = s.colls := rfl
@[simp] theorem State.updData_members (s : State) (n : Nat) (f : CoreData → CoreData) : (s.updData n f).members = s.members := rfl
@[simp] theorem State.updData_beatTurn (s : State) (n : Nat) (f : CoreData → CoreData) : (s.updData n f).beatTurn = s.beatTurn := rfl
@[simp] theorem State.updData_slots (s : State) (n : Nat) (f : CoreData → CoreData) : (s.updData n f).slots = s.slots := rfl
@[simp] theorem State.updData_ustreams (s : State) (n : Nat) (f : CoreData → CoreData) : (s.updData n f).ustreams = s.ustreams := rfl
@[simp] theorem State.updData_portQ (s : State) (n : Nat) (f : CoreData → CoreData) : (s.updData n f).portQ = s.portQ := rfl
@[simp] theorem State.updData_rxBuf (s : State) (n : Nat) (f : CoreData → CoreData) : (s.updData n f).rxBuf = s.rxBuf := rfl
@[simp] theorem State.updData_stepPin (s : State) (n : Nat) (f : CoreData → CoreData) : (s.updData n f).stepPin = s.stepPin := rfl
@[simp] theorem State.updData_commits (s : State) (n : Nat) (f : CoreData → CoreData) : (s.updData n f).commits = s.commits := rfl
@[simp] theorem State.updData_reqs (s : State) (n : Nat) (f : CoreData → CoreData) : (s.updData n f).reqs = s.reqs := rfl
@[simp] theorem State.updData_tierQ (s : State) (n : Nat) (f : CoreData → CoreData) : (s.updData n f).tierQ = s.tierQ := rfl
@[simp] theorem State.updData_serving (s : State) (n : Nat) (f : CoreData → CoreData) : (s.updData n f).serving = s.serving := rfl
@[simp] theorem State.updData_dumps (s : State) (n : Nat) (f : CoreData → CoreData) : (s.updData n f).dumps = s.dumps := rfl
@[simp] theorem State.updData_snag (s : State) (n : Nat) (f : CoreData → CoreData) : (s.updData n f).snag = s.snag := rfl
@[simp] theorem State.updData_firmware (s : State) (n : Nat) (f : CoreData → CoreData) : (s.updData n f).firmware = s.firmware := rfl
@[simp] theorem State.updData_boot (s : State) (n : Nat) (f : CoreData → CoreData) : (s.updData n f).boot = s.boot := rfl
@[simp] theorem State.updData_power (s : State) (n : Nat) (f : CoreData → CoreData) : (s.updData n f).power = s.power := rfl
@[simp] theorem State.updData_segs (s : State) (n : Nat) (f : CoreData → CoreData) : (s.updData n f).segs = s.segs := rfl
@[simp] theorem State.updData_sess (s : State) (n : Nat) (f : CoreData → CoreData) : (s.updData n f).sess = s.sess := rfl
@[simp] theorem State.updData_bdpQ (s : State) (n : Nat) (f : CoreData → CoreData) : (s.updData n f).bdpQ = s.bdpQ := rfl
@[simp] theorem State.updData_notified (s : State) (n : Nat) (f : CoreData → CoreData) : (s.updData n f).notified = s.notified := rfl
@[simp] theorem State.updData_d3hot (s : State) (n : Nat) (f : CoreData → CoreData) : (s.updData n f).d3hot = s.d3hot := rfl
@[simp] theorem State.updData_stepRun (s : State) (n : Nat) (f : CoreData → CoreData) : (s.updData n f).stepRun = s.stepRun := rfl
@[simp] theorem State.updData_snaps (s : State) (n : Nat) (f : CoreData → CoreData) : (s.updData n f).snaps = s.snaps := rfl
@[simp] theorem State.updData_seqNo (s : State) (n : Nat) (f : CoreData → CoreData) : (s.updData n f).seqNo = s.seqNo := rfl
@[simp] theorem State.updData_free (s : State) (n : Nat) (f : CoreData → CoreData) : (s.updData n f).free = s.free := rfl
@[simp] theorem State.updData_out (s : State) (n : Nat) (f : CoreData → CoreData) : (s.updData n f).out = s.out := rfl
@[simp] theorem State.updData_pending (s : State) (n : Nat) (f : CoreData → CoreData) : (s.updData n f).pending = s.pending := rfl

@[simp] theorem State.updStream_objs (s : State) (c o : Nat) (f : Stream → Stream) : (s.updStream c o f).objs = s.objs := rfl
@[simp] theorem State.updStream_pobjs (s : State) (c o : Nat) (f : Stream → Stream) : (s.updStream c o f).pobjs = s.pobjs := rfl
@[simp] theorem State.updStream_cores (s : State) (c o : Nat) (f : Stream → Stream) : (s.updStream c o f).cores = s.cores := rfl
@[simp] theorem State.updStream_tok (s : State) (c o : Nat) (f : Stream → Stream) : (s.updStream c o f).tok = s.tok := rfl
@[simp] theorem State.updStream_acq (s : State) (c o : Nat) (f : Stream → Stream) : (s.updStream c o f).acq = s.acq := rfl
@[simp] theorem State.updStream_cred (s : State) (c o : Nat) (f : Stream → Stream) : (s.updStream c o f).cred = s.cred := rfl
@[simp] theorem State.updStream_posts (s : State) (c o : Nat) (f : Stream → Stream) : (s.updStream c o f).posts = s.posts := rfl
@[simp] theorem State.updStream_flights (s : State) (c o : Nat) (f : Stream → Stream) : (s.updStream c o f).flights = s.flights := rfl
@[simp] theorem State.updStream_nextId (s : State) (c o : Nat) (f : Stream → Stream) : (s.updStream c o f).nextId = s.nextId := rfl
@[simp] theorem State.updStream_turns (s : State) (c o : Nat) (f : Stream → Stream) : (s.updStream c o f).turns = s.turns := rfl
@[simp] theorem State.updStream_work (s : State) (c o : Nat) (f : Stream → Stream) : (s.updStream c o f).work = s.work := rfl
@[simp] theorem State.updStream_ctxs (s : State) (c o : Nat) (f : Stream → Stream) : (s.updStream c o f).ctxs = s.ctxs := rfl
@[simp] theorem State.updStream_descs (s : State) (c o : Nat) (f : Stream → Stream) : (s.updStream c o f).descs = s.descs := rfl
@[simp] theorem State.updStream_allocs (s : State) (c o : Nat) (f : Stream → Stream) : (s.updStream c o f).allocs = s.allocs := rfl
@[simp] theorem State.updStream_tmap (s : State) (c o : Nat) (f : Stream → Stream) : (s.updStream c o f).tmap = s.tmap := rfl
@[simp] theorem State.updStream_frames (s : State) (c o : Nat) (f : Stream → Stream) : (s.updStream c o f).frames = s.frames := rfl
@[simp] theorem State.updStream_hostWins (s : State) (c o : Nat) (f : Stream → Stream) : (s.updStream c o f).hostWins = s.hostWins := rfl
@[simp] theorem State.updStream_landing (s : State) (c o : Nat) (f : Stream → Stream) : (s.updStream c o f).landing = s.landing := rfl
@[simp] theorem State.updStream_ddr (s : State) (c o : Nat) (f : Stream → Stream) : (s.updStream c o f).ddr = s.ddr := rfl
@[simp] theorem State.updStream_flash (s : State) (c o : Nat) (f : Stream → Stream) : (s.updStream c o f).flash = s.flash := rfl
@[simp] theorem State.updStream_host (s : State) (c o : Nat) (f : Stream → Stream) : (s.updStream c o f).host = s.host := rfl
@[simp] theorem State.updStream_ftl (s : State) (c o : Nat) (f : Stream → Stream) : (s.updStream c o f).ftl = s.ftl := rfl
@[simp] theorem State.updStream_faults (s : State) (c o : Nat) (f : Stream → Stream) : (s.updStream c o f).faults = s.faults := rfl
@[simp] theorem State.updStream_captures (s : State) (c o : Nat) (f : Stream → Stream) : (s.updStream c o f).captures = s.captures := rfl
@[simp] theorem State.updStream_scaler (s : State) (c o : Nat) (f : Stream → Stream) : (s.updStream c o f).scaler = s.scaler := rfl
@[simp] theorem State.updStream_scalerC (s : State) (c o : Nat) (f : Stream → Stream) : (s.updStream c o f).scalerC = s.scalerC := rfl
@[simp] theorem State.updStream_scalerQ (s : State) (c o : Nat) (f : Stream → Stream) : (s.updStream c o f).scalerQ = s.scalerQ := rfl
@[simp] theorem State.updStream_msixOpen (s : State) (c o : Nat) (f : Stream → Stream) : (s.updStream c o f).msixOpen = s.msixOpen := rfl
@[simp] theorem State.updStream_msixPend (s : State) (c o : Nat) (f : Stream → Stream) : (s.updStream c o f).msixPend = s.msixPend := rfl
@[simp] theorem State.updStream_env (s : State) (c o : Nat) (f : Stream → Stream) : (s.updStream c o f).env = s.env := rfl
@[simp] theorem State.updStream_isolated (s : State) (c o : Nat) (f : Stream → Stream) : (s.updStream c o f).isolated = s.isolated := rfl
@[simp] theorem State.updStream_downUnits (s : State) (c o : Nat) (f : Stream → Stream) : (s.updStream c o f).downUnits = s.downUnits := rfl
@[simp] theorem State.updStream_links (s : State) (c o : Nat) (f : Stream → Stream) : (s.updStream c o f).links = s.links := rfl
@[simp] theorem State.updStream_colls (s : State) (c o : Nat) (f : Stream → Stream) : (s.updStream c o f).colls = s.colls := rfl
@[simp] theorem State.updStream_members (s : State) (c o : Nat) (f : Stream → Stream) : (s.updStream c o f).members = s.members := rfl
@[simp] theorem State.updStream_beatTurn (s : State) (c o : Nat) (f : Stream → Stream) : (s.updStream c o f).beatTurn = s.beatTurn := rfl
@[simp] theorem State.updStream_slots (s : State) (c o : Nat) (f : Stream → Stream) : (s.updStream c o f).slots = s.slots := rfl
@[simp] theorem State.updStream_ustreams (s : State) (c o : Nat) (f : Stream → Stream) : (s.updStream c o f).ustreams = s.ustreams := rfl
@[simp] theorem State.updStream_portQ (s : State) (c o : Nat) (f : Stream → Stream) : (s.updStream c o f).portQ = s.portQ := rfl
@[simp] theorem State.updStream_rxBuf (s : State) (c o : Nat) (f : Stream → Stream) : (s.updStream c o f).rxBuf = s.rxBuf := rfl
@[simp] theorem State.updStream_stepPin (s : State) (c o : Nat) (f : Stream → Stream) : (s.updStream c o f).stepPin = s.stepPin := rfl
@[simp] theorem State.updStream_commits (s : State) (c o : Nat) (f : Stream → Stream) : (s.updStream c o f).commits = s.commits := rfl
@[simp] theorem State.updStream_reqs (s : State) (c o : Nat) (f : Stream → Stream) : (s.updStream c o f).reqs = s.reqs := rfl
@[simp] theorem State.updStream_tierQ (s : State) (c o : Nat) (f : Stream → Stream) : (s.updStream c o f).tierQ = s.tierQ := rfl
@[simp] theorem State.updStream_serving (s : State) (c o : Nat) (f : Stream → Stream) : (s.updStream c o f).serving = s.serving := rfl
@[simp] theorem State.updStream_dumps (s : State) (c o : Nat) (f : Stream → Stream) : (s.updStream c o f).dumps = s.dumps := rfl
@[simp] theorem State.updStream_snag (s : State) (c o : Nat) (f : Stream → Stream) : (s.updStream c o f).snag = s.snag := rfl
@[simp] theorem State.updStream_firmware (s : State) (c o : Nat) (f : Stream → Stream) : (s.updStream c o f).firmware = s.firmware := rfl
@[simp] theorem State.updStream_boot (s : State) (c o : Nat) (f : Stream → Stream) : (s.updStream c o f).boot = s.boot := rfl
@[simp] theorem State.updStream_power (s : State) (c o : Nat) (f : Stream → Stream) : (s.updStream c o f).power = s.power := rfl
@[simp] theorem State.updStream_segs (s : State) (c o : Nat) (f : Stream → Stream) : (s.updStream c o f).segs = s.segs := rfl
@[simp] theorem State.updStream_sess (s : State) (c o : Nat) (f : Stream → Stream) : (s.updStream c o f).sess = s.sess := rfl
@[simp] theorem State.updStream_bdpQ (s : State) (c o : Nat) (f : Stream → Stream) : (s.updStream c o f).bdpQ = s.bdpQ := rfl
@[simp] theorem State.updStream_notified (s : State) (c o : Nat) (f : Stream → Stream) : (s.updStream c o f).notified = s.notified := rfl
@[simp] theorem State.updStream_d3hot (s : State) (c o : Nat) (f : Stream → Stream) : (s.updStream c o f).d3hot = s.d3hot := rfl
@[simp] theorem State.updStream_stepRun (s : State) (c o : Nat) (f : Stream → Stream) : (s.updStream c o f).stepRun = s.stepRun := rfl
@[simp] theorem State.updStream_snaps (s : State) (c o : Nat) (f : Stream → Stream) : (s.updStream c o f).snaps = s.snaps := rfl
@[simp] theorem State.updStream_seqNo (s : State) (c o : Nat) (f : Stream → Stream) : (s.updStream c o f).seqNo = s.seqNo := rfl
@[simp] theorem State.updStream_free (s : State) (c o : Nat) (f : Stream → Stream) : (s.updStream c o f).free = s.free := rfl
@[simp] theorem State.updStream_out (s : State) (c o : Nat) (f : Stream → Stream) : (s.updStream c o f).out = s.out := rfl
@[simp] theorem State.updStream_pending (s : State) (c o : Nat) (f : Stream → Stream) : (s.updStream c o f).pending = s.pending := rfl

@[simp] theorem State.updFlight_objs (s : State) (i : Nat) (f : Flight → Flight) : (s.updFlight i f).objs = s.objs := rfl
@[simp] theorem State.updFlight_pobjs (s : State) (i : Nat) (f : Flight → Flight) : (s.updFlight i f).pobjs = s.pobjs := rfl
@[simp] theorem State.updFlight_cores (s : State) (i : Nat) (f : Flight → Flight) : (s.updFlight i f).cores = s.cores := rfl
@[simp] theorem State.updFlight_streams (s : State) (i : Nat) (f : Flight → Flight) : (s.updFlight i f).streams = s.streams := rfl
@[simp] theorem State.updFlight_tok (s : State) (i : Nat) (f : Flight → Flight) : (s.updFlight i f).tok = s.tok := rfl
@[simp] theorem State.updFlight_acq (s : State) (i : Nat) (f : Flight → Flight) : (s.updFlight i f).acq = s.acq := rfl
@[simp] theorem State.updFlight_cred (s : State) (i : Nat) (f : Flight → Flight) : (s.updFlight i f).cred = s.cred := rfl
@[simp] theorem State.updFlight_posts (s : State) (i : Nat) (f : Flight → Flight) : (s.updFlight i f).posts = s.posts := rfl
@[simp] theorem State.updFlight_nextId (s : State) (i : Nat) (f : Flight → Flight) : (s.updFlight i f).nextId = s.nextId := rfl
@[simp] theorem State.updFlight_turns (s : State) (i : Nat) (f : Flight → Flight) : (s.updFlight i f).turns = s.turns := rfl
@[simp] theorem State.updFlight_ctxs (s : State) (i : Nat) (f : Flight → Flight) : (s.updFlight i f).ctxs = s.ctxs := rfl
@[simp] theorem State.updFlight_descs (s : State) (i : Nat) (f : Flight → Flight) : (s.updFlight i f).descs = s.descs := rfl
@[simp] theorem State.updFlight_allocs (s : State) (i : Nat) (f : Flight → Flight) : (s.updFlight i f).allocs = s.allocs := rfl
@[simp] theorem State.updFlight_tmap (s : State) (i : Nat) (f : Flight → Flight) : (s.updFlight i f).tmap = s.tmap := rfl
@[simp] theorem State.updFlight_frames (s : State) (i : Nat) (f : Flight → Flight) : (s.updFlight i f).frames = s.frames := rfl
@[simp] theorem State.updFlight_hostWins (s : State) (i : Nat) (f : Flight → Flight) : (s.updFlight i f).hostWins = s.hostWins := rfl
@[simp] theorem State.updFlight_landing (s : State) (i : Nat) (f : Flight → Flight) : (s.updFlight i f).landing = s.landing := rfl
@[simp] theorem State.updFlight_ddr (s : State) (i : Nat) (f : Flight → Flight) : (s.updFlight i f).ddr = s.ddr := rfl
@[simp] theorem State.updFlight_flash (s : State) (i : Nat) (f : Flight → Flight) : (s.updFlight i f).flash = s.flash := rfl
@[simp] theorem State.updFlight_host (s : State) (i : Nat) (f : Flight → Flight) : (s.updFlight i f).host = s.host := rfl
@[simp] theorem State.updFlight_ftl (s : State) (i : Nat) (f : Flight → Flight) : (s.updFlight i f).ftl = s.ftl := rfl
@[simp] theorem State.updFlight_faults (s : State) (i : Nat) (f : Flight → Flight) : (s.updFlight i f).faults = s.faults := rfl
@[simp] theorem State.updFlight_captures (s : State) (i : Nat) (f : Flight → Flight) : (s.updFlight i f).captures = s.captures := rfl
@[simp] theorem State.updFlight_scaler (s : State) (i : Nat) (f : Flight → Flight) : (s.updFlight i f).scaler = s.scaler := rfl
@[simp] theorem State.updFlight_scalerC (s : State) (i : Nat) (f : Flight → Flight) : (s.updFlight i f).scalerC = s.scalerC := rfl
@[simp] theorem State.updFlight_scalerQ (s : State) (i : Nat) (f : Flight → Flight) : (s.updFlight i f).scalerQ = s.scalerQ := rfl
@[simp] theorem State.updFlight_msixOpen (s : State) (i : Nat) (f : Flight → Flight) : (s.updFlight i f).msixOpen = s.msixOpen := rfl
@[simp] theorem State.updFlight_msixPend (s : State) (i : Nat) (f : Flight → Flight) : (s.updFlight i f).msixPend = s.msixPend := rfl
@[simp] theorem State.updFlight_env (s : State) (i : Nat) (f : Flight → Flight) : (s.updFlight i f).env = s.env := rfl
@[simp] theorem State.updFlight_isolated (s : State) (i : Nat) (f : Flight → Flight) : (s.updFlight i f).isolated = s.isolated := rfl
@[simp] theorem State.updFlight_downUnits (s : State) (i : Nat) (f : Flight → Flight) : (s.updFlight i f).downUnits = s.downUnits := rfl
@[simp] theorem State.updFlight_links (s : State) (i : Nat) (f : Flight → Flight) : (s.updFlight i f).links = s.links := rfl
@[simp] theorem State.updFlight_colls (s : State) (i : Nat) (f : Flight → Flight) : (s.updFlight i f).colls = s.colls := rfl
@[simp] theorem State.updFlight_members (s : State) (i : Nat) (f : Flight → Flight) : (s.updFlight i f).members = s.members := rfl
@[simp] theorem State.updFlight_beatTurn (s : State) (i : Nat) (f : Flight → Flight) : (s.updFlight i f).beatTurn = s.beatTurn := rfl
@[simp] theorem State.updFlight_slots (s : State) (i : Nat) (f : Flight → Flight) : (s.updFlight i f).slots = s.slots := rfl
@[simp] theorem State.updFlight_ustreams (s : State) (i : Nat) (f : Flight → Flight) : (s.updFlight i f).ustreams = s.ustreams := rfl
@[simp] theorem State.updFlight_portQ (s : State) (i : Nat) (f : Flight → Flight) : (s.updFlight i f).portQ = s.portQ := rfl
@[simp] theorem State.updFlight_rxBuf (s : State) (i : Nat) (f : Flight → Flight) : (s.updFlight i f).rxBuf = s.rxBuf := rfl
@[simp] theorem State.updFlight_stepPin (s : State) (i : Nat) (f : Flight → Flight) : (s.updFlight i f).stepPin = s.stepPin := rfl
@[simp] theorem State.updFlight_commits (s : State) (i : Nat) (f : Flight → Flight) : (s.updFlight i f).commits = s.commits := rfl
@[simp] theorem State.updFlight_reqs (s : State) (i : Nat) (f : Flight → Flight) : (s.updFlight i f).reqs = s.reqs := rfl
@[simp] theorem State.updFlight_tierQ (s : State) (i : Nat) (f : Flight → Flight) : (s.updFlight i f).tierQ = s.tierQ := rfl
@[simp] theorem State.updFlight_serving (s : State) (i : Nat) (f : Flight → Flight) : (s.updFlight i f).serving = s.serving := rfl
@[simp] theorem State.updFlight_dumps (s : State) (i : Nat) (f : Flight → Flight) : (s.updFlight i f).dumps = s.dumps := rfl
@[simp] theorem State.updFlight_snag (s : State) (i : Nat) (f : Flight → Flight) : (s.updFlight i f).snag = s.snag := rfl
@[simp] theorem State.updFlight_firmware (s : State) (i : Nat) (f : Flight → Flight) : (s.updFlight i f).firmware = s.firmware := rfl
@[simp] theorem State.updFlight_boot (s : State) (i : Nat) (f : Flight → Flight) : (s.updFlight i f).boot = s.boot := rfl
@[simp] theorem State.updFlight_power (s : State) (i : Nat) (f : Flight → Flight) : (s.updFlight i f).power = s.power := rfl
@[simp] theorem State.updFlight_segs (s : State) (i : Nat) (f : Flight → Flight) : (s.updFlight i f).segs = s.segs := rfl
@[simp] theorem State.updFlight_sess (s : State) (i : Nat) (f : Flight → Flight) : (s.updFlight i f).sess = s.sess := rfl
@[simp] theorem State.updFlight_bdpQ (s : State) (i : Nat) (f : Flight → Flight) : (s.updFlight i f).bdpQ = s.bdpQ := rfl
@[simp] theorem State.updFlight_notified (s : State) (i : Nat) (f : Flight → Flight) : (s.updFlight i f).notified = s.notified := rfl
@[simp] theorem State.updFlight_d3hot (s : State) (i : Nat) (f : Flight → Flight) : (s.updFlight i f).d3hot = s.d3hot := rfl
@[simp] theorem State.updFlight_stepRun (s : State) (i : Nat) (f : Flight → Flight) : (s.updFlight i f).stepRun = s.stepRun := rfl
@[simp] theorem State.updFlight_snaps (s : State) (i : Nat) (f : Flight → Flight) : (s.updFlight i f).snaps = s.snaps := rfl
@[simp] theorem State.updFlight_seqNo (s : State) (i : Nat) (f : Flight → Flight) : (s.updFlight i f).seqNo = s.seqNo := rfl
@[simp] theorem State.updFlight_free (s : State) (i : Nat) (f : Flight → Flight) : (s.updFlight i f).free = s.free := rfl
@[simp] theorem State.updFlight_out (s : State) (i : Nat) (f : Flight → Flight) : (s.updFlight i f).out = s.out := rfl
@[simp] theorem State.updFlight_pending (s : State) (i : Nat) (f : Flight → Flight) : (s.updFlight i f).pending = s.pending := rfl

@[simp] theorem State.dropFlight_objs (s : State) (i : Nat) : (s.dropFlight i).objs = s.objs := rfl
@[simp] theorem State.dropFlight_pobjs (s : State) (i : Nat) : (s.dropFlight i).pobjs = s.pobjs := rfl
@[simp] theorem State.dropFlight_cores (s : State) (i : Nat) : (s.dropFlight i).cores = s.cores := rfl
@[simp] theorem State.dropFlight_streams (s : State) (i : Nat) : (s.dropFlight i).streams = s.streams := rfl
@[simp] theorem State.dropFlight_tok (s : State) (i : Nat) : (s.dropFlight i).tok = s.tok := rfl
@[simp] theorem State.dropFlight_acq (s : State) (i : Nat) : (s.dropFlight i).acq = s.acq := rfl
@[simp] theorem State.dropFlight_cred (s : State) (i : Nat) : (s.dropFlight i).cred = s.cred := rfl
@[simp] theorem State.dropFlight_posts (s : State) (i : Nat) : (s.dropFlight i).posts = s.posts := rfl
@[simp] theorem State.dropFlight_nextId (s : State) (i : Nat) : (s.dropFlight i).nextId = s.nextId := rfl
@[simp] theorem State.dropFlight_turns (s : State) (i : Nat) : (s.dropFlight i).turns = s.turns := rfl
@[simp] theorem State.dropFlight_ctxs (s : State) (i : Nat) : (s.dropFlight i).ctxs = s.ctxs := rfl
@[simp] theorem State.dropFlight_descs (s : State) (i : Nat) : (s.dropFlight i).descs = s.descs := rfl
@[simp] theorem State.dropFlight_allocs (s : State) (i : Nat) : (s.dropFlight i).allocs = s.allocs := rfl
@[simp] theorem State.dropFlight_tmap (s : State) (i : Nat) : (s.dropFlight i).tmap = s.tmap := rfl
@[simp] theorem State.dropFlight_frames (s : State) (i : Nat) : (s.dropFlight i).frames = s.frames := rfl
@[simp] theorem State.dropFlight_hostWins (s : State) (i : Nat) : (s.dropFlight i).hostWins = s.hostWins := rfl
@[simp] theorem State.dropFlight_landing (s : State) (i : Nat) : (s.dropFlight i).landing = s.landing := rfl
@[simp] theorem State.dropFlight_ddr (s : State) (i : Nat) : (s.dropFlight i).ddr = s.ddr := rfl
@[simp] theorem State.dropFlight_flash (s : State) (i : Nat) : (s.dropFlight i).flash = s.flash := rfl
@[simp] theorem State.dropFlight_host (s : State) (i : Nat) : (s.dropFlight i).host = s.host := rfl
@[simp] theorem State.dropFlight_ftl (s : State) (i : Nat) : (s.dropFlight i).ftl = s.ftl := rfl
@[simp] theorem State.dropFlight_faults (s : State) (i : Nat) : (s.dropFlight i).faults = s.faults := rfl
@[simp] theorem State.dropFlight_captures (s : State) (i : Nat) : (s.dropFlight i).captures = s.captures := rfl
@[simp] theorem State.dropFlight_scaler (s : State) (i : Nat) : (s.dropFlight i).scaler = s.scaler := rfl
@[simp] theorem State.dropFlight_scalerC (s : State) (i : Nat) : (s.dropFlight i).scalerC = s.scalerC := rfl
@[simp] theorem State.dropFlight_scalerQ (s : State) (i : Nat) : (s.dropFlight i).scalerQ = s.scalerQ := rfl
@[simp] theorem State.dropFlight_msixOpen (s : State) (i : Nat) : (s.dropFlight i).msixOpen = s.msixOpen := rfl
@[simp] theorem State.dropFlight_msixPend (s : State) (i : Nat) : (s.dropFlight i).msixPend = s.msixPend := rfl
@[simp] theorem State.dropFlight_env (s : State) (i : Nat) : (s.dropFlight i).env = s.env := rfl
@[simp] theorem State.dropFlight_isolated (s : State) (i : Nat) : (s.dropFlight i).isolated = s.isolated := rfl
@[simp] theorem State.dropFlight_downUnits (s : State) (i : Nat) : (s.dropFlight i).downUnits = s.downUnits := rfl
@[simp] theorem State.dropFlight_links (s : State) (i : Nat) : (s.dropFlight i).links = s.links := rfl
@[simp] theorem State.dropFlight_colls (s : State) (i : Nat) : (s.dropFlight i).colls = s.colls := rfl
@[simp] theorem State.dropFlight_members (s : State) (i : Nat) : (s.dropFlight i).members = s.members := rfl
@[simp] theorem State.dropFlight_beatTurn (s : State) (i : Nat) : (s.dropFlight i).beatTurn = s.beatTurn := rfl
@[simp] theorem State.dropFlight_slots (s : State) (i : Nat) : (s.dropFlight i).slots = s.slots := rfl
@[simp] theorem State.dropFlight_ustreams (s : State) (i : Nat) : (s.dropFlight i).ustreams = s.ustreams := rfl
@[simp] theorem State.dropFlight_portQ (s : State) (i : Nat) : (s.dropFlight i).portQ = s.portQ := rfl
@[simp] theorem State.dropFlight_rxBuf (s : State) (i : Nat) : (s.dropFlight i).rxBuf = s.rxBuf := rfl
@[simp] theorem State.dropFlight_stepPin (s : State) (i : Nat) : (s.dropFlight i).stepPin = s.stepPin := rfl
@[simp] theorem State.dropFlight_commits (s : State) (i : Nat) : (s.dropFlight i).commits = s.commits := rfl
@[simp] theorem State.dropFlight_reqs (s : State) (i : Nat) : (s.dropFlight i).reqs = s.reqs := rfl
@[simp] theorem State.dropFlight_tierQ (s : State) (i : Nat) : (s.dropFlight i).tierQ = s.tierQ := rfl
@[simp] theorem State.dropFlight_serving (s : State) (i : Nat) : (s.dropFlight i).serving = s.serving := rfl
@[simp] theorem State.dropFlight_dumps (s : State) (i : Nat) : (s.dropFlight i).dumps = s.dumps := rfl
@[simp] theorem State.dropFlight_snag (s : State) (i : Nat) : (s.dropFlight i).snag = s.snag := rfl
@[simp] theorem State.dropFlight_firmware (s : State) (i : Nat) : (s.dropFlight i).firmware = s.firmware := rfl
@[simp] theorem State.dropFlight_boot (s : State) (i : Nat) : (s.dropFlight i).boot = s.boot := rfl
@[simp] theorem State.dropFlight_power (s : State) (i : Nat) : (s.dropFlight i).power = s.power := rfl
@[simp] theorem State.dropFlight_segs (s : State) (i : Nat) : (s.dropFlight i).segs = s.segs := rfl
@[simp] theorem State.dropFlight_sess (s : State) (i : Nat) : (s.dropFlight i).sess = s.sess := rfl
@[simp] theorem State.dropFlight_bdpQ (s : State) (i : Nat) : (s.dropFlight i).bdpQ = s.bdpQ := rfl
@[simp] theorem State.dropFlight_notified (s : State) (i : Nat) : (s.dropFlight i).notified = s.notified := rfl
@[simp] theorem State.dropFlight_d3hot (s : State) (i : Nat) : (s.dropFlight i).d3hot = s.d3hot := rfl
@[simp] theorem State.dropFlight_stepRun (s : State) (i : Nat) : (s.dropFlight i).stepRun = s.stepRun := rfl
@[simp] theorem State.dropFlight_snaps (s : State) (i : Nat) : (s.dropFlight i).snaps = s.snaps := rfl
@[simp] theorem State.dropFlight_seqNo (s : State) (i : Nat) : (s.dropFlight i).seqNo = s.seqNo := rfl
@[simp] theorem State.dropFlight_free (s : State) (i : Nat) : (s.dropFlight i).free = s.free := rfl
@[simp] theorem State.dropFlight_out (s : State) (i : Nat) : (s.dropFlight i).out = s.out := rfl
@[simp] theorem State.dropFlight_pending (s : State) (i : Nat) : (s.dropFlight i).pending = s.pending := rfl

@[simp] theorem State.noteWork_objs (s : State) (n c : Nat) : (s.noteWork n c).objs = s.objs := rfl
@[simp] theorem State.noteWork_pobjs (s : State) (n c : Nat) : (s.noteWork n c).pobjs = s.pobjs := rfl
@[simp] theorem State.noteWork_cores (s : State) (n c : Nat) : (s.noteWork n c).cores = s.cores := rfl
@[simp] theorem State.noteWork_streams (s : State) (n c : Nat) : (s.noteWork n c).streams = s.streams := rfl
@[simp] theorem State.noteWork_tok (s : State) (n c : Nat) : (s.noteWork n c).tok = s.tok := rfl
@[simp] theorem State.noteWork_acq (s : State) (n c : Nat) : (s.noteWork n c).acq = s.acq := rfl
@[simp] theorem State.noteWork_cred (s : State) (n c : Nat) : (s.noteWork n c).cred = s.cred := rfl
@[simp] theorem State.noteWork_posts (s : State) (n c : Nat) : (s.noteWork n c).posts = s.posts := rfl
@[simp] theorem State.noteWork_flights (s : State) (n c : Nat) : (s.noteWork n c).flights = s.flights := rfl
@[simp] theorem State.noteWork_nextId (s : State) (n c : Nat) : (s.noteWork n c).nextId = s.nextId := rfl
@[simp] theorem State.noteWork_turns (s : State) (n c : Nat) : (s.noteWork n c).turns = s.turns := rfl
@[simp] theorem State.noteWork_ctxs (s : State) (n c : Nat) : (s.noteWork n c).ctxs = s.ctxs := rfl
@[simp] theorem State.noteWork_descs (s : State) (n c : Nat) : (s.noteWork n c).descs = s.descs := rfl
@[simp] theorem State.noteWork_allocs (s : State) (n c : Nat) : (s.noteWork n c).allocs = s.allocs := rfl
@[simp] theorem State.noteWork_tmap (s : State) (n c : Nat) : (s.noteWork n c).tmap = s.tmap := rfl
@[simp] theorem State.noteWork_frames (s : State) (n c : Nat) : (s.noteWork n c).frames = s.frames := rfl
@[simp] theorem State.noteWork_hostWins (s : State) (n c : Nat) : (s.noteWork n c).hostWins = s.hostWins := rfl
@[simp] theorem State.noteWork_landing (s : State) (n c : Nat) : (s.noteWork n c).landing = s.landing := rfl
@[simp] theorem State.noteWork_ddr (s : State) (n c : Nat) : (s.noteWork n c).ddr = s.ddr := rfl
@[simp] theorem State.noteWork_flash (s : State) (n c : Nat) : (s.noteWork n c).flash = s.flash := rfl
@[simp] theorem State.noteWork_host (s : State) (n c : Nat) : (s.noteWork n c).host = s.host := rfl
@[simp] theorem State.noteWork_ftl (s : State) (n c : Nat) : (s.noteWork n c).ftl = s.ftl := rfl
@[simp] theorem State.noteWork_faults (s : State) (n c : Nat) : (s.noteWork n c).faults = s.faults := rfl
@[simp] theorem State.noteWork_captures (s : State) (n c : Nat) : (s.noteWork n c).captures = s.captures := rfl
@[simp] theorem State.noteWork_scaler (s : State) (n c : Nat) : (s.noteWork n c).scaler = s.scaler := rfl
@[simp] theorem State.noteWork_scalerC (s : State) (n c : Nat) : (s.noteWork n c).scalerC = s.scalerC := rfl
@[simp] theorem State.noteWork_scalerQ (s : State) (n c : Nat) : (s.noteWork n c).scalerQ = s.scalerQ := rfl
@[simp] theorem State.noteWork_msixOpen (s : State) (n c : Nat) : (s.noteWork n c).msixOpen = s.msixOpen := rfl
@[simp] theorem State.noteWork_msixPend (s : State) (n c : Nat) : (s.noteWork n c).msixPend = s.msixPend := rfl
@[simp] theorem State.noteWork_env (s : State) (n c : Nat) : (s.noteWork n c).env = s.env := rfl
@[simp] theorem State.noteWork_isolated (s : State) (n c : Nat) : (s.noteWork n c).isolated = s.isolated := rfl
@[simp] theorem State.noteWork_downUnits (s : State) (n c : Nat) : (s.noteWork n c).downUnits = s.downUnits := rfl
@[simp] theorem State.noteWork_links (s : State) (n c : Nat) : (s.noteWork n c).links = s.links := rfl
@[simp] theorem State.noteWork_colls (s : State) (n c : Nat) : (s.noteWork n c).colls = s.colls := rfl
@[simp] theorem State.noteWork_members (s : State) (n c : Nat) : (s.noteWork n c).members = s.members := rfl
@[simp] theorem State.noteWork_beatTurn (s : State) (n c : Nat) : (s.noteWork n c).beatTurn = s.beatTurn := rfl
@[simp] theorem State.noteWork_slots (s : State) (n c : Nat) : (s.noteWork n c).slots = s.slots := rfl
@[simp] theorem State.noteWork_ustreams (s : State) (n c : Nat) : (s.noteWork n c).ustreams = s.ustreams := rfl
@[simp] theorem State.noteWork_portQ (s : State) (n c : Nat) : (s.noteWork n c).portQ = s.portQ := rfl
@[simp] theorem State.noteWork_rxBuf (s : State) (n c : Nat) : (s.noteWork n c).rxBuf = s.rxBuf := rfl
@[simp] theorem State.noteWork_stepPin (s : State) (n c : Nat) : (s.noteWork n c).stepPin = s.stepPin := rfl
@[simp] theorem State.noteWork_commits (s : State) (n c : Nat) : (s.noteWork n c).commits = s.commits := rfl
@[simp] theorem State.noteWork_reqs (s : State) (n c : Nat) : (s.noteWork n c).reqs = s.reqs := rfl
@[simp] theorem State.noteWork_tierQ (s : State) (n c : Nat) : (s.noteWork n c).tierQ = s.tierQ := rfl
@[simp] theorem State.noteWork_serving (s : State) (n c : Nat) : (s.noteWork n c).serving = s.serving := rfl
@[simp] theorem State.noteWork_dumps (s : State) (n c : Nat) : (s.noteWork n c).dumps = s.dumps := rfl
@[simp] theorem State.noteWork_snag (s : State) (n c : Nat) : (s.noteWork n c).snag = s.snag := rfl
@[simp] theorem State.noteWork_firmware (s : State) (n c : Nat) : (s.noteWork n c).firmware = s.firmware := rfl
@[simp] theorem State.noteWork_boot (s : State) (n c : Nat) : (s.noteWork n c).boot = s.boot := rfl
@[simp] theorem State.noteWork_power (s : State) (n c : Nat) : (s.noteWork n c).power = s.power := rfl
@[simp] theorem State.noteWork_segs (s : State) (n c : Nat) : (s.noteWork n c).segs = s.segs := rfl
@[simp] theorem State.noteWork_sess (s : State) (n c : Nat) : (s.noteWork n c).sess = s.sess := rfl
@[simp] theorem State.noteWork_bdpQ (s : State) (n c : Nat) : (s.noteWork n c).bdpQ = s.bdpQ := rfl
@[simp] theorem State.noteWork_notified (s : State) (n c : Nat) : (s.noteWork n c).notified = s.notified := rfl
@[simp] theorem State.noteWork_d3hot (s : State) (n c : Nat) : (s.noteWork n c).d3hot = s.d3hot := rfl
@[simp] theorem State.noteWork_stepRun (s : State) (n c : Nat) : (s.noteWork n c).stepRun = s.stepRun := rfl
@[simp] theorem State.noteWork_snaps (s : State) (n c : Nat) : (s.noteWork n c).snaps = s.snaps := rfl
@[simp] theorem State.noteWork_seqNo (s : State) (n c : Nat) : (s.noteWork n c).seqNo = s.seqNo := rfl
@[simp] theorem State.noteWork_free (s : State) (n c : Nat) : (s.noteWork n c).free = s.free := rfl
@[simp] theorem State.noteWork_out (s : State) (n c : Nat) : (s.noteWork n c).out = s.out := rfl
@[simp] theorem State.noteWork_pending (s : State) (n c : Nat) : (s.noteWork n c).pending = s.pending := rfl

end Sys2Proof.Machine
end

