-- ==== Sys2Proof/Laws/Tab.lean ====
section
/-!
SUPPORT. The laws of sparse tables: a read after a write, and that every operation keeps the canonical form.
-/

namespace Sys2Proof.Tab

variable {α : Type}

theorem get_erase_same (d : α) (t : Tab α) (a : Nat) : get d (erase t a) a = d := by
  induction t with
  | nil => rfl
  | cons e t ih =>
    obtain ⟨k, v⟩ := e
    by_cases h : k = a <;> simp [erase, get, h, ih]

theorem get_erase_other (d : α) (t : Tab α) {a b : Nat} (h : b ≠ a) : get d (erase t a) b = get d t b := by
  induction t with
  | nil => rfl
  | cons e t ih =>
    obtain ⟨k, v⟩ := e
    by_cases hk : k = a
    · subst hk; simp [erase, get, ih, Ne.symm h]
    · by_cases hb : k = b
      · subst hb; simp [erase, get, hk]
      · simp [erase, get, hk, hb, ih]

theorem get_insert_other (d : α) (t : Tab α) {a b : Nat} (v : α) (h : b ≠ a) :
    get d (insert t a v) b = get d t b := by
  induction t with
  | nil => simp [insert, get, Ne.symm h]
  | cons e t ih =>
    obtain ⟨k, w⟩ := e
    by_cases ha : a < k
    · simp [insert, get, ha, Ne.symm h]
    · by_cases hb : k = b
      · subst hb; simp [insert, get, ha]
      · simp [insert, get, ha, hb, ih]

theorem get_insert_same (d : α) (t : Tab α) (a : Nat) (v : α) (h : ∀ e ∈ t, e.1 ≠ a) :
    get d (insert t a v) a = v := by
  induction t with
  | nil => simp [insert, get]
  | cons e t ih =>
    obtain ⟨k, w⟩ := e
    have hk : k ≠ a := h (k, w) (by simp)
    by_cases ha : a < k
    · simp [insert, get, ha]
    · simp [insert, get, ha, hk, ih (fun e he => h e (by simp [he]))]

theorem erase_ne (t : Tab α) (a : Nat) : ∀ e ∈ erase t a, e.1 ≠ a := by
  induction t with
  | nil => simp [erase]
  | cons e t ih =>
    obtain ⟨k, v⟩ := e
    by_cases h : k = a
    · simpa [erase, h] using ih
    · simpa [erase, h] using ih

/-- A read of the key just written gives the value written. -/
@[simp] theorem get_put_same [DecidableEq α] (d : α) (t : Tab α) (a : Nat) (v : α) : get d (put d t a v) a = v := by
  unfold put
  split
  · next h => rw [get_erase_same, h]
  · exact get_insert_same d _ a v (erase_ne t a)

/-- A write leaves every other key alone. -/
theorem get_put_other [DecidableEq α] {d e : α} (t : Tab α) {a b : Nat} (v : α) (h : b ≠ a) :
    get d (put e t a v) b = get d t b := by
  unfold put
  split
  · exact get_erase_other d t h
  · rw [get_insert_other d _ v h, get_erase_other d t h]

/-- A read after a write, by cases of the key. -/
theorem get_put [DecidableEq α] (d : α) (t : Tab α) (a b : Nat) (v : α) :
    get d (put d t a v) b = if b = a then v else get d t b := by
  split
  · next h => subst h; simp
  · next h => exact get_put_other t v h

theorem get_update_same [DecidableEq α] (d : α) (t : Tab α) (a : Nat) (f : α → α) :
    get d (update d t a f) a = f (get d t a) := by simp [update]

theorem get_update_other [DecidableEq α] (d : α) (t : Tab α) {a b : Nat} (f : α → α) (h : b ≠ a) :
    get d (update d t a f) b = get d t b := get_put_other t _ h

/-- Keys in strictly rising order. -/
def rising : Tab α → Bool
  | [] => true
  | [_] => true
  | e :: f :: t => e.1 < f.1 && rising (f :: t)

/-- The canonical form: keys rising, no entry equal to what an unlisted key reads as. -/
def wf [DecidableEq α] (d : α) (t : Tab α) : Bool := rising t && t.all (fun e => e.2 ≠ d)

theorem rising_cons {e : Nat × α} {t : Tab α} :
    rising (e :: t) = true ↔ (∀ f ∈ t, e.1 < f.1) ∧ rising t = true := by
  induction t generalizing e with
  | nil => simp [rising]
  | cons f t ih =>
    simp only [rising, Bool.and_eq_true, decide_eq_true_eq, List.mem_cons, forall_eq_or_imp]
    constructor
    · rintro ⟨h1, h2⟩
      exact ⟨⟨h1, fun g hg => lt_trans h1 ((ih.1 h2).1 g hg)⟩, h2⟩
    · rintro ⟨⟨h1, _⟩, h2⟩; exact ⟨h1, h2⟩

theorem mem_erase {e : Nat × α} {t : Tab α} {a : Nat} (h : e ∈ erase t a) : e ∈ t := by
  induction t with
  | nil => simp [erase] at h
  | cons f t ih =>
    obtain ⟨k, v⟩ := f
    by_cases hk : k = a
    · exact List.mem_cons_of_mem _ (ih (by simpa [erase, hk] using h))
    · rcases (by simpa [erase, hk] using h : e = (k, v) ∨ e ∈ erase t a) with h | h
      · simp [h]
      · exact List.mem_cons_of_mem _ (ih h)

theorem rising_erase {t : Tab α} (a : Nat) (h : rising t = true) : rising (erase t a) = true := by
  induction t with
  | nil => rfl
  | cons e t ih =>
    obtain ⟨k, v⟩ := e
    have h' := rising_cons.1 h
    by_cases hk : k = a
    · simpa [erase, hk] using ih h'.2
    · simp only [erase, hk, if_false]
      exact rising_cons.2 ⟨fun f hf => h'.1 f (mem_erase hf), ih h'.2⟩

theorem mem_insert {e : Nat × α} {t : Tab α} {a : Nat} {v : α} (h : e ∈ insert t a v) : e = (a, v) ∨ e ∈ t := by
  induction t with
  | nil => simpa [insert] using h
  | cons f t ih =>
    obtain ⟨k, w⟩ := f
    by_cases ha : a < k
    · simpa [insert, ha] using h
    · rcases (by simpa [insert, ha] using h : e = (k, w) ∨ e ∈ insert t a v) with h | h
      · simp [h]
      · rcases ih h with h | h <;> simp [h]

theorem rising_insert {t : Tab α} (a : Nat) (v : α) (hn : ∀ e ∈ t, e.1 ≠ a) (h : rising t = true) :
    rising (insert t a v) = true := by
  induction t with
  | nil => rfl
  | cons e t ih =>
    obtain ⟨k, w⟩ := e
    have h' := rising_cons.1 h
    by_cases ha : a < k
    · simp only [insert, ha, if_true]
      refine rising_cons.2 ⟨fun f hf => ?_, h⟩
      rcases List.mem_cons.1 hf with rfl | hf
      · exact ha
      · exact lt_trans ha (h'.1 f hf)
    · simp only [insert, ha, if_false]
      refine rising_cons.2 ⟨fun f hf => ?_, ih (fun e he => hn e (List.mem_cons_of_mem _ he)) h'.2⟩
      rcases mem_insert hf with rfl | hf
      · exact lt_of_le_of_ne (not_lt.1 ha) (hn (k, w) (by simp))
      · exact h'.1 f hf

/-- A write keeps the canonical form. -/
theorem wf_put [DecidableEq α] {d : α} {t : Tab α} (a : Nat) (v : α) (h : wf d t = true) : wf d (put d t a v) = true := by
  simp only [wf, Bool.and_eq_true, List.all_eq_true, decide_eq_true_eq] at h ⊢
  unfold put
  split
  · exact ⟨rising_erase a h.1, fun e he => h.2 e (mem_erase he)⟩
  · next hv =>
    refine ⟨rising_insert a v (erase_ne t a) (rising_erase a h.1), fun e he => ?_⟩
    rcases mem_insert he with rfl | he
    · exact hv
    · exact h.2 e (mem_erase he)

end Sys2Proof.Tab
end

