-- ==== Sys2Proof/Laws/Frame.lean ====
section
/-!
SUPPORT. What each shared operation leaves alone: interrupts, fault reports, holds, rest, posts. Each operation changes only
the fields that its lemma gives new values.
-/

set_option linter.all false

namespace Sys2Proof.Machine

theorem State.signal_frame (s : State) (v : Nat) :
    ∃ o p, s.signal v = { s with out := o, msixPend := p } := by
  unfold State.signal
  split
  · exact ⟨_, _, rfl⟩
  · split <;> exact ⟨_, _, rfl⟩

theorem State.faultNotice_frame (s : State) :
    ∃ b o p, s.faultNotice = { s with objs := b, out := o, msixPend := p } := by
  unfold State.faultNotice
  obtain ⟨o, p, h⟩ := State.signal_frame (s.setFlag (okey 0x5000 5) (okey 0x5000 6))
    ((s.setFlag (okey 0x5000 5) (okey 0x5000 6)).obj (okey 0x5000 7))
  exact ⟨_, o, p, h⟩

theorem State.faultNotice_after {s t : State} (h : ∃ b f, t = { s with objs := b, faults := f }) :
    ∃ b f o p, t.faultNotice = { s with objs := b, faults := f, out := o, msixPend := p } := by
  obtain ⟨b, f, rfl⟩ := h
  obtain ⟨c, o, p, h⟩ := State.faultNotice_frame { s with objs := b, faults := f }
  exact ⟨c, f, o, p, h⟩

theorem State.pushBlaze_after {s t : State} {r : FaultRec} {v : Option Verdict} {c : Prop} [Decidable c]
    (h : ∃ b f, t = { s with objs := b, faults := f }) :
    ∃ b f, (if c then t.pushBlaze r v else t) = { s with objs := b, faults := f } := by
  obtain ⟨b, f, rfl⟩ := h
  split <;> exact ⟨_, _, rfl⟩

/-- A fault report writes the records, the objects that count and flag them, and an interrupt (R290, R291). -/
theorem State.reportV_frame (s : State) (code kind source : Nat) (ctx : Option Nat) (detail : Nat) (held abort : Bool)
    (v : Option Verdict) : ∃ b f o p, s.reportV code kind source ctx detail held abort v
      = { s with objs := b, faults := f, out := o, msixPend := p } := by
  unfold State.reportV
  dsimp only
  apply State.faultNotice_after
  apply State.pushBlaze_after
  split
  · exact ⟨_, _, rfl⟩
  · split
    · exact ⟨_, _, rfl⟩
    · exact ⟨_, _, rfl⟩

theorem State.report_frame (s : State) (code kind source : Nat) (ctx : Option Nat) (detail : Nat) (held abort : Bool) :
    ∃ b f o p, s.report code kind source ctx detail held abort
      = { s with objs := b, faults := f, out := o, msixPend := p } := s.reportV_frame _ _ _ _ _ _ _ _

theorem State.report_after {s t : State} {code kind source : Nat} {ctx : Option Nat} {detail : Nat} {held abort : Bool}
    (h : ∃ b, t = { s with objs := b }) : ∃ b f o p, t.report code kind source ctx detail held abort
      = { s with objs := b, faults := f, out := o, msixPend := p } := by
  obtain ⟨b, rfl⟩ := h
  obtain ⟨b', f, o, p, h⟩ := State.report_frame { s with objs := b } code kind source ctx detail held abort
  exact ⟨b', f, o, p, h⟩

theorem State.refusal_objs (s : State) (k v a a' c : Nat) :
    ∃ b, (((s.setObj k v).setFlag a a').addObj c 32 1) = { s with objs := b } := ⟨_, rfl⟩

/-- A refused write changes nothing but the refusal's objects, its fault record and its interrupt (R333). -/
theorem State.dictRefuse_frame (s : State) (path k reason : Nat) :
    ∃ b f o p, s.dictRefuse path k reason = { s with objs := b, faults := f, out := o, msixPend := p } := by
  unfold State.dictRefuse State.refuse
  exact State.report_after (State.refusal_objs s _ _ _ _ _)

theorem State.noteReplay_frame (s : State) (c o d n : Nat) :
    ∃ g q p, s.noteReplay c o d n = { s with snag := g, out := q, msixPend := p } := by
  unfold State.noteReplay
  split
  · exact ⟨_, _, _, rfl⟩
  · dsimp only
    generalize ({ s with snag := _ } : State).obj _ = v
    obtain ⟨q, p, h⟩ := State.signal_frame { s with snag := { s.snag with log := _, noted := true } } v
    exact ⟨_, q, p, h⟩

theorem State.noteReplay_after {s t : State} {c o d n : Nat}
    (h : ∃ b q p, t = { s with objs := b, out := q, msixPend := p }) :
    ∃ b g q p, t.noteReplay c o d n = { s with objs := b, snag := g, out := q, msixPend := p } := by
  obtain ⟨b, q, p, rfl⟩ := h
  obtain ⟨g, q', p', h⟩ := State.noteReplay_frame { s with objs := b, out := q, msixPend := p } c o d n
  exact ⟨b, g, q', p', h⟩

/-- Holding a context changes that context, the outcome of an isolated run and an interrupt (R38, R285, R328). -/
theorem State.hold_frame (s : State) (c code : Nat) :
    ∃ x g q p, s.hold c code = { s with ctxs := x, snag := g, out := q, msixPend := p } := by
  unfold State.hold
  split
  · exact ⟨_, _, _, _, rfl⟩
  · obtain ⟨q, p, h⟩ := State.signal_frame (s.updCtx c (fun x => { x with held := true, holdFault := code }))
      (s.obj (okey (0x2000 + c) 8))
    rw [h]
    obtain ⟨g, q', p', h'⟩ := State.noteReplay_frame { s.updCtx c (fun x => { x with held := true, holdFault := code })
      with out := q, msixPend := p } c 3 code 0
    exact ⟨_, g, q', p', h'⟩

theorem State.holdShell_frame (s : State) (code u c d : Nat) :
    ∃ b f x g q p, s.holdShell code u c d
      = { s with objs := b, faults := f, ctxs := x, snag := g, out := q, msixPend := p } := by
  unfold State.holdShell
  obtain ⟨b, f, o, p, h⟩ := s.report_frame code 1 u (some c) d true false
  rw [h]
  obtain ⟨x, g, q, p', h'⟩ := State.hold_frame { s with objs := b, faults := f, out := o, msixPend := p } c code
  exact ⟨b, f, x, g, q, p', h'⟩

/-- The rest check writes RESTING and REST_STEP, the outcome of an isolated run and an interrupt (R220). -/
theorem State.restCheck_frame (s : State) (c : Nat) :
    ∃ b g q p, s.restCheck c = { s with objs := b, snag := g, out := q, msixPend := p } := by
  unfold State.restCheck
  dsimp only
  split
  · apply State.noteReplay_after
    split
    · exact ⟨_, _, _, rfl⟩
    · obtain ⟨q, p, h⟩ := State.signal_frame s (s.obj (okey (0x2000 + c) 8))
      rw [h]
      exact ⟨_, _, _, rfl⟩
  · exact ⟨_, _, _, _, rfl⟩

/-- The end of a drain is counted in the Tally alone (R281). -/
theorem State.countDrain_frame (s : State) (c : Nat) : ∃ b, s.countDrain c = { s with objs := b } := by
  unfold State.countDrain
  dsimp only
  split <;> exact ⟨_, rfl⟩

/-- Freeing an ended stream's core changes the core, the context's placement and the Tally (R26, R281). -/
theorem State.freeEnded_frame (s : State) (c o : Nat) :
    ∃ b k x, s.freeEnded c o = { s with objs := b, cores := k, ctxs := x } := by
  unfold State.freeEnded
  dsimp only
  split
  · split
    · obtain ⟨b, h⟩ := State.countDrain_frame ((s.leaveCore (Tab.get 0 (s.ctx c).places o - 1)).updCtx c
        (fun x => { x with places := Tab.put 0 x.places o 0 })) c
      exact ⟨b, _, _, h⟩
    · exact ⟨_, _, _, rfl⟩
  · exact ⟨_, _, _, rfl⟩

/-- A shell's work moves its progress count alone (R311). -/
theorem State.shellWork_frame (s : State) (c o : Nat) : ∃ w, s.shellWork c o = { s with work := w } := by
  unfold State.shellWork
  split <;> exact ⟨_, rfl⟩

/-- A post is queued and its shell has worked, or its route is reported and the context held (R24, R38, R311). -/
theorem State.issuePost_frame (s : State) (c o : Nat) (w : W128) :
    ∃ k r b f x g q p, s.issuePost c o w
      = { s with work := k, posts := r, objs := b, faults := f, ctxs := x, snag := g, out := q, msixPend := p } := by
  unfold State.issuePost
  dsimp only
  obtain ⟨k, hk⟩ := s.shellWork_frame c o
  rw [hk]
  split
  · exact ⟨_, _, _, _, _, _, _, _, rfl⟩
  · exact ⟨_, _, _, _, _, _, _, _, rfl⟩
  · split
    · obtain ⟨b, f, x, g, q, p, h⟩ := s.holdShell_frame 0x5004 (s.unitOf c o) c 0
      exact ⟨_, _, b, f, x, g, q, p, h⟩
    · exact ⟨_, _, _, _, _, _, _, _, rfl⟩

theorem State.noteSat_frame (s : State) (e n : Nat) : ∃ o, s.noteSat e n = { s with objs := o } := by
  unfold State.noteSat
  split <;> exact ⟨_, rfl⟩

/-- A saturation is recorded in ACC_SAT and ACC_SAT_EVENTS of its engine alone (R79). -/
theorem State.obj_noteSat (s : State) (e n : Nat) {k : Nat} (h : k ≠ okey (0x9000 + e) 7)
    (h' : k ≠ okey (0x9000 + e) 8) : (s.noteSat e n).obj k = s.obj k := by
  unfold State.noteSat
  split
  · rfl
  · unfold State.addObj
    simp only [State.obj, State.setObj] at *
    rw [Tab.get_put_other _ _ h', Tab.get_put_other _ _ h]

end Sys2Proof.Machine
end

