-- ==== Sys2Proof/Laws/Ops.lean ====
section
/-!
SUPPORT. What the shared operations do: objects, contexts, cores, streams and dispatched commands read back, and what a
served write does.
-/

namespace Sys2Proof.Machine

@[simp] theorem need_true (s : State) : need true s = .next s := rfl

theorem need_ok {b : Bool} (h : b = true) (s : State) : need b s = .next s := by simp [need, h]

/-! ### Objects -/

@[simp] theorem State.obj_setObj_same (s : State) (k v : Nat) : (s.setObj k v).obj k = v := by
  simp [State.obj, State.setObj]

theorem State.obj_setObj_other (s : State) {k k' : Nat} (v : Nat) (h : k' ≠ k) : (s.setObj k v).obj k' = s.obj k' := by
  exact Tab.get_put_other _ _ h

theorem State.obj_setObj (s : State) (k k' v : Nat) : (s.setObj k v).obj k' = if k' = k then v else s.obj k' := by
  split
  · next h => subst h; simp
  · next h => exact State.obj_setObj_other s v h

theorem State.obj_addObj_same (s : State) (k w n : Nat) : (s.addObj k w n).obj k = (s.obj k + n) % 2 ^ w := by
  simp [State.addObj]

theorem State.obj_addObj_other (s : State) {k k' : Nat} (w n : Nat) (h : k' ≠ k) :
    (s.addObj k w n).obj k' = s.obj k' := State.obj_setObj_other s _ h

@[simp] theorem State.pobj_setObj (s : State) (k v p k' : Nat) : (s.setObj k v).pobj p k' = s.pobj p k' := rfl

@[simp] theorem State.obj_setPobj (s : State) (k v p k' : Nat) : (s.setPobj p k v).obj k' = s.obj k' := rfl

/-- A path's instance of an object reads back, and the instances of other paths and objects are unchanged (R336). -/
theorem State.pobj_setPobj (s : State) {p p' k k' : Nat} (v : Nat) (hk : k < 2 ^ 24) (hk' : k' < 2 ^ 24) :
    (s.setPobj p k v).pobj p' k' = if p' = p ∧ k' = k then v else s.pobj p' k' := by
  unfold State.pobj State.setPobj pkey
  by_cases h : p' = p ∧ k' = k
  · obtain ⟨rfl, rfl⟩ := h; simp
  · rw [if_neg h]
    exact Tab.get_put_other _ _ (by omega)

/-! ### Contexts, cores, streams -/

@[simp] theorem State.ctx_updCtx_same (s : State) (i : Nat) (f : Ctx → Ctx) : (s.updCtx i f).ctx i = f (s.ctx i) := by
  simp [State.ctx, State.updCtx, Tab.get_update_same]

theorem State.ctx_updCtx_other (s : State) {i j : Nat} (f : Ctx → Ctx) (h : j ≠ i) : (s.updCtx i f).ctx j = s.ctx j := by
  simp [State.ctx, State.updCtx, Tab.get_update_other _ _ _ h]

@[simp] theorem State.core_updCore_same (s : State) (n : Nat) (f : Core → Core) :
    (s.updCore n f).core n = f (s.core n) := by
  simp [State.core, State.updCore, Tab.get_update_same]

theorem State.core_updCore_other (s : State) {n m : Nat} (f : Core → Core) (h : m ≠ n) :
    (s.updCore n f).core m = s.core m := by
  simp [State.core, State.updCore, Tab.get_update_other _ _ _ h]

@[simp] theorem State.core_updData_same (s : State) (n : Nat) (f : CoreData → CoreData) :
    ((s.updData n f).core n).data = f (s.core n).data := by
  simp [State.updData]

@[simp] theorem State.stream_updStream_same (s : State) (c o : Nat) (f : Stream → Stream) :
    (s.updStream c o f).stream c o = f (s.stream c o) := by
  simp [State.stream, State.updStream, Tab.get_update_same]

/-! ### Dispatched commands -/

/-- A command that completes or ends is no longer dispatched. -/
@[simp] theorem State.flight_dropFlight (s : State) (id : Nat) : (s.dropFlight id).flight id = none := by
  simp [State.flight, State.dropFlight, List.find?_eq_none]

theorem State.flight_id {s : State} {id : Nat} {f : Flight} (h : s.flight id = some f) : f.id = id := by
  have := List.find?_some h; simpa using this

theorem State.flight_mem {s : State} {id : Nat} {f : Flight} (h : s.flight id = some f) : f ∈ s.flights :=
  List.mem_of_find?_eq_some h

/-! ### Served accesses -/

/-- A write to a served CMD object that is not busy runs its action. -/
theorem State.onCmd_served {s : State} {path k : Nat} (act : State → State) (h : s.access path (k / 256) = 0)
    (hb : s.obj k ≠ 1) : s.onCmd path k act = act s := by
  simp [State.onCmd, h, hb]

/-- A write to a served CMD object that is busy is refused with BUSY (R334). -/
theorem State.onCmd_busy {s : State} {path k : Nat} (act : State → State) (h : s.access path (k / 256) = 0)
    (hb : s.obj k = 1) : s.onCmd path k act = s.dictRefuse path k 5 := by
  simp [State.onCmd, h, hb]

/-- A served write that is not refused is applied. -/
theorem State.onWrite_served {s : State} {path k : Nat} (act : State → State) (h : s.access path (k / 256) = 0) :
    s.onWrite path k none act = act s := by
  simp [State.onWrite, h]

/-- A served write that is refused leaves the object alone and reports the refusal (R333). -/
theorem State.onWrite_refused {s : State} {path k r : Nat} (act : State → State) (h : s.access path (k / 256) = 0) :
    s.onWrite path k (some r) act = s.dictRefuse path k r := by
  simp [State.onWrite, h]

@[simp] theorem okey_div (i : Nat) {j : Nat} (h : j < 256) : okey i j / 256 = i := by unfold okey; omega

theorem okey_inj {i j a b : Nat} (hj : j < 256) (hb : b < 256) (h : okey i j = okey a b) : i = a ∧ j = b := by
  unfold okey at h; omega

/-- An action on a CMD object whose index is served and that is not busy. -/
theorem State.onCmd_at {s : State} {path i j : Nat} (hj : j < 256) (act : State → State) (h : s.access path i = 0)
    (hb : s.obj (okey i j) ≠ 1) : s.onCmd path (okey i j) act = act s :=
  State.onCmd_served act (by rw [okey_div _ hj]; exact h) hb

/-- A write to an object whose index is served. -/
theorem State.onWrite_at {s : State} {path i j : Nat} (hj : j < 256) (act : State → State) (h : s.access path i = 0) :
    s.onWrite path (okey i j) none act = act s :=
  State.onWrite_served act (by rw [okey_div _ hj]; exact h)

/-! ### Dispatch -/

/-- What a dispatch through a queue does when the command may go. -/
theorem State.dispatch_ok {s t : State} {sh : Shell} {op : Nat} {q : Head → QueueId} {h : Head} {f : Flight}
    {check : Head → Except State (Flight × State)} (hr : s.readyHead sh op q = some h) (hc : check h = .ok (f, t)) :
    s.dispatch sh op q check = ((t.acquire h).launch { f with pos := (s.stream h.ctx h.owner).pos }).restCheck h.ctx := by
  simp [State.dispatch, hr, hc]

/-- What a command without a queue entry does when it may go. -/
theorem State.dispatchNow_ok {s t : State} {sh : Shell} {op : Nat} {h : Head} {check : Head → Except State State}
    (hr : s.readyHead sh op (fun _ => .none) = some h) (hc : check h = .ok t) :
    s.dispatchNow sh op check = (((t.acquire h).issuePost h.ctx h.owner h.w).freeEnded h.ctx h.owner).restCheck h.ctx := by
  simp [State.dispatchNow, hr, hc]

/-- A command that may start is dispatched and queued, and is the one that its number names. -/
theorem State.startable_flight {s : State} {id op : Nat} {f : Flight} (h : s.startable id op = some f) :
    s.flight id = some f ∧ f.op = op ∧ f.phase = .queued := by
  unfold State.startable at h
  split at h
  · simp at h
  · next g hg =>
    split at h
    · next hc =>
      simp only [Option.some.injEq] at h; subst h
      simp only [Bool.and_eq_true, decide_eq_true_eq] at hc
      exact ⟨hg, hc.1.1.1.1, hc.1.1.1.2⟩
    · simp at h

end Sys2Proof.Machine
end

