-- ==== Sys2Proof/Laws/Engine.lean ====
section
/-!
SUPPORT. Tiles: what a changed tile reads, what one row issue writes, and which head a dispatch takes.
-/

namespace Sys2Proof.Machine

theorem Tab.get_mem {α : Type} {d : α} {t : Tab α} {k : Nat} (h : Tab.get d t k ≠ d) : (k, Tab.get d t k) ∈ t := by
  induction t with
  | nil => exact absurd rfl h
  | cons e t ih =>
    obtain ⟨a, v⟩ := e
    simp only [Tab.get] at *
    split
    · next hh => subst hh; simp
    · next hh => rw [if_neg hh] at h; exact List.mem_cons_of_mem _ (ih h)

/-- A head that may dispatch is the shell's head, carries the opcode and is not barred. -/
theorem State.readyHead_head {s : State} {sh : Shell} {op : Nat} {q : Head → QueueId} {h : Head}
    (hr : s.readyHead sh op q = some h) : s.head sh = some h ∧ fld h.w 127 120 = op ∧ s.barred h = false := by
  unfold State.readyHead at hr
  split at hr
  · cases hr
  · next h' he =>
    split at hr
    · next hc =>
      simp only [Option.some.injEq] at hr; subst hr
      simp only [Bool.and_eq_true, decide_eq_true_eq, Bool.not_eq_true'] at hc
      exact ⟨he, hc.1.1.1.1, hc.1.1.1.2⟩
    · cases hr

@[simp] theorem State.tile_updTile_same (s : State) (n k : Nat) (f : Tile → Tile) :
    (s.updTile n k f).tile n k = f (s.tile n k) := by
  simp [State.tile, State.updTile, Tab.get_update_same]

theorem State.tile_updTile_other (s : State) {n k k' : Nat} (f : Tile → Tile) (h : k' ≠ k) :
    (s.updTile n k f).tile n k' = s.tile n k' := by
  simp [State.tile, State.updTile, Tab.get_update_other _ _ _ h]

/-- A tile reads the same in states with the same cores. -/
theorem State.tile_congr {s t : State} (h : s.cores = t.cores) (n k : Nat) : s.tile n k = t.tile n k := by
  simp only [State.tile, State.core, h]

theorem Tile.foldl_writeRow (i : Nat) (l : List (Nat × F32 × Bool)) (t : Tile) (x : Nat) :
    let r := l.foldl (fun u e =>
      let v : Tile := { u with els := Tab.put 0 u.els (64 * i + e.1) e.2.1 }
      if e.2.2 then v.overflow (signOf e.2.1) (64 * i + e.1) else v) t
    r.st = t.st ∧ r.owner = t.owner ∧ ((∀ e ∈ l, x ≠ 64 * i + e.1) → Tab.get 0 r.els x = Tab.get 0 t.els x)
    ∧ (l.Pairwise (fun a b => a.1 ≠ b.1) → ∀ e ∈ l, x = 64 * i + e.1 → Tab.get 0 r.els x = e.2.1) := by
  induction l generalizing t with
  | nil => simp
  | cons a l ih =>
    dsimp only [List.foldl_cons]
    obtain ⟨h1, h2, h3, h4⟩ := ih (if a.2.2 then ({ t with els := Tab.put 0 t.els (64 * i + a.1) a.2.1 } : Tile).overflow
      (signOf a.2.1) (64 * i + a.1) else { t with els := Tab.put 0 t.els (64 * i + a.1) a.2.1 })
    have e1 : (if a.2.2 then ({ t with els := Tab.put 0 t.els (64 * i + a.1) a.2.1 } : Tile).overflow (signOf a.2.1)
        (64 * i + a.1) else { t with els := Tab.put 0 t.els (64 * i + a.1) a.2.1 }).els
        = Tab.put 0 t.els (64 * i + a.1) a.2.1 := by
      split <;> rfl
    refine ⟨?_, ?_, ?_, ?_⟩
    · rw [h1]; split <;> rfl
    · rw [h2]; split <;> rfl
    · intro hn
      rw [h3 (fun e he => hn e (List.mem_cons_of_mem _ he)), e1, Tab.get_put_other _ _ (hn a (by simp))]
    · intro hp e he hx
      rw [List.pairwise_cons] at hp
      rcases List.mem_cons.1 he with rfl | he
      · rw [h3, e1, hx, Tab.get_put_same]
        intro e' he' hc
        have := hp.1 e' he'
        omega
      · exact h4 hp.2 e he hx

/-- Writing a row of a tile sets that row's elements, and no other element, state or owner (R76). -/
theorem Tile.writeRow_els (t : Tile) (i : Nat) (row : List (F32 × Bool)) :
    (t.writeRow i row).st = t.st ∧ (t.writeRow i row).owner = t.owner
    ∧ (∀ j (h : j < row.length), Tab.get 0 (t.writeRow i row).els (64 * i + j) = row[j].1)
    ∧ (∀ x, (x < 64 * i ∨ 64 * i + row.length ≤ x) →
        Tab.get 0 (t.writeRow i row).els x = Tab.get 0 t.els x) := by
  have hp : (row.mapIdx (fun c x => (c, x))).Pairwise (fun a b => a.1 ≠ b.1) := by
    rw [List.pairwise_iff_getElem]
    intro a b ha hb hab
    simp; omega
  refine ⟨(foldl_writeRow i _ t 0).1, (foldl_writeRow i _ t 0).2.1, fun j h => ?_, fun x hx => ?_⟩
  · refine (foldl_writeRow i _ t (64 * i + j)).2.2.2 hp (j, row[j]) ?_ rfl
    rw [List.mem_iff_getElem]
    exact ⟨j, by simpa using h, by simp⟩
  · refine (foldl_writeRow i _ t x).2.2.1 ?_
    intro e he
    rw [List.mem_iff_getElem] at he
    obtain ⟨j, hj, rfl⟩ := he
    simp at hj ⊢; omega

end Sys2Proof.Machine
end

