-- ==== Sys2Proof/Laws/Mem.lean ====
section
/-!
SUPPORT. The laws of byte memories: every operation keeps the canonical form, and a write changes the bytes it writes and
no other.
-/

namespace Sys2Proof.Machine

theorem cellsSorted_iff (l : List Host.Cell) : cellsSorted l = true ↔ l.Pairwise (fun a b => a.1 < b.1) := by
  induction l with
  | nil => simp [cellsSorted]
  | cons c t ih =>
    cases t with
    | nil => simp [cellsSorted]
    | cons d t =>
      rw [List.pairwise_cons, ← ih]
      simp only [cellsSorted, Bool.and_eq_true, decide_eq_true_eq]
      constructor
      · rintro ⟨h1, h2⟩
        refine ⟨fun e he => ?_, h2⟩
        rcases List.mem_cons.1 he with rfl | he
        · exact h1
        · exact lt_trans h1 ((List.pairwise_cons.1 (ih.1 h2)).1 e he)
      · rintro ⟨h1, h2⟩; exact ⟨h1 d (by simp), h2⟩

/-- The canonical form in words. -/
theorem Mem.wf_iff (m : Mem) : m.wf = true ↔ m.cells.Pairwise (fun a b => a.1 < b.1) ∧
    (∀ c ∈ m.cells, c.2 ≠ 0) ∧ ∀ c ∈ m.cells, ∀ h ∈ m.holes, h.has c.1 = false := by
  simp only [Mem.wf, Bool.and_eq_true, cellsSorted_iff, List.all_eq_true, decide_eq_true_eq, Bool.not_eq_true']
  constructor
  · rintro ⟨h1, h2⟩; exact ⟨h1, fun c hc => (h2 c hc).1, fun c hc => (h2 c hc).2⟩
  · rintro ⟨h1, h2, h3⟩; exact ⟨h1, fun c hc => ⟨h2 c hc, h3 c hc⟩⟩

@[simp] theorem Mem.wf_empty : ({} : Mem).wf = true := rfl

/-- What a cut leaves of a hole lies in the hole and outside the range. -/
theorem Hole.has_cut {lo n a : Nat} {h x : Hole} (hx : x ∈ h.cut lo n) (ha : x.has a = true) :
    h.has a = true ∧ (a < lo ∨ lo + n ≤ a) := by
  simp only [Hole.cut, List.mem_filter, List.mem_cons, List.not_mem_nil, or_false] at hx
  rcases hx with ⟨rfl | rfl, _⟩ <;> simp [Hole.has] at ha ⊢ <;> omega

/-- An address that a cut hole keeps was in a hole before, and lies outside the range unless the range is empty. -/
theorem cutHoles_has {lo n a : Nat} {hs : List Hole} {x : Hole} (hx : x ∈ cutHoles lo n hs) (ha : x.has a = true) :
    (∃ h ∈ hs, h.has a = true) ∧ (n = 0 ∨ a < lo ∨ lo + n ≤ a) := by
  unfold cutHoles at hx
  split at hx
  · exact ⟨⟨x, hx, ha⟩, .inl ‹_›⟩
  · obtain ⟨h, hh, hx⟩ := List.mem_flatMap.1 hx
    have := Hole.has_cut hx ha
    exact ⟨⟨h, hh, this.1⟩, .inr this.2⟩

/-- Replacing a range by cells and holes that lie in it keeps the canonical form. -/
theorem Mem.splice_wf {m : Mem} {lo n : Nat} {cs : List Host.Cell} {hs : List Hole} (hm : m.wf = true)
    (hc : cs.Pairwise (fun a b => a.1 < b.1)) (hn : ∀ c ∈ cs, c.2 ≠ 0) (hr : ∀ c ∈ cs, lo ≤ c.1 ∧ c.1 < lo + n)
    (hh : ∀ h ∈ hs, ∀ a, h.has a = true → lo ≤ a ∧ a < lo + n)
    (hd : ∀ c ∈ cs, ∀ h ∈ hs, h.has c.1 = false) : (m.splice lo n cs hs).wf = true := by
  obtain ⟨h1, h2, h3⟩ := (Mem.wf_iff m).1 hm
  rw [Mem.wf_iff]
  simp only [Mem.splice, List.pairwise_append, List.mem_append, List.mem_filter, decide_eq_true_eq]
  refine ⟨⟨⟨h1.filter _, hc, ?_⟩, h1.filter _, ?_⟩, ?_, ?_⟩
  · rintro a ⟨_, ha⟩ b hb; have := hr b hb; omega
  · rintro a (⟨_, ha⟩ | ha) b ⟨_, hb⟩
    · omega
    · have := hr a ha; omega
  · rintro c ((⟨hc', _⟩ | hc') | ⟨hc', _⟩)
    · exact h2 c hc'
    · exact hn c hc'
    · exact h2 c hc'
  · rintro c hc' h (hh' | hh')
    · by_contra hne
      have ht : h.has c.1 = true := by simpa using hne
      obtain ⟨⟨g, hg, hg'⟩, ho⟩ := cutHoles_has hh' ht
      rcases hc' with (⟨hc', _⟩ | hc') | ⟨hc', _⟩
      · simp [h3 c hc' g hg] at hg'
      · have := hr c hc'; omega
      · simp [h3 c hc' g hg] at hg'
    · rcases hc' with (⟨_, hlt⟩ | hc') | ⟨_, hlt⟩
      · by_contra hne
        have := hh h hh' c.1 (by simpa using hne); omega
      · exact hd c hc' h hh'
      · by_contra hne
        have := hh h hh' c.1 (by simpa using hne); omega

theorem freshCells_props (a : Nat) (bs : List Nat) :
    (freshCells a bs).Pairwise (fun x y => x.1 < y.1) ∧ (∀ c ∈ freshCells a bs, c.2 ≠ 0) ∧
    ∀ c ∈ freshCells a bs, a ≤ c.1 ∧ c.1 < a + bs.length := by
  induction bs generalizing a with
  | nil => simp [freshCells]
  | cons b t ih =>
    obtain ⟨h1, h2, h3⟩ := ih (a + 1)
    by_cases hb : b % 256 = 0
    · simp only [freshCells, hb, if_true, List.length_cons]
      exact ⟨h1, h2, fun c hc => by have := h3 c hc; omega⟩
    · simp only [freshCells, hb, if_false, List.length_cons, List.pairwise_cons, List.mem_cons]
      refine ⟨⟨fun c hc => by have := h3 c hc; omega, h1⟩, ?_, ?_⟩
      · rintro c (rfl | hc)
        · intro h
          have := congrArg BitVec.toNat h
          simp at this; omega
        · exact h2 c hc
      · rintro c (rfl | hc)
        · simp
        · have := h3 c hc; omega

/-- Writing bytes keeps the canonical form. -/
theorem Mem.writeBytes_wf {m : Mem} (a : Nat) (bs : List Nat) (h : m.wf = true) : (m.writeBytes a bs).wf = true := by
  obtain ⟨h1, h2, h3⟩ := freshCells_props a bs
  exact Mem.splice_wf h h1 h2 h3 (by simp) (by simp)

theorem Mem.write_wf {m : Mem} (a b : Nat) (h : m.wf = true) : (m.write a b).wf = true := Mem.writeBytes_wf a [b] h

theorem Mem.writeLe_wf {m : Mem} (a n x : Nat) (h : m.wf = true) : (m.writeLe a n x).wf = true :=
  Mem.writeBytes_wf a _ h

/-- Clearing a range keeps the canonical form. -/
theorem Mem.zero_wf {m : Mem} (lo n : Nat) (h : m.wf = true) : (m.zero lo n).wf = true :=
  Mem.splice_wf h (by simp) (by simp) (by simp) (by simp) (by simp)

/-- Losing the contents of a range keeps the canonical form. -/
theorem Mem.lose_wf {m : Mem} (lo n seed : Nat) (h : m.wf = true) : (m.lose lo n seed).wf = true := by
  refine Mem.splice_wf h (by simp) (by simp) (by simp) ?_ (by simp)
  intro x hx a ha
  split at hx
  · simp at hx
  · simp only [List.mem_singleton] at hx; subst hx; simpa [Hole.has] using ha

theorem Hole.has_moved {lo n dlo a : Nat} {h x : Hole} (hx : x ∈ h.moved lo n dlo) (ha : x.has a = true) :
    dlo ≤ a ∧ a < dlo + n ∧ h.has (lo + (a - dlo)) = true := by
  simp only [Hole.moved] at hx
  split at hx
  · simp only [List.mem_singleton] at hx; subst hx
    simp [Hole.has] at ha ⊢
    omega
  · simp at hx

/-- Copying between canonical memories keeps the canonical form. -/
theorem Mem.copy_wf {src dst : Mem} (lo n dlo : Nat) (hs : src.wf = true) (hd : dst.wf = true) :
    (src.copy lo n dst dlo).wf = true := by
  obtain ⟨h1, h2, h3⟩ := (Mem.wf_iff src).1 hs
  refine Mem.splice_wf hd ?_ ?_ ?_ ?_ ?_
  · refine List.pairwise_map.2 ((h1.filter _).imp_of_mem ?_)
    intro a b ha hb hab
    simp only [List.mem_filter, Bool.and_eq_true, decide_eq_true_eq] at ha hb
    simp only; omega
  · intro c hc
    obtain ⟨d, hd', rfl⟩ := List.mem_map.1 hc
    exact h2 d (List.mem_filter.1 hd').1
  · intro c hc
    obtain ⟨d, hd', rfl⟩ := List.mem_map.1 hc
    have := (List.mem_filter.1 hd').2
    simp only [Bool.and_eq_true, decide_eq_true_eq] at this
    simp only; omega
  · intro h hh a ha
    obtain ⟨g, _, hg'⟩ := List.mem_flatMap.1 hh
    have := Hole.has_moved hg' ha
    exact ⟨this.1, this.2.1⟩
  · intro c hc h hh
    obtain ⟨d, hd', rfl⟩ := List.mem_map.1 hc
    obtain ⟨g, hg, hg'⟩ := List.mem_flatMap.1 hh
    have hr := (List.mem_filter.1 hd').2
    simp only [Bool.and_eq_true, decide_eq_true_eq] at hr
    by_contra hne
    have := (Hole.has_moved hg' (by simpa using hne)).2.2
    rw [show lo + (dlo + (d.1 - lo) - dlo) = d.1 by omega] at this
    simp [h3 d (List.mem_filter.1 hd').1 g hg] at this

/-! ### A read after a write -/

theorem find_filter {l : List Host.Cell} {a : Nat} (p : Nat → Bool) (h : p a = true) :
    (l.filter (fun c => p c.1)).find? (fun c => c.1 = a) = l.find? (fun c => c.1 = a) := by
  induction l with
  | nil => rfl
  | cons c t ih =>
    by_cases ha : c.1 = a
    · subst ha; simp [h]
    · by_cases hc : p c.1 = true
      · simp only [List.filter_cons, hc, if_true, List.find?_cons, ha, decide_false, ih]
      · simp only [List.filter_cons, hc, List.find?_cons, ha, decide_false, ← ih]; simp

theorem find_none_of {l : List Host.Cell} {a : Nat} (h : ∀ c ∈ l, c.1 ≠ a) : l.find? (fun c => c.1 = a) = none := by
  rw [List.find?_eq_none]; intro c hc; simpa using h c hc

/-- The byte that holes give at an address. -/
def holeByte (hs : List Hole) (a : Nat) : Byte :=
  match hs.find? (fun h => h.has a) with
  | some h => Config.freeByte h.seed (a - h.lo + h.off)
  | none => 0

theorem Mem.read_eq (m : Mem) (a : Nat) :
    m.read a = match m.cells.find? (fun c => c.1 = a) with | some c => c.2 | none => holeByte m.holes a := rfl

theorem holeByte_cons (h : Hole) (hs : List Hole) (a : Nat) :
    holeByte (h :: hs) a = if h.has a then Config.freeByte h.seed (a - h.lo + h.off) else holeByte hs a := by
  unfold holeByte
  by_cases hh : h.has a = true <;> simp [hh]

theorem holeByte_append_none {xs ys : List Hole} {a : Nat} (h : ∀ y ∈ ys, y.has a = false) :
    holeByte (xs ++ ys) a = holeByte xs a := by
  induction xs with
  | nil =>
    have : ys.find? (fun h => h.has a) = none := by
      rw [List.find?_eq_none]; intro y hy; simp [h y hy]
    simp [holeByte, this]
  | cons x xs ih => rw [List.cons_append, holeByte_cons, holeByte_cons, ih]

theorem holeByte_cut {lo n a : Nat} (h : Hole) (rest : List Hole) (ho : a < lo ∨ lo + n ≤ a) :
    holeByte (h.cut lo n ++ rest) a = if h.has a then Config.freeByte h.seed (a - h.lo + h.off) else holeByte rest a := by
  have key : ∀ (p q : Hole), holeByte ([p, q].filter (fun x => x.len ≠ 0) ++ rest) a =
      if p.has a then Config.freeByte p.seed (a - p.lo + p.off)
      else if q.has a then Config.freeByte q.seed (a - q.lo + q.off) else holeByte rest a := by
    intro p q
    have hz : ∀ x : Hole, x.len = 0 → x.has a = false := by
      intro x hx; simp [Hole.has, hx]
    by_cases hp : p.len = 0 <;> by_cases hq : q.len = 0 <;>
      simp [hp, hq, holeByte_cons, hz]
  unfold Hole.cut
  rw [key]
  by_cases hh : h.has a = true
  · rw [if_pos hh]
    simp only [Hole.has, Bool.and_eq_true, decide_eq_true_eq] at hh ⊢
    rcases ho with ho | ho
    · rw [if_pos (by omega)]
    · rw [if_neg (by omega), if_pos (by omega)]
      congr 1; omega
  · rw [if_neg hh]
    simp only [Hole.has, Bool.and_eq_true, decide_eq_true_eq] at hh ⊢
    rw [if_neg (by omega), if_neg (by omega)]

theorem holeByte_cutHoles {lo n a : Nat} (hs : List Hole) (ho : n = 0 ∨ a < lo ∨ lo + n ≤ a) :
    holeByte (cutHoles lo n hs) a = holeByte hs a := by
  unfold cutHoles
  split
  · rfl
  · have ho : a < lo ∨ lo + n ≤ a := ho.resolve_left ‹_›
    induction hs with
    | nil => rfl
    | cons h hs ih => rw [List.flatMap_cons, holeByte_cut h _ ho, holeByte_cons, ih]

/-- Outside the range, a replacement leaves every byte alone. -/
theorem Mem.read_splice_other {m : Mem} {lo n a : Nat} {cs : List Host.Cell} {hs : List Hole}
    (ho : a < lo ∨ lo + n ≤ a) (hc : ∀ c ∈ cs, c.1 ≠ a) (hh : ∀ h ∈ hs, h.has a = false) :
    (m.splice lo n cs hs).read a = m.read a := by
  rw [Mem.read_eq, Mem.read_eq]
  have h1 : (m.splice lo n cs hs).cells.find? (fun c => c.1 = a) = m.cells.find? (fun c => c.1 = a) := by
    simp only [Mem.splice, List.find?_append]
    rcases ho with h | h
    · have e1 := find_filter (l := m.cells) (a := a) (fun x => x < lo) (by simpa using h)
      have e2 : cs.find? (fun c => c.1 = a) = none := find_none_of hc
      have e3 : (m.cells.filter (fun c => lo + n ≤ c.1)).find? (fun c => c.1 = a) = none := by
        apply find_none_of; intro c hc'
        have := (List.mem_filter.1 hc').2
        simp only [decide_eq_true_eq] at this; omega
      rw [e1, e2, e3]; simp
    · have e1 := find_filter (l := m.cells) (a := a) (fun x => lo + n ≤ x) (by simpa using h)
      have e2 : cs.find? (fun c => c.1 = a) = none := find_none_of hc
      have e3 : (m.cells.filter (fun c => c.1 < lo)).find? (fun c => c.1 = a) = none := by
        apply find_none_of; intro c hc'
        have := (List.mem_filter.1 hc').2
        simp only [decide_eq_true_eq] at this; omega
      rw [e1, e2, e3]; simp
  rw [h1]
  have h2 : holeByte (m.splice lo n cs hs).holes a = holeByte m.holes a := by
    simp only [Mem.splice]
    rw [holeByte_append_none hh, holeByte_cutHoles _ (.inr ho)]
  rw [h2]

/-- Writing bytes leaves every other byte alone. -/
theorem Mem.read_writeBytes_other {m : Mem} {a b : Nat} {bs : List Nat} (h : b < a ∨ a + bs.length ≤ b) :
    (m.writeBytes a bs).read b = m.read b :=
  Mem.read_splice_other h (fun c hc => by have := (freshCells_props a bs).2.2 c hc; omega) (by simp)

theorem find_freshCells (a : Nat) (bs : List Nat) (k : Nat) (hk : k < bs.length) :
    (freshCells a bs).find? (fun c => c.1 = a + k) =
      if bs[k] % 256 = 0 then none else some (a + k, BitVec.ofNat 8 bs[k]) := by
  induction bs generalizing a k with
  | nil => simp at hk
  | cons b t ih =>
    cases k with
    | zero =>
      by_cases hb : b % 256 = 0
      · simp only [freshCells, hb, if_true, List.getElem_cons_zero]
        exact find_none_of (fun c hc => by have := (freshCells_props (a + 1) t).2.2 c hc; omega)
      · simp [freshCells, hb]
    | succ k =>
      have hk' : k < t.length := by simpa using hk
      have := ih (a + 1) k hk'
      rw [show a + 1 + k = a + (k + 1) by omega] at this
      by_cases hb : b % 256 = 0
      · simpa [freshCells, hb] using this
      · simpa [freshCells, hb] using this

/-- A read of a byte just written gives it. -/
theorem Mem.read_writeBytes_same {m : Mem} {a k : Nat} {bs : List Nat} (hk : k < bs.length) :
    (m.writeBytes a bs).read (a + k) = BitVec.ofNat 8 bs[k] := by
  rw [Mem.read_eq]
  have hl : (m.cells.filter (fun c => c.1 < a)).find? (fun c => c.1 = a + k) = none :=
    find_none_of (fun c hc => by have := (List.mem_filter.1 hc).2; simp only [decide_eq_true_eq] at this; omega)
  have hr : (m.cells.filter (fun c => a + bs.length ≤ c.1)).find? (fun c => c.1 = a + k) = none :=
    find_none_of (fun c hc => by have := (List.mem_filter.1 hc).2; simp only [decide_eq_true_eq] at this; omega)
  have hf := find_freshCells a bs k hk
  have he : (m.writeBytes a bs).cells.find? (fun c => c.1 = a + k) =
      if bs[k] % 256 = 0 then none else some (a + k, BitVec.ofNat 8 bs[k]) := by
    simp only [Mem.writeBytes, Mem.splice, List.find?_append, hl, hf, hr]; simp
  rw [he]
  split
  · next h0 =>
    split at h0
    · simp at h0
    · simp only [Option.some.injEq] at h0; subst h0; rfl
  · next h0 =>
    split at h0
    · next hz =>
      have : holeByte (m.writeBytes a bs).holes (a + k) = 0 := by
        have hno : ∀ x ∈ (m.writeBytes a bs).holes, x.has (a + k) = false := by
          intro x hx
          by_contra hne
          simp only [Mem.writeBytes, Mem.splice, List.append_nil] at hx
          have := (cutHoles_has hx (by simpa using hne)).2
          omega
        have := holeByte_append_none (xs := []) hno
        simpa [holeByte] using this
      rw [this]
      apply BitVec.eq_of_toNat_eq; simp [hz]
    · simp at h0

end Sys2Proof.Machine
end

