-- ==== Sys2Proof/Laws/Keeps1.lean ====
section
/-!
SUPPORT. What every operation of the machine keeps: the queue of commands, what has left the module, the canonical form of
the memories, and counters of numbers in use that never go back.
-/

set_option linter.all false

namespace Sys2Proof.Machine

/-- What holds of a state s that operations have reached from r. -/
structure Keeps (r s : State) : Prop where
  pending : s.pending = r.pending
  out : r.out <+: s.out
  free : r.free ≤ s.free
  nextId : r.nextId ≤ s.nextId
  mem : r.memWf = true → s.memWf = true
  bank : r.firmware.oneActive = true → s.firmware.oneActive = true

theorem Keeps.refl (s : State) : Keeps s s := ⟨rfl, List.prefix_refl _, le_refl _, le_refl _, id, id⟩

/-- A change of other fields keeps it. -/
theorem Keeps.lit {r t : State} (h : Keeps r t)
    {objs : Tab Nat} {pobjs : Tab Nat} {cores : Tab Core} {streams : Tab Stream} {tok : Tab Ctr} {acq : Tab Ctr} {cred : Tab Ctr} {posts : List Post} {flights : List Flight} {turns : Tab Nat} {work : Tab Nat} {ctxs : Tab Ctx} {descs : Tab DescEntry} {allocs : Tab Alloc} {tmap : Tab Region} {frames : Tab FrameUse} {hostWins : Tab Nat} {ftl : Tab FlashBlock} {faults : FaultState} {captures : List Capture} {scaler : Tab ScalerSlot} {scalerC : Tab ScalerCtx} {scalerQ : List ScalerIn} {msixOpen : Tab Bool} {msixPend : Tab Bool} {env : Env} {isolated : Option Nat} {downUnits : List Nat} {links : Tab Link} {colls : List CollStep} {members : Tab Nat} {beatTurn : Tab Nat} {slots : Tab Slot} {ustreams : Tab UStream} {portQ : List Granule} {rxBuf : List Granule} {stepPin : Tab Nat} {commits : List (Nat × Nat × Nat)} {reqs : List (Nat × Nat)} {tierQ : List TierReq} {serving : Tab Serving} {dumps : Tab DumpSlot} {snag : SnagState} {boot : Boot} {power : Power} {segs : Tab Seg} {sess : Tab Session} {bdpQ : List BdpReq} {notified : Tab Nat} {d3hot : Bool} {stepRun : Tab Nat} {snaps : Tab (List (Nat × Nat))} {seqNo : Nat} :
    Keeps r { objs := objs, pobjs := pobjs, cores := cores, streams := streams, tok := tok, acq := acq, cred := cred, posts := posts, flights := flights, turns := turns, work := work, ctxs := ctxs, descs := descs, allocs := allocs, tmap := tmap, frames := frames, hostWins := hostWins, ftl := ftl, faults := faults, captures := captures, scaler := scaler, scalerC := scalerC, scalerQ := scalerQ, msixOpen := msixOpen, msixPend := msixPend, env := env, isolated := isolated, downUnits := downUnits, links := links, colls := colls, members := members, beatTurn := beatTurn, slots := slots, ustreams := ustreams, portQ := portQ, rxBuf := rxBuf, stepPin := stepPin, commits := commits, reqs := reqs, tierQ := tierQ, serving := serving, dumps := dumps, snag := snag, boot := boot, power := power, segs := segs, sess := sess, bdpQ := bdpQ, notified := notified, d3hot := d3hot, stepRun := stepRun, snaps := snaps, seqNo := seqNo, landing := t.landing, ddr := t.ddr, flash := t.flash, host := t.host, firmware := t.firmware, free := t.free, nextId := t.nextId, out := t.out, pending := t.pending } :=
  ⟨h.pending, h.out, h.free, h.nextId, h.mem, h.bank⟩

theorem keeps_id {r t : State} (h : Keeps r t) : Keeps r (id t) := h

theorem Keeps.foldl {α : Type} {r : State} {f : State → α → State} {l : List α} {s : State}
    (h : ∀ t x, Keeps r t → Keeps r (f t x)) (hs : Keeps r s) : Keeps r (l.foldl f s) := by
  induction l generalizing s with
  | nil => exact hs
  | cons a l ih => exact ih (h s a hs)

theorem Keeps.foldr {α : Type} {r : State} {f : α → State → State} {l : List α} {s : State}
    (h : ∀ t x, Keeps r t → Keeps r (f x t)) (hs : Keeps r s) : Keeps r (l.foldr f s) := by
  induction l with
  | nil => exact hs
  | cons a l ih => exact h _ a ih

theorem Keeps.send {r t : State} (h : Keeps r t) {objs : Tab Nat} {pobjs : Tab Nat} {cores : Tab Core} {streams : Tab Stream} {tok : Tab Ctr} {acq : Tab Ctr} {cred : Tab Ctr} {posts : List Post} {flights : List Flight} {turns : Tab Nat} {work : Tab Nat} {ctxs : Tab Ctx} {descs : Tab DescEntry} {allocs : Tab Alloc} {tmap : Tab Region} {frames : Tab FrameUse} {hostWins : Tab Nat} {ftl : Tab FlashBlock} {faults : FaultState} {captures : List Capture} {scaler : Tab ScalerSlot} {scalerC : Tab ScalerCtx} {scalerQ : List ScalerIn} {msixOpen : Tab Bool} {msixPend : Tab Bool} {env : Env} {isolated : Option Nat} {downUnits : List Nat} {links : Tab Link} {colls : List CollStep} {members : Tab Nat} {beatTurn : Tab Nat} {slots : Tab Slot} {ustreams : Tab UStream} {portQ : List Granule} {rxBuf : List Granule} {stepPin : Tab Nat} {commits : List (Nat × Nat × Nat)} {reqs : List (Nat × Nat)} {tierQ : List TierReq} {serving : Tab Serving} {dumps : Tab DumpSlot} {snag : SnagState} {boot : Boot} {power : Power} {segs : Tab Seg} {sess : Tab Session} {bdpQ : List BdpReq} {notified : Tab Nat} {d3hot : Bool} {stepRun : Tab Nat} {snaps : Tab (List (Nat × Nat))} {seqNo : Nat} {xs : List Output} :
    Keeps r { objs := objs, pobjs := pobjs, cores := cores, streams := streams, tok := tok, acq := acq, cred := cred, posts := posts, flights := flights, turns := turns, work := work, ctxs := ctxs, descs := descs, allocs := allocs, tmap := tmap, frames := frames, hostWins := hostWins, ftl := ftl, faults := faults, captures := captures, scaler := scaler, scalerC := scalerC, scalerQ := scalerQ, msixOpen := msixOpen, msixPend := msixPend, env := env, isolated := isolated, downUnits := downUnits, links := links, colls := colls, members := members, beatTurn := beatTurn, slots := slots, ustreams := ustreams, portQ := portQ, rxBuf := rxBuf, stepPin := stepPin, commits := commits, reqs := reqs, tierQ := tierQ, serving := serving, dumps := dumps, snag := snag, boot := boot, power := power, segs := segs, sess := sess, bdpQ := bdpQ, notified := notified, d3hot := d3hot, stepRun := stepRun, snaps := snaps, seqNo := seqNo, landing := t.landing, ddr := t.ddr, flash := t.flash, host := t.host, firmware := t.firmware, free := t.free, nextId := t.nextId, out := t.out ++ xs, pending := t.pending } :=
  ⟨h.pending, h.out.trans (List.prefix_append _ _), h.free, h.nextId, h.mem, h.bank⟩

theorem Keeps.draw {r t : State} {n : Nat} (h : Keeps r t) {objs : Tab Nat} {pobjs : Tab Nat} {cores : Tab Core} {streams : Tab Stream} {tok : Tab Ctr} {acq : Tab Ctr} {cred : Tab Ctr} {posts : List Post} {flights : List Flight} {turns : Tab Nat} {work : Tab Nat} {ctxs : Tab Ctx} {descs : Tab DescEntry} {allocs : Tab Alloc} {tmap : Tab Region} {frames : Tab FrameUse} {hostWins : Tab Nat} {ftl : Tab FlashBlock} {faults : FaultState} {captures : List Capture} {scaler : Tab ScalerSlot} {scalerC : Tab ScalerCtx} {scalerQ : List ScalerIn} {msixOpen : Tab Bool} {msixPend : Tab Bool} {env : Env} {isolated : Option Nat} {downUnits : List Nat} {links : Tab Link} {colls : List CollStep} {members : Tab Nat} {beatTurn : Tab Nat} {slots : Tab Slot} {ustreams : Tab UStream} {portQ : List Granule} {rxBuf : List Granule} {stepPin : Tab Nat} {commits : List (Nat × Nat × Nat)} {reqs : List (Nat × Nat)} {tierQ : List TierReq} {serving : Tab Serving} {dumps : Tab DumpSlot} {snag : SnagState} {boot : Boot} {power : Power} {segs : Tab Seg} {sess : Tab Session} {bdpQ : List BdpReq} {notified : Tab Nat} {d3hot : Bool} {stepRun : Tab Nat} {snaps : Tab (List (Nat × Nat))} {seqNo : Nat} :
    Keeps r { objs := objs, pobjs := pobjs, cores := cores, streams := streams, tok := tok, acq := acq, cred := cred, posts := posts, flights := flights, turns := turns, work := work, ctxs := ctxs, descs := descs, allocs := allocs, tmap := tmap, frames := frames, hostWins := hostWins, ftl := ftl, faults := faults, captures := captures, scaler := scaler, scalerC := scalerC, scalerQ := scalerQ, msixOpen := msixOpen, msixPend := msixPend, env := env, isolated := isolated, downUnits := downUnits, links := links, colls := colls, members := members, beatTurn := beatTurn, slots := slots, ustreams := ustreams, portQ := portQ, rxBuf := rxBuf, stepPin := stepPin, commits := commits, reqs := reqs, tierQ := tierQ, serving := serving, dumps := dumps, snag := snag, boot := boot, power := power, segs := segs, sess := sess, bdpQ := bdpQ, notified := notified, d3hot := d3hot, stepRun := stepRun, snaps := snaps, seqNo := seqNo, landing := t.landing, ddr := t.ddr, flash := t.flash, host := t.host, firmware := t.firmware, free := t.free + n, nextId := t.nextId, out := t.out, pending := t.pending } :=
  ⟨h.pending, h.out, le_trans h.free (Nat.le_add_right _ _), h.nextId, h.mem, h.bank⟩

theorem Keeps.number {r t : State} {n : Nat} (h : Keeps r t) {objs : Tab Nat} {pobjs : Tab Nat} {cores : Tab Core} {streams : Tab Stream} {tok : Tab Ctr} {acq : Tab Ctr} {cred : Tab Ctr} {posts : List Post} {flights : List Flight} {turns : Tab Nat} {work : Tab Nat} {ctxs : Tab Ctx} {descs : Tab DescEntry} {allocs : Tab Alloc} {tmap : Tab Region} {frames : Tab FrameUse} {hostWins : Tab Nat} {ftl : Tab FlashBlock} {faults : FaultState} {captures : List Capture} {scaler : Tab ScalerSlot} {scalerC : Tab ScalerCtx} {scalerQ : List ScalerIn} {msixOpen : Tab Bool} {msixPend : Tab Bool} {env : Env} {isolated : Option Nat} {downUnits : List Nat} {links : Tab Link} {colls : List CollStep} {members : Tab Nat} {beatTurn : Tab Nat} {slots : Tab Slot} {ustreams : Tab UStream} {portQ : List Granule} {rxBuf : List Granule} {stepPin : Tab Nat} {commits : List (Nat × Nat × Nat)} {reqs : List (Nat × Nat)} {tierQ : List TierReq} {serving : Tab Serving} {dumps : Tab DumpSlot} {snag : SnagState} {boot : Boot} {power : Power} {segs : Tab Seg} {sess : Tab Session} {bdpQ : List BdpReq} {notified : Tab Nat} {d3hot : Bool} {stepRun : Tab Nat} {snaps : Tab (List (Nat × Nat))} {seqNo : Nat} :
    Keeps r { objs := objs, pobjs := pobjs, cores := cores, streams := streams, tok := tok, acq := acq, cred := cred, posts := posts, flights := flights, turns := turns, work := work, ctxs := ctxs, descs := descs, allocs := allocs, tmap := tmap, frames := frames, hostWins := hostWins, ftl := ftl, faults := faults, captures := captures, scaler := scaler, scalerC := scalerC, scalerQ := scalerQ, msixOpen := msixOpen, msixPend := msixPend, env := env, isolated := isolated, downUnits := downUnits, links := links, colls := colls, members := members, beatTurn := beatTurn, slots := slots, ustreams := ustreams, portQ := portQ, rxBuf := rxBuf, stepPin := stepPin, commits := commits, reqs := reqs, tierQ := tierQ, serving := serving, dumps := dumps, snag := snag, boot := boot, power := power, segs := segs, sess := sess, bdpQ := bdpQ, notified := notified, d3hot := d3hot, stepRun := stepRun, snaps := snaps, seqNo := seqNo, landing := t.landing, ddr := t.ddr, flash := t.flash, host := t.host, firmware := t.firmware, free := t.free, nextId := t.nextId + n, out := t.out, pending := t.pending } :=
  ⟨h.pending, h.out, h.free, le_trans h.nextId (Nat.le_add_right _ _), h.mem, h.bank⟩

theorem memWf_iff (s : State) : s.memWf = true ↔
    s.landing.wf = true ∧ s.ddr.wf = true ∧ s.flash.wf = true ∧ s.host.wf = true := by
  simp [State.memWf, and_assoc]

theorem Keeps.setLanding {r t : State} (h : Keeps r t) {objs : Tab Nat} {pobjs : Tab Nat} {cores : Tab Core} {streams : Tab Stream} {tok : Tab Ctr} {acq : Tab Ctr} {cred : Tab Ctr} {posts : List Post} {flights : List Flight} {turns : Tab Nat} {work : Tab Nat} {ctxs : Tab Ctx} {descs : Tab DescEntry} {allocs : Tab Alloc} {tmap : Tab Region} {frames : Tab FrameUse} {hostWins : Tab Nat} {ftl : Tab FlashBlock} {faults : FaultState} {captures : List Capture} {scaler : Tab ScalerSlot} {scalerC : Tab ScalerCtx} {scalerQ : List ScalerIn} {msixOpen : Tab Bool} {msixPend : Tab Bool} {env : Env} {isolated : Option Nat} {downUnits : List Nat} {links : Tab Link} {colls : List CollStep} {members : Tab Nat} {beatTurn : Tab Nat} {slots : Tab Slot} {ustreams : Tab UStream} {portQ : List Granule} {rxBuf : List Granule} {stepPin : Tab Nat} {commits : List (Nat × Nat × Nat)} {reqs : List (Nat × Nat)} {tierQ : List TierReq} {serving : Tab Serving} {dumps : Tab DumpSlot} {snag : SnagState} {boot : Boot} {power : Power} {segs : Tab Seg} {sess : Tab Session} {bdpQ : List BdpReq} {notified : Tab Nat} {d3hot : Bool} {stepRun : Tab Nat} {snaps : Tab (List (Nat × Nat))} {seqNo : Nat} (m : Mem)
    (hm : t.memWf = true → m.wf = true) : Keeps r { objs := objs, pobjs := pobjs, cores := cores, streams := streams, tok := tok, acq := acq, cred := cred, posts := posts, flights := flights, turns := turns, work := work, ctxs := ctxs, descs := descs, allocs := allocs, tmap := tmap, frames := frames, hostWins := hostWins, ftl := ftl, faults := faults, captures := captures, scaler := scaler, scalerC := scalerC, scalerQ := scalerQ, msixOpen := msixOpen, msixPend := msixPend, env := env, isolated := isolated, downUnits := downUnits, links := links, colls := colls, members := members, beatTurn := beatTurn, slots := slots, ustreams := ustreams, portQ := portQ, rxBuf := rxBuf, stepPin := stepPin, commits := commits, reqs := reqs, tierQ := tierQ, serving := serving, dumps := dumps, snag := snag, boot := boot, power := power, segs := segs, sess := sess, bdpQ := bdpQ, notified := notified, d3hot := d3hot, stepRun := stepRun, snaps := snaps, seqNo := seqNo, landing := m, ddr := t.ddr, flash := t.flash, host := t.host, firmware := t.firmware, free := t.free, nextId := t.nextId, out := t.out, pending := t.pending } := by
  refine ⟨h.pending, h.out, h.free, h.nextId, fun hr => ?_, h.bank⟩
  have ht := h.mem hr
  have := (memWf_iff t).1 ht
  exact (memWf_iff _).2 ⟨hm ht, this.2⟩

theorem Keeps.setDdr {r t : State} (h : Keeps r t) {objs : Tab Nat} {pobjs : Tab Nat} {cores : Tab Core} {streams : Tab Stream} {tok : Tab Ctr} {acq : Tab Ctr} {cred : Tab Ctr} {posts : List Post} {flights : List Flight} {turns : Tab Nat} {work : Tab Nat} {ctxs : Tab Ctx} {descs : Tab DescEntry} {allocs : Tab Alloc} {tmap : Tab Region} {frames : Tab FrameUse} {hostWins : Tab Nat} {ftl : Tab FlashBlock} {faults : FaultState} {captures : List Capture} {scaler : Tab ScalerSlot} {scalerC : Tab ScalerCtx} {scalerQ : List ScalerIn} {msixOpen : Tab Bool} {msixPend : Tab Bool} {env : Env} {isolated : Option Nat} {downUnits : List Nat} {links : Tab Link} {colls : List CollStep} {members : Tab Nat} {beatTurn : Tab Nat} {slots : Tab Slot} {ustreams : Tab UStream} {portQ : List Granule} {rxBuf : List Granule} {stepPin : Tab Nat} {commits : List (Nat × Nat × Nat)} {reqs : List (Nat × Nat)} {tierQ : List TierReq} {serving : Tab Serving} {dumps : Tab DumpSlot} {snag : SnagState} {boot : Boot} {power : Power} {segs : Tab Seg} {sess : Tab Session} {bdpQ : List BdpReq} {notified : Tab Nat} {d3hot : Bool} {stepRun : Tab Nat} {snaps : Tab (List (Nat × Nat))} {seqNo : Nat} (m : Mem)
    (hm : t.memWf = true → m.wf = true) : Keeps r { objs := objs, pobjs := pobjs, cores := cores, streams := streams, tok := tok, acq := acq, cred := cred, posts := posts, flights := flights, turns := turns, work := work, ctxs := ctxs, descs := descs, allocs := allocs, tmap := tmap, frames := frames, hostWins := hostWins, ftl := ftl, faults := faults, captures := captures, scaler := scaler, scalerC := scalerC, scalerQ := scalerQ, msixOpen := msixOpen, msixPend := msixPend, env := env, isolated := isolated, downUnits := downUnits, links := links, colls := colls, members := members, beatTurn := beatTurn, slots := slots, ustreams := ustreams, portQ := portQ, rxBuf := rxBuf, stepPin := stepPin, commits := commits, reqs := reqs, tierQ := tierQ, serving := serving, dumps := dumps, snag := snag, boot := boot, power := power, segs := segs, sess := sess, bdpQ := bdpQ, notified := notified, d3hot := d3hot, stepRun := stepRun, snaps := snaps, seqNo := seqNo, landing := t.landing, ddr := m, flash := t.flash, host := t.host, firmware := t.firmware, free := t.free, nextId := t.nextId, out := t.out, pending := t.pending } := by
  refine ⟨h.pending, h.out, h.free, h.nextId, fun hr => ?_, h.bank⟩
  have ht := h.mem hr
  have := (memWf_iff t).1 ht
  exact (memWf_iff _).2 ⟨this.1, hm ht, this.2.2⟩

theorem Keeps.setFlash {r t : State} (h : Keeps r t) {objs : Tab Nat} {pobjs : Tab Nat} {cores : Tab Core} {streams : Tab Stream} {tok : Tab Ctr} {acq : Tab Ctr} {cred : Tab Ctr} {posts : List Post} {flights : List Flight} {turns : Tab Nat} {work : Tab Nat} {ctxs : Tab Ctx} {descs : Tab DescEntry} {allocs : Tab Alloc} {tmap : Tab Region} {frames : Tab FrameUse} {hostWins : Tab Nat} {ftl : Tab FlashBlock} {faults : FaultState} {captures : List Capture} {scaler : Tab ScalerSlot} {scalerC : Tab ScalerCtx} {scalerQ : List ScalerIn} {msixOpen : Tab Bool} {msixPend : Tab Bool} {env : Env} {isolated : Option Nat} {downUnits : List Nat} {links : Tab Link} {colls : List CollStep} {members : Tab Nat} {beatTurn : Tab Nat} {slots : Tab Slot} {ustreams : Tab UStream} {portQ : List Granule} {rxBuf : List Granule} {stepPin : Tab Nat} {commits : List (Nat × Nat × Nat)} {reqs : List (Nat × Nat)} {tierQ : List TierReq} {serving : Tab Serving} {dumps : Tab DumpSlot} {snag : SnagState} {boot : Boot} {power : Power} {segs : Tab Seg} {sess : Tab Session} {bdpQ : List BdpReq} {notified : Tab Nat} {d3hot : Bool} {stepRun : Tab Nat} {snaps : Tab (List (Nat × Nat))} {seqNo : Nat} (m : Mem)
    (hm : t.memWf = true → m.wf = true) : Keeps r { objs := objs, pobjs := pobjs, cores := cores, streams := streams, tok := tok, acq := acq, cred := cred, posts := posts, flights := flights, turns := turns, work := work, ctxs := ctxs, descs := descs, allocs := allocs, tmap := tmap, frames := frames, hostWins := hostWins, ftl := ftl, faults := faults, captures := captures, scaler := scaler, scalerC := scalerC, scalerQ := scalerQ, msixOpen := msixOpen, msixPend := msixPend, env := env, isolated := isolated, downUnits := downUnits, links := links, colls := colls, members := members, beatTurn := beatTurn, slots := slots, ustreams := ustreams, portQ := portQ, rxBuf := rxBuf, stepPin := stepPin, commits := commits, reqs := reqs, tierQ := tierQ, serving := serving, dumps := dumps, snag := snag, boot := boot, power := power, segs := segs, sess := sess, bdpQ := bdpQ, notified := notified, d3hot := d3hot, stepRun := stepRun, snaps := snaps, seqNo := seqNo, landing := t.landing, ddr := t.ddr, flash := m, host := t.host, firmware := t.firmware, free := t.free, nextId := t.nextId, out := t.out, pending := t.pending } := by
  refine ⟨h.pending, h.out, h.free, h.nextId, fun hr => ?_, h.bank⟩
  have ht := h.mem hr
  have := (memWf_iff t).1 ht
  exact (memWf_iff _).2 ⟨this.1, this.2.1, hm ht, this.2.2.2⟩

theorem Keeps.setHost {r t : State} (h : Keeps r t) {objs : Tab Nat} {pobjs : Tab Nat} {cores : Tab Core} {streams : Tab Stream} {tok : Tab Ctr} {acq : Tab Ctr} {cred : Tab Ctr} {posts : List Post} {flights : List Flight} {turns : Tab Nat} {work : Tab Nat} {ctxs : Tab Ctx} {descs : Tab DescEntry} {allocs : Tab Alloc} {tmap : Tab Region} {frames : Tab FrameUse} {hostWins : Tab Nat} {ftl : Tab FlashBlock} {faults : FaultState} {captures : List Capture} {scaler : Tab ScalerSlot} {scalerC : Tab ScalerCtx} {scalerQ : List ScalerIn} {msixOpen : Tab Bool} {msixPend : Tab Bool} {env : Env} {isolated : Option Nat} {downUnits : List Nat} {links : Tab Link} {colls : List CollStep} {members : Tab Nat} {beatTurn : Tab Nat} {slots : Tab Slot} {ustreams : Tab UStream} {portQ : List Granule} {rxBuf : List Granule} {stepPin : Tab Nat} {commits : List (Nat × Nat × Nat)} {reqs : List (Nat × Nat)} {tierQ : List TierReq} {serving : Tab Serving} {dumps : Tab DumpSlot} {snag : SnagState} {boot : Boot} {power : Power} {segs : Tab Seg} {sess : Tab Session} {bdpQ : List BdpReq} {notified : Tab Nat} {d3hot : Bool} {stepRun : Tab Nat} {snaps : Tab (List (Nat × Nat))} {seqNo : Nat} (m : Mem)
    (hm : t.memWf = true → m.wf = true) : Keeps r { objs := objs, pobjs := pobjs, cores := cores, streams := streams, tok := tok, acq := acq, cred := cred, posts := posts, flights := flights, turns := turns, work := work, ctxs := ctxs, descs := descs, allocs := allocs, tmap := tmap, frames := frames, hostWins := hostWins, ftl := ftl, faults := faults, captures := captures, scaler := scaler, scalerC := scalerC, scalerQ := scalerQ, msixOpen := msixOpen, msixPend := msixPend, env := env, isolated := isolated, downUnits := downUnits, links := links, colls := colls, members := members, beatTurn := beatTurn, slots := slots, ustreams := ustreams, portQ := portQ, rxBuf := rxBuf, stepPin := stepPin, commits := commits, reqs := reqs, tierQ := tierQ, serving := serving, dumps := dumps, snag := snag, boot := boot, power := power, segs := segs, sess := sess, bdpQ := bdpQ, notified := notified, d3hot := d3hot, stepRun := stepRun, snaps := snaps, seqNo := seqNo, landing := t.landing, ddr := t.ddr, flash := t.flash, host := m, firmware := t.firmware, free := t.free, nextId := t.nextId, out := t.out, pending := t.pending } := by
  refine ⟨h.pending, h.out, h.free, h.nextId, fun hr => ?_, h.bank⟩
  have ht := h.mem hr
  have := (memWf_iff t).1 ht
  exact (memWf_iff _).2 ⟨this.1, this.2.1, this.2.2.1, hm ht⟩


theorem keeps_State_setObj {r0 : State} {s : State} (k v : Nat) (hk : Keeps r0 s) : Keeps r0 (State.setObj s k v) := by
  unfold State.setObj
  (try dsimp only)
  repeat' first
    | with_reducible assumption
    | (with_reducible refine Keeps.lit ?_; first | with_reducible assumption)

theorem keeps_State_addObj {r0 : State} {s : State} (k w n : Nat) (hk : Keeps r0 s) : Keeps r0 (State.addObj s k w n) := by
  unfold State.addObj
  repeat' first
    | with_reducible assumption
    | with_reducible apply keeps_State_setObj

theorem keeps_State_setPobj {r0 : State} {s : State} (path k v : Nat) (hk : Keeps r0 s) : Keeps r0 (State.setPobj s path k v) := by
  unfold State.setPobj
  (try dsimp only)
  repeat' first
    | with_reducible assumption
    | (with_reducible refine Keeps.lit ?_; first | with_reducible assumption)

theorem keeps_State_setFlag {r0 : State} {s : State} (k kev : Nat) (hk : Keeps r0 s) : Keeps r0 (State.setFlag s k kev) := by
  unfold State.setFlag
  repeat' first
    | with_reducible assumption
    | with_reducible apply keeps_State_setObj
    | with_reducible apply keeps_State_addObj

theorem keeps_State_fresh {r0 : State} {s : State} (hk : Keeps r0 s) : Keeps r0 (State.fresh s).2 := by
  unfold State.fresh
  (try dsimp only)
  repeat' first
    | with_reducible assumption
    | with_reducible apply Keeps.draw
    | (with_reducible refine Keeps.lit ?_; first | with_reducible assumption | with_reducible apply Keeps.draw)

theorem keeps_State_seed {r0 s : State} (hk : Keeps r0 s) : Keeps r0 (s.seed).2 := Keeps.draw hk

/-- What holds of both answers of a check: the state it stops in, or what it passes. -/

def Ends {α : Type} (r : State) (ok : α → Prop) : Except State α → Prop
  | .error t => Keeps r t
  | .ok a => ok a

theorem Ends.error {α : Type} {r t : State} {ok : α → Prop} (h : Keeps r t) : Ends r ok (.error t) := h

theorem Ends.pass {α : Type} {r : State} {ok : α → Prop} {a : α} (h : ok a) : Ends r ok (.ok a) := h

theorem Ends.stop {α : Type} {r t : State} {ok : α → Prop} {x : Except State α} (h : Ends r ok x) (e : x = .error t) :
    Keeps r t := by subst e; exact h

theorem Ends.go {α : Type} {r : State} {ok : α → Prop} {x : Except State α} {a : α} (h : Ends r ok x) (e : x = .ok a) :
    ok a := by subst e; exact h

theorem keeps_State_updCtx {r0 : State} {s : State} (i : Nat) (f : Ctx → Ctx) (hk : Keeps r0 s) : Keeps r0 (State.updCtx s i f) := by
  unfold State.updCtx
  (try dsimp only)
  repeat' first
    | with_reducible assumption
    | (with_reducible refine Keeps.lit ?_; first | with_reducible assumption)

theorem keeps_State_updCore {r0 : State} {s : State} (n : Nat) (f : Core → Core) (hk : Keeps r0 s) : Keeps r0 (State.updCore s n f) := by
  unfold State.updCore
  (try dsimp only)
  repeat' first
    | with_reducible assumption
    | (with_reducible refine Keeps.lit ?_; first | with_reducible assumption)

theorem keeps_State_updData {r0 : State} {s : State} (n : Nat) (f : CoreData → CoreData) (hk : Keeps r0 s) : Keeps r0 (State.updData s n f) := by
  unfold State.updData
  (try dsimp only)
  repeat' first
    | with_reducible assumption
    | with_reducible apply keeps_State_updCore
    | (with_reducible refine Keeps.lit ?_; first | with_reducible assumption | with_reducible apply keeps_State_updCore)

theorem keeps_State_leaveCore {r0 : State} {s : State} (n : Nat) (hk : Keeps r0 s) : Keeps r0 (State.leaveCore s n) :=
  keeps_State_updCore _ _ hk

theorem keeps_State_updStream {r0 : State} {s : State} (ctx owner : Nat) (f : Stream → Stream) (hk : Keeps r0 s) : Keeps r0 (State.updStream s ctx owner f) := by
  unfold State.updStream
  (try dsimp only)
  repeat' first
    | with_reducible assumption
    | (with_reducible refine Keeps.lit ?_; first | with_reducible assumption)

theorem keeps_State_noteWork {r0 : State} {s : State} (node ctx : Nat) (hk : Keeps r0 s) : Keeps r0 (State.noteWork s node ctx) := by
  unfold State.noteWork
  (try dsimp only)
  repeat' first
    | with_reducible assumption
    | (with_reducible refine Keeps.lit ?_; first | with_reducible assumption)

theorem keeps_State_updFlight {r0 : State} {s : State} (id : Nat) (g : Flight → Flight) (hk : Keeps r0 s) : Keeps r0 (State.updFlight s id g) := by
  unfold State.updFlight
  (try dsimp only)
  repeat' first
    | with_reducible assumption
    | split
    | (with_reducible refine Keeps.lit ?_; first | with_reducible assumption | split)

theorem keeps_State_dropFlight {r0 : State} {s : State} (id : Nat) (hk : Keeps r0 s) : Keeps r0 (State.dropFlight s id) := by
  unfold State.dropFlight
  (try dsimp only)
  repeat' first
    | with_reducible assumption
    | (with_reducible refine Keeps.lit ?_; first | with_reducible assumption)

theorem keeps_State_signal {r0 : State} {s : State} (v : Nat) (hk : Keeps r0 s) : Keeps r0 (State.signal s v) := by
  unfold State.signal
  (try dsimp only)
  repeat' first
    | with_reducible assumption
    | with_reducible apply Keeps.send
    | split
    | (with_reducible refine Keeps.lit ?_; first | with_reducible assumption | with_reducible apply Keeps.send | split)

theorem keeps_State_pushBlaze {r0 : State} {s : State} (r : FaultRec) (v : Option Verdict) (hk : Keeps r0 s) : Keeps r0 (State.pushBlaze s r v) := by
  unfold State.pushBlaze
  (try dsimp only)
  repeat' first
    | with_reducible assumption
    | with_reducible apply keeps_State_addObj
    | (with_reducible refine Keeps.lit ?_; first | with_reducible assumption | with_reducible apply keeps_State_addObj)

theorem keeps_State_faultNotice {r0 : State} {s : State} (hk : Keeps r0 s) : Keeps r0 (State.faultNotice s) := by
  unfold State.faultNotice
  (try dsimp only)
  repeat' first
    | with_reducible assumption
    | with_reducible apply keeps_State_setFlag
    | with_reducible apply keeps_State_signal

theorem keeps_State_pushFault {r0 : State} {s : State} (r : FaultRec) (hk : Keeps r0 s) : Keeps r0 (State.pushFault s r) := by
  unfold State.pushFault
  (try dsimp only)
  repeat' first
    | with_reducible assumption
    | with_reducible apply keeps_State_addObj
    | split
    | (with_reducible refine Keeps.lit ?_; first | with_reducible assumption | with_reducible apply keeps_State_addObj | split)

theorem keeps_State_reportV {r0 : State} {s : State} (code kind source : Nat) (ctx : Option Nat) (detail : Nat) (held abort : Bool)
    (v : Option Verdict) (hk : Keeps r0 s) : Keeps r0 (State.reportV s code kind source ctx detail held abort v) := by
  unfold State.reportV
  (try dsimp only)
  repeat' first
    | with_reducible assumption
    | with_reducible apply keeps_State_fresh
    | with_reducible apply keeps_State_pushFault
    | with_reducible apply keeps_State_pushBlaze
    | with_reducible apply keeps_State_faultNotice
    | split
    | (with_reducible refine Keeps.lit ?_; first | with_reducible assumption | with_reducible apply keeps_State_fresh | with_reducible apply keeps_State_pushFault | with_reducible apply keeps_State_pushBlaze | with_reducible apply keeps_State_faultNotice | split)

theorem keeps_State_report {r0 : State} {s : State} (code kind source : Nat) (ctx : Option Nat) (detail : Nat) (held abort : Bool) (hk : Keeps r0 s) : Keeps r0 (State.report s code kind source ctx detail held abort) := by
  unfold State.report
  repeat' first
    | with_reducible assumption
    | with_reducible apply keeps_State_reportV

theorem keeps_State_noteReplay {r0 : State} {s : State} (ctx outcome code num : Nat) (hk : Keeps r0 s) : Keeps r0 (State.noteReplay s ctx outcome code num) := by
  unfold State.noteReplay
  (try dsimp only)
  repeat' first
    | with_reducible assumption
    | with_reducible apply keeps_State_signal
    | split
    | (with_reducible refine Keeps.lit ?_; first | with_reducible assumption | with_reducible apply keeps_State_signal | split)

theorem keeps_State_hold {r0 : State} {s : State} (ctx code : Nat) (hk : Keeps r0 s) : Keeps r0 (State.hold s ctx code) := by
  unfold State.hold
  (try dsimp only)
  repeat' first
    | with_reducible assumption
    | with_reducible apply keeps_State_updCtx
    | with_reducible apply keeps_State_signal
    | with_reducible apply keeps_State_noteReplay
    | split
    | (with_reducible refine Keeps.lit ?_; first | with_reducible assumption | with_reducible apply keeps_State_updCtx | with_reducible apply keeps_State_signal | with_reducible apply keeps_State_noteReplay | split)

theorem keeps_State_holdShell {r0 : State} {s : State} (code unit ctx detail : Nat) (hk : Keeps r0 s) : Keeps r0 (State.holdShell s code unit ctx detail) := by
  unfold State.holdShell
  repeat' first
    | with_reducible assumption
    | with_reducible apply keeps_State_report
    | with_reducible apply keeps_State_hold

theorem keeps_State_refuse {r0 : State} {s : State} (code : Nat) (ctx : Option Nat) (detail : Nat) (hk : Keeps r0 s) : Keeps r0 (State.refuse s code ctx detail) := by
  unfold State.refuse
  repeat' first
    | with_reducible assumption
    | with_reducible apply keeps_State_report

theorem keeps_State_beginExit {r0 : State} {s : State} (code : Nat) (hk : Keeps r0 s) : Keeps r0 (State.beginExit s code) := by
  unfold State.beginExit
  (try dsimp only)
  repeat' first
    | with_reducible assumption
    | with_reducible apply keeps_State_setObj
    | (with_reducible refine Keeps.lit ?_; first | with_reducible assumption | with_reducible apply keeps_State_setObj)

theorem keeps_State_wakeBy {r0 : State} {s : State} (src : Nat) (hk : Keeps r0 s) : Keeps r0 (State.wakeBy s src) := by
  unfold State.wakeBy
  (try dsimp only)
  repeat' first
    | with_reducible assumption
    | with_reducible apply keeps_State_setObj
    | with_reducible apply keeps_State_beginExit
    | split
    | (with_reducible refine Keeps.lit ?_; first | with_reducible assumption | with_reducible apply keeps_State_setObj | with_reducible apply keeps_State_beginExit | split)

theorem keeps_State_unserved {r0 : State} {s : State} (path i : Nat) (hk : Keeps r0 s) : Keeps r0 (State.unserved s path i) := by
  unfold State.unserved
  repeat' first
    | with_reducible assumption
    | with_reducible apply keeps_State_wakeBy
    | split

theorem keeps_State_dictRefuse {r0 : State} {s : State} (path k reason : Nat) (hk : Keeps r0 s) : Keeps r0 (State.dictRefuse s path k reason) := by
  unfold State.dictRefuse
  (try dsimp only)
  repeat' first
    | with_reducible assumption
    | with_reducible apply keeps_State_setObj
    | with_reducible apply keeps_State_setFlag
    | with_reducible apply keeps_State_addObj
    | with_reducible apply keeps_State_refuse

theorem keeps_State_onCmd {r0 s : State} {path k : Nat} {act : State → State} (ha : ∀ t, Keeps r0 t → Keeps r0 (act t))
    (hk : Keeps r0 s) : Keeps r0 (s.onCmd path k act) := by
  unfold State.onCmd
  split
  · exact keeps_State_unserved path _ hk
  · split
    · exact keeps_State_dictRefuse path k 5 hk
    · exact ha s hk

theorem keeps_State_onWrite {r0 s : State} {path k : Nat} {o : Option Nat} {act : State → State}
    (ha : ∀ t, Keeps r0 t → Keeps r0 (act t)) (hk : Keeps r0 s) : Keeps r0 (s.onWrite path k o act) := by
  unfold State.onWrite
  split
  · exact keeps_State_unserved path _ hk
  · split
    · exact keeps_State_dictRefuse path k _ hk
    · exact ha s hk

theorem keeps_State_turnOn {r0 : State} {s : State} (d : Nat) (hk : Keeps r0 s) : Keeps r0 (State.turnOn s d) := by
  unfold State.turnOn
  (try dsimp only)
  repeat' first
    | with_reducible assumption
    | split
    | (with_reducible refine Keeps.lit ?_; first | with_reducible assumption | split)

theorem keeps_State_acquire {r0 : State} {s : State} (h : Head) (hk : Keeps r0 s) : Keeps r0 (State.acquire s h) := by
  unfold State.acquire
  (try dsimp only)
  repeat' first
    | with_reducible assumption
    | with_reducible apply keeps_State_updStream
    | split
    | (with_reducible refine Keeps.lit ?_; first | with_reducible assumption | with_reducible apply keeps_State_updStream | split)

theorem keeps_State_holdHead {r0 : State} {s : State} (h : Head) (code detail : Nat) (hk : Keeps r0 s) : Keeps r0 (State.holdHead s h code detail) := by
  unfold State.holdHead
  repeat' first
    | with_reducible assumption
    | with_reducible apply keeps_State_holdShell

theorem keeps_State_shellWork {r0 : State} {s : State} (ctx owner : Nat) (hk : Keeps r0 s) : Keeps r0 (State.shellWork s ctx owner) := by
  unfold State.shellWork
  repeat' first
    | with_reducible assumption
    | with_reducible apply keeps_State_noteWork
    | split

theorem keeps_State_issuePost {r0 : State} {s : State} (ctx owner : Nat) (w : W128) (hk : Keeps r0 s) : Keeps r0 (State.issuePost s ctx owner w) := by
  unfold State.issuePost
  (try dsimp only)
  repeat' first
    | with_reducible assumption
    | with_reducible apply keeps_State_shellWork
    | with_reducible apply keeps_State_holdShell
    | split
    | (with_reducible refine Keeps.lit ?_; first | with_reducible assumption | with_reducible apply keeps_State_shellWork | with_reducible apply keeps_State_holdShell | split)

theorem keeps_State_applyToken {r0 : State} {s : State} (p : Post) (hk : Keeps r0 s) : Keeps r0 (State.applyToken s p) := by
  unfold State.applyToken
  (try dsimp only)
  repeat' first
    | with_reducible assumption
    | with_reducible apply keeps_State_holdShell
    | split
    | (with_reducible refine Keeps.lit ?_; first | with_reducible assumption | with_reducible apply keeps_State_holdShell | split)

theorem keeps_State_applyCredit {r0 : State} {s : State} (p : Post) (hk : Keeps r0 s) : Keeps r0 (State.applyCredit s p) := by
  unfold State.applyCredit
  (try dsimp only)
  repeat' first
    | with_reducible assumption
    | with_reducible apply keeps_State_holdShell
    | split
    | (with_reducible refine Keeps.lit ?_; first | with_reducible assumption | with_reducible apply keeps_State_holdShell | split)

theorem keeps_State_restCheck {r0 : State} {s : State} (ctx : Nat) (hk : Keeps r0 s) : Keeps r0 (State.restCheck s ctx) := by
  unfold State.restCheck
  (try dsimp only)
  repeat' first
    | with_reducible assumption
    | with_reducible apply keeps_State_signal
    | with_reducible apply keeps_State_setObj
    | with_reducible apply keeps_State_noteReplay
    | (with_reducible refine Keeps.foldl ?_ ?_; intro _ _ _)
    | split
    | (with_reducible refine Keeps.lit ?_; first | with_reducible assumption | with_reducible apply keeps_State_signal | with_reducible apply keeps_State_setObj | with_reducible apply keeps_State_noteReplay | (with_reducible refine Keeps.foldl ?_ ?_; intro _ _ _) | split)

theorem keeps_State_drainMore {r0 : State} {s : State} (ctx n : Nat) (hk : Keeps r0 s) : Keeps r0 (State.drainMore s ctx n) := by
  unfold State.drainMore
  (try dsimp only)
  repeat' first
    | with_reducible assumption
    | with_reducible apply keeps_State_updCtx
    | (with_reducible refine Keeps.lit ?_; first | with_reducible assumption | with_reducible apply keeps_State_updCtx)

theorem keeps_State_countDrain {r0 : State} {s : State} (ctx : Nat) (hk : Keeps r0 s) : Keeps r0 (State.countDrain s ctx) := by
  unfold State.countDrain
  (try dsimp only)
  repeat' first
    | with_reducible assumption
    | with_reducible apply keeps_State_setObj
    | with_reducible apply keeps_State_addObj
    | split

theorem keeps_State_freeEnded {r0 : State} {s : State} (ctx owner : Nat) (hk : Keeps r0 s) : Keeps r0 (State.freeEnded s ctx owner) := by
  unfold State.freeEnded
  (try dsimp only)
  repeat' first
    | with_reducible assumption
    | with_reducible apply keeps_State_leaveCore
    | with_reducible apply keeps_State_updCtx
    | with_reducible apply keeps_State_countDrain
    | split
    | (with_reducible refine Keeps.lit ?_; first | with_reducible assumption | with_reducible apply keeps_State_leaveCore | with_reducible apply keeps_State_updCtx | with_reducible apply keeps_State_countDrain | split)

theorem keeps_State_releaseCopies {r0 : State} {s : State} (ctx : Nat) (ds : List DescCopy) (hk : Keeps r0 s) : Keeps r0 (State.releaseCopies s ctx ds) := by
  unfold State.releaseCopies
  (try dsimp only)
  repeat' first
    | with_reducible assumption
    | (with_reducible refine Keeps.foldl ?_ ?_; intro _ _ _)
    | split
    | (with_reducible refine Keeps.lit ?_; first | with_reducible assumption | (with_reducible refine Keeps.foldl ?_ ?_; intro _ _ _) | split)

theorem keeps_State_complete {r0 : State} {s : State} (f : Flight) (hk : Keeps r0 s) : Keeps r0 (State.complete s f) := by
  unfold State.complete
  repeat' first
    | with_reducible assumption
    | with_reducible apply keeps_State_dropFlight
    | with_reducible apply keeps_State_releaseCopies
    | with_reducible apply keeps_State_issuePost
    | with_reducible apply keeps_State_freeEnded
    | with_reducible apply keeps_State_restCheck

theorem keeps_State_endFlight {r0 : State} {s : State} (f : Flight) (hk : Keeps r0 s) : Keeps r0 (State.endFlight s f) := by
  unfold State.endFlight
  repeat' first
    | with_reducible assumption
    | with_reducible apply keeps_State_dropFlight
    | with_reducible apply keeps_State_releaseCopies
    | with_reducible apply keeps_State_freeEnded
    | with_reducible apply keeps_State_restCheck

theorem keeps_State_launch {r0 : State} {s : State} (f : Flight) (hk : Keeps r0 s) : Keeps r0 (State.launch s f) := by
  unfold State.launch
  (try dsimp only)
  repeat' first
    | with_reducible assumption
    | with_reducible apply Keeps.number
    | (with_reducible refine Keeps.lit ?_; first | with_reducible assumption | with_reducible apply Keeps.number)

theorem keeps_State_dispatch {r0 s : State} {sh : Shell} {op : Nat} {q : Head → QueueId}
    {check : Head → Except State (Flight × State)} (hc : ∀ h, Ends r0 (fun p => Keeps r0 p.2) (check h))
    (hk : Keeps r0 s) : Keeps r0 (s.dispatch sh op q check) := by
  unfold State.dispatch
  split
  · exact hk
  · next h _ =>
    split
    · next e => exact (hc h).stop e
    · next f t e =>
      have : Keeps r0 t := (hc h).go e
      exact keeps_State_restCheck _ (keeps_State_launch _ (keeps_State_acquire _ this))

theorem keeps_State_dispatchNow {r0 s : State} {sh : Shell} {op : Nat}
    {check : Head → Except State State} (hc : ∀ h, Ends r0 (Keeps r0) (check h))
    (hk : Keeps r0 s) : Keeps r0 (s.dispatchNow sh op check) := by
  unfold State.dispatchNow
  split
  · exact hk
  · next h _ =>
    split
    · next e => exact (hc h).stop e
    · next t e =>
      have : Keeps r0 t := (hc h).go e
      exact keeps_State_restCheck _ (keeps_State_freeEnded _ _ (keeps_State_issuePost _ _ _ (keeps_State_acquire _ this)))

theorem keeps_nop {r0 : State} {s : State} (sh : Shell) (hk : Keeps r0 s) : Keeps r0 (nop s sh) := by
  unfold nop
  (try dsimp only)
  repeat' first
    | with_reducible assumption
    | (with_reducible refine keeps_State_dispatchNow ?_ ?_; intro _; try dsimp only)
    | (with_reducible refine Ends.error ?_)
    | (with_reducible refine Ends.pass ?_; try dsimp only)

theorem keeps_settle {r0 : State} {s : State} (sh : Shell) (hk : Keeps r0 s) : Keeps r0 (settle s sh) := by
  unfold settle
  (try dsimp only)
  repeat' first
    | with_reducible assumption
    | (with_reducible refine keeps_State_dispatchNow ?_ ?_; intro _; try dsimp only)
    | (with_reducible refine Ends.error ?_)
    | (with_reducible refine Ends.pass ?_; try dsimp only)
    | split

theorem keeps_stepmark {r0 s : State} {onMark : State → Head → Nat → Except State State} {sh : Shell}
    (ho : ∀ h n, Ends r0 (Keeps r0) (onMark s h n)) (hk : Keeps r0 s) : Keeps r0 (stepmark onMark s sh) := by
  unfold stepmark
  refine keeps_State_dispatchNow (fun h => ?_) hk
  dsimp only
  repeat' first
    | with_reducible exact Ends.error hk
    | with_reducible exact Ends.error (keeps_State_holdHead _ _ _ hk)
    | with_reducible exact Ends.error ((ho h _).stop (by assumption))
    | with_reducible exact Ends.pass (keeps_State_updStream _ _ _ ((ho h _).go (by assumption)))
    | split

theorem keeps_endStream {r0 : State} {s : State} (sh : Shell) (hk : Keeps r0 s) : Keeps r0 (endStream s sh) := by
  unfold endStream
  (try dsimp only)
  repeat' first
    | with_reducible assumption
    | (with_reducible refine keeps_State_dispatchNow ?_ ?_; intro _; try dsimp only)
    | with_reducible apply keeps_State_updStream
    | (with_reducible refine Ends.error ?_)
    | (with_reducible refine Ends.pass ?_; try dsimp only)
    | (with_reducible refine Keeps.lit ?_; first | with_reducible assumption | (with_reducible refine keeps_State_dispatchNow ?_ ?_; intro _; try dsimp only) | with_reducible apply keeps_State_updStream | (with_reducible refine Ends.error ?_) | (with_reducible refine Ends.pass ?_; try dsimp only))

theorem keeps_postArrival {r0 : State} {s : State} (i : Nat) (hk : Keeps r0 s) : Keeps r0 (postArrival s i) := by
  unfold postArrival
  (try dsimp only)
  repeat' first
    | with_reducible assumption
    | with_reducible apply keeps_State_applyToken
    | split
    | (with_reducible refine Keeps.lit ?_; first | with_reducible assumption | with_reducible apply keeps_State_applyToken | split)

theorem keeps_creditReturn {r0 : State} {s : State} (i : Nat) (hk : Keeps r0 s) : Keeps r0 (creditReturn s i) := by
  unfold creditReturn
  (try dsimp only)
  repeat' first
    | with_reducible assumption
    | with_reducible apply keeps_State_applyCredit
    | split
    | (with_reducible refine Keeps.lit ?_; first | with_reducible assumption | with_reducible apply keeps_State_applyCredit | split)

theorem keeps_State_updTile {r0 : State} {s : State} (n k : Nat) (f : Tile → Tile) (hk : Keeps r0 s) : Keeps r0 (State.updTile s n k f) := by
  unfold State.updTile
  (try dsimp only)
  repeat' first
    | with_reducible assumption
    | with_reducible apply keeps_State_updData
    | (with_reducible refine Keeps.lit ?_; first | with_reducible assumption | with_reducible apply keeps_State_updData)

theorem keeps_State_openTile {r0 : State} {s : State} (n pos tile ctx : Nat) (w : W128) (sampled : Bool) (hk : Keeps r0 s) : Keeps r0 (State.openTile s n pos tile ctx w sampled) := by
  unfold State.openTile
  (try dsimp only)
  repeat' first
    | with_reducible assumption
    | with_reducible apply keeps_State_fresh
    | with_reducible apply keeps_State_updTile
    | with_reducible apply keeps_State_addObj
    | with_reducible apply Keeps.number
    | split
    | (with_reducible refine Keeps.lit ?_; first | with_reducible assumption | with_reducible apply keeps_State_fresh | with_reducible apply keeps_State_updTile | with_reducible apply keeps_State_addObj | with_reducible apply Keeps.number | split)

theorem keeps_State_updCapture {r0 : State} {s : State} (id : Nat) (f : Capture → Capture) (hk : Keeps r0 s) : Keeps r0 (State.updCapture s id f) := by
  unfold State.updCapture
  (try dsimp only)
  repeat' first
    | with_reducible assumption
    | split
    | (with_reducible refine Keeps.lit ?_; first | with_reducible assumption | split)

theorem keeps_State_writeCapture {r0 : State} {s : State} (id n : Nat) (f : Capture → Capture) (hk : Keeps r0 s) : Keeps r0 (State.writeCapture s id n f) := by
  unfold State.writeCapture
  repeat' first
    | with_reducible assumption
    | with_reducible apply keeps_State_updCapture
    | with_reducible apply keeps_State_addObj

theorem keeps_State_dropCapture {r0 : State} {s : State} (id : Nat) (hk : Keeps r0 s) : Keeps r0 (State.dropCapture s id) := by
  unfold State.dropCapture
  (try dsimp only)
  repeat' first
    | with_reducible assumption
    | (with_reducible refine Keeps.lit ?_; first | with_reducible assumption)

theorem keeps_State_skipCapture {r0 : State} {s : State} (core k cid : Nat) (hk : Keeps r0 s) : Keeps r0 (State.skipCapture s core k cid) := by
  unfold State.skipCapture
  (try dsimp only)
  repeat' first
    | with_reducible assumption
    | with_reducible apply keeps_State_dropCapture
    | with_reducible apply keeps_State_addObj
    | with_reducible apply keeps_State_updTile
    | (with_reducible refine Keeps.lit ?_; first | with_reducible assumption | with_reducible apply keeps_State_dropCapture | with_reducible apply keeps_State_addObj | with_reducible apply keeps_State_updTile)

theorem keeps_State_dropTileCaps {r0 : State} {s : State} (ts : Tab Tile) (hk : Keeps r0 s) : Keeps r0 (State.dropTileCaps s ts) := by
  unfold State.dropTileCaps
  (try dsimp only)
  repeat' first
    | with_reducible assumption
    | (with_reducible refine Keeps.lit ?_; first | with_reducible assumption)

theorem keeps_State_scoreboard {r0 s : State} (h : Head) (hk : Keeps r0 s) : Ends r0 (fun _ => True) (s.scoreboard h) := by
  unfold State.scoreboard
  dsimp only
  split
  · exact Ends.pass trivial
  · exact Ends.error (keeps_State_holdHead _ _ _ hk)
  · exact Ends.error (keeps_State_holdHead _ _ _ hk)
  · split
    · exact Ends.error hk
    · exact Ends.error (keeps_State_updStream _ _ _ (keeps_State_addObj _ _ _ hk))

theorem keeps_State_claimTile {r0 : State} {s : State} (h : Head) (sampled : Bool) (hk : Keeps r0 s) : Keeps r0 (State.claimTile s h sampled) := by
  unfold State.claimTile
  (try dsimp only)
  repeat' first
    | with_reducible assumption
    | with_reducible apply keeps_State_openTile
    | with_reducible apply keeps_State_updTile
    | split
    | (with_reducible refine Keeps.lit ?_; first | with_reducible assumption | with_reducible apply keeps_State_openTile | with_reducible apply keeps_State_updTile | split)

theorem keeps_State_dispatchEngine {r0 : State} {s : State} (sh : Shell) (op : Nat) (sampled : Bool) (hk : Keeps r0 s) : Keeps r0 (State.dispatchEngine s sh op sampled) := by
  unfold State.dispatchEngine
  (try dsimp only)
  repeat' first
    | with_reducible assumption
    | (refine Ends.stop (keeps_State_scoreboard (hk := ?_) ..) (by assumption))
    | (with_reducible refine keeps_State_dispatch ?_ ?_; intro _; try dsimp only)
    | with_reducible apply keeps_State_claimTile
    | (with_reducible refine Ends.error ?_)
    | (with_reducible refine Ends.pass ?_; try dsimp only)
    | split
    | (with_reducible refine Keeps.lit ?_; first | with_reducible assumption | (refine Ends.stop (keeps_State_scoreboard (hk := ?_) ..) (by assumption)) | (with_reducible refine keeps_State_dispatch ?_ ?_; intro _; try dsimp only) | with_reducible apply keeps_State_claimTile | (with_reducible refine Ends.error ?_) | (with_reducible refine Ends.pass ?_; try dsimp only) | split)

theorem keeps_startMma {r0 : State} {s : State} (id : Nat) (hk : Keeps r0 s) : Keeps r0 (startMma s id) := by
  unfold startMma
  (try dsimp only)
  repeat' first
    | with_reducible assumption
    | with_reducible apply keeps_State_updFlight
    | split
    | (with_reducible refine Keeps.lit ?_; first | with_reducible assumption | with_reducible apply keeps_State_updFlight | split)

theorem keeps_State_noteSat {r0 : State} {s : State} (e n : Nat) (hk : Keeps r0 s) : Keeps r0 (State.noteSat s e n) := by
  unfold State.noteSat
  repeat' first
    | with_reducible assumption
    | with_reducible apply keeps_State_addObj
    | with_reducible apply keeps_State_setObj
    | split

theorem keeps_State_issueRow {r0 : State} {s : State} (f : Flight) (hk : Keeps r0 s) : Keeps r0 (State.issueRow s f) := by
  unfold State.issueRow
  (try dsimp only)
  repeat' first
    | with_reducible assumption
    | with_reducible apply keeps_State_updTile
    | with_reducible apply keeps_State_noteSat
    | with_reducible apply keeps_State_addObj
    | with_reducible apply keeps_State_skipCapture
    | with_reducible apply keeps_State_writeCapture
    | with_reducible apply keeps_State_updFlight
    | split
    | (with_reducible refine Keeps.lit ?_; first | with_reducible assumption | with_reducible apply keeps_State_updTile | with_reducible apply keeps_State_noteSat | with_reducible apply keeps_State_addObj | with_reducible apply keeps_State_skipCapture | with_reducible apply keeps_State_writeCapture | with_reducible apply keeps_State_updFlight | split)

theorem keeps_startPreload {r0 : State} {s : State} (id : Nat) (hk : Keeps r0 s) : Keeps r0 (startPreload s id) := by
  unfold startPreload
  (try dsimp only)
  repeat' first
    | with_reducible assumption
    | with_reducible apply keeps_State_updTile
    | with_reducible apply keeps_State_noteSat
    | with_reducible apply keeps_State_writeCapture
    | with_reducible apply keeps_State_updFlight
    | (with_reducible refine Keeps.foldl ?_ ?_; intro _ _ _)
    | split
    | (with_reducible refine Keeps.lit ?_; first | with_reducible assumption | with_reducible apply keeps_State_updTile | with_reducible apply keeps_State_noteSat | with_reducible apply keeps_State_writeCapture | with_reducible apply keeps_State_updFlight | (with_reducible refine Keeps.foldl ?_ ?_; intro _ _ _) | split)

theorem keeps_State_readDrain {r0 : State} {s : State} (f : Flight) (hk : Keeps r0 s) : Keeps r0 (State.readDrain s f) := by
  unfold State.readDrain
  (try dsimp only)
  repeat' first
    | with_reducible assumption
    | with_reducible apply keeps_State_updData
    | with_reducible apply keeps_State_writeCapture
    | with_reducible apply keeps_State_updTile
    | with_reducible apply keeps_State_updFlight
    | split
    | (with_reducible refine Keeps.lit ?_; first | with_reducible assumption | with_reducible apply keeps_State_updData | with_reducible apply keeps_State_writeCapture | with_reducible apply keeps_State_updTile | with_reducible apply keeps_State_updFlight | split)

theorem keeps_State_readTopk {r0 : State} {s : State} (f : Flight) (hk : Keeps r0 s) : Keeps r0 (State.readTopk s f) := by
  unfold State.readTopk
  (try dsimp only)
  repeat' first
    | with_reducible assumption
    | with_reducible apply keeps_State_updData
    | with_reducible apply keeps_State_dropCapture
    | with_reducible apply keeps_State_updTile
    | with_reducible apply keeps_State_updFlight
    | split
    | (with_reducible refine Keeps.lit ?_; first | with_reducible assumption | with_reducible apply keeps_State_updData | with_reducible apply keeps_State_dropCapture | with_reducible apply keeps_State_updTile | with_reducible apply keeps_State_updFlight | split)

theorem keeps_State_readTilerel {r0 : State} {s : State} (f : Flight) (hk : Keeps r0 s) : Keeps r0 (State.readTilerel s f) := by
  unfold State.readTilerel
  (try dsimp only)
  repeat' first
    | with_reducible assumption
    | with_reducible apply keeps_State_dropCapture
    | with_reducible apply keeps_State_updTile
    | with_reducible apply keeps_State_updFlight
    | split
    | (with_reducible refine Keeps.lit ?_; first | with_reducible assumption | with_reducible apply keeps_State_dropCapture | with_reducible apply keeps_State_updTile | with_reducible apply keeps_State_updFlight | split)

theorem keeps_State_runReadout {r0 : State} {s : State} (core : Nat) (q : QueueId) (hk : Keeps r0 s) : Keeps r0 (State.runReadout s core q) := by
  unfold State.runReadout
  repeat' first
    | with_reducible assumption
    | with_reducible apply keeps_State_readDrain
    | with_reducible apply keeps_State_readTopk
    | with_reducible apply keeps_State_readTilerel
    | split
    | (with_reducible refine Keeps.lit ?_; first | with_reducible assumption | with_reducible apply keeps_State_readDrain | with_reducible apply keeps_State_readTopk | with_reducible apply keeps_State_readTilerel | split)

theorem keeps_startReadout {r0 : State} {s : State} (id op : Nat) (hk : Keeps r0 s) : Keeps r0 (startReadout s id op) := by
  unfold startReadout
  (try dsimp only)
  repeat' first
    | with_reducible assumption
    | with_reducible apply keeps_State_updFlight
    | with_reducible apply keeps_State_runReadout
    | split
    | (with_reducible refine Keeps.lit ?_; first | with_reducible assumption | with_reducible apply keeps_State_updFlight | with_reducible apply keeps_State_runReadout | split)

theorem keeps_startDrain {r0 : State} {s : State} (id : Nat) (hk : Keeps r0 s) : Keeps r0 (startDrain s id) := by
  unfold startDrain
  repeat' first
    | with_reducible assumption
    | with_reducible apply keeps_startReadout

theorem keeps_startTopk {r0 : State} {s : State} (id : Nat) (hk : Keeps r0 s) : Keeps r0 (startTopk s id) := by
  unfold startTopk
  repeat' first
    | with_reducible assumption
    | with_reducible apply keeps_startReadout

theorem keeps_startTilerel {r0 : State} {s : State} (id : Nat) (hk : Keeps r0 s) : Keeps r0 (startTilerel s id) := by
  unfold startTilerel
  repeat' first
    | with_reducible assumption
    | with_reducible apply keeps_startReadout

theorem keeps_mmaRowIssue {r0 : State} {s : State} (e : Nat) (hk : Keeps r0 s) : Keeps r0 (mmaRowIssue s e) := by
  unfold mmaRowIssue
  (try dsimp only)
  repeat' first
    | with_reducible assumption
    | with_reducible apply keeps_State_issueRow
    | with_reducible apply keeps_State_runReadout
    | split
    | (with_reducible refine Keeps.lit ?_; first | with_reducible assumption | with_reducible apply keeps_State_issueRow | with_reducible apply keeps_State_runReadout | split)

theorem keeps_State_updSet {r0 : State} {s : State} (f : Flight) (g : ConvSet → ConvSet) (hk : Keeps r0 s) : Keeps r0 (State.updSet s f g) := by
  unfold State.updSet
  (try dsimp only)
  repeat' first
    | with_reducible assumption
    | with_reducible apply keeps_State_updData
    | (with_reducible refine Keeps.lit ?_; first | with_reducible assumption | with_reducible apply keeps_State_updData)

theorem keeps_startCvtsc {r0 : State} {s : State} (id : Nat) (hk : Keeps r0 s) : Keeps r0 (startCvtsc s id) := by
  unfold startCvtsc
  (try dsimp only)
  repeat' first
    | with_reducible assumption
    | with_reducible apply keeps_State_updSet
    | with_reducible apply keeps_State_updFlight
    | split
    | (with_reducible refine Keeps.lit ?_; first | with_reducible assumption | with_reducible apply keeps_State_updSet | with_reducible apply keeps_State_updFlight | split)

theorem keeps_startCvtcl {r0 : State} {s : State} (id : Nat) (hk : Keeps r0 s) : Keeps r0 (startCvtcl s id) := by
  unfold startCvtcl
  (try dsimp only)
  repeat' first
    | with_reducible assumption
    | with_reducible apply keeps_State_updSet
    | with_reducible apply keeps_State_updFlight
    | split
    | (with_reducible refine Keeps.lit ?_; first | with_reducible assumption | with_reducible apply keeps_State_updSet | with_reducible apply keeps_State_updFlight | split)

theorem keeps_State_engineDone {r0 : State} {s : State} (f : Flight) (hk : Keeps r0 s) : Keeps r0 (State.engineDone s f) := by
  unfold State.engineDone
  (try dsimp only)
  repeat' first
    | with_reducible assumption
    | with_reducible apply keeps_State_updTile
    | with_reducible apply keeps_State_updCapture
    | split
    | (with_reducible refine Keeps.lit ?_; first | with_reducible assumption | with_reducible apply keeps_State_updTile | with_reducible apply keeps_State_updCapture | split)

theorem keeps_State_issueLimber {r0 : State} {s : State} (id op : Nat) (g : W128 → CoreData → CoreData) (hk : Keeps r0 s) : Keeps r0 (State.issueLimber s id op g) := by
  unfold State.issueLimber
  (try dsimp only)
  repeat' first
    | with_reducible assumption
    | with_reducible apply keeps_State_updData
    | with_reducible apply keeps_State_updFlight
    | split
    | (with_reducible refine Keeps.lit ?_; first | with_reducible assumption | with_reducible apply keeps_State_updData | with_reducible apply keeps_State_updFlight | split)

theorem keeps_startVstat {r0 : State} {s : State} (id : Nat) (hk : Keeps r0 s) : Keeps r0 (startVstat s id) := by
  unfold startVstat
  (try dsimp only)
  repeat' first
    | with_reducible assumption
    | with_reducible apply keeps_State_updData
    | with_reducible apply keeps_State_updFlight
    | split
    | (with_reducible refine Keeps.lit ?_; first | with_reducible assumption | with_reducible apply keeps_State_updData | with_reducible apply keeps_State_updFlight | split)

theorem keeps_State_dispatchLimber {r0 : State} {s : State} (sh : Shell) (op : Nat) (hk : Keeps r0 s) : Keeps r0 (State.dispatchLimber s sh op) := by
  unfold State.dispatchLimber
  (try dsimp only)
  repeat' first
    | with_reducible assumption
    | (with_reducible refine keeps_State_dispatch ?_ ?_; intro _; try dsimp only)
    | (with_reducible refine Ends.error ?_)
    | (with_reducible refine Ends.pass ?_; try dsimp only)

theorem keeps_limberRow {r0 : State} (op : Nat) (g : W128 → CoreData → CoreData) {s : State} (m : Moment) (hk : Keeps r0 s) : Keeps r0 (limberRow op g s m) := by
  unfold limberRow
  repeat' first
    | with_reducible assumption
    | (with_reducible refine keeps_State_dispatch ?_ ?_; intro _; try dsimp only)
    | with_reducible apply keeps_State_dispatchLimber
    | with_reducible apply keeps_State_issueLimber
    | (with_reducible refine Ends.error ?_)
    | (with_reducible refine Ends.pass ?_; try dsimp only)
    | split
    | (with_reducible refine Keeps.lit ?_; first | with_reducible assumption | (with_reducible refine keeps_State_dispatch ?_ ?_; intro _; try dsimp only) | with_reducible apply keeps_State_dispatchLimber | with_reducible apply keeps_State_issueLimber | (with_reducible refine Ends.error ?_) | (with_reducible refine Ends.pass ?_; try dsimp only) | split)

theorem keeps_memoryRow {r0 : State} (op : Nat) (g : W128 → CoreData → CoreData) {s : State} (m : Moment) (hk : Keeps r0 s) : Keeps r0 (memoryRow op g s m) := by
  unfold memoryRow
  repeat' first
    | with_reducible assumption
    | (with_reducible refine keeps_State_dispatch ?_ ?_; intro _; try dsimp only)
    | with_reducible apply keeps_State_dispatchLimber
    | with_reducible apply keeps_State_addObj
    | with_reducible apply keeps_State_issueLimber
    | (with_reducible refine Ends.error ?_)
    | (with_reducible refine Ends.pass ?_; try dsimp only)
    | split
    | (with_reducible refine Keeps.lit ?_; first | with_reducible assumption | (with_reducible refine keeps_State_dispatch ?_ ?_; intro _; try dsimp only) | with_reducible apply keeps_State_dispatchLimber | with_reducible apply keeps_State_addObj | with_reducible apply keeps_State_issueLimber | (with_reducible refine Ends.error ?_) | (with_reducible refine Ends.pass ?_; try dsimp only) | split)

theorem keeps_State_updRegion {r0 : State} {s : State} (r : Nat) (f : Region → Region) (hk : Keeps r0 s) : Keeps r0 (State.updRegion s r f) := by
  unfold State.updRegion
  (try dsimp only)
  repeat' first
    | with_reducible assumption
    | (with_reducible refine Keeps.lit ?_; first | with_reducible assumption)

theorem keeps_State_locWrite {r0 s : State} (l : Loc) (b : Nat) (hk : Keeps r0 s) : Keeps r0 (s.locWrite l b) := by
  unfold State.locWrite
  split
  · split
    · exact hk
    · exact hk.setLanding _ (fun h => Mem.write_wf _ _ ((memWf_iff s).1 h).1)
  · exact hk.setDdr _ (fun h => Mem.write_wf _ _ ((memWf_iff s).1 h).2.1)
  · exact hk.setFlash _ (fun h => Mem.write_wf _ _ ((memWf_iff s).1 h).2.2.1)
  · exact hk.setHost _ (fun h => Mem.write_wf _ _ ((memWf_iff s).1 h).2.2.2)
  · exact hk

theorem keeps_State_markDirty {r0 : State} {s : State} (a : Nat) (hk : Keeps r0 s) : Keeps r0 (State.markDirty s a) := by
  unfold State.markDirty
  (try dsimp only)
  repeat' first
    | with_reducible assumption
    | with_reducible apply keeps_State_updRegion
    | split
    | (with_reducible refine Keeps.lit ?_; first | with_reducible assumption | with_reducible apply keeps_State_updRegion | split)

theorem keeps_State_openPage {r0 s : State} (a : Nat) (hk : Keeps r0 s) : Keeps r0 (s.openPage a) := by
  unfold State.openPage
  dsimp only
  split
  · exact hk.setLanding _ (fun h => Mem.zero_wf _ _ ((memWf_iff s).1 h).1)
  · exact hk

theorem keeps_State_tierWrite {r0 : State} {s : State} (a b : Nat) (hk : Keeps r0 s) : Keeps r0 (State.tierWrite s a b) := by
  unfold State.tierWrite
  repeat' first
    | with_reducible assumption
    | with_reducible apply keeps_State_openPage
    | with_reducible apply keeps_State_locWrite
    | with_reducible apply keeps_State_markDirty
    | split

theorem keeps_State_tierWriteBytes {r0 s : State} (a : Nat) (bs : List Nat) (hk : Keeps r0 s) :
    Keeps r0 (s.tierWriteBytes a bs) := by
  induction bs generalizing s a with
  | nil => exact hk
  | cons b t ih => exact ih (a + 1) (keeps_State_tierWrite a b hk)

theorem keeps_State_markRange {r0 : State} {s : State} (a n : Nat) (hk : Keeps r0 s) : Keeps r0 (State.markRange s a n) := by
  unfold State.markRange
  (try dsimp only)
  repeat' first
    | with_reducible assumption
    | with_reducible apply keeps_State_markDirty
    | (with_reducible refine Keeps.foldl ?_ ?_; intro _ _ _)

theorem keeps_State_openRange {r0 : State} {s : State} (a n : Nat) (hk : Keeps r0 s) : Keeps r0 (State.openRange s a n) := by
  unfold State.openRange
  (try dsimp only)
  repeat' first
    | with_reducible assumption
    | with_reducible apply keeps_State_openPage
    | (with_reducible refine Keeps.foldl ?_ ?_; intro _ _ _)

theorem keeps_State_regionLose {r0 s : State} (a n : Nat) (hk : Keeps r0 s) : Keeps r0 (s.regionLose a n) := by
  unfold State.regionLose
  split
  · exact hk
  · dsimp only
    refine keeps_State_markRange _ _ ?_
    have hd := keeps_State_seed (keeps_State_openRange a n hk)
    split
    · exact hd.setLanding _ (fun h => Mem.lose_wf _ _ _ ((memWf_iff _).1 h).1)
    · exact hd.setDdr _ (fun h => Mem.lose_wf _ _ _ ((memWf_iff _).1 h).2.1)
    · exact hd.setFlash _ (fun h => Mem.lose_wf _ _ _ ((memWf_iff _).1 h).2.2.1)
    · exact hd.setHost _ (fun h => Mem.lose_wf _ _ _ ((memWf_iff _).1 h).2.2.2)
    · exact hd

theorem keeps_State_tierLose {r0 s : State} (a n k : Nat) (hk : Keeps r0 s) : Keeps r0 (s.tierLose a n k) := by
  induction k generalizing s a n with
  | zero => exact hk
  | succ k ih =>
    unfold State.tierLose
    split
    · exact hk
    · exact ih _ _ (keeps_State_regionLose _ _ hk)

theorem keeps_State_countAccess {r0 : State} {s : State} (cls a n : Nat) (hk : Keeps r0 s) : Keeps r0 (State.countAccess s cls a n) := by
  unfold State.countAccess
  repeat' first
    | with_reducible assumption
    | with_reducible apply keeps_State_addObj
    | split
    | (with_reducible refine Keeps.lit ?_; first | with_reducible assumption | with_reducible apply keeps_State_addObj | split)

theorem keeps_State_countRange {r0 s : State} (cls a n k : Nat) (hk : Keeps r0 s) :
    Keeps r0 (s.countRange cls a n k) := by
  induction k generalizing s a n with
  | zero => exact hk
  | succ k ih =>
    unfold State.countRange
    split
    · exact hk
    · exact ih _ _ (keeps_State_countAccess _ _ _ hk)

theorem keeps_State_countFrame {r0 : State} {s : State} (cls : Nat) (hk : Keeps r0 s) : Keeps r0 (State.countFrame s cls) := by
  unfold State.countFrame
  (try dsimp only)
  repeat' first
    | with_reducible assumption
    | with_reducible apply keeps_State_addObj
    | (with_reducible refine Keeps.foldl ?_ ?_; intro _ _ _)

theorem keeps_State_countHome {r0 : State} {s : State} (g : Region) (n : Nat) (hk : Keeps r0 s) : Keeps r0 (State.countHome s g n) := by
  unfold State.countHome
  repeat' first
    | with_reducible assumption
    | with_reducible apply keeps_State_addObj
    | split

theorem keeps_State_readUnit {r0 : State} {s : State} (q a : Nat) (hk : Keeps r0 s) : Keeps r0 (State.readUnit s q a) := by
  unfold State.readUnit
  (try dsimp only)
  repeat' first
    | with_reducible assumption
    | (with_reducible refine Keeps.lit ?_; first | with_reducible assumption)

theorem keeps_State_updSlot {r0 : State} {s : State} (n : Nat) (f : Slot → Slot) (hk : Keeps r0 s) : Keeps r0 (State.updSlot s n f) := by
  unfold State.updSlot
  (try dsimp only)
  repeat' first
    | with_reducible assumption
    | (with_reducible refine Keeps.lit ?_; first | with_reducible assumption)

theorem keeps_State_updGran {r0 : State} {s : State} (n g : Nat) (f : GranState → GranState) (hk : Keeps r0 s) : Keeps r0 (State.updGran s n g f) := by
  unfold State.updGran
  (try dsimp only)
  repeat' first
    | with_reducible assumption
    | with_reducible apply keeps_State_updSlot
    | (with_reducible refine Keeps.lit ?_; first | with_reducible assumption | with_reducible apply keeps_State_updSlot)

theorem keeps_State_refuseDesc {r0 : State} {s : State} (ctx n : Nat) (r : DescReason) (hk : Keeps r0 s) : Keeps r0 (State.refuseDesc s ctx n r) := by
  unfold State.refuseDesc
  repeat' first
    | with_reducible assumption
    | with_reducible apply keeps_State_setObj
    | with_reducible apply keeps_State_refuse

theorem keeps_State_installDesc {r0 : State} {s : State} (ctx n x : Nat) (hk : Keeps r0 s) : Keeps r0 (State.installDesc s ctx n x) := by
  unfold State.installDesc
  (try dsimp only)
  repeat' first
    | with_reducible assumption
    | (with_reducible refine Keeps.lit ?_; first | with_reducible assumption)

theorem keeps_descCreate {r0 : State} {s : State} (path ctx : Nat) (hk : Keeps r0 s) : Keeps r0 (descCreate s path ctx) := by
  unfold descCreate
  (try dsimp only)
  repeat' first
    | with_reducible assumption
    | with_reducible apply keeps_State_refuseDesc
    | with_reducible apply keeps_State_setObj
    | with_reducible apply keeps_State_installDesc
    | split
    | (with_reducible refine Keeps.lit ?_; first | with_reducible assumption | with_reducible apply keeps_State_refuseDesc | with_reducible apply keeps_State_setObj | with_reducible apply keeps_State_installDesc | split)

theorem keeps_descDestroy {r0 : State} {s : State} (ctx n : Nat) (hk : Keeps r0 s) : Keeps r0 (descDestroy s ctx n) := by
  unfold descDestroy
  (try dsimp only)
  repeat' first
    | with_reducible assumption
    | split
    | (with_reducible refine Keeps.lit ?_; first | with_reducible assumption | split)

theorem keeps_c6Flush {r0 : State} {s : State} (ctx : Nat) (hk : Keeps r0 s) : Keeps r0 (c6Flush s ctx) := by
  unfold c6Flush
  (try dsimp only)
  repeat' first
    | with_reducible assumption
    | with_reducible apply keeps_State_setObj
    | with_reducible apply keeps_State_updCtx
    | (with_reducible refine Keeps.lit ?_; first | with_reducible assumption | with_reducible apply keeps_State_setObj | with_reducible apply keeps_State_updCtx)

theorem keeps_c6FlushComplete {r0 : State} {s : State} (ctx : Nat) (hk : Keeps r0 s) : Keeps r0 (c6FlushComplete s ctx) := by
  unfold c6FlushComplete
  (try dsimp only)
  repeat' first
    | with_reducible assumption
    | with_reducible apply keeps_State_setObj
    | with_reducible apply keeps_State_updCtx
    | split
    | (with_reducible refine Keeps.lit ?_; first | with_reducible assumption | with_reducible apply keeps_State_setObj | with_reducible apply keeps_State_updCtx | split)

theorem keeps_winset {r0 : State} {s : State} (sh : Shell) (hk : Keeps r0 s) : Keeps r0 (winset s sh) := by
  unfold winset
  (try dsimp only)
  repeat' first
    | with_reducible assumption
    | (with_reducible refine keeps_State_dispatchNow ?_ ?_; intro _; try dsimp only)
    | with_reducible apply keeps_State_updData
    | (with_reducible refine Ends.error ?_)
    | (with_reducible refine Ends.pass ?_; try dsimp only)
    | split

theorem keeps_State_dispatchMove {r0 : State} {s : State} (sh : Shell) (op : Nat) (wr : Bool) (hk : Keeps r0 s) : Keeps r0 (State.dispatchMove s sh op wr) := by
  unfold State.dispatchMove
  (try dsimp only)
  repeat' first
    | with_reducible assumption
    | (with_reducible refine keeps_State_dispatch ?_ ?_; intro _; try dsimp only)
    | with_reducible apply keeps_State_holdHead
    | with_reducible apply keeps_State_updData
    | (with_reducible refine Ends.error ?_)
    | (with_reducible refine Ends.pass ?_; try dsimp only)
    | split
    | (with_reducible refine Keeps.lit ?_; first | with_reducible assumption | (with_reducible refine keeps_State_dispatch ?_ ?_; intro _; try dsimp only) | with_reducible apply keeps_State_holdHead | with_reducible apply keeps_State_updData | (with_reducible refine Ends.error ?_) | (with_reducible refine Ends.pass ?_; try dsimp only) | split)

theorem keeps_State_countUncorr {r0 : State} {s : State} (l : Loc) (hk : Keeps r0 s) : Keeps r0 (State.countUncorr s l) := by
  unfold State.countUncorr
  repeat' first
    | with_reducible assumption
    | with_reducible apply keeps_State_addObj
    | split
    | (with_reducible refine Keeps.lit ?_; first | with_reducible assumption | with_reducible apply keeps_State_addObj | split)

theorem keeps_State_memFaultAt {r0 : State} {s : State} (f : Flight) (l : Loc) (a : Nat) (hk : Keeps r0 s) : Keeps r0 (State.memFaultAt s f l a) := by
  unfold State.memFaultAt
  (try dsimp only)
  repeat' first
    | with_reducible assumption
    | with_reducible apply keeps_State_countUncorr
    | with_reducible apply keeps_State_holdShell
    | with_reducible apply keeps_State_endFlight

theorem keeps_State_memFault {r0 : State} {s : State} (f : Flight) (a : Nat) (hk : Keeps r0 s) : Keeps r0 (State.memFault s f a) := by
  unfold State.memFault
  repeat' first
    | with_reducible assumption
    | with_reducible apply keeps_State_memFaultAt

theorem keeps_State_c6Fault {r0 : State} {s : State} (f : Flight) (va : Nat) (hk : Keeps r0 s) : Keeps r0 (State.c6Fault s f va) := by
  unfold State.c6Fault
  (try dsimp only)
  repeat' first
    | with_reducible assumption
    | with_reducible apply keeps_State_setObj
    | with_reducible apply keeps_State_holdShell
    | with_reducible apply keeps_State_endFlight

theorem keeps_State_accFault {r0 s : State} (f : Flight) (va : Nat) (x : Option Nat) (hk : Keeps r0 s) :
    Keeps r0 (s.accFault f va x) := by
  cases x with
  | none => exact keeps_State_c6Fault _ _ hk
  | some a => exact keeps_State_memFault _ _ hk

theorem keeps_State_fillPiece {r0 : State} {s : State} (f : Flight) (slot a : Nat) (p : Piece) (hk : Keeps r0 s) : Keeps r0 (State.fillPiece s f slot a p) := by
  unfold State.fillPiece
  (try dsimp only)
  repeat' first
    | with_reducible assumption
    | with_reducible apply keeps_State_updData
    | with_reducible apply keeps_State_countAccess
    | (with_reducible refine Keeps.lit ?_; first | with_reducible assumption | with_reducible apply keeps_State_updData | with_reducible apply keeps_State_countAccess)

theorem keeps_State_spillPiece {r0 : State} {s : State} (f : Flight) (slot a : Nat) (p : Piece) (hk : Keeps r0 s) : Keeps r0 (State.spillPiece s f slot a p) := by
  unfold State.spillPiece
  (try dsimp only)
  repeat' first
    | with_reducible assumption
    | with_reducible apply keeps_State_tierWriteBytes
    | with_reducible apply keeps_State_countAccess

theorem keeps_State_movePieces {r0 s : State} (f : Flight) (d : Desc) (wr : Bool) (slot : Nat) (err : Option Nat)
    (ps : List Piece) (hk : Keeps r0 s) : Keeps r0 (s.movePieces f d wr slot err ps).1 := by
  induction ps generalizing s err with
  | nil => exact hk
  | cons p t ih =>
    unfold State.movePieces
    split
    · exact keeps_State_c6Fault _ _ hk
    · split
      · exact keeps_State_memFault _ _ hk
      · refine ih _ ?_
        split
        · exact keeps_State_spillPiece _ _ _ _ hk
        · exact keeps_State_fillPiece _ _ _ _ hk

theorem keeps_State_startMove {r0 : State} {s : State} (id op : Nat) (wr : Bool) (err : Option Nat) (hk : Keeps r0 s) : Keeps r0 (State.startMove s id op wr err) := by
  unfold State.startMove
  (try dsimp only)
  repeat' first
    | with_reducible assumption
    | with_reducible apply keeps_State_updData
    | with_reducible apply keeps_State_movePieces
    | with_reducible apply keeps_State_addObj
    | with_reducible apply keeps_State_updFlight
    | (with_reducible refine Keeps.foldl ?_ ?_; intro _ _ _)
    | split
    | (with_reducible refine Keeps.lit ?_; first | with_reducible assumption | with_reducible apply keeps_State_updData | with_reducible apply keeps_State_movePieces | with_reducible apply keeps_State_addObj | with_reducible apply keeps_State_updFlight | (with_reducible refine Keeps.foldl ?_ ?_; intro _ _ _) | split)

theorem keeps_State_descWrite {r0 : State} {s : State} (ctx : Nat) (d : Desc) (a : Nat) (bs : List Nat) (hk : Keeps r0 s) : Keeps r0 (State.descWrite s ctx d a bs) := by
  unfold State.descWrite
  (try dsimp only)
  repeat' first
    | with_reducible assumption
    | with_reducible apply keeps_State_tierWrite
    | (with_reducible refine Keeps.foldl ?_ ?_; intro _ _ _)
    | split
    | (with_reducible refine Keeps.lit ?_; first | with_reducible assumption | with_reducible apply keeps_State_tierWrite | (with_reducible refine Keeps.foldl ?_ ?_; intro _ _ _) | split)

theorem keeps_State_countMove {r0 s : State} (cls : Nat) (g : MoveProg) (w : Bool) (a n : Nat) (hk : Keeps r0 s) :
    Keeps r0 (s.countMove cls g w a n).1 := by
  unfold State.countMove
  dsimp only
  have h1 := keeps_State_countAccess cls a n hk
  split
  · split
    · exact keeps_State_readUnit _ _ h1
    · split
      · exact keeps_State_addObj _ _ _ h1
      · exact keeps_State_addObj _ _ _ (keeps_State_addObj _ _ _ h1)
  · exact h1

theorem keeps_State_countRow {r0 s : State} (f : Flight) (sd dd : Desc) (g : MoveProg) (accs : List MoveAcc) (hk : Keeps r0 s) :
    Keeps r0 (s.countRow f sd dd g accs).1 := by
  unfold State.countRow
  suffices h : ∀ (l : List MoveAcc) (t : State × MoveProg), Keeps r0 t.1 → Keeps r0 (l.foldl (fun t e =>
      match t.1.accAddr f.ctx sd dd e with
      | some x => t.1.countMove (moverClass f.owner) t.2 e.write x ((accs.filter e.same).map (fun y => y.addr)).eraseDups.length
      | none => t) t).1 from h _ _ hk
  intro l
  induction l with
  | nil => exact fun t h => h
  | cons e l ih =>
    intro t h
    rw [List.foldl_cons]
    apply ih
    split
    · exact keeps_State_countMove _ _ _ _ _ h
    · exact h

theorem keeps_State_moveCols {r0 s : State} (f : Flight) (b : MoveBody) (sd dd : Desc) (g : MoveProg) (o : List Int) (r n : Nat)
    (hk : Keeps r0 s) : Keeps r0 (s.moveCols f b sd dd g o r n).1 := by
  unfold State.moveCols
  dsimp only
  refine keeps_State_addObj _ _ _ ?_
  have h1 := keeps_State_countRow f sd dd g (moveRowAccs b sd dd r n o) hk
  split
  · exact keeps_State_descWrite _ _ _ _ (keeps_State_descWrite _ _ _ _ h1)
  · exact keeps_State_descWrite _ _ _ _ h1

theorem keeps_State_moveRows {r0 s : State} (f : Flight) (b : MoveBody) (sd dd : Desc) (err : Option Nat) (g : MoveProg)
    (rs : List (List Int × Nat)) (hk : Keeps r0 s) : Keeps r0 (s.moveRows f b sd dd err g rs).1 := by
  induction rs generalizing s err g with
  | nil => exact hk
  | cons p t ih =>
    obtain ⟨o, r⟩ := p
    unfold State.moveRows
    dsimp only
    split
    · split
      · exact keeps_State_c6Fault _ _ (keeps_State_moveCols _ _ _ _ _ _ _ _ hk)
      · exact keeps_State_memFault _ _ (keeps_State_moveCols _ _ _ _ _ _ _ _ hk)
    · exact ih _ _ (keeps_State_moveCols _ _ _ _ _ _ _ _ hk)

theorem keeps_State_moveStats {r0 : State} {s : State} (f : Flight) (b : MoveBody) (g : MoveProg) (hk : Keeps r0 s) : Keeps r0 (State.moveStats s f b g) := by
  unfold State.moveStats
  (try dsimp only)
  repeat' first
    | with_reducible assumption
    | split
    | (with_reducible refine Keeps.lit ?_; first | with_reducible assumption | split)

theorem keeps_State_moveAll {r0 s : State} (f : Flight) (b : MoveBody) (sd dd : Desc) (err : Option Nat)
    (hk : Keeps r0 s) : Keeps r0 (s.moveAll f b sd dd err).1 := by
  unfold State.moveAll
  dsimp only
  have hr := keeps_State_moveRows f b sd dd err {} (moveOrder b sd dd) hk
  split
  · exact keeps_State_moveStats _ _ _ hr
  · exact hr

theorem keeps_State_dispatchMover {r0 : State} {s : State} (sh : Shell) (hk : Keeps r0 s) : Keeps r0 (State.dispatchMover s sh) := by
  unfold State.dispatchMover
  (try dsimp only)
  repeat' first
    | with_reducible assumption
    | (with_reducible refine keeps_State_dispatch ?_ ?_; intro _; try dsimp only)
    | with_reducible apply keeps_State_holdHead
    | (with_reducible refine Ends.error ?_)
    | (with_reducible refine Ends.pass ?_; try dsimp only)
    | split
    | (with_reducible refine Keeps.lit ?_; first | with_reducible assumption | (with_reducible refine keeps_State_dispatch ?_ ?_; intro _; try dsimp only) | with_reducible apply keeps_State_holdHead | (with_reducible refine Ends.error ?_) | (with_reducible refine Ends.pass ?_; try dsimp only) | split)

theorem keeps_State_runMove {r0 : State} {s : State} (id : Nat) (err : Option Nat) (hk : Keeps r0 s) : Keeps r0 (State.runMove s id err) := by
  unfold State.runMove
  (try dsimp only)
  repeat' first
    | with_reducible assumption
    | with_reducible apply keeps_State_moveAll
    | with_reducible apply keeps_State_updFlight
    | split
    | (with_reducible refine Keeps.lit ?_; first | with_reducible assumption | with_reducible apply keeps_State_moveAll | with_reducible apply keeps_State_updFlight | split)

theorem keeps_State_setFrame {r0 : State} {s : State} (f : Nat) (u : FrameUse) (hk : Keeps r0 s) : Keeps r0 (State.setFrame s f u) := by
  unfold State.setFrame
  (try dsimp only)
  repeat' first
    | with_reducible assumption
    | (with_reducible refine Keeps.lit ?_; first | with_reducible assumption)

theorem keeps_State_dispatchStage {r0 : State} {s : State} (sh : Shell) (hk : Keeps r0 s) : Keeps r0 (State.dispatchStage s sh) := by
  unfold State.dispatchStage
  (try dsimp only)
  repeat' first
    | with_reducible assumption
    | (with_reducible refine keeps_State_dispatch ?_ ?_; intro _; try dsimp only)
    | with_reducible apply keeps_State_holdHead
    | with_reducible apply keeps_State_updRegion
    | with_reducible apply keeps_State_setFrame
    | (with_reducible refine Ends.error ?_)
    | (with_reducible refine Ends.pass ?_; try dsimp only)
    | split
    | (with_reducible refine Keeps.lit ?_; first | with_reducible assumption | (with_reducible refine keeps_State_dispatch ?_ ?_; intro _; try dsimp only) | with_reducible apply keeps_State_holdHead | with_reducible apply keeps_State_updRegion | with_reducible apply keeps_State_setFrame | (with_reducible refine Ends.error ?_) | (with_reducible refine Ends.pass ?_; try dsimp only) | split)

theorem keeps_State_dispatchBack {r0 : State} {s : State} (sh : Shell) (op : Nat) (busy : BusyBy) (hk : Keeps r0 s) : Keeps r0 (State.dispatchBack s sh op busy) := by
  unfold State.dispatchBack
  (try dsimp only)
  repeat' first
    | with_reducible assumption
    | (with_reducible refine keeps_State_dispatch ?_ ?_; intro _; try dsimp only)
    | with_reducible apply keeps_State_holdHead
    | with_reducible apply keeps_State_updRegion
    | (with_reducible refine Ends.error ?_)
    | (with_reducible refine Ends.pass ?_; try dsimp only)
    | split
    | (with_reducible refine Keeps.lit ?_; first | with_reducible assumption | (with_reducible refine keeps_State_dispatch ?_ ?_; intro _; try dsimp only) | with_reducible apply keeps_State_holdHead | with_reducible apply keeps_State_updRegion | (with_reducible refine Ends.error ?_) | (with_reducible refine Ends.pass ?_; try dsimp only) | split)

theorem keeps_State_copyIn {r0 s : State} (g : Region) (frame o n : Nat) (hk : Keeps r0 s) :
    Keeps r0 (s.copyIn g frame o n) := by
  unfold State.copyIn
  dsimp only
  refine hk.setLanding _ (fun h => ?_)
  have w := (memWf_iff s).1 h
  split
  · exact Mem.copy_wf _ _ _ w.2.1 w.1
  · exact Mem.copy_wf _ _ _ w.2.2.1 w.1
  · exact Mem.copy_wf _ _ _ w.2.2.2 w.1
  · exact Mem.copy_wf _ _ _ w.1 w.1
  · exact w.1

theorem keeps_State_copyBack {r0 s : State} (g : Region) (o n : Nat) (hk : Keeps r0 s) : Keeps r0 (s.copyBack g o n) := by
  unfold State.copyBack
  dsimp only
  split
  · exact hk.setDdr _ (fun h => Mem.copy_wf _ _ _ ((memWf_iff s).1 h).1 ((memWf_iff s).1 h).2.1)
  · exact keeps_State_addObj _ _ _ (keeps_State_addObj _ _ _
      (hk.setFlash _ (fun h => Mem.copy_wf _ _ _ ((memWf_iff s).1 h).1 ((memWf_iff s).1 h).2.2.1)))
  · exact hk.setHost _ (fun h => Mem.copy_wf _ _ _ ((memWf_iff s).1 h).1 ((memWf_iff s).1 h).2.2.2)
  · exact hk

theorem keeps_State_writeUnits {r0 : State} {s : State} (u r : Nat) (us : List (Nat × Nat)) (hk : Keeps r0 s) : Keeps r0 (State.writeUnits s u r us) := by
  unfold State.writeUnits
  (try dsimp only)
  repeat' first
    | with_reducible assumption
    | with_reducible apply keeps_State_copyBack
    | with_reducible apply keeps_State_countRange
    | with_reducible apply keeps_State_countHome
    | with_reducible apply keeps_State_addObj
    | (with_reducible refine Keeps.foldl ?_ ?_; intro _ _ _)

theorem keeps_State_writeBack {r0 : State} {s : State} (u r : Nat) (hk : Keeps r0 s) : Keeps r0 (State.writeBack s u r) := by
  unfold State.writeBack
  repeat' first
    | with_reducible assumption
    | with_reducible apply keeps_State_writeUnits

theorem keeps_State_backFails {r0 : State} {s : State} (f : Flight) (g : Region) (err : Option Nat) (o : Nat) (pages : Tab Bool) (hk : Keeps r0 s) : Keeps r0 (State.backFails s f g err o pages) := by
  unfold State.backFails
  (try dsimp only)
  repeat' first
    | with_reducible assumption
    | with_reducible apply keeps_State_writeUnits
    | with_reducible apply keeps_State_updRegion
    | with_reducible apply keeps_State_memFaultAt
    | (with_reducible refine Keeps.lit ?_; first | with_reducible assumption | with_reducible apply keeps_State_writeUnits | with_reducible apply keeps_State_updRegion | with_reducible apply keeps_State_memFaultAt)

theorem keeps_State_startStage {r0 : State} {s : State} (id : Nat) (hk : Keeps r0 s) : Keeps r0 (State.startStage s id) := by
  unfold State.startStage
  (try dsimp only)
  repeat' first
    | with_reducible assumption
    | with_reducible apply keeps_State_updFlight
    | split
    | (with_reducible refine Keeps.lit ?_; first | with_reducible assumption | with_reducible apply keeps_State_updFlight | split)

theorem keeps_State_startEvict {r0 : State} {s : State} (id : Nat) (hk : Keeps r0 s) : Keeps r0 (State.startEvict s id) := by
  unfold State.startEvict
  (try dsimp only)
  repeat' first
    | with_reducible assumption
    | with_reducible apply keeps_State_updFlight
    | split
    | (with_reducible refine Keeps.lit ?_; first | with_reducible assumption | with_reducible apply keeps_State_updFlight | split)

theorem keeps_State_startClean {r0 s : State} (id : Nat) (hk : Keeps r0 s) : Keeps r0 (s.startClean id) := by
  unfold State.startClean
  split
  · exact hk
  · exact keeps_State_updFlight _ _ (keeps_State_updRegion _ _ hk)

theorem keeps_State_readHome {r0 : State} {s : State} (g : Region) (hk : Keeps r0 s) : Keeps r0 (State.readHome s g) := by
  unfold State.readHome
  (try dsimp only)
  repeat' first
    | with_reducible assumption
    | with_reducible apply keeps_State_readUnit
    | (with_reducible refine Keeps.foldl ?_ ?_; intro _ _ _)
    | split

theorem keeps_stageComplete {r0 : State} {s : State} (id : Nat) (err : Option Nat) (hk : Keeps r0 s) : Keeps r0 (stageComplete s id err) := by
  unfold stageComplete
  (try dsimp only)
  repeat' first
    | with_reducible assumption
    | with_reducible apply keeps_State_updRegion
    | with_reducible apply keeps_State_setFrame
    | with_reducible apply keeps_State_memFaultAt
    | with_reducible apply keeps_State_copyIn
    | with_reducible apply keeps_State_addObj
    | with_reducible apply keeps_State_countFrame
    | with_reducible apply keeps_State_countHome
    | with_reducible apply keeps_State_readHome
    | with_reducible apply keeps_State_complete
    | split
    | (with_reducible refine Keeps.lit ?_; first | with_reducible assumption | with_reducible apply keeps_State_updRegion | with_reducible apply keeps_State_setFrame | with_reducible apply keeps_State_memFaultAt | with_reducible apply keeps_State_copyIn | with_reducible apply keeps_State_addObj | with_reducible apply keeps_State_countFrame | with_reducible apply keeps_State_countHome | with_reducible apply keeps_State_readHome | with_reducible apply keeps_State_complete | split)

theorem keeps_evictDrainEnd {r0 : State} {s : State} (id : Nat) (hk : Keeps r0 s) : Keeps r0 (evictDrainEnd s id) := by
  unfold evictDrainEnd
  (try dsimp only)
  repeat' first
    | with_reducible assumption
    | with_reducible apply keeps_State_updFlight
    | split
    | (with_reducible refine Keeps.lit ?_; first | with_reducible assumption | with_reducible apply keeps_State_updFlight | split)

theorem keeps_evictComplete {r0 : State} {s : State} (id : Nat) (err : Option Nat) (hk : Keeps r0 s) : Keeps r0 (evictComplete s id err) := by
  unfold evictComplete
  (try dsimp only)
  repeat' first
    | with_reducible assumption
    | with_reducible apply keeps_State_updRegion
    | with_reducible apply keeps_State_complete
    | with_reducible apply keeps_State_backFails
    | with_reducible apply keeps_State_writeBack
    | with_reducible apply keeps_State_setFrame
    | split
    | (with_reducible refine Keeps.lit ?_; first | with_reducible assumption | with_reducible apply keeps_State_updRegion | with_reducible apply keeps_State_complete | with_reducible apply keeps_State_backFails | with_reducible apply keeps_State_writeBack | with_reducible apply keeps_State_setFrame | split)

theorem keeps_cleanComplete {r0 : State} {s : State} (id : Nat) (err : Option Nat) (hk : Keeps r0 s) : Keeps r0 (cleanComplete s id err) := by
  unfold cleanComplete
  (try dsimp only)
  repeat' first
    | with_reducible assumption
    | with_reducible apply keeps_State_updRegion
    | with_reducible apply keeps_State_complete
    | with_reducible apply keeps_State_backFails
    | with_reducible apply keeps_State_writeUnits
    | split
    | (with_reducible refine Keeps.lit ?_; first | with_reducible assumption | with_reducible apply keeps_State_updRegion | with_reducible apply keeps_State_complete | with_reducible apply keeps_State_backFails | with_reducible apply keeps_State_writeUnits | split)

theorem keeps_State_tierEnd {r0 : State} {s : State} (cmd reason source which ctx : Nat) (hk : Keeps r0 s) : Keeps r0 (State.tierEnd s cmd reason source which ctx) := by
  unfold State.tierEnd
  repeat' first
    | with_reducible assumption
    | with_reducible apply keeps_State_setObj
    | split

theorem keeps_mapRegion {r0 : State} {s : State} (path : Nat) (hk : Keeps r0 s) : Keeps r0 (mapRegion s path) := by
  unfold mapRegion
  (try dsimp only)
  repeat' first
    | with_reducible assumption
    | with_reducible apply keeps_State_updRegion
    | with_reducible apply keeps_State_setFrame
    | with_reducible apply keeps_State_tierEnd
    | split

theorem keeps_unmapRegion {r0 : State} {s : State} (path : Nat) (hk : Keeps r0 s) : Keeps r0 (unmapRegion s path) := by
  unfold unmapRegion
  (try dsimp only)
  repeat' first
    | with_reducible assumption
    | with_reducible apply keeps_State_updRegion
    | with_reducible apply keeps_State_seed
    | with_reducible apply keeps_State_setFrame
    | with_reducible apply keeps_State_tierEnd
    | (with_reducible refine Keeps.setLanding ?_ _ (fun h => by first | exact Mem.lose_wf _ _ _ ((memWf_iff _).1 h).1 | rfl))
    | split
    | (with_reducible refine Keeps.lit ?_; first | with_reducible assumption | with_reducible apply keeps_State_updRegion | with_reducible apply keeps_State_seed | with_reducible apply keeps_State_setFrame | with_reducible apply keeps_State_tierEnd | (with_reducible refine Keeps.setLanding ?_ _ (fun h => by first | exact Mem.lose_wf _ _ _ ((memWf_iff _).1 h).1 | rfl)) | split)

theorem keeps_trimRegion {r0 : State} {s : State} (path : Nat) (hk : Keeps r0 s) : Keeps r0 (trimRegion s path) := by
  unfold trimRegion
  (try dsimp only)
  repeat' first
    | with_reducible assumption
    | with_reducible apply keeps_State_seed
    | with_reducible apply keeps_State_tierEnd
    | (with_reducible refine Keeps.setFlash ?_ _ (fun h => by first | exact Mem.lose_wf _ _ _ ((memWf_iff _).1 h).2.2.1 | rfl))
    | split
    | (with_reducible refine Keeps.lit ?_; first | with_reducible assumption | with_reducible apply keeps_State_seed | with_reducible apply keeps_State_tierEnd | (with_reducible refine Keeps.setFlash ?_ _ (fun h => by first | exact Mem.lose_wf _ _ _ ((memWf_iff _).1 h).2.2.1 | rfl)) | split)

theorem keeps_discardRegion {r0 : State} {s : State} (path : Nat) (hk : Keeps r0 s) : Keeps r0 (discardRegion s path) := by
  unfold discardRegion
  (try dsimp only)
  repeat' first
    | with_reducible assumption
    | with_reducible apply keeps_State_setFrame
    | with_reducible apply keeps_State_updRegion
    | with_reducible apply keeps_State_tierEnd
    | split
    | (with_reducible refine Keeps.lit ?_; first | with_reducible assumption | with_reducible apply keeps_State_setFrame | with_reducible apply keeps_State_updRegion | with_reducible apply keeps_State_tierEnd | split)

theorem keeps_State_showAlloc {r0 : State} {s : State} (path ctx : Nat) (hk : Keeps r0 s) : Keeps r0 (State.showAlloc s path ctx) := by
  unfold State.showAlloc
  (try dsimp only)
  repeat' first
    | with_reducible assumption
    | with_reducible apply keeps_State_setPobj
    | split

theorem keeps_allocGrant {r0 : State} {s : State} (path ctx : Nat) (hk : Keeps r0 s) : Keeps r0 (allocGrant s path ctx) := by
  unfold allocGrant
  (try dsimp only)
  repeat' first
    | with_reducible assumption
    | with_reducible apply keeps_State_tierEnd
    | with_reducible apply keeps_State_updRegion
    | with_reducible apply keeps_State_showAlloc
    | (with_reducible refine Keeps.foldl ?_ ?_; intro _ _ _)
    | split
    | (with_reducible refine Keeps.lit ?_; first | with_reducible assumption | with_reducible apply keeps_State_tierEnd | with_reducible apply keeps_State_updRegion | with_reducible apply keeps_State_showAlloc | (with_reducible refine Keeps.foldl ?_ ?_; intro _ _ _) | split)

theorem keeps_allocRelease {r0 : State} {s : State} (path ctx : Nat) (hk : Keeps r0 s) : Keeps r0 (allocRelease s path ctx) := by
  unfold allocRelease
  (try dsimp only)
  repeat' first
    | with_reducible assumption
    | with_reducible apply keeps_State_tierEnd
    | with_reducible apply keeps_State_refuse
    | with_reducible apply keeps_State_updRegion
    | with_reducible apply keeps_State_showAlloc
    | (with_reducible refine Keeps.foldl ?_ ?_; intro _ _ _)
    | split
    | (with_reducible refine Keeps.lit ?_; first | with_reducible assumption | with_reducible apply keeps_State_tierEnd | with_reducible apply keeps_State_refuse | with_reducible apply keeps_State_updRegion | with_reducible apply keeps_State_showAlloc | (with_reducible refine Keeps.foldl ?_ ?_; intro _ _ _) | split)

theorem keeps_frameToPool {r0 : State} {s : State} (path ctx : Nat) (hk : Keeps r0 s) : Keeps r0 (frameToPool s path ctx) := by
  unfold frameToPool
  (try dsimp only)
  repeat' first
    | with_reducible assumption
    | with_reducible apply keeps_State_setFrame
    | with_reducible apply keeps_State_tierEnd
    | split
    | (with_reducible refine Keeps.lit ?_; first | with_reducible assumption | with_reducible apply keeps_State_setFrame | with_reducible apply keeps_State_tierEnd | split)

theorem keeps_frameToFree {r0 : State} {s : State} (path : Nat) (hk : Keeps r0 s) : Keeps r0 (frameToFree s path) := by
  unfold frameToFree
  (try dsimp only)
  repeat' first
    | with_reducible assumption
    | with_reducible apply keeps_State_tierEnd
    | with_reducible apply keeps_State_setFrame
    | split
    | (with_reducible refine Keeps.lit ?_; first | with_reducible assumption | with_reducible apply keeps_State_tierEnd | with_reducible apply keeps_State_setFrame | split)

theorem keeps_hostwinWrite {r0 : State} {s : State} (path v : Nat) (hk : Keeps r0 s) : Keeps r0 (hostwinWrite s path v) := by
  unfold hostwinWrite
  (try dsimp only)
  repeat' first
    | with_reducible assumption
    | with_reducible apply keeps_State_setObj
    | split
    | (with_reducible refine Keeps.lit ?_; first | with_reducible assumption | with_reducible apply keeps_State_setObj | split)

theorem keeps_flashScrubNow {r0 : State} {s : State} (q : Nat) (hk : Keeps r0 s) : Keeps r0 (flashScrubNow s q) := by
  unfold flashScrubNow
  (try dsimp only)
  repeat' first
    | with_reducible assumption
    | with_reducible apply keeps_State_setObj
    | (with_reducible refine Keeps.lit ?_; first | with_reducible assumption | with_reducible apply keeps_State_setObj)

theorem keeps_State_scrubPassed {r0 : State} {s : State} (q : Nat) (hk : Keeps r0 s) : Keeps r0 (State.scrubPassed s q) := by
  unfold State.scrubPassed
  (try dsimp only)
  repeat' first
    | with_reducible assumption
    | with_reducible apply keeps_State_setObj
    | (with_reducible refine Keeps.lit ?_; first | with_reducible assumption | with_reducible apply keeps_State_setObj)

theorem keeps_State_eraseBlock {r0 : State} {s : State} (q b bytes : Nat) (hk : Keeps r0 s) : Keeps r0 (State.eraseBlock s q b bytes) := by
  unfold State.eraseBlock
  (try dsimp only)
  repeat' first
    | with_reducible assumption
    | with_reducible apply keeps_State_addObj
    | (with_reducible refine Keeps.lit ?_; first | with_reducible assumption | with_reducible apply keeps_State_addObj)

theorem keeps_State_relocate {r0 : State} {s : State} (q b bytes : Nat) (hk : Keeps r0 s) : Keeps r0 (State.relocate s q b bytes) := by
  unfold State.relocate
  repeat' first
    | with_reducible assumption
    | with_reducible apply keeps_State_eraseBlock
    | with_reducible apply keeps_State_addObj

theorem keeps_State_readBlock {r0 : State} {s : State} (q b n : Nat) (hk : Keeps r0 s) : Keeps r0 (State.readBlock s q b n) := by
  unfold State.readBlock
  (try dsimp only)
  repeat' first
    | with_reducible assumption
    | (with_reducible refine Keeps.lit ?_; first | with_reducible assumption)

theorem keeps_flashScrub {r0 : State} {s : State} (q : Nat) (read : List (Nat × Nat)) (weak : List BlockMove) (uncorr : Nat) (passEnd : Bool) (hk : Keeps r0 s) : Keeps r0 (flashScrub s q read weak uncorr passEnd) := by
  unfold flashScrub
  (try dsimp only)
  repeat' first
    | with_reducible assumption
    | with_reducible apply keeps_State_readBlock
    | with_reducible apply keeps_State_relocate
    | with_reducible apply keeps_State_addObj
    | with_reducible apply keeps_State_scrubPassed
    | with_reducible apply keeps_State_setObj
    | (with_reducible refine Keeps.foldl ?_ ?_; intro _ _ _)
    | split

theorem keeps_readDisturb {r0 : State} {s : State} (q : Nat) (b : BlockMove) (hk : Keeps r0 s) : Keeps r0 (readDisturb s q b) := by
  unfold readDisturb
  repeat' first
    | with_reducible assumption
    | with_reducible apply keeps_State_relocate
    | split

theorem keeps_wearLevel {r0 : State} {s : State} (q : Nat) (b : BlockMove) (hk : Keeps r0 s) : Keeps r0 (wearLevel s q b) := by
  unfold wearLevel
  (try dsimp only)
  repeat' first
    | with_reducible assumption
    | with_reducible apply keeps_State_eraseBlock
    | split

theorem keeps_garbageCollect {r0 : State} {s : State} (q b bytes spare uncorr : Nat) (hk : Keeps r0 s) : Keeps r0 (garbageCollect s q b bytes spare uncorr) := by
  unfold garbageCollect
  (try dsimp only)
  repeat' first
    | with_reducible assumption
    | with_reducible apply keeps_State_eraseBlock
    | with_reducible apply keeps_State_addObj
    | with_reducible apply keeps_State_setObj
    | with_reducible apply keeps_State_report
    | split

theorem keeps_ddrScrub {r0 : State} {s : State} (q corrected uncorr : Nat) (hk : Keeps r0 s) : Keeps r0 (ddrScrub s q corrected uncorr) := by
  unfold ddrScrub
  repeat' first
    | with_reducible assumption
    | with_reducible apply keeps_State_addObj
    | split

end Sys2Proof.Machine
end

