-- ==== Sys2Proof/Laws/Keeps2.lean ====
section
/-!
SUPPORT. What every operation of the machine keeps: links, stands, collectives and the Scaler.
-/

set_option linter.all false

namespace Sys2Proof.Machine

theorem keeps_State_updLink {r0 : State} {s : State} (n : Nat) (f : Link → Link) (hk : Keeps r0 s) : Keeps r0 (State.updLink s n f) := by
  unfold State.updLink
  (try dsimp only)
  repeat' first
    | with_reducible assumption
    | (with_reducible refine Keeps.lit ?_; first | with_reducible assumption)

theorem keeps_State_showLanes {r0 : State} {s : State} (n : Nat) (hk : Keeps r0 s) : Keeps r0 (State.showLanes s n) := by
  unfold State.showLanes
  (try dsimp only)
  repeat' first
    | with_reducible assumption
    | with_reducible apply keeps_State_setObj
    | (with_reducible refine Keeps.foldl ?_ ?_; intro _ _ _)
    | split
    | (with_reducible refine Keeps.lit ?_; first | with_reducible assumption | with_reducible apply keeps_State_setObj | (with_reducible refine Keeps.foldl ?_ ?_; intro _ _ _) | split)

theorem keeps_State_setLink {r0 : State} {s : State} (n : Nat) (st : LinkSt) (lanes : Nat) (hk : Keeps r0 s) : Keeps r0 (State.setLink s n st lanes) := by
  unfold State.setLink
  (try dsimp only)
  repeat' first
    | with_reducible assumption
    | with_reducible apply keeps_State_updLink
    | with_reducible apply keeps_State_showLanes
    | (with_reducible refine Keeps.lit ?_; first | with_reducible assumption | with_reducible apply keeps_State_updLink | with_reducible apply keeps_State_showLanes)

theorem keeps_State_endLinkCmd {r0 : State} {s : State} (n v : Nat) (hk : Keeps r0 s) : Keeps r0 (State.endLinkCmd s n v) := by
  unfold State.endLinkCmd
  (try dsimp only)
  repeat' first
    | with_reducible assumption
    | with_reducible apply keeps_State_setObj
    | split

theorem keeps_State_sendCtl {r0 : State} {s : State} (n : Nat) (f : Frame) (flight : Option Nat) (hk : Keeps r0 s) : Keeps r0 (State.sendCtl s n f flight) := by
  unfold State.sendCtl
  (try dsimp only)
  repeat' first
    | with_reducible assumption
    | with_reducible apply keeps_State_updLink
    | (with_reducible refine Keeps.lit ?_; first | with_reducible assumption | with_reducible apply keeps_State_updLink)

theorem keeps_State_startFrame {r0 : State} {s : State} (n : Nat) (f : Frame) (flight : Option Nat) (hk : Keeps r0 s) : Keeps r0 (State.startFrame s n f flight) := by
  unfold State.startFrame
  (try dsimp only)
  repeat' first
    | with_reducible assumption
    | with_reducible apply keeps_State_updLink
    | with_reducible apply keeps_State_addObj
    | with_reducible apply Keeps.send
    | split
    | (with_reducible refine Keeps.lit ?_; first | with_reducible assumption | with_reducible apply keeps_State_updLink | with_reducible apply keeps_State_addObj | with_reducible apply Keeps.send | split)

theorem keeps_State_resendAll {r0 : State} {s : State} (n : Nat) (counted : Bool) (hk : Keeps r0 s) : Keeps r0 (State.resendAll s n counted) := by
  unfold State.resendAll
  (try dsimp only)
  repeat' first
    | with_reducible assumption
    | with_reducible apply keeps_State_updLink
    | with_reducible apply keeps_State_addObj
    | with_reducible apply Keeps.send
    | split
    | (with_reducible refine Keeps.lit ?_; first | with_reducible assumption | with_reducible apply keeps_State_updLink | with_reducible apply keeps_State_addObj | with_reducible apply Keeps.send | split)

theorem keeps_State_sendCodewords {r0 : State} {s : State} (n : Nat) (hk : Keeps r0 s) : Keeps r0 (State.sendCodewords s n) := by
  unfold State.sendCodewords
  (try dsimp only)
  repeat' first
    | with_reducible assumption
    | with_reducible apply keeps_State_updLink
    | with_reducible apply Keeps.send
    | (with_reducible refine Keeps.foldl ?_ ?_; intro _ _ _)
    | split
    | (with_reducible refine Keeps.lit ?_; first | with_reducible assumption | with_reducible apply keeps_State_updLink | with_reducible apply Keeps.send | (with_reducible refine Keeps.foldl ?_ ?_; intro _ _ _) | split)

theorem keeps_State_countSpan {r0 : State} {s : State} (ctx : Nat) (d : Desc) (write : Bool) (a n : Nat) (hk : Keeps r0 s) : Keeps r0 (State.countSpan s ctx d write a n) := by
  unfold State.countSpan
  (try dsimp only)
  repeat' first
    | with_reducible assumption
    | with_reducible apply keeps_State_countAccess
    | (with_reducible refine Keeps.foldl ?_ ?_; intro _ _ _)
    | split
    | (with_reducible refine Keeps.lit ?_; first | with_reducible assumption | with_reducible apply keeps_State_countAccess | (with_reducible refine Keeps.foldl ?_ ?_; intro _ _ _) | split)

theorem keeps_State_countElems {r0 s : State} (ctx : Nat) (d : Desc) (i n k : Nat) (hk : Keeps r0 s) :
    Keeps r0 (s.countElems ctx d i n k) := by
  induction k generalizing s i n with
  | zero => exact hk
  | succ k ih =>
    unfold State.countElems
    split
    · exact hk
    · dsimp only
      refine ih _ _ ?_
      have h1 := keeps_State_countSpan ctx d false ((d.rowAddr (d.linPos i)).toNat + i % d.sizeOf 0 * d.fmt.width / 8)
        ((i % d.sizeOf 0 * d.fmt.width % 8 + min n (d.sizeOf 0 - i % d.sizeOf 0) * d.fmt.width + 7) / 8) hk
      split
      · exact Keeps.foldl (fun t x ht => keeps_State_countSpan _ _ _ _ _ ht) h1
      · exact h1

theorem keeps_State_writeCodes {r0 : State} {s : State} (ctx : Nat) (d : Desc) (i : Nat) (codes : List Nat) (hk : Keeps r0 s) : Keeps r0 (State.writeCodes s ctx d i codes) := by
  unfold State.writeCodes
  (try dsimp only)
  repeat' first
    | with_reducible assumption
    | with_reducible apply keeps_State_descWrite
    | with_reducible apply keeps_State_countSpan

theorem keeps_State_writeGroup {r0 s : State} (ctx : Nat) (d : Desc) (p : ConvParams) (g : List OutElem) (sts : List (Nat × Stat))
    (hk : Keeps r0 s) : Keeps r0 (s.writeGroup ctx d p g sts).1 := by
  unfold State.writeGroup
  dsimp only
  repeat' first
    | split
    | exact Keeps.foldl (fun t x ht => keeps_State_writeCodes _ _ _ _ ht) hk
    | (refine keeps_State_countSpan _ _ _ _ _ (keeps_State_descWrite _ _ _ _ ?_))

theorem keeps_State_writeGroups {r0 s : State} (ctx : Nat) (d : Desc) (p : ConvParams) (sts : List (Nat × Stat))
    (gs : List (List OutElem)) (hk : Keeps r0 s) : Keeps r0 (s.writeGroups ctx d p sts gs).1 := by
  induction gs generalizing s sts with
  | nil => exact hk
  | cons g t ih =>
    unfold State.writeGroups
    dsimp only
    have h1 := keeps_State_writeGroup ctx d p g sts hk
    split
    · exact h1
    · exact ih _ h1

theorem keeps_State_writeElems {r0 s : State} (ctx : Nat) (d : Desc) (p : ConvParams) (segs : List (Nat × List RVal))
    (hk : Keeps r0 s) : Keeps r0 (s.writeElems ctx d p segs).1 := keeps_State_writeGroups _ _ _ _ _ hk

theorem keeps_State_updColl {r0 : State} {s : State} (id : Nat) (f : CollStep → CollStep) (hk : Keeps r0 s) : Keeps r0 (State.updColl s id f) := by
  unfold State.updColl
  (try dsimp only)
  repeat' first
    | with_reducible assumption
    | split
    | (with_reducible refine Keeps.lit ?_; first | with_reducible assumption | split)

theorem keeps_State_loseDest {r0 : State} {s : State} (x : CollStep) (hk : Keeps r0 s) : Keeps r0 (State.loseDest s x) := by
  unfold State.loseDest
  (try dsimp only)
  repeat' first
    | with_reducible assumption
    | with_reducible apply keeps_State_tierLose
    | (with_reducible refine Keeps.foldl ?_ ?_; intro _ _ _)
    | split
    | (with_reducible refine Keeps.lit ?_; first | with_reducible assumption | with_reducible apply keeps_State_tierLose | (with_reducible refine Keeps.foldl ?_ ?_; intro _ _ _) | split)

theorem keeps_State_bumpFence {r0 : State} {s : State} (ctx : Nat) (hk : Keeps r0 s) : Keeps r0 (State.bumpFence s ctx) := by
  unfold State.bumpFence
  repeat' first
    | with_reducible assumption
    | with_reducible apply keeps_State_addObj

theorem keeps_State_broadcast {r0 : State} {s : State} (ctx type arg coll : Nat) (planes : List Nat) (flight : Option Nat) (hk : Keeps r0 s) : Keeps r0 (State.broadcast s ctx type arg coll planes flight) := by
  unfold State.broadcast
  (try dsimp only)
  repeat' first
    | with_reducible assumption
    | with_reducible apply keeps_State_sendCtl
    | (with_reducible refine Keeps.foldl ?_ ?_; intro _ _ _)
    | split

theorem keeps_State_dropSteps {r0 : State} {s : State} (ctx : Nat) (hk : Keeps r0 s) : Keeps r0 (State.dropSteps s ctx) := by
  unfold State.dropSteps
  (try dsimp only)
  repeat' first
    | with_reducible assumption
    | with_reducible apply keeps_State_loseDest
    | with_reducible apply keeps_State_endFlight
    | (with_reducible refine Keeps.foldl ?_ ?_; intro _ _ _)
    | split
    | (with_reducible refine Keeps.lit ?_; first | with_reducible assumption | with_reducible apply keeps_State_loseDest | with_reducible apply keeps_State_endFlight | (with_reducible refine Keeps.foldl ?_ ?_; intro _ _ _) | split)

theorem keeps_State_abortStand {r0 : State} {s : State} (ctx cause member coll yarder : Nat) (arg : Option Nat) (hk : Keeps r0 s) : Keeps r0 (State.abortStand s ctx cause member coll yarder arg) := by
  unfold State.abortStand
  (try dsimp only)
  repeat' first
    | with_reducible assumption
    | with_reducible apply keeps_State_setObj
    | with_reducible apply keeps_State_addObj
    | with_reducible apply keeps_State_bumpFence
    | with_reducible apply keeps_State_report
    | with_reducible apply keeps_State_hold
    | with_reducible apply keeps_State_dropSteps
    | with_reducible apply keeps_State_broadcast
    | split

theorem keeps_State_abortPlane {r0 : State} {s : State} (p cause : Nat) (hk : Keeps r0 s) : Keeps r0 (State.abortPlane s p cause) := by
  unfold State.abortPlane
  (try dsimp only)
  repeat' first
    | with_reducible assumption
    | with_reducible apply keeps_State_abortStand
    | (with_reducible refine Keeps.foldl ?_ ?_; intro _ _ _)

theorem keeps_State_reportLink {r0 : State} {s : State} (n code : Nat) (hk : Keeps r0 s) : Keeps r0 (State.reportLink s n code) := by
  unfold State.reportLink
  repeat' first
    | with_reducible assumption
    | with_reducible apply keeps_State_report
    | split

theorem keeps_State_faultLink {r0 : State} {s : State} (n code cause : Nat) (hk : Keeps r0 s) : Keeps r0 (State.faultLink s n code cause) := by
  unfold State.faultLink
  (try dsimp only)
  repeat' first
    | with_reducible assumption
    | with_reducible apply keeps_State_setLink
    | with_reducible apply keeps_State_updLink
    | with_reducible apply keeps_State_endLinkCmd
    | with_reducible apply keeps_State_reportLink
    | with_reducible apply keeps_State_abortPlane
    | split
    | (with_reducible refine Keeps.lit ?_; first | with_reducible assumption | with_reducible apply keeps_State_setLink | with_reducible apply keeps_State_updLink | with_reducible apply keeps_State_endLinkCmd | with_reducible apply keeps_State_reportLink | with_reducible apply keeps_State_abortPlane | split)

theorem keeps_State_recoverLink {r0 : State} {s : State} (n : Nat) (hk : Keeps r0 s) : Keeps r0 (State.recoverLink s n) := by
  unfold State.recoverLink
  (try dsimp only)
  repeat' first
    | with_reducible assumption
    | with_reducible apply keeps_State_addObj
    | with_reducible apply keeps_State_faultLink
    | with_reducible apply keeps_State_resendAll
    | split

theorem keeps_State_dropCount {r0 : State} {s : State} (ctx sub : Nat) (hk : Keeps r0 s) : Keeps r0 (State.dropCount s ctx sub) := by
  unfold State.dropCount
  repeat' first
    | with_reducible assumption
    | with_reducible apply keeps_State_addObj

theorem keeps_State_checkStand {r0 s : State} (plane : Nat) (f : Frame) (hk : Keeps r0 s) :
    Ends r0 (fun _ => True) (s.checkStand plane f) := by
  unfold State.checkStand
  dsimp only
  repeat' first
    | exact Ends.error (keeps_State_addObj _ _ _ hk)
    | exact Ends.error (keeps_State_dropCount _ _ hk)
    | exact Ends.error (keeps_State_abortStand _ _ _ _ _ _ (keeps_State_dropCount _ _ hk))
    | exact Ends.error hk
    | exact Ends.pass trivial
    | split

theorem keeps_State_checkData {r0 s : State} (plane : Nat) (f : Frame) (hk : Keeps r0 s) :
    Ends r0 (fun _ => True) (s.checkData plane f) := by
  have hs := keeps_State_checkStand plane f hk
  unfold State.checkData
  split
  · next e => exact Ends.error (hs.stop e)
  · dsimp only
    repeat' first
      | exact Ends.error (keeps_State_dropCount _ _ hk)
      | exact Ends.error (keeps_State_abortStand _ _ _ _ _ _ (keeps_State_dropCount _ _ hk))
      | exact Ends.error (keeps_State_abortStand _ _ _ _ _ _ hk)
      | exact Ends.pass trivial
      | split

theorem keeps_State_yarderWork {r0 : State} {s : State} (plane ctx : Nat) (hk : Keeps r0 s) : Keeps r0 (State.yarderWork s plane ctx) := by
  unfold State.yarderWork
  repeat' first
    | with_reducible assumption
    | with_reducible apply keeps_State_noteWork

theorem keeps_State_popInbox {r0 : State} {s : State} (plane : Nat) (hk : Keeps r0 s) : Keeps r0 (State.popInbox s plane) := by
  unfold State.popInbox
  (try dsimp only)
  repeat' first
    | with_reducible assumption
    | with_reducible apply keeps_State_updLink
    | (with_reducible refine Keeps.lit ?_; first | with_reducible assumption | with_reducible apply keeps_State_updLink)

theorem keeps_abortReceived {r0 : State} {s : State} (plane : Nat) (hk : Keeps r0 s) : Keeps r0 (abortReceived s plane) := by
  unfold abortReceived
  repeat' first
    | with_reducible assumption
    | with_reducible apply keeps_State_popInbox
    | (refine Ends.stop (keeps_State_checkStand (hk := ?_) ..) (by assumption))
    | with_reducible apply keeps_State_yarderWork
    | with_reducible apply keeps_State_abortStand
    | split
    | (with_reducible refine Keeps.lit ?_; first | with_reducible assumption | with_reducible apply keeps_State_popInbox | (refine Ends.stop (keeps_State_checkStand (hk := ?_) ..) (by assumption)) | with_reducible apply keeps_State_yarderWork | with_reducible apply keeps_State_abortStand | split)

theorem keeps_beatReceived {r0 : State} {s : State} (plane : Nat) (hk : Keeps r0 s) : Keeps r0 (beatReceived s plane) := by
  unfold beatReceived
  repeat' first
    | with_reducible assumption
    | with_reducible apply keeps_State_popInbox
    | (refine Ends.stop (keeps_State_checkStand (hk := ?_) ..) (by assumption))
    | with_reducible apply keeps_State_yarderWork
    | split
    | (with_reducible refine Keeps.lit ?_; first | with_reducible assumption | with_reducible apply keeps_State_popInbox | (refine Ends.stop (keeps_State_checkStand (hk := ?_) ..) (by assumption)) | with_reducible apply keeps_State_yarderWork | split)

theorem keeps_beatTimer {r0 : State} {s : State} (ctx : Nat) (hk : Keeps r0 s) : Keeps r0 (beatTimer s ctx) := by
  unfold beatTimer
  (try dsimp only)
  repeat' first
    | with_reducible assumption
    | with_reducible apply keeps_State_broadcast
    | split
    | (with_reducible refine Keeps.lit ?_; first | with_reducible assumption | with_reducible apply keeps_State_broadcast | split)

theorem keeps_noProgress {r0 : State} {s : State} (ctx member : Nat) (hk : Keeps r0 s) : Keeps r0 (noProgress s ctx member) := by
  unfold noProgress
  (try dsimp only)
  repeat' first
    | with_reducible assumption
    | with_reducible apply keeps_State_abortStand
    | split
    | (with_reducible refine Keeps.lit ?_; first | with_reducible assumption | with_reducible apply keeps_State_abortStand | split)

theorem keeps_State_restartDone {r0 : State} {s : State} (ctx : Nat) (hk : Keeps r0 s) : Keeps r0 (State.restartDone s ctx) := by
  unfold State.restartDone
  (try dsimp only)
  repeat' first
    | with_reducible assumption
    | split
    | (with_reducible refine Keeps.lit ?_; first | with_reducible assumption | split)

theorem keeps_epochCmd {r0 s : State} {onEpoch : State → Nat → State} (path ctx : Nat)
    (ho : ∀ t, Keeps r0 t → Keeps r0 (onEpoch t ctx)) (hk : Keeps r0 s) : Keeps r0 (epochCmd onEpoch s path ctx) := by
  unfold epochCmd
  dsimp only
  repeat' first
    | with_reducible assumption
    | (with_reducible refine keeps_State_onCmd ?_ ?_; intro _ _; try dsimp only)
    | with_reducible apply ho
    | with_reducible apply keeps_State_setObj
    | with_reducible apply keeps_State_addObj
    | with_reducible apply keeps_State_bumpFence
    | with_reducible apply keeps_State_restartDone
    | split

theorem keeps_State_showMembers {r0 : State} {s : State} (ctx : Nat) (hk : Keeps r0 s) : Keeps r0 (State.showMembers s ctx) := by
  unfold State.showMembers
  repeat' first
    | with_reducible assumption
    | with_reducible apply keeps_State_setObj

theorem keeps_memberEntryWrite {r0 : State} {s : State} (path ctx v : Nat) (hk : Keeps r0 s) : Keeps r0 (memberEntryWrite s path ctx v) := by
  unfold memberEntryWrite
  (try dsimp only)
  repeat' first
    | with_reducible assumption
    | (with_reducible refine keeps_State_onWrite ?_ ?_; intro _ _; try dsimp only)
    | with_reducible apply keeps_State_setObj
    | with_reducible apply keeps_State_dictRefuse
    | with_reducible apply keeps_State_showMembers
    | split
    | (with_reducible refine Keeps.lit ?_; first | with_reducible assumption | (with_reducible refine keeps_State_onWrite ?_ ?_; intro _ _; try dsimp only) | with_reducible apply keeps_State_setObj | with_reducible apply keeps_State_dictRefuse | with_reducible apply keeps_State_showMembers | split)

theorem keeps_selfWrite {r0 : State} {s : State} (path ctx v : Nat) (hk : Keeps r0 s) : Keeps r0 (selfWrite s path ctx v) := by
  unfold selfWrite
  (try dsimp only)
  repeat' first
    | with_reducible assumption
    | (with_reducible refine keeps_State_onWrite ?_ ?_; intro _ _; try dsimp only)
    | with_reducible apply keeps_State_setObj
    | with_reducible apply keeps_State_dictRefuse
    | with_reducible apply keeps_id
    | split

theorem keeps_linkTrain {r0 : State} {s : State} (path n : Nat) (hk : Keeps r0 s) : Keeps r0 (linkTrain s path n) := by
  unfold linkTrain
  (try dsimp only)
  repeat' first
    | with_reducible assumption
    | (with_reducible refine keeps_State_onWrite ?_ ?_; intro _ _; try dsimp only)
    | with_reducible apply keeps_State_updLink
    | with_reducible apply keeps_State_showLanes
    | with_reducible apply keeps_State_setObj
    | split

theorem keeps_linkDisable {r0 : State} {s : State} (path n : Nat) (hk : Keeps r0 s) : Keeps r0 (linkDisable s path n) := by
  unfold linkDisable
  (try dsimp only)
  repeat' first
    | with_reducible assumption
    | with_reducible apply keeps_State_unserved
    | with_reducible apply keeps_State_updLink
    | with_reducible apply keeps_State_showLanes
    | with_reducible apply keeps_State_setObj
    | with_reducible apply keeps_State_abortPlane
    | split

theorem keeps_State_startRetrain {r0 : State} {s : State} (n cut : Nat) (hk : Keeps r0 s) : Keeps r0 (State.startRetrain s n cut) := by
  unfold State.startRetrain
  (try dsimp only)
  repeat' first
    | with_reducible assumption
    | with_reducible apply keeps_State_updLink
    | with_reducible apply keeps_State_showLanes
    | (with_reducible refine Keeps.lit ?_; first | with_reducible assumption | with_reducible apply keeps_State_updLink | with_reducible apply keeps_State_showLanes)

theorem keeps_linkRetrain {r0 : State} {s : State} (path n : Nat) (hk : Keeps r0 s) : Keeps r0 (linkRetrain s path n) := by
  unfold linkRetrain
  (try dsimp only)
  repeat' first
    | with_reducible assumption
    | (with_reducible refine keeps_State_onWrite ?_ ?_; intro _ _; try dsimp only)
    | (with_reducible refine keeps_State_onCmd ?_ ?_; intro _ _; try dsimp only)
    | with_reducible apply keeps_State_startRetrain
    | with_reducible apply keeps_State_setObj
    | with_reducible apply keeps_State_dictRefuse
    | split

theorem keeps_trainingComplete {r0 : State} {s : State} (n lanes : Nat) (hk : Keeps r0 s) : Keeps r0 (trainingComplete s n lanes) := by
  unfold trainingComplete
  (try dsimp only)
  repeat' first
    | with_reducible assumption
    | with_reducible apply keeps_State_setLink
    | with_reducible apply keeps_State_endLinkCmd
    | split

theorem keeps_trainingTimeout {r0 : State} {s : State} (n : Nat) (hk : Keeps r0 s) : Keeps r0 (trainingTimeout s n) := by
  unfold trainingTimeout
  repeat' first
    | with_reducible assumption
    | with_reducible apply keeps_State_setLink
    | with_reducible apply keeps_State_endLinkCmd
    | with_reducible apply keeps_State_reportLink
    | split

theorem keeps_retrainComplete {r0 : State} {s : State} (n lanes : Nat) (hk : Keeps r0 s) : Keeps r0 (retrainComplete s n lanes) := by
  unfold retrainComplete
  (try dsimp only)
  repeat' first
    | with_reducible assumption
    | with_reducible apply keeps_State_setLink
    | with_reducible apply keeps_State_endLinkCmd
    | with_reducible apply keeps_State_resendAll
    | split

theorem keeps_retrainTimeout {r0 : State} {s : State} (n : Nat) (hk : Keeps r0 s) : Keeps r0 (retrainTimeout s n) := by
  unfold retrainTimeout
  repeat' first
    | with_reducible assumption
    | with_reducible apply keeps_State_faultLink
    | split

theorem keeps_State_laneDown {r0 : State} {s : State} (lane : Nat) (hk : Keeps r0 s) : Keeps r0 (State.laneDown s lane) := by
  unfold State.laneDown
  (try dsimp only)
  repeat' first
    | with_reducible assumption
    | with_reducible apply keeps_State_updLink
    | with_reducible apply keeps_State_startRetrain
    | with_reducible apply keeps_State_report
    | with_reducible apply keeps_State_faultLink
    | split
    | (with_reducible refine Keeps.lit ?_; first | with_reducible assumption | with_reducible apply keeps_State_updLink | with_reducible apply keeps_State_startRetrain | with_reducible apply keeps_State_report | with_reducible apply keeps_State_faultLink | split)

theorem keeps_laneLossOfLock {r0 : State} {s : State} (lane : Nat) (hk : Keeps r0 s) : Keeps r0 (laneLossOfLock s lane) := by
  unfold laneLossOfLock
  repeat' first
    | with_reducible assumption
    | with_reducible apply keeps_State_laneDown

theorem keeps_laneErrorThreshold {r0 : State} {s : State} (lane : Nat) (hk : Keeps r0 s) : Keeps r0 (laneErrorThreshold s lane) := by
  unfold laneErrorThreshold
  repeat' first
    | with_reducible assumption
    | with_reducible apply keeps_State_laneDown

theorem keeps_State_takeCcw {r0 : State} {s : State} (n ccw : Nat) (hk : Keeps r0 s) : Keeps r0 (State.takeCcw s n ccw) := by
  unfold State.takeCcw
  (try dsimp only)
  repeat' first
    | with_reducible assumption
    | with_reducible apply keeps_State_updLink
    | with_reducible apply keeps_State_startRetrain
    | with_reducible apply keeps_State_recoverLink
    | split
    | (with_reducible refine Keeps.lit ?_; first | with_reducible assumption | with_reducible apply keeps_State_updLink | with_reducible apply keeps_State_startRetrain | with_reducible apply keeps_State_recoverLink | split)

theorem keeps_State_frameArrive {r0 : State} {s : State} (n : Nat) (f : Frame) (good : Bool) (hk : Keeps r0 s) : Keeps r0 (State.frameArrive s n f good) := by
  unfold State.frameArrive
  (try dsimp only)
  repeat' first
    | with_reducible assumption
    | with_reducible apply keeps_State_updLink
    | with_reducible apply keeps_State_addObj
    | split
    | (with_reducible refine Keeps.lit ?_; first | with_reducible assumption | with_reducible apply keeps_State_updLink | with_reducible apply keeps_State_addObj | split)

theorem keeps_frameReceive {r0 : State} {s : State} (n : Nat) (f : Frame) (crc : Nat) (hk : Keeps r0 s) : Keeps r0 (frameReceive s n f crc) := by
  unfold frameReceive
  repeat' first
    | with_reducible assumption
    | with_reducible apply keeps_State_frameArrive

theorem keeps_State_frameLost {r0 : State} {s : State} (n : Nat) (hk : Keeps r0 s) : Keeps r0 (State.frameLost s n) := by
  unfold State.frameLost
  (try dsimp only)
  repeat' first
    | with_reducible assumption
    | with_reducible apply keeps_State_updLink
    | with_reducible apply keeps_State_addObj
    | (with_reducible refine Keeps.lit ?_; first | with_reducible assumption | with_reducible apply keeps_State_updLink | with_reducible apply keeps_State_addObj)

theorem keeps_State_dropRxBytes {r0 : State} {s : State} (n k : Nat) (hk : Keeps r0 s) : Keeps r0 (State.dropRxBytes s n k) := by
  unfold State.dropRxBytes
  (try dsimp only)
  repeat' first
    | with_reducible assumption
    | with_reducible apply keeps_State_updLink
    | (with_reducible refine Keeps.lit ?_; first | with_reducible assumption | with_reducible apply keeps_State_updLink)

theorem keeps_State_deframeLink {r0 s : State} (n k : Nat) (hk : Keeps r0 s) : Keeps r0 (s.deframeLink n k) := by
  induction k generalizing s with
  | zero => exact hk
  | succ k ih =>
    unfold State.deframeLink
    dsimp only
    repeat' first
      | with_reducible assumption
      | with_reducible apply ih
      | with_reducible apply keeps_State_dropRxBytes
      | with_reducible apply keeps_State_frameArrive
      | with_reducible apply keeps_State_frameLost
      | with_reducible apply keeps_frameReceive
      | with_reducible apply keeps_State_updLink
      | split

theorem keeps_State_takeUnit {r0 : State} {s : State} (n k cw : Nat) (bytes : Option (List Nat)) (hk : Keeps r0 s) : Keeps r0 (State.takeUnit s n k cw bytes) := by
  unfold State.takeUnit
  (try dsimp only)
  repeat' first
    | with_reducible assumption
    | with_reducible apply keeps_State_updLink
    | with_reducible apply keeps_State_deframeLink
    | (with_reducible refine Keeps.lit ?_; first | with_reducible assumption | with_reducible apply keeps_State_updLink | with_reducible apply keeps_State_deframeLink)

theorem keeps_codewordReceive {r0 : State} {s : State} (lane word : Nat) (hk : Keeps r0 s) : Keeps r0 (codewordReceive s lane word) := by
  unfold codewordReceive
  (try dsimp only)
  repeat' first
    | with_reducible assumption
    | with_reducible apply keeps_State_updLink
    | with_reducible apply keeps_State_addObj
    | with_reducible apply keeps_State_takeUnit
    | with_reducible apply keeps_State_setObj
    | with_reducible apply keeps_State_takeCcw
    | split
    | (with_reducible refine Keeps.lit ?_; first | with_reducible assumption | with_reducible apply keeps_State_updLink | with_reducible apply keeps_State_addObj | with_reducible apply keeps_State_takeUnit | with_reducible apply keeps_State_setObj | with_reducible apply keeps_State_takeCcw | split)

theorem keeps_State_sendEntry {r0 : State} {s : State} (plane : Nat) (x : CollStep) (o : OutEntry) (hk : Keeps r0 s) : Keeps r0 (State.sendEntry s plane x o) := by
  unfold State.sendEntry
  (try dsimp only)
  repeat' first
    | with_reducible assumption
    | with_reducible apply keeps_State_updColl
    | with_reducible apply keeps_State_addObj
    | with_reducible apply keeps_State_startFrame
    | with_reducible apply Keeps.send
    | split
    | (with_reducible refine Keeps.lit ?_; first | with_reducible assumption | with_reducible apply keeps_State_updColl | with_reducible apply keeps_State_addObj | with_reducible apply keeps_State_startFrame | with_reducible apply Keeps.send | split)

theorem keeps_State_sendTurn {r0 : State} {s : State} (plane : Nat) (x : CollStep) (o : OutEntry) (hk : Keeps r0 s) : Keeps r0 (State.sendTurn s plane x o) := by
  unfold State.sendTurn
  (try dsimp only)
  repeat' first
    | with_reducible assumption
    | with_reducible apply keeps_State_sendEntry
    | (with_reducible refine Keeps.lit ?_; first | with_reducible assumption | with_reducible apply keeps_State_sendEntry)

theorem keeps_frameSend {r0 : State} {s : State} (n : Nat) (hk : Keeps r0 s) : Keeps r0 (frameSend s n) := by
  unfold frameSend
  (try dsimp only)
  repeat' first
    | with_reducible assumption
    | with_reducible apply keeps_State_updLink
    | with_reducible apply keeps_State_startFrame
    | with_reducible apply keeps_State_sendTurn
    | split
    | (with_reducible refine Keeps.lit ?_; first | with_reducible assumption | with_reducible apply keeps_State_updLink | with_reducible apply keeps_State_startFrame | with_reducible apply keeps_State_sendTurn | split)

theorem keeps_retransmitTimeout {r0 : State} {s : State} (n : Nat) (hk : Keeps r0 s) : Keeps r0 (retransmitTimeout s n) := by
  unfold retransmitTimeout
  repeat' first
    | with_reducible assumption
    | with_reducible apply keeps_State_recoverLink
    | split

theorem keeps_State_grantFirst {r0 : State} {s : State} (ctx id : Nat) (b : CollBody) (c : Nat) (g : List Nat) (pos : Nat) (hk : Keeps r0 s) : Keeps r0 (State.grantFirst s ctx id b c g pos) := by
  unfold State.grantFirst
  (try dsimp only)
  repeat' first
    | with_reducible assumption
    | with_reducible apply keeps_State_sendCtl
    | (with_reducible refine Keeps.foldl ?_ ?_; intro _ _ _)

theorem keeps_State_openColl {r0 : State} {s : State} (h : Head) (b : CollBody) (hk : Keeps r0 s) : Keeps r0 (State.openColl s h b) := by
  unfold State.openColl
  (try dsimp only)
  repeat' first
    | with_reducible assumption
    | with_reducible apply keeps_State_updCtx
    | with_reducible apply keeps_State_grantFirst
    | (with_reducible refine Keeps.foldl ?_ ?_; intro _ _ _)
    | (with_reducible refine Keeps.lit ?_; first | with_reducible assumption | with_reducible apply keeps_State_updCtx | with_reducible apply keeps_State_grantFirst | (with_reducible refine Keeps.foldl ?_ ?_; intro _ _ _))

theorem keeps_State_dispatchColl {r0 : State} {s : State} (sh : Shell) (op : Nat) (hk : Keeps r0 s) : Keeps r0 (State.dispatchColl s sh op) := by
  unfold State.dispatchColl
  (try dsimp only)
  repeat' first
    | with_reducible assumption
    | (with_reducible refine keeps_State_dispatch ?_ ?_; intro _; try dsimp only)
    | with_reducible apply keeps_State_holdHead
    | with_reducible apply keeps_State_openColl
    | (with_reducible refine Ends.error ?_)
    | (with_reducible refine Ends.pass ?_; try dsimp only)
    | split
    | (with_reducible refine Keeps.lit ?_; first | with_reducible assumption | (with_reducible refine keeps_State_dispatch ?_ ?_; intro _; try dsimp only) | with_reducible apply keeps_State_holdHead | with_reducible apply keeps_State_openColl | (with_reducible refine Ends.error ?_) | (with_reducible refine Ends.pass ?_; try dsimp only) | split)

theorem keeps_State_queueOut {r0 : State} {s : State} (id : Nat) (es : List OutEntry) (hk : Keeps r0 s) : Keeps r0 (State.queueOut s id es) := by
  unfold State.queueOut
  (try dsimp only)
  repeat' first
    | with_reducible assumption
    | with_reducible apply keeps_State_updColl
    | with_reducible apply Keeps.send
    | (with_reducible refine Keeps.lit ?_; first | with_reducible assumption | with_reducible apply keeps_State_updColl | with_reducible apply Keeps.send)

theorem keeps_State_countSource {r0 : State} {s : State} (x : CollStep) (b : CollBody) (vals : List Val) (hk : Keeps r0 s) : Keeps r0 (State.countSource s x b vals) := by
  unfold State.countSource
  (try dsimp only)
  repeat' first
    | with_reducible assumption
    | (with_reducible refine Keeps.foldl ?_ ?_; intro _ _ _)
    | split
    | (with_reducible refine Keeps.lit ?_; first | with_reducible assumption | (with_reducible refine Keeps.foldl ?_ ?_; intro _ _ _) | split)

theorem keeps_State_countReads {r0 : State} {s : State} (x : CollStep) (hk : Keeps r0 s) : Keeps r0 (State.countReads s x) := by
  unfold State.countReads
  (try dsimp only)
  repeat' first
    | with_reducible assumption
    | with_reducible apply keeps_State_countElems
    | (with_reducible refine Keeps.foldl ?_ ?_; intro _ _ _)

theorem keeps_State_closeColl {r0 : State} {s : State} (id : Nat) (hk : Keeps r0 s) : Keeps r0 (State.closeColl s id) := by
  unfold State.closeColl
  (try dsimp only)
  repeat' first
    | with_reducible assumption
    | (with_reducible refine Keeps.lit ?_; first | with_reducible assumption)

theorem keeps_State_ringSend {r0 : State} {s : State} (id : Nat) (hk : Keeps r0 s) : Keeps r0 (State.ringSend s id) := by
  unfold State.ringSend
  (try dsimp only)
  repeat' first
    | with_reducible assumption
    | with_reducible apply keeps_State_updColl
    | with_reducible apply keeps_State_queueOut
    | (with_reducible refine Keeps.foldr ?_ ?_; intro _ _ _)
    | split
    | (with_reducible refine Keeps.lit ?_; first | with_reducible assumption | with_reducible apply keeps_State_updColl | with_reducible apply keeps_State_queueOut | (with_reducible refine Keeps.foldr ?_ ?_; intro _ _ _) | split)

theorem keeps_State_sendCredit {r0 : State} {s : State} (ctx c : Nat) (b : BindEntry) (n : Nat) (hk : Keeps r0 s) : Keeps r0 (State.sendCredit s ctx c b n) := by
  unfold State.sendCredit
  (try dsimp only)
  repeat' first
    | with_reducible assumption
    | with_reducible apply keeps_State_sendCtl

theorem keeps_State_relayCounter {r0 : State} {s : State} (ctx owner k : Nat) (hk : Keeps r0 s) : Keeps r0 (State.relayCounter s ctx owner k) := by
  unfold State.relayCounter
  (try dsimp only)
  repeat' first
    | with_reducible assumption
    | with_reducible apply keeps_State_updColl
    | with_reducible apply keeps_State_sendCredit
    | (with_reducible refine Keeps.foldl ?_ ?_; intro _ _ _)
    | split
    | (with_reducible refine Keeps.lit ?_; first | with_reducible assumption | with_reducible apply keeps_State_updColl | with_reducible apply keeps_State_sendCredit | (with_reducible refine Keeps.foldl ?_ ?_; intro _ _ _) | split)

theorem keeps_State_ringRelay {r0 : State} {s : State} (id : Nat) (hk : Keeps r0 s) : Keeps r0 (State.ringRelay s id) := by
  unfold State.ringRelay
  repeat' first
    | with_reducible assumption
    | with_reducible apply keeps_State_relayCounter
    | split
    | (with_reducible refine Keeps.lit ?_; first | with_reducible assumption | with_reducible apply keeps_State_relayCounter | split)

theorem keeps_State_pushStats {r0 : State} {s : State} (x : CollStep) (sts : List (Nat × Stat)) (hk : Keeps r0 s) : Keeps r0 (State.pushStats s x sts) := by
  unfold State.pushStats
  (try dsimp only)
  repeat' first
    | with_reducible assumption
    | (with_reducible refine Keeps.lit ?_; first | with_reducible assumption)

theorem keeps_State_output {r0 s : State} (x : CollStep) (segs : List (Nat × List RVal)) (hk : Keeps r0 s) :
    Keeps r0 (s.output x segs).1 := by
  unfold State.output
  dsimp only
  split
  · exact hk
  · exact keeps_State_pushStats _ _ (keeps_State_writeElems _ _ _ _ hk)

theorem keeps_State_arAdvance {r0 : State} {s : State} (id : Nat) (hk : Keeps r0 s) : Keeps r0 (State.arAdvance s id) := by
  unfold State.arAdvance
  (try dsimp only)
  repeat' first
    | with_reducible assumption
    | with_reducible apply keeps_State_updColl
    | with_reducible apply keeps_State_queueOut
    | split
    | (with_reducible refine Keeps.lit ?_; first | with_reducible assumption | with_reducible apply keeps_State_updColl | with_reducible apply keeps_State_queueOut | split)

theorem keeps_State_ringAdvance {r0 : State} {s : State} (id : Nat) (hk : Keeps r0 s) : Keeps r0 (State.ringAdvance s id) := by
  unfold State.ringAdvance
  (try dsimp only)
  repeat' first
    | with_reducible assumption
    | with_reducible apply keeps_State_output
    | with_reducible apply keeps_State_closeColl
    | with_reducible apply keeps_State_accFault
    | with_reducible apply keeps_State_updColl
    | with_reducible apply keeps_State_issuePost
    | with_reducible apply keeps_State_ringSend
    | with_reducible apply keeps_State_ringRelay
    | split
    | (with_reducible refine Keeps.lit ?_; first | with_reducible assumption | with_reducible apply keeps_State_output | with_reducible apply keeps_State_closeColl | with_reducible apply keeps_State_accFault | with_reducible apply keeps_State_updColl | with_reducible apply keeps_State_issuePost | with_reducible apply keeps_State_ringSend | with_reducible apply keeps_State_ringRelay | split)

theorem keeps_State_advance {r0 : State} {s : State} (id : Nat) (hk : Keeps r0 s) : Keeps r0 (State.advance s id) := by
  unfold State.advance
  repeat' first
    | with_reducible assumption
    | with_reducible apply keeps_State_arAdvance
    | with_reducible apply keeps_State_ringAdvance
    | with_reducible apply keeps_State_ringSend

theorem keeps_State_startColl {r0 : State} {s : State} (id op : Nat) (err : Option Nat) (hk : Keeps r0 s) : Keeps r0 (State.startColl s id op err) := by
  unfold State.startColl
  (try dsimp only)
  repeat' first
    | with_reducible assumption
    | with_reducible apply keeps_State_closeColl
    | with_reducible apply keeps_State_c6Fault
    | with_reducible apply keeps_State_memFault
    | with_reducible apply keeps_State_countReads
    | with_reducible apply keeps_State_updFlight
    | with_reducible apply keeps_State_holdShell
    | with_reducible apply keeps_State_updColl
    | with_reducible apply keeps_State_queueOut
    | with_reducible apply keeps_State_countSource
    | with_reducible apply keeps_State_advance
    | split
    | (with_reducible refine Keeps.lit ?_; first | with_reducible assumption | with_reducible apply keeps_State_closeColl | with_reducible apply keeps_State_c6Fault | with_reducible apply keeps_State_memFault | with_reducible apply keeps_State_countReads | with_reducible apply keeps_State_updFlight | with_reducible apply keeps_State_holdShell | with_reducible apply keeps_State_updColl | with_reducible apply keeps_State_queueOut | with_reducible apply keeps_State_countSource | with_reducible apply keeps_State_advance | split)

theorem keeps_State_takeData {r0 : State} {s : State} (x : CollStep) (pos plane : Nat) (f : Frame) (hk : Keeps r0 s) : Keeps r0 (State.takeData s x pos plane f) := by
  unfold State.takeData
  (try dsimp only)
  repeat' first
    | with_reducible assumption
    | with_reducible apply keeps_State_updColl
    | with_reducible apply keeps_State_addObj
    | with_reducible apply keeps_State_sendCtl
    | split
    | (with_reducible refine Keeps.lit ?_; first | with_reducible assumption | with_reducible apply keeps_State_updColl | with_reducible apply keeps_State_addObj | with_reducible apply keeps_State_sendCtl | split)

theorem keeps_dataReceived {r0 : State} {s : State} (plane : Nat) (hk : Keeps r0 s) : Keeps r0 (dataReceived s plane) := by
  unfold dataReceived
  (try dsimp only)
  repeat' first
    | with_reducible assumption
    | with_reducible apply keeps_State_popInbox
    | (refine Ends.stop (keeps_State_checkData (hk := ?_) ..) (by assumption))
    | with_reducible apply keeps_State_yarderWork
    | with_reducible apply keeps_State_takeData
    | split
    | (with_reducible refine Keeps.lit ?_; first | with_reducible assumption | with_reducible apply keeps_State_popInbox | (refine Ends.stop (keeps_State_checkData (hk := ?_) ..) (by assumption)) | with_reducible apply keeps_State_yarderWork | with_reducible apply keeps_State_takeData | split)

theorem keeps_endReceived {r0 : State} {s : State} (plane : Nat) (hk : Keeps r0 s) : Keeps r0 (endReceived s plane) := by
  unfold endReceived
  (try dsimp only)
  repeat' first
    | with_reducible assumption
    | with_reducible apply keeps_State_popInbox
    | (refine Ends.stop (keeps_State_checkData (hk := ?_) ..) (by assumption))
    | with_reducible apply keeps_State_abortStand
    | with_reducible apply keeps_State_yarderWork
    | with_reducible apply keeps_State_updColl
    | with_reducible apply keeps_State_advance
    | split
    | (with_reducible refine Keeps.lit ?_; first | with_reducible assumption | with_reducible apply keeps_State_popInbox | (refine Ends.stop (keeps_State_checkData (hk := ?_) ..) (by assumption)) | with_reducible apply keeps_State_abortStand | with_reducible apply keeps_State_yarderWork | with_reducible apply keeps_State_updColl | with_reducible apply keeps_State_advance | split)

theorem keeps_ecredReceived {r0 : State} {s : State} (plane : Nat) (hk : Keeps r0 s) : Keeps r0 (ecredReceived s plane) := by
  unfold ecredReceived
  (try dsimp only)
  repeat' first
    | with_reducible assumption
    | with_reducible apply keeps_State_popInbox
    | (refine Ends.stop (keeps_State_checkStand (hk := ?_) ..) (by assumption))
    | with_reducible apply keeps_State_yarderWork
    | with_reducible apply keeps_State_updCtx
    | with_reducible apply keeps_State_updColl
    | split
    | (with_reducible refine Keeps.lit ?_; first | with_reducible assumption | with_reducible apply keeps_State_popInbox | (refine Ends.stop (keeps_State_checkStand (hk := ?_) ..) (by assumption)) | with_reducible apply keeps_State_yarderWork | with_reducible apply keeps_State_updCtx | with_reducible apply keeps_State_updColl | split)

theorem keeps_creditReceived {r0 : State} {s : State} (plane : Nat) (hk : Keeps r0 s) : Keeps r0 (creditReceived s plane) := by
  unfold creditReceived
  (try dsimp only)
  repeat' first
    | with_reducible assumption
    | with_reducible apply keeps_State_popInbox
    | (refine Ends.stop (keeps_State_checkStand (hk := ?_) ..) (by assumption))
    | with_reducible apply keeps_State_yarderWork
    | with_reducible apply keeps_State_holdShell
    | with_reducible apply keeps_State_ringSend
    | (with_reducible refine Keeps.foldl ?_ ?_; intro _ _ _)
    | split
    | (with_reducible refine Keeps.lit ?_; first | with_reducible assumption | with_reducible apply keeps_State_popInbox | (refine Ends.stop (keeps_State_checkStand (hk := ?_) ..) (by assumption)) | with_reducible apply keeps_State_yarderWork | with_reducible apply keeps_State_holdShell | with_reducible apply keeps_State_ringSend | (with_reducible refine Keeps.foldl ?_ ?_; intro _ _ _) | split)

theorem keeps_State_wakeYarder {r0 : State} {s : State} (ctx owner k : Nat) (hk : Keeps r0 s) : Keeps r0 (State.wakeYarder s ctx owner k) := by
  unfold State.wakeYarder
  (try dsimp only)
  repeat' first
    | with_reducible assumption
    | with_reducible apply keeps_State_relayCounter
    | with_reducible apply keeps_State_ringSend
    | (with_reducible refine Keeps.foldl ?_ ?_; intro _ _ _)
    | split

theorem keeps_State_writeOutput {r0 s : State} (x : CollStep) (hk : Keeps r0 s) : Keeps r0 (s.writeOutput x).1 := by
  unfold State.writeOutput
  dsimp only
  split
  · exact keeps_State_pushStats _ _ (Keeps.number hk)
  · have h1 := keeps_State_output x (s.outSegs x) hk
    split
    · exact keeps_State_writeElems _ _ _ _ h1
    · exact h1

theorem keeps_collectiveComplete {r0 : State} {s : State} (id : Nat) (hk : Keeps r0 s) : Keeps r0 (collectiveComplete s id) := by
  unfold collectiveComplete
  (try dsimp only)
  repeat' first
    | with_reducible assumption
    | with_reducible apply keeps_State_writeOutput
    | with_reducible apply keeps_State_closeColl
    | with_reducible apply keeps_State_accFault
    | with_reducible apply keeps_State_complete
    | split
    | (with_reducible refine Keeps.lit ?_; first | with_reducible assumption | with_reducible apply keeps_State_writeOutput | with_reducible apply keeps_State_closeColl | with_reducible apply keeps_State_accFault | with_reducible apply keeps_State_complete | split)

theorem keeps_State_updScalerCtx {r0 : State} {s : State} (ctx : Nat) (f : ScalerCtx → ScalerCtx) (hk : Keeps r0 s) : Keeps r0 (State.updScalerCtx s ctx f) := by
  unfold State.updScalerCtx
  (try dsimp only)
  repeat' first
    | with_reducible assumption
    | (with_reducible refine Keeps.lit ?_; first | with_reducible assumption)

theorem keeps_State_setCommitHold {r0 : State} {s : State} (ctx reason code : Nat) (hk : Keeps r0 s) : Keeps r0 (State.setCommitHold s ctx reason code) := by
  unfold State.setCommitHold
  (try dsimp only)
  repeat' first
    | with_reducible assumption
    | with_reducible apply keeps_State_setFlag
    | with_reducible apply keeps_State_setObj
    | with_reducible apply keeps_State_updScalerCtx
    | with_reducible apply keeps_State_hold
    | split
    | (with_reducible refine Keeps.lit ?_; first | with_reducible assumption | with_reducible apply keeps_State_setFlag | with_reducible apply keeps_State_setObj | with_reducible apply keeps_State_updScalerCtx | with_reducible apply keeps_State_hold | split)

theorem keeps_State_clearCommitHold {r0 : State} {s : State} (ctx : Nat) (hk : Keeps r0 s) : Keeps r0 (State.clearCommitHold s ctx) := by
  unfold State.clearCommitHold
  repeat' first
    | with_reducible assumption
    | with_reducible apply keeps_State_setObj

theorem keeps_State_finding {r0 : State} {s : State} (ctx n kind source detail : Nat) (hk : Keeps r0 s) : Keeps r0 (State.finding s ctx n kind source detail) := by
  unfold State.finding
  (try dsimp only)
  repeat' first
    | with_reducible assumption
    | with_reducible apply keeps_State_addObj
    | with_reducible apply keeps_State_updScalerCtx
    | with_reducible apply keeps_State_report
    | with_reducible apply keeps_State_setCommitHold
    | split
    | (with_reducible refine Keeps.lit ?_; first | with_reducible assumption | with_reducible apply keeps_State_addObj | with_reducible apply keeps_State_updScalerCtx | with_reducible apply keeps_State_report | with_reducible apply keeps_State_setCommitHold | split)

theorem keeps_scalerRecord {r0 : State} {s : State} (hk : Keeps r0 s) : Keeps r0 (scalerRecord s) := by
  unfold scalerRecord
  (try dsimp only)
  repeat' first
    | with_reducible assumption
    | with_reducible apply keeps_State_finding
    | split
    | (with_reducible refine Keeps.lit ?_; first | with_reducible assumption | with_reducible apply keeps_State_finding | split)

theorem keeps_State_updScaler {r0 : State} {s : State} (ctx slot : Nat) (f : ScalerSlot → ScalerSlot) (hk : Keeps r0 s) : Keeps r0 (State.updScaler s ctx slot f) := by
  unfold State.updScaler
  (try dsimp only)
  repeat' first
    | with_reducible assumption
    | (with_reducible refine Keeps.lit ?_; first | with_reducible assumption)

theorem keeps_State_jumpSlot {r0 : State} {s : State} (ctx : Nat) (e : Nat × ScalerSlot) (hk : Keeps r0 s) : Keeps r0 (State.jumpSlot s ctx e) := by
  unfold State.jumpSlot
  repeat' first
    | with_reducible assumption
    | with_reducible apply keeps_State_finding
    | split

theorem keeps_State_commitSlot {r0 : State} {s : State} (ctx : Nat) (e : Nat × ScalerSlot) (hk : Keeps r0 s) : Keeps r0 (State.commitSlot s ctx e) := by
  unfold State.commitSlot
  (try dsimp only)
  repeat' first
    | with_reducible assumption
    | with_reducible apply keeps_State_updScaler
    | split

theorem keeps_State_scalerCommit {r0 : State} {s : State} (ctx step : Nat) (hk : Keeps r0 s) : Keeps r0 (State.scalerCommit s ctx step) := by
  unfold State.scalerCommit
  (try dsimp only)
  repeat' first
    | with_reducible assumption
    | with_reducible apply keeps_State_jumpSlot
    | with_reducible apply keeps_State_commitSlot
    | with_reducible apply keeps_State_updScalerCtx
    | (with_reducible refine Keeps.foldl ?_ ?_; intro _ _ _)
    | (with_reducible refine Keeps.lit ?_; first | with_reducible assumption | with_reducible apply keeps_State_jumpSlot | with_reducible apply keeps_State_commitSlot | with_reducible apply keeps_State_updScalerCtx | (with_reducible refine Keeps.foldl ?_ ?_; intro _ _ _))

theorem keeps_State_scalerDiscard {r0 : State} {s : State} (ctx : Nat) (hk : Keeps r0 s) : Keeps r0 (State.scalerDiscard s ctx) := by
  unfold State.scalerDiscard
  (try dsimp only)
  repeat' first
    | with_reducible assumption
    | with_reducible apply keeps_State_updScaler
    | (with_reducible refine Keeps.foldl ?_ ?_; intro _ _ _)
    | (with_reducible refine Keeps.lit ?_; first | with_reducible assumption | with_reducible apply keeps_State_updScaler | (with_reducible refine Keeps.foldl ?_ ?_; intro _ _ _))

theorem keeps_State_scalerEmpty {r0 : State} {s : State} (ctx : Nat) (hk : Keeps r0 s) : Keeps r0 (State.scalerEmpty s ctx) := by
  unfold State.scalerEmpty
  (try dsimp only)
  repeat' first
    | with_reducible assumption
    | with_reducible apply keeps_State_updScaler
    | (with_reducible refine Keeps.foldl ?_ ?_; intro _ _ _)
    | (with_reducible refine Keeps.lit ?_; first | with_reducible assumption | with_reducible apply keeps_State_updScaler | (with_reducible refine Keeps.foldl ?_ ?_; intro _ _ _))

theorem keeps_State_scalerSetStep {r0 : State} {s : State} (ctx : Nat) (hk : Keeps r0 s) : Keeps r0 (State.scalerSetStep s ctx) := by
  unfold State.scalerSetStep
  (try dsimp only)
  repeat' first
    | with_reducible assumption
    | with_reducible apply keeps_State_scalerDiscard
    | with_reducible apply keeps_State_scalerEmpty
    | with_reducible apply keeps_State_updScalerCtx
    | (with_reducible refine Keeps.lit ?_; first | with_reducible assumption | with_reducible apply keeps_State_scalerDiscard | with_reducible apply keeps_State_scalerEmpty | with_reducible apply keeps_State_updScalerCtx)

theorem keeps_scalerExport {r0 : State} {s : State} (path ctx : Nat) (hk : Keeps r0 s) : Keeps r0 (scalerExport s path ctx) := by
  unfold scalerExport
  (try dsimp only)
  repeat' first
    | with_reducible assumption
    | (with_reducible refine keeps_State_onCmd ?_ ?_; intro _ _; try dsimp only)
    | with_reducible apply keeps_State_setObj
    | with_reducible apply keeps_State_tierWriteBytes
    | split

theorem keeps_scalerImport {r0 : State} {s : State} (path ctx : Nat) (hk : Keeps r0 s) : Keeps r0 (scalerImport s path ctx) := by
  unfold scalerImport
  (try dsimp only)
  repeat' first
    | with_reducible assumption
    | (with_reducible refine keeps_State_onCmd ?_ ?_; intro _ _; try dsimp only)
    | with_reducible apply keeps_State_setObj
    | with_reducible apply keeps_State_updScaler
    | with_reducible apply keeps_State_updScalerCtx
    | (with_reducible refine Keeps.foldl ?_ ?_; intro _ _ _)
    | split
    | (with_reducible refine Keeps.lit ?_; first | with_reducible assumption | (with_reducible refine keeps_State_onCmd ?_ ?_; intro _ _; try dsimp only) | with_reducible apply keeps_State_setObj | with_reducible apply keeps_State_updScaler | with_reducible apply keeps_State_updScalerCtx | (with_reducible refine Keeps.foldl ?_ ?_; intro _ _ _) | split)

theorem keeps_scalerWindowWrite {r0 : State} {s : State} (path ctx v : Nat) (hk : Keeps r0 s) : Keeps r0 (scalerWindowWrite s path ctx v) := by
  unfold scalerWindowWrite
  (try dsimp only)
  repeat' first
    | with_reducible assumption
    | (with_reducible refine keeps_State_onWrite ?_ ?_; intro _ _; try dsimp only)
    | with_reducible apply keeps_State_updScaler
    | with_reducible apply keeps_State_setObj
    | (with_reducible refine Keeps.foldl ?_ ?_; intro _ _ _)
    | split
    | (with_reducible refine Keeps.lit ?_; first | with_reducible assumption | (with_reducible refine keeps_State_onWrite ?_ ?_; intro _ _; try dsimp only) | with_reducible apply keeps_State_updScaler | with_reducible apply keeps_State_setObj | (with_reducible refine Keeps.foldl ?_ ?_; intro _ _ _) | split)

theorem keeps_State_countCheck {r0 : State} {s : State} (c : Capture) (checks mismatch : Nat) (hk : Keeps r0 s) : Keeps r0 (State.countCheck s c checks mismatch) := by
  unfold State.countCheck
  (try dsimp only)
  repeat' first
    | with_reducible assumption
    | with_reducible apply keeps_State_updScalerCtx
    | (with_reducible refine Keeps.lit ?_; first | with_reducible assumption | with_reducible apply keeps_State_updScalerCtx)

theorem keeps_State_takeCheck {r0 : State} {s : State} (c : Capture) (e : Nat) (hk : Keeps r0 s) : Keeps r0 (State.takeCheck s c e) := by
  unfold State.takeCheck
  (try dsimp only)
  repeat' first
    | with_reducible assumption
    | with_reducible apply keeps_State_addObj
    | (with_reducible refine Keeps.lit ?_; first | with_reducible assumption | with_reducible apply keeps_State_addObj)

theorem keeps_State_checkIssued {r0 : State} {s : State} (c : Capture) (e : Nat) (hk : Keeps r0 s) : Keeps r0 (State.checkIssued s c e) := by
  unfold State.checkIssued
  repeat' first
    | with_reducible assumption
    | with_reducible apply keeps_State_addObj

theorem keeps_checkStart {r0 : State} {s : State} (cap e : Nat) (hk : Keeps r0 s) : Keeps r0 (checkStart s cap e) := by
  unfold checkStart
  (try dsimp only)
  repeat' first
    | with_reducible assumption
    | with_reducible apply keeps_State_turnOn
    | with_reducible apply keeps_State_takeCheck
    | with_reducible apply keeps_State_updCapture
    | split
    | (with_reducible refine Keeps.lit ?_; first | with_reducible assumption | with_reducible apply keeps_State_turnOn | with_reducible apply keeps_State_takeCheck | with_reducible apply keeps_State_updCapture | split)

theorem keeps_checkComplete {r0 : State} {s : State} (cap flip : Nat) (hk : Keeps r0 s) : Keeps r0 (checkComplete s cap flip) := by
  unfold checkComplete
  (try dsimp only)
  repeat' first
    | with_reducible assumption
    | with_reducible apply keeps_State_checkIssued
    | with_reducible apply keeps_State_addObj
    | with_reducible apply keeps_State_countCheck
    | with_reducible apply keeps_State_dropCapture
    | with_reducible apply keeps_State_updCapture
    | with_reducible apply keeps_State_report
    | split
    | (with_reducible refine Keeps.lit ?_; first | with_reducible assumption | with_reducible apply keeps_State_checkIssued | with_reducible apply keeps_State_addObj | with_reducible apply keeps_State_countCheck | with_reducible apply keeps_State_dropCapture | with_reducible apply keeps_State_updCapture | with_reducible apply keeps_State_report | split)

theorem keeps_State_chargeEngine {r0 : State} {s : State} (ctx e : Nat) (v : Verdict) (hk : Keeps r0 s) : Keeps r0 (State.chargeEngine s ctx e v) := by
  unfold State.chargeEngine
  (try dsimp only)
  repeat' first
    | with_reducible assumption
    | with_reducible apply keeps_State_setObj
    | with_reducible apply keeps_State_reportV
    | split
    | (with_reducible refine Keeps.lit ?_; first | with_reducible assumption | with_reducible apply keeps_State_setObj | with_reducible apply keeps_State_reportV | split)

theorem keeps_arbitrationComplete {r0 s : State} (cap e flip : Nat) (hk : Keeps r0 s) :
    Keeps r0 (arbitrationComplete s cap e flip) := by
  unfold arbitrationComplete
  split
  · exact hk
  · next c _ =>
    split
    · split
      · exact hk
      · split
        · exact keeps_State_turnOn _ hk
        · lift_lets
          intro digest verdict charged v held s1 s2 s3
          have h1 : Keeps r0 s1 :=
            keeps_State_reportV _ _ _ _ _ _ _ _ (keeps_State_checkIssued _ _ (keeps_State_takeCheck _ _ hk))
          have h2 : Keeps r0 s2 := by
            show Keeps r0 (if verdict = 3 then s1 else s1.chargeEngine c.ctx charged v)
            split
            · exact h1
            · exact keeps_State_chargeEngine _ _ _ h1
          have h3 : Keeps r0 s3 := by
            show Keeps r0 (if verdict = 2 then s2.setCommitHold c.ctx 27 0x4009
              else if verdict = 3 then s2.setCommitHold c.ctx 26 0x4009 else s2)
            split
            · exact keeps_State_setCommitHold _ _ _ h2
            · split
              · exact keeps_State_setCommitHold _ _ _ h2
              · exact h2
          split
          · exact keeps_State_updCapture _ _ h3
          · exact keeps_State_dropCapture _ h3
    · exact hk

theorem keeps_xchkExport {r0 : State} {s : State} (path : Nat) (hk : Keeps r0 s) : Keeps r0 (xchkExport s path) := by
  unfold xchkExport
  (try dsimp only)
  repeat' first
    | with_reducible assumption
    | (with_reducible refine keeps_State_onCmd ?_ ?_; intro _ _; try dsimp only)
    | with_reducible apply keeps_State_setObj
    | with_reducible apply keeps_State_tierWriteBytes
    | with_reducible apply keeps_State_dropCapture
    | split
    | (with_reducible refine Keeps.lit ?_; first | with_reducible assumption | (with_reducible refine keeps_State_onCmd ?_ ?_; intro _ _; try dsimp only) | with_reducible apply keeps_State_setObj | with_reducible apply keeps_State_tierWriteBytes | with_reducible apply keeps_State_dropCapture | split)

theorem keeps_xchkRun {r0 : State} {s : State} (path : Nat) (hk : Keeps r0 s) : Keeps r0 (xchkRun s path) := by
  unfold xchkRun
  (try dsimp only)
  repeat' first
    | with_reducible assumption
    | (with_reducible refine keeps_State_onCmd ?_ ?_; intro _ _; try dsimp only)
    | with_reducible apply keeps_State_setObj
    | split
    | (with_reducible refine Keeps.lit ?_; first | with_reducible assumption | (with_reducible refine keeps_State_onCmd ?_ ?_; intro _ _; try dsimp only) | with_reducible apply keeps_State_setObj | split)

theorem keeps_blazeSign {r0 : State} {s : State} (hk : Keeps r0 s) : Keeps r0 (blazeSign s) := by
  unfold blazeSign
  (try dsimp only)
  repeat' first
    | with_reducible assumption
    | split
    | (with_reducible refine Keeps.lit ?_; first | with_reducible assumption | split)

theorem keeps_faultRecordRead {r0 : State} {s : State} (path : Nat) (hk : Keeps r0 s) : Keeps r0 (faultRecordRead s path) := by
  unfold faultRecordRead
  (try dsimp only)
  repeat' first
    | with_reducible assumption
    | with_reducible apply keeps_State_unserved
    | split
    | (with_reducible refine Keeps.lit ?_; first | with_reducible assumption | with_reducible apply keeps_State_unserved | split)

theorem keeps_w1cFlagClear {r0 : State} {s : State} (path k : Nat) (hwSet : Option Nat) (hk : Keeps r0 s) : Keeps r0 (w1cFlagClear s path k hwSet) := by
  unfold w1cFlagClear
  (try dsimp only)
  repeat' first
    | with_reducible assumption
    | (with_reducible refine keeps_State_onWrite ?_ ?_; intro _ _; try dsimp only)
    | with_reducible apply keeps_State_hold
    | with_reducible apply keeps_State_clearCommitHold
    | with_reducible apply keeps_State_setObj
    | with_reducible apply keeps_State_setCommitHold
    | with_reducible apply keeps_State_setFlag
    | split
    | (with_reducible refine Keeps.lit ?_; first | with_reducible assumption | (with_reducible refine keeps_State_onWrite ?_ ?_; intro _ _; try dsimp only) | with_reducible apply keeps_State_hold | with_reducible apply keeps_State_clearCommitHold | with_reducible apply keeps_State_setObj | with_reducible apply keeps_State_setCommitHold | with_reducible apply keeps_State_setFlag | split)

end Sys2Proof.Machine
end

