-- ==== Sys2Proof/Laws/Keeps3.lean ====
section
/-!
SUPPORT. What every operation of the machine keeps: the Planers, serving and contexts.
-/

set_option linter.all false

namespace Sys2Proof.Machine

theorem keeps_State_sendXfer {r0 : State} {s : State} (q : Nat) (x : Xfer) (hk : Keeps r0 s) : Keeps r0 (State.sendXfer s q x) := by
  unfold State.sendXfer
  (try dsimp only)
  repeat' first
    | with_reducible assumption
    | with_reducible apply Keeps.send
    | (with_reducible refine Keeps.lit ?_; first | with_reducible assumption | with_reducible apply Keeps.send)

theorem keeps_State_dieXfer {r0 : State} {s : State} (q : Nat) (x : Xfer) (hk : Keeps r0 s) : Keeps r0 (State.dieXfer s q x) := by
  unfold State.dieXfer
  (try dsimp only)
  repeat' first
    | with_reducible assumption
    | with_reducible apply keeps_State_sendXfer
    | with_reducible apply keeps_State_updLink
    | split
    | (with_reducible refine Keeps.lit ?_; first | with_reducible assumption | with_reducible apply keeps_State_sendXfer | with_reducible apply keeps_State_updLink | split)

theorem keeps_State_handoffFault {r0 : State} {s : State} (g : Granule) (hk : Keeps r0 s) : Keeps r0 (State.handoffFault s g) := by
  unfold State.handoffFault
  (try dsimp only)
  repeat' first
    | with_reducible assumption
    | with_reducible apply keeps_State_holdShell
    | split
    | (with_reducible refine Keeps.lit ?_; first | with_reducible assumption | with_reducible apply keeps_State_holdShell | split)

theorem keeps_State_portWork {r0 : State} {s : State} (q ctx : Nat) (hk : Keeps r0 s) : Keeps r0 (State.portWork s q ctx) := by
  unfold State.portWork
  repeat' first
    | with_reducible assumption
    | with_reducible apply keeps_State_noteWork

theorem keeps_State_handOver {r0 : State} {s : State} (g : Granule) (hk : Keeps r0 s) : Keeps r0 (State.handOver s g) := by
  unfold State.handOver
  (try dsimp only)
  repeat' first
    | with_reducible assumption
    | with_reducible apply keeps_State_portWork
    | with_reducible apply keeps_State_dieXfer
    | (with_reducible refine Keeps.lit ?_; first | with_reducible assumption | with_reducible apply keeps_State_portWork | with_reducible apply keeps_State_dieXfer)

theorem keeps_State_handoffAt {r0 s : State} (g : Granule) (stuck : Bool) (p : Placed) (hk : Keeps r0 s) :
    Keeps r0 (s.handoffAt g stuck p) := by
  cases p with
  | fault => exact keeps_State_handoffFault g hk
  | motion =>
    show Keeps r0 (if stuck = true then s.handoffFault g else s)
    split
    · exact keeps_State_handoffFault g hk
    · exact hk
  | ready => exact keeps_State_handOver g hk

theorem keeps_granuleHandoff {r0 : State} {s : State} (id : Nat) (hk : Keeps r0 s) : Keeps r0 (granuleHandoff s id) := by
  unfold granuleHandoff
  (try dsimp only)
  repeat' first
    | with_reducible assumption
    | with_reducible apply keeps_State_handoffFault
    | with_reducible apply keeps_State_handoffAt
    | split
    | (with_reducible refine Keeps.lit ?_; first | with_reducible assumption | with_reducible apply keeps_State_handoffFault | with_reducible apply keeps_State_handoffAt | split)

theorem keeps_State_granFails {r0 : State} {s : State} (g : Granule) (code : Nat) (hk : Keeps r0 s) : Keeps r0 (State.granFails s g code) := by
  unfold State.granFails
  (try dsimp only)
  repeat' first
    | with_reducible assumption
    | with_reducible apply keeps_State_setObj
    | with_reducible apply keeps_State_report
    | with_reducible apply keeps_State_hold
    | with_reducible apply keeps_State_sendXfer
    | split

theorem keeps_gradReceived {r0 : State} {s : State} (q : Nat) (x : Xfer) (hk : Keeps r0 s) : Keeps r0 (gradReceived s q x) := by
  unfold gradReceived
  (try dsimp only)
  repeat' first
    | with_reducible assumption
    | with_reducible apply keeps_State_addObj
    | with_reducible apply keeps_State_granFails
    | with_reducible apply Keeps.number
    | split
    | (with_reducible refine Keeps.lit ?_; first | with_reducible assumption | with_reducible apply keeps_State_addObj | with_reducible apply keeps_State_granFails | with_reducible apply Keeps.number | split)

theorem keeps_State_updRx {r0 : State} {s : State} (id : Nat) (f : Granule → Granule) (hk : Keeps r0 s) : Keeps r0 (State.updRx s id f) := by
  unfold State.updRx
  (try dsimp only)
  repeat' first
    | with_reducible assumption
    | split
    | (with_reducible refine Keeps.lit ?_; first | with_reducible assumption | split)

theorem keeps_State_dropRx {r0 : State} {s : State} (id : Nat) (hk : Keeps r0 s) : Keeps r0 (State.dropRx s id) := by
  unfold State.dropRx
  (try dsimp only)
  repeat' first
    | with_reducible assumption
    | (with_reducible refine Keeps.lit ?_; first | with_reducible assumption)

theorem keeps_State_homeWrite {r0 s : State} (a : Nat) (bs : List Nat) (hk : Keeps r0 s) : Keeps r0 (s.homeWrite a bs) := by
  induction bs generalizing s a with
  | nil => exact hk
  | cons b t ih => exact ih (a + 1) (keeps_State_locWrite _ b hk)

theorem keeps_State_writeRecord {r0 : State} {s : State} (a : Nat) (arrays : List (List F32)) (hk : Keeps r0 s) : Keeps r0 (State.writeRecord s a arrays) := by
  unfold State.writeRecord
  (try dsimp only)
  repeat' first
    | with_reducible assumption
    | with_reducible apply keeps_State_homeWrite
    | (with_reducible refine Keeps.foldl ?_ ?_; intro _ _ _)

theorem keeps_State_applyGranule {r0 : State} {s : State} (u : UStream) (g : Granule) (x : Nat) (hk : Keeps r0 s) : Keeps r0 (State.applyGranule s u g x) := by
  unfold State.applyGranule
  (try dsimp only)
  repeat' first
    | with_reducible assumption
    | with_reducible apply keeps_State_writeRecord
    | with_reducible apply keeps_State_addObj
    | with_reducible apply keeps_State_updRx
    | with_reducible apply keeps_State_sendXfer
    | (with_reducible refine Keeps.foldl ?_ ?_; intro _ _ _)
    | (with_reducible refine Keeps.lit ?_; first | with_reducible assumption | with_reducible apply keeps_State_writeRecord | with_reducible apply keeps_State_addObj | with_reducible apply keeps_State_updRx | with_reducible apply keeps_State_sendXfer | (with_reducible refine Keeps.foldl ?_ ?_; intro _ _ _))

theorem keeps_State_reemitGranule {r0 : State} {s : State} (u : UStream) (g : Granule) (x : Nat) (hk : Keeps r0 s) : Keeps r0 (State.reemitGranule s u g x) := by
  unfold State.reemitGranule
  (try dsimp only)
  repeat' first
    | with_reducible assumption
    | with_reducible apply keeps_State_addObj
    | with_reducible apply keeps_State_updRx
    | with_reducible apply keeps_State_sendXfer
    | (with_reducible refine Keeps.lit ?_; first | with_reducible assumption | with_reducible apply keeps_State_addObj | with_reducible apply keeps_State_updRx | with_reducible apply keeps_State_sendXfer)

theorem keeps_State_serve {r0 : State} {s : State} (q : Nat) (x : Xfer) (err : Bool) (hk : Keeps r0 s) : Keeps r0 (State.serve s q x err) := by
  unfold State.serve
  (try dsimp only)
  repeat' first
    | with_reducible assumption
    | with_reducible apply keeps_State_countUncorr
    | with_reducible apply keeps_State_sendXfer
    | with_reducible apply keeps_State_addObj
    | with_reducible apply keeps_State_homeWrite
    | (with_reducible refine Keeps.setDdr ?_ _ (fun h => by first | exact Mem.lose_wf _ _ _ ((memWf_iff _).1 h).2.1 | rfl))
    | split
    | (with_reducible refine Keeps.lit ?_; first | with_reducible assumption | with_reducible apply keeps_State_countUncorr | with_reducible apply keeps_State_sendXfer | with_reducible apply keeps_State_addObj | with_reducible apply keeps_State_homeWrite | (with_reducible refine Keeps.setDdr ?_ _ (fun h => by first | exact Mem.lose_wf _ _ _ ((memWf_iff _).1 h).2.1 | rfl)) | split)

theorem keeps_State_takeReq {r0 : State} {s : State} (q : Nat) (x : Xfer) (err : Bool) (hk : Keeps r0 s) : Keeps r0 (State.takeReq s q x err) := by
  unfold State.takeReq
  (try dsimp only)
  repeat' first
    | with_reducible assumption
    | with_reducible apply keeps_State_serve
    | with_reducible apply Keeps.number
    | split
    | (with_reducible refine Keeps.lit ?_; first | with_reducible assumption | with_reducible apply keeps_State_serve | with_reducible apply Keeps.number | split)

theorem keeps_State_serveReqs {r0 s : State} (ts : List TierReq) (hk : Keeps r0 s) : Keeps r0 (s.serveReqs ts) := by
  induction ts generalizing s with
  | nil => exact hk
  | cons t r ih =>
    unfold State.serveReqs
    apply ih
    split
    · exact hk
    · exact keeps_State_serve _ _ _ (Keeps.lit hk)

theorem keeps_rdReq {r0 : State} {s : State} (q : Nat) (x : ReadReq) (hk : Keeps r0 s) : Keeps r0 (rdReq s q x) := by
  unfold rdReq
  repeat' first
    | with_reducible assumption
    | with_reducible apply keeps_State_takeReq
    | split

theorem keeps_rdData {r0 : State} {s : State} (q : Nat) (x : Xfer) (hk : Keeps r0 s) : Keeps r0 (rdData s q x) := by
  unfold rdData
  (try dsimp only)
  repeat' first
    | with_reducible assumption
    | with_reducible apply keeps_State_portWork
    | split
    | (with_reducible refine Keeps.lit ?_; first | with_reducible assumption | with_reducible apply keeps_State_portWork | split)

theorem keeps_wrData {r0 : State} {s : State} (q : Nat) (x : Xfer) (hk : Keeps r0 s) : Keeps r0 (wrData s q x) := by
  unfold wrData
  repeat' first
    | with_reducible assumption
    | with_reducible apply keeps_State_takeReq
    | split

theorem keeps_wrAck {r0 : State} {s : State} (q : Nat) (x : Xfer) (hk : Keeps r0 s) : Keeps r0 (wrAck s q x) := by
  unfold wrAck
  (try dsimp only)
  repeat' first
    | with_reducible assumption
    | with_reducible apply keeps_State_portWork
    | split
    | (with_reducible refine Keeps.lit ?_; first | with_reducible assumption | with_reducible apply keeps_State_portWork | split)

theorem keeps_granuleApply {r0 : State} {s : State} (q i : Nat) (hk : Keeps r0 s) : Keeps r0 (granuleApply s q i) := by
  unfold granuleApply
  (try dsimp only)
  repeat' first
    | with_reducible assumption
    | with_reducible apply keeps_State_dropRx
    | with_reducible apply keeps_State_granFails
    | with_reducible apply keeps_State_reemitGranule
    | with_reducible apply keeps_State_applyGranule
    | with_reducible apply keeps_State_serveReqs
    | split
    | (with_reducible refine Keeps.lit ?_; first | with_reducible assumption | with_reducible apply keeps_State_dropRx | with_reducible apply keeps_State_granFails | with_reducible apply keeps_State_reemitGranule | with_reducible apply keeps_State_applyGranule | with_reducible apply keeps_State_serveReqs | split)

theorem keeps_emitTransfer {r0 : State} {s : State} (q : Nat) (x : Xfer) (hk : Keeps r0 s) : Keeps r0 (emitTransfer s q x) := by
  unfold emitTransfer
  (try dsimp only)
  repeat' first
    | with_reducible assumption
    | with_reducible apply keeps_State_portWork
    | with_reducible apply keeps_State_tierWriteBytes
    | with_reducible apply keeps_State_countAccess
    | with_reducible apply keeps_State_updRx
    | split
    | (with_reducible refine Keeps.lit ?_; first | with_reducible assumption | with_reducible apply keeps_State_portWork | with_reducible apply keeps_State_tierWriteBytes | with_reducible apply keeps_State_countAccess | with_reducible apply keeps_State_updRx | split)

theorem keeps_granuleComplete {r0 : State} {s : State} (q i : Nat) (hk : Keeps r0 s) : Keeps r0 (granuleComplete s q i) := by
  unfold granuleComplete
  (try dsimp only)
  repeat' first
    | with_reducible assumption
    | with_reducible apply keeps_State_dropRx
    | with_reducible apply keeps_State_updGran
    | with_reducible apply keeps_State_addObj
    | with_reducible apply keeps_State_sendXfer
    | split
    | (with_reducible refine Keeps.lit ?_; first | with_reducible assumption | with_reducible apply keeps_State_dropRx | with_reducible apply keeps_State_updGran | with_reducible apply keeps_State_addObj | with_reducible apply keeps_State_sendXfer | split)

theorem keeps_granDone {r0 : State} {s : State} (q : Nat) (x : Xfer) (hk : Keeps r0 s) : Keeps r0 (granDone s q x) := by
  unfold granDone
  (try dsimp only)
  repeat' first
    | with_reducible assumption
    | with_reducible apply keeps_State_portWork
    | with_reducible apply keeps_State_updSlot
    | split
    | (with_reducible refine Keeps.lit ?_; first | with_reducible assumption | with_reducible apply keeps_State_portWork | with_reducible apply keeps_State_updSlot | split)

theorem keeps_errTransfer {r0 : State} {s : State} (q : Nat) (x : Xfer) (hk : Keeps r0 s) : Keeps r0 (errTransfer s q x) := by
  unfold errTransfer
  (try dsimp only)
  repeat' first
    | with_reducible assumption
    | with_reducible apply keeps_State_portWork
    | with_reducible apply keeps_State_report
    | with_reducible apply keeps_State_hold
    | split
    | (with_reducible refine Keeps.lit ?_; first | with_reducible assumption | with_reducible apply keeps_State_portWork | with_reducible apply keeps_State_report | with_reducible apply keeps_State_hold | split)

theorem keeps_stepsetReceived {r0 : State} {s : State} (q : Nat) (x : Xfer) (hk : Keeps r0 s) : Keeps r0 (stepsetReceived s q x) := by
  unfold stepsetReceived
  repeat' first
    | with_reducible assumption
    | with_reducible apply keeps_State_setObj
    | split

theorem keeps_State_dieTakes {r0 : State} {s : State} (q : Nat) (x : Xfer) (hk : Keeps r0 s) : Keeps r0 (State.dieTakes s q x) := by
  unfold State.dieTakes
  repeat' first
    | with_reducible assumption
    | with_reducible apply keeps_rdData
    | with_reducible apply keeps_wrAck
    | with_reducible apply keeps_emitTransfer
    | with_reducible apply keeps_granDone
    | with_reducible apply keeps_errTransfer
    | split
    | (with_reducible refine Keeps.lit ?_; first | with_reducible assumption | with_reducible apply keeps_rdData | with_reducible apply keeps_wrAck | with_reducible apply keeps_emitTransfer | with_reducible apply keeps_granDone | with_reducible apply keeps_errTransfer | split)

theorem keeps_State_takeAll {r0 s : State} (n k : Nat) (hk : Keeps r0 s) : Keeps r0 (s.takeAll n k) := by
  induction k generalizing s with
  | zero => exact hk
  | succ k ih =>
    unfold State.takeAll
    dsimp only
    split
    · exact hk
    · exact ih (keeps_State_dieTakes _ _ (keeps_State_updLink _ _ hk))

theorem keeps_State_takeTransfers {r0 : State} {s : State} (n : Nat) (hk : Keeps r0 s) : Keeps r0 (State.takeTransfers s n) := by
  unfold State.takeTransfers
  repeat' first
    | with_reducible assumption
    | with_reducible apply keeps_State_takeAll
    | split

theorem keeps_State_unpin {r0 : State} {s : State} (ctx : Nat) (hk : Keeps r0 s) : Keeps r0 (State.unpin s ctx) := by
  unfold State.unpin
  (try dsimp only)
  repeat' first
    | with_reducible assumption
    | split
    | (with_reducible refine Keeps.lit ?_; first | with_reducible assumption | split)

theorem keeps_State_pinAll {r0 : State} {s : State} (ctx unit b : Nat) (hk : Keeps r0 s) : Keeps r0 (State.pinAll s ctx unit b) := by
  unfold State.pinAll
  (try dsimp only)
  repeat' first
    | with_reducible assumption
    | with_reducible apply keeps_State_holdShell
    | split
    | (with_reducible refine Keeps.lit ?_; first | with_reducible assumption | with_reducible apply keeps_State_holdShell | split)

theorem keeps_pinStep {r0 s : State} (h : Head) (n : Nat) (hk : Keeps r0 s) : Ends r0 (Keeps r0) (pinStep s h n) := by
  unfold pinStep
  dsimp only
  split
  · exact Ends.pass hk
  · split
    · exact Ends.pass hk
    · split
      · exact Ends.pass (keeps_State_holdHead _ _ _ hk)
      · exact Ends.pass (keeps_State_pinAll _ _ _ (keeps_State_unpin _ hk))

theorem keeps_State_dispatchCommit {r0 : State} {s : State} (sh : Shell) (hk : Keeps r0 s) : Keeps r0 (State.dispatchCommit s sh) := by
  unfold State.dispatchCommit
  (try dsimp only)
  repeat' first
    | with_reducible assumption
    | (with_reducible refine keeps_State_dispatch ?_ ?_; intro _; try dsimp only)
    | with_reducible apply keeps_State_holdHead
    | with_reducible apply keeps_State_openColl
    | with_reducible apply keeps_State_updColl
    | (with_reducible refine Ends.error ?_)
    | (with_reducible refine Ends.pass ?_; try dsimp only)
    | split
    | (with_reducible refine Keeps.lit ?_; first | with_reducible assumption | (with_reducible refine keeps_State_dispatch ?_ ?_; intro _; try dsimp only) | with_reducible apply keeps_State_holdHead | with_reducible apply keeps_State_openColl | with_reducible apply keeps_State_updColl | (with_reducible refine Ends.error ?_) | (with_reducible refine Ends.pass ?_; try dsimp only) | split)

theorem keeps_State_startCommit {r0 : State} {s : State} (id : Nat) (hk : Keeps r0 s) : Keeps r0 (State.startCommit s id) := by
  unfold State.startCommit
  (try dsimp only)
  repeat' first
    | with_reducible assumption
    | with_reducible apply keeps_State_updFlight
    | with_reducible apply keeps_State_updColl
    | with_reducible apply keeps_State_sendCtl
    | (with_reducible refine Keeps.foldl ?_ ?_; intro _ _ _)
    | split
    | (with_reducible refine Keeps.lit ?_; first | with_reducible assumption | with_reducible apply keeps_State_updFlight | with_reducible apply keeps_State_updColl | with_reducible apply keeps_State_sendCtl | (with_reducible refine Keeps.foldl ?_ ?_; intro _ _ _) | split)

theorem keeps_commitFrame {r0 : State} {s : State} (plane : Nat) (hk : Keeps r0 s) : Keeps r0 (commitFrame s plane) := by
  unfold commitFrame
  (try dsimp only)
  repeat' first
    | with_reducible assumption
    | with_reducible apply keeps_State_popInbox
    | (refine Ends.stop (keeps_State_checkStand (hk := ?_) ..) (by assumption))
    | with_reducible apply keeps_State_yarderWork
    | with_reducible apply keeps_State_abortStand
    | split
    | (with_reducible refine Keeps.lit ?_; first | with_reducible assumption | with_reducible apply keeps_State_popInbox | (refine Ends.stop (keeps_State_checkStand (hk := ?_) ..) (by assumption)) | with_reducible apply keeps_State_yarderWork | with_reducible apply keeps_State_abortStand | split)

theorem keeps_commitComplete {r0 : State} {s : State} (id : Nat) (hk : Keeps r0 s) : Keeps r0 (commitComplete s id) := by
  unfold commitComplete
  (try dsimp only)
  repeat' first
    | with_reducible assumption
    | with_reducible apply keeps_State_setObj
    | with_reducible apply keeps_State_dieXfer
    | with_reducible apply keeps_State_scalerCommit
    | with_reducible apply keeps_State_restartDone
    | with_reducible apply keeps_State_closeColl
    | with_reducible apply keeps_State_complete
    | (with_reducible refine Keeps.foldl ?_ ?_; intro _ _ _)
    | split
    | (with_reducible refine Keeps.lit ?_; first | with_reducible assumption | with_reducible apply keeps_State_setObj | with_reducible apply keeps_State_dieXfer | with_reducible apply keeps_State_scalerCommit | with_reducible apply keeps_State_restartDone | with_reducible apply keeps_State_closeColl | with_reducible apply keeps_State_complete | (with_reducible refine Keeps.foldl ?_ ?_; intro _ _ _) | split)

theorem keeps_onEpoch {r0 : State} {s : State} (ctx : Nat) (hk : Keeps r0 s) : Keeps r0 (onEpoch s ctx) := by
  unfold onEpoch
  (try dsimp only)
  repeat' first
    | with_reducible assumption
    | with_reducible apply keeps_State_updCtx
    | with_reducible apply keeps_State_scalerDiscard
    | (with_reducible refine Keeps.lit ?_; first | with_reducible assumption | with_reducible apply keeps_State_updCtx | with_reducible apply keeps_State_scalerDiscard)

theorem keeps_State_stepEnd {r0 : State} {s : State} (ctx r : Nat) (hk : Keeps r0 s) : Keeps r0 (State.stepEnd s ctx r) := by
  unfold State.stepEnd
  repeat' first
    | with_reducible assumption
    | with_reducible apply keeps_State_setObj
    | split

theorem keeps_State_setSteps {r0 : State} {s : State} (ctx v : Nat) (hk : Keeps r0 s) : Keeps r0 (State.setSteps s ctx v) := by
  unfold State.setSteps
  (try dsimp only)
  repeat' first
    | with_reducible assumption
    | with_reducible apply keeps_State_setObj
    | (with_reducible refine Keeps.foldl ?_ ?_; intro _ _ _)

theorem keeps_State_doSetStep {r0 : State} {s : State} (ctx v : Nat) (hk : Keeps r0 s) : Keeps r0 (State.doSetStep s ctx v) := by
  unfold State.doSetStep
  (try dsimp only)
  repeat' first
    | with_reducible assumption
    | with_reducible apply keeps_State_setSteps
    | with_reducible apply keeps_State_setObj
    | with_reducible apply keeps_State_clearCommitHold
    | with_reducible apply keeps_State_scalerSetStep
    | split
    | (with_reducible refine Keeps.lit ?_; first | with_reducible assumption | with_reducible apply keeps_State_setSteps | with_reducible apply keeps_State_setObj | with_reducible apply keeps_State_clearCommitHold | with_reducible apply keeps_State_scalerSetStep | split)

theorem keeps_setStep {r0 : State} {s : State} (path ctx : Nat) (hk : Keeps r0 s) : Keeps r0 (setStep s path ctx) := by
  unfold setStep
  (try dsimp only)
  repeat' first
    | with_reducible assumption
    | (with_reducible refine keeps_State_onCmd ?_ ?_; intro _ _; try dsimp only)
    | with_reducible apply keeps_State_stepEnd
    | with_reducible apply keeps_State_doSetStep
    | split

theorem keeps_rollForward {r0 : State} {s : State} (path ctx : Nat) (hk : Keeps r0 s) : Keeps r0 (rollForward s path ctx) := by
  unfold rollForward
  (try dsimp only)
  repeat' first
    | with_reducible assumption
    | (with_reducible refine keeps_State_onCmd ?_ ?_; intro _ _; try dsimp only)
    | with_reducible apply keeps_State_stepEnd
    | with_reducible apply keeps_State_setSteps
    | split

theorem keeps_State_stepBegin {r0 : State} {s : State} (ctx action : Nat) (hk : Keeps r0 s) : Keeps r0 (State.stepBegin s ctx action) := by
  unfold State.stepBegin
  (try dsimp only)
  repeat' first
    | with_reducible assumption
    | with_reducible apply keeps_State_setObj
    | (with_reducible refine Keeps.lit ?_; first | with_reducible assumption | with_reducible apply keeps_State_setObj)

theorem keeps_emitStep {r0 : State} {s : State} (path ctx : Nat) (hk : Keeps r0 s) : Keeps r0 (emitStep s path ctx) := by
  unfold emitStep
  (try dsimp only)
  repeat' first
    | with_reducible assumption
    | (with_reducible refine keeps_State_onCmd ?_ ?_; intro _ _; try dsimp only)
    | with_reducible apply keeps_State_stepEnd
    | with_reducible apply keeps_State_stepBegin
    | split

theorem keeps_snapshotStep {r0 : State} {s : State} (path ctx : Nat) (hk : Keeps r0 s) : Keeps r0 (snapshotStep s path ctx) := by
  unfold snapshotStep
  (try dsimp only)
  repeat' first
    | with_reducible assumption
    | (with_reducible refine keeps_State_onCmd ?_ ?_; intro _ _; try dsimp only)
    | with_reducible apply keeps_State_stepEnd
    | with_reducible apply keeps_State_stepBegin
    | split

theorem keeps_restoreStep {r0 : State} {s : State} (path ctx : Nat) (hk : Keeps r0 s) : Keeps r0 (restoreStep s path ctx) := by
  unfold restoreStep
  (try dsimp only)
  repeat' first
    | with_reducible assumption
    | (with_reducible refine keeps_State_onCmd ?_ ?_; intro _ _; try dsimp only)
    | with_reducible apply keeps_State_stepEnd
    | with_reducible apply keeps_State_stepBegin
    | split

theorem keeps_State_homeCopy {r0 s : State} (src dst n k : Nat) (hk : Keeps r0 s) : Keeps r0 (s.homeCopy src dst n k) := by
  induction k generalizing s src dst n with
  | zero => exact hk
  | succ k ih =>
    unfold State.homeCopy
    split
    · exact hk
    · dsimp only
      refine ih _ _ _ ?_
      split
      · exact hk.setDdr _ (fun h => Mem.copy_wf _ _ _ ((memWf_iff s).1 h).2.1 ((memWf_iff s).1 h).2.1)
      · exact hk

theorem keeps_State_emitAll {r0 : State} {s : State} (ctx : Nat) (hk : Keeps r0 s) : Keeps r0 (State.emitAll s ctx) := by
  unfold State.emitAll
  (try dsimp only)
  repeat' first
    | with_reducible assumption
    | with_reducible apply keeps_State_tierWriteBytes
    | (with_reducible refine Keeps.foldl ?_ ?_; intro _ _ _)

theorem keeps_stepActionComplete {r0 : State} {s : State} (ctx : Nat) (hk : Keeps r0 s) : Keeps r0 (stepActionComplete s ctx) := by
  unfold stepActionComplete
  (try dsimp only)
  repeat' first
    | with_reducible assumption
    | with_reducible apply keeps_State_emitAll
    | with_reducible apply keeps_State_stepEnd
    | with_reducible apply keeps_State_homeCopy
    | with_reducible apply keeps_State_setObj
    | with_reducible apply keeps_State_doSetStep
    | (with_reducible refine Keeps.foldl ?_ ?_; intro _ _ _)
    | split
    | (with_reducible refine Keeps.lit ?_; first | with_reducible assumption | with_reducible apply keeps_State_emitAll | with_reducible apply keeps_State_stepEnd | with_reducible apply keeps_State_homeCopy | with_reducible apply keeps_State_setObj | with_reducible apply keeps_State_doSetStep | (with_reducible refine Keeps.foldl ?_ ?_; intro _ _ _) | split)

theorem keeps_State_updServ {r0 : State} {s : State} (ctx : Nat) (f : Serving → Serving) (hk : Keeps r0 s) : Keeps r0 (State.updServ s ctx f) := by
  unfold State.updServ
  (try dsimp only)
  repeat' first
    | with_reducible assumption
    | (with_reducible refine Keeps.lit ?_; first | with_reducible assumption)

theorem keeps_State_seqPost {r0 : State} {s : State} (ctx unit ctr : Nat) (hk : Keeps r0 s) : Keeps r0 (State.seqPost s ctx unit ctr) := by
  unfold State.seqPost
  (try dsimp only)
  repeat' first
    | with_reducible assumption
    | (with_reducible refine Keeps.lit ?_; first | with_reducible assumption)

theorem keeps_State_wloadEnd {r0 : State} {s : State} (ctx r : Nat) (hk : Keeps r0 s) : Keeps r0 (State.wloadEnd s ctx r) := by
  unfold State.wloadEnd
  repeat' first
    | with_reducible assumption
    | with_reducible apply keeps_State_setObj
    | split

theorem keeps_weightLoad {r0 : State} {s : State} (path ctx : Nat) (hk : Keeps r0 s) : Keeps r0 (weightLoad s path ctx) := by
  unfold weightLoad
  (try dsimp only)
  repeat' first
    | with_reducible assumption
    | (with_reducible refine keeps_State_onCmd ?_ ?_; intro _ _; try dsimp only)
    | with_reducible apply keeps_State_wloadEnd
    | with_reducible apply keeps_State_setObj
    | with_reducible apply keeps_State_updServ
    | split
    | (with_reducible refine Keeps.lit ?_; first | with_reducible assumption | (with_reducible refine keeps_State_onCmd ?_ ?_; intro _ _; try dsimp only) | with_reducible apply keeps_State_wloadEnd | with_reducible apply keeps_State_setObj | with_reducible apply keeps_State_updServ | split)

theorem keeps_weightSwitch {r0 : State} {s : State} (path ctx : Nat) (hk : Keeps r0 s) : Keeps r0 (weightSwitch s path ctx) := by
  unfold weightSwitch
  (try dsimp only)
  repeat' first
    | with_reducible assumption
    | (with_reducible refine keeps_State_onCmd ?_ ?_; intro _ _; try dsimp only)
    | with_reducible apply keeps_State_wloadEnd
    | with_reducible apply keeps_State_setObj
    | with_reducible apply keeps_State_updServ
    | split
    | (with_reducible refine Keeps.lit ?_; first | with_reducible assumption | (with_reducible refine keeps_State_onCmd ?_ ?_; intro _ _; try dsimp only) | with_reducible apply keeps_State_wloadEnd | with_reducible apply keeps_State_setObj | with_reducible apply keeps_State_updServ | split)

theorem keeps_weightRevert {r0 : State} {s : State} (path ctx : Nat) (hk : Keeps r0 s) : Keeps r0 (weightRevert s path ctx) := by
  unfold weightRevert
  (try dsimp only)
  repeat' first
    | with_reducible assumption
    | (with_reducible refine keeps_State_onCmd ?_ ?_; intro _ _; try dsimp only)
    | with_reducible apply keeps_State_wloadEnd
    | with_reducible apply keeps_State_setObj
    | with_reducible apply keeps_State_updServ
    | split
    | (with_reducible refine Keeps.lit ?_; first | with_reducible assumption | (with_reducible refine keeps_State_onCmd ?_ ?_; intro _ _; try dsimp only) | with_reducible apply keeps_State_wloadEnd | with_reducible apply keeps_State_setObj | with_reducible apply keeps_State_updServ | split)

theorem keeps_slotFillStart {r0 : State} {s : State} (ctx : Nat) (hk : Keeps r0 s) : Keeps r0 (slotFillStart s ctx) := by
  unfold slotFillStart
  (try dsimp only)
  repeat' first
    | with_reducible assumption
    | with_reducible apply keeps_State_updServ
    | with_reducible apply keeps_State_seqPost
    | split
    | (with_reducible refine Keeps.lit ?_; first | with_reducible assumption | with_reducible apply keeps_State_updServ | with_reducible apply keeps_State_seqPost | split)

theorem keeps_State_seqAcquire {r0 : State} {s : State} (ctx k n : Nat) (hk : Keeps r0 s) : Keeps r0 (State.seqAcquire s ctx k n) := by
  unfold State.seqAcquire
  (try dsimp only)
  repeat' first
    | with_reducible assumption
    | (with_reducible refine Keeps.lit ?_; first | with_reducible assumption)

theorem keeps_slotReady {r0 : State} {s : State} (ctx : Nat) (hk : Keeps r0 s) : Keeps r0 (slotReady s ctx) := by
  unfold slotReady
  (try dsimp only)
  repeat' first
    | with_reducible assumption
    | with_reducible apply keeps_State_seqAcquire
    | with_reducible apply keeps_State_holdShell
    | with_reducible apply keeps_State_updServ
    | split
    | (with_reducible refine Keeps.lit ?_; first | with_reducible assumption | with_reducible apply keeps_State_seqAcquire | with_reducible apply keeps_State_holdShell | with_reducible apply keeps_State_updServ | split)

theorem keeps_batchSubmit {r0 : State} {s : State} (path ctx : Nat) (hk : Keeps r0 s) : Keeps r0 (batchSubmit s path ctx) := by
  unfold batchSubmit
  (try dsimp only)
  repeat' first
    | with_reducible assumption
    | (with_reducible refine keeps_State_onCmd ?_ ?_; intro _ _; try dsimp only)
    | with_reducible apply keeps_State_setObj
    | with_reducible apply keeps_State_updServ
    | split
    | (with_reducible refine Keeps.lit ?_; first | with_reducible assumption | (with_reducible refine keeps_State_onCmd ?_ ?_; intro _ _; try dsimp only) | with_reducible apply keeps_State_setObj | with_reducible apply keeps_State_updServ | split)

theorem keeps_State_stageJoin {r0 : State} {s : State} (ctx : Nat) (pairs : List (Nat × Nat)) (hk : Keeps r0 s) : Keeps r0 (State.stageJoin s ctx pairs) := by
  unfold State.stageJoin
  (try dsimp only)
  repeat' first
    | with_reducible assumption
    | with_reducible apply keeps_State_updRegion
    | with_reducible apply keeps_State_setFrame
    | (with_reducible refine Keeps.foldl ?_ ?_; intro _ _ _)
    | (with_reducible refine Keeps.lit ?_; first | with_reducible assumption | with_reducible apply keeps_State_updRegion | with_reducible apply keeps_State_setFrame | (with_reducible refine Keeps.foldl ?_ ?_; intro _ _ _))

theorem keeps_State_joins {r0 s : State} (ctx record x : Nat) (order qs : List Nat) (hk : Keeps r0 s) :
    Keeps r0 (s.joins ctx record x order qs).1 := by
  induction qs generalizing s with
  | nil => exact hk
  | cons q t ih =>
    unfold State.joins
    dsimp only
    split
    · exact ih (keeps_State_addObj _ _ _ hk)
    · exact ih (keeps_State_updServ _ _ (keeps_State_stageJoin _ _ hk))

theorem keeps_State_pinSlots {r0 : State} {s : State} (ls : List Nat) (b : Nat) (f : Nat → Nat) (hk : Keeps r0 s) : Keeps r0 (State.pinSlots s ls b f) := by
  unfold State.pinSlots
  (try dsimp only)
  repeat' first
    | with_reducible assumption
    | with_reducible apply keeps_State_updSlot
    | (with_reducible refine Keeps.foldl ?_ ?_; intro _ _ _)

theorem keeps_batchAdmit {r0 : State} {s : State} (ctx : Nat) (order : List Nat) (hk : Keeps r0 s) : Keeps r0 (batchAdmit s ctx order) := by
  unfold batchAdmit
  (try dsimp only)
  repeat' first
    | with_reducible assumption
    | with_reducible apply keeps_State_setObj
    | with_reducible apply keeps_State_updServ
    | with_reducible apply keeps_State_pinSlots
    | with_reducible apply keeps_State_joins
    | with_reducible apply keeps_State_tierWriteBytes
    | with_reducible apply keeps_State_seqPost
    | (with_reducible refine Keeps.foldl ?_ ?_; intro _ _ _)
    | split
    | (with_reducible refine Keeps.lit ?_; first | with_reducible assumption | with_reducible apply keeps_State_setObj | with_reducible apply keeps_State_updServ | with_reducible apply keeps_State_pinSlots | with_reducible apply keeps_State_joins | with_reducible apply keeps_State_tierWriteBytes | with_reducible apply keeps_State_seqPost | (with_reducible refine Keeps.foldl ?_ ?_; intro _ _ _) | split)

theorem keeps_slotTokenPost {r0 : State} {s : State} (ctx : Nat) (hk : Keeps r0 s) : Keeps r0 (slotTokenPost s ctx) := by
  unfold slotTokenPost
  (try dsimp only)
  repeat' first
    | with_reducible assumption
    | with_reducible apply keeps_State_updServ
    | with_reducible apply keeps_State_seqPost
    | split
    | (with_reducible refine Keeps.lit ?_; first | with_reducible assumption | with_reducible apply keeps_State_updServ | with_reducible apply keeps_State_seqPost | split)

theorem keeps_State_wakeSequencer {r0 : State} {s : State} (ctx owner k : Nat) (hk : Keeps r0 s) : Keeps r0 (State.wakeSequencer s ctx owner k) := by
  unfold State.wakeSequencer
  (try dsimp only)
  repeat' first
    | with_reducible assumption
    | with_reducible apply keeps_State_seqAcquire
    | with_reducible apply keeps_State_holdShell
    | with_reducible apply keeps_State_updServ
    | split
    | (with_reducible refine Keeps.lit ?_; first | with_reducible assumption | with_reducible apply keeps_State_seqAcquire | with_reducible apply keeps_State_holdShell | with_reducible apply keeps_State_updServ | split)

theorem keeps_State_dropKv {r0 : State} {s : State} (ctx q : Nat) (hk : Keeps r0 s) : Keeps r0 (State.dropKv s ctx q) := by
  unfold State.dropKv
  (try dsimp only)
  repeat' first
    | with_reducible assumption
    | with_reducible apply keeps_State_updRegion
    | with_reducible apply keeps_State_setFrame
    | with_reducible apply keeps_State_updServ
    | (with_reducible refine Keeps.foldl ?_ ?_; intro _ _ _)
    | (with_reducible refine Keeps.lit ?_; first | with_reducible assumption | with_reducible apply keeps_State_updRegion | with_reducible apply keeps_State_setFrame | with_reducible apply keeps_State_updServ | (with_reducible refine Keeps.foldl ?_ ?_; intro _ _ _))

theorem keeps_batchComplete {r0 : State} {s : State} (ctx : Nat) (hk : Keeps r0 s) : Keeps r0 (batchComplete s ctx) := by
  unfold batchComplete
  (try dsimp only)
  repeat' first
    | with_reducible assumption
    | with_reducible apply keeps_State_pinSlots
    | with_reducible apply keeps_State_dropKv
    | with_reducible apply keeps_State_setObj
    | with_reducible apply keeps_State_signal
    | with_reducible apply keeps_State_updServ
    | with_reducible apply keeps_State_addObj
    | (with_reducible refine Keeps.foldl ?_ ?_; intro _ _ _)
    | split
    | (with_reducible refine Keeps.lit ?_; first | with_reducible assumption | with_reducible apply keeps_State_pinSlots | with_reducible apply keeps_State_dropKv | with_reducible apply keeps_State_setObj | with_reducible apply keeps_State_signal | with_reducible apply keeps_State_updServ | with_reducible apply keeps_State_addObj | (with_reducible refine Keeps.foldl ?_ ?_; intro _ _ _) | split)

theorem keeps_State_endServing {r0 : State} {s : State} (ctx : Nat) (hk : Keeps r0 s) : Keeps r0 (State.endServing s ctx) := by
  unfold State.endServing
  (try dsimp only)
  repeat' first
    | with_reducible assumption
    | with_reducible apply keeps_State_pinSlots
    | with_reducible apply keeps_State_dropKv
    | with_reducible apply keeps_State_setObj
    | with_reducible apply keeps_State_updServ
    | (with_reducible refine Keeps.foldl ?_ ?_; intro _ _ _)
    | split

theorem keeps_State_servDefaults {r0 : State} {s : State} (ctx : Nat) (hk : Keeps r0 s) : Keeps r0 (State.servDefaults s ctx) := by
  unfold State.servDefaults
  (try dsimp only)
  repeat' first
    | with_reducible assumption
    | (with_reducible refine Keeps.lit ?_; first | with_reducible assumption)

theorem keeps_State_beginServing {r0 : State} {s : State} (ctx record : Nat) (hk : Keeps r0 s) : Keeps r0 (State.beginServing s ctx record) := by
  unfold State.beginServing
  (try dsimp only)
  repeat' first
    | with_reducible assumption
    | with_reducible apply keeps_State_servDefaults
    | with_reducible apply keeps_State_updServ
    | with_reducible apply keeps_State_setObj
    | (with_reducible refine Keeps.foldl ?_ ?_; intro _ _ _)

theorem keeps_resAck {r0 : State} {s : State} (path r v : Nat) (hk : Keeps r0 s) : Keeps r0 (resAck s path r v) := by
  unfold resAck
  (try dsimp only)
  repeat' first
    | with_reducible assumption
    | with_reducible apply keeps_State_unserved
    | with_reducible apply keeps_State_setObj
    | with_reducible apply keeps_State_dictRefuse
    | with_reducible apply keeps_State_refuse
    | split

theorem keeps_resWordRead {r0 : State} {s : State} (path r : Nat) (hk : Keeps r0 s) : Keeps r0 (resWordRead s path r) := by
  unfold resWordRead
  repeat' first
    | with_reducible assumption
    | with_reducible apply keeps_State_unserved
    | with_reducible apply keeps_State_setObj
    | split

theorem keeps_State_ctxEvent {r0 : State} {s : State} (ctx : Nat) (hk : Keeps r0 s) : Keeps r0 (State.ctxEvent s ctx) := by
  unfold State.ctxEvent
  repeat' first
    | with_reducible assumption
    | with_reducible apply keeps_State_signal

theorem keeps_State_planDone {r0 : State} {s : State} (ctx : Nat) (hk : Keeps r0 s) : Keeps r0 (State.planDone s ctx) := by
  unfold State.planDone
  repeat' first
    | with_reducible assumption
    | with_reducible apply keeps_State_setObj
    | with_reducible apply keeps_State_ctxEvent

theorem keeps_State_planRefused {r0 : State} {s : State} (ctx reason code : Nat) (hk : Keeps r0 s) : Keeps r0 (State.planRefused s ctx reason code) := by
  unfold State.planRefused
  repeat' first
    | with_reducible assumption
    | with_reducible apply keeps_State_setObj
    | with_reducible apply keeps_State_refuse
    | with_reducible apply keeps_State_ctxEvent

theorem keeps_State_stamp {r0 : State} {s : State} (ctx : Nat) (hk : Keeps r0 s) : Keeps r0 (State.stamp s ctx) := by
  unfold State.stamp
  (try dsimp only)
  repeat' first
    | with_reducible assumption
    | with_reducible apply keeps_State_updCtx
    | (with_reducible refine Keeps.lit ?_; first | with_reducible assumption | with_reducible apply keeps_State_updCtx)

theorem keeps_State_installDescs {r0 : State} {s : State} (ctx : Nat) (m : Mem) (hk : Keeps r0 s) : Keeps r0 (State.installDescs s ctx m) := by
  unfold State.installDescs
  (try dsimp only)
  repeat' first
    | with_reducible assumption
    | with_reducible apply keeps_State_installDesc
    | (with_reducible refine Keeps.foldl ?_ ?_; intro _ _ _)

theorem keeps_State_showBucking {r0 : State} {s : State} (ctx : Nat) (m : Mem) (hk : Keeps r0 s) : Keeps r0 (State.showBucking s ctx m) := by
  unfold State.showBucking
  (try dsimp only)
  repeat' first
    | with_reducible assumption
    | with_reducible apply keeps_State_setObj
    | (with_reducible refine Keeps.foldl ?_ ?_; intro _ _ _)

theorem keeps_State_installSlots {r0 : State} {s : State} (ctx : Nat) (m : Mem) (hk : Keeps r0 s) : Keeps r0 (State.installSlots s ctx m) := by
  unfold State.installSlots
  (try dsimp only)
  repeat' first
    | with_reducible assumption
    | with_reducible apply keeps_State_updSlot
    | (with_reducible refine Keeps.foldl ?_ ?_; intro _ _ _)
    | split
    | (with_reducible refine Keeps.lit ?_; first | with_reducible assumption | with_reducible apply keeps_State_updSlot | (with_reducible refine Keeps.foldl ?_ ?_; intro _ _ _) | split)

theorem keeps_State_installStreams {r0 : State} {s : State} (ctx : Nat) (m : Mem) (hk : Keeps r0 s) : Keeps r0 (State.installStreams s ctx m) := by
  unfold State.installStreams
  (try dsimp only)
  repeat' first
    | with_reducible assumption
    | (with_reducible refine Keeps.foldl ?_ ?_; intro _ _ _)
    | (with_reducible refine Keeps.lit ?_; first | with_reducible assumption | (with_reducible refine Keeps.foldl ?_ ?_; intro _ _ _))

theorem keeps_State_startCounters {r0 : State} {s : State} (ctx : Nat) (m : Mem) (hk : Keeps r0 s) : Keeps r0 (State.startCounters s ctx m) := by
  unfold State.startCounters
  (try dsimp only)
  repeat' first
    | with_reducible assumption
    | (with_reducible refine Keeps.foldl ?_ ?_; intro _ _ _)
    | (with_reducible refine Keeps.lit ?_; first | with_reducible assumption | (with_reducible refine Keeps.foldl ?_ ?_; intro _ _ _))

theorem keeps_State_install {r0 : State} {s : State} (ctx : Nat) (m : Mem) (len : Nat) (hk : Keeps r0 s) : Keeps r0 (State.install s ctx m len) := by
  unfold State.install
  (try dsimp only)
  repeat' first
    | with_reducible assumption
    | with_reducible apply keeps_State_startCounters
    | with_reducible apply keeps_State_installDescs
    | with_reducible apply keeps_State_showBucking
    | with_reducible apply keeps_State_installSlots
    | with_reducible apply keeps_State_installStreams
    | with_reducible apply keeps_State_scalerDiscard
    | with_reducible apply keeps_State_beginServing
    | with_reducible apply keeps_State_updCtx
    | with_reducible apply keeps_State_turnOn
    | with_reducible apply keeps_State_stamp
    | with_reducible apply keeps_State_restCheck
    | with_reducible apply keeps_State_planDone
    | (with_reducible refine Keeps.foldl ?_ ?_; intro _ _ _)
    | split
    | (with_reducible refine Keeps.lit ?_; first | with_reducible assumption | with_reducible apply keeps_State_startCounters | with_reducible apply keeps_State_installDescs | with_reducible apply keeps_State_showBucking | with_reducible apply keeps_State_installSlots | with_reducible apply keeps_State_installStreams | with_reducible apply keeps_State_scalerDiscard | with_reducible apply keeps_State_beginServing | with_reducible apply keeps_State_updCtx | with_reducible apply keeps_State_turnOn | with_reducible apply keeps_State_stamp | with_reducible apply keeps_State_restCheck | with_reducible apply keeps_State_planDone | (with_reducible refine Keeps.foldl ?_ ?_; intro _ _ _) | split)

theorem keeps_planLoad {r0 : State} {s : State} (path ctx : Nat) (hk : Keeps r0 s) : Keeps r0 (planLoad s path ctx) := by
  unfold planLoad
  (try dsimp only)
  repeat' first
    | with_reducible assumption
    | (with_reducible refine keeps_State_onCmd ?_ ?_; intro _ _; try dsimp only)
    | with_reducible apply keeps_State_planRefused
    | with_reducible apply keeps_State_setObj
    | with_reducible apply keeps_State_updCtx
    | with_reducible apply keeps_State_install
    | split
    | (with_reducible refine Keeps.lit ?_; first | with_reducible assumption | (with_reducible refine keeps_State_onCmd ?_ ?_; intro _ _; try dsimp only) | with_reducible apply keeps_State_planRefused | with_reducible apply keeps_State_setObj | with_reducible apply keeps_State_updCtx | with_reducible apply keeps_State_install | split)

theorem keeps_unload {r0 : State} {s : State} (path ctx : Nat) (hk : Keeps r0 s) : Keeps r0 (unload s path ctx) := by
  unfold unload
  (try dsimp only)
  repeat' first
    | with_reducible assumption
    | (with_reducible refine keeps_State_onCmd ?_ ?_; intro _ _; try dsimp only)
    | with_reducible apply keeps_State_planRefused
    | with_reducible apply keeps_State_updCtx
    | with_reducible apply keeps_State_setObj
    | split
    | (with_reducible refine Keeps.lit ?_; first | with_reducible assumption | (with_reducible refine keeps_State_onCmd ?_ ?_; intro _ _; try dsimp only) | with_reducible apply keeps_State_planRefused | with_reducible apply keeps_State_updCtx | with_reducible apply keeps_State_setObj | split)

theorem keeps_State_freePlan {r0 : State} {s : State} (ctx : Nat) (hk : Keeps r0 s) : Keeps r0 (State.freePlan s ctx) := by
  unfold State.freePlan
  (try dsimp only)
  repeat' first
    | with_reducible assumption
    | with_reducible apply keeps_State_leaveCore
    | with_reducible apply keeps_State_unpin
    | with_reducible apply keeps_State_endServing
    | with_reducible apply keeps_State_showBucking
    | with_reducible apply keeps_State_startCounters
    | with_reducible apply keeps_State_updCtx
    | with_reducible apply keeps_State_restCheck
    | (with_reducible refine Keeps.foldl ?_ ?_; intro _ _ _)
    | (with_reducible refine Keeps.lit ?_; first | with_reducible assumption | with_reducible apply keeps_State_leaveCore | with_reducible apply keeps_State_unpin | with_reducible apply keeps_State_endServing | with_reducible apply keeps_State_showBucking | with_reducible apply keeps_State_startCounters | with_reducible apply keeps_State_updCtx | with_reducible apply keeps_State_restCheck | (with_reducible refine Keeps.foldl ?_ ?_; intro _ _ _))

theorem keeps_unloadComplete {r0 : State} {s : State} (ctx busy : Nat) (hk : Keeps r0 s) : Keeps r0 (unloadComplete s ctx busy) := by
  unfold unloadComplete
  (try dsimp only)
  repeat' first
    | with_reducible assumption
    | with_reducible apply keeps_State_drainMore
    | with_reducible apply keeps_State_countDrain
    | with_reducible apply keeps_State_freePlan
    | with_reducible apply keeps_State_install
    | with_reducible apply keeps_State_updCtx
    | with_reducible apply keeps_State_planDone
    | split
    | (with_reducible refine Keeps.lit ?_; first | with_reducible assumption | with_reducible apply keeps_State_drainMore | with_reducible apply keeps_State_countDrain | with_reducible apply keeps_State_freePlan | with_reducible apply keeps_State_install | with_reducible apply keeps_State_updCtx | with_reducible apply keeps_State_planDone | split)

theorem keeps_State_placeTask {r0 : State} {s : State} (ctx : Nat) (phase : CorePhase) (e : Nat × Nat) (hk : Keeps r0 s) : Keeps r0 (State.placeTask s ctx phase e) := by
  unfold State.placeTask
  (try dsimp only)
  repeat' first
    | with_reducible assumption
    | with_reducible apply keeps_State_updCore
    | with_reducible apply keeps_State_updCtx
    | with_reducible apply keeps_State_setObj
    | with_reducible apply keeps_State_turnOn
    | (with_reducible refine Keeps.lit ?_; first | with_reducible assumption | with_reducible apply keeps_State_updCore | with_reducible apply keeps_State_updCtx | with_reducible apply keeps_State_setObj | with_reducible apply keeps_State_turnOn)

theorem keeps_State_place {r0 : State} {s : State} (ctx : Nat) (where_ : List (Nat × Nat)) (hk : Keeps r0 s) : Keeps r0 (State.place s ctx where_) := by
  unfold State.place
  (try dsimp only)
  repeat' first
    | with_reducible assumption
    | with_reducible apply keeps_State_placeTask
    | with_reducible apply keeps_State_updCtx
    | with_reducible apply keeps_State_stamp
    | with_reducible apply keeps_State_restCheck
    | (with_reducible refine Keeps.foldl ?_ ?_; intro _ _ _)
    | split
    | (with_reducible refine Keeps.lit ?_; first | with_reducible assumption | with_reducible apply keeps_State_placeTask | with_reducible apply keeps_State_updCtx | with_reducible apply keeps_State_stamp | with_reducible apply keeps_State_restCheck | (with_reducible refine Keeps.foldl ?_ ?_; intro _ _ _) | split)

theorem keeps_State_holdFenced {r0 : State} {s : State} (ctx : Nat) (hk : Keeps r0 s) : Keeps r0 (State.holdFenced s ctx) := by
  unfold State.holdFenced
  repeat' first
    | with_reducible assumption
    | with_reducible apply keeps_State_report
    | with_reducible apply keeps_State_hold

theorem keeps_placement {r0 : State} {s : State} (ctx : Nat) (hk : Keeps r0 s) : Keeps r0 (placement s ctx) := by
  unfold placement
  repeat' first
    | with_reducible assumption
    | with_reducible apply keeps_State_holdFenced
    | with_reducible apply keeps_State_place
    | split
    | (with_reducible refine Keeps.lit ?_; first | with_reducible assumption | with_reducible apply keeps_State_holdFenced | with_reducible apply keeps_State_place | split)

theorem keeps_coreClearComplete {r0 : State} {s : State} (n : Nat) (hk : Keeps r0 s) : Keeps r0 (coreClearComplete s n) := by
  unfold coreClearComplete
  (try dsimp only)
  repeat' first
    | with_reducible assumption
    | with_reducible apply keeps_State_dropTileCaps
    | with_reducible apply keeps_State_updCore
    | with_reducible apply keeps_State_restCheck
    | split
    | (with_reducible refine Keeps.lit ?_; first | with_reducible assumption | with_reducible apply keeps_State_dropTileCaps | with_reducible apply keeps_State_updCore | with_reducible apply keeps_State_restCheck | split)

theorem keeps_State_beginSave {r0 : State} {s : State} (ctx : Nat) (hk : Keeps r0 s) : Keeps r0 (State.beginSave s ctx) := by
  unfold State.beginSave
  (try dsimp only)
  repeat' first
    | with_reducible assumption
    | with_reducible apply keeps_State_updCore
    | with_reducible apply keeps_State_updCtx
    | with_reducible apply keeps_State_restCheck
    | (with_reducible refine Keeps.foldl ?_ ?_; intro _ _ _)
    | split
    | (with_reducible refine Keeps.lit ?_; first | with_reducible assumption | with_reducible apply keeps_State_updCore | with_reducible apply keeps_State_updCtx | with_reducible apply keeps_State_restCheck | (with_reducible refine Keeps.foldl ?_ ?_; intro _ _ _) | split)

theorem keeps_preempt {r0 : State} {s : State} (path ctx : Nat) (hk : Keeps r0 s) : Keeps r0 (preempt s path ctx) := by
  unfold preempt
  (try dsimp only)
  repeat' first
    | with_reducible assumption
    | (with_reducible refine keeps_State_onCmd ?_ ?_; intro _ _; try dsimp only)
    | with_reducible apply keeps_State_planRefused
    | with_reducible apply keeps_State_beginSave
    | with_reducible apply keeps_State_updCtx
    | with_reducible apply keeps_State_setObj
    | split
    | (with_reducible refine Keeps.lit ?_; first | with_reducible assumption | (with_reducible refine keeps_State_onCmd ?_ ?_; intro _ _; try dsimp only) | with_reducible apply keeps_State_planRefused | with_reducible apply keeps_State_beginSave | with_reducible apply keeps_State_updCtx | with_reducible apply keeps_State_setObj | split)

theorem keeps_cancelPreempt {r0 : State} {s : State} (path ctx : Nat) (hk : Keeps r0 s) : Keeps r0 (cancelPreempt s path ctx) := by
  unfold cancelPreempt
  (try dsimp only)
  repeat' first
    | with_reducible assumption
    | with_reducible apply keeps_State_unserved
    | with_reducible apply keeps_State_dictRefuse
    | with_reducible apply keeps_State_planRefused
    | with_reducible apply keeps_State_updCore
    | with_reducible apply keeps_State_updCtx
    | with_reducible apply keeps_State_restCheck
    | with_reducible apply keeps_State_planDone
    | (with_reducible refine Keeps.foldl ?_ ?_; intro _ _ _)
    | split
    | (with_reducible refine Keeps.lit ?_; first | with_reducible assumption | with_reducible apply keeps_State_unserved | with_reducible apply keeps_State_dictRefuse | with_reducible apply keeps_State_planRefused | with_reducible apply keeps_State_updCore | with_reducible apply keeps_State_updCtx | with_reducible apply keeps_State_restCheck | with_reducible apply keeps_State_planDone | (with_reducible refine Keeps.foldl ?_ ?_; intro _ _ _) | split)

theorem keeps_saveStart {r0 : State} {s : State} (n busy : Nat) (hk : Keeps r0 s) : Keeps r0 (saveStart s n busy) := by
  unfold saveStart
  (try dsimp only)
  repeat' first
    | with_reducible assumption
    | with_reducible apply keeps_State_updCore
    | with_reducible apply keeps_State_tierLose
    | with_reducible apply keeps_State_updCtx
    | with_reducible apply keeps_State_drainMore
    | with_reducible apply keeps_State_countDrain
    | split
    | (with_reducible refine Keeps.lit ?_; first | with_reducible assumption | with_reducible apply keeps_State_updCore | with_reducible apply keeps_State_tierLose | with_reducible apply keeps_State_updCtx | with_reducible apply keeps_State_drainMore | with_reducible apply keeps_State_countDrain | split)

theorem keeps_saveComplete {r0 : State} {s : State} (ctx : Nat) (hk : Keeps r0 s) : Keeps r0 (saveComplete s ctx) := by
  unfold saveComplete
  (try dsimp only)
  repeat' first
    | with_reducible assumption
    | with_reducible apply keeps_State_leaveCore
    | with_reducible apply keeps_State_updData
    | with_reducible apply keeps_State_updCtx
    | with_reducible apply keeps_State_stamp
    | with_reducible apply keeps_State_addObj
    | with_reducible apply keeps_State_restCheck
    | with_reducible apply keeps_State_planDone
    | (with_reducible refine Keeps.foldl ?_ ?_; intro _ _ _)
    | split
    | (with_reducible refine Keeps.lit ?_; first | with_reducible assumption | with_reducible apply keeps_State_leaveCore | with_reducible apply keeps_State_updData | with_reducible apply keeps_State_updCtx | with_reducible apply keeps_State_stamp | with_reducible apply keeps_State_addObj | with_reducible apply keeps_State_restCheck | with_reducible apply keeps_State_planDone | (with_reducible refine Keeps.foldl ?_ ?_; intro _ _ _) | split)

theorem keeps_State_restoreFree {r0 : State} {s : State} (n ctx o : Nat) (hk : Keeps r0 s) : Keeps r0 (State.restoreFree s n ctx o) := by
  unfold State.restoreFree
  (try dsimp only)
  repeat' first
    | with_reducible assumption
    | with_reducible apply keeps_State_updStream
    | with_reducible apply keeps_State_updCore
    | with_reducible apply Keeps.draw
    | (with_reducible refine Keeps.foldl ?_ ?_; intro _ _ _)
    | (with_reducible refine Keeps.lit ?_; first | with_reducible assumption | with_reducible apply keeps_State_updStream | with_reducible apply keeps_State_updCore | with_reducible apply Keeps.draw | (with_reducible refine Keeps.foldl ?_ ?_; intro _ _ _))

theorem keeps_restoreComplete {r0 : State} {s : State} (n : Nat) (hk : Keeps r0 s) : Keeps r0 (restoreComplete s n) := by
  unfold restoreComplete
  (try dsimp only)
  repeat' first
    | with_reducible assumption
    | with_reducible apply keeps_State_holdShell
    | with_reducible apply keeps_State_updCore
    | with_reducible apply keeps_State_dropTileCaps
    | with_reducible apply keeps_State_restoreFree
    | with_reducible apply keeps_State_updCtx
    | with_reducible apply keeps_State_restCheck
    | split
    | (with_reducible refine Keeps.lit ?_; first | with_reducible assumption | with_reducible apply keeps_State_holdShell | with_reducible apply keeps_State_updCore | with_reducible apply keeps_State_dropTileCaps | with_reducible apply keeps_State_restoreFree | with_reducible apply keeps_State_updCtx | with_reducible apply keeps_State_restCheck | split)

theorem keeps_preemptOverrun {r0 : State} {s : State} (ctx : Nat) (hk : Keeps r0 s) : Keeps r0 (preemptOverrun s ctx) := by
  unfold preemptOverrun
  (try dsimp only)
  repeat' first
    | with_reducible assumption
    | with_reducible apply keeps_State_updCtx
    | with_reducible apply keeps_State_report
    | split
    | (with_reducible refine Keeps.lit ?_; first | with_reducible assumption | with_reducible apply keeps_State_updCtx | with_reducible apply keeps_State_report | split)

theorem keeps_sliceExpiry {r0 : State} {s : State} (ctx : Nat) (hk : Keeps r0 s) : Keeps r0 (sliceExpiry s ctx) := by
  unfold sliceExpiry
  (try dsimp only)
  repeat' first
    | with_reducible assumption
    | with_reducible apply keeps_State_updCtx
    | split
    | (with_reducible refine Keeps.lit ?_; first | with_reducible assumption | with_reducible apply keeps_State_updCtx | split)

theorem keeps_State_placeAll {r0 s : State} (k : Nat) (hk : Keeps r0 s) : Keeps r0 (s.placeAll k) := by
  induction k generalizing s with
  | zero => exact hk
  | succ k ih =>
    unfold State.placeAll
    split
    · exact ih (keeps_State_place _ _ hk)
    · exact hk

theorem keeps_schedulerEvaluate {r0 : State} {s : State} (hk : Keeps r0 s) : Keeps r0 (schedulerEvaluate s) := by
  unfold schedulerEvaluate
  (try dsimp only)
  repeat' first
    | with_reducible assumption
    | with_reducible apply keeps_State_beginSave
    | with_reducible apply keeps_State_placeAll
    | (with_reducible refine Keeps.foldl ?_ ?_; intro _ _ _)
    | split

theorem keeps_resumePlan {r0 : State} {s : State} (path ctx : Nat) (hk : Keeps r0 s) : Keeps r0 (resumePlan s path ctx) := by
  unfold resumePlan
  (try dsimp only)
  repeat' first
    | with_reducible assumption
    | (with_reducible refine keeps_State_onCmd ?_ ?_; intro _ _; try dsimp only)
    | with_reducible apply keeps_State_planRefused
    | with_reducible apply keeps_State_updCtx
    | with_reducible apply keeps_State_planDone
    | with_reducible apply keeps_State_report
    | with_reducible apply keeps_State_hold
    | split
    | (with_reducible refine Keeps.lit ?_; first | with_reducible assumption | (with_reducible refine keeps_State_onCmd ?_ ?_; intro _ _; try dsimp only) | with_reducible apply keeps_State_planRefused | with_reducible apply keeps_State_updCtx | with_reducible apply keeps_State_planDone | with_reducible apply keeps_State_report | with_reducible apply keeps_State_hold | split)

theorem keeps_clearPlacement {r0 : State} {s : State} (path ctx : Nat) (hk : Keeps r0 s) : Keeps r0 (clearPlacement s path ctx) := by
  unfold clearPlacement
  (try dsimp only)
  repeat' first
    | with_reducible assumption
    | (with_reducible refine keeps_State_onCmd ?_ ?_; intro _ _; try dsimp only)
    | with_reducible apply keeps_State_planRefused
    | with_reducible apply keeps_State_updCtx
    | with_reducible apply keeps_State_planDone
    | split
    | (with_reducible refine Keeps.lit ?_; first | with_reducible assumption | (with_reducible refine keeps_State_onCmd ?_ ?_; intro _ _; try dsimp only) | with_reducible apply keeps_State_planRefused | with_reducible apply keeps_State_updCtx | with_reducible apply keeps_State_planDone | split)

theorem keeps_tallyClear {r0 : State} {s : State} (path ctx : Nat) (hk : Keeps r0 s) : Keeps r0 (tallyClear s path ctx) := by
  unfold tallyClear
  (try dsimp only)
  repeat' first
    | with_reducible assumption
    | (with_reducible refine keeps_State_onCmd ?_ ?_; intro _ _; try dsimp only)
    | with_reducible apply keeps_State_setObj
    | (with_reducible refine Keeps.foldl ?_ ?_; intro _ _ _)

theorem keeps_commandComplete {r0 : State} {s : State} (id : Nat) (hk : Keeps r0 s) : Keeps r0 (commandComplete s id) := by
  unfold commandComplete
  (try dsimp only)
  repeat' first
    | with_reducible assumption
    | with_reducible apply keeps_State_engineDone
    | with_reducible apply keeps_State_addObj
    | with_reducible apply keeps_State_complete
    | split
    | (with_reducible refine Keeps.lit ?_; first | with_reducible assumption | with_reducible apply keeps_State_engineDone | with_reducible apply keeps_State_addObj | with_reducible apply keeps_State_complete | split)

theorem keeps_State_wake {r0 : State} {s : State} (p : Post) (hk : Keeps r0 s) : Keeps r0 (State.wake s p) := by
  unfold State.wake
  repeat' first
    | with_reducible assumption
    | with_reducible apply keeps_State_wakeYarder
    | with_reducible apply keeps_State_wakeSequencer

theorem keeps_tokenArrival {r0 : State} {s : State} (i : Nat) (hk : Keeps r0 s) : Keeps r0 (tokenArrival s i) := by
  unfold tokenArrival
  repeat' first
    | with_reducible assumption
    | with_reducible apply keeps_postArrival
    | with_reducible apply keeps_State_wake
    | split
    | (with_reducible refine Keeps.lit ?_; first | with_reducible assumption | with_reducible apply keeps_postArrival | with_reducible apply keeps_State_wake | split)

theorem keeps_creditArrival {r0 : State} {s : State} (i : Nat) (hk : Keeps r0 s) : Keeps r0 (creditArrival s i) := by
  unfold creditArrival
  repeat' first
    | with_reducible assumption
    | with_reducible apply keeps_creditReturn
    | with_reducible apply keeps_State_wake
    | split
    | (with_reducible refine Keeps.lit ?_; first | with_reducible assumption | with_reducible apply keeps_creditReturn | with_reducible apply keeps_State_wake | split)

end Sys2Proof.Machine
end

