-- ==== Sys2Proof/Laws/Keeps4.lean ====
section
/-!
SUPPORT. What every operation of the machine keeps: resets, power and start-up.
-/

set_option linter.all false

namespace Sys2Proof.Machine

theorem keeps_State_startDump {r0 : State} {s : State} (cause num : Nat) (hk : Keeps r0 s) : Keeps r0 (State.startDump s cause num) := by
  unfold State.startDump
  (try dsimp only)
  repeat' first
    | with_reducible assumption
    | with_reducible apply keeps_State_seed
    | with_reducible apply keeps_State_addObj
    | split
    | (with_reducible refine Keeps.lit ?_; first | with_reducible assumption | with_reducible apply keeps_State_seed | with_reducible apply keeps_State_addObj | split)

theorem keeps_dumpCmd {r0 : State} {s : State} (path v : Nat) (hk : Keeps r0 s) : Keeps r0 (dumpCmd s path v) := by
  unfold dumpCmd
  (try dsimp only)
  repeat' first
    | with_reducible assumption
    | (with_reducible refine keeps_State_onCmd ?_ ?_; intro _ _; try dsimp only)
    | with_reducible apply keeps_State_dictRefuse
    | with_reducible apply keeps_State_setObj
    | with_reducible apply keeps_State_startDump
    | split

theorem keeps_observationTimeout {r0 : State} {s : State} (node ctx read : Nat) (hk : Keeps r0 s) : Keeps r0 (observationTimeout s node ctx read) := by
  unfold observationTimeout
  (try dsimp only)
  repeat' first
    | with_reducible assumption
    | with_reducible apply keeps_State_report
    | split
    | (with_reducible refine Keeps.lit ?_; first | with_reducible assumption | with_reducible apply keeps_State_report | split)

theorem keeps_dumpRelease {r0 : State} {s : State} (path v : Nat) (hk : Keeps r0 s) : Keeps r0 (dumpRelease s path v) := by
  unfold dumpRelease
  (try dsimp only)
  repeat' first
    | with_reducible assumption
    | (with_reducible refine keeps_State_onCmd ?_ ?_; intro _ _; try dsimp only)
    | with_reducible apply keeps_State_dictRefuse
    | with_reducible apply keeps_State_setObj
    | split
    | (with_reducible refine Keeps.lit ?_; first | with_reducible assumption | (with_reducible refine keeps_State_onCmd ?_ ?_; intro _ _; try dsimp only) | with_reducible apply keeps_State_dictRefuse | with_reducible apply keeps_State_setObj | split)

theorem keeps_State_snagSample {r0 : State} {s : State} (hk : Keeps r0 s) : Keeps r0 (State.snagSample s) := by
  unfold State.snagSample
  (try dsimp only)
  repeat' first
    | with_reducible assumption
    | (with_reducible refine Keeps.lit ?_; first | with_reducible assumption)

theorem keeps_snagDeclare {r0 : State} {s : State} (cycle : List Node) (hk : Keeps r0 s) : Keeps r0 (snagDeclare s cycle) := by
  unfold snagDeclare
  (try dsimp only)
  repeat' first
    | with_reducible assumption
    | with_reducible apply keeps_State_noteReplay
    | with_reducible apply keeps_State_hold
    | with_reducible apply keeps_State_report
    | with_reducible apply keeps_State_setObj
    | with_reducible apply keeps_State_setFlag
    | with_reducible apply keeps_State_signal
    | with_reducible apply keeps_State_startDump
    | (with_reducible refine Keeps.foldl ?_ ?_; intro _ _ _)
    | split
    | (with_reducible refine Keeps.lit ?_; first | with_reducible assumption | with_reducible apply keeps_State_noteReplay | with_reducible apply keeps_State_hold | with_reducible apply keeps_State_report | with_reducible apply keeps_State_setObj | with_reducible apply keeps_State_setFlag | with_reducible apply keeps_State_signal | with_reducible apply keeps_State_startDump | (with_reducible refine Keeps.foldl ?_ ?_; intro _ _ _) | split)

theorem keeps_replayStart {r0 : State} {s : State} (path : Nat) (hk : Keeps r0 s) : Keeps r0 (replayStart s path) := by
  unfold replayStart
  (try dsimp only)
  repeat' first
    | with_reducible assumption
    | (with_reducible refine keeps_State_onCmd ?_ ?_; intro _ _; try dsimp only)
    | with_reducible apply keeps_State_setObj
    | split
    | (with_reducible refine Keeps.lit ?_; first | with_reducible assumption | (with_reducible refine keeps_State_onCmd ?_ ?_; intro _ _; try dsimp only) | with_reducible apply keeps_State_setObj | split)

theorem keeps_replayEnd {r0 : State} {s : State} (path : Nat) (hk : Keeps r0 s) : Keeps r0 (replayEnd s path) := by
  unfold replayEnd
  (try dsimp only)
  repeat' first
    | with_reducible assumption
    | (with_reducible refine keeps_State_onCmd ?_ ?_; intro _ _; try dsimp only)
    | with_reducible apply keeps_State_setObj
    | split
    | (with_reducible refine Keeps.lit ?_; first | with_reducible assumption | (with_reducible refine keeps_State_onCmd ?_ ?_; intro _ _; try dsimp only) | with_reducible apply keeps_State_setObj | split)

theorem keeps_State_loseLanding {r0 s : State} (hk : Keeps r0 s) : Keeps r0 (s.loseLanding) :=
  (keeps_State_seed hk).setLanding _ (fun h => Mem.lose_wf _ _ _ ((memWf_iff _).1 h).1)

theorem keeps_State_stopCmd {r0 : State} {s : State} (k : Nat) (hk : Keeps r0 s) : Keeps r0 (State.stopCmd s k) := by
  unfold State.stopCmd
  repeat' first
    | with_reducible assumption
    | with_reducible apply keeps_State_setObj
    | split

theorem keeps_State_homeLose {r0 s : State} (a n k : Nat) (hk : Keeps r0 s) : Keeps r0 (s.homeLose a n k) := by
  induction k generalizing s a n with
  | zero => exact hk
  | succ k ih =>
    unfold State.homeLose
    split
    · exact hk
    · dsimp only
      refine ih _ _ ?_
      have hd := keeps_State_seed hk
      split
      · exact hd.setDdr _ (fun h => Mem.lose_wf _ _ _ ((memWf_iff _).1 h).2.1)
      · exact hd

theorem keeps_State_tear {r0 : State} {s : State} (g : Granule) (hk : Keeps r0 s) : Keeps r0 (State.tear s g) := by
  unfold State.tear
  (try dsimp only)
  repeat' first
    | with_reducible assumption
    | with_reducible apply keeps_State_updGran
    | with_reducible apply keeps_State_homeLose
    | split
    | (with_reducible refine Keeps.lit ?_; first | with_reducible assumption | with_reducible apply keeps_State_updGran | with_reducible apply keeps_State_homeLose | split)

theorem keeps_State_dropGranules {r0 : State} {s : State} (qs : List Nat) (reset : Bool) (hk : Keeps r0 s) : Keeps r0 (State.dropGranules s qs reset) := by
  unfold State.dropGranules
  (try dsimp only)
  repeat' first
    | with_reducible assumption
    | with_reducible apply keeps_State_updGran
    | with_reducible apply keeps_State_addObj
    | with_reducible apply keeps_State_tear
    | (with_reducible refine Keeps.foldl ?_ ?_; intro _ _ _)
    | split
    | (with_reducible refine Keeps.lit ?_; first | with_reducible assumption | with_reducible apply keeps_State_updGran | with_reducible apply keeps_State_addObj | with_reducible apply keeps_State_tear | (with_reducible refine Keeps.foldl ?_ ?_; intro _ _ _) | split)

theorem keeps_State_dieReset {r0 : State} {s : State} (hk : Keeps r0 s) : Keeps r0 (State.dieReset s) := by
  unfold State.dieReset
  (try dsimp only)
  repeat' first
    | with_reducible assumption
    | with_reducible apply keeps_State_dropGranules
    | with_reducible apply keeps_State_stepEnd
    | with_reducible apply keeps_State_addObj
    | with_reducible apply keeps_State_stopCmd
    | with_reducible apply keeps_State_loseLanding
    | (with_reducible refine Keeps.foldl ?_ ?_; intro _ _ _)
    | (with_reducible refine Keeps.lit ?_; first | with_reducible assumption | with_reducible apply keeps_State_dropGranules | with_reducible apply keeps_State_stepEnd | with_reducible apply keeps_State_addObj | with_reducible apply keeps_State_stopCmd | with_reducible apply keeps_State_loseLanding | (with_reducible refine Keeps.foldl ?_ ?_; intro _ _ _))

theorem keeps_State_moduleReset {r0 s : State} (cause : Nat) (hk : Keeps r0 s) : Keeps r0 (s.moduleReset cause) := by
  unfold State.moduleReset
  refine keeps_State_setObj _ _ ⟨hk.pending, hk.out, hk.free, hk.nextId, fun h => ?_, hk.bank⟩
  have w := (memWf_iff s).1 (hk.mem h)
  exact (memWf_iff _).2 ⟨rfl, rfl, w.2.2.1, w.2.2.2⟩

theorem keeps_fbRequest {r0 : State} {s : State} (path code : Nat) (hk : Keeps r0 s) : Keeps r0 (fbRequest s path code) := by
  unfold fbRequest
  (try dsimp only)
  repeat' first
    | with_reducible assumption
    | with_reducible apply keeps_State_unserved
    | with_reducible apply keeps_State_dictRefuse
    | with_reducible apply keeps_State_setObj
    | with_reducible apply keeps_State_startDump
    | split
    | (with_reducible refine Keeps.lit ?_; first | with_reducible assumption | with_reducible apply keeps_State_unserved | with_reducible apply keeps_State_dictRefuse | with_reducible apply keeps_State_setObj | with_reducible apply keeps_State_startDump | split)

theorem keeps_State_breakAll {r0 : State} {s : State} (code unit : Nat) (hk : Keeps r0 s) : Keeps r0 (State.breakAll s code unit) := by
  unfold State.breakAll
  (try dsimp only)
  repeat' first
    | with_reducible assumption
    | with_reducible apply keeps_State_updCtx
    | with_reducible apply keeps_State_hold
    | (with_reducible refine Keeps.foldl ?_ ?_; intro _ _ _)
    | split
    | (with_reducible refine Keeps.lit ?_; first | with_reducible assumption | with_reducible apply keeps_State_updCtx | with_reducible apply keeps_State_hold | (with_reducible refine Keeps.foldl ?_ ?_; intro _ _ _) | split)

theorem keeps_State_stopMover {r0 : State} {s : State} (f : Flight) (hk : Keeps r0 s) : Keeps r0 (State.stopMover s f) := by
  unfold State.stopMover
  (try dsimp only)
  repeat' first
    | with_reducible assumption
    | with_reducible apply keeps_State_updRegion
    | with_reducible apply keeps_State_setFrame
    | with_reducible apply keeps_State_tierLose
    | (with_reducible refine Keeps.foldl ?_ ?_; intro _ _ _)
    | split
    | (with_reducible refine Keeps.lit ?_; first | with_reducible assumption | with_reducible apply keeps_State_updRegion | with_reducible apply keeps_State_setFrame | with_reducible apply keeps_State_tierLose | (with_reducible refine Keeps.foldl ?_ ?_; intro _ _ _) | split)

theorem keeps_State_dropFlights {r0 : State} {s : State} (p : Flight → Bool) (hk : Keeps r0 s) : Keeps r0 (State.dropFlights s p) := by
  unfold State.dropFlights
  (try dsimp only)
  repeat' first
    | with_reducible assumption
    | with_reducible apply keeps_State_endFlight
    | (with_reducible refine Keeps.foldl ?_ ?_; intro _ _ _)

theorem keeps_State_clearShell {r0 : State} {s : State} (owner : Nat) (hk : Keeps r0 s) : Keeps r0 (State.clearShell s owner) := by
  unfold State.clearShell
  (try dsimp only)
  repeat' first
    | with_reducible assumption
    | (with_reducible refine Keeps.lit ?_; first | with_reducible assumption)

theorem keeps_State_resetCore {r0 : State} {s : State} (n : Nat) (hk : Keeps r0 s) : Keeps r0 (State.resetCore s n) := by
  unfold State.resetCore
  (try dsimp only)
  repeat' first
    | with_reducible assumption
    | with_reducible apply keeps_State_dropFlights
    | with_reducible apply keeps_State_updCtx
    | split
    | (with_reducible refine Keeps.lit ?_; first | with_reducible assumption | with_reducible apply keeps_State_dropFlights | with_reducible apply keeps_State_updCtx | split)

theorem keeps_State_resetCluster {r0 : State} {s : State} (c : Nat) (hk : Keeps r0 s) : Keeps r0 (State.resetCluster s c) := by
  unfold State.resetCluster
  (try dsimp only)
  repeat' first
    | with_reducible assumption
    | with_reducible apply keeps_State_abortStand
    | with_reducible apply keeps_State_stopMover
    | with_reducible apply keeps_State_dropFlights
    | with_reducible apply keeps_State_clearShell
    | with_reducible apply keeps_State_resetCore
    | (with_reducible refine Keeps.foldl ?_ ?_; intro _ _ _)
    | (with_reducible refine Keeps.lit ?_; first | with_reducible assumption | with_reducible apply keeps_State_abortStand | with_reducible apply keeps_State_stopMover | with_reducible apply keeps_State_dropFlights | with_reducible apply keeps_State_clearShell | with_reducible apply keeps_State_resetCore | (with_reducible refine Keeps.foldl ?_ ?_; intro _ _ _))

theorem keeps_State_dropRequests {r0 : State} {s : State} (qs : List Nat) (hk : Keeps r0 s) : Keeps r0 (State.dropRequests s qs) := by
  unfold State.dropRequests
  (try dsimp only)
  repeat' first
    | with_reducible assumption
    | with_reducible apply keeps_State_stopMover
    | with_reducible apply keeps_State_endFlight
    | with_reducible apply keeps_State_holdShell
    | (with_reducible refine Keeps.foldl ?_ ?_; intro _ _ _)

theorem keeps_State_retrainCleared {r0 : State} {s : State} (n : Nat) (hk : Keeps r0 s) : Keeps r0 (State.retrainCleared s n) := by
  unfold State.retrainCleared
  (try dsimp only)
  repeat' first
    | with_reducible assumption
    | with_reducible apply keeps_State_updLink
    | with_reducible apply keeps_State_startRetrain
    | split
    | (with_reducible refine Keeps.lit ?_; first | with_reducible assumption | with_reducible apply keeps_State_updLink | with_reducible apply keeps_State_startRetrain | split)

theorem keeps_State_resetStack {r0 : State} {s : State} (hk : Keeps r0 s) : Keeps r0 (State.resetStack s) := by
  unfold State.resetStack
  (try dsimp only)
  repeat' first
    | with_reducible assumption
    | with_reducible apply keeps_State_dropRequests
    | with_reducible apply keeps_State_resetCluster
    | with_reducible apply keeps_State_dropGranules
    | with_reducible apply keeps_State_loseLanding
    | with_reducible apply keeps_State_retrainCleared
    | (with_reducible refine Keeps.foldl ?_ ?_; intro _ _ _)
    | split
    | (with_reducible refine Keeps.lit ?_; first | with_reducible assumption | with_reducible apply keeps_State_dropRequests | with_reducible apply keeps_State_resetCluster | with_reducible apply keeps_State_dropGranules | with_reducible apply keeps_State_loseLanding | with_reducible apply keeps_State_retrainCleared | (with_reducible refine Keeps.foldl ?_ ?_; intro _ _ _) | split)

theorem keeps_State_resetLink {r0 : State} {s : State} (n : Nat) (hk : Keeps r0 s) : Keeps r0 (State.resetLink s n) := by
  unfold State.resetLink
  (try dsimp only)
  repeat' first
    | with_reducible assumption
    | with_reducible apply keeps_State_updLink
    | (with_reducible refine Keeps.lit ?_; first | with_reducible assumption | with_reducible apply keeps_State_updLink)

theorem keeps_State_resetPlane {r0 : State} {s : State} (p : Nat) (hk : Keeps r0 s) : Keeps r0 (State.resetPlane s p) := by
  unfold State.resetPlane
  repeat' first
    | with_reducible assumption
    | with_reducible apply keeps_State_abortPlane
    | with_reducible apply keeps_State_resetLink

theorem keeps_State_resetPlaner {r0 : State} {s : State} (q : Nat) (hk : Keeps r0 s) : Keeps r0 (State.resetPlaner s q) := by
  unfold State.resetPlaner
  (try dsimp only)
  repeat' first
    | with_reducible assumption
    | with_reducible apply keeps_State_dropRequests
    | with_reducible apply keeps_State_dropGranules
    | with_reducible apply keeps_State_resetLink
    | with_reducible apply keeps_State_clearShell
    | (with_reducible refine Keeps.lit ?_; first | with_reducible assumption | with_reducible apply keeps_State_dropRequests | with_reducible apply keeps_State_dropGranules | with_reducible apply keeps_State_resetLink | with_reducible apply keeps_State_clearShell)

theorem keeps_State_resetUnits {r0 : State} {s : State} (code unit : Nat) (hk : Keeps r0 s) : Keeps r0 (State.resetUnits s code unit) := by
  unfold State.resetUnits
  repeat' first
    | with_reducible assumption
    | with_reducible apply keeps_State_resetCore
    | with_reducible apply keeps_State_resetCluster
    | with_reducible apply keeps_State_resetStack
    | with_reducible apply keeps_State_resetPlane
    | with_reducible apply keeps_State_resetPlaner
    | with_reducible apply keeps_State_dieReset
    | split
    | (with_reducible refine Keeps.lit ?_; first | with_reducible assumption | with_reducible apply keeps_State_resetCore | with_reducible apply keeps_State_resetCluster | with_reducible apply keeps_State_resetStack | with_reducible apply keeps_State_resetPlane | with_reducible apply keeps_State_resetPlaner | with_reducible apply keeps_State_dieReset | split)

theorem keeps_firebreakReset {r0 : State} {s : State} (hk : Keeps r0 s) : Keeps r0 (firebreakReset s) := by
  unfold firebreakReset
  (try dsimp only)
  repeat' first
    | with_reducible assumption
    | with_reducible apply keeps_State_addObj
    | with_reducible apply keeps_State_moduleReset
    | with_reducible apply keeps_State_setObj
    | with_reducible apply keeps_State_breakAll
    | with_reducible apply keeps_State_resetUnits
    | with_reducible apply keeps_State_report
    | split
    | (with_reducible refine Keeps.lit ?_; first | with_reducible assumption | with_reducible apply keeps_State_addObj | with_reducible apply keeps_State_moduleReset | with_reducible apply keeps_State_setObj | with_reducible apply keeps_State_breakAll | with_reducible apply keeps_State_resetUnits | with_reducible apply keeps_State_report | split)

theorem keeps_firebreakComplete {r0 : State} {s : State} (hk : Keeps r0 s) : Keeps r0 (firebreakComplete s) := by
  unfold firebreakComplete
  (try dsimp only)
  repeat' first
    | with_reducible assumption
    | with_reducible apply keeps_State_setObj
    | split
    | (with_reducible refine Keeps.lit ?_; first | with_reducible assumption | with_reducible apply keeps_State_setObj | split)

theorem keeps_State_latchFault {r0 : State} {s : State} (code detail : Nat) (hk : Keeps r0 s) : Keeps r0 (State.latchFault s code detail) := by
  unfold State.latchFault
  (try dsimp only)
  repeat' first
    | with_reducible assumption
    | with_reducible apply keeps_State_addObj
    | split
    | (with_reducible refine Keeps.lit ?_; first | with_reducible assumption | with_reducible apply keeps_State_addObj | split)

theorem keeps_State_lookoutFault {r0 : State} {s : State} (code detail : Nat) (hk : Keeps r0 s) : Keeps r0 (State.lookoutFault s code detail) := by
  unfold State.lookoutFault
  repeat' first
    | with_reducible assumption
    | with_reducible apply keeps_State_report
    | with_reducible apply keeps_State_latchFault
    | split

theorem keeps_State_raiseLatched {r0 : State} {s : State} (hk : Keeps r0 s) : Keeps r0 (State.raiseLatched s) := by
  unfold State.raiseLatched
  (try dsimp only)
  repeat' first
    | with_reducible assumption
    | with_reducible apply keeps_State_report
    | (with_reducible refine Keeps.foldl ?_ ?_; intro _ _ _)
    | (with_reducible refine Keeps.lit ?_; first | with_reducible assumption | with_reducible apply keeps_State_report | (with_reducible refine Keeps.foldl ?_ ?_; intro _ _ _))

theorem keeps_State_gateOff {r0 : State} {s : State} (d : Nat) (hk : Keeps r0 s) : Keeps r0 (State.gateOff s d) := by
  unfold State.gateOff
  (try dsimp only)
  repeat' first
    | with_reducible assumption
    | with_reducible apply keeps_State_setObj
    | split
    | (with_reducible refine Keeps.lit ?_; first | with_reducible assumption | with_reducible apply keeps_State_setObj | split)

theorem keeps_coreGateOff {r0 : State} {s : State} (n : Nat) (hk : Keeps r0 s) : Keeps r0 (coreGateOff s n) := by
  unfold coreGateOff
  (try dsimp only)
  repeat' first
    | with_reducible assumption
    | with_reducible apply keeps_State_gateOff
    | split
    | (with_reducible refine Keeps.lit ?_; first | with_reducible assumption | with_reducible apply keeps_State_gateOff | split)

theorem keeps_clusterGateOff {r0 : State} {s : State} (c : Nat) (hk : Keeps r0 s) : Keeps r0 (clusterGateOff s c) := by
  unfold clusterGateOff
  (try dsimp only)
  repeat' first
    | with_reducible assumption
    | with_reducible apply keeps_State_gateOff
    | split

theorem keeps_domainPowerOnComplete {r0 : State} {s : State} (d : Nat) (hk : Keeps r0 s) : Keeps r0 (domainPowerOnComplete s d) := by
  unfold domainPowerOnComplete
  (try dsimp only)
  repeat' first
    | with_reducible assumption
    | with_reducible apply keeps_State_setObj
    | split
    | (with_reducible refine Keeps.lit ?_; first | with_reducible assumption | with_reducible apply keeps_State_setObj | split)

theorem keeps_State_powerRefused {r0 : State} {s : State} (r : Nat) (hk : Keeps r0 s) : Keeps r0 (State.powerRefused s r) := by
  unfold State.powerRefused
  repeat' first
    | with_reducible assumption
    | with_reducible apply keeps_State_setObj

theorem keeps_powerEntry {r0 : State} {s : State} (path target : Nat) (hk : Keeps r0 s) : Keeps r0 (powerEntry s path target) := by
  unfold powerEntry
  (try dsimp only)
  repeat' first
    | with_reducible assumption
    | (with_reducible refine keeps_State_onCmd ?_ ?_; intro _ _; try dsimp only)
    | with_reducible apply keeps_State_powerRefused
    | with_reducible apply keeps_State_setObj
    | split
    | (with_reducible refine Keeps.lit ?_; first | with_reducible assumption | (with_reducible refine keeps_State_onCmd ?_ ?_; intro _ _; try dsimp only) | with_reducible apply keeps_State_powerRefused | with_reducible apply keeps_State_setObj | split)

theorem keeps_powerCmdRun {r0 : State} {s : State} (path : Nat) (hk : Keeps r0 s) : Keeps r0 (powerCmdRun s path) := by
  unfold powerCmdRun
  (try dsimp only)
  repeat' first
    | with_reducible assumption
    | (with_reducible refine keeps_State_onCmd ?_ ?_; intro _ _; try dsimp only)
    | with_reducible apply keeps_State_powerRefused
    | with_reducible apply keeps_State_setObj
    | with_reducible apply keeps_State_beginExit
    | split

theorem keeps_State_linksDown {r0 : State} {s : State} (hk : Keeps r0 s) : Keeps r0 (State.linksDown s) := by
  unfold State.linksDown
  (try dsimp only)
  repeat' first
    | with_reducible assumption
    | with_reducible apply keeps_State_updLink
    | with_reducible apply keeps_State_showLanes
    | with_reducible apply keeps_State_endLinkCmd
    | (with_reducible refine Keeps.foldl ?_ ?_; intro _ _ _)
    | split

theorem keeps_State_dieOff {r0 : State} {s : State} (hk : Keeps r0 s) : Keeps r0 (State.dieOff s) := by
  unfold State.dieOff
  (try dsimp only)
  repeat' first
    | with_reducible assumption
    | with_reducible apply keeps_State_linksDown
    | (with_reducible refine Keeps.lit ?_; first | with_reducible assumption | with_reducible apply keeps_State_linksDown)

theorem keeps_State_startSurvey {r0 : State} {s : State} (hk : Keeps r0 s) : Keeps r0 (State.startSurvey s) := by
  unfold State.startSurvey
  (try dsimp only)
  repeat' first
    | with_reducible assumption
    | with_reducible apply keeps_State_turnOn
    | split
    | (with_reducible refine Keeps.lit ?_; first | with_reducible assumption | with_reducible apply keeps_State_turnOn | split)

theorem keeps_powerTransitionComplete {r0 : State} {s : State} (hk : Keeps r0 s) : Keeps r0 (powerTransitionComplete s) := by
  unfold powerTransitionComplete
  (try dsimp only)
  repeat' first
    | with_reducible assumption
    | with_reducible apply keeps_State_setObj
    | with_reducible apply keeps_State_bumpFence
    | with_reducible apply keeps_State_dieReset
    | with_reducible apply keeps_State_raiseLatched
    | with_reducible apply keeps_State_report
    | with_reducible apply keeps_State_startSurvey
    | with_reducible apply keeps_State_dieOff
    | with_reducible apply keeps_State_loseLanding
    | with_reducible apply keeps_State_beginExit
    | (with_reducible refine Keeps.foldl ?_ ?_; intro _ _ _)
    | split
    | (with_reducible refine Keeps.lit ?_; first | with_reducible assumption | with_reducible apply keeps_State_setObj | with_reducible apply keeps_State_bumpFence | with_reducible apply keeps_State_dieReset | with_reducible apply keeps_State_raiseLatched | with_reducible apply keeps_State_report | with_reducible apply keeps_State_startSurvey | with_reducible apply keeps_State_dieOff | with_reducible apply keeps_State_loseLanding | with_reducible apply keeps_State_beginExit | (with_reducible refine Keeps.foldl ?_ ?_; intro _ _ _) | split)

theorem keeps_State_countTrip {r0 : State} {s : State} (rail : Nat) (hk : Keeps r0 s) : Keeps r0 (State.countTrip s rail) := by
  unfold State.countTrip
  repeat' first
    | with_reducible assumption
    | with_reducible apply keeps_State_addObj
    | split

theorem keeps_State_trip {r0 : State} {s : State} (code rail sensor : Nat) (hk : Keeps r0 s) : Keeps r0 (State.trip s code rail sensor) := by
  unfold State.trip
  (try dsimp only)
  repeat' first
    | with_reducible assumption
    | with_reducible apply keeps_State_setObj
    | with_reducible apply keeps_State_latchFault
    | with_reducible apply keeps_State_stopCmd
    | with_reducible apply keeps_State_dieOff
    | with_reducible apply keeps_State_loseLanding
    | (with_reducible refine Keeps.lit ?_; first | with_reducible assumption | with_reducible apply keeps_State_setObj | with_reducible apply keeps_State_latchFault | with_reducible apply keeps_State_stopCmd | with_reducible apply keeps_State_dieOff | with_reducible apply keeps_State_loseLanding)

theorem keeps_overcurrentTrip {r0 : State} {s : State} (rail phase : Nat) (hk : Keeps r0 s) : Keeps r0 (overcurrentTrip s rail phase) := by
  unfold overcurrentTrip
  repeat' first
    | with_reducible assumption
    | with_reducible apply keeps_State_countTrip
    | with_reducible apply keeps_State_trip
    | split

theorem keeps_State_powerDown {r0 : State} {s : State} (hk : Keeps r0 s) : Keeps r0 (State.powerDown s) := by
  unfold State.powerDown
  (try dsimp only)
  repeat' first
    | with_reducible assumption
    | with_reducible apply keeps_State_moduleReset
    | (with_reducible refine Keeps.lit ?_; first | with_reducible assumption | with_reducible apply keeps_State_moduleReset)

theorem keeps_powerStageShutdown {r0 : State} {s : State} (rail : Nat) (hk : Keeps r0 s) : Keeps r0 (powerStageShutdown s rail) := by
  unfold powerStageShutdown
  (try dsimp only)
  repeat' first
    | with_reducible assumption
    | with_reducible apply keeps_State_powerDown
    | split
    | (with_reducible refine Keeps.lit ?_; first | with_reducible assumption | with_reducible apply keeps_State_powerDown | split)

theorem keeps_inputPowerLoss {r0 : State} {s : State} (hk : Keeps r0 s) : Keeps r0 (inputPowerLoss s) := by
  unfold inputPowerLoss
  repeat' first
    | with_reducible assumption
    | with_reducible apply keeps_State_powerDown
    | split

theorem keeps_powerOn {r0 : State} {s : State} (hk : Keeps r0 s) : Keeps r0 (powerOn s) := by
  unfold powerOn
  (try dsimp only)
  repeat' first
    | with_reducible assumption
    | split
    | (with_reducible refine Keeps.lit ?_; first | with_reducible assumption | split)

theorem keeps_inputVoltage {r0 : State} {s : State} (mv : Nat) (hk : Keeps r0 s) : Keeps r0 (inputVoltage s mv) := by
  unfold inputVoltage
  (try dsimp only)
  repeat' first
    | with_reducible assumption
    | with_reducible apply keeps_inputPowerLoss
    | with_reducible apply keeps_State_lookoutFault
    | split
    | (with_reducible refine Keeps.lit ?_; first | with_reducible assumption | with_reducible apply keeps_inputPowerLoss | with_reducible apply keeps_State_lookoutFault | split)

theorem keeps_State_setI32 {r0 : State} {s : State} (k : Nat) (v : Int) (hk : Keeps r0 s) : Keeps r0 (State.setI32 s k v) := by
  unfold State.setI32
  repeat' first
    | with_reducible assumption
    | with_reducible apply keeps_State_setObj

theorem keeps_State_showDiode {r0 : State} {s : State} (k : Nat) (hk : Keeps r0 s) : Keeps r0 (State.showDiode s k) := by
  unfold State.showDiode
  (try dsimp only)
  repeat' first
    | with_reducible assumption
    | with_reducible apply keeps_State_setI32
    | with_reducible apply keeps_State_setObj
    | split
    | (with_reducible refine Keeps.lit ?_; first | with_reducible assumption | with_reducible apply keeps_State_setI32 | with_reducible apply keeps_State_setObj | split)

theorem keeps_State_showSensor {r0 : State} {s : State} (k : Nat) (hk : Keeps r0 s) : Keeps r0 (State.showSensor s k) := by
  unfold State.showSensor
  (try dsimp only)
  repeat' first
    | with_reducible assumption
    | with_reducible apply keeps_State_showDiode
    | with_reducible apply keeps_State_setI32
    | with_reducible apply keeps_State_setObj
    | split

theorem keeps_State_warn {r0 : State} {s : State} (k : Nat) (hk : Keeps r0 s) : Keeps r0 (State.warn s k) := by
  unfold State.warn
  (try dsimp only)
  repeat' first
    | with_reducible assumption
    | with_reducible apply keeps_State_lookoutFault
    | split
    | (with_reducible refine Keeps.lit ?_; first | with_reducible assumption | with_reducible apply keeps_State_lookoutFault | split)

theorem keeps_sensorSample {r0 : State} {s : State} (k : Nat) (raw : Int) (hk : Keeps r0 s) : Keeps r0 (sensorSample s k raw) := by
  unfold sensorSample
  (try dsimp only)
  repeat' first
    | with_reducible assumption
    | with_reducible apply keeps_State_showSensor
    | with_reducible apply keeps_State_warn
    | with_reducible apply keeps_State_trip
    | split
    | (with_reducible refine Keeps.lit ?_; first | with_reducible assumption | with_reducible apply keeps_State_showSensor | with_reducible apply keeps_State_warn | with_reducible apply keeps_State_trip | split)

theorem keeps_pllLossOfLock {r0 : State} {s : State} (pll : Nat) (hk : Keeps r0 s) : Keeps r0 (pllLossOfLock s pll) := by
  unfold pllLossOfLock
  (try dsimp only)
  repeat' first
    | with_reducible assumption
    | with_reducible apply keeps_State_addObj
    | with_reducible apply keeps_State_faultLink
    | split
    | (with_reducible refine Keeps.lit ?_; first | with_reducible assumption | with_reducible apply keeps_State_addObj | with_reducible apply keeps_State_faultLink | split)

theorem keeps_pllRelock {r0 : State} {s : State} (pll : Nat) (hk : Keeps r0 s) : Keeps r0 (pllRelock s pll) := by
  unfold pllRelock
  (try dsimp only)
  repeat' first
    | with_reducible assumption
    | split
    | (with_reducible refine Keeps.lit ?_; first | with_reducible assumption | split)

theorem keeps_refclkStop {r0 : State} {s : State} (hk : Keeps r0 s) : Keeps r0 (refclkStop s) := by
  unfold refclkStop
  (try dsimp only)
  repeat' first
    | with_reducible assumption
    | (with_reducible refine Keeps.lit ?_; first | with_reducible assumption)

theorem keeps_refclkReturn {r0 : State} {s : State} (hk : Keeps r0 s) : Keeps r0 (refclkReturn s) := by
  unfold refclkReturn
  (try dsimp only)
  repeat' first
    | with_reducible assumption
    | split
    | (with_reducible refine Keeps.lit ?_; first | with_reducible assumption | split)

theorem keeps_cruiseSurvey {r0 : State} {s : State} (hk : Keeps r0 s) : Keeps r0 (cruiseSurvey s) := by
  unfold cruiseSurvey
  (try dsimp only)
  repeat' first
    | with_reducible assumption
    | with_reducible apply keeps_State_startSurvey
    | split
    | (with_reducible refine Keeps.lit ?_; first | with_reducible assumption | with_reducible apply keeps_State_startSurvey | split)

theorem keeps_cruiseCmd {r0 : State} {s : State} (path : Nat) (hk : Keeps r0 s) : Keeps r0 (cruiseCmd s path) := by
  unfold cruiseCmd
  (try dsimp only)
  repeat' first
    | with_reducible assumption
    | (with_reducible refine keeps_State_onCmd ?_ ?_; intro _ _; try dsimp only)
    | with_reducible apply keeps_State_setObj
    | with_reducible apply keeps_State_startSurvey
    | split
    | (with_reducible refine Keeps.lit ?_; first | with_reducible assumption | (with_reducible refine keeps_State_onCmd ?_ ?_; intro _ _; try dsimp only) | with_reducible apply keeps_State_setObj | with_reducible apply keeps_State_startSurvey | split)

theorem keeps_State_surveyed {r0 : State} {s : State} (c : Nat) (slack : Int) (hk : Keeps r0 s) : Keeps r0 (State.surveyed s c slack) := by
  unfold State.surveyed
  (try dsimp only)
  repeat' first
    | with_reducible assumption
    | with_reducible apply keeps_State_setObj
    | with_reducible apply keeps_State_lookoutFault
    | split
    | (with_reducible refine Keeps.lit ?_; first | with_reducible assumption | with_reducible apply keeps_State_setObj | with_reducible apply keeps_State_lookoutFault | split)

theorem keeps_clusterSurveyComplete {r0 : State} {s : State} (c : Nat) (slacks : List Int) (hk : Keeps r0 s) : Keeps r0 (clusterSurveyComplete s c slacks) := by
  unfold clusterSurveyComplete
  (try dsimp only)
  repeat' first
    | with_reducible assumption
    | with_reducible apply keeps_State_surveyed
    | with_reducible apply keeps_State_addObj
    | with_reducible apply keeps_State_setObj
    | with_reducible apply keeps_State_turnOn
    | (with_reducible refine Keeps.foldl ?_ ?_; intro _ _ _)
    | split
    | (with_reducible refine Keeps.lit ?_; first | with_reducible assumption | with_reducible apply keeps_State_surveyed | with_reducible apply keeps_State_addObj | with_reducible apply keeps_State_setObj | with_reducible apply keeps_State_turnOn | (with_reducible refine Keeps.foldl ?_ ?_; intro _ _ _) | split)

theorem keeps_poweredHours {r0 : State} {s : State} (hk : Keeps r0 s) : Keeps r0 (poweredHours s) := by
  unfold poweredHours
  (try dsimp only)
  repeat' first
    | with_reducible assumption
    | with_reducible apply keeps_State_addObj
    | (with_reducible refine Keeps.foldl ?_ ?_; intro _ _ _)
    | split

theorem keeps_scrubExcursion {r0 : State} {s : State} (q : Nat) (hk : Keeps r0 s) : Keeps r0 (scrubExcursion s q) := by
  unfold scrubExcursion
  (try dsimp only)
  repeat' first
    | with_reducible assumption
    | with_reducible apply keeps_State_addObj
    | split
    | (with_reducible refine Keeps.lit ?_; first | with_reducible assumption | with_reducible apply keeps_State_addObj | split)

theorem keeps_scrubExcursionComplete {r0 : State} {s : State} (q : Nat) (hk : Keeps r0 s) : Keeps r0 (scrubExcursionComplete s q) := by
  unfold scrubExcursionComplete
  (try dsimp only)
  repeat' first
    | with_reducible assumption
    | with_reducible apply keeps_State_scrubPassed
    | split
    | (with_reducible refine Keeps.lit ?_; first | with_reducible assumption | with_reducible apply keeps_State_scrubPassed | split)

theorem keeps_macEnergyWindow {r0 : State} {s : State} (energy rows : Nat) (hk : Keeps r0 s) : Keeps r0 (macEnergyWindow s energy rows) := by
  unfold macEnergyWindow
  (try dsimp only)
  repeat' first
    | with_reducible assumption
    | with_reducible apply keeps_State_setObj
    | with_reducible apply keeps_State_addObj
    | split

theorem oneActive_setBank {f : Firmware} {b : Nat} {x : BankSt} (hx : x ≠ .active) (h : f.oneActive = true) :
    (f.setBank b x).oneActive = true := by
  unfold Firmware.setBank
  split <;> simp_all [Firmware.oneActive]

theorem oneActive_setImg {f : Firmware} {b : Nat} {m : Mem} (h : f.oneActive = true) : (f.setImg b m).oneActive = true := by
  unfold Firmware.setImg
  split <;> exact h

theorem oneActive_program {f : Firmware} (h : f.oneActive = true) : f.program.oneActive = true := by
  unfold Firmware.program
  split
  · exact h
  · exact oneActive_setImg h

theorem oneActive_programs {f : Firmware} {l : List Nat} (h : f.oneActive = true) :
    (l.foldl (fun g _ => g.program) f).oneActive = true := by
  induction l generalizing f with
  | nil => exact h
  | cons a l ih => exact ih (oneActive_program h)

/-- A confirmed bank becomes ACTIVE and the other one no longer is. -/

theorem oneActive_confirm {f : Firmware} {b : Nat} (h : f.oneActive = true) :
    (((if f.bank (1 - b) = .active then f.setBank (1 - b) .inactive else f).setBank b .active)).oneActive = true := by
  unfold Firmware.bank Firmware.setBank Firmware.oneActive at *
  by_cases hb : b = 0
  · subst hb
    by_cases h1 : f.bank1 = .active <;> simp [h1]
  · by_cases h2 : 1 - b = 0
    · by_cases h1 : f.bank0 = .active <;> simp [h1, h2, hb]
    · omega

theorem keeps_State_updFw {r0 s : State} {g : Firmware → Firmware}
    (hg : ∀ f, f.oneActive = true → (g f).oneActive = true) (hk : Keeps r0 s) : Keeps r0 (s.updFw g) :=
  ⟨hk.pending, hk.out, hk.free, hk.nextId, hk.mem, fun h => hg _ (hk.bank h)⟩

theorem keeps_State_extendMr {r0 : State} {s : State} (k type version d : Nat) (hk : Keeps r0 s) : Keeps r0 (State.extendMr s k type version d) := by
  unfold State.extendMr
  (try dsimp only)
  repeat' first
    | with_reducible assumption
    | split
    | (with_reducible refine Keeps.lit ?_; first | with_reducible assumption | split)

theorem keeps_State_chooseBank {r0 : State} {s : State} (hk : Keeps r0 s) : Keeps r0 (State.chooseBank s) := by
  unfold State.chooseBank
  (try dsimp only)
  repeat' first
    | with_reducible assumption
    | ((with_reducible refine keeps_State_updFw ?_ ?_); intro f hf; first | exact hf | exact oneActive_setBank (by decide) hf | exact oneActive_setImg (oneActive_setBank (by decide) hf) | exact oneActive_confirm hf | exact oneActive_program hf | exact oneActive_programs hf | (split <;> first | exact hf | exact oneActive_setBank (by decide) hf))
    | with_reducible apply keeps_State_setObj
    | split
    | (with_reducible refine Keeps.lit ?_; first | with_reducible assumption | ((with_reducible refine keeps_State_updFw ?_ ?_); intro f hf; first | exact hf | exact oneActive_setBank (by decide) hf | exact oneActive_setImg (oneActive_setBank (by decide) hf) | exact oneActive_confirm hf | exact oneActive_program hf | exact oneActive_programs hf | (split <;> first | exact hf | exact oneActive_setBank (by decide) hf)) | with_reducible apply keeps_State_setObj | split)

theorem keeps_State_stageRom {r0 : State} {s : State} (hk : Keeps r0 s) : Keeps r0 (State.stageRom s) := by
  unfold State.stageRom
  (try dsimp only)
  repeat' first
    | with_reducible assumption
    | with_reducible apply keeps_State_chooseBank
    | with_reducible apply keeps_State_extendMr
    | with_reducible apply keeps_State_fresh
    | (with_reducible refine Keeps.lit ?_; first | with_reducible assumption | with_reducible apply keeps_State_chooseBank | with_reducible apply keeps_State_extendMr | with_reducible apply keeps_State_fresh)

theorem keeps_State_readTripLatch {r0 : State} {s : State} (hk : Keeps r0 s) : Keeps r0 (State.readTripLatch s) := by
  unfold State.readTripLatch
  (try dsimp only)
  repeat' first
    | with_reducible assumption
    | with_reducible apply keeps_State_setObj
    | with_reducible apply keeps_State_countTrip
    | with_reducible apply keeps_State_latchFault
    | split
    | (with_reducible refine Keeps.lit ?_; first | with_reducible assumption | with_reducible apply keeps_State_setObj | with_reducible apply keeps_State_countTrip | with_reducible apply keeps_State_latchFault | split)

theorem keeps_State_stageLookout {r0 : State} {s : State} (hk : Keeps r0 s) : Keeps r0 (State.stageLookout s) := by
  unfold State.stageLookout
  (try dsimp only)
  repeat' first
    | with_reducible assumption
    | with_reducible apply keeps_State_readTripLatch
    | with_reducible apply keeps_State_extendMr
    | (with_reducible refine Keeps.foldl ?_ ?_; intro _ _ _)
    | (with_reducible refine Keeps.lit ?_; first | with_reducible assumption | with_reducible apply keeps_State_readTripLatch | with_reducible apply keeps_State_extendMr | (with_reducible refine Keeps.foldl ?_ ?_; intro _ _ _))

theorem keeps_State_stageDie {r0 s : State} (hk : Keeps r0 s) : Keeps r0 (s.stageDie) := by
  unfold State.stageDie
  refine Keeps.setLanding (t := if s.env.counted then s else s.addObj (okey 0x4000 2) 16 1) ?_ _ (fun _ => Mem.wf_empty)
  split
  · exact hk
  · exact keeps_State_addObj _ _ _ hk

theorem keeps_State_stagePlaners {r0 s : State} (hk : Keeps r0 s) : Keeps r0 (s.stagePlaners) := by
  unfold State.stagePlaners
  dsimp only
  split
  · exact keeps_State_startSurvey (keeps_State_setObj _ _ (Keeps.setDdr hk _ (fun _ => Mem.wf_empty)))
  · exact keeps_State_setObj _ _ (Keeps.setDdr hk _ (fun _ => Mem.wf_empty))

theorem keeps_bootStageComplete {r0 : State} {s : State} (hk : Keeps r0 s) : Keeps r0 (bootStageComplete s) := by
  unfold bootStageComplete
  (try dsimp only)
  repeat' first
    | with_reducible assumption
    | with_reducible apply keeps_State_stageRom
    | with_reducible apply keeps_State_setObj
    | with_reducible apply keeps_State_stageLookout
    | with_reducible apply keeps_State_stageDie
    | with_reducible apply keeps_State_raiseLatched
    | with_reducible apply keeps_State_stagePlaners
    | split
    | (with_reducible refine Keeps.lit ?_; first | with_reducible assumption | with_reducible apply keeps_State_stageRom | with_reducible apply keeps_State_setObj | with_reducible apply keeps_State_stageLookout | with_reducible apply keeps_State_stageDie | with_reducible apply keeps_State_raiseLatched | with_reducible apply keeps_State_stagePlaners | split)

theorem keeps_bootTimeout {r0 : State} {s : State} (code : Nat) (hk : Keeps r0 s) : Keeps r0 (bootTimeout s code) := by
  unfold bootTimeout
  (try dsimp only)
  repeat' first
    | with_reducible assumption
    | with_reducible apply keeps_State_chooseBank
    | with_reducible apply keeps_State_latchFault
    | with_reducible apply keeps_State_moduleReset
    | ((with_reducible refine keeps_State_updFw ?_ ?_); intro f hf; first | exact hf | exact oneActive_setBank (by decide) hf | exact oneActive_setImg (oneActive_setBank (by decide) hf) | exact oneActive_confirm hf | exact oneActive_program hf | exact oneActive_programs hf | (split <;> first | exact hf | exact oneActive_setBank (by decide) hf))
    | with_reducible apply keeps_State_setObj
    | split

theorem keeps_perstAssert {r0 : State} {s : State} (hk : Keeps r0 s) : Keeps r0 (perstAssert s) := by
  unfold perstAssert
  (try dsimp only)
  repeat' first
    | with_reducible assumption
    | with_reducible apply keeps_State_moduleReset
    | split
    | (with_reducible refine Keeps.lit ?_; first | with_reducible assumption | with_reducible apply keeps_State_moduleReset | split)

theorem keeps_perstRelease {r0 : State} {s : State} (hk : Keeps r0 s) : Keeps r0 (perstRelease s) := by
  unfold perstRelease
  (try dsimp only)
  repeat' first
    | with_reducible assumption
    | (with_reducible refine Keeps.lit ?_; first | with_reducible assumption)

theorem keeps_State_fwEnd {r0 : State} {s : State} (r : Nat) (hk : Keeps r0 s) : Keeps r0 (State.fwEnd s r) := by
  unfold State.fwEnd
  repeat' first
    | with_reducible assumption
    | with_reducible apply keeps_State_setObj
    | split

theorem keeps_State_fwFault {r0 : State} {s : State} (r bank : Nat) (hk : Keeps r0 s) : Keeps r0 (State.fwFault s r bank) := by
  unfold State.fwFault
  (try dsimp only)
  repeat' first
    | with_reducible assumption
    | with_reducible apply keeps_State_report
    | with_reducible apply keeps_State_latchFault
    | split

theorem keeps_fwBegin {r0 : State} {s : State} (path : Nat) (hk : Keeps r0 s) : Keeps r0 (fwBegin s path) := by
  unfold fwBegin
  (try dsimp only)
  repeat' first
    | with_reducible assumption
    | (with_reducible refine keeps_State_onCmd ?_ ?_; intro _ _; try dsimp only)
    | with_reducible apply keeps_State_fwEnd
    | with_reducible apply keeps_State_dictRefuse
    | with_reducible apply keeps_State_seed
    | ((with_reducible refine keeps_State_updFw ?_ ?_); intro f hf; first | exact hf | exact oneActive_setBank (by decide) hf | exact oneActive_setImg (oneActive_setBank (by decide) hf) | exact oneActive_confirm hf | exact oneActive_program hf | exact oneActive_programs hf | (split <;> first | exact hf | exact oneActive_setBank (by decide) hf))
    | split
    | (with_reducible refine Keeps.lit ?_; first | with_reducible assumption | (with_reducible refine keeps_State_onCmd ?_ ?_; intro _ _; try dsimp only) | with_reducible apply keeps_State_fwEnd | with_reducible apply keeps_State_dictRefuse | with_reducible apply keeps_State_seed | ((with_reducible refine keeps_State_updFw ?_ ?_); intro f hf; first | exact hf | exact oneActive_setBank (by decide) hf | exact oneActive_setImg (oneActive_setBank (by decide) hf) | exact oneActive_confirm hf | exact oneActive_program hf | exact oneActive_programs hf | (split <;> first | exact hf | exact oneActive_setBank (by decide) hf)) | split)

theorem keeps_fwEraseComplete {r0 : State} {s : State} (hk : Keeps r0 s) : Keeps r0 (fwEraseComplete s) := by
  unfold fwEraseComplete
  (try dsimp only)
  repeat' first
    | with_reducible assumption
    | ((with_reducible refine keeps_State_updFw ?_ ?_); intro f hf; first | exact hf | exact oneActive_setBank (by decide) hf | exact oneActive_setImg (oneActive_setBank (by decide) hf) | exact oneActive_confirm hf | exact oneActive_program hf | exact oneActive_programs hf | (split <;> first | exact hf | exact oneActive_setBank (by decide) hf))
    | split
    | (with_reducible refine Keeps.lit ?_; first | with_reducible assumption | ((with_reducible refine keeps_State_updFw ?_ ?_); intro f hf; first | exact hf | exact oneActive_setBank (by decide) hf | exact oneActive_setImg (oneActive_setBank (by decide) hf) | exact oneActive_confirm hf | exact oneActive_program hf | exact oneActive_programs hf | (split <;> first | exact hf | exact oneActive_setBank (by decide) hf)) | split)

theorem keeps_fwUnitProgrammed {r0 : State} {s : State} (hk : Keeps r0 s) : Keeps r0 (fwUnitProgrammed s) := by
  unfold fwUnitProgrammed
  repeat' first
    | with_reducible assumption
    | ((with_reducible refine keeps_State_updFw ?_ ?_); intro f hf; first | exact hf | exact oneActive_setBank (by decide) hf | exact oneActive_setImg (oneActive_setBank (by decide) hf) | exact oneActive_confirm hf | exact oneActive_program hf | exact oneActive_programs hf | (split <;> first | exact hf | exact oneActive_setBank (by decide) hf))
    | split

theorem keeps_fwChunkWrite {r0 : State} {s : State} (path data : Nat) (hk : Keeps r0 s) : Keeps r0 (fwChunkWrite s path data) := by
  unfold fwChunkWrite
  (try dsimp only)
  repeat' first
    | with_reducible assumption
    | (with_reducible refine keeps_State_onWrite ?_ ?_; intro _ _; try dsimp only)
    | ((with_reducible refine keeps_State_updFw ?_ ?_); intro f hf; first | exact hf | exact oneActive_setBank (by decide) hf | exact oneActive_setImg (oneActive_setBank (by decide) hf) | exact oneActive_confirm hf | exact oneActive_program hf | exact oneActive_programs hf | (split <;> first | exact hf | exact oneActive_setBank (by decide) hf))
    | split
    | (with_reducible refine Keeps.lit ?_; first | with_reducible assumption | (with_reducible refine keeps_State_onWrite ?_ ?_; intro _ _; try dsimp only) | ((with_reducible refine keeps_State_updFw ?_ ?_); intro f hf; first | exact hf | exact oneActive_setBank (by decide) hf | exact oneActive_setImg (oneActive_setBank (by decide) hf) | exact oneActive_confirm hf | exact oneActive_program hf | exact oneActive_programs hf | (split <;> first | exact hf | exact oneActive_setBank (by decide) hf)) | split)

theorem keeps_fwVerify {r0 : State} {s : State} (path : Nat) (hk : Keeps r0 s) : Keeps r0 (fwVerify s path) := by
  unfold fwVerify
  (try dsimp only)
  repeat' first
    | with_reducible assumption
    | (with_reducible refine keeps_State_onCmd ?_ ?_; intro _ _; try dsimp only)
    | with_reducible apply keeps_State_fwEnd
    | ((with_reducible refine keeps_State_updFw ?_ ?_); intro f hf; first | exact hf | exact oneActive_setBank (by decide) hf | exact oneActive_setImg (oneActive_setBank (by decide) hf) | exact oneActive_confirm hf | exact oneActive_program hf | exact oneActive_programs hf | (split <;> first | exact hf | exact oneActive_setBank (by decide) hf))
    | with_reducible apply keeps_State_fwFault
    | (with_reducible refine Keeps.foldl ?_ ?_; intro _ _ _)
    | split
    | (with_reducible refine Keeps.lit ?_; first | with_reducible assumption | (with_reducible refine keeps_State_onCmd ?_ ?_; intro _ _; try dsimp only) | with_reducible apply keeps_State_fwEnd | ((with_reducible refine keeps_State_updFw ?_ ?_); intro f hf; first | exact hf | exact oneActive_setBank (by decide) hf | exact oneActive_setImg (oneActive_setBank (by decide) hf) | exact oneActive_confirm hf | exact oneActive_program hf | exact oneActive_programs hf | (split <;> first | exact hf | exact oneActive_setBank (by decide) hf)) | with_reducible apply keeps_State_fwFault | (with_reducible refine Keeps.foldl ?_ ?_; intro _ _ _) | split)

theorem keeps_fwAbort {r0 : State} {s : State} (path : Nat) (hk : Keeps r0 s) : Keeps r0 (fwAbort s path) := by
  unfold fwAbort
  (try dsimp only)
  repeat' first
    | with_reducible assumption
    | (with_reducible refine keeps_State_onCmd ?_ ?_; intro _ _; try dsimp only)
    | with_reducible apply keeps_State_fwEnd
    | ((with_reducible refine keeps_State_updFw ?_ ?_); intro f hf; first | exact hf | exact oneActive_setBank (by decide) hf | exact oneActive_setImg (oneActive_setBank (by decide) hf) | exact oneActive_confirm hf | exact oneActive_program hf | exact oneActive_programs hf | (split <;> first | exact hf | exact oneActive_setBank (by decide) hf))
    | split
    | (with_reducible refine Keeps.lit ?_; first | with_reducible assumption | (with_reducible refine keeps_State_onCmd ?_ ?_; intro _ _; try dsimp only) | with_reducible apply keeps_State_fwEnd | ((with_reducible refine keeps_State_updFw ?_ ?_); intro f hf; first | exact hf | exact oneActive_setBank (by decide) hf | exact oneActive_setImg (oneActive_setBank (by decide) hf) | exact oneActive_confirm hf | exact oneActive_program hf | exact oneActive_programs hf | (split <;> first | exact hf | exact oneActive_setBank (by decide) hf)) | split)

theorem keeps_fwConfirm {r0 : State} {s : State} (path : Nat) (hk : Keeps r0 s) : Keeps r0 (fwConfirm s path) := by
  unfold fwConfirm
  (try dsimp only)
  repeat' first
    | with_reducible assumption
    | (with_reducible refine keeps_State_onCmd ?_ ?_; intro _ _; try dsimp only)
    | with_reducible apply keeps_State_fwEnd
    | with_reducible apply keeps_State_setObj
    | ((with_reducible refine keeps_State_updFw ?_ ?_); intro f hf; first | exact hf | exact oneActive_setBank (by decide) hf | exact oneActive_setImg (oneActive_setBank (by decide) hf) | exact oneActive_confirm hf | exact oneActive_program hf | exact oneActive_programs hf | (split <;> first | exact hf | exact oneActive_setBank (by decide) hf))
    | (with_reducible refine Keeps.foldl ?_ ?_; intro _ _ _)
    | split

theorem keeps_fwSwitch {r0 : State} {s : State} (path : Nat) (hk : Keeps r0 s) : Keeps r0 (fwSwitch s path) := by
  unfold fwSwitch
  (try dsimp only)
  repeat' first
    | with_reducible assumption
    | (with_reducible refine keeps_State_onCmd ?_ ?_; intro _ _; try dsimp only)
    | with_reducible apply keeps_State_dictRefuse
    | with_reducible apply keeps_State_fwFault
    | with_reducible apply keeps_State_fwEnd
    | ((with_reducible refine keeps_State_updFw ?_ ?_); intro f hf; first | exact hf | exact oneActive_setBank (by decide) hf | exact oneActive_setImg (oneActive_setBank (by decide) hf) | exact oneActive_confirm hf | exact oneActive_program hf | exact oneActive_programs hf | (split <;> first | exact hf | exact oneActive_setBank (by decide) hf))
    | split
    | (with_reducible refine Keeps.lit ?_; first | with_reducible assumption | (with_reducible refine keeps_State_onCmd ?_ ?_; intro _ _; try dsimp only) | with_reducible apply keeps_State_dictRefuse | with_reducible apply keeps_State_fwFault | with_reducible apply keeps_State_fwEnd | ((with_reducible refine keeps_State_updFw ?_ ?_); intro f hf; first | exact hf | exact oneActive_setBank (by decide) hf | exact oneActive_setImg (oneActive_setBank (by decide) hf) | exact oneActive_confirm hf | exact oneActive_program hf | exact oneActive_programs hf | (split <;> first | exact hf | exact oneActive_setBank (by decide) hf)) | split)

theorem keeps_attCmd {r0 : State} {s : State} (path : Nat) (hk : Keeps r0 s) : Keeps r0 (attCmd s path) := by
  unfold attCmd
  (try dsimp only)
  repeat' first
    | with_reducible assumption
    | (with_reducible refine keeps_State_onCmd ?_ ?_; intro _ _; try dsimp only)
    | ((with_reducible refine keeps_State_updFw ?_ ?_); intro f hf; first | exact hf | exact oneActive_setBank (by decide) hf | exact oneActive_setImg (oneActive_setBank (by decide) hf) | exact oneActive_confirm hf | exact oneActive_program hf | exact oneActive_programs hf | (split <;> first | exact hf | exact oneActive_setBank (by decide) hf))
    | with_reducible apply keeps_State_setObj
    | (with_reducible refine Keeps.lit ?_; first | with_reducible assumption | (with_reducible refine keeps_State_onCmd ?_ ?_; intro _ _; try dsimp only) | ((with_reducible refine keeps_State_updFw ?_ ?_); intro f hf; first | exact hf | exact oneActive_setBank (by decide) hf | exact oneActive_setImg (oneActive_setBank (by decide) hf) | exact oneActive_confirm hf | exact oneActive_program hf | exact oneActive_programs hf | (split <;> first | exact hf | exact oneActive_setBank (by decide) hf)) | with_reducible apply keeps_State_setObj)

theorem keeps_evidenceReady {r0 : State} {s : State} (path : Nat) (hk : Keeps r0 s) : Keeps r0 (evidenceReady s path) := by
  unfold evidenceReady
  (try dsimp only)
  repeat' first
    | with_reducible assumption
    | with_reducible apply keeps_State_setPobj
    | ((with_reducible refine keeps_State_updFw ?_ ?_); intro f hf; first | exact hf | exact oneActive_setBank (by decide) hf | exact oneActive_setImg (oneActive_setBank (by decide) hf) | exact oneActive_confirm hf | exact oneActive_program hf | exact oneActive_programs hf | (split <;> first | exact hf | exact oneActive_setBank (by decide) hf))
    | with_reducible apply keeps_State_setObj
    | split
    | (with_reducible refine Keeps.lit ?_; first | with_reducible assumption | with_reducible apply keeps_State_setPobj | ((with_reducible refine keeps_State_updFw ?_ ?_); intro f hf; first | exact hf | exact oneActive_setBank (by decide) hf | exact oneActive_setImg (oneActive_setBank (by decide) hf) | exact oneActive_confirm hf | exact oneActive_program hf | exact oneActive_programs hf | (split <;> first | exact hf | exact oneActive_setBank (by decide) hf)) | with_reducible apply keeps_State_setObj | split)

theorem keeps_selftest {r0 : State} {s : State} (path : Nat) (hk : Keeps r0 s) : Keeps r0 (selftest s path) := by
  unfold selftest
  (try dsimp only)
  repeat' first
    | with_reducible assumption
    | (with_reducible refine keeps_State_onCmd ?_ ?_; intro _ _; try dsimp only)
    | with_reducible apply keeps_State_setObj
    | split

theorem keeps_selftestComplete {r0 : State} {s : State} (engines limbers : List Nat) (hk : Keeps r0 s) : Keeps r0 (selftestComplete s engines limbers) := by
  unfold selftestComplete
  repeat' first
    | with_reducible assumption
    | with_reducible apply keeps_State_setObj
    | with_reducible apply keeps_State_addObj
    | split

theorem keeps_probeEnable {r0 : State} {s : State} (path : Nat) (hk : Keeps r0 s) : Keeps r0 (probeEnable s path) := by
  unfold probeEnable
  (try dsimp only)
  repeat' first
    | with_reducible assumption
    | (with_reducible refine keeps_State_onCmd ?_ ?_; intro _ _; try dsimp only)
    | with_reducible apply keeps_State_fresh
    | with_reducible apply keeps_State_report
    | with_reducible apply keeps_State_latchFault
    | with_reducible apply keeps_State_setObj
    | with_reducible apply keeps_State_extendMr
    | split
    | (with_reducible refine Keeps.lit ?_; first | with_reducible assumption | (with_reducible refine keeps_State_onCmd ?_ ?_; intro _ _; try dsimp only) | with_reducible apply keeps_State_fresh | with_reducible apply keeps_State_report | with_reducible apply keeps_State_latchFault | with_reducible apply keeps_State_setObj | with_reducible apply keeps_State_extendMr | split)

theorem keeps_probeDisable {r0 : State} {s : State} (path : Nat) (hk : Keeps r0 s) : Keeps r0 (probeDisable s path) := by
  unfold probeDisable
  (try dsimp only)
  repeat' first
    | with_reducible assumption
    | (with_reducible refine keeps_State_onCmd ?_ ?_; intro _ _; try dsimp only)
    | with_reducible apply keeps_State_setObj

end Sys2Proof.Machine
end

