-- ==== Sys2Proof/Laws/Keeps5.lean ====
section
/-!
SUPPORT. What every operation of the machine keeps: the dictionary, the ports and the clock.
-/

set_option linter.all false

namespace Sys2Proof.Machine

theorem keeps_State_takeRead {r0 : State} {s : State} (k : Nat) (hk : Keeps r0 s) : Keeps r0 (State.takeRead s k) := by
  unfold State.takeRead
  (try dsimp only)
  repeat' first
    | with_reducible assumption
    | split
    | (with_reducible refine Keeps.lit ?_; first | with_reducible assumption | split)

theorem keeps_State_takeReads {r0 s : State} (k n : Nat) (hk : Keeps r0 s) : Keeps r0 (s.takeReads k n) := by
  induction n generalizing s with
  | zero => exact hk
  | succ n ih =>
    unfold State.takeReads
    split
    · exact hk
    · exact ih (keeps_State_takeRead _ hk)

theorem keeps_dumpComplete {r0 s : State} (hk : Keeps r0 s) : Keeps r0 (dumpComplete s) := by
  unfold dumpComplete
  split
  · exact hk
  · next k _ =>
    extract_lets s0 d s1 s2
    have h0 : Keeps r0 s0 := keeps_State_takeReads _ _ hk
    have h1 : Keeps r0 s1 := Keeps.lit h0
    have h2 : Keeps r0 s2 := by
      show Keeps r0 (if _ then _ else _)
      split
      · exact keeps_State_setObj _ _ h1
      · exact h1
    clear_value s2
    split
    · split
      · exact Keeps.lit h2
      · exact keeps_State_startDump _ _ h2
    · exact h2

theorem keeps_stopStepWrite {r0 : State} {s : State} (path ctx v : Nat) (hk : Keeps r0 s) : Keeps r0 (stopStepWrite s path ctx v) := by
  unfold stopStepWrite
  (try dsimp only)
  repeat' first
    | with_reducible assumption
    | (with_reducible refine keeps_State_onWrite ?_ ?_; intro _ _; try dsimp only)
    | with_reducible apply keeps_State_setObj
    | with_reducible apply keeps_State_restCheck

theorem keeps_hostwinAddrWrite {r0 : State} {s : State} (path v : Nat) (hk : Keeps r0 s) : Keeps r0 (hostwinAddrWrite s path v) := by
  unfold hostwinAddrWrite
  (try dsimp only)
  repeat' first
    | with_reducible assumption
    | (with_reducible refine keeps_State_onWrite ?_ ?_; intro _ _; try dsimp only)
    | with_reducible apply keeps_hostwinWrite
    | with_reducible apply keeps_State_dictRefuse
    | split

theorem keeps_mgmtKeyWrite {r0 : State} {s : State} (path key : Nat) (hk : Keeps r0 s) : Keeps r0 (mgmtKeyWrite s path key) := by
  unfold mgmtKeyWrite
  (try dsimp only)
  repeat' first
    | with_reducible assumption
    | (with_reducible refine keeps_State_onWrite ?_ ?_; intro _ _; try dsimp only)
    | with_reducible apply keeps_State_setObj
    | split
    | (with_reducible refine Keeps.lit ?_; first | with_reducible assumption | (with_reducible refine keeps_State_onWrite ?_ ?_; intro _ _; try dsimp only) | with_reducible apply keeps_State_setObj | split)

theorem keeps_allocSelWrite {r0 : State} {s : State} (path ctx v : Nat) (hk : Keeps r0 s) : Keeps r0 (allocSelWrite s path ctx v) := by
  unfold allocSelWrite
  (try dsimp only)
  repeat' first
    | with_reducible assumption
    | (with_reducible refine keeps_State_onWrite ?_ ?_; intro _ _; try dsimp only)
    | with_reducible apply keeps_State_setPobj
    | with_reducible apply keeps_State_showAlloc

theorem keeps_State_setSeg {r0 : State} {s : State} (k : Nat) (g : Seg) (hk : Keeps r0 s) : Keeps r0 (State.setSeg s k g) := by
  unfold State.setSeg
  (try dsimp only)
  repeat' first
    | with_reducible assumption
    | (with_reducible refine Keeps.lit ?_; first | with_reducible assumption)

theorem keeps_State_segEnd {r0 : State} {s : State} (k r : Nat) (hk : Keeps r0 s) : Keeps r0 (State.segEnd s k r) := by
  unfold State.segEnd
  repeat' first
    | with_reducible assumption
    | with_reducible apply keeps_State_setObj
    | split

theorem keeps_State_readEffect {r0 : State} {s : State} (path k : Nat) (hk : Keeps r0 s) : Keeps r0 (State.readEffect s path k) := by
  unfold State.readEffect
  (try dsimp only)
  repeat' first
    | with_reducible assumption
    | with_reducible apply keeps_faultRecordRead
    | with_reducible apply keeps_resWordRead
    | split
    | (with_reducible refine Keeps.lit ?_; first | with_reducible assumption | with_reducible apply keeps_faultRecordRead | with_reducible apply keeps_resWordRead | split)

theorem keeps_segOpenRead {r0 : State} {s : State} (path k : Nat) (hk : Keeps r0 s) : Keeps r0 (segOpenRead s path k) := by
  unfold segOpenRead
  (try dsimp only)
  repeat' first
    | with_reducible assumption
    | (with_reducible refine keeps_State_onCmd ?_ ?_; intro _ _; try dsimp only)
    | with_reducible apply keeps_State_dictRefuse
    | with_reducible apply keeps_State_segEnd
    | with_reducible apply keeps_State_place
    | with_reducible apply keeps_State_readEffect
    | with_reducible apply keeps_State_setSeg
    | split
    | (with_reducible refine Keeps.lit ?_; first | with_reducible assumption | (with_reducible refine keeps_State_onCmd ?_ ?_; intro _ _; try dsimp only) | with_reducible apply keeps_State_dictRefuse | with_reducible apply keeps_State_segEnd | with_reducible apply keeps_State_place | with_reducible apply keeps_State_readEffect | with_reducible apply keeps_State_setSeg | split)

theorem keeps_segOpenWrite {r0 : State} {s : State} (path k : Nat) (hk : Keeps r0 s) : Keeps r0 (segOpenWrite s path k) := by
  unfold segOpenWrite
  (try dsimp only)
  repeat' first
    | with_reducible assumption
    | (with_reducible refine keeps_State_onCmd ?_ ?_; intro _ _; try dsimp only)
    | with_reducible apply keeps_State_dictRefuse
    | with_reducible apply keeps_State_segEnd
    | with_reducible apply keeps_State_setSeg
    | split
    | (with_reducible refine Keeps.lit ?_; first | with_reducible assumption | (with_reducible refine keeps_State_onCmd ?_ ?_; intro _ _; try dsimp only) | with_reducible apply keeps_State_dictRefuse | with_reducible apply keeps_State_segEnd | with_reducible apply keeps_State_setSeg | split)

theorem keeps_segClose {r0 : State} {s : State} (path k : Nat) (hk : Keeps r0 s) : Keeps r0 (segClose s path k) := by
  unfold segClose
  (try dsimp only)
  repeat' first
    | with_reducible assumption
    | (with_reducible refine keeps_State_onCmd ?_ ?_; intro _ _; try dsimp only)
    | with_reducible apply keeps_State_setObj
    | with_reducible apply keeps_State_place
    | with_reducible apply keeps_State_setSeg
    | with_reducible apply keeps_State_segEnd
    | split
    | (with_reducible refine Keeps.lit ?_; first | with_reducible assumption | (with_reducible refine keeps_State_onCmd ?_ ?_; intro _ _; try dsimp only) | with_reducible apply keeps_State_setObj | with_reducible apply keeps_State_place | with_reducible apply keeps_State_setSeg | with_reducible apply keeps_State_segEnd | split)

theorem keeps_segWindowWrite {r0 : State} {s : State} (path k w v : Nat) (hk : Keeps r0 s) : Keeps r0 (segWindowWrite s path k w v) := by
  unfold segWindowWrite
  (try dsimp only)
  repeat' first
    | with_reducible assumption
    | (with_reducible refine keeps_State_onWrite ?_ ?_; intro _ _; try dsimp only)
    | with_reducible apply keeps_State_setSeg
    | (with_reducible refine Keeps.foldl ?_ ?_; intro _ _ _)
    | split
    | (with_reducible refine Keeps.lit ?_; first | with_reducible assumption | (with_reducible refine keeps_State_onWrite ?_ ?_; intro _ _; try dsimp only) | with_reducible apply keeps_State_setSeg | (with_reducible refine Keeps.foldl ?_ ?_; intro _ _ _) | split)

theorem keeps_onEpoch_all {r0 : State} (ctx : Nat) : ∀ t, Keeps r0 t → Keeps r0 (onEpoch t ctx) :=
  fun _ h => keeps_onEpoch ctx h

theorem keeps_cmdAction {r0 s : State} {path k ck i v : Nat} {act : State → State}
    (h : cmdAction path k ck i v = some act) (hk : Keeps r0 s) : Keeps r0 (act s) := by
  unfold cmdAction at h
  repeat' first
    | (with_reducible refine keeps_State_onCmd ?_ ?_; intro _ _; try dsimp only)
    | (with_reducible refine keeps_State_onWrite ?_ ?_; intro _ _; try dsimp only)
    | with_reducible assumption
    | (with_reducible exact keeps_epochCmd _ _ (keeps_onEpoch_all _) (by with_reducible assumption))
    | with_reducible apply keeps_segOpenRead
    | with_reducible apply keeps_segOpenWrite
    | with_reducible apply keeps_segClose
    | with_reducible apply keeps_attCmd
    | with_reducible apply keeps_fwBegin
    | with_reducible apply keeps_fwVerify
    | with_reducible apply keeps_fwAbort
    | with_reducible apply keeps_fwConfirm
    | with_reducible apply keeps_fwSwitch
    | with_reducible apply keeps_planLoad
    | with_reducible apply keeps_unload
    | with_reducible apply keeps_resumePlan
    | with_reducible apply keeps_preempt
    | with_reducible apply keeps_cancelPreempt
    | with_reducible apply keeps_clearPlacement
    | with_reducible apply keeps_tallyClear
    | with_reducible apply keeps_weightLoad
    | with_reducible apply keeps_weightSwitch
    | with_reducible apply keeps_weightRevert
    | with_reducible apply keeps_batchSubmit
    | with_reducible apply keeps_descCreate
    | with_reducible apply keeps_c6Flush
    | with_reducible apply keeps_mapRegion
    | with_reducible apply keeps_unmapRegion
    | with_reducible apply keeps_trimRegion
    | with_reducible apply keeps_discardRegion
    | with_reducible apply keeps_allocGrant
    | with_reducible apply keeps_allocRelease
    | with_reducible apply keeps_setStep
    | with_reducible apply keeps_rollForward
    | with_reducible apply keeps_emitStep
    | with_reducible apply keeps_snapshotStep
    | with_reducible apply keeps_restoreStep
    | with_reducible apply keeps_flashScrubNow
    | with_reducible apply keeps_linkTrain
    | with_reducible apply keeps_linkDisable
    | with_reducible apply keeps_linkRetrain
    | with_reducible apply keeps_scalerExport
    | with_reducible apply keeps_scalerImport
    | with_reducible apply keeps_xchkExport
    | with_reducible apply keeps_xchkRun
    | with_reducible apply keeps_dumpCmd
    | with_reducible apply keeps_dumpRelease
    | with_reducible apply keeps_replayStart
    | with_reducible apply keeps_replayEnd
    | with_reducible apply keeps_powerCmdRun
    | with_reducible apply keeps_powerEntry
    | with_reducible apply keeps_cruiseCmd
    | with_reducible apply keeps_probeEnable
    | with_reducible apply keeps_probeDisable
    | with_reducible apply keeps_selftest
    | with_reducible apply keeps_descDestroy
    | with_reducible apply keeps_frameToPool
    | with_reducible apply keeps_frameToFree
    | with_reducible apply keeps_fbRequest
    | (have e := Option.some.inj h; subst e; clear h; dsimp only)
    | (cases h; done)
    | split at h

theorem keeps_State_cmdWrite {r0 s : State} (path k v : Nat) (hk : Keeps r0 s) : Keeps r0 (s.cmdWrite path k v) := by
  unfold State.cmdWrite
  split
  · next e => exact keeps_cmdAction e hk
  · exact keeps_State_onCmd (fun t ht => keeps_State_dictRefuse _ _ _ ht) hk

theorem keeps_State_plainWrite {r0 : State} {s : State} (path k v : Nat) (hk : Keeps r0 s) : Keeps r0 (State.plainWrite s path k v) := by
  unfold State.plainWrite
  (try dsimp only)
  repeat' first
    | with_reducible assumption
    | with_reducible apply keeps_mgmtKeyWrite
    | with_reducible apply keeps_fwChunkWrite
    | with_reducible apply keeps_stopStepWrite
    | with_reducible apply keeps_resAck
    | with_reducible apply keeps_hostwinAddrWrite
    | with_reducible apply keeps_allocSelWrite
    | with_reducible apply keeps_selfWrite
    | with_reducible apply keeps_memberEntryWrite
    | with_reducible apply keeps_scalerWindowWrite
    | with_reducible apply keeps_segWindowWrite
    | with_reducible apply keeps_State_dictRefuse
    | with_reducible apply keeps_State_setPobj
    | with_reducible apply keeps_State_setObj
    | split
    | (with_reducible refine Keeps.lit ?_; first | with_reducible assumption | with_reducible apply keeps_mgmtKeyWrite | with_reducible apply keeps_fwChunkWrite | with_reducible apply keeps_stopStepWrite | with_reducible apply keeps_resAck | with_reducible apply keeps_hostwinAddrWrite | with_reducible apply keeps_allocSelWrite | with_reducible apply keeps_selfWrite | with_reducible apply keeps_memberEntryWrite | with_reducible apply keeps_scalerWindowWrite | with_reducible apply keeps_segWindowWrite | with_reducible apply keeps_State_dictRefuse | with_reducible apply keeps_State_setPobj | with_reducible apply keeps_State_setObj | split)

theorem keeps_dictWrite {r0 : State} {s : State} (path k v : Nat) (hk : Keeps r0 s) : Keeps r0 (dictWrite s path k v) := by
  unfold dictWrite
  repeat' first
    | with_reducible assumption
    | with_reducible apply keeps_State_unserved
    | with_reducible apply keeps_State_dictRefuse
    | with_reducible apply keeps_State_cmdWrite
    | with_reducible apply keeps_w1cFlagClear
    | with_reducible apply keeps_State_plainWrite
    | split
    | (with_reducible refine Keeps.lit ?_; first | with_reducible assumption | with_reducible apply keeps_State_unserved | with_reducible apply keeps_State_dictRefuse | with_reducible apply keeps_State_cmdWrite | with_reducible apply keeps_w1cFlagClear | with_reducible apply keeps_State_plainWrite | split)

theorem keeps_segCommit {r0 : State} {s : State} (path k : Nat) (hk : Keeps r0 s) : Keeps r0 (segCommit s path k) := by
  unfold segCommit
  (try dsimp only)
  repeat' first
    | with_reducible assumption
    | (with_reducible refine keeps_State_onCmd ?_ ?_; intro _ _; try dsimp only)
    | with_reducible apply keeps_State_segEnd
    | with_reducible apply keeps_dictWrite
    | split

theorem keeps_registerWrite {r0 : State} {s : State} (path k v : Nat) (hk : Keeps r0 s) : Keeps r0 (registerWrite s path k v) := by
  unfold registerWrite
  repeat' first
    | with_reducible assumption
    | with_reducible apply keeps_segCommit
    | with_reducible apply keeps_dictWrite
    | split

theorem keeps_slotRead {r0 : State} {s : State} (k : Nat) (hk : Keeps r0 s) : Keeps r0 (slotRead s k).2 := by
  unfold slotRead
  (try dsimp only)
  repeat' first
    | with_reducible assumption
    | with_reducible apply keeps_State_unserved
    | with_reducible apply keeps_State_readEffect
    | with_reducible apply keeps_State_setPobj
    | split
    | (with_reducible refine Keeps.lit ?_; first | with_reducible assumption | with_reducible apply keeps_State_unserved | with_reducible apply keeps_State_readEffect | with_reducible apply keeps_State_setPobj | split)

theorem keeps_readDws {r0 s : State} (k be n : Nat) (hk : Keeps r0 s) : Keeps r0 (readDws s k be n).2 := by
  induction n with
  | zero => exact hk
  | succ n ih =>
    unfold readDws
    dsimp only
    split
    · exact ih
    · exact keeps_slotRead _ ih

theorem keeps_State_completion {r0 : State} {s : State} (status : Nat) (bs : List Nat) (hk : Keeps r0 s) : Keeps r0 (State.completion s status bs) := by
  unfold State.completion
  (try dsimp only)
  repeat' first
    | with_reducible assumption
    | with_reducible apply Keeps.send
    | (with_reducible refine Keeps.lit ?_; first | with_reducible assumption | with_reducible apply Keeps.send)

theorem keeps_bar0Read {r0 : State} {s : State} (off dws be : Nat) (locked : Bool) (hk : Keeps r0 s) : Keeps r0 (bar0Read s off dws be locked) := by
  unfold bar0Read
  (try dsimp only)
  repeat' first
    | with_reducible assumption
    | with_reducible apply keeps_State_completion
    | with_reducible apply keeps_readDws
    | split

theorem keeps_slotWrite {r0 : State} {s : State} (k e v : Nat) (hk : Keeps r0 s) : Keeps r0 (slotWrite s k e v) := by
  unfold slotWrite
  repeat' first
    | with_reducible assumption
    | with_reducible apply keeps_State_unserved
    | with_reducible apply keeps_State_dictRefuse
    | with_reducible apply keeps_registerWrite
    | split
    | (with_reducible refine Keeps.lit ?_; first | with_reducible assumption | with_reducible apply keeps_State_unserved | with_reducible apply keeps_State_dictRefuse | with_reducible apply keeps_registerWrite | split)

theorem keeps_writeDws {r0 : State} {s : State} (k be : Nat) (data : List Nat) (hk : Keeps r0 s) : Keeps r0 (writeDws s k be data) := by
  unfold writeDws
  (try dsimp only)
  repeat' first
    | with_reducible assumption
    | with_reducible apply keeps_slotWrite
    | (with_reducible refine Keeps.foldl ?_ ?_; intro _ _ _)

theorem keeps_bar0Write {r0 : State} {s : State} (off be : Nat) (data : List Nat) (poisoned : Bool) (hk : Keeps r0 s) : Keeps r0 (bar0Write s off be data poisoned) := by
  unfold bar0Write
  (try dsimp only)
  repeat' first
    | with_reducible assumption
    | with_reducible apply keeps_State_unserved
    | with_reducible apply keeps_State_dictRefuse
    | with_reducible apply keeps_writeDws
    | split

theorem keeps_u64SlotRead {r0 : State} {s : State} (k : Nat) (hk : Keeps r0 s) : Keeps r0 (u64SlotRead s k) := by
  unfold u64SlotRead
  repeat' first
    | with_reducible assumption
    | with_reducible apply keeps_bar0Read
    | split
    | (with_reducible refine Keeps.lit ?_; first | with_reducible assumption | with_reducible apply keeps_bar0Read | split)

theorem keeps_State_opUnserved {r0 s : State} (path : Nat) (auth : Bool) (o : BdpOp) (hk : Keeps r0 s) :
    Keeps r0 (s.opUnserved path auth o).state := by
  show Keeps r0 (if auth then s.unserved path o.idx else s)
  split
  · exact keeps_State_unserved _ _ hk
  · exact hk

theorem keeps_State_readOp {r0 s : State} (path most : Nat) (auth allowed : Bool) (o : BdpOp) (hk : Keeps r0 s) :
    Keeps r0 (s.readOp path most auth allowed o).state := by
  unfold State.readOp
  split
  · exact hk
  · split
    · exact keeps_State_opUnserved _ _ _ hk
    · split
      · exact hk
      · dsimp only
        split
        · exact hk
        · exact keeps_State_readEffect _ _ hk

theorem keeps_State_writeOp {r0 s : State} (path : Nat) (auth allowed : Bool) (o : BdpOp) (hk : Keeps r0 s) :
    Keeps r0 (s.writeOp path auth allowed o).state := by
  unfold State.writeOp
  dsimp only
  split
  · exact keeps_State_dictRefuse _ _ _ hk
  · split
    · exact keeps_State_opUnserved _ _ _ hk
    · split
      · exact keeps_State_dictRefuse _ _ _ hk
      · split
        · exact keeps_State_dictRefuse _ _ _ hk
        · split
          · exact keeps_State_dictRefuse _ _ _ hk
          · split
            · exact keeps_State_dictRefuse _ _ _ hk
            · exact keeps_registerWrite _ _ _ hk

theorem keeps_State_bdpSend {r0 : State} {s : State} (dest : Nat) (bs : List Nat) (hk : Keeps r0 s) : Keeps r0 (State.bdpSend s dest bs) := by
  unfold State.bdpSend
  (try dsimp only)
  repeat' first
    | with_reducible assumption
    | with_reducible apply Keeps.send
    | (with_reducible refine Keeps.lit ?_; first | with_reducible assumption | with_reducible apply Keeps.send)

theorem keeps_State_updSession {r0 : State} {s : State} (n : Nat) (f : Session → Session) (hk : Keeps r0 s) : Keeps r0 (State.updSession s n f) := by
  unfold State.updSession
  (try dsimp only)
  repeat' first
    | with_reducible assumption
    | (with_reducible refine Keeps.lit ?_; first | with_reducible assumption)

theorem keeps_State_respond {r0 s : State} (src sess seq status nops : Nat) (body : List Nat) (hk : Keeps r0 s) :
    Keeps r0 (s.respond src sess seq status nops body).2 := by
  unfold State.respond
  exact keeps_State_bdpSend _ _ (keeps_State_fresh hk)

theorem keeps_State_respondCached {r0 : State} {s : State} (src sess seq status nops : Nat) (body : List Nat) (hk : Keeps r0 s) : Keeps r0 (State.respondCached s src sess seq status nops body) := by
  unfold State.respondCached
  (try dsimp only)
  repeat' first
    | with_reducible assumption
    | with_reducible apply keeps_State_respond
    | with_reducible apply keeps_State_updSession
    | split
    | (with_reducible refine Keeps.lit ?_; first | with_reducible assumption | with_reducible apply keeps_State_respond | with_reducible apply keeps_State_updSession | split)

theorem keeps_State_bdpFinish {r0 : State} {s : State} (r : BdpReq) (hk : Keeps r0 s) : Keeps r0 (State.bdpFinish s r) := by
  unfold State.bdpFinish
  (try dsimp only)
  repeat' first
    | with_reducible assumption
    | with_reducible apply keeps_State_addObj
    | with_reducible apply keeps_State_respondCached
    | split
    | (with_reducible refine Keeps.lit ?_; first | with_reducible assumption | with_reducible apply keeps_State_addObj | with_reducible apply keeps_State_respondCached | split)

theorem keeps_State_bdpAdvance {r0 s : State} (n : Nat) (hk : Keeps r0 s) : Keeps r0 (s.bdpAdvance n) := by
  induction n generalizing s with
  | zero => exact hk
  | succ n ih =>
    unfold State.bdpAdvance
    split
    · exact hk
    · split
      · exact ih (keeps_State_bdpFinish _ hk)
      · split
        · exact hk
        · exact ih (Keeps.lit hk)

theorem keeps_bdpReceive {r0 : State} {s : State} (d : List Nat) (src : Nat) (hk : Keeps r0 s) : Keeps r0 (bdpReceive s d src) := by
  unfold bdpReceive
  (try dsimp only)
  repeat' first
    | with_reducible assumption
    | with_reducible apply keeps_State_addObj
    | with_reducible apply keeps_State_bdpSend
    | with_reducible apply keeps_State_respond
    | with_reducible apply keeps_State_updSession
    | with_reducible apply keeps_State_respondCached
    | with_reducible apply keeps_State_bdpAdvance
    | split
    | (with_reducible refine Keeps.lit ?_; first | with_reducible assumption | with_reducible apply keeps_State_addObj | with_reducible apply keeps_State_bdpSend | with_reducible apply keeps_State_respond | with_reducible apply keeps_State_updSession | with_reducible apply keeps_State_respondCached | with_reducible apply keeps_State_bdpAdvance | split)

theorem keeps_bdpRequest {r0 : State} {s : State} (d : List Nat) (src : Nat) (hk : Keeps r0 s) : Keeps r0 (bdpRequest s d src) := by
  unfold bdpRequest
  repeat' first
    | with_reducible assumption
    | with_reducible apply keeps_bdpReceive
    | split

theorem keeps_State_bdpRun {r0 : State} {s : State} (sess op : Nat) (hk : Keeps r0 s) : Keeps r0 (State.bdpRun s sess op) := by
  unfold State.bdpRun
  (try dsimp only)
  repeat' first
    | with_reducible assumption
    | with_reducible apply keeps_State_bdpAdvance
    | with_reducible apply keeps_State_readOp
    | with_reducible apply keeps_State_writeOp
    | split
    | (with_reducible refine Keeps.lit ?_; first | with_reducible assumption | with_reducible apply keeps_State_bdpAdvance | with_reducible apply keeps_State_readOp | with_reducible apply keeps_State_writeOp | split)

theorem keeps_bdpRead {r0 : State} {s : State} (sess : Nat) (hk : Keeps r0 s) : Keeps r0 (bdpRead s sess) := by
  unfold bdpRead
  repeat' first
    | with_reducible assumption
    | with_reducible apply keeps_State_bdpRun

theorem keeps_bdpWrite {r0 : State} {s : State} (sess : Nat) (hk : Keeps r0 s) : Keeps r0 (bdpWrite s sess) := by
  unfold bdpWrite
  repeat' first
    | with_reducible assumption
    | with_reducible apply keeps_State_bdpRun

theorem keeps_notifySend {r0 : State} {s : State} (hk : Keeps r0 s) : Keeps r0 (notifySend s) := by
  unfold notifySend
  (try dsimp only)
  repeat' first
    | with_reducible assumption
    | with_reducible apply keeps_State_fresh
    | with_reducible apply keeps_State_updSession
    | with_reducible apply keeps_State_addObj
    | with_reducible apply keeps_State_bdpSend
    | (with_reducible refine Keeps.foldl ?_ ?_; intro _ _ _)
    | split
    | (with_reducible refine Keeps.lit ?_; first | with_reducible assumption | with_reducible apply keeps_State_fresh | with_reducible apply keeps_State_updSession | with_reducible apply keeps_State_addObj | with_reducible apply keeps_State_bdpSend | (with_reducible refine Keeps.foldl ?_ ?_; intro _ _ _) | split)

theorem keeps_State_doeSend {r0 : State} {s : State} (bs : List Nat) (hk : Keeps r0 s) : Keeps r0 (State.doeSend s bs) := by
  unfold State.doeSend
  (try dsimp only)
  repeat' first
    | with_reducible assumption
    | with_reducible apply Keeps.send
    | (with_reducible refine Keeps.lit ?_; first | with_reducible assumption | with_reducible apply Keeps.send)

theorem keeps_doeDiscovery {r0 : State} {s : State} (index : Nat) (hk : Keeps r0 s) : Keeps r0 (doeDiscovery s index) := by
  unfold doeDiscovery
  (try dsimp only)
  repeat' first
    | with_reducible assumption
    | with_reducible apply keeps_State_doeSend
    | with_reducible apply keeps_State_fresh
    | split

theorem keeps_doeBdpOperation {r0 : State} {s : State} (d : List Nat) (hk : Keeps r0 s) : Keeps r0 (doeBdpOperation s d) := by
  unfold doeBdpOperation
  (try dsimp only)
  repeat' first
    | with_reducible assumption
    | with_reducible apply keeps_State_doeSend
    | with_reducible apply keeps_State_readOp
    | with_reducible apply keeps_State_writeOp
    | split
    | (with_reducible refine Keeps.lit ?_; first | with_reducible assumption | with_reducible apply keeps_State_doeSend | with_reducible apply keeps_State_readOp | with_reducible apply keeps_State_writeOp | split)

theorem keeps_State_sendIcmp {r0 : State} {s : State} (toMac src dst : List Nat) (type : Nat) (rest : List Nat) (hk : Keeps r0 s) : Keeps r0 (State.sendIcmp s toMac src dst type rest) := by
  unfold State.sendIcmp
  (try dsimp only)
  repeat' first
    | with_reducible assumption
    | with_reducible apply Keeps.send
    | (with_reducible refine Keeps.lit ?_; first | with_reducible assumption | with_reducible apply Keeps.send)

theorem keeps_State_advertise {r0 : State} {s : State} (f : MgmtFrame) (hk : Keeps r0 s) : Keeps r0 (State.advertise s f) := by
  unfold State.advertise
  (try dsimp only)
  repeat' first
    | with_reducible assumption
    | with_reducible apply keeps_State_sendIcmp
    | split

theorem keeps_State_echoReply {r0 : State} {s : State} (f : MgmtFrame) (hk : Keeps r0 s) : Keeps r0 (State.echoReply s f) := by
  unfold State.echoReply
  (try dsimp only)
  repeat' first
    | with_reducible assumption
    | with_reducible apply keeps_State_sendIcmp
    | split

theorem keeps_neighborSolicitation {r0 : State} {s : State} (f : MgmtFrame) (hk : Keeps r0 s) : Keeps r0 (neighborSolicitation s f) := by
  unfold neighborSolicitation
  repeat' first
    | with_reducible assumption
    | with_reducible apply keeps_State_advertise
    | split

theorem keeps_echoRequest {r0 : State} {s : State} (f : MgmtFrame) (hk : Keeps r0 s) : Keeps r0 (echoRequest s f) := by
  unfold echoRequest
  repeat' first
    | with_reducible assumption
    | with_reducible apply keeps_State_echoReply
    | split

theorem keeps_mgmtFrameReceive {r0 : State} {s : State} (f : MgmtFrame) (hk : Keeps r0 s) : Keeps r0 (mgmtFrameReceive s f) := by
  unfold mgmtFrameReceive
  repeat' first
    | with_reducible assumption
    | with_reducible apply keeps_State_addObj
    | with_reducible apply keeps_State_advertise
    | with_reducible apply keeps_State_echoReply
    | with_reducible apply keeps_bdpReceive
    | split
    | (with_reducible refine Keeps.lit ?_; first | with_reducible assumption | with_reducible apply keeps_State_addObj | with_reducible apply keeps_State_advertise | with_reducible apply keeps_State_echoReply | with_reducible apply keeps_bdpReceive | split)

theorem keeps_pcieHotReset {r0 : State} {s : State} (hk : Keeps r0 s) : Keeps r0 (pcieHotReset s) := by
  unfold pcieHotReset
  (try dsimp only)
  repeat' first
    | with_reducible assumption
    | split
    | (with_reducible refine Keeps.lit ?_; first | with_reducible assumption | split)

theorem keeps_d3hotEntry {r0 : State} {s : State} (hk : Keeps r0 s) : Keeps r0 (d3hotEntry s) := by
  unfold d3hotEntry
  (try dsimp only)
  repeat' first
    | with_reducible assumption
    | split
    | (with_reducible refine Keeps.lit ?_; first | with_reducible assumption | split)

theorem keeps_d3hotExit {r0 : State} {s : State} (hk : Keeps r0 s) : Keeps r0 (d3hotExit s) := by
  unfold d3hotExit
  (try dsimp only)
  repeat' first
    | with_reducible assumption
    | split
    | (with_reducible refine Keeps.lit ?_; first | with_reducible assumption | split)

theorem keeps_msixUnmask {r0 : State} {s : State} (v : Nat) (hk : Keeps r0 s) : Keeps r0 (msixUnmask s v) := by
  unfold msixUnmask
  (try dsimp only)
  repeat' first
    | with_reducible assumption
    | with_reducible apply Keeps.send
    | split
    | (with_reducible refine Keeps.lit ?_; first | with_reducible assumption | with_reducible apply Keeps.send | split)

theorem keeps_completionTimeout {r0 : State} {s : State} (id : Nat) (hk : Keeps r0 s) : Keeps r0 (completionTimeout s id) := by
  unfold completionTimeout
  (try dsimp only)
  repeat' first
    | with_reducible assumption
    | with_reducible apply keeps_stageComplete
    | with_reducible apply keeps_State_runMove
    | split
    | (with_reducible refine Keeps.lit ?_; first | with_reducible assumption | with_reducible apply keeps_stageComplete | with_reducible apply keeps_State_runMove | split)

theorem keeps_portLinkUp {r0 : State} {s : State} (hk : Keeps r0 s) : Keeps r0 (portLinkUp s) := by
  unfold portLinkUp
  repeat' first
    | with_reducible assumption
    | with_reducible apply keeps_State_setObj
    | split

theorem keeps_portLinkDown {r0 : State} {s : State} (hk : Keeps r0 s) : Keeps r0 (portLinkDown s) := by
  unfold portLinkDown
  repeat' first
    | with_reducible assumption
    | with_reducible apply keeps_State_setObj
    | split

theorem keeps_State_addCounts {r0 : State} {s : State} (cs : List Count) (hk : Keeps r0 s) : Keeps r0 (State.addCounts s cs) := by
  unfold State.addCounts
  (try dsimp only)
  repeat' first
    | with_reducible assumption
    | with_reducible apply keeps_State_addObj
    | (with_reducible refine Keeps.foldl ?_ ?_; intro _ _ _)

theorem keeps_State_ageDrains {r0 : State} {s : State} (hk : Keeps r0 s) : Keeps r0 (State.ageDrains s) := by
  unfold State.ageDrains
  (try dsimp only)
  repeat' first
    | with_reducible assumption
    | split
    | (with_reducible refine Keeps.lit ?_; first | with_reducible assumption | split)

theorem keeps_State_meterEnergy {r0 : State} {s : State} (hk : Keeps r0 s) : Keeps r0 (State.meterEnergy s) := by
  unfold State.meterEnergy
  (try dsimp only)
  repeat' first
    | with_reducible assumption
    | (with_reducible refine Keeps.foldl ?_ ?_; intro _ _ _)
    | (with_reducible refine Keeps.lit ?_; first | with_reducible assumption | (with_reducible refine Keeps.foldl ?_ ?_; intro _ _ _))

theorem keeps_State_linkCycle {r0 : State} {s : State} (hk : Keeps r0 s) : Keeps r0 (State.linkCycle s) := by
  unfold State.linkCycle
  (try dsimp only)
  repeat' first
    | with_reducible assumption
    | with_reducible apply keeps_State_sendCodewords
    | (with_reducible refine Keeps.foldl ?_ ?_; intro _ _ _)
    | split

theorem keeps_State_snagCycle {r0 : State} {s : State} (hk : Keeps r0 s) : Keeps r0 (State.snagCycle s) := by
  unfold State.snagCycle
  repeat' first
    | with_reducible assumption
    | with_reducible apply keeps_State_snagSample
    | split

theorem keeps_State_dumpCycle {r0 : State} {s : State} (hk : Keeps r0 s) : Keeps r0 (State.dumpCycle s) := by
  unfold State.dumpCycle
  repeat' first
    | with_reducible assumption
    | with_reducible apply keeps_State_takeRead
    | split
    | (with_reducible refine Keeps.lit ?_; first | with_reducible assumption | with_reducible apply keeps_State_takeRead | split)

theorem keeps_State_tick {r0 : State} {s : State} (hk : Keeps r0 s) : Keeps r0 (State.tick s) := by
  unfold State.tick
  (try dsimp only)
  repeat' first
    | with_reducible assumption
    | with_reducible apply keeps_State_meterEnergy
    | with_reducible apply keeps_State_addCounts
    | with_reducible apply keeps_State_ageDrains
    | with_reducible apply keeps_State_linkCycle
    | with_reducible apply keeps_State_snagCycle
    | with_reducible apply keeps_State_dumpCycle
    | split

end Sys2Proof.Machine
end

