-- ==== Sys2Proof/Laws/Limber.lean ====
section
/-!
SUPPORT. The lanes of Limber: what a masked write of a register leaves, and what an issued instruction does to the state.
-/

namespace Sys2Proof.Machine

theorem CoreData.foldl_setLane (r : Nat) (p : Nat → Bool) (v : Nat → F32) (ls : List Nat) (d : CoreData) :
    let x := ls.foldl (fun x l => if p l then x.setLane r l (v l) else x) d
    x = { d with lanes := x.lanes }
    ∧ ∀ reg l, l < 256 → (∀ k ∈ ls, k < 256) → Tab.get 0 x.lanes (256 * reg + l) =
        if reg = r ∧ l ∈ ls ∧ p l = true then v l else Tab.get 0 d.lanes (256 * reg + l) := by
  induction ls generalizing d with
  | nil => exact ⟨rfl, fun reg l hl _ => by simp⟩
  | cons a ls ih =>
    dsimp only [List.foldl_cons]
    obtain ⟨h1, h2⟩ := ih (if p a then d.setLane r a (v a) else d)
    refine ⟨?_, fun reg l hl hk => ?_⟩
    · rw [h1]; split <;> rfl
    · rw [h2 reg l hl (fun k hk' => hk k (List.mem_cons_of_mem _ hk'))]
      have ha : a < 256 := hk a (by simp)
      by_cases hp : p a = true
      · rw [if_pos hp]
        unfold CoreData.setLane
        rw [Tab.get_put]
        by_cases hc : reg = r ∧ l = a
        · obtain ⟨rfl, rfl⟩ := hc; simp [hp]
        · have hne : 256 * reg + l ≠ 256 * r + a := by omega
          rw [if_neg hne]
          by_cases hr : reg = r
          · have : l ≠ a := fun h => hc ⟨hr, h⟩
            simp [hr, this]
          · simp [hr]
      · rw [if_neg hp]
        by_cases hla : l = a
        · subst hla; simp [hp]
        · simp [hla]

/-- A masked write of a register: the selected lanes read the new values, every other lane the old one, and nothing else of
the core's data changes (R100). -/
theorem CoreData.writeLanes_eq (d : CoreData) (r : Nat) (p : Nat → Bool) (v : Nat → F32) :
    ∃ lanes, d.writeLanes r p v = { d with lanes := lanes }
    ∧ ∀ reg l, l < 256 → Tab.get 0 lanes (256 * reg + l) =
        if reg = r ∧ p l = true then v l else d.lane reg l := by
  obtain ⟨h1, h2⟩ := CoreData.foldl_setLane r p v (List.range 256) d
  refine ⟨_, h1, fun reg l hl => ?_⟩
  rw [h2 reg l hl (fun k hk => List.mem_range.1 hk)]
  simp [hl, CoreData.lane]

/-- Issue changes the data of the command's core and the command's phase (R94). -/
theorem State.issueLimber_eq {s : State} {id op : Nat} {f : Flight} (g : W128 → CoreData → CoreData) (d : CoreData)
    (h : s.startable id op = some f) (hd : g f.w0 (s.core f.core).data = d) :
    s.issueLimber id op g =
      (s.updCore f.core (fun c => { c with data := d })).updFlight id (fun x => { x with phase := .done }) := by
  subst hd
  simp [State.issueLimber, State.limberReady, h, State.updData, State.updCore, Tab.update, State.core]

end Sys2Proof.Machine
end

