-- ==== Sys2Proof/Tests/Slice0.lean ====
section
/-!
SUPPORT. Tests on small states: a witness for the hypotheses of each statement, clause by clause, ill-formed operands that are
refused, and effects worked out from the spec's rules.
-/

namespace Sys2Proof.Tests

open Sys2Proof.Machine

set_option Elab.async false

/-! ### Small states -/

/-- A memory holding numbers: address, bytes, value. -/
def bld (ws : List (Nat × Nat × Nat)) : Mem := ws.foldl (fun m e => m.writeLe e.1 e.2.1 e.2.2) {}

/-- A command word: its opcode and fields by lowest bit. -/
def word (op : Nat) (fs : List (Nat × Nat)) : W128 :=
  BitVec.ofNat 128 ((fs.map (fun e => e.2 * 2 ^ e.1)).foldl (· + ·) (op * 2 ^ 120))

/-- A plan image with one task and its stream (R271, R272). -/
def plan (ws : List W128) : Mem :=
  bld ([(12, 1, 1), (32, 4, 256), (36, 4, 512), (256, 4, 16), (260, 4, ws.length), (266, 1, 4)]
    ++ ws.mapIdx (fun i w => (272 + 16 * i, 16, w.toNat)))

/-- A plan image with the program of one unit (R405). -/
def prog (u : Nat) (ws : List W128) : Mem :=
  let e := (unitSection u).getD (0, 0)
  bld ([(32 + 8 * e.1, 4, 512), (36 + 8 * e.1, 4, 512), (512 + 16 * e.2, 4, 256), (516 + 16 * e.2, 4, ws.length)]
    ++ ws.mapIdx (fun i w => (768 + 16 * i, 16, w.toNat)))

/-- A module in READY and RUN. -/
def rdy : State := { objs := [(okey 0x1480 1, 4)] }

/-- An object's value placed into a state. -/
def ob (k v : Nat) (s : State) : State := s.setObj k v

/-- Context 0 with its one task on core 0. -/
def task (ws : List W128) (s : State := rdy) : State :=
  { s with
    ctxs := [(0, { st := .placed, len := 1024, image := plan ws, places := [(0, 1)] })]
    cores := [(0, { phase := .running, engs := [0, 1, 2, 3] })] }

/-- Context 0 with a program on one unit. -/
def unit (u : Nat) (ws : List W128) (s : State := rdy) : State :=
  { s with ctxs := [(0, { st := .placed, len := 1024, image := prog u ws })] }

/-- One dispatched command on core 0. -/
def cmd (q : QueueId) (w : W128) : Flight := { id := 1, ctx := 0, owner := 0, queue := q, words := [w] }

/-- One dispatched step on a unit. -/
def step1 (u : Nat) (ws : List W128) : Flight := { id := 1, ctx := 0, owner := u, queue := .unit, words := ws }

/-- The state with dispatched commands. -/
def fly (fs : List Flight) (s : State) : State := { s with flights := fs, nextId := fs.length + 1 }

/-- The state that a command answers. -/
def nx : Host.Outcome State Fault Refusal → State
  | .next s => s
  | _ => State.reset

/-- Whether a command answers this very state. -/
def stays (o : Host.Outcome State Fault Refusal) (s : State) : Bool :=
  match o with
  | .next t => t = s
  | _ => false

/-- Whether a command answers a next state. -/
def ok : Host.Outcome State Fault Refusal → Bool
  | .next _ => true
  | _ => false

/-! ### Shells -/

/-- The head of a shell. -/
def hd (s : State) (sh : Shell) : Head := (s.head sh).getD { ctx := 0, owner := 0, unit := 0, core := 0, words := [] }

/-- Whether a head may dispatch as an opcode through a queue. -/
def may (s : State) (sh : Shell) (op : Nat) (q : Head → QueueId := fun _ => .none) : Bool := (s.readyHead sh op q).isSome

theorem test_nop_end : let s := task [word 0x00 [(104, 2), (112, 5)], word 0x03 []] { rdy with tok := [(ckey 0 0 5, 2)] }
    let t := nx (exec (.nop (.core 0)) s)
    may s (.core 0) 0x00 = true ∧ Tab.get 0 t.acq (ckey 0 0 5) = 2 ∧ (t.stream 0 0).pos = 1
    ∧ may t (.core 0) 0x03 = true ∧ ((nx (exec (.endStream (.core 0)) t)).core 0).phase = .free := by decide +kernel

theorem test_settle_waits : let s := task [word 0x01 []]
    let b := fly [cmd .limber (word 0x63 [])] s
    may s (.core 0) 0x01 = true ∧ s.streamIdle (hd s (.core 0)) = true
    ∧ ((nx (exec (.settle (.core 0)) s)).stream 0 0).pos = 1
    ∧ may b (.core 0) 0x01 = true ∧ b.streamIdle (hd b (.core 0)) = false ∧ stays (exec (.settle (.core 0)) b) b = true := by
  decide +kernel

theorem test_stepmark_order : let s := task [word 0x02 [(0, 0)], word 0x02 [(0, 1)], word 0x02 [(0, 3)]]
    let t := nx (exec (.stepmark (.core 0)) s)
    let u := nx (exec (.stepmark (.core 0)) t)
    let v := nx (exec (.stepmark (.core 0)) u)
    may s (.core 0) 0x02 = true ∧ (t.stream 0 0).mark = some 0 ∧ (u.stream 0 0).mark = some 1 ∧ u.curStep 0 = some 1
    ∧ may u (.core 0) 0x02 = true ∧ u.stopped 0 (hd u (.core 0)).w = false
    ∧ (pinStep s (hd s (.core 0)) 0).toOption.isSome = true
    ∧ (v.ctx 0).holdFault = 0x5002 ∧ (v.stream 0 0).pos = 2 ∧ s.marks 0 = [] := by decide +kernel

theorem test_stop_step : let s := task [word 0x02 [(0, 7)]] (ob (okey 0x2100 9) 6 rdy)
    may s (.core 0) 0x02 = true ∧ s.stopped 0 (hd s (.core 0)).w = true ∧ stays (exec (.stepmark (.core 0)) s) s = true
    ∧ s.access 0 0x2100 = 0 ∧ (nx (exec (.stopStepWrite 0 0 7) s)).obj (okey 0x2100 9) = 7
    ∧ s.access 17 0x213F = 0 ∧ ok (exec (.stopStepWrite 17 63 0xFFFFFFFF) s) = true := by decide +kernel

/-- A plan whose task binds token counter 5 and credit counter 6 of capacity 10 to itself. -/
def bound : Mem := [(48, 4, 768), (52, 4, 32), (772, 1, 5), (784, 1, 1), (788, 1, 6), (792, 2, 10)].foldl
  (fun m e => m.writeLe e.1 e.2.1 e.2.2) (plan [word 0x00 [], word 0x00 []])

/-- Context 0 with that plan. -/
def posted (ps : List Post) : State :=
  { task [] with ctxs := [(0, { st := .placed, len := 1024, image := bound, places := [(0, 1)] })], posts := ps }

/-- A post of the task to a counter of its own. -/
def post (k n : Nat) (c : Bool) : Post := { ctx := 0, producer := 0, target := 0, counter := k, amount := n, credit := c }

theorem test_token_arrives : let s := posted [post 5 3 false]
    let u : State := { s with tok := [(ckey 0 0 5, 32766)] }
    postReady s.posts 0 = true ∧ s.dieRuns = true ∧ s.loaded 0 = true ∧ s.ownerDown 0 0 = false
    ∧ (nx (exec (.postArrival 0) s)).avail 0 0 5 = 3 ∧ (nx (exec (.postArrival 0) s)).posts = []
    ∧ ((nx (exec (.postArrival 0) u)).ctx 0).holdFault = 0x5003
    ∧ ((nx (exec (.postArrival 0) (posted [post 7 3 false]))).ctx 0).holdFault = 0x5004 := by decide +kernel

theorem test_credit_returns : let s := posted [post 6 10 true]
    postReady s.posts 0 = true ∧ ((imgBindsOf (s.ctx 0).image 0 6 true).filter (fun b => b.names 0)).head?.isSome = true
    ∧ (nx (exec (.creditReturn 0) s)).credits 0 0 6 = 10
    ∧ ((nx (exec (.creditReturn 0) (posted [post 6 11 true]))).ctx 0).holdFault = 0x5005
    ∧ postReady [post 6 1 true, post 6 1 true] 1 = false := by decide +kernel

theorem test_command_completes : let f := { cmd .limber (word 0x63 [(90, 1), (82, 5), (78, 3)]) with phase := .done }
    let s := fly [f] (posted [])
    let t := nx (exec (.commandComplete 1) s)
    s.flight 1 = some f ∧ completesPlainly f.op = true ∧ s.ownerDown f.ctx f.owner = false ∧ t.flights = []
    ∧ t.posts = [post 5 3 false] ∧ completesPlainly 0x10 = true := by decide +kernel

/-! ### Matrix engines -/

/-- The queue of an engine command. -/
def engQ (s : State) (h : Head) : QueueId := .engine (s.cmdEng h.core h.w)

/-- Context 0's task at one command, with tile 0 of its first engine in a state. -/
def onTile (st : TileState) (owner : Nat) (w : W128) : State :=
  { task [w] with cores := [(0, { phase := .running, engs := [0, 1, 2, 3]
                                  data := { tiles := if st = .free then [] else [(0, { st := st, owner := owner })] } })] }

/-- Whether the head may dispatch into its engine's queue, and what the scoreboard says. -/
def scored (op : Nat) (s : State) : Bool × Admission :=
  let h := hd s (.core 0)
  (may s (.core 0) op (engQ s), admission (tileUse h.w) (s.tile h.core (s.cmdTile h.core h.w)) h.ctx)

theorem test_engine_admission :
    scored 0x10 (onTile .free 0 (word 0x10 [(72, 1)])) = (true, .pass)
    ∧ scored 0x11 (onTile .free 0 (word 0x11 [])) = (true, .pass)
    ∧ scored 0x12 (onTile .opened 0 (word 0x12 [])) = (true, .pass)
    ∧ scored 0x13 (onTile .opened 0 (word 0x13 [])) = (true, .pass)
    ∧ scored 0x14 (onTile .opened 0 (word 0x14 [])) = (true, .pass)
    ∧ scored 0x15 (onTile .free 0 (word 0x15 [])) = (true, .pass)
    ∧ scored 0x16 (onTile .free 0 (word 0x16 [])) = (true, .pass) := by decide +kernel

theorem test_engine_turned_away :
    let f := onTile .opened 1 (word 0x12 [])
    let r := onTile .free 0 (word 0x12 [])
    let w := onTile .closing 0 (word 0x11 [])
    (scored 0x12 f).2 = .foreign ∧ ((nx (exec (.drain (.dispatch (.core 0))) f)).ctx 0).holdFault = 0x5006
    ∧ (scored 0x12 r).2 = .refuse ∧ ((nx (exec (.drain (.dispatch (.core 0))) r)).ctx 0).holdFault = 0x5007
    ∧ (scored 0x11 w).2 = .wait ∧ (nx (exec (.preload (.dispatch (.core 0)) false) w)).obj (okey 0x9000 4) = 1
    ∧ tileUse (word 0x11 []) = .opening ∧ tileUse (word 0x14 []) = .releasing := by decide +kernel

/-- One engine command queued on core 0, tile 0 open. -/
def eng (w : W128) (pad : Mem := {}) : State :=
  fly [cmd (.engine 0) w] { onTile .opened 0 w with
    cores := [(0, { phase := .running, engs := [0, 1, 2, 3], data := { pad := pad, tiles := [(0, { st := .opened })] } })] }

/-- An MMA of one binary32 K cant, A at 0 and B at 32768: row 0 of A is 2, 0, ..., row 0 of B is 3, 0, .... -/
def mma1 : State := eng (word 0x10 [(72, 1), (56, 1), (24, 512)]) (bld [(0, 4, 0x40000000), (32768, 4, 0x40400000)])

theorem test_mma_starts : let s := nx (exec (.mma (.start 1) false) mma1)
    (mma1.startable 1 0x10).isSome = true ∧ mma1.issueFree (mma1.flights.headD (cmd .none 0)) = true
    ∧ s.flights.map (·.phase) = [.running] ∧ s.dieRuns = true ∧ s.unitDown 0 = false
    ∧ ((s.mmas 0 (.engine 0)).find? (fun g => g.rows < 64 * (mmaBody g.w0).kc)).isSome = true := by decide +kernel

theorem test_mma_element :
    accumulate [valOf 0, Val.mul (valOf 0x40000000) (valOf 0x40400000), Val.mul (valOf 0x3F800000) (valOf 0xBF800000)]
      = (0x40A00000, (accumulate [valOf 0, valOf 0x40A00000]).2) := by decide +kernel

theorem test_preload_starts : ((eng (word 0x11 [])).startable 1 0x11).isSome = true := by decide +kernel

theorem test_drain_waits_for_rows : let d := cmd (.engine 0) (word 0x12 [])
    let m := { cmd (.engine 0) (word 0x10 [(56, 1)]) with phase := .running }
    let s := fly [m, { d with id := 2 }] (eng (word 0x12 []))
    let k := fly [m, { cmd (.engine 0) (word 0x13 []) with id := 2 }] (eng (word 0x13 []))
    (s.startable 2 0x12).isSome = true ∧ s.tileQuiet { d with id := 2 } = false ∧ s.readout 0 (.engine 0) = none
    ∧ (nx (exec (.drain (.start 2)) s)).flights.map (·.phase) = [.running, .running]
    ∧ ((nx (exec (.drain (.start 2)) s)).readout 0 (.engine 0)).isSome = true ∧ (k.startable 2 0x13).isSome = true
    ∧ (nx (exec (.topk (.start 2)) k)).flights.map (·.phase) = [.running, .running]
    ∧ (let f := { d with id := 2, phase := .running }
       let r := fly [{ m with rows := 64 }, f] (eng (word 0x12 []))
       r.tileQuiet f = true ∧ stays (exec (.drain (.start 2)) r) r = true) := by decide +kernel

theorem test_tilerel_and_sets : let s := eng (word 0x14 [])
    let c := eng (word 0x15 [(72, 3), (32, 0x40000000), (0, 5)])
    let l := eng (word 0x16 [(72, 3), (64, 0x80), (32, 0x40000000), (0, 5)])
    (s.startable 1 0x14).isSome = true ∧ s.tileQuiet (cmd (.engine 0) (word 0x14 [])) = true ∧ (s.tile 0 0).cap = none
    ∧ (nx (exec (.tilerel (.start 1)) s)).flights.map (·.phase) = [.done]
    ∧ (c.startable 1 0x15).isSome = true ∧ (l.startable 1 0x16).isSome = true
    ∧ ((nx (exec (.cvtsc (.start 1)) c)).core 0).data.set 0 3 = { s := 0x40000000, b := 5 }
    ∧ ((nx (exec (.cvtcl (.start 1)) l)).core 0).data.set 0 3 = { hi := 0x40000000, lo := 5, tscale := 0x80 } := by
  decide +kernel

theorem test_drain_and_topk_ready : let s := eng (word 0x12 [(46, 1), (47, 512), (30, 1024)])
    let k := eng (word 0x13 [(40, 512)])
    (s.startable 1 0x12).isSome = true ∧ s.tileQuiet (s.flights.headD (cmd .none 0)) = true
    ∧ (k.startable 1 0x13).isSome = true ∧ k.tileQuiet (k.flights.headD (cmd .none 0)) = true := by decide +kernel

/-! ### The Limber -/

/-- One Limber command queued on core 0, with lanes of registers and masks. -/
def lim (w : W128) (lanes : Tab F32 := []) (masks : Tab (BitVec 256) := []) (pad : Mem := {}) : State :=
  fly [cmd .limber w] { task [w] with
    cores := [(0, { phase := .running, engs := [0, 1, 2, 3], data := { pad := pad, lanes := lanes, masks := masks } })] }

/-- Lane l of register r after the command has run. -/
def laneOf (o : Host.Outcome State Fault Refusal) (r l : Nat) : F32 := ((nx o).core 0).data.lane r l

/-- Whether each Limber opcode may dispatch from core 0. -/
def limMay (op : Nat) : Bool := may (task [word op []]) (.core 0) op (fun _ => .limber)

theorem test_limber_dispatch : ((Claims.limberRows (.start 1)).map (fun r => limMay r.2)).all id = true := by decide +kernel

theorem test_limber_start :
    ((Claims.limberRows (.start 1)).map (fun r => ((lim (word r.2 [])).startable 1 r.2).isSome)).all id = true := by
  decide +kernel

/-- VD = 3, VA = 1, VB = 2, VC = 4 in lanes 0: 2.0, 3.0, 1.0. -/
def abc (op : Nat) : State :=
  lim (word op [(72, 3), (66, 1), (60, 2), (54, 4), (50, 2)]) [(256, 0x40000000), (512, 0x40400000), (1024, 0x3F800000)] [(2, 1)]

theorem test_lane_arithmetic :
    laneOf (exec (.vadd (.start 1)) (abc 0x68)) 3 0 = 0x40A00000
    ∧ laneOf (exec (.vsub (.start 1)) (abc 0x69)) 3 0 = 0xBF800000
    ∧ laneOf (exec (.vmul (.start 1)) (abc 0x6A)) 3 0 = 0x40C00000
    ∧ laneOf (exec (.vfma (.start 1)) (abc 0x6B)) 3 0 = 0x40E00000
    ∧ laneOf (exec (.vfnma (.start 1)) (abc 0x6C)) 3 0 = 0xC0A00000
    ∧ laneOf (exec (.vmax (.start 1)) (abc 0x6D)) 3 0 = 0x40400000
    ∧ laneOf (exec (.vmin (.start 1)) (abc 0x6E)) 3 0 = 0x40000000
    ∧ laneOf (exec (.vneg (.start 1)) (abc 0x70)) 3 0 = 0xC0000000
    ∧ laneOf (exec (.vdiv (.start 1)) (abc 0x71)) 3 0 = 0x3F2AAAAB := by decide +kernel

theorem test_mask_keeps_lanes : let s := lim (word 0x63 [(72, 3), (50, 2), (0, 0x40000000)]) [(768, 1), (769, 1)] [(2, 1)]
    laneOf (exec (.vimm (.start 1)) s) 3 0 = 0x40000000 ∧ laneOf (exec (.vimm (.start 1)) s) 3 1 = 1
    ∧ laneOf (exec (.vimm (.start 1)) s) 0 0 = 0 := by decide +kernel

theorem test_vstat : let s := lim (word 0x62 [(74, 5), (47, 2)])
    let t := nx (exec (.vstat (.start 1)) s)
    (s.startable 1 0x62).isSome = true ∧ (t.core 0).data.pad.readLe 132 4 = 0x500 ∧ t.scalerQ.map (·.item) = [5] := by
  decide +kernel

/-! ### Movers and tiers -/

/-- A one-dimensional binary32 descriptor of 64 elements at region 1. -/
def desc1 (dir : Nat) : Nat := dir * 2 ^ 510 + 2 ^ 476 + 2 ^ 20 * 2 ^ 376 + 64 * 2 ^ 312

/-- Region 1 home in Landing frame 64 and region 2 home in DDR, both of context 0, pool frame 65, a live Planer link, and
descriptors 0 to 2 with DIR 0, 1, 2. -/
def tier (s : State) : State :=
  { s with
    tmap := [(1, { home := .landing, frame := 64, allocated := true }),
             (2, { home := .ddr, homeFrame := 32, allocated := true })]
    frames := [(64, .home 1), (65, .pool 0 false)]
    links := [(16, { st := .up, lanes := 0xFFF })]
    descs := [(0, { st := .live, image := desc1 0 }), (1, { st := .live, image := desc1 1 }),
              (2, { st := .live, image := desc1 2 })] }

/-- FILL and SPILL words: descriptor, rows along dimension 1, slot 4096. -/
def fillW (op d slot : Nat) : W128 := word op [(66, d), (64, 1), (44, slot)]

/-- Whether FILL (0x90) or SPILL (0x91) may dispatch, and what its descriptor, window and regions say. -/
def moveSays (op d slot : Nat) (t : State → State) : Bool × Bool × Bool × Option Nat :=
  let s := t (tier (task [fillW op d slot]))
  let h := hd s (.core 0)
  let o := (s.core 0).data.win 0
  let u := (s.useDesc 0 d (op = 0x90) (op = 0x91)).getD (descOf (desc1 2))
  (may s (.core 0) op (fun _ => .movePort), (s.useDesc 0 d (op = 0x90) (op = 0x91)).isSome, badWindow u h.w o,
    s.notResident (s.pieceRegions 0 u (op = 0x91) (winPieces u 1 o)))

/-- Region 1 evicting. -/
def leaving (s : State) : State := s.updRegion 1 (fun g => { g with busy := .evict })

theorem test_fill_spill_dispatch :
    moveSays 0x90 0 64 id = (true, true, false, none) ∧ moveSays 0x91 1 64 id = (true, true, false, none)
    ∧ moveSays 0x90 1 64 id = (true, false, false, none) ∧ moveSays 0x90 0 65535 id = (true, true, true, none)
    ∧ moveSays 0x91 2 64 leaving = (true, true, false, some 0x500A) := by decide +kernel

theorem test_fill_effects :
    ((nx (exec (.fill (.dispatch (.core 0)) none) (tier (task [fillW 0x90 1 64])))).ctx 0).holdFault = 0x5008
    ∧ ((nx (exec (.fill (.dispatch (.core 0)) none) (tier (task [fillW 0x90 0 65535])))).ctx 0).holdFault = 0x500C
    ∧ (nx (exec (.spill (.dispatch (.core 0)) none) (tier (task [fillW 0x91 2 64])))).flights.map (·.regions) = [[1]] := by
  decide +kernel

/-- A dispatched FILL or SPILL over region r. -/
def moving (op r : Nat) : State :=
  fly [{ cmd .movePort (fillW op 2 64) with
         descs := [{ num := 2, image := desc1 2 }], regions := [r], origin := [0, 0, 0, 0] }] (tier (task [fillW op 2 64]))

theorem test_move_port_start :
    ((moving 0x90 1).startable 1 0x90).isSome = true ∧ (moving 0x90 1).touchesNone 1 = false
    ∧ ((moving 0x91 1).startable 1 0x91).isSome = true ∧ (moving 0x91 1).touchesNone 1 = false
    ∧ (descOf (desc1 2)).c6 = false ∧ (moving 0x90 9).touchesNone 1 = true
    ∧ ((moving 0x90 9).startable 1 0x90).isSome = true ∧ ((moving 0x91 9).startable 1 0x91).isSome = true
    ∧ (match exec (.fill (.start 1) none) (moving 0x90 9) with | .fault .unmapped => true | _ => false) = true := by
  decide +kernel

/-- The PLL of a PHY out of lock: stack k of the Landing is 21 + k, the DDR of Planer q 29 + q (R361; log entry 73). -/
def unlocked (k : Nat) (s : State) : State := { s with power := { s.power with plls := [(k, true)] } }

theorem test_phy_out_of_lock : let s := moving 0x90 1
    let a := (winPieces (descOf (desc1 2)) 1 [0, 0, 0, 0]).map (fun p => s.resolve p.addr)
    a.all (fun l => !s.phyDown l) = true ∧ a.any (fun l => (unlocked 21 s).phyDown l) = true ∧ s.physDown = false
    ∧ (unlocked 21 s).physDown = true ∧ s.unitDown landingUnit = false
    ∧ (descOf (((moving 0x91 1).flights.headD (cmd .none 0)).descs.headD { num := 0, image := 0 }).image).c6 = false
    ∧ ((unlocked 21 s).startable 1 0x90).isSome = true := by decide +kernel

/-- A Landing that is being reset discards what is written. -/
def resetting (s : State) : State := { s with downUnits := [landingUnit] }

theorem test_landing_reset_discards : (resetting rdy).unitDown landingUnit = true
    ∧ (resetting rdy).locWrite (.landing 5) 9 = resetting rdy := by decide +kernel

theorem test_winset : let s := task [word 0x92 [(74, 3), (73, 1), (49, 7), (25, 9)]]
    let t := nx (exec (.winset (.core 0)) s)
    may s (.core 0) 0x92 = true ∧ (t.core 0).data.win 3 = [0, 0, 7, 9] := by decide +kernel

theorem test_tier_space : let s := tier rdy
    let a := 2 ^ 26 + 5
    let v : State := { s with serving := [(0, { on := true, record := 100 * 2 ^ 171 + 2 ^ 191 + 2 ^ 163 })] }
    s.isKv 1 = false ∧ (s.tierWrite a 7).tierRead a = 7 ∧ (s.tierWrite a 7).landing.rd (64 * 2 ^ 26 + 5) = 7
    ∧ v.isKv 100 = true ∧ (v.region 100).staged = false ∧ v.tierWrite (100 * 2 ^ 26) 7 = v
    ∧ ((s.updRegion 2 (fun g => { g with staged := true, frame := 65 })).tierWrite (2 * 2 ^ 26) 1).resolve (2 * 2 ^ 26)
      = .landing (65 * 2 ^ 26) := by decide +kernel

/-- A MOVE of one row of descriptor `sd` into `dd`. -/
def moveW (sd dd : Nat) : List W128 :=
  [word 0x98 [(76, 3), (64, sd), (52, dd), (50, 1), (40, 0xE4), (28, 1), (16, 1), (4, 1)], 0, 0,
    word 0 [(96, 0x3F800000), (32, 0x7F800000), (0, 0xFF800000)]]

/-- The module with a MOVE at the head of a Skidder's program, and what its rules say. -/
def moverSays (sd dd : Nat) (t : State → State) : Bool × Option Nat × Bool :=
  let s := t (tier (unit 0x80 (moveW sd dd)))
  let h := hd s (.unit 0x80 0)
  let b := moveBody h.words
  let ds := (s.useDesc 0 b.sdesc true false).getD (descOf 0)
  let dd := (s.useDesc 0 b.ddesc false true).getD (descOf 0)
  (may s (.unit 0x80 0) 0x98 (fun _ => .unit),
    s.moveFault h b ds dd (s.moveRegions 0 b ds dd false) (s.moveRegions 0 b ds dd true), s.moveBusy 0 b ds dd)

theorem test_move_dispatch : moverSays 0 1 id = (true, none, false) ∧ moverSays 0 1 leaving = (true, some 0x500A, false) := by
  decide +kernel

/-- A dispatched MOVE over region r. -/
def moverRun (r : Nat) : State :=
  fly [{ step1 0x80 (moveW 0 1) with
         descs := [{ num := 0, image := desc1 0 }, { num := 1, image := desc1 1 }], regions := [r] }] (tier rdy)

theorem test_move_start : let s := moverRun 1
    let d := moverRun 2
    let w : State := { moverRun 2 with links := [] }
    (s.startableStep 1 0x98).isSome = true ∧ s.touchesNone 1 = false ∧ (s.region 1).staged = false
    ∧ s.homeUp (s.region 1) = true ∧ d.homeUp (d.region 2) = true ∧ (w.startableStep 1 0x98).isSome = true
    ∧ w.touchesNone 1 = false ∧ w.homeUp (w.region 2) = false ∧ stays (exec (.move (.start 1) none) w) w = true
    ∧ (moverRun 9).touchesNone 1 = true ∧ ((moverRun 9).startableStep 1 0x98).isSome = true
    ∧ (match exec (.move (.start 1) none) (moverRun 9) with | .fault .unmapped => true | _ => false) = true := by
  decide +kernel

/-- A staging step's word: region and frame. -/
def stageW (op r f : Nat) : W128 := word op [(56, r), (43, f)]

/-- The module with a staging step at the head of a Skidder's program. -/
def staging (op r f : Nat) : State := tier (unit 0x80 [stageW op r f])

/-- Region 2 staged in frame 65. -/
def staged2 (s : State) : State :=
  (s.updRegion 2 (fun g => { g with staged := true, frame := 65 })).setFrame 65 (.staged 0 2)

theorem test_stage_dispatch : let s := staging 0x99 2 65
    let n := staging 0x99 2 66
    let o := staging 0x99 3 65
    let t := nx (exec (.stage (.dispatch (.unit 0x80 0))) s)
    may s (.unit 0x80 0) 0x99 (fun _ => .unit) = true ∧ s.stageFault (hd s (.unit 0x80 0)) false = none
    ∧ (t.region 2).busy = .stage ∧ t.frame 65 = .pool 0 true
    ∧ s.frame 66 = .free ∧ ((nx (exec (.stage (.dispatch (.unit 0x80 0))) n)).ctx 0).holdFault = 0x500B
    ∧ o.stageFault (hd o (.unit 0x80 0)) false = some 0x7002
    ∧ ((nx (exec (.stage (.dispatch (.unit 0x80 0))) o)).ctx 0).holdFault = 0x7002 := by decide +kernel

/-- A dispatched staging step in a phase. -/
def stageRun (op : Nat) (p : Phase) (s : State) : State :=
  fly [{ step1 0x80 [stageW op 2 65] with phase := p, regions := [2] }] s

theorem test_stage_run : let q := stageRun 0x99 .queued (tier rdy)
    let s := stageRun 0x99 .running (tier rdy)
    (q.startableStep 1 0x99).isSome = true
    ∧ (nx (exec (.stage (.start 1)) q)).flights.map (·.phase) = [.running]
    ∧ (s.runningStep 1 0x99 .running).isSome = true ∧ s.memWf = true ∧ (s.region 2).home = .ddr
    ∧ ((nx (exec (.stageComplete 1 none) s)).region 2).staged = true
    ∧ (nx (exec (.stageComplete 1 (some 0)) s)).frame 65 = .pool 0 false
    ∧ s.granHolds 2 = false ∧ s.physDown = false ∧ s.copyStop (s.region 2) 65 [(0, 2 ^ 26)] = none
    ∧ (unlocked 29 s).copyStop (s.region 2) 65 [(0, 2 ^ 20)] = some 0 := by decide +kernel

theorem test_evict_dispatch : let s := staged2 (staging 0x9A 2 0)
    let n := staging 0x9B 2 0
    let o := staging 0x9A 3 0
    may s (.unit 0x80 0) 0x9A (fun _ => .unit) = true ∧ s.stageFault (hd s (.unit 0x80 0)) true = none
    ∧ ((nx (exec (.evict (.dispatch (.unit 0x80 0))) s)).region 2).busy = .evict
    ∧ may n (.unit 0x80 0) 0x9B (fun _ => .unit) = true
    ∧ ((nx (exec (.clean (.dispatch (.unit 0x80 0))) n)).ctx 0).holdFault = 0x500B
    ∧ o.stageFault (hd o (.unit 0x80 0)) true = some 0x7002 := by decide +kernel

/-- Granule i of slot 0 in the receive buffer of Planer 0; its emission touches region 2. -/
def granule (i : Nat) (p : GranPhase) : Granule :=
  { id := 7, q := 0, ctx := 0, slot := 0, gran := i, step := 0, epoch := 0, fmt := 0, tsc := 0, data := [], phase := p }

theorem test_evict_run : let q := stageRun 0x9A .queued (staged2 (tier rdy))
    let r := stageRun 0x9A .running (staged2 (tier rdy))
    let d := stageRun 0x9A .drained (staged2 (tier rdy))
    let g : State := { r with rxBuf := [granule 0 .waiting], slots := [(0, { image := 65536 * 2 ^ 200 + 2 ^ 27 * 2 ^ 154 })] }
    (q.startableStep 1 0x9A).isSome = true ∧ (nx (exec (.evict (.start 1)) q)).flights.map (·.phase) = [.running]
    ∧ (r.runningStep 1 0x9A .running).isSome = true
    ∧ (nx (exec (.evictDrainEnd 1) r)).flights.map (·.phase) = [.drained]
    ∧ (d.runningStep 1 0x9A .drained).isSome = true
    ∧ ((nx (exec (.evictComplete 1 none) d)).region 2).staged = false
    ∧ (nx (exec (.evictComplete 1 none) d)).frame 65 = .pool 0 false
    ∧ d.backStop (d.region 2) none = none ∧ stays (exec (.evictDrainEnd 1) g) g = true ∧ g.granHolds 2 = true
    ∧ (let w := d.updRegion 2 (fun g => { g with pages := [(0, true)] })
       w.backStop (w.region 2) (some 64) = some 64 ∧ ((nx (exec (.evictComplete 1 (some 64)) w)).region 2).staged = true
       ∧ ((nx (exec (.evictComplete 1 (some 64)) w)).ctx 0).holdFault = 0x2001
       ∧ (unlocked 29 w).backStop (w.region 2) none = some 0)
    ∧ (let u := d.updRegion 2 (fun g => { g with staged := false })
       ((nx (exec (.evictComplete 1 none) u)).region 2).busy = .idle) := by decide +kernel

theorem test_clean_run : let q := stageRun 0x9B .queued (staged2 (tier rdy))
    let r := stageRun 0x9B .running (staged2 (tier rdy))
    let w := (staged2 (tier rdy)).updRegion 2 (fun g => { g with pages := [(0, true)] })
    let e := nx (exec (.clean (.start 1)) (q.updRegion 2 (fun g => { g with pages := [(0, true), (1, true)] })))
    let c := (e.region 2).toClean (e.flights.headD (cmd .none 0))
    let fails := nx (exec (.cleanComplete 1 (some 4096)) e)
    (e.region 2).pages = [] ∧ c.pages = [(0, true), (1, true)] ∧ e.backStop c (some 4096) = some 4096
    ∧ (fails.region 2).pages = [(1, true)] ∧ fails.flights = []
    ∧ ((nx (exec (.cleanComplete 1 (some 4096)) (e.markDirty (2 * 2 ^ 26)))).region 2).pages = [(0, true), (1, true)]
    ∧ (q.startableStep 1 0x9B).isSome = true ∧ (nx (exec (.clean (.start 1)) q)).flights.map (·.phase) = [.running]
    ∧ (r.runningStep 1 0x9B .running).isSome = true ∧ (r.region 2).staged = true
    ∧ r.backStop ((r.region 2).toClean (r.flights.headD (cmd .none 0))) none = none
    ∧ ((nx (exec (.cleanComplete 1 none) r)).region 2).dirty = false
    ∧ (let u := r.updRegion 2 (fun g => { g with staged := false })
       ((nx (exec (.cleanComplete 1 none) u)).region 2).busy = .idle)
    ∧ w.memWf = true ∧ (w.region 2).home = .ddr ∧ (w.region 2).homeFrame = 32 ∧ (w.region 2).pages = [(pageOf (2 * 2 ^ 26), true)]
    := by decide +kernel

theorem test_descriptors : let s : State := { rdy with
      allocs := [(0, { first := 1, count := 1 })]
      pobjs := [(pkey 0 0x280002, desc1 2)] }
    let c := nx (exec (.descCreate 0 0) s)
    let u := nx (exec (.descCreate 0 0) c)
    let b := nx (exec (.descCreate 0 0) { s with allocs := [] })
    s.access 0 0x2800 = 0 ∧ s.obj 0x280003 ≠ 1 ∧ (s.desc 0 0).st = .free ∧ validateDesc (s.alloc 0) (desc1 2) = none
    ∧ (c.desc 0 0).st = .live ∧ c.obj 0x280003 = 2 ∧ u.obj 0x280004 = 10 * 2 ^ 28
    ∧ validateDesc (fun _ => {}) (desc1 2) = some (9, false, 0) ∧ b.obj 0x280004 = 9 * 2 ^ 28
    ∧ ((nx (exec (.descDestroy 0 0 0) c)).desc 0 0).st = .free
    ∧ stays (exec (.descDestroy 0 0 4095) c) c = true
    ∧ (nx (exec (.descDestroy 0 0 4096) c)).obj 0x121005 = 1 := by decide +kernel

theorem test_c6_flush : let s := task []
    let t := nx (exec (.c6Flush 0 0) s)
    s.access 0 0x2800 = 0 ∧ t.obj 0x280009 = 1 ∧ (t.ctx 0).c6Mark = some 1
    ∧ (nx (exec (.c6FlushComplete 0) t)).obj 0x280009 = 0 := by decide +kernel

/-- A C6 table of one entry at the start of region 1: valid, readable and not writable, tier page 32; the last flush has seen it. -/
def paged : State :=
  let m : Mem := bld [(0, 8, 2 ^ 63 + 2 ^ 62 + 32)]
  { (tier (task [])).updCtx 0 (fun c => { c with c6Mark := some 1, c6Old := m }) with
    objs := [(okey 0x1480 1, 4), (okey 0x2800 7, 2 ^ 26), (okey 0x2800 8, 1), (okey 0x2800 9, 1)]
    landing := bld [(64 * 2 ^ 26, 8, 2 ^ 63 + 2 ^ 62 + 32)] }

theorem test_c6_translate : paged.c6Translate 0 5 false = some (2 ^ 26 + 5) ∧ paged.c6Translate 0 5 true = none
    ∧ paged.c6Translate 0 (2 ^ 21) false = none ∧ paged.c6Translate 1 5 false = none
    ∧ ((nx (exec (.c6FlushComplete 0) { paged with ctxs := [(0, { c6Mark := some 1 })] })).ctx 0).c6Old
      = (paged.ctx 0).c6Old := by decide +kernel

/-- REGION_ARG and TMAP_SEL of path 0. -/
def argued (r x : Nat) (s : State) : State := { s with pobjs := [(pkey 0 0x301001, r), (pkey 0 0x301004, x)] }

theorem test_map : let l := argued 5 (2 ^ 61 + 100 * 2 ^ 35) rdy
    let d := argued 5 (2 * 2 ^ 61 + 32 * 2 ^ 15) rdy
    let b := argued 5 (2 ^ 61) rdy
    l.access 0 0x3010 = 0 ∧ l.mapReason 5 (2 ^ 61 + 100 * 2 ^ 35) = 0 ∧ argHome (2 ^ 61 + 100 * 2 ^ 35) = some .landing
    ∧ (nx (exec (.mapRegion 0) l)).frame 100 = .home 5 ∧ d.mapReason 5 (2 * 2 ^ 61 + 32 * 2 ^ 15) = 0
    ∧ ((nx (exec (.mapRegion 0) d)).region 5).home = .ddr ∧ b.mapReason 5 (2 ^ 61) = 10
    ∧ (nx (exec (.mapRegion 0) b)).obj 0x301005 = 3 := by decide +kernel

/-- A key/value area at region 100. -/
def kvAt (s : State) : State := { s with serving := [(0, { on := true, record := 100 * 2 ^ 171 + 2 ^ 191 + 2 ^ 163 })] }

theorem test_unmap_trim_discard :
    let one := fun (g : Region) => argued 5 0 { rdy with tmap := [(5, g)], frames := [(65, .staged 0 5)] }
    ((nx (exec (.unmap 0) (one { home := .ddr }))).region 5).home = .none
    ∧ (nx (exec (.unmap 0) (one { home := .landing, frame := 65 }))).frame 65 = .free
    ∧ (nx (exec (.unmap 0) (one { home := .ddr, allocated := true }))).obj 0x301005 = 3
    ∧ (nx (exec (.unmap 0) (one { home := .ddr, staged := true }))).obj 0x301006 = tierResult 6 0 5 0
    ∧ (nx (exec (.trim 0) (one { home := .flash }))).obj 0x301005 = 2
    ∧ (nx (exec (.trim 0) (one { home := .ddr }))).obj 0x301006 = tierResult 1 0 5 0
    ∧ (nx (exec (.discard 0) (one { home := .ddr, staged := true, frame := 65 }))).frame 65 = .pool 0 false
    ∧ (nx (exec (.discard 0) (one { home := .ddr }))).obj 0x301006 = tierResult 4 0 5 0 := by decide +kernel

theorem test_kept_regions : let k := argued 100 0 (kvAt rdy)
    let h := argued 5 0 { task [] with
      tmap := [(5, { home := .ddr, staged := true, frame := 65, allocated := true })], frames := [(65, .staged 0 5)] }
    k.isKv 100 = true ∧ (nx (exec (.unmap 0) k)).obj 0x301006 = tierResult 7 0 100 0
    ∧ (nx (exec (.trim 0) k)).obj 0x301005 = 3 ∧ (nx (exec (.discard 0) k)).obj 0x301005 = 3
    ∧ h.loaded 0 = true ∧ (h.ctx 0).held = false ∧ (nx (exec (.discard 0) h)).obj 0x301006 = tierResult 7 0 5 0 := by
  decide +kernel

/-- ALLOC_FIRST and ALLOC_COUNT of path 0 for context 0. -/
def granting (n : Nat) (s : State) : State := { s with pobjs := [(pkey 0 0x310002, 1), (pkey 0 0x310003, n)] }

theorem test_allocations : let s := granting 1 { rdy with tmap := [(1, { home := .ddr })] }
    let t := nx (exec (.allocGrant 0 0) s)
    let z := granting 0 rdy
    let h : State := { t with descs := [(0, { st := .live, image := desc1 2 })] }
    s.access 0 0x3100 = 0 ∧ (s.alloc 0 0).count = 0 ∧ (t.region 1).allocated = true ∧ t.alloc 0 0 = { first := 1, count := 1 }
    ∧ (nx (exec (.allocGrant 0 0) z)).obj 0x310004 = 3
    ∧ t.allocHeld 0 0 = false ∧ ((nx (exec (.allocRelease 0 0) t)).region 1).allocated = false
    ∧ h.allocHeld 0 0 = true ∧ (nx (exec (.allocRelease 0 0) h)).obj 0x310004 = 3 := by decide +kernel

theorem test_frames : let on := fun (u : FrameUse) => ({ rdy with frames := [(64, u)] } : State)
    rdy.pobj 0 0x301101 = 64 ∧ rdy.access 0 0x3011 = 0
    ∧ (nx (exec (.frameToPool 0 3) (on .free))).frame 64 = .pool 3 false ∧ (nx (exec (.frameToFree 0) (on .free))).obj 0x301103 = 2
    ∧ (nx (exec (.frameToFree 0) (on (.pool 3 false)))).frame 64 = .free
    ∧ (nx (exec (.frameToFree 0) (on (.pool 3 true)))).obj 0x301103 = 3
    ∧ (nx (exec (.frameToPool 0 3) (on (.pool 3 true)))).obj 0x301103 = 3
    ∧ (nx (exec (.frameToPool 0 3) (on (.home 1)))).obj 0x301103 = 3
    ∧ (nx (exec (.frameToFree 0) (on (.staged 1 2)))).obj 0x301103 = 3 := by decide +kernel

theorem test_background_work : let k := okey 0x3400
    rdy.access 0 0x3020 = 0 ∧ rdy.windowUsed 0 = false ∧ (nx (exec (.hostwinAddrWrite 0 0x1001) rdy)).hostWin 0 = 0x1001
    ∧ rdy.access 0 0x3400 = 0 ∧ (nx (exec (.flashScrubNow 0 0) rdy)).obj (k 0x0B) = 1
    ∧ (nx (exec (.flashBackgroundScrub 0 [(6, 9)] [⟨4, 100⟩, ⟨5, 7⟩] 3 true) (ob (k 0x0B) 1 rdy))).obj (k 0x0B) = 2
    ∧ (nx (exec (.flashBackgroundScrub 0 [(6, 9)] [⟨4, 100⟩, ⟨5, 7⟩] 3 false) rdy)).obj (k 8) = 2
    ∧ rdy.obj (k 7) = 125 ∧ ((nx (exec (.garbageCollection 0 4 7 9 0) rdy)).faults.ring.map (·.code)) = [0x2006]
    ∧ (nx (exec (.garbageCollection 0 4 7 10 2) rdy)).faults.ring = []
    ∧ (nx (exec (.ddrPatrolScrub 0 4 5) rdy)).obj (okey 0x3300 1) = 4 ∧ rdy.planerOn 0 = true
    ∧ (ob 0x600001 2 rdy).planerOn 0 = false ∧ stays (exec (.ddrPatrolScrub 0 4 5) (ob 0x600001 2 rdy)) (ob 0x600001 2 rdy) = true
    := by decide +kernel

theorem test_read_disturb : let k := okey 0x3400
    let r := fun (n : Nat) => ({ rdy with ftl := [(blockKey 0 4, { reads := n })] } : State)
    let t := nx (exec (.readDisturbRelocation 0 ⟨4, 100⟩) (r 200000))
    t.obj (k 3) = 100 ∧ t.obj (k 8) = 1 ∧ t.ftl = [(blockKey 0 4, { erased := 1 })]
    ∧ stays (exec (.readDisturbRelocation 0 ⟨4, 100⟩) (r 199999)) (r 199999) = true := by decide +kernel

/-! ### Charun Link -/

/-- A live plane. -/
def upLink : Link := { st := .up, lanes := 0xFF, lim0 := 100, lim1 := 4, rxSeq := 3, txSeq := 7 }

/-- A state with one link. -/
def lk (n : Nat) (l : Link) (s : State := rdy) : State := { s with links := [(n, l)] }

/-- A frame without data: its type and LSEQ. -/
def ctlF (t q : Nat) : Frame := { header := t + 16 + q * 2 ^ 12, payload := [] }

theorem test_frame_receive : let s := lk 2 upLink
    let f := ctlF 5 3
    wellFormed (.frameReceive 2 f f.crc) = true ∧ (s.link 2).live = true ∧ f.lseq = 3 ∧ linkTakes 2 f = true
    ∧ ((nx (exec (.frameReceive 2 f f.crc) s)).link 2).inbox = [f]
    ∧ ((nx (exec (.frameReceive 2 f (f.crc + 1)) s)).link 2).nak = true ∧ linkTakes 2 (ctlF 9 3) = false
    ∧ (nx (exec (.frameReceive 2 (ctlF 9 3) (ctlF 9 3).crc) s)).obj 0x401207 = 1
    ∧ stays (exec (.frameReceive 2 f f.crc) rdy) rdy = true := by decide +kernel

/-- A codeword header: CWSEQ 1, ACK 6 and the VC1 limit 9, with more fields by lowest bit. -/
def ccwOf (fs : List (Nat × Nat)) : Nat :=
  ((fs ++ [(64, 1), (144, 6), (99, 9)]).map (fun (e : Nat × Nat) => e.2 * 2 ^ e.1)).foldl (· + ·) 0

/-- A frame that has been sent. -/
def sentF (n : Nat) : TxFrame := { lseq := 6, frame := ctlF 5 6, flight := none, sends := n }

theorem test_codeword_control : let s := lk 0 { upLink with buf := [sentF 1, { sentF 1 with lseq := 7 }] }
    let c := fun (f : List (Nat × Nat)) => (s.takeCcw 0 (ccwOf f)).link 0
    let nk := ccwOf [(143, 1)]
    newer (bits (ccwOf []) 95 64) (s.link 0).cwseq = true ∧ (c []).buf.length = 1 ∧ (c []).lim1 = 9
    ∧ (c [(131, 0xFE)]).far = some 0xFE ∧ newer 1 (some 2) = false
    ∧ (lk 0 { upLink with cwseq := some 2 }).takeCcw 0 nk = lk 0 { upLink with cwseq := some 2 }
    ∧ (c [(96, 2), (131, 0xFE)]).st = .retraining ∧ (c [(96, 2), (131, 0xFE)]).cut = 1
    ∧ bit nk 143 = true ∧ (s.link 0).farNak ≠ some (bits nk 155 144) ∧ (c [(143, 1)]).buf.map (·.sends) = [2]
    ∧ ((lk 3 upLink).startRetrain 3 5).link 3 = { upLink with st := .retraining, cut := 5 } := by decide +kernel

/-! ### The coding of a lane -/

theorem test_field_of_the_code : gfDouble 512 = 9 ∧ gfMul 2 512 = 9 ∧ gfMul (gfInv 7) 7 = 1 ∧ gfMul 3 3 = 5
    ∧ (prbs20 1).1 = 1 ∧ (prbs20 (2 ^ 30)).1 = 0 ∧ (prbs20 8).1 = 9 ∧ (prbs20 8).2 = 9 * 2 ^ 11 := by decide +kernel

theorem gfMul_zero (b : Nat) : gfMul 0 b = 0 := by simp [gfMul, List.range_succ, gfDouble]

theorem fold_zeros (n a : Nat) : (List.replicate n 0).foldl (fun v c => gfMul v a ^^^ c) 0 = 0 := by
  induction n with
  | zero => rfl
  | succ n ih => simpa [List.replicate_succ, gfMul_zero] using ih

theorem rsDecode_clean (r : List Nat) (h : (rsSyndromes r).all (· = 0) = true) : rsDecode r = some (r, 0) := by
  simp only [rsDecode, h, if_true]

theorem rsDecode_lost (r : List Nat) (h : (rsSyndromes r).all (· = 0) = false)
    (hl : ¬ ((List.range 16).foldl (Locator.step (rsSyndromes r)) {}).l ≤ 8) : rsDecode r = none := by
  simp only [rsDecode, h, hl, decide_false, Bool.false_and, Bool.false_eq_true, if_false]

theorem decodeCodeword_of (w k : Nat) (r : List Nat) (h : rsDecode (symbolsOf 544 w) = some (r, k)) :
    ∃ d c, decodeCodeword w = some (d, c, k) := by
  unfold decodeCodeword; rw [h]; exact ⟨_, _, rfl⟩

/-- The word of zeros is a codeword with nothing to correct. -/
theorem test_codeword_decodes : ∃ d c, decodeCodeword 0 = some (d, c, 0) := by
  have h : symbolsOf 544 0 = List.replicate 544 0 := by decide +kernel
  have hs : (rsSyndromes (List.replicate 544 0)).all (· = 0) = true := by
    simp only [rsSyndromes, fold_zeros]; decide
  exact decodeCodeword_of 0 0 _ (by rw [h]; exact rsDecode_clean _ hs)

/-- A word with nine wrong symbols. -/
def nineWrong : Nat := ofSymbols [1, 2, 3, 4, 5, 6, 7, 8, 15] * 2 ^ 5350

/-- The syndromes of nine wrong symbols. -/
def nineSyndromes : List Nat :=
  (List.range 16).map (fun j => [1, 2, 3, 4, 5, 6, 7, 8, 15].foldl (fun v c => gfMul v (alphaPow j) ^^^ c) 0)

theorem test_codeword_lost : decodeCodeword nineWrong = none := by
  have h : symbolsOf 544 nineWrong = List.replicate 535 0 ++ [1, 2, 3, 4, 5, 6, 7, 8, 15] := by decide +kernel
  have hs : rsSyndromes (symbolsOf 544 nineWrong) = nineSyndromes := by
    simp only [rsSyndromes, h, List.foldl_append, fold_zeros]; rfl
  have ha : nineSyndromes.all (· = 0) = false := by decide +kernel
  have hl : ¬ ((List.range 16).foldl (Locator.step nineSyndromes) {}).l ≤ 8 := by decide +kernel
  unfold decodeCodeword; rw [rsDecode_lost _ (hs ▸ ha) (hs ▸ hl)]; rfl

theorem test_codeword_receive : let s := lk 0 upLink
    let off := lk 0 { upLink with st := .disabled }
    nineWrong < 2 ^ 5440 ∧ (s.link 0).st ≠ .disabled ∧ (s.link 0).st ≠ .fault
    ∧ (prbsCodeword (Tab.get ({} : LaneSt) (s.link 0).lane 0).rxScr).1 = 0
    ∧ stays (exec (.codewordReceive 0 5 0) off) off = true := by decide +kernel

theorem test_deframe : let on := fun (bs : List Nat) => deframe (bs.map some)
    let w := frameWire (5 + 2 ^ 5) (List.replicate 64 9) 7
    on (w ++ [1]) = .frame 104 (5 + 2 ^ 5) (List.replicate 64 9) 7 ∧ on (w.take 103) = .more
    ∧ on (List.replicate 9 0) = .idle 8 ∧ deframe (none :: (w.drop 1).map some) = .lost 8
    ∧ deframe ((w.take 20).map some ++ [none] ++ (w.drop 21).map some) = .bad 104 (5 + 2 ^ 5) := by decide +kernel

theorem test_frame_send : let o : OutFrame := { frame := ctlF 5 0, flight := none }
    let s := lk 0 { upLink with vc1 := [o] }
    let z := lk 0 { upLink with vc1 := [o], lim1 := 0 }
    s.dieRuns = true ∧ (s.link 0).live = true ∧ ((s.link 0).fits o.frame && (s.link 0).room o.frame) = true
    ∧ (nx (exec (.frameSend 0) s)).out = [.frame 0 (ctlF 5 7)] ∧ (z.link 0).fits o.frame = false
    ∧ stays (exec (.frameSend 0) z) z = true ∧ (lk 0 upLink).colls = [] := by decide +kernel

/-- An open step of Yarder 0 with one entry to send under one grant on plane 0. -/
def sender (last : Bool) : State :=
  let o : OutEntry := { dest := 1, plane := 0, round := 0, last := last, frame := ctlF 1 0 }
  let x : CollStep := { id := 1, ctx := 0, yarder := 0, fmt := 0, tsc := 0, out := [o], grant := [(pkeyOf 1 0, 1)] }
  { lk 0 upLink with colls := [x] }

theorem test_step_sends : let ready := fun (e : CollStep × OutEntry) => upLink.fits e.2.frame && upLink.room e.2.frame
    let turn := fun (s : State) (last : Bool) =>
      (s.frameTurn 0 ((Sys2Proof.Claims.sendSteps s 0).filter (fun e => (e.2.last == last) && ready e))).isSome
    turn (sender true) true = true ∧ turn (sender false) true = false ∧ turn (sender false) false = true
    ∧ (let p := lk 16 { upLink with vc0 := [{ frame := ctlF 1 0, flight := none }] }
       (p.link 16).vc1 = [] ∧ ((nx (exec (.frameSend 16) p)).link 16).vc0 = [] ∧ (nx (exec (.frameSend 16) p)).out.length = 1)
    ∧ ((nx (exec (.frameSend 0) (sender false))).link 0).buf.length = 1
    ∧ ((nx (exec (.frameSend 0) (sender true))).colls.map (·.out)) = [[]] := by decide +kernel

theorem test_retransmit : let s := fun (n : Nat) => lk 0 { upLink with buf := [sentF n] }
    ((nx (exec (.retransmitTimeout 0) (s 3))).link 0).buf.map (·.sends) = [4]
    ∧ (nx (exec (.retransmitTimeout 0) (s 3))).out = [.frame 0 (ctlF 5 6)]
    ∧ ((nx (exec (.retransmitTimeout 0) (s 4))).link 0).st = .fault
    ∧ (nx (exec (.retransmitTimeout 0) (s 4))).faults.ring.map (·.code) = [0x1004] := by decide +kernel

theorem test_training : let d := lk 3 {}
    let t := lk 3 { st := .training }
    let r := lk 3 { upLink with st := .retraining, cut := 1 }
    d.access 0 0x4013 = 0 ∧ d.obj 0x401302 = 0 ∧ ((nx (exec (.linkTrain 0 3) d)).link 3).st = .training
    ∧ (nx (exec (.linkTrain 0 3) t)).obj 0x121005 = 1 ∧ t.minWidth 3 = 4
    ∧ ((nx (exec (.trainingComplete 3 0xFF) t)).link 3).st = .up ∧ ((nx (exec (.trainingComplete 3 0xF) t)).link 3).st = .degraded
    ∧ stays (exec (.trainingComplete 3 7) t) t = true ∧ ((nx (exec (.retrainComplete 3 0xFF) r)).link 3).lanes = 0xFE
    ∧ ((nx (exec (.linkDisable 0 3) r)).link 3).st = .disabled ∧ ((nx (exec (.linkDisable 0 17) rdy)).link 17).st = .disabled
    ∧ ((nx (exec (.linkRetrain 0 3) (lk 3 upLink))).link 3).st = .retraining ∧ (nx (exec (.linkRetrain 0 3) d)).obj 0x121005 = 1
    ∧ (nx (exec (.trainingTimeout 3) t)).faults.ring.map (·.code) = [0x1009]
    ∧ (nx (exec (.retrainTimeout 3) r)).faults.ring.map (·.code) = [0x1002] := by decide +kernel

theorem test_lane_lost : let s := lk 0 upLink
    let n := lk 0 { upLink with lanes := 0xF }
    bit (s.link 0).lanes 7 = true ∧ s.obj 0x400003 = 1 ∧ s.minWidth 0 = 4 ∧ (s.link 0).width = 8
    ∧ ((nx (exec (.laneLossOfLock 7) s)).link 0).lanes = 0x7F ∧ ((nx (exec (.laneErrorThreshold 7) s)).link 0).cut = 0x80
    ∧ ((nx (exec (.laneErrorThreshold 0) n)).link 0).st = .fault ∧ (n.link 0).width = 4
    ∧ stays (exec (.laneLossOfLock 7) n) n = true ∧ laneLink 175 = 19 ∧ laneBit 175 = 11 := by decide +kernel

/-! ### Collectives -/

/-- The words of a collective step: fields of its first three words. -/
def collW (op : Nat) (f0 f1 f2 : List (Nat × Nat)) : List W128 := [word op ((76, 3) :: f0), word 0 f1, word 0 f2, 0]

/-- A plan image with a program on Yarder 0 and group 0 of positions 0 and 1. -/
def grouped (ws : List W128) : Mem :=
  [(96, 4, 480), (100, 4, 8), (480, 2, 0), (482, 2, 2), (484, 2, 0), (486, 2, 1)].foldl
    (fun m e => m.writeLe e.1 e.2.1 e.2.2) (prog 0x88 ws)

/-- A stand of two members with both planes of Yarder 0 up: FABRIC_ID 5, incarnation 9, epoch 3. -/
def stand (ws : List W128) : State :=
  { rdy with
    objs := [(okey 0x1480 1, 4), (0x400001, 5), (0x400002, 9), (0x410001, 3), (0x410002, 0)]
    members := [(0, 2 ^ 63 + 5 * 2 ^ 28 + 9 * 2 ^ 12), (1, 2 ^ 63 + 6 * 2 ^ 28 + 2 * 2 ^ 12)]
    links := [(0, upLink), (1, upLink)]
    ctxs := [(0, { st := .placed, len := 1024, image := grouped ws })] }

/-- The stand with one open step whose flight is number 1. -/
def opened (ws : List W128) (x : CollStep := { id := 1, ctx := 0, yarder := 0, fmt := 1, tsc := 0 }) : State :=
  { fly [step1 0x88 ws] (stand ws) with colls := [x] }

/-- A frame of member 1 on plane 0. -/
def heard (f : Frame) (s : State) : State := s.updLink 0 (fun l => { l with inbox := [f] })

/-- A control frame of member 1: type, ARG, COLL, step, incarnations, epoch, FABRIC_ID. -/
def from1 (t arg coll step : Nat) (dst : Nat := 9) (src : Nat := 2) (ep : Nat := 3) (sfid : Nat := 6) (dfid : Nat := 5) : Frame :=
  { header := frameHeader t 0 arg coll 0 step dst src ep sfid dfid, payload := [] }

theorem test_stand_checks : let s := stand []
    let drop := fun (f : Frame) (k : Nat) => (nx (exec (.beatFrame 0) (heard f s))).obj k
    let c := heard (from1 4 0 0 0 9 1) (opened (collW 0xA7 [(30, 3)] [] []))
    s.dieRuns = true ∧ (heard (from1 4 0 0 0) s).inboxHead 0 4 = some (from1 4 0 0 0) ∧ rxCtx (from1 4 0 0 0) = 0
    ∧ drop (from1 4 0 0 0 9 2 3 6 4) 0x400007 = 1 ∧ drop (from1 4 0 0 0 9 2 2) 0x41000B = 1
    ∧ drop (from1 4 0 0 0 8) 0x41000C = 1 ∧ drop (from1 4 0 0 0 9 2 3 7) 0x41000D = 1 ∧ drop (from1 4 0 0 0 9 1) 0x41000C = 1
    ∧ (c.colls.any (fun x => x.ctx = 0 && c.awaits x 1)) = true ∧ (nx (exec (.beatFrame 0) c)).fenced 0 = true
    ∧ stays (exec (.endFrame 0) (heard (from1 4 0 0 0) s)) (heard (from1 4 0 0 0) s) = true := by decide +kernel

/-- Whether the plane's head is an accepted frame of member 1 of a type. -/
def taken (s : State) (t : Nat) : Bool :=
  match s.inboxHead 0 t with
  | none => false
  | some f => bits f.header 43 24 = s.obj (okey 0x4000 1) && s.epoch 0 ≠ 0 && bits f.header 95 64 = s.epoch 0
      && bits f.header 127 112 = s.incarnation && (s.sourceOf f).map (·.1) = some 1 && bits f.header 111 96 = 2

theorem test_control_frames : let a := heard (from1 5 (7 * 2 ^ 56) 0 0) (stand [])
    let g := heard (from1 3 (40 * 2 ^ 32) 2 0) (opened (collW 0xA1 [(30, 3)] [] [(112, 2)]))
    let c := heard (from1 6 0 0 0) (opened (collW 0xA7 [(30, 3)] [] []))
    let w := heard (from1 6 0 0 1) (opened (collW 0xA7 [(30, 3)] [] []))
    let d := nx (exec (.commitFrame 0) c)
    taken a 5 = true ∧ (nx (exec (.abortFrame 0) a)).obj 0x410002 = 1 ∧ taken g 3 = true
    ∧ ((nx (exec (.ecredFrame 0) g)).colls.map (·.grant)) = [[(pkeyOf 1 0, 40)]]
    ∧ ((nx (exec (.ecredFrame 0) (heard (from1 3 (40 * 2 ^ 32) 3 0) (opened (collW 0xA1 [(30, 3)] [] [(112, 2)]))))).ctx 0).early.length = 1
    ∧ taken c 6 = true ∧ d.commits = [(0, 0, 1)] ∧ d.colls.map (·.commits) = [[1]]
    ∧ (nx (exec (.commitFrame 0) (heard (from1 6 0 0 0) d))).commits = d.commits
    ∧ taken w 6 = true ∧ (nx (exec (.commitFrame 0) w)).fenced 0 = true := by decide +kernel

/-- The stand with credit counter 5 of Yarder 0 bound to member 1 at a capacity of 4. -/
def lender (n : Nat) : State :=
  let m := [(48, 4, 432), (52, 4, 16), (432, 1, 1), (433, 1, 1), (434, 1, 0x88), (436, 1, 5), (437, 1, 3), (440, 2, 4), (444, 2, 1)]
  heard (from1 7 (5 * 2 ^ 58 + n * 2 ^ 42) 0 0) { stand [] with
    ctxs := [(0, { st := .placed, len := 1024, image := m.foldl (fun m e => m.writeLe e.1 e.2.1 e.2.2) (grouped []) })] }

theorem test_credit_frames : taken (lender 4) 7 = true ∧ (lender 4).loaded 0 = true
    ∧ (nx (exec (.creditFrame 0) (lender 4))).credits 0 0x88 5 = 4
    ∧ ((nx (exec (.creditFrame 0) (lender 5))).ctx 0).holdFault = 0x5005
    ∧ ((nx (exec (.creditFrame 0) (heard (from1 7 (6 * 2 ^ 58) 0 0) (stand [])))).ctx 0).holdFault = 0x5004 := by decide +kernel

/-- An open AG of 32 bfloat16 elements over plane 0. -/
def agW (coll : Nat) : List W128 := collW 0xA1 [(36, 1), (30, 1)] [(16, 32)] [(112, coll)]

/-- A DATA frame of member 1: format, step, COLL, payload units. -/
def dataF (fmt step coll n : Nat) : Frame :=
  { header := frameHeader 1 n (dataArg 0 fmt 0 0) coll 0 step 9 2 3 6 5, payload := List.replicate (64 * n) 0 }

theorem test_data_frames : let s := opened (agW 2)
    let w := fun (f : Frame) => heard f s
    let n := nx (exec (.dataFrame 0) (w (dataF 1 0 2 1)))
    let c := (n.colls.headD { id := 0, ctx := 0, yarder := 0, fmt := 0, tsc := 0 }).crc.headD (0, 0)
    taken (w (dataF 1 0 2 1)) 1 = true ∧ s.inPiece { id := 1, ctx := 0, yarder := 0, fmt := 1, tsc := 0 } 1 0 (dataF 1 0 2 1) = true
    ∧ (s.collGroup { id := 1, ctx := 0, yarder := 0, fmt := 1, tsc := 0 }) = [0, 1]
    ∧ n.colls.map (fun x => (x.rx.length, x.cnt)) = [(1, [(16, 1)])] ∧ n.obj 0x420007 = 64
    ∧ (nx (exec (.dataFrame 0) (w (dataF 1 0 3 1)))).obj 0x41000E = 1
    ∧ (nx (exec (.dataFrame 0) (heard (dataF 1 0 2 1) (opened (collW 0xA3 [(30, 1)] [(16, 32)] [(112, 2)]))))).obj 0x41000D = 1
    ∧ (nx (exec (.dataFrame 0) (w (dataF 1 1 2 1)))).fenced 0 = true ∧ (nx (exec (.dataFrame 0) (w (dataF 0 0 2 1)))).fenced 0 = true
    ∧ (nx (exec (.endFrame 0) (heard (from1 2 1 2 0) n))).fenced 0 = true
    ∧ ((nx (exec (.endFrame 0) (heard (from1 2 c.2 2 0) n))).colls.map (·.ends)) = [[(16, 1)]] := by decide +kernel

/-- The stand with NEW_EPOCH, EPOCH_TOKEN and MEMBER_SEL of path 0. -/
def asked (ep tokn sel : Nat) (s : State) : State :=
  { s with pobjs := [(pkey 0 0x410004, ep), (pkey 0 0x410005, tokn), (pkey 0 0x410008, sel)] }

theorem test_epochs : let tk := 9 * 2 ^ 16
    let o := opened (agW 2)
    let e := nx (exec (.epochCmd 0 0) (asked 4 tk 0 (stand [])))
    let r := fun (s : State) => (nx (exec (.epochCmd 0 0) s)).obj 0x410013
    (stand []).access 0 0x4100 = 0 ∧ e.epoch 0 = 4 ∧ e.obj 0x410003 = 1 ∧ e.obj 0x410006 = 2
    ∧ r (asked 4 1 0 (stand [])) = 1 ∧ r (asked 3 tk 0 (stand [])) = 2 ∧ r (asked 4 tk 0 o) = 3
    ∧ r (asked 4 tk 0 { stand [] with members := [] }) = 4 := by decide +kernel

theorem test_members : let s := asked 0 0 1 (stand [])
    let o := asked 0 0 1 (opened (agW 2))
    let r := fun (v : Nat) => (nx (exec (.memberEntryWrite 0 0 v) s)).obj 0x410013
    (nx (exec (.memberEntryWrite 0 0 (2 ^ 63 + 8 * 2 ^ 28)) s)).member 0 1 = 2 ^ 63 + 8 * 2 ^ 28
    ∧ (nx (exec (.memberEntryWrite 0 0 0) s)).obj 0x41000A = 1 ∧ r (2 ^ 63 + 5 * 2 ^ 28) = 5 ∧ r 1 = 6
    ∧ (nx (exec (.memberEntryWrite 0 0 0) o)).obj 0x410013 = 3 ∧ (nx (exec (.selfWrite 0 0 16383) s)).self 0 = 16383
    ∧ (nx (exec (.selfWrite 0 0 16384) s)).obj 0x121005 = 1 ∧ (nx (exec (.selfWrite 0 0 1) o)).obj 0x410013 = 3 := by decide +kernel

theorem test_beats : let s := stand [word 0 []]
    let c := opened (collW 0xA7 [(30, 3)] [] [])
    s.loaded 0 = true ∧ (s.ctx 0).held = false ∧ s.fenced 0 = false
    ∧ ((nx (exec (.beatTimer 0) s)).link 0).vc1.map (·.frame.type) = [4] ∧ ((nx (exec (.beatTimer 0) s)).link 1).vc1 = []
    ∧ stays (exec (.beatTimer 0) rdy) rdy = true ∧ (nx (exec (.noProgress 0 1) c)).fenced 0 = true
    ∧ stays (exec (.noProgress 0 2) c) c = true := by decide +kernel

/-- A collective step at the head of Yarder 0's shell, with descriptor 0 to read and 1 to write in Landing. -/
def ready (op : Nat) (f0 : List (Nat × Nat) := []) (f2 : List (Nat × Nat) := []) : State :=
  let ws := collW op ([(64, 0), (52, 1), (36, 1), (30, 3)] ++ f0) [(16, 32)] ([(98, 1), (84, 1)] ++ f2)
  let t := tier rdy
  { stand ws with tmap := t.tmap, frames := t.frames, descs := t.descs }

/-- Whether a step may dispatch and what its rules say. -/
def collSays (s : State) (op : Nat) : Bool × Option (Nat × Nat) :=
  (may s (.unit 0x88 0) op (fun _ => .unit), s.collFault (hd s (.unit 0x88 0)) (collBody (hd s (.unit 0x88 0)).words))

theorem test_coll_dispatch :
    collSays (ready 0xA0) 0xA0 = (true, none) ∧ collSays (ready 0xA1) 0xA1 = (true, none) ∧ collSays (ready 0xA2) 0xA2 = (true, none)
    ∧ collSays (ready 0xA3) 0xA3 = (true, none) ∧ collSays (ready 0xA4) 0xA4 = (true, none)
    ∧ collSays (ready 0xA6) 0xA6 = (true, none) ∧ collSays (ready 0xA5) 0xA5 = (true, some (0x5008, 0))
    ∧ collSays (ready 0xA5 [] [(20, 2), (32, 1)]) 0xA5 = (true, none)
    ∧ collSays { ready 0xA0 with links := [] } 0xA0 = (true, some (0x1002, 0))
    ∧ (nx (exec (.rs (.dispatch (.unit 0x88 0))) (ready 0xA0))).colls.length = 1
    ∧ ((nx (exec (.ag (.dispatch (.unit 0x88 0))) { ready 0xA1 with links := [] })).ctx 0).holdFault = 0x1002 := by decide +kernel

/-- COMMIT at the head of Yarder 0's shell after STEPMARK n; COMMITTED_STEP and every Planer are at 0. -/
def committing (n : Nat) : State :=
  { stand (collW 0xA7 [(30, 3)] [] []) with streams := [(okey 0 0x88, { mark := some n })], commits := [(0, 1, 1)] }

/-- A capture of step 1 that waits for its check. -/
def waitingCap : Capture :=
  { id := 1, ctx := 0, engine := 0, tile := 0, step := 1, bytes := 0, cants := [], cur := 0, formats := [], digest := 0
    hash := 0, check := 0, phase := .queued }

theorem test_commit_gate : let go := fun (s : State) => nx (exec (.commitStep (.dispatch (.unit 0x88 0))) s)
    let s := committing 1
    let c : State := { s with captures := [waitingCap] }
    collSays s 0xA7 = (true, none) ∧ s.commitGate 0 1 = true ∧ s.checksPending 0 = 0
    ∧ (go s).colls.map (·.commits) = [[1]] ∧ ((go (committing 2)).ctx 0).holdFault = 0x4006
    ∧ c.checksPending 0 = 1 ∧ stays (exec (.commitStep (.dispatch (.unit 0x88 0))) c) c = true
    ∧ ((go { s with members := s.members ++ [(2, 2 ^ 63 + 7 * 2 ^ 28)] }).ctx 0).holdFault = 0x500F := by decide +kernel

/-- A step open on Yarder 0 whose flight has copies of its descriptors: source 0, destination 1, table 2. -/
def begun (op : Nat) (f2 : List (Nat × Nat) := []) (img : Nat → Nat := desc1) (x : CollStep → CollStep := id) : State :=
  let ws := collW op [(64, 0), (52, 1), (36, 1), (30, 1)] [(16, 32)] ([(98, 1), (84, 1), (20, 2)] ++ f2)
  let t := tier rdy
  let f : Flight := { step1 0x88 ws with descs := [0, 1, 2].map (fun n => { num := n, image := img n }) }
  { fly [f] (stand ws) with
    tmap := t.tmap, frames := t.frames, colls := [x { id := 1, ctx := 0, yarder := 0, fmt := 1, tsc := 0 }] }

/-- What the rules say of a step that may start. -/
def startSays (s : State) (op : Nat) : Bool × Bool × Bool :=
  match s.collStep 1 with
  | some x => ((s.startableStep 1 op).isSome, (s.sourceBlocked x).isNone && (s.readDown x).isNone, (s.firstPieces x).isSome)
  | none => (false, false, false)

theorem test_coll_start : [0xA0, 0xA1, 0xA2, 0xA3, 0xA4, 0xA5, 0xA6].map (fun o => startSays (begun o) o)
      = List.replicate 7 (true, true, true)
    ∧ startSays (begun 0xA1 [] (fun n => desc1 n + 2 ^ 509)) 0xA1 = (true, false, true)
    ∧ startSays { begun 0xA5 [(32, 1)] with landing := bld [(64 * 2 ^ 26, 4, 0x7FC00000)] } 0xA5 = (true, true, false)
    ∧ ((nx (exec (.ag (.start 1 none)) (begun 0xA1))).colls.map (fun x => (x.started, x.out.length))) = [(true, 2)]
    ∧ (nx (exec (.ag (.start 1 (some 0))) (begun 0xA1))).colls = []
    ∧ ((nx (exec (.ag (.start 1 (some 0))) (begun 0xA1))).ctx 0).holdFault = 0x2001 := by
  decide +kernel

/-- The step has started, all its ENDs are in. -/
def ended (x : CollStep) : CollStep := { x with started := true, ends := [(16, 2)], rounds := 1, phase := 1 }

/-- Whether COLLECTIVE_COMPLETE may complete the step. -/
def completes (s : State) : Bool :=
  match s.collStep 1 with
  | some x => x.started && s.sentAll x && s.stripesDone x ((s.collOf x).stripes x.format) && (s.writeOutput x).2.isNone
  | none => false

theorem test_coll_complete : [0xA0, 0xA1, 0xA2, 0xA3, 0xA4, 0xA5, 0xA6].map (fun o => completes (begun o [] desc1 ended))
      = List.replicate 7 true
    ∧ (nx (exec (.collectiveComplete 1) (begun 0xA3 [] desc1 ended))).colls = []
    ∧ stays (exec (.collectiveComplete 1) (begun 0xA3)) (begun 0xA3) = true
    ∧ completes (begun 0xA4 [] (fun n => desc1 n + 2 ^ 509) ended) = false
    ∧ ((nx (exec (.collectiveComplete 1) (begun 0xA4 [] (fun n => desc1 n + 2 ^ 509) ended))).ctx 0).holdFault = 0x7001
    ∧ stays (exec (.collectiveComplete 2) (begun 0xA3)) (begun 0xA3) = true := by decide +kernel

theorem test_commit : let s : State := { opened (collW 0xA7 [(30, 3)] [] []) with streams := [(okey 0 0x88, { mark := some 1 })] }
    let t := nx (exec (.commitStep (.start 1)) s)
    let d : State := { s with colls := s.colls.map (fun x => { x with started := true, commits := [1] }) }
    let e := nx (exec (.commitComplete 1) d)
    (s.startableStep 1 0xA7).isSome = true ∧ (t.link 1).vc1.map (fun o => o.frame.type) = [6]
    ∧ stays (exec (.commitComplete 1) t) t = true ∧ e.committed 0 = 1 ∧ e.out.length = 4 ∧ e.colls = []
    ∧ (begun 0xA0).fixedOrder { id := 1, ctx := 0, yarder := 0, fmt := 1, tsc := 0 } = false
    ∧ (opened (collW 0xA0 [(33, 1)] [] [])).fixedOrder { id := 1, ctx := 0, yarder := 0, fmt := 1, tsc := 0 } = true := by
  decide +kernel

/-! ### Planers -/

/-- The image of a slot of n elements on stream 0: state in region 2, buffers in region 1, one post to task 0's counter 3. -/
def slotOf (n : Nat) : Nat := 2 ^ 248 + 3 * 2 ^ 232 + n * 2 ^ 200 + 2 ^ 26 * 2 ^ 154 + (2 ^ 26 + 2 ^ 20) * 2 ^ 108 + 2

/-- Context 0 owns slot 0 of two elements and stream 0 with one state array; its epoch is 3. -/
def planed (f : Slot → Slot := id) : State :=
  { tier rdy with
    objs := [(okey 0x1480 1, 4), (0x410001, 3)]
    slots := [(0, f { owner := some 0, image := slotOf 2 })]
    ustreams := [(0, { owner := some 0, words := [word 0 [(125, 1)]] })] }

/-- A transfer of context 0: kind, address, data. -/
def xf (kind addr : Nat) (data : List Nat) (crc : Bool := false) (step : Nat := 1) (code : Nat := 0) (epoch : Nat := 3) : Xfer :=
  mkXfer kind 7 0 1 0 0 0 step epoch 0 addr code crc data

/-- A granule of two bf16 elements, 1.0 and 2.0, for step 1. -/
def gran1 (p : GranPhase) : Granule :=
  { id := 1, q := 0, ctx := 0, slot := 0, gran := 0, step := 1, epoch := 3, fmt := 1, tsc := 0
    data := [0x80, 0x3F, 0x00, 0x40], phase := p }

/-- What the ports have sent: kinds and codes. -/
def sent (s : State) : List (Nat × Nat) := s.out.map (fun o => match o with | .xfer _ x => (x.kind, x.code) | _ => (0, 0))

theorem test_transfers : let s := planed
    let w := nx (exec (.wrData 0 (xf 3 (2 ^ 27) [5, 6])) s)
    let r := nx (exec (.rdReq 0 ⟨{ xf 1 (2 ^ 27) [] with header := (xf 1 (2 ^ 27) []).header + 2 * 2 ^ 272 }, false⟩) w)
    let b : State := { w with rxBuf := [{ gran1 .waiting with id := 1 }], nextId := 2 }
    s.planerUp 0 = true ∧ (xf 1 (2 ^ 27) []).shape = true ∧ s.onPlaner 0 (2 ^ 27) 2 = true ∧ s.onPlaner 0 (2 ^ 26) 1 = false
    ∧ (s.region 2).home = .ddr ∧ w.obj 0x330003 = 2 ∧ w.reqs = [(0, 7)]
    ∧ (r.out.drop 1).map (fun o => match o with | .xfer 0 x => (x.kind, x.tag, x.data) | _ => (0, 0, [])) = [(2, 7, [5, 6])]
    ∧ (nx (exec (.rdData 0 (xf 2 0 [])) r)).reqs = [] ∧ (nx (exec (.wrAck 0 (xf 4 0 [])) w)).reqs = []
    ∧ sent (nx (exec (.rdReq 0 ⟨xf 1 (2 ^ 26) [], false⟩) s)) = [(8, 0x500A)]
    ∧ sent (nx (exec (.wrData 0 (xf 3 (2 ^ 26) [5])) s)) = [(8, 0x500A)]
    ∧ sent (nx (exec (.rdReq 0 ⟨xf 1 (2 ^ 27) [], true⟩) s)) = [(8, 0x2002)]
    ∧ sent (nx (exec (.rdReq 0 ⟨xf 1 (2 ^ 27) [], false⟩) (unlocked 29 s))) = [(8, 0x2002)]
    ∧ s.reqBlocked s.nextId 0 (2 ^ 27, 1) = false ∧ b.reqBlocked b.nextId 0 (2 ^ 27, 1) = true
    ∧ (nx (exec (.rdReq 0 ⟨xf 1 (2 ^ 27) [], false⟩) b)).tierQ.map (·.id) = [2]
    ∧ (nx (exec (.stepset 0 (xf 9 0 [] false 8)) s)).stepCtr 0 0 = 8 ∧ stays (exec (.stepset 1 (xf 9 0 [])) s) s = true
    ∧ (nx (exec (.errTransfer 0 (xf 8 0 [] false 1 0x4002)) w)).reqs = []
    ∧ ((nx (exec (.errTransfer 0 (xf 8 0 [] false 1 0x2001)) w)).ctx 0).holdFault = 0x2001 := by decide +kernel

/-- The module with that granule at its Planer port. -/
def offered (t : State → State := id) : State := { t planed with portQ := [gran1 .waiting], nextId := 2 }

/-- Where R237 finds the granule. -/
def placedAt (s : State) : Bool × Placed × Bool :=
  (s.planerUp 0 && (s.streamOf (s.slot 0)).isSome, s.granPlace 0 (slotOf 2) 1 0 1, s.granStuck 0 (slotOf 2) 1 0)

/-- Region r staged, busy or moved. -/
def rg (r : Nat) (f : Region → Region) (s : State) : State := s.updRegion r f

theorem test_handoff : let go := fun (s : State) => nx (exec (.granuleHandoff 1) s)
    let st := offered (rg 2 (fun g => { g with staged := true }))
    let bu := offered (rg 1 (fun g => { g with busy := .evict }))
    let ft := offered (rg 2 (fun g => { g with home := .flash }))
    placedAt offered = (true, .ready, false) ∧ (go offered).portQ = [] ∧ (go offered).out.length = 1
    ∧ placedAt st = (true, .motion, true) ∧ ((go st).ctx 0).holdFault = 0x5011 ∧ placedAt bu = (true, .motion, false)
    ∧ stays (exec (.granuleHandoff 1) bu) bu = true ∧ placedAt ft = (true, .fault, false) ∧ ((go ft).ctx 0).holdFault = 0x5011
    ∧ stays (exec (.granuleHandoff 1) (go ft)) (go ft) = true
    ∧ ({ offered with ustreams := [] } : State).streamOf (({ offered with ustreams := [] } : State).slot 0) = none
    ∧ ((go { offered with ustreams := [] }).ctx 0).holdFault = 0x5011
    ∧ stays (exec (.granuleHandoff 2) offered) offered = true := by decide +kernel

theorem test_grad : let d := [0x80, 0x3F, 0x00, 0x40]
    let x := xf 5 0 d true
    let go := fun (f : Slot → Slot) (x : Xfer) => nx (exec (.grad 0 x) (planed f))
    let after := fun (e : Nat) (z : Slot) => ({ z with grans := [(0, { applied := some 1, epoch := e })] } : Slot)
    let torn := fun (z : Slot) => ({ z with grans := [(0, { torn := true })] } : Slot)
    x.shape = true ∧ crc64 x.data = x.crc64 ∧ crc64 (xf 5 0 d).data ≠ (xf 5 0 d).crc64 ∧ (go id x).rxBuf.length = 1
    ∧ (go id x).obj 0x328004 = 4 ∧ ((go id (xf 5 0 d)).ctx 0).holdFault = 0x4003 ∧ ((go id (xf 5 0 d true 2)).ctx 0).holdFault = 0x4002
    ∧ (go id (xf 5 0 d true 2)).obj 0x32C008 = 1 ∧ ((go (after 3) x).ctx 0).holdFault = 0x4004
    ∧ (go (after 2) x).rxBuf.length = 1 ∧ ((go torn x).ctx 0).holdFault = 0x2008
    ∧ (go (fun z => { z with owner := some 1 }) x).rxBuf = [] := by decide +kernel

/-- The granule in the receive buffer of Planer 0. -/
def held1 (p : GranPhase) (f : Slot → Slot := id) : State := { planed f with rxBuf := [gran1 p], nextId := 2 }

theorem test_granule_apply : let s := held1 .waiting
    let after := fun (e : Nat) (z : Slot) => ({ z with grans := [(0, { applied := some 1, epoch := e })] } : Slot)
    let pin := held1 .waiting (fun z => z.setPin 1 1)
    let gone := { held1 .waiting with tmap := [] }
    s.rxGran 0 0 = some (gran1 .waiting) ∧ s.granTouchesNone 0 0 = false ∧ s.granCheck (gran1 .waiting) = .apply
    ∧ (nx (exec (.granuleApply 0 0) s)).rxBuf = [gran1 (.applying false)]
    ∧ (held1 .waiting (after 2)).granCheck (gran1 .waiting) = .replay
    ∧ (nx (exec (.granuleApply 0 0) (held1 .waiting (after 2)))).rxBuf = [gran1 (.reemit false)]
    ∧ (held1 .waiting (after 3)).granCheck (gran1 .waiting) = .fails 0x4004
    ∧ ((nx (exec (.granuleApply 0 0) (held1 .waiting (after 3)))).ctx 0).holdFault = 0x4004
    ∧ stays (exec (.granuleApply 0 0) pin) pin = true ∧ gone.granTouchesNone 0 0 = true
    ∧ (match exec (.granuleApply 0 0) gone with | .fault .unmapped => true | _ => false) = true := by decide +kernel

theorem test_granule_ends : let e := xf 6 (2 ^ 26 + 2 ^ 20) [0x80, 0x3F, 0, 0] true
    let a := held1 (.applying false)
    let t := nx (exec (.emitTransfer 0 e) a)
    let u := nx (exec (.granuleComplete 0 0) t)
    let r := nx (exec (.granuleComplete 0 0) (held1 (.reemit true)))
    (a.rxBuf.find? (fun g => g.emits 0 e)).isSome = true ∧ crc64 e.data = e.crc64 ∧ t.tierRead (2 ^ 26 + 2 ^ 20 + 1) = 0x3F
    ∧ t.rxBuf = [gran1 (.applying true)] ∧ stays (exec (.emitTransfer 0 (xf 6 0 [1])) a) a = true
    ∧ (u.slot 0).appliedStep 0 = 1 ∧ u.obj 0x328001 = 1 ∧ u.rxBuf = [] ∧ r.obj 0x328002 = 1
    ∧ stays (exec (.granuleComplete 0 0) a) a = true := by decide +kernel

theorem test_gran_done : let x := xf 7 0 []
    let t := nx (exec (.granDone 0 x) planed)
    slotGrans (slotOf 2) = 1 ∧ slotPostEn (slotOf 2) = true ∧ (t.slot 0).done = [0] ∧ t.posts.map (·.counter) = [3]
    ∧ stays (exec (.granDone 0 x) t) t = true ∧ (planed.granFails (gran1 .waiting) 0x4002).obj 0x32C008 = 1 := by decide +kernel

/-- Context 0 with STEP_ARG of path 0. -/
def stepArg (v : Nat) (s : State) : State := { s with pobjs := [(pkey 0 0x32C002, v)] }

theorem test_steps : let res := fun (i : Instr) (s : State) => let t := nx (exec i s); (t.obj 0x32C004, t.obj 0x32C003)
    let at1 := fun (z : Slot) => ({ z with grans := [(0, { applied := some 1, epoch := 3 })] } : Slot)
    let torn := fun (z : Slot) => ({ z with grans := [(0, { torn := true })] } : Slot)
    let snap : State := { planed with objs := (0x32C00A, 0) :: planed.objs, snaps := [(0, [(0, slotOf 2)])] }
    planed.access 0 0x32C0 = 0 ∧ planed.quiet 0 = true ∧ (held1 .waiting).quiet 0 = false ∧ res (.setStep 0 0) (held1 .waiting) = (1, 3)
    ∧ (nx (exec (.setStep 0 0) (stepArg 6 planed))).committed 0 = 6 ∧ (nx (exec (.setStep 0 0) (stepArg 6 planed))).stepCtr 3 0 = 6
    ∧ (nx (exec (.rollForward 0 0) (planed at1))).committed 0 = 1 ∧ res (.rollForward 0 0) planed = (2, 3)
    ∧ res (.rollForward 0 0) (planed torn) = (3, 3) ∧ res (.rollForward 0 0) (ob (okey 0x3281 0x40) 5 planed) = (6, 3)
    ∧ planed.emitPlaced 0 = true ∧ res (.emitStep 0 0) planed = (0, 1)
    ∧ res (.emitStep 0 0) { planed with tmap := [] } = (4, 3) ∧ res (.snapshot 0 0) (planed at1) = (2, 3)
    ∧ planed.snapPlaced 0 = false ∧ res (.snapshot 0 0) planed = (4, 3)
    ∧ (ob (okey 0x32C0 0x0B) 2 planed).snapPlaced 0 = true ∧ res (.snapshot 0 0) (ob (okey 0x32C0 0x0B) 2 planed) = (0, 1)
    ∧ res (.restoreStep 0 0) planed = (5, 3) ∧ snap.snapStep 0 = 0 ∧ res (.restoreStep 0 0) snap = (0, 1) := by decide +kernel

theorem test_step_action : let run := fun (k : Nat) (s : State) => nx (exec (.stepActionComplete 0) { s with stepRun := [(0, k)] })
    let s := ob (okey 0x32C0 0x0B) 2 planed
    planed.dieRuns = true ∧ stays (exec (.stepActionComplete 0) planed) planed = true
    ∧ (run 3 s).obj 0x32C003 = 2 ∧ (run 4 s).snapStep 0 = 0 ∧ (run 4 s).snaps = [(0, [(0, slotOf 2)])]
    ∧ (run 5 (run 4 s)).obj 0x32C003 = 2 := by decide +kernel

/-! ### Serving -/

/-- A serving record: MAXSEQ 4, one region a sequence from region 100, four results, BDONE on counter 4 once, LDONE on 2. -/
def record1 : Nat :=
  4 * 2 ^ 218 + 2 * 2 ^ 212 + 2 ^ 200 + 4 * 2 ^ 191 + 100 * 2 ^ 171 + 2 ^ 163 + 2 ^ 20 * 2 ^ 123 + 4 * 2 ^ 106

/-- Context 0 serves over slot 0, with WVER and WLOAD_VER, and a change of its sequencer. -/
def serves (w l : Nat) (f : Serving → Serving := id) : State :=
  { planed with
    objs := [(okey 0x1480 1, 4), (0x410001, 3), (0x220001, w), (0x220003, l)]
    serving := [(0, f { on := true, record := record1 })] }

/-- Buffer 0 or 1 of slot 0 in a state with a version. -/
def buf0 (b : Nat) (st : BufState) (n : Nat) (v : Serving) : Serving :=
  { v with bufs := (b, st) :: v.bufs, vers := (b, n) :: v.vers }

theorem test_weights : let res := fun (i : Instr) (s : State) => let t := nx (exec i s); (t.obj 0x220005, t.obj 0x220004)
    let sw := fun (v : Serving) => ({ v with switch := true } : Serving)
    let u := nx (exec (.weightSwitch 0 0) (serves 0 1))
    let r := nx (exec (.revert 0 0) (serves 2 2 (fun v => buf0 1 .ready 1 { buf0 0 .ready 2 v with started := 1 })))
    planed.access 0 0x2200 = 0 ∧ res (.weightLoad 0 0) planed = (1, 3) ∧ (nx (exec (.weightLoad 0 0) (serves 4 0))).wloadVer 0 = 5
    ∧ res (.weightLoad 0 0) (serves 0 1) = (2, 3) ∧ res (.revert 0 0) (serves 0 1) = (2, 3)
    ∧ res (.weightLoad 0 0) (serves 0 0 sw) = (3, 3) ∧ res (.weightSwitch 0 0) (serves 0 1 sw) = (3, 3)
    ∧ res (.weightSwitch 0 0) (serves 0 0) = (4, 3) ∧ u.obj 0x220002 = 1 ∧ (u.serv 0).switch = true
    ∧ res (.revert 0 0) (serves 0 0) = (5, 3) ∧ r.obj 0x220002 = 1 ∧ r.wver 0 = 2 := by decide +kernel

theorem test_slot_fills : let s := serves 0 1
    let t := nx (exec (.slotFillStart 0) s)
    let z : State := { s with slots := s.slots.map (fun e => (e.1, e.2.setPin 1 1)) }
    let d := fun (s : State) => ({ s with tok := [(ckey 0 0x94 2, 1)] } : State)
    let r := nx (exec (.slotReady 0) (d t))
    s.filling 0 = true ∧ s.servSlots 0 = [0] ∧ (t.serv 0).buf 0 1 = .filling ∧ t.posts.length = 1
    ∧ stays (exec (.slotFillStart 0) z) z = true ∧ stays (exec (.slotFillStart 0) t) t = true
    ∧ (d t).avail 0 0x94 2 = 1 ∧ (r.serv 0).buf 0 1 = .ready ∧ r.avail 0 0x94 2 = 0
    ∧ ((nx (exec (.slotReady 0) (d s))).ctx 0).holdFault = 0x5004 ∧ stays (exec (.slotReady 0) t) t = true := by decide +kernel

/-- A batch image: its number, one region for each sequence slot that joins, slots that leave. -/
def batchOf (n : Nat) (join leave : List Nat) : Nat :=
  n * 2 ^ 2560 + (join.map (fun q => 2 ^ q + 2 ^ (8 * (64 + q)))).foldl (· + ·) 0 + (leave.map (fun q => 2 ^ (256 + q))).foldl (· + ·) 0

/-- BATCH_IMAGE of path 0. -/
def offer (x : Nat) (s : State) : State := { s with pobjs := [(pkey 0 0x220007, x)] }

theorem test_batch_submit : let why := fun (s : State) => (nx (exec (.batchSubmit 0 0) s)).obj 0x220009
    let b : Batch := { image := batchOf 6 [] [], result := 2 }
    let t := nx (exec (.batchSubmit 0 0) (offer (batchOf 7 [0] []) (serves 1 1)))
    (t.serv 0).batches.map (·.result) = [3] ∧ (t.serv 0).lastSeq = some 7 ∧ t.obj 0x220008 = 2
    ∧ why planed = 1 ∧ why (serves 1 1 (fun v => { v with batches := [b, b] })) = 2
    ∧ why (offer (batchOf 7 [] []) (serves 1 1 (fun v => { v with lastSeq := some 7 }))) = 3
    ∧ why (offer (batchOf 7 [4] []) (serves 1 1)) = 4
    ∧ why (offer (batchOf 7 [0] []) (serves 1 1 (fun v => { v with kv := [(0, [])] }))) = 5
    ∧ why (offer (batchOf 7 [] []) (serves 0 0)) = 6
    ∧ why (offer (batchOf 7 [] []) (ob 0x240301 (2 ^ 30) (serves 1 1))) = 7 := by decide +kernel

/-- One batch of context 0: two joins for one pool frame, slot 2 leaves. -/
def running (f : Batch → Batch := id) : State :=
  serves 1 1 (fun v => { buf0 1 .ready 1 v with
    batches := [f { image := batchOf 7 [0, 1] [2], result := 3 }], kv := [(2, [])] })

theorem test_batch_runs : let t := nx (exec (.batchAdmit 0 []) running)
    let u := nx (exec (.slotTokenPost 0) t)
    let d := running (fun b => { b with admitted := true, version := 1, pins := [0], bdone := 1 })
    let e := nx (exec (.batchComplete 0) d)
    running.dieRuns = true ∧ t.wver 0 = 1 ∧ (t.slot 0).pin 1 = 1 ∧ ((t.serv 0).batches.map (fun b => (b.deferred, b.defMap))) = [(1, 2)]
    ∧ t.posts.length = 1 ∧ (t.serv 0).holds 0 1 = true ∧ u.posts.length = 2 ∧ stays (exec (.slotTokenPost 0) u) u = true
    ∧ stays (exec (.batchAdmit 0 []) t) t = true ∧ stays (exec (.batchComplete 0) t) t = true
    ∧ (let h := d.updCtx 0 (fun c => { c with held := true }); stays (exec (.batchComplete 0) h) h = true)
    ∧ (e.serv 0).batches = [] ∧ (e.serv 0).kv = [] ∧ e.obj 0x240301 = 2 ^ 30 + 7 ∧ e.obj 0x22000F = 1
    ∧ stays (exec (.batchAdmit 0 []) planed) planed = true := by decide +kernel

theorem test_results : let s := ob 0x240302 7 (ob 0x240301 (2 ^ 30 + 7) (serves 1 1))
    s.access 0 0x2403 = 0 ∧ (nx (exec (.resAck 0 3 7) s)).obj 0x240301 = 2 ^ 31 + 7 ∧ (nx (exec (.resAck 0 3 8) s)).obj 0x240301 = 2 ^ 30 + 7
    ∧ (nx (exec (.resAck 0 3 8) s)).obj 0x121005 = 1 ∧ (nx (exec (.resWordRead 0 3) s)).obj 0x240305 = 1
    ∧ (nx (exec (.resWordRead 0 3) (ob 0x240305 65535 s))).obj 0x240305 = 65535
    ∧ stays (exec (.resWordRead 0 4) s) s = true := by decide +kernel

/-! ### Contexts -/

/-- A plan image with the bucking record alone, that LOAD accepts. -/
def least : List (Nat × Nat × Nat) :=
  [(0, 4, 0x901), (112, 4, 160), (116, 4, 32)] ++ (List.range 7).map (fun k => (160 + 2 * k, 2, 1))

/-- A module that holds this image in context 0's Landing allocation, with PLAN_ADDR and PLAN_LEN, and a context 0. -/
def offering (n : Nat) (c : Ctx := {}) (es : List (Nat × Nat × Nat) := least) : State :=
  { tier rdy with
    objs := [(okey 0x1480 1, 4), (0x200001, 2 ^ 26), (0x200002, n)]
    allocs := [(0, { first := 1, count := 1 })]
    landing := bld (es.map (fun e => (64 * 2 ^ 26 + e.1, e.2)))
    ctxs := [(0, c)]
    segs := [(0, { mode := 1 })] }

/-- The image that LOAD copies and what is wrong with it. -/
def loadSays (s : State) : Nat × PlanBad :=
  let n := s.obj 0x200002
  (s.loadReason 0 (s.obj 0x200001) n, ({ s with segs := [] } : State).imageBad (s.copyImage (s.obj 0x200001) n {} 0 3) n 0)

theorem test_load : let t := nx (exec (.planLoad 0 0) (offering 192))
    let c : Ctx := { st := .placed, len := 192, held := true, image := bld least }
    let u := nx (exec (.planLoad 0 0) (offering 192 c))
    loadSays (offering 192) = (0, none) ∧ (t.ctx 0).st = .waiting ∧ (t.ctx 0).image = bld least ∧ t.obj 0x200003 = 2 ∧ t.segs = []
    ∧ loadSays (offering 192 c) = (0, none) ∧ (u.ctx 0).st = .unloading ∧ u.obj 0x200003 = 1
    ∧ loadSays (offering 128) = (0, some (2, 0x5001)) ∧ (nx (exec (.planLoad 0 0) (offering 128))).obj 0x200004 = 2 * 2 ^ 28 + 0x5001
    ∧ (loadSays (offering (2 ^ 26 + 1))).1 = 3
    ∧ (nx (exec (.planLoad 0 0) (offering (2 ^ 26 + 1)))).obj 0x200004 = 3 * 2 ^ 28 + 0x5001 := by decide +kernel

theorem test_unload : let c : Ctx := { st := .placed, len := 192, image := bld least }
    let t := nx (exec (.unload 0 0) (offering 192 c))
    let d := nx (exec (.unloadComplete 0 0) t)
    let w := offering 192 { c with st := .unloading, nextImage := some (bld least, 192) }
    let b := fly [cmd .limber (word 0x63 [])] t
    (t.ctx 0).st = .unloading ∧ (nx (exec (.unload 0 0) (offering 192))).obj 0x200003 = 3
    ∧ (d.ctx 0).st = .empty ∧ d.obj 0x200003 = 2 ∧ ((nx (exec (.unloadComplete 0 0) w)).ctx 0).st = .waiting
    ∧ stays (exec (.unloadComplete 0 0) b) b = true := by decide +kernel

/-- Context 0 in a state with one task, pre-emptible when asked, on core 0 in a phase. -/
def onCore (st : CtxState) (ph : CorePhase) (flags : Nat := 2) (f : Ctx → Ctx := id) : State :=
  { rdy with
    ctxs := [(0, f { st := st, len := 1024, image := (plan [word 3 []]).writeLe 4 4 flags, places := [(0, 1)] })]
    cores := [(0, { phase := ph, engs := [0, 1, 2, 3], data := { pad := bld [(5, 1, 7)] } })] }

theorem test_plan_cmds : let why := fun (i : Instr) (s : State) => (nx (exec i s)).obj 0x200004 / 2 ^ 28
    let held := fun (c : Ctx) => ({ c with held := true } : Ctx)
    let r := nx (exec (.resumePlan 0 0) (onCore .placed .running 2 held))
    let p := nx (exec (.preempt 0 0) (onCore .placed .running))
    let c := nx (exec (.cancel 0 0) p)
    rdy.access 0 0x2000 = 0 ∧ why (.resumePlan 0 0) (onCore .placed .running) = 7 ∧ (r.ctx 0).held = false
    ∧ ((nx (exec (.resumePlan 0 0) (onCore .placed .running 2 (fun c => { held c with broken := true })))).ctx 0).holdFault = 0x8003
    ∧ why (.preempt 0 0) rdy = 8 ∧ why (.preempt 0 0) (onCore .placed .running 0) = 9 ∧ (p.ctx 0).st = .saving ∧ p.drains 0 = true
    ∧ (p.core 0).phase = .draining ∧ (c.ctx 0).st = .placed ∧ (c.core 0).phase = .running ∧ c.obj 0x200003 = 2
    ∧ why (.cancel 0 0) rdy = 0xA ∧ (nx (exec (.cancel 0 0) (ob 0x200003 1 rdy))).obj 0x121005 = 1
    ∧ why (.clearPlacement 0 0) (onCore .placed .running) = 0xD
    ∧ ((nx (exec (.clearPlacement 0 0) (onCore .waiting .free 1 (fun c => { c with mapped := true })))).ctx 0).mapped = false
    ∧ (nx (exec (.tallyClear 0 0) (ob 0x200018 9 rdy))).obj 0x200018 = 0 := by decide +kernel

theorem test_placement : let w := onCore .waiting .free
    let t := nx (exec (.placement 0) w)
    let f := ob (okey 0x9000 9) 1 (onCore .waiting .free 1 (fun c => { c with mapped := true, placeMap := [(0, 1)] }))
    let b : State := { w with cores := (List.range 16).map (fun n => (n, { phase := .running, ctx := 1 })) }
    w.waiting 0 = true ∧ w.mapFenced 0 = false ∧ w.waiters.findSome? (fun c => (w.fits [] c).map (fun x => (c, x))) = some (0, [(0, 0)])
    ∧ (t.ctx 0).st = .placed ∧ (t.core 0).phase = .clearing ∧ ((nx (exec (.coreClearComplete 0) t)).core 0).phase = .running
    ∧ f.mapFenced 0 = true ∧ ((nx (exec (.placement 0) f)).ctx 0).holdFault = 0x5016
    ∧ b.waiters.findSome? (fun c => (b.fits [] c).map (fun x => (c, x))) = none ∧ stays (exec (.placement 0) b) b = true
    ∧ stays (exec (.coreClearComplete 0) w) w = true ∧ stays (exec (.placement 1) w) w = true
    ∧ ((nx (exec (.sliceExpiry 0) (onCore .placed .running))).ctx 0).sliceDone = true
    ∧ stays (exec (.sliceExpiry 0) w) w = true := by decide +kernel

theorem test_scheduler : let c1 : Ctx := { st := .placed, len := 1024, image := (plan [word 3 []]).writeLe 4 4 2, sliceDone := true }
    let w := onCore .waiting .free
    let s : State := { w with
      ctxs := w.ctxs ++ [(1, c1)], cores := (List.range 16).map (fun n => (n, { phase := .running, ctx := 1 })) }
    s.victims = [1] ∧ s.dieRuns = true ∧ ((nx (exec .schedulerEvaluate s)).ctx 1).st = .saving
    ∧ ((nx (exec .schedulerEvaluate w)).ctx 0).st = .placed := by decide +kernel

theorem test_saves : let d := onCore .saving .draining 2 (fun c => { c with preempted := true })
    let pad : Mem := bld [(5, 1, 7)]
    let t := onCore .saving .saving 2 (fun c => { c with preempted := true, saves := [(0, { data := { pad := pad } })] })
    let u := nx (exec (.saveComplete 0) t)
    let b := fly [cmd .limber (word 0x63 [])] d
    let r := onCore .restoring .restoring 2 (fun c => { c with saves := (t.ctx 0).saves })
    let l := r.updRegion 0 (fun g => { g with lost := true })
    let o := r.updCtx 0 (fun c => { c with saves := [(0, { area := pad })] })
    (d.core 0).phase = .draining ∧ d.flights = [] ∧ d.dieRuns = true ∧ d.drains 0 = true ∧ t.drains 0 = false
    ∧ stays (exec (.saveStart 0 0) b) b = true ∧ stays (exec (.saveComplete 0) d) d = true ∧ (u.ctx 0).st = .saved
    ∧ (u.core 0).phase = .free ∧ u.obj 0x200015 = 1 ∧ u.obj 0x200003 = 2 ∧ r.saveLost 0 = false
    ∧ ((nx (exec (.restoreComplete 0) r)).core 0).data.pad = pad ∧ ((nx (exec (.restoreComplete 0) r)).ctx 0).st = .placed
    ∧ r.saveArea 0 0 = (Tab.get {} (r.ctx 0).saves 0).area ∧ o.saveArea 0 0 ≠ (Tab.get {} (o.ctx 0).saves 0).area
    ∧ o.saveLost 0 = false ∧ l.saveLost 0 = true ∧ ((nx (exec (.restoreComplete 0) l)).ctx 0).holdFault = 0x2005
    ∧ stays (exec (.restoreComplete 0) d) d = true ∧ ((nx (exec (.preemptOverrun 0) b)).ctx 0).overrun = true
    ∧ stays (exec (.preemptOverrun 0) d) d = true := by decide +kernel

theorem test_drain_counts : let d := (onCore .saving .saving).updCtx 0 (fun c => { c with drain := 160001 })
    let t := d.countDrain 0
    t.obj 0x200016 = 1 ∧ t.obj 0x200017 = 1 ∧ t.obj 0x200018 = 160001
    ∧ ((d.updCtx 0 (fun c => { c with drain := 160000 })).countDrain 0).obj 0x200016 = 0 := by decide +kernel

/-! ### Faults, the Scaler, checks -/

/-- The codes and counts of a state's fault ring. -/
def ringOf (s : State) : List (Nat × Nat × Nat) := s.faults.ring.map (fun r => (r.seq, r.code, r.count))

theorem test_faults : let rep := fun (s : State) (c : Nat) => s.report c 4 1 none 0 false false
    let a := rep rdy 0x1002
    let b := rep a 0x1002
    let full : State := { b with faults := { b.faults with ring := b.faults.ring.map (fun r => { r with count := 65535 }) } }
    let r := nx (exec (.faultRecordRead 0) { rep b 0x1004 with pobjs := [(pkey 0 0x500002, 1)] })
    ringOf a = [(1, 0x1002, 1)] ∧ ringOf b = [(1, 0x1002, 2)] ∧ ringOf (rep b 0x1004) = [(2, 0x1004, 1), (1, 0x1002, 2)]
    ∧ ringOf (rep full 0x1002) = [(2, 0x1002, 1), (1, 0x1002, 65535)] ∧ b.obj 0x500006 = 2
    ∧ rdy.access 0 0x5000 = 0 ∧ r.faults.ring.map (·.read) = [false, true] := by decide +kernel

theorem test_flags : let s := ob 0x500005 1 (ob 0x510003 8 (ob 0x510001 1 rdy))
    rdy.access 0 0x5100 = 0 ∧ (nx (exec (.w1cFlagClear 0 0x5000 5 none) s)).obj 0x500005 = 0
    ∧ (nx (exec (.w1cFlagClear 0 0x5000 5 (some 0)) s)).obj 0x500005 = 1 ∧ (nx (exec (.w1cFlagClear 0 0x5000 5 (some 0)) s)).obj 0x500006 = 1
    ∧ (nx (exec (.w1cFlagClear 0 0x5100 1 none) s)).obj 0x510003 = 0
    ∧ (nx (exec (.w1cFlagClear 0 0x5100 1 (some 1)) s)).obj 0x510001 = 1
    ∧ (nx (exec (.w1cFlagClear 0 0x5100 1 (some 1)) s)).obj 0x510003 = 8 + 2 ^ 27
    ∧ stays (exec (.w1cFlagClear 0 0x5000 6 none) s) s = true := by decide +kernel

/-- A status record of context 0 with a special value and saturation. -/
def seen : ScalerIn :=
  { ctx := 0, kind := 1, source := 0x88, item := 2, stat := { special := true, saturated := true, first := 3 }, ovf := true, ovfPos := 4 }

theorem test_findings : let s : State := { rdy with scalerQ := [seen] }
    let h := ob 0x510005 (2 * 2 ^ 30) s
    let i := ob 0x510005 0 s
    s.dieRuns = true ∧ (nx (exec .scalerRecord s)).obj 0x510006 = 1 ∧ (nx (exec .scalerRecord s)).obj 0x510008 = 1
    ∧ h.findingAction 0 0 = 2 ∧ (nx (exec .scalerRecord h)).obj 0x510001 = 1 ∧ (nx (exec .scalerRecord h)).obj 0x510003 = 2 ^ 31
    ∧ i.findingAction 0 0 = 0 ∧ (nx (exec .scalerRecord i)).faults.ring = [] ∧ stays (exec .scalerRecord rdy) rdy = true := by
  decide +kernel

theorem test_choice :
    scalerChoice false 1 [([(120, 10), (125, 5)], false)] = (3, 112) ∧ scalerChoice false 1 [([(80, 10), (125, 5)], false)] = (4, 0)
    ∧ scalerChoice false 1 [([(1, 10), (125, 5)], false)] = (1, 0) ∧ scalerChoice false 2 [([(120, 10)], false)] = (1, 0)
    ∧ scalerChoice false 1 [([(120, 10), (255, 1)], false)] = (1, 0) ∧ scalerChoice false 1 [([(120, 10)], true)] = (1, 0)
    ∧ scalerChoice true 1 [([(120, 10)], false)] = (1, 0) ∧ scalerChoice false 1 [([(20, 1), (120, 2000)], false)] = (3, 107) := by
  decide +kernel

/-- Context 0 without a plan, its Landing allocation, SCALER_ADDR, XCHK_ADDR, and a slot's window. -/
def scaled (a : Nat) : State :=
  { tier rdy with
    allocs := [(0, { first := 1, count := 1 })]
    pobjs := [(pkey 0 0x51000E, a), (pkey 0 0x550001, a)]
    scaler := [(scalerKey 0 3, { window := [([(120, 1)], false)], choice := (3, 107) })] }

/-- The same without a slot's window. -/
def plain (a : Nat) : State := { scaled a with scaler := [] }

theorem test_scaler_xfer : let s := plain (2 ^ 26)
    let t := nx (exec (.scalerExport 0 0) s)
    let m := nx (exec (.scalerImport 0 0) { t with scaler := (scaled 0).scaler })
    s.access 0 0x5100 = 0 ∧ s.xferOk 0 (2 ^ 26) (s.scalerBytes 0) = true ∧ t.obj 0x51000F = 2 ∧ t.landing.readLe (64 * 2 ^ 26) 4 = scalerMark
    ∧ m.obj 0x51000F = 2 ∧ m.scaler = [] ∧ (nx (exec (.scalerImport 0 0) s)).obj 0x51000F = 3
    ∧ (plain 64).xferOk 0 64 (s.scalerBytes 0) = false ∧ (nx (exec (.scalerExport 0 0) (plain 64))).obj 0x51000F = 3 := by
  decide +kernel

theorem test_scaler_entry : let z : ScalerSlot := { window := [([(5, 9)], true)], choice := (3, 107) }
    let bs := (scalerEntry 3 z 0).take 40
    (bs.take 4 = leBytes 4 (3 * 2 ^ 21 + 3 * 2 ^ 17 + 107 * 2 ^ 9 + 2 ^ 8 + 1)) ∧ (bs.drop 24).take 4 = [9, 0, 0, 0]
    ∧ (scalerSlotAt (fun a => bs.getD a 0) 0 1).map (fun e => (e.1, e.2.choice)) = some (3, (3, 107)) := by decide +kernel

theorem test_scaler_window : let w := nx (exec (.scalerWindowWrite 0 0 32) (scaled 64))
    w.obj 0x51000A = 32 ∧ (Tab.get {} w.scaler 3).window = [] ∧ (Tab.get {} w.scaler 3).choice = (1, 0)
    ∧ (scaled 64).choiceTaken 0 3 = false ∧ (nx (exec (.scalerWindowWrite 0 0 33) (scaled 64))).obj 0x121005 = 1
    ∧ (nx (exec (.scalerWindowWrite 0 0 0) (scaled 64))).obj 0x121005 = 1 := by decide +kernel

/-- A capture of engine 0 with digest 7 in a phase, and CANT 2 as FENCE_AFTER. -/
def sampled (p : CapPhase) (s : State := rdy) : State :=
  { ob 0x501002 2 s with captures := [{ waitingCap with digest := 7, check := 8, phase := p }] }

theorem test_check : let q := sampled .queued
    let off : State := { q with power := { q.power with off := [(16, true)] } }
    q.nextChecker 1 = some 64 ∧ q.dieRuns = true ∧ (nx (exec (.checkStart 1 64) q)).captures.map (·.phase) = [.checking 64]
    ∧ (nx (exec (.checkStart 1 64) q)).nextChecker 1 = some 65 ∧ stays (exec (.checkStart 1 65) q) q = true
    ∧ off.unitOff 16 = true ∧ (nx (exec (.checkStart 1 64) off)).power.turning = [(16, true)]
    ∧ stays (exec (.checkComplete 1 0) q) q = true ∧ (sampled (.checking 64)).unitDown 16 = false
    ∧ stays (exec (.checkStart 2 64) q) q = true ∧ (ob (okey 0x9040 9) 1 q).nextChecker 1 = some 65 := by decide +kernel

/-- A sound engine's digest equals that of the capture, or differs from it; the arbiter's agrees with either or with neither. -/
theorem test_check_digests : let r := waitingCap.replay
    (∀ p, let c : Capture := { waitingCap with digest := r, phase := p }; c.replay ^^^ 0 = c.digest)
    ∧ (∀ p, let c : Capture := { waitingCap with digest := r + 1, check := r, phase := p }
        c.replay ^^^ 0 ≠ c.digest ∧ c.replay ^^^ 0 = c.check)
    ∧ (∀ p, let c : Capture := { waitingCap with digest := r + 1, check := r + 2, phase := p }
        c.replay ^^^ 0 ≠ c.digest ∧ c.replay ^^^ 0 ≠ c.check) := by
  intro r
  have h : ∀ (d k : Nat) (p : CapPhase), ({ waitingCap with digest := d, check := k, phase := p } : Capture).replay ^^^ 0 = r :=
    fun d k p => Nat.xor_zero _
  exact ⟨fun p => h _ _ p, fun p => ⟨fun e => absurd ((h _ _ p).symm.trans e) (Nat.ne_of_lt (Nat.lt_succ_self r)), h _ _ p⟩,
    fun p => ⟨fun e => absurd ((h _ _ p).symm.trans e) (Nat.ne_of_lt (Nat.lt_succ_self r)),
      fun e => absurd ((h _ _ p).symm.trans e) (Nat.ne_of_lt (Nat.lt_add_of_pos_right (n := r) (k := 2) (by decide)))⟩⟩

theorem test_verdicts : let a := sampled (.arbitrating 64)
    let off : State := { a with power := { a.power with off := [(32, true)] } }
    let go := fun (s : State) => s.chargeEngine 0 64 { verdict := 1, engines := [], opHash := 0, cants := [], digests := [], formats := [], confirmed := 0 }
    a.nextChecker 2 = some 128 ∧ stays (exec (.arbitrationComplete 1 64 7) a) a = true
    ∧ (nx (exec (.arbitrationComplete 1 128 0) off)).power.turning = [(32, true)]
    ∧ (go a).obj (okey (0x5200 + 64) 1) = 1 ∧ (go a).obj (okey (0x9000 + 64) 9) = 0
    ∧ (go (ob (okey (0x5200 + 64) 1) 1 a)).obj (okey (0x9000 + 64) 9) = 1 := by decide +kernel

/-- A kept capture of a PRELOAD of one row and a DRAIN, as bytes at the start of region 1 (log entry 37). -/
def shipped : State :=
  { sampled .kept (plain (2 ^ 26)) with
    landing := bld ([(0, 4, captureMark), (4, 4, 2), (8, 4, 256), (16, 4, 16384), (64, 16, (word 0x11 [(67, 1)]).toNat),
      (80, 16, (word 0x12 []).toNat)].map (fun e => (64 * 2 ^ 26 + e.1, e.2))) }

theorem test_xchk : let k := sampled .kept (plain (2 ^ 26))
    k.access 0 0x5500 = 0 ∧ k.inLandingAlloc 0 (2 ^ 26) (2 ^ 21) = true
    ∧ (k.captures.find? (fun c => c.ctx = 0 && c.phase = .kept)).isSome = true
    ∧ (nx (exec (.xchkExport 0) (sampled .queued (plain (2 ^ 26))))).obj 0x550003 = 3
    ∧ (nx (exec (.xchkExport 0) (sampled .kept (plain 64)))).obj 0x550003 = 3
    ∧ (captureDigest (fun x => shipped.tierRead (2 ^ 26 + x))).isSome = true ∧ groupForm [word 0x11 []] 0 0 0 = false
    ∧ captureDigest (fun x => k.tierRead (2 ^ 26 + x)) = none ∧ (nx (exec (.xchkRun 0) k)).obj 0x550003 = 3
    ∧ (nx (exec (.xchkRun 0) (plain 64))).obj 0x550003 = 3 := by decide +kernel

theorem test_blaze_sign : let b := fun (n : Nat) (g : Bool) => ({ seq := n, payload := [], signed := g, read := false } : Blaze)
    let s : State := { rdy with faults := { blazes := [b 3 false, b 2 false, b 1 true] } }
    (nx (exec .blazeSign s)).faults.blazes = [b 3 false, b 2 true, b 1 true] := by decide +kernel

/-! ### The Snag, dumps, firebreaks, isolation -/

/-- Core 0 of context 0 runs a Limber command that stands still: its unit waits on itself. -/
def stuckState : State :=
  { fly [{ cmd .limber (word 0x63 []) with phase := .running }] (task [word 3 []]) with
    snag := { watch := [(((0x2000, 0), (0x2000, 0)), 4883)] } }

theorem test_snag : let c := [(0x2000, 0)]
    let t := nx (exec (.snagDeclare c) stuckState)
    wellFormed (.snagDeclare c) = true ∧ stuckState.isCycle c = true ∧ stuckState.stood c = true ∧ stuckState.declared c = false ∧ stuckState.obj 0x560001 ≠ 0
    ∧ (t.ctx 0).holdFault = 0x8001 ∧ t.obj 0x560003 = 1 ∧ t.dumping = true ∧ t.snag.records.map (·.suspects) = [1]
    ∧ { stuckState with snag := {} }.snagSample.snagSample.snag.watch = [(((0x2000, 0), (0x2000, 0)), 1)]
    ∧ ({ stuckState with snag := { watch := [(((0x2000, 0), (0x2000, 0)), 4882)] } } : State).stood c = false
    ∧ t.declared c = true ∧ stays (exec (.snagDeclare c) rdy) rdy = true := by decide +kernel

/-- A dump that runs, of a cause, with one section of two reads. -/
def dumpRun (cause : Nat) (s : State := rdy) : State :=
  { s with dumps := [(0, { st := .writing, cause := cause, seq := 4, len := 208, data := bld [(64, 2, 0x2000), (66, 1, 0xFF), (67, 1, 2)] })] }

theorem test_dump_cmds : let t := nx (exec (.dumpCmd 0 1) rdy)
    let done := fun (st : DumpSt) => ({ rdy with dumps := [(0, { st := st, seq := 4 })] } : State)
    rdy.access 0 0x5700 = 0 ∧ rdy.dumping = false ∧ t.obj 0x570001 = 1 ∧ t.dumping = true ∧ (t.dump 0).seq = 1
    ∧ (nx (exec (.dumpCmd 0 1) (dumpRun 1))).obj 0x570001 = 3 ∧ (nx (exec (.dumpCmd 0 2) rdy)).obj 0x121005 = 1
    ∧ ((nx (exec (.dumpRelease 0 1) (done .ready))).dump 0).st = .released ∧ (nx (exec (.dumpRelease 0 1) (done .ready))).obj 0x570006 = 2
    ∧ ((nx (exec (.dumpRelease 0 1) (done .writing))).dump 0).st = .writing
    ∧ (nx (exec (.dumpRelease 0 0) rdy)).obj 0x121005 = 1 := by decide +kernel

theorem test_dump_read : stuckState.observe 0x2000 0 0 = [(0, 4, some (stuckState.limberState 0)), (16, 16, some 0)] := by
  decide +kernel

theorem test_dump_runs : let o := fun (r : Nat) (s : State) => nx (exec (.observationReadTimeout 0x2000 0xFF r) s)
    let d := o 1 (dumpRun 1)
    let fb := ob 0x580004 1
    wellFormed (.observationReadTimeout 0x2000 0xFF 1) = true ∧ (d.dump 0).bad = [(0x2000, 0xFF, 1)] ∧ (d.dump 0).data.readLe 12 4 = 1
    ∧ stays (exec (.observationReadTimeout 0x2000 0xFF 1) d) d = true
    ∧ stays (exec (.observationReadTimeout 0x2000 0xFF 2) d) d = true ∧ stays (exec (.observationReadTimeout 0 0 2) d) d = true
    ∧ ((nx (exec .dumpComplete (dumpRun 0))).dump 0).st = .ready ∧ (nx (exec .dumpComplete (dumpRun 0))).obj 0x570001 = 2
    ∧ (nx (exec .dumpComplete (dumpRun 2 (fb rdy)))).snag.dumped = true
    ∧ ((nx (exec .dumpComplete (dumpRun 1 (fb rdy)))).dump 1).cause = 2 ∧ stays (exec .dumpComplete rdy) rdy = true := by decide +kernel

/-- FB_UNIT of path 0. -/
def fbAt (u : Nat) (s : State) : State := { s with pobjs := [(pkey 0 0x580001, u)] }

theorem test_firebreak_request :
    rdy.access 0 0x5800 = 0 ∧ (nx (exec (.fbCore 0) (fbAt 127 rdy))).obj 0x580005 = 2 ^ 24 + 127 * 2 ^ 16
    ∧ (nx (exec (.fbCore 0) (fbAt 127 rdy))).dumping = true ∧ (nx (exec (.fbCore 0) (fbAt 127 rdy))).obj 0x580002 = 1
    ∧ (nx (exec (.fbCore 0) (fbAt 128 rdy))).obj 0x580003 = 2 ∧ (nx (exec (.fbModule 0) (fbAt 1 rdy))).obj 0x580002 = 3
    ∧ (nx (exec (.fbPlaner 0) (ob 0x580002 1 rdy))).obj 0x580003 = 1 := by decide +kernel

/-- A firebreak of a code and unit whose dump has been taken. -/
def struck (code u : Nat) (s : State := stuckState) : State :=
  { ob 0x580004 1 (ob 0x580005 (code * 2 ^ 24 + u * 2 ^ 16) s) with snag := { dumped := true } }

theorem test_firebreak_reset : let go := fun (s : State) => nx (exec .firebreakReset s)
    let c := go (struck 1 0)
    stays (exec .firebreakReset rdy) rdy = true ∧ (struck 1 0).dumping = false ∧ (struck 1 0).breaks 1 0 0 = true
    ∧ (c.ctx 0).holdFault = 0x8003 ∧ c.flights = [] ∧ (c.core 0).phase = .free ∧ c.downUnits = [0] ∧ c.obj 0x580006 = 1
    ∧ (nx (exec .firebreakComplete c)).downUnits = [] ∧ (nx (exec .firebreakComplete c)).obj 0x580002 = 2
    ∧ (go (struck 6 0)).ctxs = [] ∧ (go (struck 6 0)).incarnation = 1 ∧ (go (struck 7 0)).obj 0x148002 = 3
    ∧ (go (struck 7 0)).power.latched = [(0x8003, 0x700)] ∧ stays (exec .firebreakComplete rdy) rdy = true := by decide +kernel

theorem test_isolation : let s := onCore .waiting .free
    let r := fun (i : Instr) (s : State) => (nx (exec i s)).obj 0x590003
    let i := nx (exec (.replayStart 0) s)
    let o : State := { stuckState with pobjs := [(pkey 0 0x590001, 1)] }
    s.access 0 0x5900 = 0 ∧ s.notAlone 0 = false ∧ i.isolated = some 0 ∧ i.waiting 0 = true ∧ i.nextPlaced = some (0, [(0, 0)])
    ∧ r (.replayStart 0) i = 2 ∧ o.notAlone 1 = true ∧ r (.replayStart 0) o = 1 ∧ r (.replayEnd 0) s = 3
    ∧ (nx (exec (.replayEnd 0) i)).isolated = none ∧ (i.noteReplay 0 2 0x8001 1).snag.log = [2 * 2 ^ 62 + 0x8001 * 2 ^ 40 + 1]
    ∧ ((i.noteReplay 0 2 0x8001 1).noteReplay 0 1 2 3).snag.log.length = 1 := by decide +kernel

/-! ### The dictionary, BAR0, segments -/

/-- A write of an object, seen on the state after it. -/
def wr (path k v : Nat) (s : State := rdy) : State := nx (exec (.registerWrite path (k / 256) (k % 256) v) s)

/-- The reason of a refused write that this state has counted first. -/
def why (s : State) : Nat := if s.obj 0x121005 = 1 then s.obj 0x121004 / 2 ^ 60 else 0

theorem test_writes_refused : let cruising := ob 0x648001 1 rdy
    rdy.access 0 0x6300 = 0 ∧ why (wr 0 0x100001 5) = 2 ∧ why (wr 3 0x0F0001 5) = 1 ∧ why (wr 2 0x130001 1) = 6
    ∧ why (wr 0 0x630003 (2 ^ 40)) = 3 ∧ why (wr 0 0x630003 700) = 3 ∧ why (wr 0 0x120001 5) = 4
    ∧ why (wr 0 0x648001 9) = 3 ∧ why (wr 0 0x648001 9 cruising) = 5 ∧ why (wr 0 0x648001 1 cruising) = 5
    ∧ why (wr 0 0x280007 32) = 3 ∧ stays (exec (.registerWrite 0 0x5000 5 0) rdy) rdy = true := by decide +kernel

theorem test_writes_applied : let t := wr 2 0x500002 7
    (wr 0 0x630003 900).obj 0x630003 = 900 ∧ (wr 5 0x630003 900).obj 0x121005 = 0 ∧ t.pobj 2 0x500002 = 7
    ∧ t.pobj 1 0x500002 = rdy.pobj 1 0x500002 ∧ why (wr 0 0x400001 1) = 0
    ∧ why (wr 0 0x400001 1 { rdy with links := [(3, { st := .training })] }) = 8
    ∧ (wr 1 0x7FFFFF 1 (ob 0x600001 2 rdy)).obj 0x121005 = 0
    ∧ (wr 0 0x648001 1).obj 0x648001 = 1 := by decide +kernel

/-- What has left the module last. -/
def last (s : State) : Option Output := s.out.getLast?

/-- A BAR0 read of one whole slot. -/
def rd (k : Nat) (s : State) : State := nx (exec (.bar0ReadRequest (4 * k) 1 15 false) s)

/-- A BAR0 write of one slot. -/
def wt (k e v : Nat) (s : State) : State := nx (exec (.bar0WriteRequest (4 * k) e [v] false) s)

theorem test_bar0_reads : let a := fun (off dws be : Nat) (l : Bool) (s : State) => last (nx (exec (.bar0ReadRequest off dws be l) s))
    let o := ob 0x630003 0x1234 rdy
    let u := rd 0x200001 (ob 0x200001 0x12345678ABC0 rdy)
    State.reset.pcieUp = false ∧ rdy.pcieUp = true ∧ stays (exec (.bar0ReadRequest 0 1 15 false) State.reset) State.reset = true
    ∧ a 0 1 15 false { rdy with d3hot := true } = some (.completion 1 []) ∧ a 0 1 15 true rdy = some (.completion 1 [])
    ∧ a 0 17 15 false rdy = some (.completion 1 []) ∧ last (rd 0x630003 o) = some (.completion 0 [0x34, 0x12, 0, 0])
    ∧ a (4 * 0x630003) 1 2 false o = some (.completion 0 [0x12]) ∧ last (rd 0x0F0001 rdy) = some (.completion 0 [0, 0, 0, 0])
    ∧ last u = some (.completion 0 [0xC0, 0xAB, 0x78, 0x56]) ∧ u.pobj 0 0x121001 = 0x1234
    ∧ nx (exec (.u64SlotRead 0x2000 1) (ob 0x200001 0x12345678ABC0 rdy)) = u
    ∧ stays (exec (.u64SlotRead 0x6300 3) o) o = true := by decide +kernel

theorem test_bar0_writes : let hi : State := { rdy with pobjs := [(pkey 0 0x121001, 0x12)] }
    stays (exec (.bar0WriteRequest 0 15 [5] true) rdy) rdy = true
    ∧ stays (exec (.bar0WriteRequest (4 * 0x630003) 15 [900] false) { rdy with d3hot := true }) { rdy with d3hot := true } = true
    ∧ (wt 0x630003 15 900 rdy).obj 0x630003 = 900 ∧ wt 0x630003 0 900 rdy = rdy ∧ why (wt 0x630003 7 900 rdy) = 7
    ∧ (wt 0x200001 15 0x40 hi).obj 0x200001 = 0x1200000040 ∧ why (wt 0x130004 15 1 rdy) = 7
    ∧ why (wt 0x100001 15 1 rdy) = 2 ∧ (wt 0x200001 15 64 (ob 0x600004 1 (ob 0x600001 2 rdy))).power.target = some 0
    ∧ why (nx (exec (.bar0WriteRequest (4 * 0x630003) 15 (List.replicate 17 0) false) rdy)) = 7 := by decide +kernel

/-- Channel 0 with a target and what it holds. -/
def seg0 (t : Nat) (g : Seg) (s : State := rdy) : State := { ob 0x120001 (256 * t) s with segs := Tab.put {} [] 0 g }

/-- SEG_RESULT, SEG_CMD and the mode after an action. -/
def segSays (i : Instr) (s : State) : Nat × Nat × Nat :=
  let t := nx (exec i s)
  (t.obj 0x120003, t.obj 0x120002, (t.seg 0).mode)

theorem test_segments_open : let opens := fun (t : Nat) => (segSays (.segOpenRead 0) (seg0 t {}), segSays (.segOpenWrite 0) (seg0 t {}))
    let addr := nx (exec (.segOpenRead 0) (seg0 0x130004 {} (ob 0x130004 0x0102 rdy)))
    opens 0x0F0001 = ((1, 3, 0), (1, 3, 0)) ∧ opens 0x630003 = ((2, 3, 0), (0, 2, 2)) ∧ opens 0x640001 = ((2, 3, 0), (3, 3, 0)) ∧ opens 0x130007 = ((4, 3, 0), (0, 2, 2))
    ∧ opens 0x130004 = ((0, 2, 1), (0, 2, 2)) ∧ (addr.seg 0).buf = 2 :: 1 :: List.replicate 14 0 ∧ (addr.seg 0).len = 16
    ∧ why (nx (exec (.segOpenRead 0) (seg0 0x130004 { mode := 1 }))) = 5
    ∧ why (nx (exec (.segOpenWrite 0) (seg0 0x130004 { mode := 2 }))) = 5
    ∧ segSays (.segOpenWrite 0) (seg0 0x100001 {}) = (3, 3, 0) := by decide +kernel

theorem test_segments_used : let buf := 7 :: List.replicate 15 0
    let g : Seg := { mode := 2, target := 0x130004, len := 16, buf := buf }
    let asleep := ob 0x600001 2 (seg0 0x130004 g)
    let dump := seg0 0 { mode := 1, place := some 9 }
    let w := fun (v : Nat) (s : State) => nx (exec (.segWindowWrite 0 1 v) s)
    (nx (exec (.segCommit 0) (seg0 0 g))).obj 0x130004 = 7 ∧ segSays (.segCommit 0) (seg0 0 g) = (0, 2, 2)
    ∧ segSays (.segCommit 0) (seg0 0 { g with target := 0x100004 }) = (5, 3, 2) ∧ segSays (.segCommit 0) (seg0 0 {}) = (7, 3, 0)
    ∧ segSays (.segClose 0) (seg0 0 {}) = (0, 2, 0) ∧ segSays (.segClose 0) (seg0 0 g) = (0, 2, 0)
    ∧ segSays (.segClose 0) dump = (6, 2, 0) ∧ segSays (.segClose 0) { dump with dumps := [(1, { st := .ready, seq := 4 })] } = (0, 2, 0)
    ∧ (w 0x0A0B0C0D (seg0 0 g)).seg 0 = { g with buf := [7, 0, 0, 0, 0x0D, 0x0C, 0x0B, 0x0A] ++ List.replicate 8 0 }
    ∧ why (w 0 rdy) = 8 ∧ why (w 0 (ob 0x120005 512 (seg0 0 g))) = 7 ∧ asleep.access 0 0x1300 = 0 := by decide +kernel

/-! ### The management port, BDP, DOE, PCI Express -/

/-- A module with a MAC address and its port up. -/
def port : State := { objs := [(0x100007, 0x020000000001), (0x130003, 1), (0x148001, 4)] }

/-- Bytes that have left the module. -/
def gone (s : State) : List (List Nat) :=
  s.out.map (fun
    | .mgmt bs => bs
    | .doe bs => bs
    | _ => [])

/-- The address of the sender. -/
def peer : List Nat := [0xFE, 0x80, 0, 0, 0, 0, 0, 0, 0, 0, 0, 0, 0, 0, 0, 9]

/-- A frame to the module from an address, its checksum at an offset of the upper-layer packet. -/
def packet (src : List Nat) (next o : Nat) (up : List Nat) : MgmtFrame :=
  let dst := port.linkLocal
  let sum := beBytes 2 (upperSum src dst next up)
  { bytes := port.mac ++ [2, 0, 0, 0, 0, 9] ++ [0x86, 0xDD, 0x60, 0, 0, 0] ++ beBytes 2 up.length ++ [next, 64] ++ src ++ dst
      ++ up.take o ++ sum ++ up.drop (o + 2) }

/-- An echo request, a solicitation, an advertisement, a datagram of no bytes. -/
def echo : MgmtFrame := packet peer 58 2 [128, 0, 0, 0, 1, 2, 3, 4, 5]

/-- A solicitation for the module's address. -/
def ask (src : List Nat) : MgmtFrame := packet src 58 2 ([135, 0, 0, 0, 0, 0, 0, 0] ++ port.linkLocal)

/-- An advertisement. -/
def told : MgmtFrame := packet peer 58 2 ([136, 0, 0, 0, 0, 0, 0, 0] ++ peer)

/-- A datagram to the BDP port. -/
def gram : MgmtFrame := packet peer 17 6 ([1, 2] ++ beBytes 2 30911 ++ [0, 10, 0, 0, 1, 1])

theorem test_mgmt_frames : let h := fun (f : MgmtFrame) => nx (exec (.mgmtFrameReceive f) port)
    rdy.portUp = false ∧ port.portUp = true ∧ port.classify { bytes := [1] } = .discard ∧ (h { bytes := [1] }).obj 0x13000A = 1
    ∧ port.classify told = .advert ∧ stays (exec (.mgmtFrameReceive told) port) port = true ∧ port.classify echo = .echo
    ∧ (h echo).out = (nx (exec (.echoRequest echo) port)).out
    ∧ (gone (h echo)).map (fun bs => (bs.take 6, bs.drop 58)) = [([2, 0, 0, 0, 0, 9], [1, 2, 3, 4, 5])]
    ∧ port.classify gram = .datagram ∧ (h gram).obj 0x13000A = 1 ∧ stays (exec (.echoRequest told) port) port = true
    ∧ stays (exec (.mgmtFrameReceive echo) rdy) rdy = true := by decide +kernel

/-- Receiver, flags and option of the advertisements that answer a frame. -/
def adverts (f : MgmtFrame) : List (List Nat × List Nat × List Nat) :=
  (gone (nx (exec (.neighborSolicitation f) port))).map (fun bs => (bs.take 6, (bs.drop 58).take 1, bs.drop 78))

theorem test_neighbours : let a := adverts
    let none16 := List.replicate 16 0
    port.classify (ask peer) = .solicit ∧ port.classify (ask none16) = .solicit
    ∧ a (ask peer) = [([2, 0, 0, 0, 0, 9], [0x60], [2, 1, 2, 0, 0, 0, 0, 1])]
    ∧ a (ask none16) = [([0x33, 0x33, 0, 0, 0, 1], [0x20], [2, 1, 2, 0, 0, 0, 0, 1])]
    ∧ stays (exec (.neighborSolicitation echo) port) port = true := by decide +kernel

theorem test_key_and_notify : let s : State := { rdy with sess := [(3, { floor := 9 })], pobjs := [(pkey 4 0x500002, 7)] }
    let k := nx (exec (.mgmtKeyWrite 0 5) s)
    let n := ob 0x500006 2 (ob 0x130010 1 (ob 0x13000F 99 (ob 0x13000E 5 port)))
    let t := nx (exec .notifySend n)
    rdy.access 0 0x1300 = 0 ∧ k.obj 0x130008 = 1 ∧ k.obj 0x130007 = 5 ∧ k.sess = [] ∧ k.pobjs = []
    ∧ (nx (exec (.mgmtKeyWrite 0 0) k)).obj 0x130008 = 0 ∧ why (nx (exec (.mgmtKeyWrite 2 5) rdy)) = 6
    ∧ n.notifyKeys = [0x500006] ∧ t.obj 0x130012 = 1 ∧ (t.session 16).floor = 1 ∧ t.out.length = 1
    ∧ (nx (exec .notifySend t)).out.length = 1 ∧ stays (exec .notifySend port) port = true := by decide +kernel

theorem test_pcie_events : let s : State := { rdy with d3hot := true, msixPend := [(3, true)], msixOpen := [(1, true)] }
    let u := nx (exec (.msixUnmask 3) s)
    rdy.lookoutRuns = true ∧ (nx (exec .portLinkUp rdy)).obj 0x130003 = 1 ∧ (nx (exec .portLinkDown port)).obj 0x130003 = 0
    ∧ nx (exec .pcieHotReset s) = { s with d3hot := false, msixOpen := [] } ∧ (nx (exec .d3hotEntry rdy)).d3hot = true
    ∧ (nx (exec .d3hotExit s)).d3hot = false ∧ stays (exec .pcieHotReset State.reset) State.reset = true
    ∧ u.out = [.msix 3] ∧ u.msixPend = [] ∧ (nx (exec (.msixUnmask 3) u)).out = [.msix 3]
    ∧ stays (exec (.msixUnmask 3) State.reset) State.reset = true ∧ stays (exec .portLinkUp State.reset) State.reset = true := by
  decide +kernel

theorem test_completion_timeout : let f := fun (op : Nat) => fly [cmd .movePort (word op [])] rdy
    let t := fun (s : State) => exec (.completionTimeout 1) s
    let h := (stageRun 0x99 .running (tier rdy)).updRegion 2 (fun g => { g with home := .host })
    (h.region 2).home = .host ∧ ((nx (t h)).ctx 0).holdFault ≠ 0 ∧ (nx (t h)).frame 65 = .pool 0 false
    ∧ stays (t rdy) rdy = true ∧ stays (t (f 1)) (f 1) = true ∧ stays (t (f 0x99)) (f 0x99) = true := by decide +kernel

/-- A BDP request of session 0 while no key is set: SEQ, number of operations, operations. -/
def req (seq nops : Nat) (ops : List Nat) : List Nat :=
  [1, 1, 0, 0] ++ leBytes 8 seq ++ leBytes 2 nops ++ leBytes 2 ops.length ++ List.replicate 8 0 ++ ops ++ List.replicate 16 0

/-- An operation: code, object, length, data. -/
def opOf (op k len : Nat) (d : List Nat) : List Nat :=
  [op, k % 256] ++ leBytes 2 (k / 256) ++ leBytes 2 len ++ [0, 0, 0, 0, 0, 0] ++ d

/-- The module with management enabled, session 0 at a floor with a cache. -/
def bdpOn (floor : Nat) (c : Option (List Nat)) (q : List BdpReq := []) : State :=
  { ob 0x130001 1 port with sess := [(0, { floor := floor, cache := c })], bdpQ := q }

theorem test_bdp_requests : let g := req 5 1 (opOf 1 0x100006 0 [])
    let r := fun (d : List Nat) (s : State) => nx (exec (.bdpRequest d 7) s)
    let full := bdpOn 0 none (List.replicate 16 { sess := 0, src := 7, bytes := g })
    (r g (ob 0x130001 0 port)).obj 0x13000A = 1 ∧ (r (g.take 30) (bdpOn 0 none)).obj 0x13000A = 1
    ∧ (r (g.set 51 1) (bdpOn 0 none)).obj 0x13000B = 1 ∧ (r g (bdpOn 6 none)).obj 0x13000C = 1
    ∧ (r g (bdpOn 5 none)).obj 0x13000C = 1 ∧ (r g (bdpOn 5 (some [1, 2]))).out = [.bdp 7 ((bdpOn 5 (some [1, 2])).bdpPacket 7 [1, 2])]
    ∧ (r g full).obj 0x13000D = 1 ∧ (r g full).out.length = 1 ∧ ((r (req 5 2 (opOf 1 0x100006 0 [])) (bdpOn 0 none)).bdpQ) = []
    ∧ requestOps (req 5 2 (opOf 1 0x100006 0 [])) = none ∧ (requestOps g).isSome = true
    ∧ (r g (bdpOn 0 none)).bdpQ = [{ sess := 0, src := 7, bytes := g }] ∧ ((r g (bdpOn 0 none)).session 0).floor = 5
    ∧ stays (exec (.bdpRequest g 7) rdy) rdy = true := by decide +kernel

/-- A request of one operation and a READ at the head of the queue. -/
def served (op k len : Nat) (d : List Nat) : State :=
  let bs := req 5 2 (opOf op k len d ++ opOf 1 0x100006 0 [])
  bdpOn 5 none [{ sess := 0, src := 7, bytes := bs }]

theorem test_bdp_runs : let q := served
    let a := q 1 0x130005 0 []
    let b := q 2 0x130005 1 [9, 0, 0, 0]
    let body := fun (s : State) => s.bdpQ.map (fun r => (r.next, r.body.drop 4))
    (port.bdpPacket 7 [1, 2]).take 8 = [0x60, 0, 0, 0, 0, 10, 17, 64] ∧ (port.bdpPacket 7 [1, 2]).drop 40 = [0x78, 0xBF, 0, 7, 0, 10, 0x88, 0x90, 1, 2]
    ∧ body (nx (exec (.bdpRead 0) (ob 0x130005 3 a))) = [(1, [4, 0, 0, 0, 4, 0, 0, 0, 3, 0, 0, 0])]
    ∧ body (nx (exec (.bdpWrite 0) b)) = [(1, [0, 0, 6, 0, 4, 0, 0, 0])]
    ∧ stays (exec (.bdpWrite 0) a) a = true ∧ stays (exec (.bdpRead 0) b) b = true ∧ stays (exec (.bdpRead 1) a) a = true
    ∧ stays (exec (.bdpRead 0) port) port = true ∧ stays (exec (.bdpWrite 0) port) port = true := by decide +kernel

/-- An operation of an authenticated path: its code, object, length, offset, value. -/
def op1 (op k len off v : Nat) : BdpOp :=
  { op := op, sub := k % 256, idx := k / 256, len := len, rsv := 0, off := off, data := leBytes len v }

theorem test_operations : let rd := fun (k off : Nat) => (rdy.readOp 1 1024 true true (op1 1 k 0 off 0)).status
    let wr := fun (k len v : Nat) => (rdy.writeOp 1 true true (op1 2 k len 0 v)).status
    rd 0x630003 5 = 7 ∧ rd 0x630003 0 = 0 ∧ rd 0x0F0001 0 = 1 ∧ wr 0x0F0001 4 1 = 1 ∧ wr 0x100001 16 1 = 2
    ∧ wr 0x130001 1 1 = 6 ∧ wr 0x630003 2 900 = 7 ∧ wr 0x630003 4 900 = 0 ∧ wr 0x630003 4 700 = 3
    ∧ (ob 0x600001 2 rdy).access 1 0x2000 = 9 := by decide +kernel

theorem test_doe : let d := fun (i : Nat) => (nx (exec (.doeDiscovery i) rdy)).out
    let o := fun (op k : Nat) =>
      (gone (nx (exec (.doeBdpOperation (opOf op k 0 [])) rdy))).map (fun bs => bs.drop 12)
    d 0 = [.doe [1, 0, 0, 0, 3, 0, 0, 0, 1, 0, 0, 1]] ∧ d 1 = [.doe [1, 0, 0, 0, 3, 0, 0, 0, 0x3C, 0x1F, 1, 0]]
    ∧ stays (exec (.doeDiscovery 0) State.reset) State.reset = true ∧ o 1 0x600001 = [[0, 0, 6, 0, 4, 0, 0, 0]]
    ∧ o 1 0x148001 = [[4, 0, 0, 0, 4, 0, 0, 0, 4, 0, 0, 0]] ∧ takeOp [1] = none
    ∧ (nx (exec (.doeBdpOperation [1]) rdy)).out = [.doe [0x3C, 0x1F, 1, 0, 2, 0, 0, 0]] ∧ wellFormed (.doeBdpOperation [1]) = true
    ∧ stays (exec (.doeBdpOperation [1]) State.reset) State.reset = true := by decide +kernel

/-- The digest of "abc" begins BA 78, or CB 00 (FIPS 180-4, its first example). -/
theorem test_sha : (sha sha256Kind 8 [0x61, 0x62, 0x63]).take 2 = [0xBA, 0x78]
    ∧ (sha sha384Kind 6 [0x61, 0x62, 0x63]).take 2 = [0xCB, 0x00] := by decide +kernel

/-! ### Power states, sensors, clocks -/

/-- A module in POWER_STATE n, with a transition under way. -/
def pw (n : Nat) (to_ : Option Nat := none) (s : State := rdy) : State :=
  { ob 0x600001 n s with power := { s.power with target := to_ } }

/-- POWER_REASON and POWER_CMD after a command. -/
def pwSays (i : Instr) (s : State) : Nat × Nat :=
  let t := nx (exec i s)
  (t.obj 0x600003, t.obj 0x600002)

/-- A module with a sensor's last samples. -/
def heat (k : Nat) (l : List Int) (s : State := rdy) : State :=
  { s with power := { s.power with samples := Tab.put [] [] k l } }

theorem test_power_entry : let e := fun (s : State) => pwSays (.powerCmdFallow 0) s
    let d := nx (exec (.powerCmdDormant 3) (pw 2))
    rdy.access 0 0x6000 = 0 ∧ e rdy = (0, 1) ∧ (nx (exec (.powerCmdFallow 0) rdy)).power.target = some 2
    ∧ e (pw 1 (some 2)) = (4, 3) ∧ e (task []) = (1, 3) ∧ e (ob 0x580004 1 rdy) = (2, 3) ∧ e (dumpRun 1) = (3, 3)
    ∧ e (pw 3) = (4, 3) ∧ d.power.target = some 3 ∧ d.obj 0x600002 = 1 := by decide +kernel

theorem test_power_run : let r := fun (s : State) => pwSays (.powerCmdRun 2) s
    let x := nx (exec (.powerCmdRun 2) (pw 2))
    let hot := ob 0x630006 700 (pw 4)
    r rdy = (4, 3) ∧ hot.hot = true ∧ r hot = (5, 3) ∧ r (pw 2 (some 0)) = (0, 1) ∧ (pw 2).hot = false ∧ x.obj 0x600002 = 1
    ∧ x.obj 0x600005 = 2 ∧ x.power.target = some 0 ∧ (nx (exec (.powerCmdRun 0) (pw 2))).obj 0x600005 = 1 := by decide +kernel

theorem test_wake : let w := fun (s : State) => exec (.wakeOnAccess 1) s
    let on := fun (s : State) => ob 0x600004 2 s
    stays (w (ob 0x600004 0 (pw 2))) (ob 0x600004 0 (pw 2)) = true ∧ (nx (w (on (ob 0x630006 700 (pw 4))))).obj 0x600003 = 5
    ∧ (nx (w (on (pw 2 (some 3))))).power.wake = some 4 ∧ (nx (w (on (pw 2)))).power.target = some 0
    ∧ (nx (w (on (pw 2)))).obj 0x600005 = 4 := by decide +kernel

theorem test_transition_done : let c := fun (s : State) => nx (exec .powerTransitionComplete s)
    let f := c (ob 0x600002 1 (pw 0 (some 2)))
    let w := pw 0 (some 2)
    let k : State := { w with power := { w.power with wake := some 3 } }
    stays (exec .powerTransitionComplete rdy) rdy = true ∧ f.obj 0x600001 = 2 ∧ f.obj 0x600002 = 2 ∧ f.allGated = true
    ∧ f.power.target = none ∧ (c k).power.target = some 0 ∧ (c k).obj 0x600005 = 3 ∧ (c (pw 0 (some 3))).obj 0x600001 = 3
    := by decide +kernel

theorem test_power_exit : let c := fun (s : State) => nx (exec .powerTransitionComplete s)
    (c (pw 2 (some 0))).obj 0x600001 = 0 ∧ (c (pw 2 (some 0))).fenced 5 = true ∧ (c (pw 2 (some 0))).power.target = none
    ∧ (c (pw 3 (some 0))).obj 0x600001 = 0 ∧ (c (pw 3 (some 0))).ctxs = [] := by decide +kernel

/-- A module with domains off and domains turning on. -/
def doms (off turning : List Nat) (s : State := rdy) : State :=
  { s with power := { s.power with off := off.map (fun d => (d, true)), turning := turning.map (fun d => (d, true)) } }

theorem test_domains : let others := (List.range 136).filter (· ≠ 5)
    let g := nx (exec (.coreGateOff 5) (doms others []))
    let on := nx (exec (.domainPowerOnComplete 5) (doms [5] [5] (ob 0x600001 1 rdy)))
    let k := List.range 16
    rdy.dieRuns = true ∧ (rdy.core 5).phase = .free ∧ g.obj 0x600001 = 1 ∧ Tab.get false g.power.off 5 = true
    ∧ stays (exec (.coreGateOff 0) (task [])) (task []) = true ∧ stays (exec (.coreGateOff 5) (doms [5] [])) (doms [5] []) = true
    ∧ Tab.get false (nx (exec (.clusterGateOff 0) (doms k []))).power.off 128 = true
    ∧ stays (exec (.clusterGateOff 0) rdy) rdy = true ∧ stays (exec (.domainPowerOnComplete 5) rdy) rdy = true
    ∧ on.power.off = [] ∧ on.power.turning = [] ∧ on.obj 0x600001 = 0 := by decide +kernel

theorem test_input_power : let l := nx (exec .inputPowerLoss (task []))
    rdy.env.vin = true ∧ l.env.vin = false ∧ l.obj 0x148001 = 0 ∧ l.obj 0x148002 = 1 ∧ l.ctxs = []
    ∧ stays (exec .inputPowerLoss l) l = true ∧ (nx (exec .powerOn l)).env.vin = true ∧ stays (exec .powerOn rdy) rdy = true := by
  decide +kernel

theorem test_samples : let s := nx (exec (.sensorSample 70 503) (heat 70 [500, 500, 500, 9]))
    let t := nx (exec (.sensorSample 70 1105) (heat 70 [1100]))
    let w := nx (exec (.sensorSample 82 951) (heat 82 [951]))
    let o : State := { rdy with power := { warned := [(82, true)] } }
    Tab.get [] s.power.samples 70 = [503, 500, 500, 500] ∧ s.obj 0x630086 = 500 ∧ s.obj 0x600001 = 0 ∧ t.obj 0x600001 = 4
    ∧ t.obj 0x600006 = 0x60010046 ∧ rdy.warnLevel 82 = some 950 ∧ Tab.get false w.power.warned 82 = true
    ∧ (nx (exec (.sensorSample 82 900) o)).power.warned = [] ∧ (nx (exec (.sensorSample 82 901) o)).power.warned = [(82, true)]
    ∧ stays (exec (.sensorSample 70 503) (pw 2)) (pw 2) = true := by decide +kernel

theorem test_overcurrent : let t := nx (exec (.overcurrentTrip 3 7) rdy)
    let p := ob 0x600006 0x60020C01 (pw 4)
    t.obj 0x600001 = 4 ∧ t.obj 0x600006 = 0x60020307 ∧ t.obj 0x602304 = 1 ∧ t.power.latched = [(0x6002, 0)]
    ∧ stays (exec (.overcurrentTrip 10 7) rdy) rdy = true ∧ (nx (exec (.overcurrentTrip 12 0) (pw 2))).obj 0x600001 = 4
    ∧ stays (exec (.powerStageShutdown 12) rdy) rdy = true ∧ (nx (exec (.powerStageShutdown 12) p)).power.stage = some 12
    ∧ (nx (exec (.powerStageShutdown 10) rdy)).env.vin = false := by decide +kernel

theorem test_input_voltage : let v := fun (mv : Nat) (s : State) => nx (exec (.inputVoltage mv) s)
    let low : State := { pw 2 with power := { inputLow := true } }
    (v 43999 rdy).env.vin = false ∧ (v 60001 State.reset).env.vin = false
    ∧ stays (exec (.inputVoltage 47999) (v 1 rdy)) (v 1 rdy) = true ∧ (v 48000 low).power.inputLow = false
    ∧ stays (exec (.inputVoltage 47999) low) low = true ∧ rdy.campRuns = true ∧ (v 58001 rdy).power.inputLow = true
    ∧ (v 58001 rdy).faults.ring.length = 1 ∧ (v 58001 (pw 2)).power.latched = [(0x6004, 0)] := by decide +kernel

theorem test_plls : let lose := fun (p : Nat) (s : State) => nx (exec (.pllLossOfLock p) s)
    let up : State := { rdy with links := [(3, { st := .up })] }
    (lose 0 rdy).env.rootPll = false ∧ (lose 0 rdy).obj 0x620002 = 1 ∧ stays (exec (.pllLossOfLock 0) (lose 0 rdy)) (lose 0 rdy) = true
    ∧ (lose 30 rdy).power.plls = [(30, true)] ∧ (up.link 3).live = true ∧ ((lose 4 up).link 3).st = .fault
    ∧ (nx (exec (.pllRelock 0) (lose 0 rdy))).env.rootPll = true ∧ stays (exec (.pllRelock 0) rdy) rdy = true
    ∧ (nx (exec .refclkStop rdy)).env.refclk = false ∧ (nx (exec .refclkReturn (nx (exec .refclkStop rdy)))).env.refclk = true
    ∧ stays (exec .refclkReturn rdy) rdy = true := by decide +kernel

/-! ### The cruise, scrub, hours, energy -/

/-- A module with clusters left to survey. -/
def surveying (l : List Nat) (s : State := rdy) : State := { s with power := { s.power with survey := l } }

/-- Powered hours 50, V_MIN 900 mV and GUARD 4 of cluster 7, a ceiling of 1,000 mV, a wanted slack of 20 ps, CRUISE_CMD at 1,
cluster 7 left to survey. -/
def margins : State :=
  let o := [(0x100009, 50), (0x148001, 4), (0x640701, 900000), (0x640702, 4), (0x648001, 1), (0x648003, 1000000), (0x648005, 20)]
  surveying [7] { objs := o }

theorem test_survey : let b := nx (exec .cruiseSurvey rdy)
    let c := nx (exec (.cruiseCmd 0) rdy)
    stays (exec .cruiseSurvey State.reset) State.reset = true ∧ (nx (exec .cruiseSurvey (pw 2))).power.due = true
    ∧ stays (exec .cruiseSurvey (surveying [3])) (surveying [3]) = true ∧ b.power.survey = List.range 8
    ∧ c.obj 0x648001 = 1 ∧ c.power.survey = List.range 8 ∧ (nx (exec (.cruiseCmd 0) (pw 2 (some 0)))).power.due = true := by
  decide +kernel

theorem test_cluster_survey : let s := margins
    s.headroom 7 = 36 ∧ s.power.survey = [7] ∧ s.dieRuns = true ∧ Tab.get false s.power.off 135 = false
    ∧ lifeHours 36 (slopeOf [(50, 6), (10, 4)]) = 720 ∧ lifeHours 36 (slopeOf [(50, 4), (10, 6)]) = 0xFFFFFFFF
    ∧ stays (exec (.clusterSurveyComplete 6 [1]) s) s = true ∧ stays (exec (.clusterSurveyComplete 7 []) s) s = true := by
  decide +kernel

theorem test_scrub_excursion : let s := ob 0x340109 100 (ob 0x660001 72 (pw 2))
    let e := nx (exec (.scrubExcursion 1) s)
    stays (exec (.scrubExcursion 1) rdy) rdy = true ∧ e.power.excursion = some 1 ∧ e.obj 0x660002 = 1
    ∧ (nx (exec (.scrubExcursionComplete 1) e)).obj 0x340109 = 0 ∧ (nx (exec (.scrubExcursionComplete 1) e)).power.excursion = none
    ∧ stays (exec (.scrubExcursionComplete 2) e) e = true := by decide +kernel

theorem test_hours_and_energy : let h := nx (exec .poweredHours (ob 0x100009 50 rdy))
    let e := nx (exec (.macEnergyWindow (41000000000 * 4096 * 3 + 41000000000 * 2048) 41000000000) rdy)
    h.obj 0x100009 = 51 ∧ h.obj 0x340309 = 1 ∧ stays (exec .poweredHours State.reset) State.reset = true
    ∧ e.obj 0x650001 = 4 ∧ e.obj 0x650008 = 1 ∧ stays (exec (.macEnergyWindow 5 40959999999) rdy) rdy = true := by decide +kernel

/-- R356: a core whose engine a check uses is not gated; R358: the exit from DORMANT reports the die's reset; R367: the hours a pass
took count towards the next one's deadline. -/
theorem test_power_corners : let busy : State := { rdy with captures := [⟨1, 0, 448, 0, 1, 0, [], 0, [], 0, 0, 0, .checking 20, [], {}, [], [], [], []⟩] }
    let x := nx (exec .powerTransitionComplete (pw 3 (some 0)))
    let late := ob 0x340109 95 (pw 2)
    let long : State := { late with power := { late.power with scrubLen := [(1, 5)] } }
    busy.captures.map busy.checkOn = [some 20] ∧ stays (exec (.coreGateOff 5) busy) busy = true
    ∧ x.faults.ring.head?.map (fun r => r.code) = some 0x8003 ∧ late.scrubDeadline 1 = 73 ∧ long.scrubDeadline 1 = 68 := by
  decide +kernel

/-- R361: a Landing stack whose PHY's PLL has lost lock does not answer. -/
theorem test_phy_down : let l := nx (exec (.pllLossOfLock (21 + stackOf 0)) rdy)
    l.phyDown (.landing 0) = true ∧ rdy.phyDown (.landing 0) = false ∧ l.phyDown (.ddr 0 0) = false := by decide +kernel

/-! ### Start-up, trust, firmware -/

/-- A module in a stage of start-up, with a firmware store. -/
def boots (n : Nat) (f : Firmware := {}) : State := { objs := [(0x148001, n)], firmware := f }

theorem test_stages : let c := fun (s : State) => nx (exec .bootStageComplete s)
    let trial : Firmware := { bank1 := .pending, tries := 2 }
    let p : State := { boots 1 with power := { stage := some 10 } }
    (boots 0).booting = true ∧ rdy.booting = false ∧ stays (exec .bootStageComplete rdy) rdy = true
    ∧ (c (boots 0)).bootState = 1 ∧ (c (boots 0)).obj 0x148003 = 0 ∧ (c (boots 0 trial)).obj 0x148003 = 3
    ∧ (c (boots 0 trial)).firmware.tries = 1 ∧ (c p).bootState = 2 ∧ (c p).obj 0x600006 = 0x60020A00 ∧ (c p).power.stage = none
    ∧ (c (boots 2)).bootState = 3 ∧ (c (boots 2)).incarnation = 1 ∧ (c (boots 3)).bootState = 4 ∧ (c (boots 3)).obj 0x600001 = 1
    ∧ Tab.get false (c (boots 3)).power.off 135 = true := by decide +kernel

theorem test_boot_timeout : let b := fun (c : Nat) (s : State) => nx (exec (.bootTimeout c) s)
    let t0 : State := ob 0x148003 3 (boots 1 { bank1 := .pending, tries := 0 })
    let t1 : State := ob 0x148003 3 (boots 1 { bank1 := .pending, tries := 1 })
    stays (exec (.bootTimeout 0) rdy) rdy = true ∧ (b 0 (boots 1)).bootState = 0 ∧ (b 0 (boots 1)).obj 0x148002 = 2
    ∧ (b 0x7003 (boots 1)).bootState = 5 ∧ (b 0x7003 (boots 1)).power.latched = [(0x7003, 0)] ∧ t0.trialBoot = true
    ∧ (b 0x7004 t0).firmware.bank 1 = .inactive ∧ (b 0x7004 t1).firmware.bank 1 = .pending ∧ (b 0x7004 t1).bootState = 0 := by
  decide +kernel

theorem test_perst : let a := nx (exec .perstAssert (task []))
    a.env.perst = true ∧ a.bootState = 0 ∧ a.obj 0x148002 = 2 ∧ a.ctxs = [] ∧ stays (exec .perstAssert a) a = true
    ∧ (nx (exec .perstRelease a)).env.perst = false := by decide +kernel

theorem test_attestation : let a := nx (exec (.attCmd 2) { rdy with pobjs := [(pkey 2 0x141001, 77)] })
    rdy.access 2 0x1410 = 0 ∧ a.obj 0x141002 = 1 ∧ a.firmware.att = some (2, 77)
    ∧ (nx (exec (.evidenceReady 2) a)).obj 0x141002 = 2 ∧ (nx (exec (.evidenceReady 2) a)).firmware.att = none
    ∧ stays (exec (.evidenceReady 1) a) a = true ∧ cborUint 500 = [0x19, 0x01, 0xF4] := by decide +kernel

theorem test_selftest : let r := nx (exec (.selftest 0) rdy)
    let c := nx (exec (.selftestComplete [3, 0, 3] [7]) r)
    r.obj 0x701001 = 1 ∧ (nx (exec (.selftest 0) (task []))).obj 0x701001 = 3 ∧ (nx (exec (.selftest 0) (task []))).obj 0x701002 = 1
    ∧ c.obj 0x701001 = 2 ∧ c.obj 0x701003 = 9 ∧ c.obj 0x701004 = 128 ∧ c.obj 0x701005 = 1
    ∧ stays (exec (.selftestComplete [] []) rdy) rdy = true := by decide +kernel

theorem test_probe : let e := nx (exec (.probeEnable 0) rdy)
    let d := nx (exec (.probeDisable 0) (ob 0x700005 4 (ob 0x700001 2 rdy)))
    rdy.access 0 0x7000 = 0 ∧ rdy.unlockBad [] = some 1 ∧ e.obj 0x700004 = 3 ∧ e.obj 0x700005 = 1 ∧ e.obj 0x700001 = 0 ∧ e.free = rdy.free + 1
    ∧ d.obj 0x700001 = 0 ∧ d.obj 0x700005 = 0 ∧ d.obj 0x700004 = 2 := by decide +kernel

/-- A module whose firmware store is given, FW_LENGTH 8 KiB. -/
def fwm (f : Firmware) : State := ob 0x148103 8192 { rdy with firmware := f }

/-- FW_RESULT and FW_CMD after a command. -/
def fwSays (i : Instr) (s : State) : Nat × Nat :=
  let t := nx (exec i s)
  (t.obj 0x148102, t.obj 0x148101)

/-- The same image in both banks that R377 refuses for its format. -/
def unsigned : Mem := bld [(0, 8, 0x31444E4257463943)]

theorem test_fw_begin : let b := nx (exec (.fwBegin 3) (fwm {}))
    let w : State := ob 0x148103 8193 (fwm {})
    rdy.access 3 0x1481 = 0 ∧ fwSays (.fwBegin 3) (fwm { sess := some 1 }) = (2, 3) ∧ fwSays (.fwBegin 3) w = (4, 3)
    ∧ why (nx (exec (.fwBegin 3) (fwm { bank1 := .pending }))) = 8 ∧ b.firmware.sess = some 3 ∧ b.firmware.len = 8192
    ∧ b.firmware.bank 1 = .invalid ∧ fwSays (.fwBegin 3) (fwm {}) = (0, 2) ∧ fwSays (.fwAbort 3) (fwm {}) = (1, 3)
    ∧ (nx (exec (.fwAbort 3) b)).firmware.sess = none ∧ fwSays (.fwVerify 2) b = (1, 3) ∧ fwSays (.fwVerify 3) b = (3, 3)
    := by decide +kernel

theorem test_fw_units : let f : Firmware := { sess := some 3, len := 8192, erased := true }
    let w := fun (s : State) => nx (exec (.fwChunkWrite 3 5) s)
    let full : Firmware := { f with queue := List.replicate 16 (7, 0) }
    let all : Firmware := { f with units := (List.range 8).map (fun u => (u, true)), img1 := {} }
    let p := nx (exec .fwUnitProgrammed (fwm { f with queue := [(2, 5)], img1 := {} }))
    why (w (fwm {})) = 8 ∧ why (w (fwm { f with units := [(0, true)] })) = 8 ∧ why (w (fwm full)) = 5
    ∧ (w (fwm f)).firmware.queue = [(0, 5)] ∧ (w (fwm f)).firmware.units = [(0, true)] ∧ p.firmware.queue = []
    ∧ p.firmware.img1.readLe 2048 2 = 5 ∧ (nx (exec .fwEraseComplete (fwm { f with erased := false }))).firmware.erased = true
    ∧ stays (exec .fwEraseComplete (fwm {})) (fwm {}) = true ∧ stays (exec .fwUnitProgrammed (fwm f)) (fwm f) = true
    ∧ fwSays (.fwVerify 3) (fwm all) = (4, 3) ∧ bundleFormat unsigned 8192 = false ∧ (fwm all).bundleBad unsigned 8192 = some 4 := by
  decide +kernel

theorem test_fw_confirm : let trial := ob 0x148103 8192 { ob 0x148003 3 rdy with firmware := { bank1 := .pending, img1 := bld [(16, 4, 6), (21, 1, 2)] } }
    let c := nx (exec (.fwConfirm 0) trial)
    fwSays (.fwConfirm 0) (fwm {}) = (8, 3) ∧ trial.bootBank = 1 ∧ c.firmware.bank 1 = .active ∧ c.firmware.bank 0 = .inactive
    ∧ why (nx (exec (.fwSwitch 0) (fwm {}))) = 8 ∧ fwSays (.fwSwitch 0) (fwm { bank1 := .inactive, img1 := unsigned }) = (4, 3) := by
  decide +kernel

/-! ### Operands outside the numbering are refused -/

/-- Whether each of some commands carries operands outside the numbering and is refused for it. -/
def refusesAll (l : List Instr) : Bool :=
  l.all (fun i => !wellFormed i && (match exec i rdy with
    | .refused .illFormed => true
    | _ => false))

theorem test_ill_formed_1 : refusesAll [
    .nop (.unit 0x95 0), .nop (.unit 0x80 64), .settle (.unit 0x95 0), .settle (.unit 0x80 64), .stepmark (.unit 0x95 0),
    .stepmark (.unit 0x80 64), .endStream (.unit 0x95 0), .endStream (.unit 0x80 64), .stopStepWrite 18 0 0,
    .stopStepWrite 0 64 0, .stopStepWrite 0 0 (2 ^ 32), .mma (.dispatch (.core 128)) false, .mmaRowIssue 512,
    .preload (.dispatch (.core 128)) false, .drain (.dispatch (.core 128)), .topk (.dispatch (.core 128)),
    .tilerel (.dispatch (.core 128)), .cvtsc (.dispatch (.core 128)), .cvtcl (.dispatch (.core 128)),
    .vld (.dispatch (.core 128)), .vst (.dispatch (.core 128)), .vstat (.dispatch (.core 128)), .vimm (.dispatch (.core 128)),
    .vsel (.dispatch (.core 128)), .vadd (.dispatch (.core 128)), .vsub (.dispatch (.core 128)), .vmul (.dispatch (.core 128)),
    .vfma (.dispatch (.core 128))] = true := by decide +kernel

theorem test_ill_formed_2 : refusesAll [
    .vfnma (.dispatch (.core 128)), .vmax (.dispatch (.core 128)), .vmin (.dispatch (.core 128)), .vabs (.dispatch (.core 128)),
    .vneg (.dispatch (.core 128)), .vdiv (.dispatch (.core 128)), .vsqrt (.dispatch (.core 128)), .vrcp (.dispatch (.core 128)),
    .vrsqrt (.dispatch (.core 128)), .vexp2 (.dispatch (.core 128)), .vlog2 (.dispatch (.core 128)),
    .vexp (.dispatch (.core 128)), .vtanh (.dispatch (.core 128)), .verf (.dispatch (.core 128)),
    .vrsum (.dispatch (.core 128)), .vrmax (.dispatch (.core 128)), .vrmin (.dispatch (.core 128)),
    .vrdot (.dispatch (.core 128)), .vcmp (.dispatch (.core 128)), .kop (.dispatch (.core 128)), .kcol (.dispatch (.core 128)),
    .fill (.dispatch (.core 128)) none, .spill (.dispatch (.core 128)) none, .winset (.unit 0x95 0), .winset (.unit 0x80 64),
    .move (.dispatch (.core 128)) none, .stage (.dispatch (.core 128)), .evict (.dispatch (.core 128))] = true := by decide +kernel

theorem test_ill_formed_3 : refusesAll [
    .clean (.dispatch (.core 128)), .descCreate 18 0, .descCreate 0 64, .descDestroy 18 0 0, .descDestroy 0 64 0,
    .descDestroy 0 0 (2 ^ 32), .c6Flush 18 0, .c6Flush 0 64, .c6FlushComplete 64, .mapRegion 18, .unmap 18, .trim 18,
    .discard 18, .allocGrant 18 0, .allocGrant 0 64, .allocRelease 18 0, .allocRelease 0 64, .frameToPool 18 0,
    .frameToPool 0 64, .frameToFree 18, .hostwinAddrWrite 18 0, .hostwinAddrWrite 0 (2 ^ 64), .flashScrubNow 18 0,
    .flashScrubNow 0 4, .flashBackgroundScrub 4 [] [] 0 false, .flashBackgroundScrub 0 [(2 ^ 32, 1)] [] 0 false,
    .flashBackgroundScrub 0 [] [⟨2 ^ 32, 0⟩] 0 false, .readDisturbRelocation 4 ⟨0, 0⟩, .readDisturbRelocation 0 ⟨2 ^ 32, 0⟩,
    .staticWearLevelling 4 ⟨0, 0⟩, .staticWearLevelling 0 ⟨2 ^ 32, 0⟩, .garbageCollection 4 0 0 0 0,
    .garbageCollection 0 (2 ^ 32) 0 0 0] = true := by decide +kernel

theorem test_ill_formed_4 : refusesAll [
    .ddrPatrolScrub 4 0 0, .codewordReceive 176 0 0, .codewordReceive 0 (2 ^ 5280) 0, .codewordReceive 0 0 (2 ^ 160), .frameReceive 20 ⟨0, []⟩ 0,
    .frameReceive 0 ⟨2 ^ 256, []⟩ 0, .frameReceive 0 ⟨0, [256]⟩ 0, .frameReceive 0 ⟨0, []⟩ (2 ^ 32), .frameSend 20,
    .retransmitTimeout 20, .laneLossOfLock 176, .laneErrorThreshold 176, .linkTrain 18 0, .linkTrain 0 20, .linkDisable 18 0,
    .linkDisable 0 20, .linkRetrain 18 0, .linkRetrain 0 20, .trainingComplete 20 0, .trainingComplete 0 (2 ^ 12),
    .trainingTimeout 20, .retrainComplete 20 0, .retrainComplete 0 (2 ^ 12), .retrainTimeout 20, .dataFrame 16, .endFrame 16,
    .ecredFrame 16, .beatFrame 16, .abortFrame 16] = true := by decide +kernel

theorem test_ill_formed_5 : refusesAll [
    .commitFrame 16, .creditFrame 16, .epochCmd 18 0, .epochCmd 0 64, .memberEntryWrite 18 0 0, .memberEntryWrite 0 64 0,
    .memberEntryWrite 0 0 (2 ^ 64), .selfWrite 18 0 0, .selfWrite 0 64 0, .selfWrite 0 0 (2 ^ 32), .beatTimer 64,
    .noProgress 64 0, .noProgress 0 16384, .rs (.dispatch (.core 128)), .ag (.dispatch (.core 128)),
    .ar (.dispatch (.core 128)), .sendStep (.dispatch (.core 128)), .recvStep (.dispatch (.core 128)),
    .a2a (.dispatch (.core 128)), .ring (.dispatch (.core 128)), .commitStep (.dispatch (.core 128)), .rdReq 4 ⟨⟨0, []⟩, false⟩,
    .rdReq 0 ⟨⟨2 ^ 512, []⟩, false⟩, .rdReq 0 ⟨⟨0, [256]⟩, false⟩, .rdData 4 ⟨0, []⟩, .rdData 0 ⟨2 ^ 512, []⟩, .rdData 0 ⟨0, [256]⟩,
    .wrData 4 ⟨0, []⟩] = true := by decide +kernel

theorem test_ill_formed_6 : refusesAll [
    .wrData 0 ⟨2 ^ 512, []⟩, .wrData 0 ⟨0, [256]⟩, .wrAck 4 ⟨0, []⟩, .wrAck 0 ⟨2 ^ 512, []⟩, .wrAck 0 ⟨0, [256]⟩,
    .grad 4 ⟨0, []⟩, .grad 0 ⟨2 ^ 512, []⟩, .grad 0 ⟨0, [256]⟩, .emitTransfer 4 ⟨0, []⟩, .emitTransfer 0 ⟨2 ^ 512, []⟩,
    .emitTransfer 0 ⟨0, [256]⟩, .granDone 4 ⟨0, []⟩, .granDone 0 ⟨2 ^ 512, []⟩, .granDone 0 ⟨0, [256]⟩, .errTransfer 4 ⟨0, []⟩,
    .errTransfer 0 ⟨2 ^ 512, []⟩, .errTransfer 0 ⟨0, [256]⟩, .stepset 4 ⟨0, []⟩, .stepset 0 ⟨2 ^ 512, []⟩,
    .stepset 0 ⟨0, [256]⟩, .granuleApply 4 0, .granuleComplete 4 0, .setStep 18 0, .setStep 0 64, .rollForward 18 0,
    .rollForward 0 64, .emitStep 18 0, .emitStep 0 64] = true := by decide +kernel

theorem test_ill_formed_7 : refusesAll [
    .snapshot 18 0, .snapshot 0 64, .restoreStep 18 0, .restoreStep 0 64, .stepActionComplete 64, .weightLoad 18 0,
    .weightLoad 0 64, .weightSwitch 18 0, .weightSwitch 0 64, .revert 18 0, .revert 0 64, .slotFillStart 64, .slotReady 64,
    .batchSubmit 18 0, .batchSubmit 0 64, .batchAdmit 64 [], .slotTokenPost 64, .batchComplete 64, .resAck 18 0 0,
    .resAck 0 1024 0, .resAck 0 0 (2 ^ 32), .resWordRead 18 0, .resWordRead 0 1024, .planLoad 18 0, .planLoad 0 64,
    .unload 18 0, .unload 0 64, .unloadComplete 64 0] = true := by decide +kernel

theorem test_ill_formed_8 : refusesAll [
    .resumePlan 18 0, .resumePlan 0 64, .preempt 18 0, .preempt 0 64, .cancel 18 0, .cancel 0 64, .clearPlacement 18 0,
    .clearPlacement 0 64, .tallyClear 18 0, .tallyClear 0 64, .placement 64, .coreClearComplete 128, .sliceExpiry 64,
    .saveStart 128 0, .saveComplete 64, .restoreComplete 128, .preemptOverrun 64, .scalerExport 18 0, .scalerExport 0 64,
    .scalerImport 18 0, .scalerImport 0 64, .scalerWindowWrite 18 0 0, .scalerWindowWrite 0 64 0,
    .scalerWindowWrite 0 0 (2 ^ 32), .checkStart 0 512, .checkComplete 0 (2 ^ 64),
    .arbitrationComplete 0 512 0, .arbitrationComplete 0 0 (2 ^ 64)] = true := by decide +kernel

theorem test_ill_formed_9 : refusesAll [
    .xchkExport 18, .xchkRun 18, .faultRecordRead 18, .w1cFlagClear 18 0 0 none, .w1cFlagClear 0 65536 0 none,
    .w1cFlagClear 0 0 256 none, .snagDeclare [(65536, 0)], .snagDeclare [(0, 64)], .dumpCmd 18 0, .dumpCmd 0 (2 ^ 32),
    .observationReadTimeout 65536 0 0, .observationReadTimeout 0 64 0, .dumpRelease 18 0, .dumpRelease 0 (2 ^ 32), .fbCore 18,
    .fbCluster 18, .fbLandingStack 18, .fbLinkPlane 18, .fbPlaner 18, .fbDie 18, .fbModule 18, .replayStart 18, .replayEnd 18,
    .registerWrite 18 0 0 0, .registerWrite 0 65536 0 0, .registerWrite 0 0 256 0, .bar0ReadRequest 2 1 0 false,
    .bar0ReadRequest (2 ^ 26) 1 0 false] = true := by decide +kernel

theorem test_ill_formed_10 : refusesAll [
    .bar0ReadRequest 0 0 0 false, .bar0ReadRequest 0 1 16 false, .bar0WriteRequest 2 0 [0] false,
    .bar0WriteRequest (2 ^ 26) 0 [0] false, .bar0WriteRequest 0 0 [] false, .bar0WriteRequest 0 16 [0] false,
    .bar0WriteRequest 0 0 [2 ^ 32] false, .u64SlotRead 65536 0, .u64SlotRead 0 256, .segOpenRead 8, .segOpenWrite 8,
    .segCommit 8, .segClose 8, .segWindowWrite 8 0 0, .segWindowWrite 0 64 0, .segWindowWrite 0 0 (2 ^ 32),
    .mgmtFrameReceive { bytes := [256] }, .neighborSolicitation { bytes := [256] }, .echoRequest { bytes := [256] },
    .bdpRequest [256] 0, .bdpRequest [] (2 ^ 144), .bdpRead 16, .bdpWrite 16, .mgmtKeyWrite 18 0, .mgmtKeyWrite 0 (2 ^ 256),
    .doeDiscovery 256, .doeBdpOperation [256], .powerCmdRun 18] = true := by decide +kernel

theorem test_ill_formed_11 : refusesAll [
    .powerCmdFallow 18, .powerCmdDormant 18, .wakeOnAccess 2, .coreGateOff 128, .clusterGateOff 8, .domainPowerOnComplete 136,
    .sensorSample 137 0, .overcurrentTrip 13 0, .overcurrentTrip 0 30, .overcurrentTrip 8 24,
    .overcurrentTrip 12 1, .powerStageShutdown 13, .inputVoltage (2 ^ 32),
    .pllLossOfLock 37, .pllRelock 37, .cruiseCmd 18, .clusterSurveyComplete 8 [], .scrubExcursion 4, .scrubExcursionComplete 4,
    .bootTimeout 7, .fwBegin 18, .fwChunkWrite 18 0, .fwChunkWrite 0 (2 ^ 8192), .fwVerify 18, .fwAbort 18, .fwConfirm 18,
    .fwSwitch 18, .attCmd 18, .evidenceReady 18, .selftest 18] = true := by decide +kernel

theorem test_ill_formed_12 : refusesAll [
    .selftestComplete [512] [], .selftestComplete [] [128], .probeEnable 18, .probeDisable 18, .msixUnmask 64] = true := by decide +kernel

/-! ### Readings of single rules -/

/-- R41: LAST_STEPMARK stays after the END of the task. -/
theorem test_last_stepmark : let s := nx (exec (.stepmark (.core 0)) (task [word 0x02 [(0, 1)], word 0x03 []]))
    let t := nx (exec (.endStream (.core 0)) s)
    s.coreView 0 4 = some 1 ∧ (t.core 0).phase = .free ∧ t.coreView 0 4 = some 1 ∧ rdy.coreView 0 4 = some 0 := by
  decide +kernel

/-- R195, R203: a grant that comes before its step opens is kept for it. -/
theorem test_early_grant : let f := from1 3 (40 * 2 ^ 32) 2 0
    let e := nx (exec (.ecredFrame 0) (heard f (ready 0xA1 [] [(112, 2)])))
    let t := nx (exec (.ag (.dispatch (.unit 0x88 0))) e)
    taken (heard f (stand [])) 3 = true ∧ (heard f (stand [])).openSteps 0 0 = []
    ∧ (e.ctx 0).early = [(earlyKey 2 0 1, 40)] ∧ t.colls.map (·.grant) = [[(pkeyOf 1 0, 40)]] ∧ (t.ctx 0).early = [] := by
  decide +kernel

/-- R324: a context that is held already is held with 8003h once it is broken. -/
theorem test_broken_hold : let s := onCore .placed .running 2 (fun c => { c with held := true, holdFault := 0x5002 })
    s.breaks 1 0 0 = true ∧ ((s.breakAll 1 0).ctx 0).holdFault = 0x8003 ∧ ((s.breakAll 1 0).ctx 0).held = true := by
  decide +kernel

/-- R189: TRAIN during a training is refused with STATE (8h), while LINK_CMD reads 1. -/
theorem test_train_refused : let s := ob (okey 0x4013 2) 1 (lk 3 { st := .training })
    (nx (exec (.linkTrain 0 3) s)).obj 0x121004 / 2 ^ 60 = 8 ∧ (nx (exec (.linkTrain 0 3) s)).obj (okey 0x4013 2) = 1 := by
  decide +kernel

/-- R290: DETAIL of TIER_FOREIGN is the first address of the region a STAGE names. -/
theorem test_detail :
    (nx (exec (.stage (.dispatch (.unit 0x80 0))) (staging 0x99 3 65))).faults.ring.map (fun r => (r.code, r.detail))
      = [(0x7002, 3 * 2 ^ 26)] := by decide +kernel

/-- Values of R98's functions to the nearest binary32, from tables of the functions: e, 2^0.5, log2 3, tanh 0.5, erf 0.5. -/
theorem test_special_functions :
    toF32 (expExact 0x77 false 1 0) = 0x402DF854 ∧ toF32 (expExact 0x75 false 1 (-1)) = 0x3FB504F3
    ∧ toF32 (.fin false (log2Fix 3 0).toNat (-128)) = 0x3FCAE00D ∧ toF32 (sigmoidExact 0x78 false 1 (-1)) = 0x3EEC9A9F
    ∧ toF32 (sigmoidExact 0x79 false 1 (-1)) = 0x3F053F7B ∧ f32Exp 0x75 0x43480000 = infBits false
    ∧ f32Exp 0x77 0x42B17218 = infBits false := by decide +kernel

/-! ### Steps, the queue, invariants -/

theorem test_step_front : let s : State := { rdy with pending := [.registerWrite 0 0x6300 3 900, .notifySend] }
    let t := nx (step s)
    t.pending = [.notifySend] ∧ t.obj 0x630003 = 900 ∧ (nx (step rdy)).power.sclk = 1 ∧ s.queueWf = true ∧ t.queueWf = true
    ∧ decodeTableWord 128 5 = none ∧ stays (step State.reset) State.reset = true
    ∧ (rdy.withFetchWord 128 5).pending = [] := by decide +kernel

theorem test_step_keeps : let s : State := { task [word 1 []] with pending := [.nop (.core 0)], host := bld [(5, 1, 7)], out := [.msix 1] }
    let t := nx (step s)
    s.memWf = true ∧ s.firmware.oneActive = true ∧ s.idsBelow = true ∧ t.memWf = true ∧ t.firmware.oneActive = true
    ∧ t.idsBelow = true ∧ t.out.take 1 = [.msix 1] ∧ t.pending = [] := by decide +kernel

theorem test_engine_map : let d : CoreData := { tiles := [(8, { owner := 3 }), (24, { owner := 5 })] }
    let old := [1, 3]
    let new := [0, 2]
    let r := (d.mapEngines (fun k => old.idxOf k)).mapEngines (fun k => new.getD k k)
    old.Nodup ∧ new.Nodup ∧ (d.tiles.map Prod.fst).Pairwise (· < ·) ∧ (d.tiles.all (fun e => old.contains (e.1 / 8))) = true
    ∧ Tab.get {} r.tiles 0 = { owner := 3 } ∧ Tab.get {} r.tiles 16 = { owner := 5 } := by decide +kernel

/-- R284, R359: one cycle counts a placed context's time, a held context's too, and the input's energy; State.reset has no clock. -/
theorem test_tick : let s := ob (okey 0x6010 3) 9 (task [word 1 []])
    let h : State := { rdy with ctxs := [(2, { st := .saved, held := true })] }
    (nx (step s)).obj (okey (ctxIdx 0) 0x10) = 1 ∧ (nx (step (nx (step s)))).obj (okey (ctxIdx 0) 0x10) = 2
    ∧ (nx (step s)).power.energy = [(0, 9)] ∧ (nx (step h)).obj (okey (ctxIdx 2) 0x14) = 1
    ∧ (nx (step h)).obj (okey (ctxIdx 2) 0x12) = 1 ∧ State.reset.lookoutRuns = false ∧ State.reset.pending = [] := by
  decide +kernel

/-- R178: a codeword leaves each lane in use every 128/25 SCLK: none in the first cycle, one in the sixth. -/
theorem test_codeword_clock : let s : State := { rdy with links := [(3, { st := .up })] }
    let late : State := { s with power := { s.power with sclk := 5 } }
    (s.tick.link 3).cw = 0 ∧ (late.tick.link 3).cw = 1 := by decide +kernel

end Sys2Proof.Tests
end

/-!
PROOF. The state after reset.
-/

namespace Sys2Proof.Machine

/-- An object that no write has listed reads its default (R17). -/
theorem State.obj_of_objs_nil {s : State} (h : s.objs = []) (k : Nat) : s.obj k = objDefault k := by
  rw [State.obj, h, Tab.get]

/-- A path's own value of an object that no write has listed reads the default (R17, R336). -/
theorem State.pobj_of_pobjs_nil {s : State} (h : s.pobjs = []) (p k : Nat) : s.pobj p k = objDefault k := by
  rw [State.pobj, h, Tab.get]

/-- With no token, acquired count or credit listed, every counter reads 0 (R31, R36). -/
theorem State.counters_of_nil {s : State} (ht : s.tok = []) (ha : s.acq = []) (hc : s.cred = []) (c o k : Nat) :
    s.avail c o k = 0 ∧ s.credits c o k = 0 := by
  simp [State.avail, State.credits, ht, ha, hc, Tab.get]

/-- Settles O2: `State.reset` lists nothing, so that every table reads its default at every key. -/
theorem resetHoldsDefaults : Obligations.ResetHoldsDefaults := by
  have hboot : objDefault (okey 0x1480 1) = 0 := by decide
  refine ⟨State.obj_of_objs_nil rfl, State.pobj_of_pobjs_nil rfl, ?_, fun c => ⟨rfl, rfl⟩, fun n => rfl,
    State.counters_of_nil rfl rfl rfl, fun d => rfl, fun r => rfl, fun f => rfl, fun l => rfl,
    rfl, rfl, rfl, rfl, rfl, rfl, rfl⟩
  rw [State.obj_of_objs_nil rfl, hboot]

end Sys2Proof.Machine

/-!
PROOF. Flags with their event counters, fault records and their ring, COMMIT_HOLD, and the clear of a flag.
-/

namespace Sys2Proof.Machine

/-! ### Flags, interrupts, holds: what objects read -/

/-- A set of a flag leaves it reading 1 (R16). -/
theorem State.obj_setFlag_same (s : State) {k kev : Nat} (h : k ≠ kev) : (s.setFlag k kev).obj k = 1 := by
  rw [State.setFlag, State.obj_addObj_other _ _ _ h, State.obj_setObj_same]

/-- A set of a flag adds 1 to its event counter (R16). -/
theorem State.obj_setFlag_counter (s : State) {k kev : Nat} (h : k ≠ kev) :
    (s.setFlag k kev).obj kev = (s.obj kev + 1) % 2 ^ 16 := by
  rw [State.setFlag, State.obj_addObj_same, State.obj_setObj_other _ _ h.symm]

theorem State.obj_setFlag_other (s : State) {k kev k' : Nat} (h : k' ≠ k) (hev : k' ≠ kev) :
    (s.setFlag k kev).obj k' = s.obj k' := by
  rw [State.setFlag, State.obj_addObj_other _ _ _ hev, State.obj_setObj_other _ _ h]

@[simp] theorem State.obj_signal (s : State) (v k : Nat) : (s.signal v).obj k = s.obj k := by
  obtain ⟨o, p, h⟩ := s.signal_frame v
  rw [h]; rfl

@[simp] theorem State.obj_hold (s : State) (c code k : Nat) : (s.hold c code).obj k = s.obj k := by
  obtain ⟨x, g, q, p, h⟩ := s.hold_frame c code
  rw [h]; rfl

@[simp] theorem State.obj_updScalerCtx (s : State) (c : Nat) (f : ScalerCtx → ScalerCtx) (k : Nat) :
    (s.updScalerCtx c f).obj k = s.obj k := rfl

@[simp] theorem State.faultNotice_faults (s : State) : s.faultNotice.faults = s.faults := by
  obtain ⟨b, o, p, h⟩ := s.faultNotice_frame
  rw [h]

/-- FAULT_PENDING reads 1 after a notice (R291). -/
@[simp] theorem State.obj_faultNotice_pending (s : State) : s.faultNotice.obj (okey 0x5000 5) = 1 := by
  rw [State.faultNotice, State.obj_signal, State.obj_setFlag_same s (by decide)]

/-- The event counter of FAULT_PENDING counts a notice (R16, R291). -/
@[simp] theorem State.obj_faultNotice_events (s : State) :
    s.faultNotice.obj (okey 0x5000 6) = (s.obj (okey 0x5000 6) + 1) % 2 ^ 16 := by
  rw [State.faultNotice, State.obj_signal, State.obj_setFlag_counter s (by decide)]

/-! ### Pushing a record -/

/-- A blaze record touches no object but BLAZE_LOST (R308). -/
theorem State.obj_pushBlaze_other (s : State) (r : FaultRec) (v : Option Verdict) {k : Nat} (h : k ≠ okey 0x5400 5) :
    (s.pushBlaze r v).obj k = s.obj k :=
  State.obj_addObj_other _ _ _ h

/-- A new fault record touches no object but FAULT_LOST (R291). -/
theorem State.obj_pushFault_other (s : State) (r : FaultRec) {k : Nat} (h : k ≠ okey 0x5000 4) :
    (s.pushFault r).obj k = s.obj k :=
  State.obj_addObj_other _ _ _ h

/-! ### The two ways of a report -/

/-- The record that a fault becomes when it does not merge (R290, R291). -/
def State.newRecord (s : State) (code kind source : Nat) (ctx : Option Nat) (detail : Nat) (held abort : Bool) :
    FaultRec :=
  { seq := s.faults.seq + 1, code := code, kind := kind, source := source, ctx := ctx, held := held, abort := abort
    blaze := hasBlaze code, count := 1
    step := match ctx with | some c => (s.curStep c).getD 0 | none => 0
    epoch := match ctx with | some c => s.epoch c | none => 0
    inc := s.incarnation, detail := detail, read := false }

/-- A record into which one more fault has merged (R291). -/
def FaultRec.mergedWith (r : FaultRec) (code : Nat) (held abort : Bool) : FaultRec :=
  { r with count := r.count + 1, held := r.held || held, abort := r.abort || abort, blaze := r.blaze || hasBlaze code }

/-- The state with other records in the ring. -/
def State.withRing (s : State) (ring : List FaultRec) : State := { s with faults := { s.faults with ring := ring } }

/-- How a report ends once the ring is written: a blaze record where R289 marks one, and the notice (R291). -/
def State.finishReport (s : State) (code : Nat) (r : FaultRec) (v : Option Verdict) : State :=
  (if hasBlaze code then s.pushBlaze r v else s).faultNotice

/-- A fault that repeats the newest record merges into it (R291). -/
theorem State.reportV_of_merges {s : State} {r : FaultRec} {rest : List FaultRec} {code kind source : Nat}
    {ctx : Option Nat} (detail : Nat) (held abort : Bool) (v : Option Verdict) (hr : s.faults.ring = r :: rest)
    (hm : r.merges code kind source ctx = true) :
    s.reportV code kind source ctx detail held abort v
      = (s.withRing (r.mergedWith code held abort :: rest)).finishReport code
          { s.newRecord code kind source ctx detail held abort with seq := r.seq } v := by
  simp only [State.reportV, hr, hm, if_true]
  rfl

/-- A fault that repeats no newest record is pushed as a record of its own (R291). -/
theorem State.reportV_of_not_merges {s : State} {code kind source : Nat} {ctx : Option Nat} (detail : Nat)
    (held abort : Bool) (v : Option Verdict)
    (h : ∀ r rest, s.faults.ring = r :: rest → r.merges code kind source ctx = false) :
    s.reportV code kind source ctx detail held abort v
      = (s.pushFault (s.newRecord code kind source ctx detail held abort)).finishReport code
          (s.newRecord code kind source ctx detail held abort) v := by
  unfold State.reportV
  cases hr : s.faults.ring with
  | nil => rfl
  | cons r rest =>
    simp only [h r rest hr, Bool.false_eq_true, if_false]
    rfl

/-- Either a record of the ring is rewritten or one is pushed; no object but FAULT_LOST is touched before the end of the
report (R291). -/
theorem State.reportV_eq_finishReport (s : State) (code kind source : Nat) (ctx : Option Nat) (detail : Nat)
    (held abort : Bool) (v : Option Verdict) : ∃ (u : State) (r : FaultRec), s.reportV code kind source ctx detail held abort v
      = u.finishReport code r v ∧ ∀ k, k ≠ okey 0x5000 4 → u.obj k = s.obj k := by
  by_cases h : ∃ r rest, s.faults.ring = r :: rest ∧ r.merges code kind source ctx = true
  · obtain ⟨r, rest, hr, hm⟩ := h
    exact ⟨_, _, State.reportV_of_merges detail held abort v hr hm, fun _ _ => rfl⟩
  · have hnot : ∀ r rest, s.faults.ring = r :: rest → r.merges code kind source ctx = false :=
      fun r rest hr => Bool.eq_false_iff.2 fun hm => h ⟨r, rest, hr, hm⟩
    exact ⟨_, _, State.reportV_of_not_merges detail held abort v hnot, fun _ hk => s.obj_pushFault_other _ hk⟩

@[simp] theorem State.finishReport_ring (s : State) (code : Nat) (r : FaultRec) (v : Option Verdict) :
    (s.finishReport code r v).faults.ring = s.faults.ring := by
  rw [State.finishReport, State.faultNotice_faults]
  split <;> rfl

@[simp] theorem State.finishReport_seq (s : State) (code : Nat) (r : FaultRec) (v : Option Verdict) :
    (s.finishReport code r v).faults.seq = s.faults.seq := by
  rw [State.finishReport, State.faultNotice_faults]
  split <;> rfl

@[simp] theorem State.finishReport_history (s : State) (code : Nat) (r : FaultRec) (v : Option Verdict) :
    (s.finishReport code r v).faults.history = s.faults.history := by
  rw [State.finishReport, State.faultNotice_faults]
  split <;> rfl

@[simp] theorem State.obj_finishReport_pending (s : State) (code : Nat) (r : FaultRec) (v : Option Verdict) :
    (s.finishReport code r v).obj (okey 0x5000 5) = 1 := State.obj_faultNotice_pending _

@[simp] theorem State.obj_finishReport_events (s : State) (code : Nat) (r : FaultRec) (v : Option Verdict) :
    (s.finishReport code r v).obj (okey 0x5000 6) = (s.obj (okey 0x5000 6) + 1) % 2 ^ 16 := by
  rw [State.finishReport, State.obj_faultNotice_events]
  split
  · rw [State.obj_pushBlaze_other _ _ _ (by decide)]
  · rfl

/-! ### What a report leaves -/

theorem State.report_eq_frame (s : State) (code kind source : Nat) (ctx : Option Nat) (detail : Nat) (held abort : Bool) :
    let t := s.report code kind source ctx detail held abort
    t = { s with objs := t.objs, faults := t.faults, out := t.out, msixPend := t.msixPend } := by
  obtain ⟨b, f, o, p, h⟩ := s.report_frame code kind source ctx detail held abort
  rw [h]

/-- Every report sets FAULT_PENDING and counts in its event counter (R16, R291). -/
theorem State.report_notices (s : State) (code kind source : Nat) (ctx : Option Nat) (detail : Nat) (held abort : Bool) :
    let t := s.report code kind source ctx detail held abort
    t.obj (okey 0x5000 5) = 1 ∧ t.obj (okey 0x5000 6) = (s.obj (okey 0x5000 6) + 1) % 2 ^ 16 := by
  obtain ⟨u, r, h, hu⟩ := s.reportV_eq_finishReport code kind source ctx detail held abort none
  intro t
  unfold t
  rw [State.report, h, State.obj_finishReport_pending, State.obj_finishReport_events, hu _ (by decide)]
  exact ⟨rfl, rfl⟩

/-- A merged fault takes no SEQ and no place in the error history (R291, R292; log entry 20). -/
theorem State.report_of_merges {s : State} {r : FaultRec} {rest : List FaultRec} {code kind source : Nat}
    {ctx : Option Nat} (detail : Nat) (held abort : Bool) (hr : s.faults.ring = r :: rest)
    (hm : r.merges code kind source ctx = true) :
    let t := s.report code kind source ctx detail held abort
    t.faults.seq = s.faults.seq ∧ t.faults.history = s.faults.history
      ∧ t.faults.ring = r.mergedWith code held abort :: rest := by
  intro t
  unfold t
  rw [State.report, State.reportV_of_merges detail held abort none hr hm, State.finishReport_seq,
    State.finishReport_history, State.finishReport_ring]
  exact ⟨rfl, rfl, rfl⟩

/-- A fault that does not merge becomes the newest of at most 1,024 records (R291, R292). -/
theorem State.report_of_not_merges {s : State} {code kind source : Nat} {ctx : Option Nat} (detail : Nat)
    (held abort : Bool) (h : ∀ r rest, s.faults.ring = r :: rest → r.merges code kind source ctx = false) :
    let t := s.report code kind source ctx detail held abort
    let r := s.newRecord code kind source ctx detail held abort
    t.faults.seq = s.faults.seq + 1 ∧ t.faults.ring = (r :: s.faults.ring).take 1024
      ∧ t.faults.history = (if inHistory code then (r :: s.faults.history).take 64 else s.faults.history) := by
  intro t r
  unfold t
  rw [State.report, State.reportV_of_not_merges detail held abort none h, State.finishReport_seq,
    State.finishReport_history, State.finishReport_ring]
  exact ⟨rfl, rfl, rfl⟩

/-! ### Reads of fault records -/

theorem exec_faultRecordRead {path : Nat} (s : State) (hp : path < 18) :
    exec (.faultRecordRead path) s = .next (faultRecordRead s path) := by
  have hw : wellFormed (.faultRecordRead path) = true := decide_eq_true hp
  exact need_ok hw _

/-- A served read marks the records whose SEQ the path's FAULT_SEL names (R291, R335). -/
theorem faultRecordRead_of_served {s : State} {path : Nat} (ha : s.access path 0x5000 = 0) :
    faultRecordRead s path = s.withRing (s.faults.ring.map (fun r =>
      if r.seq = s.pobj path (okey 0x5000 2) then { r with read := true } else r)) := by
  rw [faultRecordRead, if_neg (not_not_intro ha)]
  rfl

/-! ### COMMIT_HOLD -/

/-- COMMIT_HOLD of a context's integrity objects: its index and sub-index (R295, R310). -/
def IsCommitHold (i j : Nat) : Prop := 0x5100 ≤ i ∧ i < 0x5140 ∧ j = 1

/-- The index and sub-index of a W1C flag (R342). -/
def IsW1cFlag (i j : Nat) : Prop :=
  (i = 0x1210 ∧ j = 2) ∨ (i = 0x5000 ∧ j = 5) ∨ IsCommitHold i j ∨ (i = 0x5600 ∧ j = 7)
    ∨ (0x9000 ≤ i ∧ i < 0x9200 ∧ j = 7)

theorem okey_ne {i j a b : Nat} (hj : j < 256) (hb : b < 256) (h : i ≠ a ∨ j ≠ b) : okey i j ≠ okey a b := by
  intro he
  obtain ⟨hi, hjb⟩ := okey_inj hj hb he
  exact h.elim (· hi) (· hjb)

theorem okey_succ (i j : Nat) : okey i (j + 1) = okey i j + 1 := by unfold okey; omega

/-- COMMIT_HOLD is set and counted, and its reason added to the reasons (R295). -/
theorem State.obj_setCommitHold (s : State) (ctx reason code : Nat) :
    let i := intIdx ctx
    let t := s.setCommitHold ctx reason code
    t.obj (okey i 1) = 1 ∧ t.obj (okey i 2) = (s.obj (okey i 2) + 1) % 2 ^ 16
      ∧ t.obj (okey i 3) = s.obj (okey i 3) ||| 2 ^ reason := by
  intro i t
  have h12 : okey i 1 ≠ okey i 2 := okey_ne (by decide) (by decide) (.inr (by decide))
  have h13 : okey i 1 ≠ okey i 3 := okey_ne (by decide) (by decide) (.inr (by decide))
  have h23 : okey i 2 ≠ okey i 3 := okey_ne (by decide) (by decide) (.inr (by decide))
  have hobj : ∀ k, t.obj k = ((s.setFlag (okey i 1) (okey i 2)).setObj (okey i 3)
      (s.obj (okey i 3) ||| 2 ^ reason)).obj k := by
    intro k
    unfold t State.setCommitHold
    dsimp only
    split
    · rw [State.obj_hold, State.obj_updScalerCtx]
    · rw [State.obj_updScalerCtx]
  refine ⟨?_, ?_, ?_⟩
  · rw [hobj, State.obj_setObj_other _ _ h13, State.obj_setFlag_same _ h12]
  · rw [hobj, State.obj_setObj_other _ _ h23, State.obj_setFlag_counter _ h12]
  · rw [hobj, State.obj_setObj_same]

/-- A set of COMMIT_HOLD touches objects and the Scaler, and where the context serves what a hold of it touches (R295). -/
theorem State.setCommitHold_frame (s : State) (ctx reason code : Nat) :
    ∃ b c x g q p, s.setCommitHold ctx reason code
      = { s with objs := b, scalerC := c, ctxs := x, snag := g, out := q, msixPend := p } := by
  unfold State.setCommitHold
  dsimp only
  split
  · generalize hu : State.updScalerCtx _ ctx _ = u
    obtain ⟨x, g, q, p, h⟩ := u.hold_frame ctx code
    rw [h, ← hu]
    exact ⟨_, _, _, _, _, _, rfl⟩
  · exact ⟨_, _, _, _, _, _, rfl⟩

/-- Where no plan is loaded, COMMIT_HOLD leaves the contexts alone (R295). -/
theorem State.setCommitHold_ctxs_of_not_loaded {s : State} {ctx : Nat} (reason code : Nat) (h : s.loaded ctx = false) :
    (s.setCommitHold ctx reason code).ctxs = s.ctxs := by
  simp only [State.setCommitHold, h, Bool.false_and, Bool.false_eq_true, if_false]
  rfl

theorem State.clearCommitHold_frame (s : State) (ctx : Nat) : ∃ b, s.clearCommitHold ctx = { s with objs := b } :=
  ⟨_, rfl⟩

/-- COMMIT_HOLD is cleared with its reasons, and no other object changes (R295, R310). -/
theorem State.obj_clearCommitHold (s : State) (ctx : Nat) :
    let i := intIdx ctx
    let t := s.clearCommitHold ctx
    t.obj (okey i 1) = 0 ∧ t.obj (okey i 3) = 0 ∧ ∀ k, k ≠ okey i 1 → k ≠ okey i 3 → t.obj k = s.obj k := by
  intro i t
  have h13 : okey i 1 ≠ okey i 3 := okey_ne (by decide) (by decide) (.inr (by decide))
  refine ⟨?_, State.obj_setObj_same _ _ _, fun k h1 h3 => ?_⟩
  · exact (State.obj_setObj_other _ _ h13).trans (State.obj_setObj_same _ _ _)
  · exact (State.obj_setObj_other _ _ h3).trans (State.obj_setObj_other _ _ h1)

/-! ### W1C_FLAG_CLEAR -/

/-- A W1C flag's event counter stands next to it (R342). -/
theorem flagCounter_of_flag {i j : Nat} (hj : j < 256) (h : IsW1cFlag i j) :
    flagCounter (okey i j) = some (okey i (j + 1)) := by
  have hmod : okey i j % 256 = j := by unfold okey; omega
  unfold flagCounter
  rw [okey_div i hj, hmod, okey_succ i j]
  rcases h with ⟨rfl, rfl⟩ | ⟨rfl, rfl⟩ | ⟨hlo, hhi, rfl⟩ | ⟨rfl, rfl⟩ | ⟨hlo, hhi, rfl⟩
  · simp
  · simp
  · simp [hlo, hhi]
  · simp
  · simp [hlo, hhi]

/-- No other object has an event counter (R342). -/
theorem flagCounter_of_not_flag {i j : Nat} (hj : j < 256) (h : ¬ IsW1cFlag i j) : flagCounter (okey i j) = none := by
  have hmod : okey i j % 256 = j := by unfold okey; omega
  unfold IsW1cFlag IsCommitHold at h
  unfold flagCounter
  rw [okey_div i hj, hmod, if_neg, if_neg, if_neg]
  · simp; omega
  · simp; omega
  · simp only [Bool.or_eq_true, decide_eq_true_eq]
    rintro ((he | he) | he)
    · obtain ⟨hi, hj'⟩ := okey_inj hj (by decide) he; omega
    · obtain ⟨hi, hj'⟩ := okey_inj hj (by decide) he; omega
    · obtain ⟨hi, hj'⟩ := okey_inj hj (by decide) he; omega

theorem w1cFlagClear_of_not_flag (s : State) (path : Nat) {i j : Nat} (set : Option Nat) (hj : j < 256)
    (h : ¬ IsW1cFlag i j) : w1cFlagClear s path (okey i j) set = s := by
  simp only [w1cFlagClear, flagCounter_of_not_flag hj h]

/-- A flag other than COMMIT_HOLD: the clear, or the set that wins over it (R16, R342). -/
theorem w1cFlagClear_of_flag {s : State} {path i j : Nat} (set : Option Nat) (hj : j < 256)
    (ha : s.access path i = 0) (h : IsW1cFlag i j) (hn : ¬ IsCommitHold i j) :
    w1cFlagClear s path (okey i j) set =
      set.elim (s.setObj (okey i j) 0) (fun _ => s.setFlag (okey i j) (okey i (j + 1))) := by
  have hi : ¬ (0x5100 ≤ i ∧ i < 0x5140) := by
    unfold IsW1cFlag IsCommitHold at *; omega
  simp only [w1cFlagClear, flagCounter_of_flag hj h, State.onWrite_at hj _ ha, okey_div i hj, Bool.and_eq_true,
    decide_eq_true_eq, hi, if_false]
  cases set <;> rfl

/-- COMMIT_HOLD: the clear with its reasons, or the set of a reason bit that wins over it (R16, R295, R342). -/
theorem w1cFlagClear_of_commitHold {s : State} {path i j : Nat} (set : Option Nat) (ha : s.access path i = 0)
    (h : IsCommitHold i j) :
    w1cFlagClear s path (okey i j) set =
      set.elim (s.clearCommitHold (i - 0x5100))
        (fun r => s.setCommitHold (i - 0x5100) (26 + r % 6) (reasonCode (26 + r % 6))) := by
  obtain ⟨hlo, hhi, rfl⟩ := h
  have hflag : IsW1cFlag i 1 := .inr (.inr (.inl ⟨hlo, hhi, rfl⟩))
  have hj : 1 < 256 := by decide
  simp only [w1cFlagClear, flagCounter_of_flag hj hflag, State.onWrite_at hj _ ha, okey_div i hj, Bool.and_eq_true,
    decide_eq_true_eq, hlo, hhi, and_self, if_true]
  cases set <;> rfl

theorem exec_w1cFlagClear {path i j : Nat} (set : Option Nat) (s : State) (hp : path < 18) (hi : i < 65536)
    (hj : j < 256) : exec (.w1cFlagClear path i j set) s = .next (w1cFlagClear s path (okey i j) set) := by
  have hw : wellFormed (.w1cFlagClear path i j set) = true := by
    change (pathOk path && decide (i < 65536) && decide (j < 256)) = true
    simp [pathOk, hp, hi, hj]
  exact need_ok hw _

/-- The context whose integrity objects an index holds (R310). -/
theorem intIdx_sub {i : Nat} (h : 0x5100 ≤ i) : intIdx (i - 0x5100) = i := by unfold intIdx; omega

/-- A clear of a flag, with no set in the same cycle (R295, R310, R342). -/
theorem w1cFlagClear_clears {s : State} {path i j : Nat} (hj : j < 256) (ha : s.access path i = 0)
    (h : IsW1cFlag i j) :
    let t := w1cFlagClear s path (okey i j) none
    t = { s with objs := t.objs } ∧ t.obj (okey i j) = 0 ∧ (IsCommitHold i j → t.obj (okey i 3) = 0)
      ∧ ∀ k, k ≠ okey i j → (IsCommitHold i j → k ≠ okey i 3) → t.obj k = s.obj k := by
  by_cases hold : IsCommitHold i j
  · rw [w1cFlagClear_of_commitHold none ha hold, Option.elim]
    obtain ⟨b, hf⟩ := s.clearCommitHold_frame (i - 0x5100)
    obtain ⟨h1, h3, hk⟩ := s.obj_clearCommitHold (i - 0x5100)
    obtain ⟨hlo, hhi, rfl⟩ := id hold
    rw [intIdx_sub hlo] at h1 h3 hk
    exact ⟨by rw [hf], h1, fun _ => h3, fun k hj' h3' => hk k hj' (h3' hold)⟩
  · rw [w1cFlagClear_of_flag none hj ha h hold]
    exact ⟨rfl, State.obj_setObj_same _ _ _, fun hc => absurd hc hold, fun k hk _ => State.obj_setObj_other _ _ hk⟩

/-- A set in the same cycle as the clear of a flag other than COMMIT_HOLD is not lost (R16, R342). -/
theorem w1cFlagClear_keeps_set {s : State} {path i j : Nat} (r : Nat) (hj : j < 256) (ha : s.access path i = 0)
    (h : IsW1cFlag i j) (hn : ¬ IsCommitHold i j) :
    let t := w1cFlagClear s path (okey i j) (some r)
    t = { s with objs := t.objs } ∧ t.obj (okey i j) = 1
      ∧ t.obj (okey i (j + 1)) = (s.obj (okey i (j + 1)) + 1) % 2 ^ 16
      ∧ ∀ k, k ≠ okey i j → k ≠ okey i (j + 1) → t.obj k = s.obj k := by
  have hne : okey i j ≠ okey i (j + 1) := by rw [okey_succ]; omega
  rw [w1cFlagClear_of_flag (some r) hj ha h hn]
  exact ⟨rfl, s.obj_setFlag_same hne, s.obj_setFlag_counter hne, fun k => s.obj_setFlag_other⟩

/-- A set in the same cycle as the clear of COMMIT_HOLD is not lost, nor its reason (R16, R295, R342). -/
theorem w1cFlagClear_keeps_commitHold {s : State} {path i j : Nat} (r : Nat) (ha : s.access path i = 0)
    (h : IsCommitHold i j) :
    let t := w1cFlagClear s path (okey i j) (some r)
    t.obj (okey i 1) = 1 ∧ t.obj (okey i 2) = (s.obj (okey i 2) + 1) % 2 ^ 16
      ∧ t.obj (okey i 3) = s.obj (okey i 3) ||| 2 ^ (26 + r % 6)
      ∧ t.flights = s.flights ∧ t.streams = s.streams ∧ t.cores = s.cores
      ∧ (s.loaded (i - 0x5100) = false → t.ctxs = s.ctxs) := by
  rw [w1cFlagClear_of_commitHold (some r) ha h, Option.elim]
  obtain ⟨h1, h2, h3⟩ := s.obj_setCommitHold (i - 0x5100) (26 + r % 6) (reasonCode (26 + r % 6))
  rw [intIdx_sub h.1] at h1 h2 h3
  obtain ⟨b, c, x, g, q, p, hf⟩ := s.setCommitHold_frame (i - 0x5100) (26 + r % 6) (reasonCode (26 + r % 6))
  refine ⟨h1, h2, h3, ?_, ?_, ?_, State.setCommitHold_ctxs_of_not_loaded _ _⟩
  · rw [hf]
  · rw [hf]
  · rw [hf]

/-! ### The statement -/

/-- Settles O46: a report rewrites the newest record or pushes one and then gives notice, and a flag's clear gives way
to a set in the same cycle. -/
theorem faultsAreRecordedAndMerged : Obligations.FaultsAreRecordedAndMerged := by
  refine ⟨?report, ?read, ?clear⟩
  case report =>
    intro s code kind source detail ctx held abort
    obtain ⟨hpending, hevents⟩ := s.report_notices code kind source ctx detail held abort
    refine ⟨s.report_eq_frame code kind source ctx detail held abort, hpending, hevents, ?_, ?_⟩
    · intro r rest hr hcode hkind hsource hctx hcount
      have hm : r.merges code kind source ctx = true := by
        simp [FaultRec.merges, hcode, hkind, hsource, hctx, hcount]
      exact State.report_of_merges detail held abort hr hm
    · intro h
      obtain ⟨hseq, hring, hhist⟩ := State.report_of_not_merges detail held abort h
      exact ⟨hseq, hring ▸ List.length_take_le _ _, s.newRecord code kind source ctx detail held abort, hring,
        rfl, rfl, rfl, rfl, rfl, rfl, rfl, rfl, rfl, rfl, hhist⟩
  case read =>
    intro s path hp ha
    rw [exec_faultRecordRead s hp, faultRecordRead_of_served ha]
    rfl
  case clear =>
    intro s path i j set hp hi hj ha
    rw [exec_w1cFlagClear set s hp hi hj]
    refine ⟨fun hn => congrArg _ (w1cFlagClear_of_not_flag s path set hj hn), ?_, ?_, ?_⟩
    · rintro hflag rfl
      exact ⟨_, rfl, w1cFlagClear_clears hj ha hflag⟩
    · rintro r hflag hn rfl
      exact ⟨_, rfl, w1cFlagClear_keeps_set r hj ha hflag hn⟩
    · rintro r ⟨hlo, hhi, rfl⟩ rfl
      have hold : IsCommitHold i 1 := ⟨hlo, hhi, rfl⟩
      exact ⟨_, rfl, w1cFlagClear_keeps_commitHold r ha hold⟩

end Sys2Proof.Machine

/-!
PROOF. What every command of the machine keeps, from what its operation keeps.
-/

namespace Sys2Proof.Machine

/-- What an outcome keeps of a state: where it answers a next state, that state keeps it. -/
def KeepsOutcome (r : State) : Host.Outcome State Fault Refusal → Prop
  | .next t => Keeps r t
  | .fault _ => True
  | .refused _ => True

/-- A command within the numbering keeps what its operation keeps; any other has no next state (log entry 10). -/
theorem KeepsOutcome.need {r t : State} {ok : Bool} (h : Keeps r t) : KeepsOutcome r (need ok t) := by
  cases ok
  · trivial
  · exact h

/-- So does a command that may fault before its operation begins (R142). -/
theorem KeepsOutcome.need_faulting {r t : State} {ok : Bool} {c : Prop} [Decidable c] {e : Fault} (h : Keeps r t) :
    KeepsOutcome r (if c then .fault e else Machine.need ok t) := by
  split
  · trivial
  · exact .need h

/-- Every command keeps it: one arm per command, which names its operation; an arm without `need` is of a command whose
operands all lie within the numbering. -/
theorem keepsOutcome_exec {r s : State} (i : Instr) (hk : Keeps r s) : KeepsOutcome r (exec i s) :=
  match i with
  | .nop _ => .need (keeps_nop _ hk)
  | .settle _ => .need (keeps_settle _ hk)
  | .stepmark _ => .need (keeps_stepmark (fun h n => keeps_pinStep h n hk) hk)
  | .endStream _ => .need (keeps_endStream _ hk)
  | .commandComplete _ => keeps_commandComplete _ hk
  | .postArrival _ => keeps_tokenArrival _ hk
  | .creditReturn _ => keeps_creditArrival _ hk
  | .stopStepWrite _ _ _ => .need (keeps_stopStepWrite _ _ _ hk)
  | .mma (.dispatch _) _ | .preload (.dispatch _) _ | .drain (.dispatch _) | .topk (.dispatch _)
  | .tilerel (.dispatch _) | .cvtsc (.dispatch _)
  | .cvtcl (.dispatch _) => .need (keeps_State_dispatchEngine _ _ _ hk)
  | .mma (.start _) _ => keeps_startMma _ hk
  | .mmaRowIssue _ => .need (keeps_mmaRowIssue _ hk)
  | .preload (.start _) _ => keeps_startPreload _ hk
  | .drain (.start _) => keeps_startDrain _ hk
  | .topk (.start _) => keeps_startTopk _ hk
  | .tilerel (.start _) => keeps_startTilerel _ hk
  | .cvtsc (.start _) => keeps_startCvtsc _ hk
  | .cvtcl (.start _) => keeps_startCvtcl _ hk
  | .vld _ | .vst _ => .need (keeps_memoryRow _ _ _ hk)
  | .vstat (.dispatch _) => .need (keeps_State_dispatchLimber _ _ hk)
  | .vstat (.start _) => keeps_startVstat _ hk
  | .vimm _ | .vsel _ | .vadd _ | .vsub _ | .vmul _ | .vfma _ | .vfnma _ | .vmax _ | .vmin _ | .vabs _ | .vneg _
  | .vdiv _ | .vsqrt _ | .vrcp _ | .vrsqrt _ | .vexp2 _ | .vlog2 _ | .vexp _ | .vtanh _ | .verf _ | .vrsum _
  | .vrmax _ | .vrmin _ | .vrdot _ | .vcmp _ | .kop _ | .kcol _ => .need (keeps_limberRow _ _ _ hk)
  | .fill (.dispatch _) _ | .spill (.dispatch _) _ => .need (keeps_State_dispatchMove _ _ _ hk)
  | .fill (.start _) _ | .spill (.start _) _ => .need_faulting (keeps_State_startMove _ _ _ _ hk)
  | .winset _ => .need (keeps_winset _ hk)
  | .move (.dispatch _) _ => .need (keeps_State_dispatchMover _ hk)
  | .move (.start _) _ => .need_faulting (keeps_State_runMove _ _ hk)
  | .stage (.dispatch _) => .need (keeps_State_dispatchStage _ hk)
  | .stage (.start _) => keeps_State_startStage _ hk
  | .stageComplete _ _ => keeps_stageComplete _ _ hk
  | .evict (.dispatch _) | .clean (.dispatch _) => .need (keeps_State_dispatchBack _ _ _ hk)
  | .evict (.start _) => keeps_State_startEvict _ hk
  | .evictDrainEnd _ => keeps_evictDrainEnd _ hk
  | .evictComplete _ _ => keeps_evictComplete _ _ hk
  | .clean (.start _) => keeps_State_startClean _ hk
  | .cleanComplete _ _ => keeps_cleanComplete _ _ hk
  | .descCreate _ _ => .need (keeps_State_onCmd (fun _ hk => keeps_descCreate _ _ hk) hk)
  | .descDestroy _ _ _ => .need (keeps_State_onWrite (fun _ hk => keeps_descDestroy _ _ hk) hk)
  | .c6Flush _ _ => .need (keeps_State_onCmd (fun _ hk => keeps_c6Flush _ hk) hk)
  | .c6FlushComplete _ => .need (keeps_c6FlushComplete _ hk)
  | .mapRegion _ => .need (keeps_State_onCmd (fun _ hk => keeps_mapRegion _ hk) hk)
  | .unmap _ => .need (keeps_State_onCmd (fun _ hk => keeps_unmapRegion _ hk) hk)
  | .trim _ => .need (keeps_State_onCmd (fun _ hk => keeps_trimRegion _ hk) hk)
  | .discard _ => .need (keeps_State_onCmd (fun _ hk => keeps_discardRegion _ hk) hk)
  | .allocGrant _ _ => .need (keeps_State_onCmd (fun _ hk => keeps_allocGrant _ _ hk) hk)
  | .allocRelease _ _ => .need (keeps_State_onCmd (fun _ hk => keeps_allocRelease _ _ hk) hk)
  | .frameToPool _ _ => .need (keeps_State_onCmd (fun _ hk => keeps_frameToPool _ _ hk) hk)
  | .frameToFree _ => .need (keeps_State_onCmd (fun _ hk => keeps_frameToFree _ hk) hk)
  | .hostwinAddrWrite _ _ => .need (keeps_hostwinAddrWrite _ _ hk)
  | .flashScrubNow _ _ => .need (keeps_State_onCmd (fun _ hk => keeps_flashScrubNow _ hk) hk)
  | .flashBackgroundScrub _ _ _ _ _ => .need (keeps_flashScrub _ _ _ _ _ hk)
  | .readDisturbRelocation _ _ => .need (keeps_readDisturb _ _ hk)
  | .staticWearLevelling _ _ => .need (keeps_wearLevel _ _ hk)
  | .garbageCollection _ _ _ _ _ => .need (keeps_garbageCollect _ _ _ _ _ hk)
  | .ddrPatrolScrub _ _ _ => .need (keeps_ddrScrub _ _ _ hk)
  | .codewordReceive _ _ _ => .need (keeps_State_takeTransfers _ (keeps_codewordReceive _ _ hk))
  | .frameReceive _ _ _ => .need (keeps_State_takeTransfers _ (keeps_frameReceive _ _ _ hk))
  | .frameSend _ => .need (keeps_frameSend _ hk)
  | .retransmitTimeout _ => .need (keeps_retransmitTimeout _ hk)
  | .laneLossOfLock _ => .need (keeps_laneLossOfLock _ hk)
  | .laneErrorThreshold _ => .need (keeps_laneErrorThreshold _ hk)
  | .linkTrain _ _ => .need (keeps_linkTrain _ _ hk)
  | .linkDisable _ _ => .need (keeps_linkDisable _ _ hk)
  | .linkRetrain _ _ => .need (keeps_linkRetrain _ _ hk)
  | .trainingComplete _ _ => .need (keeps_trainingComplete _ _ hk)
  | .trainingTimeout _ => .need (keeps_trainingTimeout _ hk)
  | .retrainComplete _ _ => .need (keeps_retrainComplete _ _ hk)
  | .retrainTimeout _ => .need (keeps_retrainTimeout _ hk)
  | .dataFrame _ => .need (keeps_dataReceived _ hk)
  | .endFrame _ => .need (keeps_endReceived _ hk)
  | .ecredFrame _ => .need (keeps_ecredReceived _ hk)
  | .beatFrame _ => .need (keeps_beatReceived _ hk)
  | .abortFrame _ => .need (keeps_abortReceived _ hk)
  | .commitFrame _ => .need (keeps_commitFrame _ hk)
  | .creditFrame _ => .need (keeps_creditReceived _ hk)
  | .epochCmd _ _ => .need (keeps_epochCmd _ _ (keeps_onEpoch_all _) hk)
  | .memberEntryWrite _ _ _ => .need (keeps_memberEntryWrite _ _ _ hk)
  | .selfWrite _ _ _ => .need (keeps_selfWrite _ _ _ hk)
  | .beatTimer _ => .need (keeps_beatTimer _ hk)
  | .noProgress _ _ => .need (keeps_noProgress _ _ hk)
  | .rs (.dispatch _) | .ag (.dispatch _) | .ar (.dispatch _) | .sendStep (.dispatch _) | .recvStep (.dispatch _)
  | .a2a (.dispatch _) | .ring (.dispatch _) => .need (keeps_State_dispatchColl _ _ hk)
  | .rs (.start _ _) | .ag (.start _ _) | .ar (.start _ _) | .sendStep (.start _ _) | .recvStep (.start _)
  | .a2a (.start _ _) | .ring (.start _ _) => keeps_State_startColl _ _ _ hk
  | .commitStep (.dispatch _) => .need (keeps_State_dispatchCommit _ hk)
  | .commitStep (.start _) => keeps_State_startCommit _ hk
  | .collectiveComplete _ => keeps_collectiveComplete _ hk
  | .commitComplete _ => keeps_commitComplete _ hk
  | .rdReq _ _ => .need (keeps_rdReq _ _ hk)
  | .rdData _ _ => .need (keeps_rdData _ _ hk)
  | .wrData _ _ => .need (keeps_wrData _ _ hk)
  | .wrAck _ _ => .need (keeps_wrAck _ _ hk)
  | .grad _ _ => .need (keeps_gradReceived _ _ hk)
  | .emitTransfer _ _ => .need (keeps_emitTransfer _ _ hk)
  | .granDone _ _ => .need (keeps_granDone _ _ hk)
  | .errTransfer _ _ => .need (keeps_errTransfer _ _ hk)
  | .stepset _ _ => .need (keeps_stepsetReceived _ _ hk)
  | .granuleHandoff _ => keeps_granuleHandoff _ hk
  | .granuleApply _ _ => .need_faulting (keeps_granuleApply _ _ hk)
  | .granuleComplete _ _ => .need (keeps_granuleComplete _ _ hk)
  | .setStep _ _ => .need (keeps_setStep _ _ hk)
  | .rollForward _ _ => .need (keeps_rollForward _ _ hk)
  | .emitStep _ _ => .need (keeps_emitStep _ _ hk)
  | .snapshot _ _ => .need (keeps_snapshotStep _ _ hk)
  | .restoreStep _ _ => .need (keeps_restoreStep _ _ hk)
  | .stepActionComplete _ => .need (keeps_stepActionComplete _ hk)
  | .weightLoad _ _ => .need (keeps_weightLoad _ _ hk)
  | .weightSwitch _ _ => .need (keeps_weightSwitch _ _ hk)
  | .revert _ _ => .need (keeps_weightRevert _ _ hk)
  | .slotFillStart _ => .need (keeps_slotFillStart _ hk)
  | .slotReady _ => .need (keeps_slotReady _ hk)
  | .batchSubmit _ _ => .need (keeps_batchSubmit _ _ hk)
  | .batchAdmit _ _ => .need (keeps_batchAdmit _ _ hk)
  | .slotTokenPost _ => .need (keeps_slotTokenPost _ hk)
  | .batchComplete _ => .need (keeps_batchComplete _ hk)
  | .resAck _ _ _ => .need (keeps_resAck _ _ _ hk)
  | .resWordRead _ _ => .need (keeps_resWordRead _ _ hk)
  | .planLoad _ _ => .need (keeps_planLoad _ _ hk)
  | .unload _ _ => .need (keeps_unload _ _ hk)
  | .unloadComplete _ _ => .need (keeps_unloadComplete _ _ hk)
  | .resumePlan _ _ => .need (keeps_resumePlan _ _ hk)
  | .preempt _ _ => .need (keeps_preempt _ _ hk)
  | .cancel _ _ => .need (keeps_cancelPreempt _ _ hk)
  | .clearPlacement _ _ => .need (keeps_clearPlacement _ _ hk)
  | .tallyClear _ _ => .need (keeps_tallyClear _ _ hk)
  | .placement _ => .need (keeps_placement _ hk)
  | .coreClearComplete _ => .need (keeps_coreClearComplete _ hk)
  | .schedulerEvaluate => keeps_schedulerEvaluate hk
  | .sliceExpiry _ => .need (keeps_sliceExpiry _ hk)
  | .saveStart _ _ => .need (keeps_saveStart _ _ hk)
  | .saveComplete _ => .need (keeps_saveComplete _ hk)
  | .restoreComplete _ => .need (keeps_restoreComplete _ hk)
  | .preemptOverrun _ => .need (keeps_preemptOverrun _ hk)
  | .scalerRecord => keeps_scalerRecord hk
  | .scalerExport _ _ => .need (keeps_scalerExport _ _ hk)
  | .scalerImport _ _ => .need (keeps_scalerImport _ _ hk)
  | .scalerWindowWrite _ _ _ => .need (keeps_scalerWindowWrite _ _ _ hk)
  | .checkStart _ _ => .need (keeps_checkStart _ _ hk)
  | .checkComplete _ _ => .need (keeps_checkComplete _ _ hk)
  | .arbitrationComplete _ _ _ => .need (keeps_arbitrationComplete _ _ _ hk)
  | .xchkExport _ => .need (keeps_xchkExport _ hk)
  | .xchkRun _ => .need (keeps_xchkRun _ hk)
  | .blazeSign => keeps_blazeSign hk
  | .faultRecordRead _ => .need (keeps_faultRecordRead _ hk)
  | .w1cFlagClear _ _ _ _ => .need (keeps_w1cFlagClear _ _ _ hk)
  | .snagDeclare _ => .need (keeps_snagDeclare _ hk)
  | .dumpCmd _ _ => .need (keeps_dumpCmd _ _ hk)
  | .observationReadTimeout _ _ _ => .need (keeps_observationTimeout _ _ _ hk)
  | .dumpComplete => keeps_dumpComplete hk
  | .dumpRelease _ _ => .need (keeps_dumpRelease _ _ hk)
  | .fbCore _ | .fbCluster _ | .fbLandingStack _ | .fbLinkPlane _ | .fbPlaner _ | .fbDie _
  | .fbModule _ => .need (keeps_fbRequest _ _ hk)
  | .firebreakReset => keeps_firebreakReset hk
  | .firebreakComplete => keeps_firebreakComplete hk
  | .replayStart _ => .need (keeps_replayStart _ hk)
  | .replayEnd _ => .need (keeps_replayEnd _ hk)
  | .registerWrite _ _ _ _ => .need (keeps_registerWrite _ _ _ hk)
  | .bar0ReadRequest _ _ _ _ => .need (keeps_bar0Read _ _ _ _ hk)
  | .bar0WriteRequest _ _ _ _ => .need (keeps_bar0Write _ _ _ _ hk)
  | .u64SlotRead _ _ => .need (keeps_u64SlotRead _ hk)
  | .segOpenRead _ => .need (keeps_segOpenRead _ _ hk)
  | .segOpenWrite _ => .need (keeps_segOpenWrite _ _ hk)
  | .segCommit _ => .need (keeps_segCommit _ _ hk)
  | .segClose _ => .need (keeps_segClose _ _ hk)
  | .segWindowWrite _ _ _ => .need (keeps_segWindowWrite _ _ _ _ hk)
  | .mgmtFrameReceive _ => .need (keeps_mgmtFrameReceive _ hk)
  | .neighborSolicitation _ => .need (keeps_neighborSolicitation _ hk)
  | .echoRequest _ => .need (keeps_echoRequest _ hk)
  | .bdpRequest _ _ => .need (keeps_bdpRequest _ _ hk)
  | .bdpRead _ => .need (keeps_bdpRead _ hk)
  | .bdpWrite _ => .need (keeps_bdpWrite _ hk)
  | .notifySend => keeps_notifySend hk
  | .mgmtKeyWrite _ _ => .need (keeps_mgmtKeyWrite _ _ hk)
  | .doeDiscovery _ => .need (keeps_doeDiscovery _ hk)
  | .doeBdpOperation _ => .need (keeps_doeBdpOperation _ hk)
  | .powerCmdRun _ => .need (keeps_powerCmdRun _ hk)
  | .powerCmdFallow _ | .powerCmdDormant _ => .need (keeps_powerEntry _ _ hk)
  | .powerTransitionComplete => keeps_powerTransitionComplete hk
  | .wakeOnAccess _ => .need (keeps_State_wakeBy _ hk)
  | .coreGateOff _ => .need (keeps_coreGateOff _ hk)
  | .clusterGateOff _ => .need (keeps_clusterGateOff _ hk)
  | .domainPowerOnComplete _ => .need (keeps_domainPowerOnComplete _ hk)
  | .sensorSample _ _ => .need (keeps_sensorSample _ _ hk)
  | .overcurrentTrip _ _ => .need (keeps_overcurrentTrip _ _ hk)
  | .powerStageShutdown _ => .need (keeps_powerStageShutdown _ hk)
  | .inputVoltage _ => .need (keeps_inputVoltage _ hk)
  | .inputPowerLoss => keeps_inputPowerLoss hk
  | .powerOn => keeps_powerOn hk
  | .pllLossOfLock _ => .need (keeps_pllLossOfLock _ hk)
  | .pllRelock _ => .need (keeps_pllRelock _ hk)
  | .refclkStop => keeps_refclkStop hk
  | .cruiseSurvey => keeps_cruiseSurvey hk
  | .cruiseCmd _ => .need (keeps_cruiseCmd _ hk)
  | .clusterSurveyComplete _ _ => .need (keeps_clusterSurveyComplete _ _ hk)
  | .scrubExcursion _ => .need (keeps_scrubExcursion _ hk)
  | .scrubExcursionComplete _ => .need (keeps_scrubExcursionComplete _ hk)
  | .macEnergyWindow _ _ => keeps_macEnergyWindow _ _ hk
  | .poweredHours => keeps_poweredHours hk
  | .perstAssert => keeps_perstAssert hk
  | .perstRelease => keeps_perstRelease hk
  | .bootStageComplete => keeps_bootStageComplete hk
  | .bootTimeout _ => .need (keeps_bootTimeout _ hk)
  | .fwBegin _ => .need (keeps_fwBegin _ hk)
  | .fwEraseComplete => keeps_fwEraseComplete hk
  | .fwUnitProgrammed => keeps_fwUnitProgrammed hk
  | .fwChunkWrite _ _ => .need (keeps_fwChunkWrite _ _ hk)
  | .fwVerify _ => .need (keeps_fwVerify _ hk)
  | .fwAbort _ => .need (keeps_fwAbort _ hk)
  | .fwConfirm _ => .need (keeps_fwConfirm _ hk)
  | .fwSwitch _ => .need (keeps_fwSwitch _ hk)
  | .attCmd _ => .need (keeps_attCmd _ hk)
  | .evidenceReady _ => .need (keeps_evidenceReady _ hk)
  | .selftest _ => .need (keeps_selftest _ hk)
  | .selftestComplete _ _ => .need (keeps_selftestComplete _ _ hk)
  | .probeEnable _ => .need (keeps_probeEnable _ hk)
  | .probeDisable _ => .need (keeps_probeDisable _ hk)
  | .pcieHotReset => keeps_pcieHotReset hk
  | .d3hotEntry => keeps_d3hotEntry hk
  | .d3hotExit => keeps_d3hotExit hk
  | .msixUnmask _ => .need (keeps_msixUnmask _ hk)
  | .completionTimeout _ => keeps_completionTimeout _ hk
  | .refclkReturn => keeps_refclkReturn hk
  | .portLinkUp => keeps_portLinkUp hk
  | .portLinkDown => keeps_portLinkDown hk

/-- A step keeps it of the state without the command at the front of its queue (R334). -/
theorem keeps_step {s t : State} (h : step s = .next t) : Keeps { s with pending := s.pending.tail } t := by
  have hstep : KeepsOutcome { s with pending := s.pending.tail } (step s) := by
    unfold step
    split
    · next hp =>
      have hs : { s with pending := s.pending.tail } = s := by rw [hp, List.tail_nil, ← hp]
      rw [hs]
      exact keeps_State_tick (Keeps.refl s)
    · next c q hp =>
      rw [hp, List.tail_cons]
      exact keepsOutcome_exec c (Keeps.refl _)
  rw [h] at hstep
  exact hstep

/-- Settles O6: what every operation keeps holds of a step, counted from the state whose queue has lost its front. -/
theorem stepKeepsQueueOrderAndOutputs : Obligations.StepKeepsQueueOrderAndOutputs := by
  intro s t h
  have hk := keeps_step h
  exact ⟨hk.pending, hk.out, hk.nextId, hk.free⟩

end Sys2Proof.Machine

/-!
PROOF. The shells: what an acquisition leaves, dispatch without a queue entry, NOP, SETTLE, END, STEPMARK and the step
that its marks name.
-/

namespace Sys2Proof.Machine

/-! ### Dispatch (R28) -/

/-- A command whose own check stops it leaves the state that the check answers. -/
theorem State.dispatchNow_stop {s t : State} {sh : Shell} {op : Nat} {h : Head} {check : Head → Except State State}
    (hr : s.readyHead sh op (fun _ => .none) = some h) (hc : check h = .error t) : s.dispatchNow sh op check = t := by
  simp [State.dispatchNow, hr, hc]

theorem State.dispatch_stop {s t : State} {sh : Shell} {op : Nat} {q : Head → QueueId} {h : Head}
    {check : Head → Except State (Flight × State)} (hr : s.readyHead sh op q = some h) (hc : check h = .error t) :
    s.dispatch sh op q check = t := by
  simp [State.dispatch, hr, hc]

/-! ### The acquisition (R31, R36) -/

section
variable (s : State) (h : Head)

/-- N tokens of counter C are taken, and of no other counter (R31). -/
theorem State.acquire_acq (k : Nat) :
    Tab.get 0 (s.acquire h).acq k = Tab.get 0 s.acq k
      + if k = ckey h.ctx h.owner (fld h.w 119 112) then BitVec.ofNat 16 (fld h.w 111 104) else 0 := by
  rw [show (s.acquire h).acq = Tab.put 0 s.acq _ _ from rfl, Tab.get_put]
  split
  · next hk => rw [hk]
  · rw [add_zero]

/-- The credits are taken of their counter, and of no other (R36). -/
theorem State.acquire_cred (k : Nat) :
    Tab.get 0 (s.acquire h).cred k = Tab.get 0 s.cred k
      - if k = ckey h.ctx h.owner (fld h.w 103 98) then BitVec.ofNat 16 (fld h.w 97 92) else 0 := by
  rw [show (s.acquire h).cred = Tab.put 0 s.cred _ _ from rfl, Tab.get_put]
  split
  · next hk => rw [hk]
  · rw [sub_zero]

/-- The stream stands behind the command's words (R24). -/
theorem State.acquire_pos :
    ((s.acquire h).stream h.ctx h.owner).pos = (s.stream h.ctx h.owner).pos + h.words.length :=
  congrArg Stream.pos (State.stream_updStream_same _ h.ctx h.owner _)

end

/-! ### NOP, SETTLE, END -/

/-- Settles O7: each of the three dispatches at once, SETTLE where its stream is idle; the acquisition takes exactly the
command's tokens and credits. -/
theorem shellControlDispatches : Obligations.ShellControlDispatches := by
  refine ⟨?nop, ?settle, ?endStream, ?acquisition⟩
  case nop =>
    intro s sh h hw hr
    exact (need_ok hw _).trans (congrArg _ (State.dispatchNow_ok hr rfl))
  case settle =>
    intro s sh h hw hr
    refine (need_ok hw _).trans (congrArg _ ?_)
    split
    · next hi => exact State.dispatchNow_ok hr (if_pos hi)
    · next hi => exact State.dispatchNow_stop hr (if_neg hi)
  case endStream =>
    intro s sh h hw hr
    exact (need_ok hw _).trans (congrArg _ (State.dispatchNow_ok hr rfl))
  case acquisition =>
    intro s h
    refine ⟨?_, ?_, s.acquire_pos h, rfl, rfl, rfl, fun k hk => ?_, fun k hk => ?_⟩
    · rw [State.acquire_acq, if_pos rfl]
    · rw [State.acquire_cred, if_pos rfl]
    · rw [State.acquire_acq, if_neg hk, add_zero]
    · rw [State.acquire_cred, if_neg hk, sub_zero]

/-! ### STEPMARK and the current step (R27) -/

/-- A stream's mark is among the marks of its context. -/
theorem State.mem_marks {s : State} {ctx owner m : Nat} (ho : owner < 256)
    (h : (s.stream ctx owner).mark = some m) : m ∈ s.marks ctx := by
  have hne : s.stream ctx owner ≠ {} := fun he => by simp [he] at h
  have hmem : (skey ctx owner, s.stream ctx owner) ∈ s.streams := Tab.get_mem hne
  have hk : skey ctx owner / 256 = ctx := by unfold skey; omega
  exact List.mem_filterMap.2 ⟨_, hmem, by simp [hk, h]⟩

/-- The current step is the least of the marks, where there are any. -/
theorem State.curStep_eq_min (s : State) (ctx : Nat) : s.curStep ctx = (s.marks ctx).min? := by
  unfold State.curStep
  cases s.marks ctx <;> rfl

/-- Settles O8: the step order decides between the mark and STEP_ORDER, and the current step is a least mark. -/
theorem stepmarkKeepsStepOrder : Obligations.StepmarkKeepsStepOrder := by
  refine ⟨?marks, ?order, ?none, ?least, ?some, fun s ctx owner m => State.mem_marks⟩
  case marks =>
    intro s t sh h hw hr hs horder hp
    refine (need_ok hw _).trans (congrArg _ (State.dispatchNow_ok hr ?_))
    rcases horder with hm | ⟨m, hm, hn⟩
    · simp [hs, hm, hp]
    · simp [hs, hm, hn ▸ hp, hn]
  case order =>
    intro s sh h m hw hr hs hm hn
    refine (need_ok hw _).trans (congrArg _ (State.dispatchNow_stop hr ?_))
    simp [hs, hm, hn, State.holdHead, State.holdShell]
  case none =>
    intro s ctx hms
    rw [State.curStep_eq_min, hms, List.min?_nil]
  case least =>
    intro s ctx n hn
    exact List.min?_eq_some_iff.1 (s.curStep_eq_min ctx ▸ hn)
  case some =>
    intro s ctx m hm
    exact Option.isSome_iff_exists.1 (s.curStep_eq_min ctx ▸ List.isSome_min?_of_mem hm)

end Sys2Proof.Machine

/-!
PROOF. Dispatch of engine and Limber commands: the scoreboard's answers, what a claim leaves of a core's tiles, and the
commands that go through each.
-/

namespace Sys2Proof.Machine

/-! ### The scoreboard (R82, R83) -/

section
variable {s : State} {h : Head}

theorem State.scoreboard_of_pass
    (ha : admission (tileUse h.w) (s.tile h.core (s.cmdTile h.core h.w)) h.ctx = .pass) :
    s.scoreboard h = .ok () := by
  simp only [State.scoreboard, ha]

/-- Another context's tile holds the context with TILE_FOREIGN. -/
theorem State.scoreboard_of_foreign
    (ha : admission (tileUse h.w) (s.tile h.core (s.cmdTile h.core h.w)) h.ctx = .foreign) :
    s.scoreboard h = .error (s.holdHead h 0x5006 ((4 * h.core + s.cmdEng h.core h.w) * 8 + fld h.w 75 73)) := by
  simp only [State.scoreboard, ha]

/-- A tile in a wrong state holds the context with TILE_STATE. -/
theorem State.scoreboard_of_refuse
    (ha : admission (tileUse h.w) (s.tile h.core (s.cmdTile h.core h.w)) h.ctx = .refuse) :
    s.scoreboard h = .error (s.holdHead h 0x5007 ((4 * h.core + s.cmdEng h.core h.w) * 8 + fld h.w 75 73)) := by
  simp only [State.scoreboard, ha]

/-- A wait is counted once in SB_WAITS (R83). -/
theorem State.scoreboard_of_wait
    (ha : admission (tileUse h.w) (s.tile h.core (s.cmdTile h.core h.w)) h.ctx = .wait) :
    s.scoreboard h = .error (if (s.stream h.ctx h.owner).sbWait then s else
      (s.addObj (okey (0x9000 + (4 * h.core + s.cmdEng h.core h.w)) 4) 32 1).updStream h.ctx h.owner
        (fun x => { x with sbWait := true })) := by
  simp only [State.scoreboard, ha]
  split <;> rfl

/-! ### Dispatch through the scoreboard -/

/-- What the scoreboard answers on the head ends the dispatch where it stops the head. -/
theorem State.dispatchEngine_stop {t : State} {sh : Shell} {op : Nat} (sampled : Bool) (hh : s.head sh = some h)
    (hop : fld h.w 127 120 = op) (hb : s.barred h = false) (hs : s.scoreboard h = .error t) :
    s.dispatchEngine sh op sampled = t := by
  simp [State.dispatchEngine, hh, hop, hb, hs]

/-- A ready head that the scoreboard lets pass claims its tile and enters its engine's queue. -/
theorem State.dispatchEngine_pass {sh : Shell} {op : Nat} (sampled : Bool)
    (hr : s.readyHead sh op (fun h => .engine (s.cmdEng h.core h.w)) = some h) (hs : s.scoreboard h = .ok ()) :
    s.dispatchEngine sh op sampled = ((((s.claimTile h sampled).acquire h).launch
      { h.flight (.engine (s.cmdEng h.core h.w)) with pos := (s.stream h.ctx h.owner).pos }).restCheck h.ctx) := by
  obtain ⟨hh, hop, hb⟩ := State.readyHead_head hr
  simp only [State.dispatchEngine, hh, hop, hb, hs, ne_eq, not_true_eq_false, decide_false, Bool.or_self,
    Bool.false_eq_true, if_false]
  exact State.dispatch_ok hr rfl

end

/-! ### The claim of a tile (R82) -/

section
variable (s : State) (n pos tile ctx : Nat) (w : W128)

/-- An opening without a sample writes the tile alone. -/
theorem State.openTile_unsampled : s.openTile n pos tile ctx w false =
    s.updTile n (tileKey pos tile) (fun _ => { st := .opened, owner := ctx }) := by
  simp [State.openTile]

/-- An opening writes the tile, in a state with the same cores: a sample changes captures and counters (R299, R300). -/
theorem State.openTile_eq_updTile (sampled : Bool) : ∃ (t : State) (f : Tile → Tile),
    s.openTile n pos tile ctx w sampled = t.updTile n (tileKey pos tile) f ∧ t.cores = s.cores := by
  unfold State.openTile
  dsimp only
  split
  · split
    · exact ⟨_, _, rfl, rfl⟩
    · exact ⟨_, _, rfl, rfl⟩
  · exact ⟨_, _, rfl, rfl⟩

end

section
variable (s : State) (h : Head)

/-- A claim leaves every other tile of the core alone. -/
theorem State.tile_claimTile_other (sampled : Bool) {k : Nat} (hk : k ≠ s.cmdTile h.core h.w) :
    (s.claimTile h sampled).tile h.core k = s.tile h.core k := by
  unfold State.claimTile
  split
  · obtain ⟨t, f, ht, hc⟩ := s.openTile_eq_updTile h.core (s.cmdEng h.core h.w) (fld h.w 75 73) h.ctx h.w sampled
    rw [ht]
    exact (State.tile_updTile_other t f hk).trans (State.tile_congr hc _ _)
  · exact State.tile_updTile_other s _ hk
  · rfl

end

/-! ### The commands -/

/-- Each engine command dispatches through the scoreboard. -/
theorem exec_engineRow {sh : Shell} (s : State) (b : Bool) (hw : sh.wf = true) :
    ∀ r ∈ Claims.engineRows sh b, exec r.1 s = .next (s.dispatchEngine sh r.2.1 r.2.2) := by
  intro r hr
  unfold Claims.engineRows at hr
  fin_cases hr <;> exact need_ok hw _

/-- Settles O11: each engine command is a dispatch through the scoreboard, whose answer decides. -/
theorem engineCommandsDispatch : Obligations.EngineCommandsDispatch := by
  refine ⟨?pass, ?opening, ?releasing, fun s h b k => s.tile_claimTile_other h b, ?stop⟩
  case pass =>
    intro s sh b h hw r hmem hr ha
    rw [exec_engineRow s b hw r hmem, State.dispatchEngine_pass r.2.2 hr (State.scoreboard_of_pass ha)]
  case opening =>
    intro s h hu
    rw [State.claimTile, hu]
    exact (congrArg (State.tile · h.core _) (s.openTile_unsampled ..)).trans (State.tile_updTile_same s _ _ _)
  case releasing =>
    intro s h hu
    rw [State.claimTile, hu]
    exact State.tile_updTile_same s _ _ _
  case stop =>
    intro s sh b h hw r hmem hh hop hb n
    rw [exec_engineRow s b hw r hmem]
    refine ⟨fun ha => ?_, fun ha => ?_, fun ha => ?_⟩
    · rw [State.dispatchEngine_stop r.2.2 hh hop hb (State.scoreboard_of_foreign ha)]
      rfl
    · rw [State.dispatchEngine_stop r.2.2 hh hop hb (State.scoreboard_of_refuse ha)]
      rfl
    · rw [State.dispatchEngine_stop r.2.2 hh hop hb (State.scoreboard_of_wait ha)]

/-- Each Limber command dispatches into its core's Limber queue. -/
theorem exec_limberRow {sh : Shell} (s : State) (hw : sh.wf = true) :
    ∀ r ∈ Claims.limberRows (.dispatch sh), exec r.1 s = .next (s.dispatchLimber sh r.2) := by
  intro r hr
  unfold Claims.limberRows at hr
  fin_cases hr <;> exact need_ok hw _

/-- Settles O15: a Limber command has no check of its own. -/
theorem limberCommandsDispatch : Obligations.LimberCommandsDispatch := by
  intro s sh h hw r hmem hr
  rw [exec_limberRow s hw r hmem]
  exact congrArg _ (State.dispatch_ok hr rfl)

end Sys2Proof.Machine

/-!
PROOF. Completion and posts: what a completed command leaves, the post that it issues, and the arrival of posts at their
counters.
-/

namespace Sys2Proof.Machine

/-! ### Completion (R30) -/

/-- Releasing copies changes the descriptors alone (R117). -/
theorem State.releaseCopies_frame (s : State) (ctx : Nat) (ds : List DescCopy) :
    ∃ d, s.releaseCopies ctx ds = { s with descs := d } := by
  unfold State.releaseCopies
  refine List.foldlRecOn (motive := fun (t : State) => ∃ d, t = { s with descs := d }) ds _ ⟨s.descs, rfl⟩ ?_
  rintro _ ⟨d, rfl⟩ x _
  split <;> exact ⟨_, rfl⟩

@[simp] theorem State.releaseCopies_flights (s : State) (ctx : Nat) (ds : List DescCopy) :
    (s.releaseCopies ctx ds).flights = s.flights := by
  obtain ⟨d, h⟩ := s.releaseCopies_frame ctx ds
  rw [h]

@[simp] theorem State.issuePost_flights (s : State) (ctx owner : Nat) (w : W128) :
    (s.issuePost ctx owner w).flights = s.flights := by
  obtain ⟨k, r, b, f, x, g, q, p, h⟩ := s.issuePost_frame ctx owner w
  rw [h]

@[simp] theorem State.freeEnded_flights (s : State) (ctx owner : Nat) :
    (s.freeEnded ctx owner).flights = s.flights := by
  obtain ⟨b, k, x, h⟩ := s.freeEnded_frame ctx owner
  rw [h]

theorem State.flight_congr {s t : State} (h : s.flights = t.flights) (id : Nat) : s.flight id = t.flight id := by
  simp only [State.flight, h]

/-! ### The post of a completed command (R24, R38) -/

section
variable (s : State) (ctx owner : Nat) (w : W128)

theorem State.issuePost_none (h : fld w 91 90 = 0) : s.issuePost ctx owner w = s := by
  simp only [State.issuePost, h]

/-- The shell's work shows in the progress counts alone (R311). -/
theorem State.shellWork_eq : s.shellWork ctx owner = { s with work := (s.shellWork ctx owner).work } := by
  obtain ⟨k, h⟩ := s.shellWork_frame ctx owner
  rw [h]

/-- Tokens for a counter of the stream's own. -/
theorem State.issuePost_local (h : fld w 91 90 = 1) : s.issuePost ctx owner w = { s with
    work := (s.shellWork ctx owner).work
    posts := s.posts ++ [{ ctx := ctx, producer := owner, target := owner, counter := fld w 89 82
                           amount := fld w 81 78, credit := false }] } := by
  simp only [State.issuePost, h]
  rw [State.shellWork_eq]

/-- A post through a route entry that names nothing is reported and holds the context (R38). -/
theorem State.issuePost_unnamed (h : 2 ≤ fld w 91 90)
    (he : routeNames (s.ctx ctx).image (imgRoute (s.ctx ctx).image owner (fld w 89 82 % 64)) = false) :
    s.issuePost ctx owner w = s.holdShell 0x5004 (s.unitOf ctx owner) ctx 0 := by
  obtain ⟨k, hk⟩ := Nat.exists_eq_add_of_le' h
  simp only [State.issuePost, hk, he, Bool.not_false, if_true]

/-- A post through a route entry goes to each owner that the entry reaches. -/
theorem State.issuePost_routed (h : 2 ≤ fld w 91 90)
    (he : routeNames (s.ctx ctx).image (imgRoute (s.ctx ctx).image owner (fld w 89 82 % 64)) = true) :
    s.issuePost ctx owner w = { s with
      work := (s.shellWork ctx owner).work
      posts := s.posts ++ (s.routeTargets ctx (imgRoute (s.ctx ctx).image owner (fld w 89 82 % 64))).map (fun t =>
        { ctx := ctx, producer := owner, target := t
          counter := bits (imgRoute (s.ctx ctx).image owner (fld w 89 82 % 64)) 17 10, amount := fld w 81 78
          credit := fld w 91 90 = 3 }) } := by
  obtain ⟨k, hk⟩ := Nat.exists_eq_add_of_le' h
  simp only [State.issuePost, hk, he, Bool.not_true, Bool.false_eq_true, if_false]
  rw [State.shellWork_eq]

end

/-! ### Arrival (R32 to R37) -/

/-- A post is taken at its counter: its context is loaded and not broken, its owner not in scope of a reset (R322, R324).
-/
structure State.Takes (s : State) (p : Post) : Prop where
  loaded : s.loaded p.ctx = true
  unbroken : (s.ctx p.ctx).broken = false
  up : s.ownerDown p.ctx p.target = false

section
variable {s : State} {p : Post}

/-- A bound post adds its tokens, and more than 32,767 of them hold the context (R33, R35). -/
theorem State.applyToken_bound (ht : s.Takes p)
    (hb : (imgBindsOf (s.ctx p.ctx).image p.target p.counter false).any (fun b => b.names p.producer) = true) :
    s.applyToken p =
      let k := ckey p.ctx p.target p.counter
      let a : State := { s with tok := Tab.put 0 s.tok k (Tab.get 0 s.tok k + BitVec.ofNat 16 p.amount) }
      if a.avail p.ctx p.target p.counter ≤ 32767 then a
      else a.holdShell 0x5003 (s.unitOf p.ctx p.target) p.ctx 0 := by
  obtain ⟨h1, h2, h3⟩ := ht
  simp only [State.applyToken, h1, h2, h3, hb, Bool.not_true, Bool.or_self, Bool.false_eq_true, if_false, if_true,
    gt_iff_lt, ← not_le, ite_not]

/-- A post that its counter does not bind holds the context (R37). -/
theorem State.applyToken_unbound (ht : s.Takes p)
    (hb : (imgBindsOf (s.ctx p.ctx).image p.target p.counter false).any (fun b => b.names p.producer) = false) :
    s.applyToken p = s.holdShell 0x5004 (s.unitOf p.ctx p.target) p.ctx 0 := by
  obtain ⟨h1, h2, h3⟩ := ht
  simp only [State.applyToken, h1, h2, h3, hb, Bool.not_true, Bool.or_self, Bool.false_eq_true, if_false]

/-- A bound credit return adds its credits up to the bound capacity, above which the context is held (R36, R37). -/
theorem State.applyCredit_bound {b : BindEntry} (ht : s.Takes p)
    (hb : ((imgBindsOf (s.ctx p.ctx).image p.target p.counter true).filter (fun b => b.names p.producer)).head?
      = some b) :
    s.applyCredit p =
      let k := ckey p.ctx p.target p.counter
      if (Tab.get 0 s.cred k).toNat + p.amount ≤ b.capacity then
        { s with cred := Tab.put 0 s.cred k (BitVec.ofNat 16 ((Tab.get 0 s.cred k).toNat + p.amount)) }
      else s.holdShell 0x5005 (s.unitOf p.ctx p.target) p.ctx 0 := by
  obtain ⟨h1, h2, h3⟩ := ht
  obtain ⟨bs, hbs⟩ := List.head?_eq_some_iff.1 hb
  simp only [State.applyCredit, h1, h2, h3, hbs, Bool.not_true, Bool.or_self, Bool.false_eq_true, if_false,
    gt_iff_lt, ← not_le, ite_not]

end

section
variable {s : State} {i : Nat} {p : Post}

/-- A token post that may arrive leaves the posts and reaches its counter, and what waits there looks at it (R32). -/
theorem tokenArrival_of_ready (hp : s.posts[i]? = some p) (hr : postReady s.posts i = true) (hc : p.credit = false)
    (hd : s.dieRuns = true) :
    tokenArrival s i = State.wake (({ s with posts := s.posts.eraseIdx i } : State).applyToken p) p := by
  simp only [tokenArrival, State.arrives, postArrival, hp, hr, hc, hd, decide_true, Bool.and_self, Bool.not_false,
    if_true]

/-- A credit return that may arrive leaves the posts and reaches its counter (R36). -/
theorem creditArrival_of_ready (hp : s.posts[i]? = some p) (hr : postReady s.posts i = true) (hc : p.credit = true)
    (hd : s.dieRuns = true) :
    creditArrival s i = State.wake (({ s with posts := s.posts.eraseIdx i } : State).applyCredit p) p := by
  simp only [creditArrival, State.arrives, creditReturn, hp, hr, hc, hd, decide_true, Bool.and_self, if_true]

end

/-! ### The statement -/

/-- Settles O10: completion issues one of the posts of R24, and an arrival is the change that its counter's binding
allows. -/
theorem postsReachCounters : Obligations.PostsReachCounters := by
  refine ⟨?complete, ?gone, fun s c o w => s.issuePost_none c o w, fun s c o w => s.issuePost_local c o w, ?route,
    ?stay, ?token, ?credit⟩
  case complete =>
    intro s id f hf hdone hplain hin hrun hup
    refine congrArg Host.Outcome.next ?_
    simp only [commandComplete, hf, hdone, hplain, hin, hrun, hup, decide_true, Bool.not_false, Bool.and_self, if_true,
      Bool.and_eq_true, decide_eq_true_eq]
    exact apply_ite (State.complete · f) _ _ _
  case gone =>
    intro s f
    rw [State.flight_congr (t := s.dropFlight f.id) (by simp), State.flight_dropFlight]
  case route =>
    intro s c o w h e
    exact ⟨s.issuePost_unnamed c o w h, s.issuePost_routed c o w h⟩
  case stay =>
    intro s id f hf h
    refine congrArg Host.Outcome.next ?_
    simp only [commandComplete, hf]
    rw [if_neg]
    rcases h with h | h | h <;> simp [h]
  case token =>
    intro s i p hp hr hc hrun hl hbr hup
    refine congrArg Host.Outcome.next ((tokenArrival_of_ready hp hr hc hrun).trans (congrArg (State.wake · p) ?_))
    have ht : ({ s with posts := s.posts.eraseIdx i } : State).Takes p := ⟨hl, hbr, hup⟩
    split
    · next hb => exact State.applyToken_bound ht hb
    · next hb => exact State.applyToken_unbound ht (Bool.eq_false_iff.2 hb)
  case credit =>
    intro s i p b hp hr hc hrun hl hbr hup hb
    refine congrArg Host.Outcome.next ((creditArrival_of_ready hp hr hc hrun).trans (congrArg (State.wake · p) ?_))
    exact State.applyCredit_bound ⟨hl, hbr, hup⟩ hb

end Sys2Proof.Machine

/-!
PROOF. Collective steps: what the opening of a step leaves, dispatch of the steps that carry data, the gate of COMMIT.
-/

namespace Sys2Proof.Machine

/-! ### Grants (R203) -/

/-- A state that differs from another in links alone, and in no link outside a list. -/
def State.OnlyLinks (ps : List Nat) (s t : State) : Prop :=
  t = { s with links := t.links } ∧ ∀ n, n ∉ ps → t.link n = s.link n

theorem State.OnlyLinks.refl (ps : List Nat) (s : State) : s.OnlyLinks ps s := ⟨rfl, fun _ _ => rfl⟩

theorem State.OnlyLinks.trans {ps : List Nat} {s t u : State} (h : s.OnlyLinks ps t) (h' : t.OnlyLinks ps u) :
    s.OnlyLinks ps u := by
  obtain ⟨ht, hl⟩ := h
  obtain ⟨hu, hl'⟩ := h'
  refine ⟨?_, fun n hn => (hl' n hn).trans (hl n hn)⟩
  rw [hu, ht]

theorem State.link_updLink_other (s : State) {n m : Nat} (f : Link → Link) (h : m ≠ n) :
    (s.updLink n f).link m = s.link m := by
  simp [State.link, State.updLink, Tab.get_update_other _ _ _ h]

/-- A control frame joins the queue of its link. -/
theorem State.sendCtl_onlyLinks (s : State) {ps : List Nat} {n : Nat} (hn : n ∈ ps) (f : Frame) (id : Option Nat) :
    s.OnlyLinks ps (s.sendCtl n f id) :=
  ⟨rfl, fun _ hm => s.link_updLink_other _ (ne_of_mem_of_not_mem hn hm).symm⟩

/-- The first grants of a sender go out on the planes of the step. -/
theorem State.grantFirst_onlyLinks (s : State) (ctx id : Nat) (b : CollBody) (c : Nat) (g : List Nat) (pos : Nat) :
    s.OnlyLinks (b.planeList c) (s.grantFirst ctx id b c g pos) :=
  List.foldlRecOn (motive := s.OnlyLinks (b.planeList c)) _ _ (.refl _ s)
    (fun t ht _ hp => ht.trans (t.sendCtl_onlyLinks hp _ _))

/-! ### The opening of a step (R202) -/

/-- A step as it opens: the wire format and scale of the step, and the grants that have come before it. -/
def State.newColl (s : State) (h : Head) (b : CollBody) : CollStep :=
  { id := s.nextId, ctx := h.ctx, yarder := h.unit - 0x88, fmt := (s.wireChoice h.ctx b).1
    tsc := (s.wireChoice h.ctx b).2
    grant := s.earlyGrants h.ctx b.coll (h.unit - 0x88) ((imgGroup (s.ctx h.ctx).image b.group).getD []) }

/-- The state in which a step is listed and the grants before it are its own. -/
def State.listColl (s : State) (h : Head) (b : CollBody) : State :=
  ({ s with colls := s.colls ++ [s.newColl h b] } : State).updCtx h.ctx (fun y =>
    { y with early := y.early.filter (fun e => !earlyMine b.coll (h.unit - 0x88) e) })

/-- A step that opens is listed, and its senders are granted their first frames. -/
theorem State.openColl_onlyLinks (s : State) (h : Head) (b : CollBody) :
    (s.listColl h b).OnlyLinks (b.planeList (h.unit - 0x88)) (s.openColl h b) :=
  List.foldlRecOn (motive := (s.listColl h b).OnlyLinks (b.planeList (h.unit - 0x88))) _ _ (.refl _ _)
    (fun t ht _ _ => ht.trans (t.grantFirst_onlyLinks _ _ b _ _ _))

theorem State.openColl_ctx (s : State) (h : Head) (b : CollBody) (i : Nat) :
    (s.openColl h b).ctx i = (s.listColl h b).ctx i := by
  rw [(s.openColl_onlyLinks h b).1]
  rfl

/-! ### The gate of COMMIT (R241) -/

theorem State.commitGate_iff (s : State) (ctx n : Nat) : s.commitGate ctx n = true ↔
    s.committed ctx + 1 = n ∧ (∀ q, q < 4 → s.stepCtr q ctx + 1 = n)
      ∧ (∀ e ∈ s.ownGrans ctx, e.2.1.appliedStep e.2.2.1 = n) ∧ s.obj (okey (0x32C0 + ctx) 8) = 0
      ∧ s.obj (okey (intIdx ctx) 1) = 0 := by
  simp [State.commitGate, and_assoc]

/-! ### The statement -/

/-- Each step that carries data dispatches as its opcode. -/
theorem exec_collRow {sh : Shell} (s : State) (hw : sh.wf = true) :
    ∀ r ∈ Claims.collRows (.dispatch sh), exec r.1 s = .next (s.dispatchColl sh r.2) := by
  intro r hr
  unfold Claims.collRows at hr
  fin_cases hr <;> exact need_ok hw _

/-- COMMIT dispatches through its checks. -/
theorem exec_commitStep_dispatch {sh : Shell} (s : State) (hw : sh.wf = true) :
    exec (.commitStep (.dispatch sh)) s = .next (s.dispatchCommit sh) := need_ok hw _

/-- Settles O36: what bars a step decides whether it is held or opens, and COMMIT passes its checks in their order. -/
theorem collectiveStepsDispatchAndOpen : Obligations.CollectiveStepsDispatchAndOpen := by
  refine ⟨?dispatch, ?opening, ?commit⟩
  case dispatch =>
    intro s sh h hw r hmem hr b
    rw [exec_collRow s hw r hmem]
    refine ⟨fun e he => congrArg _ (State.dispatch_stop hr ?_), fun he => congrArg _ (State.dispatch_ok hr ?_)⟩
    · simp only [b, he]
      rfl
    · simp only [b, he]
  case opening =>
    intro s h b t w c g
    obtain ⟨ht, hl⟩ := s.openColl_onlyLinks h b
    refine ⟨?_, ?_, ?_, fun i hi => ?_, hl⟩
    · rw [show t = _ from ht]; rfl
    · exact (congrArg State.colls ht).trans rfl
    · exact (s.openColl_ctx h b h.ctx).trans (State.ctx_updCtx_same _ h.ctx _)
    · exact (s.openColl_ctx h b i).trans (State.ctx_updCtx_other _ _ hi)
  case commit =>
    intro s sh h hw hr b n g gate early
    rw [exec_commitStep_dispatch s hw]
    have hgate : s.commitGate h.ctx n = true ↔ gate := s.commitGate_iff h.ctx n
    have hin : (∀ m ∈ s.validMembers h.ctx, m.1 ∈ g) → (s.validMembers h.ctx).all (fun m => g.contains m.1) = true := by
      simp
    refine ⟨fun e he => ?faulty, fun he hm => ?memberOut, fun he hm => ⟨fun hc => ?pending, fun hc hng => ?shut,
      fun hc hg => ?opens⟩⟩
    case faulty =>
      refine congrArg _ (State.dispatch_stop hr ?_)
      simp only [b, he]
      rfl
    case memberOut =>
      have hout : (s.validMembers h.ctx).all (fun m => g.contains m.1) = false := by simpa using hm
      refine congrArg _ (State.dispatch_stop hr ?_)
      simp only [b, he]
      exact if_pos (congrArg not hout)
    case pending =>
      refine congrArg _ (State.dispatch_stop hr ?_)
      simp only [b, he, g, hin hm, Bool.not_true, Bool.false_eq_true, if_false]
      exact if_pos hc
    case shut =>
      have hclosed : s.commitGate h.ctx n = false := Bool.eq_false_iff.2 (mt hgate.1 hng)
      refine congrArg _ (State.dispatch_stop hr ?_)
      simp only [b, he, g, hin hm, Bool.not_true, Bool.false_eq_true, if_false]
      exact (if_neg (not_not_intro hc)).trans (if_pos (congrArg not hclosed))
    case opens =>
      have hopen : s.commitGate h.ctx n = true := hgate.2 hg
      refine congrArg _ (State.dispatch_ok hr ?_)
      simp only [b, he, g, hin hm, Bool.not_true, Bool.false_eq_true, if_false]
      exact (if_neg (not_not_intro hc)).trans (if_neg (Bool.eq_false_iff.1 (congrArg not hopen)))

end Sys2Proof.Machine

/-!
PROOF. Plans: what the stages of loading and unloading leave, LOAD with its reasons, UNLOAD and its completion.
-/

namespace Sys2Proof.Tab

/-- A read of a table from which keys were removed. -/
theorem get_filter_key {α : Type} (d : α) (t : Tab α) (p : Nat → Bool) (k : Nat) :
    get d (t.filter (fun e => p e.1)) k = if p k then get d t k else d := by
  induction t with
  | nil => simp [get]
  | cons e t ih =>
    obtain ⟨a, v⟩ := e
    by_cases hk : a = k
    · subst hk
      cases hp : p a <;> simp [get, hp, ih]
    · cases hp : p a <;> simp [get, hp, hk, ih]

end Sys2Proof.Tab

namespace Sys2Proof.Machine

/-! ### What the stages leave -/

/-- What a state says of plans under way: contexts, cores, streams, tokens, descriptors, commands, posts, captures,
segment channels. -/
structure Tasks where
  ctxs : Tab Ctx
  cores : Tab Core
  streams : Tab Stream
  tok : Tab Ctr
  acq : Tab Ctr
  descs : Tab DescEntry
  flights : List Flight
  posts : List Post
  captures : List Capture
  segs : Tab Seg

def State.tasks (s : State) : Tasks :=
  { ctxs := s.ctxs, cores := s.cores, streams := s.streams, tok := s.tok, acq := s.acq, descs := s.descs
    flights := s.flights, posts := s.posts, captures := s.captures, segs := s.segs }

@[simp] theorem State.tasks_ctxs (s : State) : s.tasks.ctxs = s.ctxs := rfl
@[simp] theorem State.tasks_cores (s : State) : s.tasks.cores = s.cores := rfl
@[simp] theorem State.tasks_streams (s : State) : s.tasks.streams = s.streams := rfl
@[simp] theorem State.tasks_tok (s : State) : s.tasks.tok = s.tok := rfl
@[simp] theorem State.tasks_acq (s : State) : s.tasks.acq = s.acq := rfl
@[simp] theorem State.tasks_descs (s : State) : s.tasks.descs = s.descs := rfl
@[simp] theorem State.tasks_flights (s : State) : s.tasks.flights = s.flights := rfl
@[simp] theorem State.tasks_posts (s : State) : s.tasks.posts = s.posts := rfl
@[simp] theorem State.tasks_captures (s : State) : s.tasks.captures = s.captures := rfl
@[simp] theorem State.tasks_segs (s : State) : s.tasks.segs = s.segs := rfl

theorem State.ctx_of_tasks {s t : State} (h : t.tasks = s.tasks) (i : Nat) : t.ctx i = s.ctx i :=
  congrArg (fun x : Tasks => Tab.get ({} : Ctx) x.ctxs i) h

/-- What every step of a fold leaves alone, the fold does. -/
theorem State.foldl_unchanged {α γ : Type} (p : State → γ) {f : State → α → State} (h : ∀ t a, p (f t a) = p t)
    (l : List α) (s : State) : p (l.foldl f s) = p s :=
  List.foldlRecOn (motive := fun t : State => p t = p s) l f rfl (fun t ht a _ => (h t a).trans ht)

section
variable (s : State)

@[simp] theorem State.setObj_tasks (k v : Nat) : (s.setObj k v).tasks = s.tasks := rfl

theorem State.updCtx_tasks (i : Nat) (f : Ctx → Ctx) :
    (s.updCtx i f).tasks = { s.tasks with ctxs := (s.updCtx i f).ctxs } := rfl

theorem State.stamp_tasks (i : Nat) : (s.stamp i).tasks = { s.tasks with ctxs := (s.stamp i).ctxs } := rfl

@[simp] theorem State.updServ_tasks (n : Nat) (f : Serving → Serving) : (s.updServ n f).tasks = s.tasks := rfl

@[simp] theorem State.turnOn_tasks (d : Nat) : (s.turnOn d).tasks = s.tasks := by
  unfold State.turnOn
  split <;> rfl

@[simp] theorem State.scalerDiscard_tasks (ctx : Nat) : (s.scalerDiscard ctx).tasks = s.tasks := by
  refine State.foldl_unchanged State.tasks (fun _ _ => ?_) _ _
  rfl

@[simp] theorem State.unpin_tasks (ctx : Nat) : (s.unpin ctx).tasks = s.tasks := by
  unfold State.unpin
  split <;> rfl

@[simp] theorem State.pinSlots_tasks (ls : List Nat) (b : Nat) (f : Nat → Nat) :
    (s.pinSlots ls b f).tasks = s.tasks := by
  refine State.foldl_unchanged State.tasks (fun _ _ => ?_) _ _
  rfl

@[simp] theorem State.dropKv_tasks (ctx q : Nat) : (s.dropKv ctx q).tasks = s.tasks := by
  refine State.foldl_unchanged State.tasks (fun _ _ => ?_) _ _
  rfl

@[simp] theorem State.endServing_tasks (ctx : Nat) : (s.endServing ctx).tasks = s.tasks := by
  unfold State.endServing
  dsimp only
  split
  · rfl
  · rw [State.updServ_tasks, State.setObj_tasks]
    refine (State.foldl_unchanged State.tasks (fun t e => ?_) _ _).trans
      (State.foldl_unchanged State.tasks (fun t b => ?_) _ _)
    · exact t.dropKv_tasks ctx e.1
    · exact t.pinSlots_tasks _ _ _

@[simp] theorem State.beginServing_tasks (ctx record : Nat) : (s.beginServing ctx record).tasks = s.tasks := by
  refine (State.foldl_unchanged State.tasks (fun t k => ?_) _ _).trans rfl
  exact t.setObj_tasks _ _

@[simp] theorem State.showBucking_tasks (ctx : Nat) (m : Mem) : (s.showBucking ctx m).tasks = s.tasks := by
  rw [State.showBucking, State.setObj_tasks]
  refine State.foldl_unchanged State.tasks (fun t k => ?_) _ _
  exact t.setObj_tasks _ _

@[simp] theorem State.installSlots_tasks (ctx : Nat) (m : Mem) : (s.installSlots ctx m).tasks = s.tasks := by
  refine State.foldl_unchanged State.tasks (fun t e => ?_) _ _
  dsimp only
  split <;> rfl

@[simp] theorem State.installStreams_tasks (ctx : Nat) (m : Mem) : (s.installStreams ctx m).tasks = s.tasks := by
  refine State.foldl_unchanged State.tasks (fun _ _ => ?_) _ _
  rfl

@[simp] theorem State.signal_tasks (v : Nat) : (s.signal v).tasks = s.tasks := by
  obtain ⟨o, p, h⟩ := s.signal_frame v
  rw [h]; rfl

@[simp] theorem State.refuse_tasks (code : Nat) (ctx : Option Nat) (detail : Nat) :
    (s.refuse code ctx detail).tasks = s.tasks := by
  obtain ⟨b, f, o, p, h⟩ := s.report_frame code 7 0 ctx detail false false
  rw [State.refuse, h]; rfl

@[simp] theorem State.restCheck_tasks (ctx : Nat) : (s.restCheck ctx).tasks = s.tasks := by
  obtain ⟨b, g, q, p, h⟩ := s.restCheck_frame ctx
  rw [h]; rfl

@[simp] theorem State.countDrain_tasks (ctx : Nat) : (s.countDrain ctx).tasks = s.tasks := by
  obtain ⟨b, h⟩ := s.countDrain_frame ctx
  rw [h]; rfl

@[simp] theorem State.planDone_tasks (ctx : Nat) : (s.planDone ctx).tasks = s.tasks := by
  rw [State.planDone, State.ctxEvent, State.signal_tasks, State.setObj_tasks, State.setObj_tasks]

@[simp] theorem State.planRefused_tasks (ctx reason code : Nat) : (s.planRefused ctx reason code).tasks = s.tasks := by
  rw [State.planRefused, State.ctxEvent, State.signal_tasks, State.refuse_tasks, State.setObj_tasks, State.setObj_tasks]

end

/-! ### PLAN_CMD and PLAN_RESULT (R273, R285) -/

section
variable (s : State) (ctx : Nat)

/-- A report touches the fault and blaze objects alone (R290, R291, R308). -/
theorem State.obj_refuse_other (code : Nat) (c : Option Nat) (detail : Nat) {i j : Nat} (hj : j < 256) (h : i ≠ 0x5000)
    (h' : i ≠ 0x5400) : (s.refuse code c detail).obj (okey i j) = s.obj (okey i j) := by
  obtain ⟨u, r, hu, hobj⟩ := s.reportV_eq_finishReport code 7 0 c detail false false none
  have h4 : okey i j ≠ okey 0x5000 4 := okey_ne hj (by decide) (.inl h)
  have h5 : okey i j ≠ okey 0x5000 5 := okey_ne hj (by decide) (.inl h)
  have h6 : okey i j ≠ okey 0x5000 6 := okey_ne hj (by decide) (.inl h)
  have hb : okey i j ≠ okey 0x5400 5 := okey_ne hj (by decide) (.inl h')
  rw [State.refuse, State.report, hu, State.finishReport, State.faultNotice, State.obj_signal,
    State.obj_setFlag_other _ h5 h6, ← hobj _ h4]
  split
  · exact State.obj_pushBlaze_other _ _ _ hb
  · rfl

theorem ctxIdx_3_ne_4 : okey (ctxIdx ctx) 3 ≠ okey (ctxIdx ctx) 4 := okey_ne (by decide) (by decide) (.inr (by decide))

theorem State.obj_planDone_other {k : Nat} (h3 : k ≠ okey (ctxIdx ctx) 3) (h4 : k ≠ okey (ctxIdx ctx) 4) :
    (s.planDone ctx).obj k = s.obj k := by
  rw [State.planDone, State.ctxEvent, State.obj_signal, State.obj_setObj_other _ _ h3, State.obj_setObj_other _ _ h4]

/-- A command that is done: PLAN_CMD reads 2 and PLAN_RESULT 0. -/
theorem State.obj_planDone :
    (s.planDone ctx).obj (okey (ctxIdx ctx) 3) = 2 ∧ (s.planDone ctx).obj (okey (ctxIdx ctx) 4) = 0 := by
  rw [State.planDone, State.ctxEvent, State.obj_signal, State.obj_signal, State.obj_setObj_same,
    State.obj_setObj_other _ _ (ctxIdx_3_ne_4 ctx).symm, State.obj_setObj_same]
  exact ⟨rfl, rfl⟩

/-- A refused command: PLAN_CMD reads 3 and PLAN_RESULT the reason with the fault code. -/
theorem State.obj_planRefused (reason code : Nat) (hc : ctx < 64) :
    (s.planRefused ctx reason code).obj (okey (ctxIdx ctx) 3) = 3
      ∧ (s.planRefused ctx reason code).obj (okey (ctxIdx ctx) 4) = reason * 2 ^ 28 + code := by
  have h : ctxIdx ctx ≠ 0x5000 := by unfold ctxIdx; omega
  have h' : ctxIdx ctx ≠ 0x5400 := by unfold ctxIdx; omega
  rw [State.planRefused, State.ctxEvent, State.obj_signal, State.obj_signal,
    State.obj_refuse_other _ _ _ _ (by decide) h h',
    State.obj_refuse_other _ _ _ _ (by decide) h h', State.obj_setObj_same,
    State.obj_setObj_other _ _ (ctxIdx_3_ne_4 ctx).symm, State.obj_setObj_same]
  exact ⟨rfl, rfl⟩

end

/-! ### Installing a plan (R23, R273) -/

/-- A context as an accepted image leaves it (R273). -/
def Ctx.planned (c : Ctx) (m : Mem) (len : Nat) : Ctx :=
  { c with st := .waiting, image := m, len := len, nextImage := none, mapped := false, firstWait := true
           preempted := false, overrun := false, sliceDone := false }

/-- The tasks at plan start: no token, no acquired count, every stream at its start (R23). -/
def Tasks.started (x : Tasks) (ctx : Nat) : Tasks :=
  { x with tok := x.tok.filter (fun e => !decide (e.1 / 65536 = ctx))
           acq := x.acq.filter (fun e => !decide (e.1 / 65536 = ctx))
           streams := x.streams.filter (fun e => decide (e.1 / 256 ≠ ctx)) }

section
variable (s : State) (ctx : Nat) (m : Mem)

theorem State.startCounters_tasks : (s.startCounters ctx m).tasks = s.tasks.started ctx := by
  rw [State.startCounters]
  refine (State.foldl_unchanged State.tasks (fun t b => ?_) _ _).trans rfl
  rfl

/-- At plan start every counter of the context reads 0 and every stream stands at its start (R23). -/
theorem Tasks.started_reads (x : Tasks) (ctx : Nat) {o k : Nat} (ho : o < 256) (hk : k < 256) :
    Tab.get 0 (x.started ctx).tok (ckey ctx o k) = 0 ∧ Tab.get 0 (x.started ctx).acq (ckey ctx o k) = 0
      ∧ Tab.get ({} : Stream) (x.started ctx).streams (skey ctx o) = {} := by
  have hc : (!decide (ckey ctx o k / 65536 = ctx)) = false := by
    rw [Bool.not_eq_false', decide_eq_true_iff]; unfold ckey skey; omega
  have hs : decide (skey ctx o / 256 ≠ ctx) = false := by
    rw [decide_eq_false_iff_not, not_not]; unfold skey; omega
  refine ⟨?_, ?_, ?_⟩
  · exact (Tab.get_filter_key 0 x.tok (fun k => !decide (k / 65536 = ctx)) _).trans (if_neg (Bool.eq_false_iff.1 hc))
  · exact (Tab.get_filter_key 0 x.acq (fun k => !decide (k / 65536 = ctx)) _).trans (if_neg (Bool.eq_false_iff.1 hc))
  · exact (Tab.get_filter_key {} x.streams (fun k => decide (k / 256 ≠ ctx)) _).trans (if_neg (Bool.eq_false_iff.1 hs))

/-- Descriptors alone are installed (R115). -/
theorem State.installDescs_frame : ∃ d, s.installDescs ctx m = { s with descs := d } := by
  refine List.foldlRecOn (motive := fun t : State => ∃ d, t = { s with descs := d }) _ _ ⟨s.descs, rfl⟩ ?_
  rintro _ ⟨d, rfl⟩ e _
  exact ⟨_, rfl⟩

/-- What an accepted image fills before its context waits: counters, descriptors, the bucking record, slots, update
streams, the Scaler, the sequencer. -/
def State.fillPlan : State :=
  let t := (((((s.startCounters ctx m).installDescs ctx m).showBucking ctx m).installSlots ctx m).installStreams ctx
    m).scalerDiscard ctx
  if imgServing m then t.beginServing ctx (imgServRec m) else t

/-- The clusters with a program switch on (R356). -/
def State.turnOnFor : State :=
  ((List.range 8).filter (fun c => (imgStream m (0x80 + c)).isSome || (imgStream m (0x88 + c)).isSome)).foldl
    (fun t c => t.turnOn (128 + c)) s

theorem State.install_eq (len : Nat) : s.install ctx m len =
    ((((((s.fillPlan ctx m).updCtx ctx (fun c => c.planned m len)).turnOnFor m).stamp ctx).restCheck ctx).planDone
      ctx) := rfl

theorem State.fillPlan_tasks : ∃ d, (s.fillPlan ctx m).tasks = { s.tasks.started ctx with descs := d } := by
  obtain ⟨d, hd⟩ := (s.startCounters ctx m).installDescs_frame ctx m
  have hfill : (s.fillPlan ctx m).tasks = ((s.startCounters ctx m).installDescs ctx m).tasks := by
    unfold State.fillPlan
    dsimp only
    split <;> simp
  refine ⟨d, ?_⟩
  rw [hfill, hd, ← State.startCounters_tasks s ctx m]
  rfl

theorem State.turnOnFor_tasks : (s.turnOnFor m).tasks = s.tasks :=
  State.foldl_unchanged State.tasks (fun t c => t.turnOn_tasks (128 + c)) _ s

/-- An installed plan waits, at its start (R23, R273). -/
theorem State.install_tasks (len : Nat) : ∃ d x n,
    (s.install ctx m len).tasks = { s.tasks.started ctx with descs := d, ctxs := x }
    ∧ Tab.get ({} : Ctx) x ctx = { (s.ctx ctx).planned m len with since := n } := by
  obtain ⟨d, hd⟩ := s.fillPlan_tasks ctx m
  obtain ⟨u, hu⟩ : ∃ u, u = ((s.fillPlan ctx m).updCtx ctx (fun c => c.planned m len)).turnOnFor m := ⟨_, rfl⟩
  have hctx : u.ctx ctx = (s.ctx ctx).planned m len := by
    have hfill : (s.fillPlan ctx m).ctx ctx = s.ctx ctx := congrArg (fun x : Tasks => Tab.get ({} : Ctx) x.ctxs ctx) hd
    rw [hu, State.ctx_of_tasks (State.turnOnFor_tasks _ m), State.ctx_updCtx_same, hfill]
  refine ⟨d, (u.stamp ctx).ctxs, u.seqNo + 1, ?_, ?_⟩
  · rw [State.install_eq, ← hu, State.planDone_tasks, State.restCheck_tasks, State.stamp_tasks, hu,
      State.turnOnFor_tasks, State.updCtx_tasks, hd]
  · rw [← hctx]
    exact u.ctx_updCtx_same ctx (fun c => { c with since := u.seqNo + 1 })

end

/-! ### Unloading a plan (R282) -/

/-- Cores that their tasks leave become free; the others are as they were. -/
theorem State.core_leaveCores (l : List Nat) (s : State) (n : Nat) :
    ((l.foldl State.leaveCore s).core n).phase = .free ∨ (n ∉ l ∧ (l.foldl State.leaveCore s).core n = s.core n) := by
  induction l generalizing s with
  | nil => exact .inr ⟨by simp, rfl⟩
  | cons a l ih =>
    rcases ih (s.leaveCore a) with h | ⟨hn, h⟩
    · exact .inl h
    · by_cases ha : n = a
      · exact .inl (by rw [List.foldl_cons, h, ha, State.leaveCore, State.core_updCore_same])
      · exact .inr ⟨by simp [ha, hn], h.trans (State.core_updCore_other _ _ ha)⟩

/-- A core that is busy with a context is among the context's cores. -/
theorem State.mem_coresOf {s : State} {ctx n : Nat} (hp : (s.core n).phase ≠ .free) (hc : (s.core n).ctx = ctx) :
    n ∈ s.coresOf ctx := by
  have hne : s.core n ≠ {} := fun he => hp (by rw [he])
  have hmem : (n, s.core n) ∈ s.cores := Tab.get_mem hne
  simp only [State.coresOf, List.mem_map, List.mem_filter]
  exact ⟨_, ⟨hmem, by simp [hp, hc]⟩, rfl⟩

theorem State.leaveCores_frame (l : List Nat) (s : State) :
    ∃ k, l.foldl State.leaveCore s = { s with cores := k } := by
  refine List.foldlRecOn (motive := fun t : State => ∃ k, t = { s with cores := k }) l _ ⟨s.cores, rfl⟩ ?_
  rintro _ ⟨k, rfl⟩ n _
  exact ⟨_, rfl⟩

/-- A context without a plan (R282). -/
def Ctx.emptied (c : Ctx) : Ctx :=
  { c with st := .empty, held := false, holdFault := 0, image := {}, len := 0, places := [], saves := []
           broken := false, mapped := false, preempted := false, sliceDone := false, c6Mark := none, c6Old := {} }

/-- The tasks without a context's descriptors, posts and open captures (R119, R282, R303; log entry 59). -/
def Tasks.freed (x : Tasks) (ctx : Nat) : Tasks :=
  { x with ctxs := Tab.update {} x.ctxs ctx Ctx.emptied
           descs := x.descs.filter (fun e => e.1 / 4096 ≠ ctx)
           posts := x.posts.filter (fun p => p.ctx ≠ ctx)
           captures := x.captures.filter (fun c => c.ctx ≠ ctx || c.phase ≠ .capturing) }

theorem Tasks.freed_holds_nothing (x : Tasks) (ctx : Nat) :
    (∀ e ∈ (x.freed ctx).descs, e.1 / 4096 ≠ ctx) ∧ (∀ p ∈ (x.freed ctx).posts, p.ctx ≠ ctx)
      ∧ (∀ c ∈ (x.freed ctx).captures, c.ctx = ctx → c.phase ≠ .capturing) := by
  refine ⟨fun e he => ?_, fun p hp => ?_, fun c hc hctx => ?_⟩
  · exact of_decide_eq_true (List.mem_filter.1 he).2
  · exact of_decide_eq_true (List.mem_filter.1 hp).2
  · have hkeep := (List.mem_filter.1 hc).2
    simp only [Bool.or_eq_true, decide_eq_true_eq] at hkeep
    exact hkeep.resolve_left (not_not_intro hctx)

theorem Tasks.freed_ctx (x : Tasks) (ctx : Nat) :
    Tab.get ({} : Ctx) (x.freed ctx).ctxs ctx = (Tab.get ({} : Ctx) x.ctxs ctx).emptied :=
  Tab.get_update_same _ _ _ _

section
variable (s : State) (ctx : Nat)

/-- The state whose objects and tables freeing a plan then filters: its cores are free, its pins, sequencer, bucking
record and counters gone. -/
def State.stopPlan : State :=
  (((((s.coresOf ctx).foldl State.leaveCore s).unpin ctx).endServing ctx).showBucking ctx {}).startCounters ctx {}

theorem State.stopPlan_tasks : (s.stopPlan ctx).tasks =
    ({ s.tasks with cores := ((s.coresOf ctx).foldl State.leaveCore s).cores } : Tasks).started ctx := by
  obtain ⟨k, hk⟩ := State.leaveCores_frame (s.coresOf ctx) s
  rw [State.stopPlan, State.startCounters_tasks, State.showBucking_tasks, State.endServing_tasks, State.unpin_tasks, hk]
  rfl

/-- The state without the descriptors of a context and their objects, its posts and open captures (R119, R282, R303). -/
def State.dropTables : State := { s with
  descs := s.descs.filter (fun e => e.1 / 4096 ≠ ctx)
  objs := s.objs.filter (fun e => e.1 / 256 ≠ 0x2800 + ctx)
  pobjs := s.pobjs.filter (fun e => e.1 % 2 ^ 24 / 256 ≠ 0x2800 + ctx)
  posts := s.posts.filter (fun p => p.ctx ≠ ctx)
  captures := s.captures.filter (fun c => c.ctx ≠ ctx || c.phase ≠ .capturing) }

theorem State.freePlan_eq :
    s.freePlan ctx = (((s.stopPlan ctx).dropTables ctx).updCtx ctx Ctx.emptied).restCheck ctx := rfl

theorem State.dropTables_tasks : ((s.dropTables ctx).updCtx ctx Ctx.emptied).tasks = s.tasks.freed ctx := rfl

theorem State.freePlan_tasks : (s.freePlan ctx).tasks = (s.stopPlan ctx).tasks.freed ctx := by
  rw [State.freePlan_eq, State.restCheck_tasks, State.dropTables_tasks]

/-- UNLOAD's completion before an image that waits is installed (R282). -/
def State.freed (busy : Nat) : State := ((s.drainMore ctx busy).countDrain ctx).freePlan ctx

/-- No core of the context's own is left: each of its cores is free (R282). -/
theorem State.core_stopPlan (n : Nat) :
    ((s.stopPlan ctx).core n).phase = .free ∨ ((s.stopPlan ctx).core n).ctx ≠ ctx := by
  have hcores : (s.stopPlan ctx).cores = ((s.coresOf ctx).foldl State.leaveCore s).cores := by
    rw [← State.tasks_cores, State.stopPlan_tasks, Tasks.started]
  have hcore : (s.stopPlan ctx).core n = ((s.coresOf ctx).foldl State.leaveCore s).core n := by
    rw [State.core, hcores, ← State.core]
  rw [hcore]
  rcases State.core_leaveCores (s.coresOf ctx) s n with h | ⟨hn, h⟩
  · exact .inl h
  · by_contra! hbusy
    rw [h] at hbusy
    exact hn (State.mem_coresOf hbusy.1 hbusy.2)

/-! ### What unloading leaves of the objects -/

theorem State.obj_updCtx (i : Nat) (f : Ctx → Ctx) (k : Nat) : (s.updCtx i f).obj k = s.obj k := rfl

theorem State.obj_noteReplay (c o d n k : Nat) : (s.noteReplay c o d n).obj k = s.obj k := by
  obtain ⟨g, q, p, h⟩ := s.noteReplay_frame c o d n
  rw [h]; rfl

/-- The rest check writes RESTING and REST_STEP alone (R220). -/
theorem State.obj_restCheck_other {i j : Nat} (hj : j < 256) (h : i ≠ 0x2100 + ctx) :
    (s.restCheck ctx).obj (okey i j) = s.obj (okey i j) := by
  have ha : okey i j ≠ okey (0x2100 + ctx) 0x0A := okey_ne hj (by decide) (.inl h)
  have hb : okey i j ≠ okey (0x2100 + ctx) 0x0B := okey_ne hj (by decide) (.inl h)
  unfold State.restCheck
  dsimp only
  split
  · rw [State.obj_noteReplay, State.obj_setObj_other _ _ hb, State.obj_setObj_other _ _ ha]
    split
    · rfl
    · exact s.obj_signal _ _
  · rw [State.obj_setObj_other _ _ hb, State.obj_setObj_other _ _ ha]

/-- The bucking record's objects alone show it (R216). -/
theorem State.obj_showBucking_other (m : Mem) {i j : Nat} (hj : j < 256) (h : i ≠ 0x2100 + ctx) :
    (s.showBucking ctx m).obj (okey i j) = s.obj (okey i j) := by
  have hne : ∀ a, a < 256 → okey i j ≠ okey (0x2100 + ctx) a := fun a ha => okey_ne hj ha (.inl h)
  rw [State.showBucking, State.obj_setObj_other _ _ (hne 8 (by decide))]
  refine List.foldlRecOn (motive := fun t : State => t.obj (okey i j) = s.obj (okey i j)) _ _ rfl (fun t ht a ha => ?_)
  have ha7 : a < 7 := List.mem_range.1 ha
  rw [State.obj_setObj_other _ _ (hne (a + 1) (by omega)), ht]

theorem State.obj_unpin (k : Nat) : (s.unpin ctx).obj k = s.obj k := by
  unfold State.unpin
  split <;> rfl

theorem State.obj_pinSlots (ls : List Nat) (b : Nat) (f : Nat → Nat) (k : Nat) :
    (s.pinSlots ls b f).obj k = s.obj k := by
  refine State.foldl_unchanged (State.obj · k) (fun _ _ => ?_) _ s
  rfl

theorem State.obj_dropKv (q k : Nat) : (s.dropKv ctx q).obj k = s.obj k := by
  refine State.foldl_unchanged (State.obj · k) (fun _ _ => ?_) _ s
  rfl

theorem State.obj_endServing_other {k : Nat} (h : k ≠ okey (servIdx ctx) 2) : (s.endServing ctx).obj k = s.obj k := by
  unfold State.endServing
  dsimp only
  split
  · rfl
  · refine (State.obj_setObj_other _ _ h).trans ?_
    refine (State.foldl_unchanged (State.obj · k) (fun t e => ?_) _ _).trans
      (State.foldl_unchanged (State.obj · k) (fun t b => ?_) _ _)
    · exact t.obj_dropKv ctx e.1 k
    · exact t.obj_pinSlots _ _ _ k

theorem State.obj_startCounters (m : Mem) (k : Nat) : (s.startCounters ctx m).obj k = s.obj k := by
  rw [State.startCounters]
  refine (State.foldl_unchanged (State.obj · k) (fun t b => ?_) _ _).trans rfl
  rfl

/-- The objects of the context's index keep their values while its plan is freed (R282, R285). -/
theorem State.obj_freePlan {j : Nat} (hj : j < 256) :
    (s.freePlan ctx).obj (okey (ctxIdx ctx) j) = s.obj (okey (ctxIdx ctx) j) := by
  have hrest : ctxIdx ctx ≠ 0x2100 + ctx := by unfold ctxIdx; omega
  have hserv : okey (ctxIdx ctx) j ≠ okey (servIdx ctx) 2 :=
    okey_ne hj (by decide) (.inl (by unfold ctxIdx servIdx; omega))
  have hdesc : decide (okey (ctxIdx ctx) j / 256 ≠ 0x2800 + ctx) = true := by
    rw [okey_div _ hj, decide_eq_true_iff]; unfold ctxIdx; omega
  have hdrop : ∀ t : State, ((t.dropTables ctx).updCtx ctx Ctx.emptied).obj (okey (ctxIdx ctx) j)
      = t.obj (okey (ctxIdx ctx) j) := fun t =>
    (Tab.get_filter_key _ t.objs (fun k => decide (k / 256 ≠ 0x2800 + ctx)) _).trans (if_pos hdesc)
  obtain ⟨k, hk⟩ := State.leaveCores_frame (s.coresOf ctx) s
  rw [State.freePlan_eq, State.obj_restCheck_other _ _ hj hrest, hdrop, State.stopPlan, State.obj_startCounters,
    State.obj_showBucking_other _ _ _ hj hrest, State.obj_endServing_other _ _ hserv, State.obj_unpin, hk]
  rfl

/-- The longest drain of a context is kept (R281, R284). -/
theorem State.obj_countDrain : (s.countDrain ctx).obj (okey (ctxIdx ctx) 0x18)
    = max (s.obj (okey (ctxIdx ctx) 0x18)) ((s.ctx ctx).drain % 2 ^ 32) := by
  have h16 : okey (ctxIdx ctx) 0x18 ≠ okey (ctxIdx ctx) 0x16 := okey_ne (by decide) (by decide) (.inr (by decide))
  have h17 : okey (ctxIdx ctx) 0x18 ≠ okey (ctxIdx ctx) 0x17 := okey_ne (by decide) (by decide) (.inr (by decide))
  unfold State.countDrain
  dsimp only
  split
  · rw [State.obj_addObj_other _ _ _ h17, State.obj_addObj_other _ _ _ h16, State.obj_setObj_same]
  · rw [State.obj_setObj_same]

/-- What UNLOAD_COMPLETE has counted of the drain. -/
theorem State.obj_freed (busy : Nat) : (s.freed ctx busy).obj (okey (ctxIdx ctx) 0x18)
    = max (s.obj (okey (ctxIdx ctx) 0x18)) (((s.ctx ctx).drain + busy) % 2 ^ 32) := by
  rw [State.freed, State.obj_freePlan _ _ (by decide), State.obj_countDrain, State.drainMore, State.ctx_updCtx_same]
  rfl

theorem State.freed_tasks (busy : Nat) :
    (s.freed ctx busy).tasks = (((s.drainMore ctx busy).countDrain ctx).stopPlan ctx).tasks.freed ctx :=
  State.freePlan_tasks _ ctx

end

/-! ### LOAD (R273, R340) -/

/-- LOAD closes every segment channel (R340). -/
def State.closeSegs (s : State) : State := { s with segs := [] }

/-- The image that LOAD reads (R273). -/
def State.loadImage (s : State) (ctx : Nat) : Mem :=
  s.closeSegs.copyImage (s.obj (okey (ctxIdx ctx) 1)) (s.obj (okey (ctxIdx ctx) 2)) {} 0 3

section
variable {s : State} {path ctx : Nat} (ha : s.access path (ctxIdx ctx) = 0) (hb : s.obj (okey (ctxIdx ctx) 3) ≠ 1)
include ha hb

/-- A reason that stands before the image is read refuses the LOAD. -/
theorem planLoad_of_reason
    (hr : s.loadReason ctx (s.obj (okey (ctxIdx ctx) 1)) (s.obj (okey (ctxIdx ctx) 2)) ≠ 0) :
    planLoad s path ctx = s.closeSegs.planRefused ctx
      (s.loadReason ctx (s.obj (okey (ctxIdx ctx) 1)) (s.obj (okey (ctxIdx ctx) 2))) 0x5001 := by
  rw [planLoad, State.onCmd_at (by decide) _ ha hb]
  exact if_pos hr

variable (hr : s.loadReason ctx (s.obj (okey (ctxIdx ctx) 1)) (s.obj (okey (ctxIdx ctx) 2)) = 0)
include hr

/-- A failing image refuses the LOAD; DESC_RESULT shows a failing descriptor (R115). -/
theorem planLoad_of_bad {e : Nat × Nat}
    (he : s.closeSegs.imageBad (s.loadImage ctx) (s.obj (okey (ctxIdx ctx) 2)) ctx = some e) :
    ∃ u : State, u.tasks = s.closeSegs.tasks ∧ planLoad s path ctx = u.planRefused ctx e.1 e.2 := by
  unfold State.loadImage State.closeSegs at he
  obtain ⟨reason, code⟩ := e
  rw [planLoad, State.onCmd_at (by decide) _ ha hb]
  simp only [hr, he, ne_eq, not_true_eq_false, if_false]
  refine ⟨_, ?_, rfl⟩
  split
  · split
    · exact State.setObj_tasks _ _ _
    · rfl
  · rfl

/-- A valid image over a loaded plan waits for the plan to be unloaded. -/
theorem planLoad_over_plan
    (he : s.closeSegs.imageBad (s.loadImage ctx) (s.obj (okey (ctxIdx ctx) 2)) ctx = none) (hl : s.loaded ctx = true) :
    planLoad s path ctx = (s.closeSegs.updCtx ctx (fun c => { c with
      st := .unloading, nextImage := some (s.loadImage ctx, s.obj (okey (ctxIdx ctx) 2)), overrun := false
      drain := 0 })).setObj (okey (ctxIdx ctx) 3) 1 := by
  unfold State.loadImage State.closeSegs at he
  rw [planLoad, State.onCmd_at (by decide) _ ha hb]
  simp only [hr, he, ne_eq, not_true_eq_false, if_false]
  exact if_pos hl

/-- A valid image on an empty context is installed. -/
theorem planLoad_on_empty
    (he : s.closeSegs.imageBad (s.loadImage ctx) (s.obj (okey (ctxIdx ctx) 2)) ctx = none) (hl : s.loaded ctx = false) :
    planLoad s path ctx = s.closeSegs.install ctx (s.loadImage ctx) (s.obj (okey (ctxIdx ctx) 2)) := by
  unfold State.loadImage State.closeSegs at he
  rw [planLoad, State.onCmd_at (by decide) _ ha hb]
  simp only [hr, he, ne_eq, not_true_eq_false, if_false]
  exact if_neg (Bool.eq_false_iff.1 hl)

end

/-! ### UNLOAD (R282) -/

section
variable {s : State} {path ctx : Nat} (ha : s.access path (ctxIdx ctx) = 0) (hb : s.obj (okey (ctxIdx ctx) 3) ≠ 1)
include ha hb

theorem unload_of_no_plan (hl : s.loaded ctx = false) : unload s path ctx = s.planRefused ctx 0xB 0x5001 := by
  rw [unload, State.onCmd_at (by decide) _ ha hb]
  exact if_pos (congrArg not hl)

theorem unload_of_plan (hl : s.loaded ctx = true) : unload s path ctx =
    (s.updCtx ctx (fun c => { c with st := .unloading, nextImage := none, overrun := false, drain := 0 })).setObj
      (okey (ctxIdx ctx) 3) 1 := by
  rw [unload, State.onCmd_at (by decide) _ ha hb]
  exact if_neg (Bool.eq_false_iff.1 (congrArg not hl))

end

/-- UNLOAD_COMPLETE may come: the context is unloading, none of its commands is left, the die runs. -/
def State.mayComplete (s : State) (ctx : Nat) : Prop :=
  (s.ctx ctx).st = .unloading ∧ (∀ f ∈ s.flights, f.ctx ≠ ctx) ∧ s.dieRuns = true

section
variable {s : State} {ctx : Nat} (busy : Nat)

theorem unloadComplete_guard (s : State) (ctx : Nat) :
    ((s.ctx ctx).st ≠ .unloading || s.flights.any (fun f => f.ctx = ctx) || !s.dieRuns) = false
      ↔ s.mayComplete ctx := by
  simp [State.mayComplete, and_assoc]

theorem unloadComplete_before (h : ¬ s.mayComplete ctx) : unloadComplete s ctx busy = s := by
  rw [← unloadComplete_guard, Bool.not_eq_false] at h
  exact if_pos h

/-- An image that waits is installed. -/
theorem unloadComplete_installs {m : Mem} {n : Nat} (h : s.mayComplete ctx) (hi : (s.ctx ctx).nextImage = some (m, n)) :
    unloadComplete s ctx busy = (s.freed ctx busy).install ctx m n := by
  rw [← unloadComplete_guard] at h
  simp only [unloadComplete, h, hi, Bool.false_eq_true, if_false]
  rfl

/-- Without one the context stays empty. -/
theorem unloadComplete_empties (h : s.mayComplete ctx) (hi : (s.ctx ctx).nextImage = none) :
    unloadComplete s ctx busy =
      ((s.freed ctx busy).updCtx ctx (fun x => { x with nextImage := none })).planDone ctx := by
  rw [← unloadComplete_guard] at h
  simp only [unloadComplete, h, hi, Bool.false_eq_true, if_false]
  rfl

end

/-! ### What the commands leave -/

section
variable (s : State) (ctx : Nat)

/-- A plan on an empty context: it waits with the image, at its start (R23, R273, R285). -/
theorem State.install_spec (m : Mem) (n : Nat) :
    let t := s.install ctx m n
    t.segs = s.segs ∧ (t.ctx ctx).st = .waiting ∧ (t.ctx ctx).image = m ∧ (t.ctx ctx).len = n
      ∧ (∀ o, o < 256 → t.stream ctx o = {})
      ∧ (∀ o k, o < 256 → k < 256 → Tab.get 0 t.tok (ckey ctx o k) = 0 ∧ Tab.get 0 t.acq (ckey ctx o k) = 0)
      ∧ t.obj (okey (ctxIdx ctx) 3) = 2 ∧ t.obj (okey (ctxIdx ctx) 4) = 0 := by
  intro t
  obtain ⟨d, x, since, ht, hx⟩ := s.install_tasks ctx m n
  have hctx : t.ctx ctx = { (s.ctx ctx).planned m n with since := since } := by
    rw [State.ctx, ← State.tasks_ctxs, ht]
    exact hx
  refine ⟨?_, by rw [hctx]; rfl, by rw [hctx]; rfl, by rw [hctx]; rfl, fun o ho => ?_, fun o k ho hk => ?_, ?_⟩
  · rw [← State.tasks_segs, ht]
    rfl
  · rw [State.stream, ← State.tasks_streams, ht]
    exact (s.tasks.started_reads ctx ho (k := 0) (by decide)).2.2
  · rw [← State.tasks_tok, ← State.tasks_acq, ht]
    obtain ⟨htok, hacq, -⟩ := s.tasks.started_reads ctx ho hk
    exact ⟨htok, hacq⟩
  · rw [show t = _ from s.install_eq ctx m n]
    exact State.obj_planDone _ ctx

/-- The state in which UNLOAD_COMPLETE leaves a context without an image that waits. -/
def State.unloaded (busy : Nat) : State :=
  ((s.freed ctx busy).updCtx ctx (fun x => { x with nextImage := none })).planDone ctx

/-- The tasks of the context are gone, but for what its own entry holds. -/
theorem State.unloaded_tasks (busy : Nat) : ∃ x, (s.unloaded ctx busy).tasks =
    { (((s.drainMore ctx busy).countDrain ctx).stopPlan ctx).tasks.freed ctx with ctxs := x } := by
  refine ⟨((s.freed ctx busy).updCtx ctx (fun x => { x with nextImage := none })).ctxs, ?_⟩
  rw [State.unloaded, State.planDone_tasks, State.updCtx_tasks, State.freed_tasks]

theorem State.ctx_unloaded (busy : Nat) :
    ∃ c : Ctx, (s.unloaded ctx busy).ctx ctx = { c.emptied with nextImage := none } := by
  have hfreed := Tasks.freed_ctx (((s.drainMore ctx busy).countDrain ctx).stopPlan ctx).tasks ctx
  rw [← State.freed_tasks, State.tasks_ctxs, ← State.ctx] at hfreed
  obtain ⟨c, hc⟩ : ∃ c : Ctx, (s.freed ctx busy).ctx ctx = c.emptied := ⟨_, hfreed⟩
  refine ⟨c, ?_⟩
  rw [State.unloaded, State.ctx_of_tasks (State.planDone_tasks _ _), State.ctx_updCtx_same, hc]

theorem State.flights_unloaded (busy : Nat) : (s.unloaded ctx busy).flights = s.flights := by
  obtain ⟨x, hx⟩ := s.unloaded_tasks ctx busy
  rw [← State.tasks_flights, hx, Tasks.freed, State.stopPlan_tasks, Tasks.started, State.countDrain_tasks]
  rfl

/-- No core of the context is left busy. -/
theorem State.core_unloaded (busy n : Nat) :
    ((s.unloaded ctx busy).core n).phase = .free ∨ ((s.unloaded ctx busy).core n).ctx ≠ ctx := by
  obtain ⟨x, hx⟩ := s.unloaded_tasks ctx busy
  have hcores : (s.unloaded ctx busy).cores = (((s.drainMore ctx busy).countDrain ctx).stopPlan ctx).cores := by
    rw [← State.tasks_cores, hx, Tasks.freed, State.tasks_cores]
  rw [State.core, hcores, ← State.core]
  exact State.core_stopPlan _ ctx n

theorem State.unloaded_holds_nothing (busy : Nat) :
    (∀ e ∈ (s.unloaded ctx busy).descs, e.1 / 4096 ≠ ctx) ∧ (∀ p ∈ (s.unloaded ctx busy).posts, p.ctx ≠ ctx)
      ∧ (∀ c ∈ (s.unloaded ctx busy).captures, c.ctx = ctx → c.phase ≠ .capturing) := by
  obtain ⟨x, hx⟩ := s.unloaded_tasks ctx busy
  obtain ⟨y, hy⟩ : ∃ y, y = (((s.drainMore ctx busy).countDrain ctx).stopPlan ctx).tasks := ⟨_, rfl⟩
  rw [← State.tasks_descs, ← State.tasks_posts, ← State.tasks_captures, hx, ← hy]
  exact y.freed_holds_nothing ctx

theorem State.obj_unloaded (busy : Nat) : (s.unloaded ctx busy).obj (okey (ctxIdx ctx) 0x18)
    = max (s.obj (okey (ctxIdx ctx) 0x18)) (((s.ctx ctx).drain + busy) % 2 ^ 32) := by
  have h3 : okey (ctxIdx ctx) 0x18 ≠ okey (ctxIdx ctx) 3 := okey_ne (by decide) (by decide) (.inr (by decide))
  have h4 : okey (ctxIdx ctx) 0x18 ≠ okey (ctxIdx ctx) 4 := okey_ne (by decide) (by decide) (.inr (by decide))
  rw [State.unloaded, State.obj_planDone_other _ _ h3 h4, State.obj_updCtx, State.obj_freed]

end

/-! ### The statement -/

theorem atOk_of_lt {path ctx : Nat} (hp : path < 18) (hc : ctx < 64) : atOk path ctx = true := by
  simp [atOk, pathOk, ctxOk, hp, hc]

/-- Settles O43: the checks of LOAD in their order, and UNLOAD's completion stage by stage. -/
theorem plansAreLoadedAndUnloaded : Obligations.PlansAreLoadedAndUnloaded := by
  refine ⟨?commands, ?complete⟩
  case commands =>
    intro s path ctx hp hc ha hb n s0 r m
    have hload : exec (.planLoad path ctx) s = .next (planLoad s path ctx) := need_ok (atOk_of_lt hp hc) _
    have hunload : exec (.unload path ctx) s = .next (unload s path ctx) := need_ok (atOk_of_lt hp hc) _
    rw [hload, hunload]
    refine ⟨fun hr => congrArg _ (planLoad_of_reason ha hb hr), fun e hr he => ?bad,
      fun hr he hl => ⟨_, congrArg _ (planLoad_on_empty ha hb hr he hl), s0.install_spec ctx m n⟩,
      fun hr he hl => congrArg _ (planLoad_over_plan ha hb hr he hl), fun hl => congrArg _ (unload_of_no_plan ha hb hl),
      fun hl => congrArg _ (unload_of_plan ha hb hl)⟩
    case bad =>
      obtain ⟨u, hu, h⟩ := planLoad_of_bad ha hb hr he
      have ht : (u.planRefused ctx e.1 e.2).tasks = s0.tasks := (State.planRefused_tasks ..).trans hu
      refine ⟨_, congrArg _ h, ?_, ?_, ?_, ?_, u.obj_planRefused ctx e.1 e.2 hc⟩
      · rw [State.ctx_of_tasks ht]
        rfl
      · rw [← State.tasks_streams, ht]
        rfl
      · rw [← State.tasks_tok, ht]
        rfl
      · rw [← State.tasks_cores, ht]
        rfl
  case complete =>
    intro s ctx busy hc may freed
    have hexec : exec (.unloadComplete ctx busy) s = .next (unloadComplete s ctx busy) :=
      need_ok (decide_eq_true hc) _
    rw [hexec]
    refine ⟨fun h => congrArg _ (unloadComplete_before busy h),
      fun h hi => ⟨s.unloaded ctx busy, congrArg _ (unloadComplete_empties busy h hi), ?empty⟩,
      fun m n h hi => congrArg _ (unloadComplete_installs busy h hi)⟩
    case empty =>
      obtain ⟨c, hc⟩ := s.ctx_unloaded ctx busy
      obtain ⟨hdescs, hposts, hcaptures⟩ := s.unloaded_holds_nothing ctx busy
      rw [State.loaded, hc]
      exact ⟨rfl, rfl, rfl, rfl, rfl, hdescs, hposts, hcaptures, s.obj_unloaded ctx busy, (State.obj_planDone _ ctx).1,
        s.flights_unloaded ctx busy, fun e _ => s.core_unloaded ctx busy e.1⟩

end Sys2Proof.Machine

/-!
PROOF. The matrix engines: what an engine command leaves of cores and machine, the issue of one row, PRELOAD, and the
read-outs DRAIN, TOPK and TILEREL.
-/

namespace Sys2Proof.Machine

/-! ### What engine commands leave alone -/

/-- The state without what engine commands change. -/
def State.offEngine (s : State) : State :=
  { s with cores := [], objs := [], captures := [], flights := [], work := [], scalerQ := [] }

/-- From `s` to `t`, core `n` changes in its tile `k` and its scratchpad alone, which then reads `pad`, and no other core
changes. -/
structure State.OnlyTile (s : State) (n k : Nat) (pad : Mem) (t : State) : Prop where
  tiles : ∀ k', k' ≠ k → t.tile n k' = s.tile n k'
  pad : (t.core n).data.pad = pad
  sets : (t.core n).data.sets = (s.core n).data.sets
  lanes : (t.core n).data.lanes = (s.core n).data.lanes
  cores : ∀ m, m ≠ n → t.core m = s.core m

theorem State.core_congr {s t : State} (h : t.cores = s.cores) (n : Nat) : t.core n = s.core n :=
  congrArg (fun x : Tab Core => Tab.get ({} : Core) x n) h

section
variable {s t u : State} {n k : Nat} {p q : Mem}

theorem State.OnlyTile.of_cores (h : t.cores = s.cores) : s.OnlyTile n k (s.core n).data.pad t where
  tiles k' _ := State.tile_congr h n k'
  pad := by rw [State.core_congr h]
  sets := by rw [State.core_congr h]
  lanes := by rw [State.core_congr h]
  cores m _ := State.core_congr h m

theorem State.OnlyTile.trans (h : s.OnlyTile n k p t) (h' : t.OnlyTile n k q u) : s.OnlyTile n k q u where
  tiles k' hk := (h'.tiles k' hk).trans (h.tiles k' hk)
  pad := h'.pad
  sets := h'.sets.trans h.sets
  lanes := h'.lanes.trans h.lanes
  cores m hm := (h'.cores m hm).trans (h.cores m hm)

/-- A later state with the same cores. -/
theorem State.OnlyTile.congr (h : s.OnlyTile n k p t) (hc : u.cores = t.cores) : s.OnlyTile n k p u :=
  h.pad ▸ h.trans (.of_cores hc)

/-- A change of the tile. -/
theorem State.OnlyTile.updTile (h : s.OnlyTile n k p t) (f : Tile → Tile) : s.OnlyTile n k p (t.updTile n k f) :=
  h.trans {
    tiles := fun _ hk => State.tile_updTile_other t f hk
    pad := by simp [State.updTile, h.pad]
    sets := by simp [State.updTile]
    lanes := by simp [State.updTile]
    cores := fun _ hm => State.core_updCore_other t _ hm }

/-- A write of the scratchpad leaves the tiles alone. -/
theorem State.tile_updPad (s : State) (n k : Nat) (g : Mem → Mem) :
    (s.updData n (fun d => { d with pad := g d.pad })).tile n k = s.tile n k := by simp [State.tile]

theorem State.OnlyTile.of_updPad (s : State) (n k : Nat) (g : Mem → Mem) :
    s.OnlyTile n k (g (s.core n).data.pad) (s.updData n (fun d => { d with pad := g d.pad })) where
  tiles k' _ := s.tile_updPad n k' g
  pad := by simp
  sets := by simp
  lanes := by simp
  cores _ hm := State.core_updCore_other s _ hm

end

/-- Memories, outputs, counters, the tier map and contexts are off the engines. -/
theorem State.eq_of_offEngine {s t : State} (h : t.offEngine = s.offEngine) :
    t.landing = s.landing ∧ t.ddr = s.ddr ∧ t.flash = s.flash ∧ t.host = s.host ∧ t.out = s.out ∧ t.tok = s.tok
    ∧ t.cred = s.cred ∧ t.tmap = s.tmap ∧ t.ctxs = s.ctxs :=
  ⟨(congrArg State.landing h :), (congrArg State.ddr h :), (congrArg State.flash h :), (congrArg State.host h :),
    (congrArg State.out h :), (congrArg State.tok h :), (congrArg State.cred h :), (congrArg State.tmap h :),
    (congrArg State.ctxs h :)⟩

@[simp] theorem State.offEngine_updData (s : State) (n : Nat) (f : CoreData → CoreData) :
    (s.updData n f).offEngine = s.offEngine := rfl

@[simp] theorem State.offEngine_updTile (s : State) (n k : Nat) (f : Tile → Tile) :
    (s.updTile n k f).offEngine = s.offEngine := rfl

@[simp] theorem State.offEngine_updFlight (s : State) (id : Nat) (f : Flight → Flight) :
    (s.updFlight id f).offEngine = s.offEngine := rfl

theorem State.offEngine_noteSat (s : State) (e n : Nat) : (s.noteSat e n).offEngine = s.offEngine := by
  unfold State.noteSat
  split <;> rfl

theorem State.cores_noteSat (s : State) (e n : Nat) : (s.noteSat e n).cores = s.cores := by
  unfold State.noteSat
  split <;> rfl

theorem State.flights_noteSat (s : State) (e n : Nat) : (s.noteSat e n).flights = s.flights := by
  unfold State.noteSat
  split <;> rfl

/-- Each saturation is one event (R79). -/
theorem State.obj_noteSat_events (s : State) (e n : Nat) : (s.noteSat e n).obj (okey (0x9000 + e) 8) =
    if n = 0 then s.obj (okey (0x9000 + e) 8) else (s.obj (okey (0x9000 + e) 8) + n) % 2 ^ 16 := by
  unfold State.noteSat
  split
  · rfl
  · rw [State.obj_addObj_same, State.obj_setObj_other _ _ (okey_ne (by decide) (by decide) (.inr (by decide)))]

/-- From `s` to `t`, a capture of tile `k` of core `n` was noted or dropped: the tile keeps all but its capture, and objects
change in the indices of captures and of the move ports' traffic alone (R174, R300). -/
structure State.Noted (s : State) (n k : Nat) (t : State) : Prop where
  onlyTile : s.OnlyTile n k (s.core n).data.pad t
  tile : { t.tile n k with cap := none } = { s.tile n k with cap := none }
  offEngine : t.offEngine = s.offEngine
  flights : t.flights = s.flights
  scalerQ : t.scalerQ = s.scalerQ
  obj : ∀ i j, i ≠ 0x5010 → i ≠ 0x3510 → j < 256 → t.obj (okey i j) = s.obj (okey i j)

section
variable (s : State) (n k : Nat)

theorem State.Noted.refl : s.Noted n k s := ⟨.of_cores rfl, rfl, rfl, rfl, rfl, fun _ _ _ _ _ => rfl⟩

theorem State.noted_writeCapture (cid m : Nat) (g : Capture → Capture) : s.Noted n k (s.writeCapture cid m g) where
  onlyTile := .of_cores rfl
  tile := rfl
  offEngine := rfl
  flights := rfl
  scalerQ := rfl
  obj _ _ _ h hj := State.obj_addObj_other _ _ _ (okey_ne hj (by decide) (.inl h))

theorem State.noted_skipCapture (cid : Nat) : s.Noted n k (s.skipCapture n k cid) where
  onlyTile := State.OnlyTile.updTile (s := s) (t := (s.dropCapture cid).addObj (okey 0x5010 4) 64 1) (.of_cores rfl) _
  tile := by
    rw [State.skipCapture, State.tile_updTile_same]
    rfl
  offEngine := rfl
  flights := rfl
  scalerQ := rfl
  obj _ _ h _ hj := State.obj_addObj_other _ _ _ (okey_ne hj (by decide) (.inl h))

end

theorem State.OnlyTile.noted {s t u : State} {n k : Nat} {p : Mem} (h : s.OnlyTile n k p t) (h' : t.Noted n k u) :
    s.OnlyTile n k p u := h.pad ▸ h.trans h'.onlyTile

/-- A row of 64 elements written into a tile: the row reads its elements, and every other row is as it was (R76). -/
theorem Tile.writeRow_map (t : Tile) (i : Nat) (g : Nat → F32 × Bool) :
    (∀ j, j < 64 → Tab.get 0 (t.writeRow i ((List.range 64).map g)).els (64 * i + j) = (g j).1)
    ∧ (∀ x, x / 64 ≠ i → Tab.get 0 (t.writeRow i ((List.range 64).map g)).els x = Tab.get 0 t.els x) := by
  obtain ⟨-, -, hin, hout⟩ := t.writeRow_els i ((List.range 64).map g)
  simp only [List.length_map, List.length_range, List.getElem_map, List.getElem_range] at hin hout
  exact ⟨hin, fun x hx => hout x (by omega)⟩

/-! ### The issue of a row (R61, R76, R80) -/

section
variable (s : State) (f : Flight)

/-- The tile that an MMA accumulates into. -/
def State.mmaTile : Nat := tileKey (s.cmdEng f.core f.w0) (mmaBody f.w0).tile

/-- The stationary B cant under the next row: loaded from the scratchpad with the cant's first row (R61). -/
def State.rowBimg : Mem :=
  let b := mmaBody f.w0
  if f.rows % 64 = 0 then
    (s.core f.core).data.pad.copy (b.b + f.rows / 64 * b.bfmt.slotBytes) b.bfmt.slotBytes {} 0
  else f.bimg

/-- Element j of the next row, accumulated with its 64 products (R76). -/
def State.rowSum (j : Nat) : F32 × Bool :=
  let b := mmaBody f.w0
  accumulate (valOf (Tab.get 0 (s.tile f.core (s.mmaTile f)).els (64 * (f.rows % 64) + j)) ::
    List.zipWith Val.mul
      (operandRow (s.core f.core).data.pad b.afmt b.atsc (b.a + f.rows / 64 * b.afmt.slotBytes) b.ax (f.rows % 64))
      (operandCol (s.rowBimg f) b.bfmt b.btsc 0 b.bx j))

/-- The bytes that the next row gives to the operand hash (R80; log entry 15). -/
def State.rowHashed : List Nat :=
  let b := mmaBody f.w0
  hashRow (s.core f.core).data.pad.rd b.afmt (b.a + f.rows / 64 * b.afmt.slotBytes) b.ax (f.rows % 64) ++
    (if f.rows % 64 = 63 then (List.range 64).flatMap (hashRow (s.rowBimg f).rd b.bfmt 0 b.bx) else [])

/-- The operand hash after the next row (R80). -/
def State.rowHash (x : Nat) : Nat := crc32cRun (x ^^^ 0xFFFFFFFF) (s.rowHashed f) ^^^ 0xFFFFFFFF

/-- The tile after the next row. -/
def State.rowTile : Tile :=
  let t := s.tile f.core (s.mmaTile f)
  { t.writeRow (f.rows % 64) ((List.range 64).map (s.rowSum f)) with hash := s.rowHash f t.hash }

/-- The tile and the counters after the next row, before its capture. -/
def State.rowIssued : State :=
  let e := 4 * f.core + s.cmdEng f.core f.w0
  ((s.updTile f.core (s.mmaTile f) (fun _ => s.rowTile f)).noteSat e
    (((List.range 64).map (s.rowSum f)).countP (fun x => x.2))).addObj (okey (0x9000 + e) 3) 64 1

/-- A row's issue writes the tile and the counters, and then its command's progress. Between them a capture of the tile
takes the row, or is dropped where it does not fit (R299, R300). -/
theorem State.issueRow_noted : ∃ u, (s.rowIssued f).Noted f.core (s.mmaTile f) u ∧
    s.issueRow f = u.updFlight f.id (fun g => { g with
      rows := f.rows + 1, bimg := s.rowBimg f
      phase := if f.rows + 1 = 64 * (mmaBody f.w0).kc then .done else .running }) := by
  unfold State.issueRow
  lift_lets
  extract_lets b pos e k i c pad bimg aAddr arow t row hashed run t1 s1 s2 s3
  refine ⟨s3, ?_, rfl⟩
  have hs2 : s2 = s.rowIssued f := rfl
  rw [← hs2]
  simp only [s3]
  cases t.cap with
  | none => exact .refl s2 ..
  | some cid =>
    exact iteInduction (fun _ => s2.noted_skipCapture ..) (fun _ => s2.noted_writeCapture ..)

theorem State.offEngine_rowIssued : (s.rowIssued f).offEngine = s.offEngine :=
  State.offEngine_noteSat ..

theorem State.onlyTile_rowIssued :
    s.OnlyTile f.core (s.mmaTile f) (s.core f.core).data.pad (s.rowIssued f) :=
  ((State.OnlyTile.of_cores rfl).updTile _).congr (State.cores_noteSat ..)

theorem State.tile_rowIssued : (s.rowIssued f).tile f.core (s.mmaTile f) = s.rowTile f :=
  (State.tile_congr (State.cores_noteSat ..) _ _).trans (State.tile_updTile_same ..)

/-- ROWS counts the row (R88). -/
theorem State.obj_rowIssued_rows :
    let k := okey (0x9000 + (4 * f.core + s.cmdEng f.core f.w0)) 3
    (s.rowIssued f).obj k = (s.obj k + 1) % 2 ^ 64 := by
  dsimp only
  rw [State.rowIssued, State.obj_addObj_same, State.obj_noteSat]
  · rfl
  · exact okey_ne (by decide) (by decide) (.inr (by decide))
  · exact okey_ne (by decide) (by decide) (.inr (by decide))

/-- ACC_SAT_EVENTS counts the row's elements that saturate (R79). -/
theorem State.obj_rowIssued_satEvents :
    let k := okey (0x9000 + (4 * f.core + s.cmdEng f.core f.w0)) 8
    let sat := (List.range 64).countP (fun j => (s.rowSum f j).2)
    (s.rowIssued f).obj k = if sat = 0 then s.obj k else (s.obj k + sat) % 2 ^ 16 := by
  dsimp only
  rw [State.rowIssued, State.obj_addObj_other _ _ _ (okey_ne (by decide) (by decide) (.inr (by decide))),
    State.obj_noteSat_events, List.countP_map]
  rfl

/-- What a row's issue leaves: its tile written, its command one row further, the rest of the cores and of the machine as it
was. -/
theorem State.issueRow_spec :
    let k := s.mmaTile f
    let t := s.issueRow f
    s.OnlyTile f.core k (s.core f.core).data.pad t
    ∧ { t.tile f.core k with cap := none } = { s.rowTile f with cap := none }
    ∧ t.offEngine = s.offEngine
    ∧ t.flights = s.flights.map (fun g => if g.id = f.id then { g with
        rows := f.rows + 1, bimg := s.rowBimg f
        phase := if f.rows + 1 = 64 * (mmaBody f.w0).kc then .done else .running } else g)
    ∧ ∀ j, j < 256 → let o := okey (0x9000 + (4 * f.core + s.cmdEng f.core f.w0)) j
        t.obj o = (s.rowIssued f).obj o := by
  intro k t
  obtain ⟨u, hu, ht⟩ := s.issueRow_noted f
  have hcores : t.cores = u.cores := (congrArg State.cores ht :)
  refine ⟨((s.onlyTile_rowIssued f).noted hu).congr hcores, ?tile, ?offEngine, ?flights, ?obj⟩
  case tile => rw [State.tile_congr hcores, hu.tile, State.tile_rowIssued]
  case offEngine => exact (congrArg State.offEngine ht).trans (hu.offEngine.trans (s.offEngine_rowIssued f))
  case flights =>
    have hflights : u.flights = s.flights := hu.flights.trans (State.flights_noteSat ..)
    exact (congrArg State.flights ht).trans (by rw [State.updFlight, hflights])
  case obj =>
    intro j hj o
    exact (congrArg (State.obj · o) ht).trans (hu.obj _ _ (by omega) (by omega) hj)

end

/-! ### MMA -/

theorem startMma_of_startable {s : State} {id : Nat} {f : Flight} (h : s.startable id 0x10 = some f) :
    startMma s id = if s.issueFree f then s.updFlight id (fun g => { g with phase := .running }) else s := by
  rw [startMma, h]

theorem exec_mmaRowIssue {e : Nat} (s : State) (he : e < 512) : exec (.mmaRowIssue e) s = .next (mmaRowIssue s e) :=
  need_ok (decide_eq_true he) _

/-- The next row of the oldest started MMA that has rows left issues, and then a read-out that waited for it reads. -/
theorem mmaRowIssue_of_row {s : State} {e : Nat} {f : Flight} (hr : s.dieRuns = true) (hd : s.unitDown (e / 4) = false)
    (hf : (s.mmas (e / 4) (.engine (e % 4))).find? (fun g => g.rows < 64 * (mmaBody g.w0).kc) = some f) :
    mmaRowIssue s e = (s.issueRow f).runReadout (e / 4) (.engine (e % 4)) := by
  simp [mmaRowIssue, hr, hd, hf]

theorem mmaRowIssue_of_no_row {s : State} {e : Nat} (h : s.dieRuns = false ∨ s.unitDown (e / 4) = true
    ∨ ∀ g ∈ s.mmas (e / 4) (.engine (e % 4)), 64 * (mmaBody g.w0).kc ≤ g.rows) : mmaRowIssue s e = s := by
  unfold mmaRowIssue
  split
  · rfl
  · next hc =>
    have hrows := (h.resolve_left (fun hr => hc (by simp [hr]))).resolve_left (fun hd => hc (by simp [hd]))
    rw [List.find?_eq_none.2 (fun g hg => by simpa using hrows g hg)]

/-- Settles O12: a row's issue is the written tile with its counters, a note in the tile's capture, and the command's
progress; each conclusion reads one of the three. -/
theorem mmaIssuesRowsInOrder : Obligations.MmaIssuesRowsInOrder := by
  refine ⟨?start, ?row, ?none⟩
  case start =>
    intro s id b f h
    exact (need_ok rfl _).trans (congrArg _ (startMma_of_startable h))
  case none =>
    intro s e he h
    rw [exec_mmaRowIssue s he, mmaRowIssue_of_no_row h]
  case row =>
    intro s e f he hr hd hf b d pos k i c bimg arow row hashed t
    obtain ⟨honly, htile, hoff, hflights, hobj⟩ := s.issueRow_spec f
    obtain ⟨hin, hout⟩ := (s.tile f.core k).writeRow_map i (s.rowSum f)
    obtain ⟨hstRow, hownerRow, -⟩ := (s.tile f.core k).writeRow_els i ((List.range 64).map (s.rowSum f))
    obtain ⟨hlanding, hddr, hflash, hhost, houtput, htok, hcred, htmap, hctxs⟩ := State.eq_of_offEngine hoff
    simp only [State.rowTile] at htile
    obtain ⟨hst, howner, hels, -⟩ := Tile.mk.inj htile
    have hel : ∀ x, Tab.get 0 (t.tile f.core k).els x = _ := fun x => congrArg (Tab.get 0 · x) hels
    refine ⟨?exec, fun j hj => (hel _).trans (hin j hj), fun x hx => (hel x).trans (hout x hx), hst.trans hstRow,
      howner.trans hownerRow, htile, honly.tiles, honly.cores, honly.pad, honly.sets, honly.lanes,
      (hobj 3 (by decide)).trans (s.obj_rowIssued_rows f), (hobj 8 (by decide)).trans (s.obj_rowIssued_satEvents f),
      hflights, hlanding, hddr, hflash, hhost, houtput, htmap, hctxs, htok, hcred⟩
    rw [exec_mmaRowIssue s he, mmaRowIssue_of_row hr hd hf]

/-! ### PRELOAD (R69) -/

/-- Rows written one after another into a tile: each holds its elements (R69). -/
theorem Tile.foldl_writeRow_map (t : Tile) (g : Nat → Nat → F32 × Bool) (n i : Nat) (hi : i < n) (j : Nat) (hj : j < 64) :
    Tab.get 0 ((List.range n).foldl (fun u i => u.writeRow i ((List.range 64).map (g i))) t).els (64 * i + j)
      = (g i j).1 := by
  induction n with
  | zero => omega
  | succ n ih =>
    rw [List.range_succ (n := n), List.foldl_append, List.foldl_cons, List.foldl_nil]
    obtain ⟨hin, hout⟩ := Tile.writeRow_map
      ((List.range n).foldl (fun u i => u.writeRow i ((List.range 64).map (g i))) t) n (g n)
    obtain rfl | hlt : i = n ∨ i < n := by omega
    · exact hin j hj
    · rw [hout _ (by omega), ih hlt]

/-- A map over a list, by the places of the list. -/
theorem map_eq_map_getD {α β : Type} (l : List α) (g : α → β) (d : α) {n : Nat} (h : l.length = n) :
    l.map g = (List.range n).map (fun j => g (l.getD j d)) := by
  subst h
  exact List.ext_getElem (by simp) (fun j hj _ => by simp [List.getElem?_eq_getElem (by simpa using hj : j < l.length)])

section
variable (s : State) (f : Flight)

/-- Element (i, j) of the slot that a PRELOAD reads, decoded (R59, R69). -/
def State.preloadElem (i j : Nat) : F32 × Bool :=
  let w := f.w0
  let v := decodeF32 0 ((operandRow (s.core f.core).data.pad ((Format.ofCode (fld w 72 69)).getD .fp32) (fld w 50 43)
    (64 * fld w 66 51) (fld w 68 68 = 1) (if fld w 67 67 = 1 then 0 else i)).getD j .nan)
  (v.1, v.2.saturated)

/-- The tile after a PRELOAD. -/
def State.preloadTile : Tile :=
  (List.range 64).foldl (fun u i => u.writeRow i ((List.range 64).map (s.preloadElem f i)))
    (s.tile f.core (s.cmdTile f.core f.w0))

/-- A PRELOAD writes its tile, counts its saturations, notes its slot in the tile's capture and has its effect done. -/
theorem startPreload_noted {id : Nat} (h : s.startable id 0x11 = some f) : ∃ m u,
    ((s.updTile f.core (s.cmdTile f.core f.w0) (fun _ => s.preloadTile f)).noteSat
      (4 * f.core + s.cmdEng f.core f.w0) m).Noted f.core (s.cmdTile f.core f.w0) u
    ∧ startPreload s id = u.updFlight id (fun g => { g with phase := .done }) := by
  rw [startPreload, h]
  dsimp -zeta only
  lift_lets
  extract_lets w fmt a pad pos k rowOf rows t s1 s2 pre s3
  have ht : t = s.preloadTile f := by
    have hrow : ∀ i, rowOf i = (List.range 64).map (s.preloadElem f i) := fun i => by
      simp only [rowOf]
      rw [map_eq_map_getD (n := 64) _ _ .nan (by simp [operandRow])]
      rfl
    have hidx : rows.mapIdx (fun i r => (i, r)) = (List.range 64).map (fun i => (i, rowOf i)) := by
      apply List.ext_getElem <;> simp [rows]
    simp only [t, hidx, List.foldl_map, hrow]
    rfl
  refine ⟨rows.flatten.countP (fun x => x.2), s3, ?_, rfl⟩
  rw [← ht]
  simp only [s3]
  cases t.cap with
  | none => exact .refl s2 ..
  | some cid => exact s2.noted_writeCapture ..

/-- What a PRELOAD leaves: its tile's elements, its effect done, the rest of the cores and of the machine as it was. -/
theorem startPreload_spec {id : Nat} (h : s.startable id 0x11 = some f) :
    let k := s.cmdTile f.core f.w0
    let t := startPreload s id
    s.OnlyTile f.core k (s.core f.core).data.pad t
    ∧ (∀ i j, i < 64 → j < 64 → Tab.get 0 (t.tile f.core k).els (64 * i + j) = (s.preloadElem f i j).1)
    ∧ t.offEngine = s.offEngine
    ∧ t.flights = s.flights.map (fun g => if g.id = id then { g with phase := .done } else g) := by
  intro k t
  obtain ⟨m, u, hu, ht⟩ := startPreload_noted s f h
  have hcores : t.cores = u.cores := (congrArg State.cores ht :)
  have hwrite := State.cores_noteSat (s.updTile f.core k (fun _ => s.preloadTile f))
    (4 * f.core + s.cmdEng f.core f.w0) m
  refine ⟨(((State.OnlyTile.of_cores rfl).updTile _).congr hwrite |>.noted hu).congr hcores, ?elements, ?offEngine,
    ?flights⟩
  case elements =>
    intro i j hi hj
    obtain ⟨-, -, hels, -⟩ := Tile.mk.inj hu.tile
    rw [State.tile_congr hcores, hels, State.tile_congr hwrite, State.tile_updTile_same]
    exact Tile.foldl_writeRow_map _ (s.preloadElem f) 64 i hi j hj
  case offEngine => exact (congrArg State.offEngine ht).trans (hu.offEngine.trans (State.offEngine_noteSat ..))
  case flights =>
    have hflights : u.flights = s.flights := hu.flights.trans (State.flights_noteSat ..)
    exact (congrArg State.flights ht).trans (by rw [State.updFlight, hflights])

end

/-! ### The read-outs (R72, R74, R75) -/

/-- What MODE leaves of a tile does not depend on its capture. -/
theorem Tile.afterMode_congr {t u : Tile} (mode : Nat) (h : { t with cap := none } = { u with cap := none }) :
    t.afterMode mode = u.afterMode mode := by
  have hcap : ∀ x : Tile, x.afterMode mode = ({ x with cap := none } : Tile).afterMode mode := fun x => by
    unfold Tile.afterMode
    split <;> rfl
  rw [hcap t, h, ← hcap u]

/-- The capture of a discarded tile is dropped, where it has one (R299). -/
def State.dropCaptureOf (s : State) (cap : Option Nat) : State :=
  { s with captures := s.captures.filter (fun c => cap ≠ some c.id) }

@[simp] theorem State.offEngine_dropCaptureOf (s : State) (cap : Option Nat) :
    (s.dropCaptureOf cap).offEngine = s.offEngine := rfl

theorem State.dropCaptureOf_none (s : State) : s.dropCaptureOf none = s := by simp [State.dropCaptureOf]

theorem State.dropCaptureOf_some (s : State) (cid : Nat) : s.dropCaptureOf (some cid) = s.dropCapture cid := by
  simp [State.dropCaptureOf, State.dropCapture, eq_comm]

section
variable (s : State) (f : Flight)

/-- The conversion of the tile that a DRAIN reads (R72). -/
def State.drainImage : SlotImage :=
  convertSlot (f.conv.params ((Format.ofCode (fld f.w0 70 67)).getD .fp32)) (s.tile f.core (s.cmdTile f.core f.w0)).rows

/-- The scratchpad after a DRAIN: the slot, and with REC_EN the record (R72, R73). -/
def State.drainPad (p : Mem) : Mem :=
  let w := f.w0
  let tile := s.tile f.core (s.cmdTile f.core w)
  let outp := p.writeBytes (64 * fld w 62 47) (slotImageBytes (s.drainImage f))
  if fld w 46 46 = 1 then outp.writeBytes (64 * fld w 45 30)
    (drainRecord (s.drainImage f).2.2 tile.flagsWord (4 * f.core + s.cmdEng f.core w) (fld w 75 73)
      ((Format.ofCode (fld w 70 67)).getD .fp32).code (fld w 66 63) tile.hash)
  else outp

/-- The status that a DRAIN passes to the Scaler (R293). -/
def State.drainStatus : ScalerIn :=
  let tile := s.tile f.core (s.cmdTile f.core f.w0)
  { ctx := f.ctx, kind := 2, source := 4 * f.core + s.cmdEng f.core f.w0, item := fld f.w0 75 73
    stat := (s.drainImage f).2.2, ovf := tile.ovfPos || tile.ovfNeg, ovfPos := tile.first }

/-- The scratchpad and the Scaler's queue after a DRAIN. -/
def State.drained : State :=
  { s.updData f.core (fun d => { d with pad := s.drainPad f d.pad }) with
    scalerQ := s.scalerQ ++ [s.drainStatus f] }

/-- A DRAIN writes the scratchpad and the Scaler's queue, notes its result in the tile's capture, and applies MODE. -/
theorem State.readDrain_noted : ∃ u, (s.drained f).Noted f.core (s.cmdTile f.core f.w0) u
    ∧ s.readDrain f = (u.updTile f.core (s.cmdTile f.core f.w0) (fun t => t.afterMode (fld f.w0 72 71))).updFlight f.id
      (fun g => { g with phase := .done, rows := (s.tile f.core (s.cmdTile f.core f.w0)).cap.getD 0 }) := by
  unfold State.readDrain
  lift_lets
  extract_lets w pos e k t fmt img bytes flags recBytes s1 s2 s3 s4
  have hs2 : s2 = s.drained f := rfl
  rw [← hs2]
  refine ⟨s3, ?_, rfl⟩
  simp only [s3]
  cases t.cap with
  | none => exact .refl s2 ..
  | some cid => exact s2.noted_writeCapture ..

/-- What a DRAIN's reading leaves: slot and record written, MODE applied, the status passed on, its effect done. -/
theorem State.readDrain_spec :
    let k := s.cmdTile f.core f.w0
    let t := s.readDrain f
    s.OnlyTile f.core k (s.drainPad f (s.core f.core).data.pad) t
    ∧ t.tile f.core k = (s.tile f.core k).afterMode (fld f.w0 72 71) ∧ t.offEngine = s.offEngine
    ∧ t.scalerQ = s.scalerQ ++ [s.drainStatus f]
    ∧ t.flights = s.flights.map (fun g => if g.id = f.id
        then { g with phase := .done, rows := (s.tile f.core k).cap.getD 0 } else g) := by
  intro k t
  obtain ⟨u, hu, ht⟩ := s.readDrain_noted f
  have hwrite : s.OnlyTile f.core k (s.drainPad f (s.core f.core).data.pad) (s.drained f) :=
    (State.OnlyTile.of_updPad s f.core k (s.drainPad f)).congr rfl
  have htile : (s.drained f).tile f.core k = s.tile f.core k :=
    (State.tile_congr rfl f.core k).trans (s.tile_updPad f.core k (s.drainPad f))
  refine ⟨((hwrite.noted hu).updTile _).congr (congrArg State.cores ht :), ?tile,
    (congrArg State.offEngine ht).trans hu.offEngine, (congrArg State.scalerQ ht).trans hu.scalerQ, ?flights⟩
  case tile =>
    rw [State.tile_congr (congrArg State.cores ht :), ← htile, ← Tile.afterMode_congr _ hu.tile]
    exact State.tile_updTile_same u ..
  case flights => exact (congrArg State.flights ht).trans (congrArg (List.map _) hu.flights)

/-- The scratchpad after a TOPK: the lists of the tile's rows (R84). -/
def State.topkPad (p : Mem) : Mem :=
  p.writeBytes (64 * fld f.w0 55 40) ((List.range 64).flatMap (fun r =>
    (topkRow (s.core f.core).data.pad (s.tile f.core (s.cmdTile f.core f.w0)) f.w0 r).flatMap candBytes))

/-- The scratchpad and the captures after a TOPK (R74, R299). -/
def State.topkWritten : State :=
  (s.updData f.core (fun d => { d with pad := s.topkPad f d.pad })).dropCaptureOf
    (s.tile f.core (s.cmdTile f.core f.w0)).cap

/-- A TOPK writes its lists, drops its tile's capture, applies MODE and has its effect done (R74, R84, R299). -/
theorem State.readTopk_eq : s.readTopk f =
    ((s.topkWritten f).updTile f.core (s.cmdTile f.core f.w0) (fun t => t.afterMode (fld f.w0 72 71))).updFlight f.id
      (fun g => { g with phase := .done }) := by
  unfold State.readTopk State.topkWritten
  dsimp only
  cases (s.tile f.core (s.cmdTile f.core f.w0)).cap with
  | none => rw [State.dropCaptureOf_none]; rfl
  | some cid => rw [State.dropCaptureOf_some]; rfl

/-- A TILEREL drops its tile's capture and has its effect done (R75, R299). -/
theorem State.readTilerel_eq :
    let k := s.cmdTile f.core f.w0
    s.readTilerel f = ((s.dropCaptureOf (s.tile f.core k).cap).updTile f.core k
      (fun t => { t with cap := none })).updFlight f.id (fun g => { g with phase := .done }) := by
  intro k
  unfold State.readTilerel
  dsimp only
  cases (s.tile f.core (s.cmdTile f.core f.w0)).cap with
  | none => rw [State.dropCaptureOf_none]
  | some cid => rw [State.dropCaptureOf_some]

/-- What a TOPK's reading leaves: its lists written, MODE applied, its effect done. -/
theorem State.readTopk_spec :
    let k := s.cmdTile f.core f.w0
    let t := s.readTopk f
    s.OnlyTile f.core k (s.topkPad f (s.core f.core).data.pad) t
    ∧ t.tile f.core k = (s.tile f.core k).afterMode (fld f.w0 72 71) ∧ t.offEngine = s.offEngine
    ∧ t.objs = s.objs ∧ t.scalerQ = s.scalerQ
    ∧ t.flights = s.flights.map (fun g => if g.id = f.id then { g with phase := .done } else g) := by
  intro k t
  have ht := s.readTopk_eq f
  have hpad : s.OnlyTile f.core k (s.topkPad f (s.core f.core).data.pad) (s.topkWritten f) :=
    (State.OnlyTile.of_updPad s f.core k (s.topkPad f)).congr rfl
  have htile : (s.topkWritten f).tile f.core k = s.tile f.core k :=
    (State.tile_congr rfl f.core k).trans (s.tile_updPad f.core k (s.topkPad f))
  refine ⟨(hpad.updTile _).congr (congrArg State.cores ht :), ?tile, (congrArg State.offEngine ht).trans ?offEngine,
    (congrArg State.objs ht :), (congrArg State.scalerQ ht :), (congrArg State.flights ht :)⟩
  case tile =>
    rw [State.tile_congr (congrArg State.cores ht :), ← htile]
    exact State.tile_updTile_same (s.topkWritten f) ..
  case offEngine => simp [State.topkWritten]

/-- What a TILEREL's reading leaves: its tile and its tile's capture let go, its effect done. -/
theorem State.readTilerel_spec :
    let k := s.cmdTile f.core f.w0
    let t := s.readTilerel f
    s.OnlyTile f.core k (s.core f.core).data.pad t
    ∧ t.tile f.core k = { s.tile f.core k with cap := none } ∧ t.offEngine = s.offEngine
    ∧ t.objs = s.objs ∧ t.scalerQ = s.scalerQ
    ∧ t.captures = s.captures.filter (fun c => (s.tile f.core k).cap ≠ some c.id)
    ∧ t.flights = s.flights.map (fun g => if g.id = f.id then { g with phase := .done } else g) := by
  intro k t
  have ht := s.readTilerel_eq f
  have hsame : s.OnlyTile f.core k (s.core f.core).data.pad (s.dropCaptureOf (s.tile f.core k).cap) := .of_cores rfl
  refine ⟨(hsame.updTile _).congr (congrArg State.cores ht :), ?tile, (congrArg State.offEngine ht).trans (by simp),
    (congrArg State.objs ht :), (congrArg State.scalerQ ht :), (congrArg State.captures ht :),
    (congrArg State.flights ht :)⟩
  rw [State.tile_congr (congrArg State.cores ht :)]
  exact State.tile_updTile_same ..

end

/-! ### The read-out pipeline (R63, R81) -/

theorem startReadout_of_startable {s : State} {id op : Nat} {f : Flight} (h : s.startable id op = some f) :
    startReadout s id op = if (s.readout f.core f.queue).isSome then s else
      (s.updFlight id (fun g => { g with phase := .running, conv := s.convSet f })).runReadout f.core f.queue := by
  rw [startReadout, h]

section
variable {s : State} {n : Nat} {q : QueueId} {f : Flight}

theorem State.runReadout_of_none (h : s.readout n q = none) : s.runReadout n q = s := by
  rw [State.runReadout, h]

/-- The read-out under way is on its core, and is a DRAIN, a TOPK or a TILEREL. -/
theorem State.readout_spec (h : s.readout n q = some f) : f.core = n ∧ (f.op = 0x12 ∨ f.op = 0x13 ∨ f.op = 0x14) := by
  have hf := List.find?_some h
  simp only [isReadout, Bool.and_eq_true, decide_eq_true_eq] at hf
  omega

/-- A read-out whose tile an earlier MMA still writes waits (R81). -/
theorem State.runReadout_of_busy (h : s.readout n q = some f) (hq : s.tileQuiet f = false) : s.runReadout n q = s := by
  simp [State.runReadout, h, hq]

theorem State.runReadout_of_drain (h : s.readout n q = some f) (hq : s.tileQuiet f = true) (hop : f.op = 0x12) :
    s.runReadout n q = s.readDrain f := by
  simp [State.runReadout, h, hq, hop]

theorem State.runReadout_of_topk (h : s.readout n q = some f) (hq : s.tileQuiet f = true) (hop : f.op = 0x13) :
    s.runReadout n q = s.readTopk f := by
  simp [State.runReadout, h, hq, hop]

theorem State.runReadout_of_tilerel (h : s.readout n q = some f) (hq : s.tileQuiet f = true) (hop : f.op = 0x14) :
    s.runReadout n q = s.readTilerel f := by
  simp [State.runReadout, h, hq, hop]

/-- Outside its tile and the scratchpad, a read-out leaves the cores and the machine alone. -/
theorem State.runReadout_kept (h : s.readout n q = some f) (hq : s.tileQuiet f = true) :
    ∃ pad, s.OnlyTile f.core (s.cmdTile f.core f.w0) pad (s.runReadout n q)
      ∧ (s.runReadout n q).offEngine = s.offEngine := by
  obtain ⟨-, hop | hop | hop⟩ := State.readout_spec h
  · rw [State.runReadout_of_drain h hq hop]
    obtain ⟨honly, -, hoff, -⟩ := s.readDrain_spec f
    exact ⟨_, honly, hoff⟩
  · rw [State.runReadout_of_topk h hq hop]
    obtain ⟨honly, -, hoff, -⟩ := s.readTopk_spec f
    exact ⟨_, honly, hoff⟩
  · rw [State.runReadout_of_tilerel h hq hop]
    obtain ⟨honly, -, hoff, -⟩ := s.readTilerel_spec f
    exact ⟨_, honly, hoff⟩

end

/-- Settles O13: PRELOAD writes its tile, and a read-out that runs is the reading of its opcode. -/
theorem tilesPreloadDrainAndSort : Obligations.TilesPreloadDrainAndSort := by
  refine ⟨?preload, ?start, fun s n q => State.runReadout_of_none, ?readout⟩
  case preload =>
    intro s id b f h d k fmt
    obtain ⟨honly, hels, hoff, hflights⟩ := startPreload_spec s f h
    obtain ⟨hlanding, hddr, hflash, hhost, hout, -⟩ := State.eq_of_offEngine hoff
    exact ⟨startPreload s id, need_ok rfl _, hels, honly.tiles, honly.pad, honly.sets, honly.lanes, honly.cores, hflights,
      hlanding, hddr, hflash, hhost, hout⟩
  case start =>
    intro s id f q go
    exact ⟨fun h => (need_ok rfl _).trans (congrArg _ (startReadout_of_startable h)),
      fun h => (need_ok rfl _).trans (congrArg _ (startReadout_of_startable h)),
      fun h => (need_ok rfl _).trans (congrArg _ (startReadout_of_startable h))⟩
  case readout =>
    intro s n q f h w d pos e k tile fmt img outp t
    obtain ⟨rfl, -⟩ := State.readout_spec h
    refine ⟨State.runReadout_of_busy h, fun hq => ?kept, fun hq hop => ?drain, fun hq hop => ?topk, fun hq hop => ?tilerel⟩
    case kept =>
      obtain ⟨pad, honly, hoff⟩ := State.runReadout_kept h hq
      obtain ⟨hlanding, hddr, hflash, hhost, hout, htok, hcred, -⟩ := State.eq_of_offEngine hoff
      exact ⟨honly.tiles, honly.sets, honly.lanes, honly.cores, hlanding, hddr, hflash, hhost, hout, htok, hcred⟩
    case drain =>
      obtain ⟨honly, htile, -, hscaler, hflights⟩ := s.readDrain_spec f
      have ht : t = s.readDrain f := State.runReadout_of_drain h hq hop
      rw [ht]
      exact ⟨honly.pad, htile, hscaler, hflights⟩
    case topk =>
      obtain ⟨honly, htile, -, hobjs, hscaler, hflights⟩ := s.readTopk_spec f
      have ht : t = s.readTopk f := State.runReadout_of_topk h hq hop
      rw [ht]
      exact ⟨honly.pad, htile, hobjs, hscaler, hflights⟩
    case tilerel =>
      obtain ⟨honly, htile, -, hobjs, hscaler, hcaptures, hflights⟩ := s.readTilerel_spec f
      have ht : t = s.readTilerel f := State.runReadout_of_tilerel h hq hop
      rw [ht]
      exact ⟨honly.pad, htile, hobjs, hscaler, hcaptures, hflights⟩

end Sys2Proof.Machine

/-!
PROOF. Limber's loads and stores: little-endian numbers and packed elements in memories, VLD, VST and VSTAT.
-/

namespace Sys2Proof

@[simp] theorem length_leBytes (n x : Nat) : (leBytes n x).length = n := by
  induction n generalizing x with
  | zero => rfl
  | succ n ih => simp [leBytes, ih]

theorem lt_of_mem_leBytes {n x b : Nat} (h : b ∈ leBytes n x) : b < 256 := by
  induction n generalizing x with
  | zero => simp [leBytes] at h
  | succ n ih =>
    rw [leBytes, List.mem_cons] at h
    obtain rfl | h := h
    · exact Nat.mod_lt _ (by decide)
    · exact ih h

/-- The number of n bytes of a number is that number, as far as n bytes hold it (R7). -/
theorem leNat_leBytes (n x : Nat) : leNat (leBytes n x) = x % 2 ^ (8 * n) := by
  induction n generalizing x with
  | zero => simp [leBytes, leNat, Nat.mod_one]
  | succ n ih =>
    rw [leBytes, leNat, ih, Nat.mul_succ, Nat.pow_add', Nat.mod_mul]

theorem leNat_lt {bs : List Nat} (h : ∀ b ∈ bs, b < 256) : leNat bs < 2 ^ (8 * bs.length) := by
  induction bs with
  | nil => simp [leNat]
  | cons b t ih =>
    have hb := h b (by simp)
    have ht := ih (fun c hc => h c (by simp [hc]))
    rw [leNat, List.length_cons, Nat.mul_succ, Nat.pow_add']
    omega

/-- An element of a format without blocks is whole bytes (R43). -/
theorem Format.width_of_not_isMx {f : Format} (h : f.isMx = false) : ∃ n, 0 < n ∧ f.width = 8 * n := by
  cases f with
  | fp32 => exact ⟨4, by decide, rfl⟩
  | bf16 => exact ⟨2, by decide, rfl⟩
  | e4m3 | e5m2 => exact ⟨1, by decide, rfl⟩
  | _ => exact absurd h (by decide)

end Sys2Proof

namespace Sys2Proof.Machine

/-! ### Numbers and packed elements in memories (R7, R49) -/

theorem Mem.rd_lt (m : Mem) (a : Nat) : m.rd a < 256 := (m.read a).isLt

theorem Mem.readLe_lt (m : Mem) (a n : Nat) : m.readLe a n < 2 ^ (8 * n) := by
  have h := leNat_lt (bs := m.readBytes a n) (by simp [Mem.readBytes, Mem.rd_lt])
  simpa [Mem.readLe, Mem.readBytes] using h

/-- Bytes just written read back. -/
theorem Mem.readBytes_writeBytes_same (m : Mem) (a : Nat) {bs : List Nat} (h : ∀ b ∈ bs, b < 256) :
    (m.writeBytes a bs).readBytes a bs.length = bs := by
  refine List.ext_getElem (by simp [Mem.readBytes]) fun k hk hk' => ?_
  have hb := h bs[k] (List.getElem_mem hk')
  simp [Mem.readBytes, Mem.rd, Mem.read_writeBytes_same hk', Nat.mod_eq_of_lt hb]

/-- A number just written reads back, as far as its bytes hold it. -/
theorem Mem.readLe_writeLe_same (m : Mem) (a n x : Nat) : (m.writeLe a n x).readLe a n = x % 2 ^ (8 * n) := by
  have h := m.readBytes_writeBytes_same a (bs := leBytes n x) (fun b => lt_of_mem_leBytes)
  rw [length_leBytes] at h
  rw [Mem.readLe, Mem.writeLe, h, leNat_leBytes]

/-- A stored element changes no byte but those that hold it (R49). -/
theorem read_storeCode_other (m : Mem) (f : Format) (base i code : Nat) {b : Nat}
    (h : b < base + i * f.width / 8 ∨ base + (i * f.width + f.width + 7) / 8 ≤ b) :
    (storeCode m f base i code).read b = m.read b := by
  refine Mem.read_writeBytes_other ?_
  rw [length_leBytes]
  omega

section
variable {f : Format} {n : Nat} (hw : f.width = 8 * n) (m : Mem) (base i : Nat)
include hw

/-- An element of whole bytes is the number of its bytes. -/
theorem elemAt_eq_readLe : elemAt m.rd f base i = m.readLe (base + i * n) n := by
  have hpos : i * f.width = 8 * (i * n) := by rw [hw]; ring
  have hbyte : i * f.width / 8 = i * n := by omega
  have hbit : i * f.width % 8 = 0 := by omega
  have hlen : (0 + f.width + 7) / 8 = n := by omega
  simp only [elemAt, hbyte, hbit, hlen, Nat.shiftRight_zero]
  rw [hw]
  exact Nat.mod_eq_of_lt (m.readLe_lt (base + i * n) n)

/-- An element of whole bytes is stored as the number of its bytes. -/
theorem storeCode_eq_writeLe (hn : 0 < n) (code : Nat) :
    storeCode m f base i code = m.writeLe (base + i * n) n (code % 2 ^ (8 * n)) := by
  have hpos : i * f.width = 8 * (i * n) := by rw [hw]; ring
  have hbyte : i * f.width / 8 = i * n := by omega
  have hbit : i * f.width % 8 = 0 := by omega
  have hlen : (0 + f.width + 7) / 8 = n := by omega
  have hall : bits (m.readLe (base + i * n) n) (0 + 8 * n - 1) 0 = m.readLe (base + i * n) n := by
    rw [bits, Nat.shiftRight_zero, show 0 + 8 * n - 1 + 1 - 0 = 8 * n by omega]
    exact Nat.mod_eq_of_lt (m.readLe_lt ..)
  simp only [storeCode, hbyte, hbit, hlen]
  rw [hw, hall]
  simp

/-- A stored element of whole bytes reads back. -/
theorem elemAt_storeCode_same (hn : 0 < n) (code : Nat) :
    elemAt (storeCode m f base i code).rd f base i = code % 2 ^ f.width := by
  rw [elemAt_eq_readLe hw, storeCode_eq_writeLe hw m base i hn, Mem.readLe_writeLe_same, Nat.mod_mod, hw]

end

/-! ### The elements of a slot (R103, R127) -/

/-- The bytes of an element lie in its slot. -/
theorem read_storeCode_slot (m : Mem) (f : Format) (a code : Nat) {r c b : Nat} (hr : r < 64) (hc : c < 64)
    (h : b < a ∨ a + f.slotBytes ≤ b) : (storeCode m f (a + r * f.rowBytes) c code).read b = m.read b := by
  apply read_storeCode_other
  have hcol : c * f.width + f.width ≤ 64 * f.width := by nlinarith
  have hrow : r * f.rowBytes + f.rowBytes ≤ 64 * f.rowBytes := by nlinarith
  unfold Format.slotBytes at h
  unfold Format.rowBytes at *
  omega

/-- Storing an element of whole bytes leaves the other elements of its slot alone. -/
theorem elemAt_storeCode_other {f : Format} (hf : f.isMx = false) (m : Mem) (a code : Nat) {r c r' c' : Nat}
    (hc : c < 64) (hc' : c' < 64) (h : (r', c') ≠ (r, c)) :
    elemAt (storeCode m f (a + r * f.rowBytes) c code).rd f (a + r' * f.rowBytes) c'
      = elemAt m.rd f (a + r' * f.rowBytes) c' := by
  obtain ⟨n, hn, hw⟩ := Format.width_of_not_isMx hf
  have haddr : ∀ r c, a + r * f.rowBytes + c * n = a + (64 * r + c) * n := fun r c => by
    rw [Format.rowBytes, hw]; ring
  have hne : 64 * r' + c' ≠ 64 * r + c := fun he => h (by rw [Prod.mk.injEq]; omega)
  have hapart : (64 * r' + c') * n + n ≤ (64 * r + c) * n ∨ (64 * r + c) * n + n ≤ (64 * r' + c') * n := by
    rcases Nat.lt_or_gt_of_ne hne with hlt | hlt
    · exact .inl (by nlinarith)
    · exact .inr (by nlinarith)
  rw [elemAt_eq_readLe hw, elemAt_eq_readLe hw, storeCode_eq_writeLe hw _ _ _ hn, haddr, haddr]
  refine congrArg leNat (List.map_congr_left fun k hk => congrArg BitVec.toNat (Mem.read_writeBytes_other ?_))
  rw [length_leBytes]
  have := List.mem_range.1 hk
  omega

/-! ### Status accumulators (R89, R106) -/

/-- A merge writes its accumulator alone, and none for 1Fh (R104). -/
theorem CoreData.mergeSa_eq (d : CoreData) (k : Nat) (st : Stat) :
    ∃ sas, d.mergeSa k st = { d with sas := sas }
    ∧ (∀ j, j ≠ k ∨ j = 0x1F → Tab.get ({} : Stat) sas j = d.sa j)
    ∧ (k ≠ 0x1F → Tab.get ({} : Stat) sas k = (d.sa k).merge st) := by
  unfold CoreData.mergeSa
  split
  · next hk => exact ⟨d.sas, rfl, fun _ _ => rfl, fun h => absurd hk h⟩
  · next hk =>
    refine ⟨_, rfl, fun j hj => Tab.get_update_other _ _ _ ?_, fun _ => Tab.get_update_same ..⟩
    rintro rfl
    exact hj.elim (absurd rfl) hk

/-! ### VST (R104, R105) -/

section
variable (w : W128) (d : CoreData)

/-- From `d` to `x`, a VST changes its slot and its status accumulator alone. -/
structure CoreData.Stored (x : CoreData) : Prop where
  frame : x = { d with pad := x.pad, sas := x.sas }
  pad : ∀ a, (a < 64 * fld w 62 47 ∨ 64 * fld w 62 47 + (lsFmt w).slotBytes ≤ a) → x.pad.read a = d.pad.read a
  sas : ∀ k, k ≠ fld w 38 34 ∨ k = 0x1F → x.sa k = d.sa k

theorem CoreData.Stored.refl : d.Stored w d := ⟨rfl, fun _ _ => rfl, fun _ _ => rfl⟩

variable {w d}

/-- A write in the slot, whose status is merged. -/
theorem CoreData.Stored.store {x : CoreData} (h : d.Stored w x) {p : Mem} (st : Stat)
    (hp : ∀ a, (a < 64 * fld w 62 47 ∨ 64 * fld w 62 47 + (lsFmt w).slotBytes ≤ a) → p.read a = x.pad.read a) :
    d.Stored w (({ x with pad := p } : CoreData).mergeSa (fld w 38 34) st) := by
  obtain ⟨sas, heq, hother, -⟩ := CoreData.mergeSa_eq { x with pad := p } (fld w 38 34) st
  rw [heq]
  exact ⟨by rw [h.frame], fun a ha => (hp a ha).trans (h.pad a ha), fun k hk => (hother k hk).trans (h.sas k hk)⟩

variable (w d)

/-- Where a VST finds lane l: inside its slot (R103). -/
theorem lanePos_lt {l : Nat} (hl : l < 256) : (lanePos w false l).1 < 64 ∧ (lanePos w false l).2 < 64 := by
  have hg : fld w 66 63 < 16 := Nat.mod_lt _ (by decide)
  unfold lanePos
  simp only [Bool.false_and, Bool.false_eq_true, if_false]
  split <;> constructor <;> dsimp only <;> omega

/-- Different lanes of a VST have different elements (R103). -/
theorem lanePos_inj {l l' : Nat} (h : lanePos w false l = lanePos w false l') : l = l' := by
  unfold lanePos at h
  simp only [Bool.false_and, Bool.false_eq_true, if_false] at h
  split at h <;> simp only [Prod.mk.injEq] at h <;> omega

/-- The conversion of lane l in formats 0h to 3h (R104). -/
def vstLane (l : Nat) : Converted :=
  let p := lanePos w false l
  convert (plainParams (lsFmt w) (fld w 46 39)) [(64 * p.1 + p.2, valOf (d.lane (fld w 77 72) l))]

/-- The store of lane l in formats 0h to 3h (R104). -/
def vstStore (x : CoreData) (l : Nat) : CoreData :=
  let p := lanePos w false l
  let r := vstLane w d l
  let m := storeCode x.pad (lsFmt w) (64 * fld w 62 47 + p.1 * (lsFmt w).rowBytes) p.2 (r.1.headD 0)
  if d.active (lsMask w) l then ({ x with pad := m } : CoreData).mergeSa (fld w 38 34) r.2.2 else x

theorem vstPlain_eq : vstPlain w d = (List.range 256).foldl (vstStore w d) d := rfl

/-- The element of the slot that lane l has. -/
def laneElem (m : Mem) (l : Nat) : Nat :=
  let p := lanePos w false l
  elemAt m.rd (lsFmt w) (64 * fld w 62 47 + p.1 * (lsFmt w).rowBytes) p.2

variable {w d}

theorem CoreData.Stored.vstStore {x : CoreData} (h : d.Stored w x) {l : Nat} (hl : l < 256) :
    d.Stored w (vstStore w d x l) := by
  unfold Machine.vstStore
  dsimp only
  split
  · obtain ⟨hrow, hcol⟩ := lanePos_lt w hl
    exact h.store _ (fun a => read_storeCode_slot _ _ _ _ hrow hcol)
  · exact h

/-- The scratchpad after the store of an active lane. -/
theorem vstStore_pad {x : CoreData} {l : Nat} (ha : d.active (lsMask w) l = true) : (vstStore w d x l).pad =
    storeCode x.pad (lsFmt w) (64 * fld w 62 47 + (lanePos w false l).1 * (lsFmt w).rowBytes) (lanePos w false l).2
      ((vstLane w d l).1.headD 0) := by
  rw [vstStore, if_pos ha]
  obtain ⟨sas, heq, -⟩ := CoreData.mergeSa_eq _ (fld w 38 34) (vstLane w d l).2.2
  rw [heq]

/-- The store of an active lane gives its element the lane's code. -/
theorem laneElem_vstStore_same (hf : (lsFmt w).isMx = false) (x : CoreData) {l : Nat}
    (ha : d.active (lsMask w) l = true) :
    laneElem w (vstStore w d x l).pad l = (vstLane w d l).1.headD 0 % 2 ^ (lsFmt w).width := by
  obtain ⟨n, hn, hw⟩ := Format.width_of_not_isMx hf
  rw [vstStore_pad ha]
  exact elemAt_storeCode_same hw _ _ _ hn _

/-- The store of a lane leaves the elements of the other lanes alone. -/
theorem laneElem_vstStore_other (hf : (lsFmt w).isMx = false) (x : CoreData) {l l' : Nat} (hl : l < 256)
    (hl' : l' < 256) (h : l' ≠ l) : laneElem w (vstStore w d x l).pad l' = laneElem w x.pad l' := by
  by_cases ha : d.active (lsMask w) l = true
  · rw [vstStore_pad ha]
    exact elemAt_storeCode_other hf _ _ _ (lanePos_lt w hl).2 (lanePos_lt w hl').2
      (fun he => h (lanePos_inj w he))
  · rw [vstStore, if_neg ha]

/-- The lanes stored so far have their codes in their elements. -/
theorem laneElem_foldl_vstStore (hf : (lsFmt w).isMx = false) {n l : Nat} (hn : n ≤ 256) (hl : l < n)
    (ha : d.active (lsMask w) l = true) :
    laneElem w ((List.range n).foldl (vstStore w d) d).pad l
      = (vstLane w d l).1.headD 0 % 2 ^ (lsFmt w).width := by
  induction n with
  | zero => omega
  | succ n ih =>
    rw [List.range_succ, List.foldl_append, List.foldl_cons, List.foldl_nil]
    obtain rfl | hlt : l = n ∨ l < n := by omega
    · exact laneElem_vstStore_same hf _ ha
    · rw [laneElem_vstStore_other hf _ (by omega) (by omega) (by omega), ih (by omega) hlt]

/-- A block's bytes and its scale lie in its slot (R105, R127). -/
theorem read_writeBlock_slot (m : Mem) {f : Format} (hf : f.isMx = true) (a sc : Nat) {codes : List Nat}
    (hcodes : codes.length = 32) {row h b : Nat} (hrow : row < 64) (hh : h < 2)
    (hb : b < a ∨ a + f.slotBytes ≤ b) :
    ((m.writeBytes (a + row * f.rowBytes + h * (f.rowBytes / 2)) (packCodes f codes)).write
      (a + 64 * f.rowBytes + 2 * row + h) sc).read b = m.read b := by
  have hend : row * f.rowBytes + f.rowBytes ≤ 64 * f.rowBytes := by nlinarith
  have hhalf : h * (f.rowBytes / 2) + 4 * f.width ≤ f.rowBytes := by
    unfold Format.rowBytes
    obtain rfl | rfl : h = 0 ∨ h = 1 := by omega
    · omega
    · omega
  have hlen : (packCodes f codes).length = 4 * f.width := by
    rw [packCodes, length_leBytes, hcodes]
    omega
  rw [Format.slotBytes, if_pos hf] at hb
  rw [Mem.write, Mem.read_writeBytes_other (by rw [List.length_singleton]; omega),
    Mem.read_writeBytes_other (by rw [hlen]; omega)]

theorem CoreData.Stored.vstBlock {x : CoreData} (h : d.Stored w x) (hf : (lsFmt w).isMx = true) {k : Nat} (hk : k < 8) :
    d.Stored w (vstBlock w d x k) := by
  unfold Machine.vstBlock
  dsimp only
  split
  · exact h
  · have hg : fld w 66 63 < 16 := Nat.mod_lt _ (by decide)
    exact h.store _ (fun a => read_writeBlock_slot _ hf _ _ (by simp) (by omega) (by omega))

theorem doVst_stored (w : W128) (d : CoreData) : d.Stored w (doVst w d) := by
  unfold doVst
  split
  · next hf =>
    exact List.foldlRecOn (motive := fun x => d.Stored w x) _ _ (.refl w d)
      (fun x hx k hk => hx.vstBlock hf (List.mem_range.1 hk))
  · exact List.foldlRecOn (motive := fun x => d.Stored w x) _ _ (.refl w d)
      (fun x hx l hl => hx.vstStore (List.mem_range.1 hl))

theorem doVst_of_not_isMx (hf : (lsFmt w).isMx = false) : doVst w d = vstPlain w d := by
  rw [doVst, if_neg (by rw [hf]; decide)]

/-- With no active lane nothing is stored. -/
theorem doVst_of_inactive (h : ∀ l, l < 256 → d.active (lsMask w) l = false) : doVst w d = d := by
  unfold doVst
  split
  · refine List.foldlRecOn (motive := fun x => x = d) _ _ rfl (fun x hx k hk => ?_)
    have hidx : (List.range 32).filter (fun i => d.active (lsMask w) (64 * (k / 2) + 32 * (k % 2) + i)) = [] := by
      rw [List.filter_eq_nil_iff]
      intro i hi
      have := List.mem_range.1 hi
      have := List.mem_range.1 hk
      rw [h _ (by omega)]
      decide
    rw [Machine.vstBlock, if_pos hidx, hx]
  · rw [vstPlain_eq]
    refine List.foldlRecOn (motive := fun x => x = d) _ _ rfl (fun x hx l hl => ?_)
    rw [vstStore, if_neg (by rw [h l (List.mem_range.1 hl)]; decide), hx]

end

/-! ### VLD (R104) -/

/-- What lane l of a VLD receives (R59, R104). -/
def vldLane (w : W128) (d : CoreData) (l : Nat) : F32 × Stat :=
  let p := lanePos w true l
  decodeF32 (64 * p.1 + p.2) (slotVal d.pad.rd (lsFmt w) (fld w 46 39) (64 * fld w 62 47) p.1 p.2)

/-- A VLD writes the active lanes of its register and merges the status of the active lanes. -/
theorem doVld_eq (w : W128) (d : CoreData) : ∃ lanes sas, doVld w d = { d with lanes := lanes, sas := sas }
    ∧ (∀ reg l, l < 256 → Tab.get 0 lanes (256 * reg + l) =
        if reg = fld w 77 72 ∧ d.active (lsMask w) l = true then (vldLane w d l).1 else d.lane reg l)
    ∧ (∀ k, k ≠ fld w 38 34 ∨ k = 0x1F → Tab.get ({} : Stat) sas k = d.sa k)
    ∧ (fld w 38 34 ≠ 0x1F → Tab.get ({} : Stat) sas (fld w 38 34) = (d.sa (fld w 38 34)).merge
        (((List.range 256).filter (d.active (lsMask w))).foldl (fun a l => a.merge (vldLane w d l).2) {})) := by
  obtain ⟨lanes, hwrite, hlanes⟩ := d.writeLanes_eq (fld w 77 72) (d.active (lsMask w)) (fun l => (vldLane w d l).1)
  obtain ⟨sas, hmerge, hother, hsame⟩ := CoreData.mergeSa_eq { d with lanes := lanes } (fld w 38 34)
    ((List.range 256).foldl (fun a l => if d.active (lsMask w) l then a.merge (vldLane w d l).2 else a) {})
  refine ⟨lanes, sas, ?_, hlanes, hother, fun h => ?_⟩
  · rw [← hmerge, ← hwrite]
    rfl
  · rw [hsame h, List.foldl_filter]
    rfl

/-! ### Issue (R94, R108) -/

section
variable {s : State} {id op : Nat} {f : Flight}

/-- A count of a core's scratchpad accesses does not tell which command may start. -/
theorem State.startable_countAccess (s : State) (n id op : Nat) :
    (s.addObj (okey (0x8000 + n) 0x0B) 64 1).startable id op = s.startable id op := by
  have hobj : ∀ i j, j < 0x0B → (s.addObj (okey (0x8000 + n) 0x0B) 64 1).obj (okey i j) = s.obj (okey i j) :=
    fun i j hj => State.obj_addObj_other _ _ _ (okey_ne (by omega) (by decide) (.inr (by omega)))
  have hruns : (s.addObj (okey (0x8000 + n) 0x0B) 64 1).dieRuns = s.dieRuns := by
    simp only [State.dieRuns, State.dieResetting, hobj _ 1 (by decide), hobj _ 4 (by decide), hobj _ 5 (by decide)]
    rfl
  unfold State.startable
  rw [hruns]
  rfl

theorem State.updData_eq_updCore (s : State) {n : Nat} {g : CoreData → CoreData} {h : Core → Core}
    (he : { s.core n with data := g (s.core n).data } = h (s.core n)) : s.updData n g = s.updCore n h := by
  unfold State.updData State.updCore Tab.update
  exact congrArg (fun c => ({ s with cores := Tab.put {} s.cores n c } : State)) he

/-- A VLD or VST that may start counts one access and changes its core's data (R94, R108). -/
theorem memoryRow_start (g : W128 → CoreData → CoreData) {h : Core → Core} (hs : s.startable id op = some f)
    (he : { s.core f.core with data := g f.w0 (s.core f.core).data } = h (s.core f.core)) :
    memoryRow op g s (.start id) = ((s.addObj (okey (0x8000 + f.core) 0x0B) 64 1).updCore f.core h).updFlight id
      (fun x => { x with phase := .done }) := by
  have hc := (s.startable_countAccess f.core id op).trans hs
  simp only [memoryRow, State.limberReady, hs, State.issueLimber, hc]
  exact congrArg (State.updFlight · id _) (State.updData_eq_updCore _ he)

/-- A VSTAT that may start writes its record, zeroes its accumulator and passes the record on (R106). -/
theorem startVstat_of_startable (hs : s.startable id 0x62 = some f) :
    let d := (s.core f.core).data
    let k := fld f.w0 77 74
    startVstat s id = ({ s.updCore f.core (fun c => { c with data := { c.data with
          pad := d.pad.writeBytes (64 * fld f.w0 62 47)
            (leBytes 4 (d.sa k).word ++ leBytes 4 (f.core + k * 2 ^ 8) ++ List.replicate 56 0)
          sas := Tab.put {} d.sas k {} } }) with
      scalerQ := s.scalerQ ++ [{ ctx := f.ctx, kind := 1, source := f.core, item := k, stat := d.sa k, ovf := false
                                 ovfPos := 0 }] } : State).updFlight id (fun g => { g with phase := .done }) := by
  intro d k
  rw [startVstat, State.limberReady, hs]
  rfl

end

/-- Settles O19: a VLD is a masked write with a merge, a VST writes lane by lane or block by block inside its slot, each
lane to an element of its own. -/
theorem vectorLoadsStoresAndStatus : Obligations.VectorLoadsStoresAndStatus := by
  refine ⟨?vld, ?vst, ?vstat⟩
  case vld =>
    intro s id f h w d fmt pos one
    obtain ⟨lanes, sas, heq, hlanes, hother, hsame⟩ := doVld_eq w d
    refine ⟨lanes, sas, (need_ok rfl _).trans (congrArg _ (memoryRow_start doVld h ?_)), hlanes, hother, hsame⟩
    exact congrArg (fun x => { s.core f.core with data := x }) heq
  case vst =>
    intro s id f h w d fmt
    have hst := doVst_stored w d
    refine ⟨(doVst w d).pad, (doVst w d).sas, (need_ok rfl _).trans (congrArg _ (memoryRow_start doVst h ?_)),
      hst.pad, fun hf l hl ha => ?_, fun hno => ?_, hst.sas⟩
    · exact congrArg (fun x => { s.core f.core with data := x }) hst.frame
    · rw [doVst_of_not_isMx (w := w) hf]
      exact laneElem_foldl_vstStore hf le_rfl hl ha
    · rw [doVst_of_inactive hno]
      exact ⟨rfl, rfl⟩
  case vstat =>
    intro s id f h w d k
    exact (need_ok rfl _).trans (congrArg _ (startVstat_of_startable h))

end Sys2Proof.Machine

/-!
PROOF. The tile that TILEREL releases, and the conversion set that CVTSC and CVTCL write.
-/

namespace Sys2Proof.Machine

/-! ### A freed tile (R78, R80, R82) -/

/-- A freed tile keeps its overflow flags and their count, which stand below state and owner (R78). -/
theorem Tile.flagsWord_freed (t : Tile) : t.freed.flagsWord % 2 ^ 24 = t.flagsWord % 2 ^ 24 := by
  simp only [Tile.flagsWord, Tile.freed]
  omega

/-- The completion of a releasing command frees its tile (R82). -/
theorem State.tile_engineDone_of_releasing {s : State} {f : Flight} (h : tileUse f.w0 = .releasing) :
    (s.engineDone f).tile f.core (s.cmdTile f.core f.w0) = (s.tile f.core (s.cmdTile f.core f.w0)).freed := by
  unfold State.engineDone
  rw [h]
  dsimp only
  split
  · exact State.tile_updTile_same s ..
  · exact State.tile_updTile_same s ..

/-! ### Conversion sets (R70, R71) -/

/-- A set with the scale and the offset that a CVTSC carries. -/
def ConvSet.loadScale (w : W128) (c : ConvSet) : ConvSet :=
  { c with s := BitVec.ofNat 32 (fld w 63 32), b := BitVec.ofNat 32 (fld w 31 0) }

/-- A set with the tensor scale and the bounds that a CVTCL carries. -/
def ConvSet.loadBounds (w : W128) (c : ConvSet) : ConvSet :=
  { c with tscale := fld w 71 64, hi := BitVec.ofNat 32 (fld w 63 32), lo := BitVec.ofNat 32 (fld w 31 0) }

theorem startCvtsc_of_startable {s : State} {id : Nat} {f : Flight} (h : s.startable id 0x15 = some f) :
    startCvtsc s id = (s.updSet f (ConvSet.loadScale f.w0)).updFlight id (fun g => { g with phase := .done }) := by
  rw [startCvtsc, h]
  rfl

theorem startCvtcl_of_startable {s : State} {id : Nat} {f : Flight} (h : s.startable id 0x16 = some f) :
    startCvtcl s id = (s.updSet f (ConvSet.loadBounds f.w0)).updFlight id (fun g => { g with phase := .done }) := by
  rw [startCvtcl, h]
  rfl

section
variable (s : State) (f : Flight) (g : ConvSet → ConvSet)

/-- Outside its core's conversion sets a change of one leaves everything alone (R71). -/
theorem State.updSet_frame : s.updSet f g = s.updCore f.core (fun c => { c with
    data := { (s.core f.core).data with sets := ((s.updSet f g).core f.core).data.sets } }) := by
  rw [State.updSet, State.core_updData_same]
  rfl

/-- The named set alone changes (R71). -/
theorem State.updSet_spec :
    let pos := s.cmdEng f.core f.w0
    let k := fld f.w0 75 72
    let d := (s.core f.core).data
    let e := ((s.updSet f g).core f.core).data
    e.set pos k = g (d.set pos k)
    ∧ ∀ x, x ≠ 16 * pos + k → Tab.get ({} : ConvSet) e.sets x = Tab.get {} d.sets x := by
  intro pos k d e
  have he : e = { d with sets := Tab.update {} d.sets (16 * pos + k) g } := State.core_updData_same s ..
  rw [he]
  exact ⟨Tab.get_update_same .., fun x hx => Tab.get_update_other _ _ _ hx⟩

end

/-- Settles O14: the completion that frees TILEREL's tile, and the one set that CVTSC and CVTCL change. -/
theorem tilesReleaseAndSetsLoad : Obligations.TilesReleaseAndSetsLoad := by
  refine ⟨?start, fun s f => State.tile_engineDone_of_releasing, fun t => ⟨t.flagsWord_freed, rfl, rfl⟩, ?cvtsc, ?cvtcl⟩
  case start =>
    intro s id f h hfree
    refine (need_ok rfl _).trans (congrArg _ ((startReadout_of_startable h).trans (if_neg ?_)))
    simp [hfree]
  case cvtsc =>
    intro s id f h pos k d
    obtain ⟨hset, hother⟩ := s.updSet_spec f (.loadScale f.w0)
    exact ⟨_, (need_ok rfl _).trans (congrArg _ (startCvtsc_of_startable h)), hset, hother,
      congrArg (State.updFlight · id _) (s.updSet_frame f _)⟩
  case cvtcl =>
    intro s id f h pos k d
    obtain ⟨hset, hother⟩ := s.updSet_spec f (.loadBounds f.w0)
    exact ⟨_, (need_ok rfl _).trans (congrArg _ (startCvtcl_of_startable h)), hset, hother,
      congrArg (State.updFlight · id _) (s.updSet_frame f _)⟩

end Sys2Proof.Machine

/-!
PROOF. Sampled checks: the engine whose turn it is, the check and the arbitration of a capture with their verdict, the
writing out and the run of a kept capture, and the signing of blaze records.
-/

namespace Sys2Proof.Machine

/-! ### The newest record after a report (R291) -/

section
variable (s : State) (code kind source : Nat) (ctx : Option Nat) (detail : Nat) (held abort : Bool) (v : Option Verdict)

/-- After a report the newest record is the fault's, merged or new. -/
theorem State.reportV_newest : ∃ r, (s.reportV code kind source ctx detail held abort v).faults.ring.head? = some r
    ∧ r.code = code ∧ r.kind = kind ∧ r.source = source ∧ r.ctx = ctx := by
  by_cases h : ∃ r rest, s.faults.ring = r :: rest ∧ r.merges code kind source ctx = true
  · obtain ⟨r, rest, hr, hm⟩ := h
    rw [State.reportV_of_merges detail held abort v hr hm, State.finishReport_ring]
    simp only [FaultRec.merges, Bool.and_eq_true, decide_eq_true_eq] at hm
    obtain ⟨⟨⟨⟨hcode, hkind⟩, hsource⟩, hctx⟩, -⟩ := hm
    exact ⟨_, rfl, hcode, hkind, hsource, hctx⟩
  · have hnot : ∀ r rest, s.faults.ring = r :: rest → r.merges code kind source ctx = false :=
      fun r rest hr => Bool.eq_false_iff.2 fun hm => h ⟨r, rest, hr, hm⟩
    rw [State.reportV_of_not_merges detail held abort v hnot, State.finishReport_ring]
    exact ⟨_, rfl, rfl, rfl, rfl, rfl⟩

/-- A report of another code pushes the newest record one place down the ring. -/
theorem State.mem_ring_reportV {r : FaultRec} (hr : s.faults.ring.head? = some r) (hc : r.code ≠ code) :
    r ∈ (s.reportV code kind source ctx detail held abort v).faults.ring := by
  obtain ⟨rest, hring⟩ := List.head?_eq_some_iff.1 hr
  have hnot : ∀ r' rest', s.faults.ring = r' :: rest' → r'.merges code kind source ctx = false := by
    intro r' rest' h
    obtain ⟨rfl, -⟩ := List.cons.inj (hring.symm.trans h)
    simp [FaultRec.merges, hc]
  rw [State.reportV_of_not_merges detail held abort v hnot, State.finishReport_ring]
  change r ∈ List.take 1024 (_ :: s.faults.ring)
  rw [hring, List.take_succ_cons, List.take_succ_cons]
  simp

/-- A report touches the fault and blaze objects alone (R290, R291, R308). -/
theorem State.obj_reportV_other {i j : Nat} (hj : j < 256) (h : i ≠ 0x5000) (h' : i ≠ 0x5400) :
    (s.reportV code kind source ctx detail held abort v).obj (okey i j) = s.obj (okey i j) := by
  obtain ⟨u, r, hu, hobj⟩ := s.reportV_eq_finishReport code kind source ctx detail held abort v
  have hfault : ∀ a, a < 256 → okey i j ≠ okey 0x5000 a := fun a ha => okey_ne hj ha (.inl h)
  have hblaze : okey i j ≠ okey 0x5400 5 := okey_ne hj (by decide) (.inl h')
  rw [hu, State.finishReport, State.faultNotice, State.obj_signal,
    State.obj_setFlag_other _ (hfault 5 (by decide)) (hfault 6 (by decide)), ← hobj _ (hfault 4 (by decide))]
  split
  · exact State.obj_pushBlaze_other _ _ _ hblaze
  · rfl

@[simp] theorem State.reportV_tasks : (s.reportV code kind source ctx detail held abort v).tasks = s.tasks := by
  obtain ⟨b, f, o, p, h⟩ := s.reportV_frame code kind source ctx detail held abort v
  rw [h]
  rfl

end

/-! ### COMMIT_HOLD beside its own objects (R295) -/

section
variable (s : State) (ctx reason code : Nat)

theorem State.obj_setCommitHold_other {i j : Nat} (hj : j < 256) (h : i ≠ intIdx ctx) :
    (s.setCommitHold ctx reason code).obj (okey i j) = s.obj (okey i j) := by
  have hne : ∀ a, a < 256 → okey i j ≠ okey (intIdx ctx) a := fun a ha => okey_ne hj ha (.inl h)
  have hset : ((s.setFlag (okey (intIdx ctx) 1) (okey (intIdx ctx) 2)).setObj (okey (intIdx ctx) 3)
      (s.obj (okey (intIdx ctx) 3) ||| 2 ^ reason)).obj (okey i j) = s.obj (okey i j) := by
    rw [State.obj_setObj_other _ _ (hne 3 (by decide)),
      State.obj_setFlag_other _ (hne 1 (by decide)) (hne 2 (by decide))]
  unfold State.setCommitHold
  dsimp only
  split
  · rw [State.obj_hold, State.obj_updScalerCtx, hset]
  · rw [State.obj_updScalerCtx, hset]

theorem State.setCommitHold_tasks : ∃ x, (s.setCommitHold ctx reason code).tasks = { s.tasks with ctxs := x } := by
  obtain ⟨b, c, x, g, q, p, h⟩ := s.setCommitHold_frame ctx reason code
  rw [h]
  exact ⟨x, rfl⟩

theorem State.setCommitHold_faults : (s.setCommitHold ctx reason code).faults = s.faults := by
  obtain ⟨b, c, x, g, q, p, h⟩ := s.setCommitHold_frame ctx reason code
  rw [h]

/-- COMMIT_HOLD reads 1, and beside the context's integrity objects and its hold nothing that a verdict wrote has
changed. -/
theorem State.setCommitHold_spec :
    let t := s.setCommitHold ctx reason code
    t.obj (okey (intIdx ctx) 1) = 1 ∧ t.faults = s.faults ∧ (∃ x, t.tasks = { s.tasks with ctxs := x })
      ∧ ∀ i j, j < 256 → i ≠ intIdx ctx → t.obj (okey i j) = s.obj (okey i j) :=
  ⟨(s.obj_setCommitHold ctx reason code).1, s.setCommitHold_faults .., s.setCommitHold_tasks ..,
    fun _ _ hj h => s.obj_setCommitHold_other _ _ _ hj h⟩

end

/-! ### The engine whose turn it is (R301; log entry 101) -/

/-- The next checker of a cluster is one of its engines, not fenced, not under reset and not at a check. -/
theorem State.nextChecker_spec {s : State} {cl e : Nat} (h : s.nextChecker cl = some e) :
    e / 64 = cl ∧ s.obj (okey (0x9000 + e) 9) ≠ 1 ∧ s.unitDown (e / 4) = false
      ∧ ∀ c ∈ s.captures, c.phase ≠ .checking e := by
  have hfit := List.find?_some h
  obtain ⟨k, -, rfl⟩ := List.mem_map.1 (List.mem_of_find?_eq_some h)
  simp only [State.engFenced, Bool.and_eq_true, Bool.not_eq_true', decide_eq_false_iff_not, List.all_eq_true,
    decide_eq_true_eq] at hfit
  obtain ⟨⟨hfence, hdown⟩, hfree⟩ := hfit
  exact ⟨by omega, hfence, hdown, hfree⟩

/-! ### CHECK_START and CHECK_COMPLETE (R301) -/

/-- The check and its rows are counted (R301, R310). -/
def State.checkCounted (s : State) (c : Capture) (e : Nat) : State :=
  ((s.checkIssued c e).addObj (okey 0x5010 3) 64 1).addObj (okey (0x5200 + c.engine) 3) 64 1

/-- A mismatch is counted, and the capture waits for an arbiter (R301, R302). -/
def State.toArbiter (s : State) (c : Capture) (e cap digest : Nat) : State :=
  (((s.checkCounted c e).countCheck c 1 1).addObj (okey 0x5010 5) 32 1).updCapture cap (fun x =>
    { x with phase := .arbitrating e, check := digest })

@[simp] theorem State.addObj_tasks (s : State) (k w n : Nat) : (s.addObj k w n).tasks = s.tasks := rfl

@[simp] theorem State.updScalerCtx_tasks (s : State) (ctx : Nat) (f : ScalerCtx → ScalerCtx) :
    (s.updScalerCtx ctx f).tasks = s.tasks := rfl

theorem State.updCapture_tasks (s : State) (id : Nat) (f : Capture → Capture) : (s.updCapture id f).tasks =
    { s.tasks with captures := s.tasks.captures.map (fun c => if c.id = id then f c else c) } := rfl

theorem State.checkCounted_tasks (s : State) (c : Capture) (e : Nat) : (s.checkCounted c e).tasks = s.tasks := by
  simp [State.checkCounted, State.checkIssued]

@[simp] theorem State.obj_updCapture (s : State) (id : Nat) (f : Capture → Capture) (k : Nat) :
    (s.updCapture id f).obj k = s.obj k := rfl

section
variable {s : State} {cap : Nat} {c : Capture}

theorem checkStart_of_capture (h : s.capture cap = some c) (e : Nat) : checkStart s cap e =
    if c.phase = .queued ∧ s.nextChecker ((c.engine / 64 + 1) % 8) = some e ∧ s.dieRuns = true then
      (if s.unitOff (e / 4) then s.turnOn (e / 4)
       else (s.takeCheck c e).updCapture cap (fun x => { x with phase := .checking e }))
    else s := by
  simp [checkStart, h, and_assoc]

/-- No check of the capture ends while the die stands or its engine is under reset. -/
theorem checkComplete_before (h : s.capture cap = some c) (flip : Nat)
    (hno : s.dieRuns = false ∨ ∀ k, c.phase = .checking k → s.unitDown (k / 4) = true) :
    checkComplete s cap flip = s := by
  rw [checkComplete, h]
  dsimp only
  split
  · next e he =>
    rcases hno with hdie | hdown
    · simp [hdie]
    · simp [hdown e he]
  · rfl

theorem checkComplete_of_checking (h : s.capture cap = some c) {e : Nat} (hp : c.phase = .checking e)
    (hdie : s.dieRuns = true) (hdown : s.unitDown (e / 4) = false) (flip : Nat) : checkComplete s cap flip =
    if c.replay ^^^ flip = c.digest then ((s.checkCounted c e).countCheck c 1 0).dropCapture cap
    else (s.toArbiter c e cap (c.replay ^^^ flip)).report 0x4008 2 c.engine (some c.ctx) 0 false false := by
  simp only [checkComplete, h, hp, hdie, hdown, Bool.not_true, Bool.or_self, Bool.false_eq_true, if_false]
  rfl

end

section
variable (s : State) (c : Capture) (e : Nat)

/-- XCHECK_COUNT counts a check that has run (R310). -/
theorem State.obj_checkCounted_count :
    (s.checkCounted c e).obj (okey 0x5010 3) = (s.obj (okey 0x5010 3) + 1) % 2 ^ 64 := by
  have hengine : okey 0x5010 3 ≠ okey (0x5200 + c.engine) 3 := okey_ne (by decide) (by decide) (.inl (by omega))
  have hrows : okey 0x5010 3 ≠ okey (0x5200 + e) 2 := okey_ne (by decide) (by decide) (.inl (by omega))
  rw [State.checkCounted, State.obj_addObj_other _ _ _ hengine, State.obj_addObj_same, State.checkIssued,
    State.obj_addObj_other _ _ _ hrows]

/-- A check that has run leaves the count of mismatches alone (R310). -/
theorem State.obj_checkCounted_mismatches : (s.checkCounted c e).obj (okey 0x5010 5) = s.obj (okey 0x5010 5) := by
  have hengine : okey 0x5010 5 ≠ okey (0x5200 + c.engine) 3 := okey_ne (by decide) (by decide) (.inl (by omega))
  have hcount : okey 0x5010 5 ≠ okey 0x5010 3 := by decide
  have hrows : okey 0x5010 5 ≠ okey (0x5200 + e) 2 := okey_ne (by decide) (by decide) (.inl (by omega))
  rw [State.checkCounted, State.obj_addObj_other _ _ _ hengine, State.obj_addObj_other _ _ _ hcount,
    State.checkIssued, State.obj_addObj_other _ _ _ hrows]

/-- CHECK_MISMATCH is reported of a counted mismatch, whose capture waits for an arbiter (R301, R302). -/
theorem State.toArbiter_report_spec (cap digest : Nat) :
    let t := (s.toArbiter c e cap digest).report 0x4008 2 c.engine (some c.ctx) 0 false false
    t.captures = s.captures.map (fun x =>
        if x.id = cap then { x with phase := .arbitrating e, check := digest } else x)
    ∧ t.obj (okey 0x5010 5) = (s.obj (okey 0x5010 5) + 1) % 2 ^ 32
    ∧ t.obj (okey 0x5010 3) = (s.obj (okey 0x5010 3) + 1) % 2 ^ 64
    ∧ (∃ r, t.faults.ring.head? = some r ∧ r.code = 0x4008 ∧ r.kind = 2 ∧ r.source = c.engine ∧ r.ctx = some c.ctx)
    ∧ t.ctxs = s.ctxs := by
  have hmismatch : (s.toArbiter c e cap digest).obj (okey 0x5010 5) = (s.obj (okey 0x5010 5) + 1) % 2 ^ 32 := by
    rw [State.toArbiter, State.obj_updCapture, State.obj_addObj_same, State.countCheck, State.obj_updScalerCtx,
      State.obj_checkCounted_mismatches]
  have hcount : (s.toArbiter c e cap digest).obj (okey 0x5010 3) = (s.obj (okey 0x5010 3) + 1) % 2 ^ 64 := by
    rw [State.toArbiter, State.obj_updCapture, State.obj_addObj_other _ _ _ (by decide), State.countCheck,
      State.obj_updScalerCtx, State.obj_checkCounted_count]
  have htasks : (s.toArbiter c e cap digest).tasks = { s.tasks with captures := s.captures.map (fun x =>
      if x.id = cap then { x with phase := .arbitrating e, check := digest } else x) } := by
    rw [State.toArbiter, State.updCapture_tasks, State.addObj_tasks, State.countCheck, State.updScalerCtx_tasks,
      State.checkCounted_tasks, State.tasks_captures]
  generalize s.toArbiter c e cap digest = u at hmismatch hcount htasks
  refine ⟨?_, ?_, ?_, u.reportV_newest .., ?_⟩
  · rw [← State.tasks_captures, State.report, State.reportV_tasks, htasks]
  · rw [State.report, State.obj_reportV_other _ _ _ _ _ _ _ _ _ (by decide) (by decide) (by decide), hmismatch]
  · rw [State.report, State.obj_reportV_other _ _ _ _ _ _ _ _ _ (by decide) (by decide) (by decide), hcount]
  · rw [← State.tasks_ctxs, State.report, State.reportV_tasks, htasks, State.tasks_ctxs]

end

/-! ### The charge of an engine (R88, R302) -/

section
variable (s : State) (ctx e : Nat) (v : Verdict)

/-- CONFIRMED of an engine after one more charge (R302). -/
def State.chargedCount (s : State) (e : Nat) : Nat := min 255 (s.obj (okey (0x5200 + e) 1) + 1)

theorem State.chargeEngine_of_fences (h : s.obj (okey 0x5010 2) ≤ s.chargedCount e)
    (hf : s.obj (okey (0x9000 + e) 9) ≠ 1) :
    s.chargeEngine ctx e v = ((s.setObj (okey (0x5200 + e) 1) (s.chargedCount e)).setObj (okey (0x9000 + e) 9) 1).reportV
      0x400A 2 e (some ctx) 0 false false (some { v with confirmed := s.chargedCount e }) := by
  unfold State.chargedCount at *
  simp only [State.chargeEngine, h, State.engFenced, hf, decide_true, decide_false, Bool.not_false, Bool.and_self,
    if_true]

theorem State.chargeEngine_of_not_fences
    (h : ¬ (s.obj (okey 0x5010 2) ≤ s.chargedCount e ∧ s.obj (okey (0x9000 + e) 9) ≠ 1)) :
    s.chargeEngine ctx e v = s.setObj (okey (0x5200 + e) 1) (s.chargedCount e) := by
  unfold State.chargedCount at *
  refine if_neg ?_
  simpa [State.engFenced] using h

theorem State.chargeEngine_tasks : (s.chargeEngine ctx e v).tasks = s.tasks := by
  by_cases h : s.obj (okey 0x5010 2) ≤ s.chargedCount e ∧ s.obj (okey (0x9000 + e) 9) ≠ 1
  · rw [s.chargeEngine_of_fences ctx e v h.1 h.2, State.reportV_tasks]
    rfl
  · rw [s.chargeEngine_of_not_fences ctx e v h]
    rfl

/-- A charge touches the engine's CONFIRMED and FENCED, and the objects of faults and blaze records (R302). -/
theorem State.obj_chargeEngine_other {i j : Nat} (hj : j < 256) (h : i ≠ 0x5000) (h' : i ≠ 0x5400)
    (hc : i ≠ 0x5200 + e) (hf : i ≠ 0x9000 + e) : (s.chargeEngine ctx e v).obj (okey i j) = s.obj (okey i j) := by
  have hcount : okey i j ≠ okey (0x5200 + e) 1 := okey_ne hj (by decide) (.inl hc)
  have hfence : okey i j ≠ okey (0x9000 + e) 9 := okey_ne hj (by decide) (.inl hf)
  by_cases hfs : s.obj (okey 0x5010 2) ≤ s.chargedCount e ∧ s.obj (okey (0x9000 + e) 9) ≠ 1
  · rw [s.chargeEngine_of_fences ctx e v hfs.1 hfs.2, State.obj_reportV_other _ _ _ _ _ _ _ _ _ hj h h',
      State.obj_setObj_other _ _ hfence, State.obj_setObj_other _ _ hcount]
  · rw [s.chargeEngine_of_not_fences ctx e v hfs, State.obj_setObj_other _ _ hcount]

/-- A charge counts in CONFIRMED and fences the engine, reported once, at FENCE_AFTER (R88, R302). -/
theorem State.chargeEngine_spec (he : e < 512) :
    let fence := okey (0x9000 + e) 9
    let t := s.chargeEngine ctx e v
    t.obj (okey (0x5200 + e) 1) = s.chargedCount e
    ∧ (s.obj (okey 0x5010 2) ≤ s.chargedCount e → t.obj fence = 1
      ∧ (s.obj fence ≠ 1 → ∃ r ∈ t.faults.ring, r.code = 0x400A ∧ r.kind = 2 ∧ r.source = e))
    ∧ (s.chargedCount e < s.obj (okey 0x5010 2) → t.obj fence = s.obj fence)
    ∧ ∀ r, s.faults.ring.head? = some r → r.code ≠ 0x400A → r ∈ t.faults.ring := by
  intro fence t
  have hne : okey (0x5200 + e) 1 ≠ fence := okey_ne (by decide) (by decide) (.inl (by omega))
  by_cases hfs : s.obj (okey 0x5010 2) ≤ s.chargedCount e ∧ s.obj fence ≠ 1
  · have ht : t = _ := s.chargeEngine_of_fences ctx e v hfs.1 hfs.2
    have hobj : ∀ i j, j < 256 → i ≠ 0x5000 → i ≠ 0x5400 → t.obj (okey i j) =
        ((s.setObj (okey (0x5200 + e) 1) (s.chargedCount e)).setObj fence 1).obj (okey i j) :=
      fun i j hj h h' => ht ▸ State.obj_reportV_other _ _ _ _ _ _ _ _ _ hj h h'
    have hfence : t.obj fence = 1 := by
      rw [hobj _ _ (by decide) (by omega) (by omega)]
      exact State.obj_setObj_same _ _ _
    obtain ⟨r, hr, hcode, hkind, hsource, -⟩ := State.reportV_newest
      ((s.setObj (okey (0x5200 + e) 1) (s.chargedCount e)).setObj fence 1) 0x400A 2 e (some ctx) 0 false false
      (some { v with confirmed := s.chargedCount e })
    rw [← ht] at hr
    refine ⟨?_, fun _ => ⟨hfence, fun _ => ⟨r, List.mem_of_head? hr, hcode, hkind, hsource⟩⟩,
      fun hlt => absurd hfs.1 (by omega), fun r hr hc => ?_⟩
    · rw [hobj _ _ (by decide) (by omega) (by omega), State.obj_setObj_other _ _ hne, State.obj_setObj_same]
    · rw [ht]
      exact State.mem_ring_reportV _ _ _ _ _ _ _ _ _ hr hc
  · have ht : t = _ := s.chargeEngine_of_not_fences ctx e v hfs
    have hfence : t.obj fence = s.obj fence := by rw [ht, State.obj_setObj_other _ _ hne.symm]
    have hfenced : s.obj (okey 0x5010 2) ≤ s.chargedCount e → s.obj fence = 1 := fun h =>
      not_not.1 fun h1 => hfs ⟨h, h1⟩
    refine ⟨?_, fun h => ⟨hfence.trans (hfenced h), fun h1 => absurd (hfenced h) h1⟩, fun _ => hfence, fun r hr _ => ?_⟩
    · rw [ht, State.obj_setObj_same]
    · rw [ht]
      exact List.mem_of_head? hr

end

/-! ### ARBITRATION_COMPLETE (R302) -/

/-- The verdict on a capture, by the digest that its arbiter finds (R302). -/
def Capture.verdict (c : Capture) (digest : Nat) : Nat :=
  if digest = c.digest then 1 else if digest = c.check then 2 else 3

/-- The verdict's keys in its blaze record, for the checker on engine `k` and the arbiter on engine `e` (R302, R307). -/
def State.verdictOf (s : State) (c : Capture) (k e digest verdict charged : Nat) : Verdict :=
  { verdict := verdict, engines := [c.engine, k, e], opHash := c.hash, cants := c.cants
    digests := [c.digest, c.check, digest], formats := c.formats
    confirmed := if verdict = 3 then s.obj (okey (0x5200 + c.engine) 1)
      else min 255 (s.obj (okey (0x5200 + charged) 1) + 1) }

/-- CHECK_VERDICT is reported of the arbiter's run (R302). -/
def State.judged (s : State) (c : Capture) (k e digest verdict charged : Nat) : State :=
  ((s.takeCheck c e).checkIssued c e).reportV 0x4009 2 charged (some c.ctx) verdict
    (verdict ≠ 1 && s.loaded c.ctx && imgServing (s.ctx c.ctx).image) false
    (some (s.verdictOf c k e digest verdict charged))

/-- The charge of an engine by a verdict that has been reported (R302). -/
def State.charged (s : State) (c : Capture) (k e digest verdict charged : Nat) : State :=
  (s.judged c k e digest verdict charged).chargeEngine c.ctx charged (s.verdictOf c k e digest verdict charged)

/-- What follows from a verdict: the charge, COMMIT_HOLD, and the capture kept or dropped (R302). -/
def State.concluded (s : State) (c : Capture) (k e cap digest verdict : Nat) : State :=
  let charged := if verdict = 1 then k else c.engine
  let s1 := if verdict = 3 then s.judged c k e digest verdict charged else s.charged c k e digest verdict charged
  let s2 := if verdict = 2 then s1.setCommitHold c.ctx 27 0x4009
    else if verdict = 3 then s1.setCommitHold c.ctx 26 0x4009 else s1
  if verdict = 3 then s2.updCapture cap (fun x => { x with phase := .kept }) else s2.dropCapture cap

section
variable (s : State) (c : Capture) (k e cap digest : Nat)

/-- The arbiter agrees with the original: the checker is charged. -/
theorem State.concluded_upheld : s.concluded c k e cap digest 1 = (s.charged c k e digest 1 k).dropCapture cap := by
  simp [State.concluded]

/-- The arbiter agrees with the check: the original is charged, and its context held back. -/
theorem State.concluded_overturned : s.concluded c k e cap digest 2 =
    ((s.charged c k e digest 2 c.engine).setCommitHold c.ctx 27 0x4009).dropCapture cap := by
  simp [State.concluded]

/-- The arbiter agrees with neither: the context is held back and the capture kept. -/
theorem State.concluded_open : s.concluded c k e cap digest 3 =
    ((s.judged c k e digest 3 c.engine).setCommitHold c.ctx 26 0x4009).updCapture cap
      (fun x => { x with phase := .kept }) := by
  simp [State.concluded]

end

section
variable {s : State} {cap e : Nat} {c : Capture} (h : s.capture cap = some c)
include h

theorem arbitrationComplete_before
    (hno : ¬ (s.nextChecker ((c.engine / 64 + 2) % 8) = some e ∧ s.dieRuns = true) ∨ ∀ j, c.phase ≠ .arbitrating j)
    (flip : Nat) : arbitrationComplete s cap e flip = s := by
  rw [arbitrationComplete, h]
  dsimp only
  split
  · next k hk =>
    have hmay := hno.resolve_right fun hn => hn k hk
    refine if_pos ?_
    rwa [Bool.not_eq_true', Bool.and_eq_false_iff, ← Bool.not_eq_true, ← Bool.not_eq_true, decide_eq_true_iff,
      ← not_and_or]
  · rfl

variable {k : Nat} (hp : c.phase = .arbitrating k) (hturn : s.nextChecker ((c.engine / 64 + 2) % 8) = some e)
  (hdie : s.dieRuns = true)
include hp hturn hdie

theorem arbitrationComplete_of_off (hoff : s.unitOff (e / 4) = true) (flip : Nat) :
    arbitrationComplete s cap e flip = s.turnOn (e / 4) := by
  simp [arbitrationComplete, h, hp, hturn, hdie, hoff]

theorem arbitrationComplete_of_on (hon : s.unitOff (e / 4) = false) (flip : Nat) : arbitrationComplete s cap e flip
    = s.concluded c k e cap (c.replay ^^^ flip) (c.verdict (c.replay ^^^ flip)) := by
  have hmay : (!(decide (s.nextChecker ((c.engine / 64 + 2) % 8) = some e) && s.dieRuns)) = false := by
    simp [hturn, hdie]
  rw [arbitrationComplete, h]
  dsimp only
  rw [hp]
  exact (if_neg (Bool.eq_false_iff.1 hmay)).trans (if_neg (Bool.eq_false_iff.1 hon))

end

section
variable (s : State) (c : Capture) (k e cap digest verdict charged : Nat)

theorem State.judged_tasks : (s.judged c k e digest verdict charged).tasks = s.tasks := by
  rw [State.judged, State.reportV_tasks, State.checkIssued, State.addObj_tasks, State.takeCheck, State.addObj_tasks]
  rfl

theorem State.charged_tasks : (s.charged c k e digest verdict charged).tasks = s.tasks := by
  rw [State.charged, State.chargeEngine_tasks, State.judged_tasks]

/-- A verdict touches the objects of faults and blaze records, of the move ports' traffic, and the arbiter's count of rows
(R174, R290, R310). -/
theorem State.obj_judged_other {i j : Nat} (hj : j < 256) (h : i ≠ 0x5000) (h' : i ≠ 0x5400) (ht : i ≠ 0x3510)
    (hr : i ≠ 0x5200 + e ∨ j ≠ 2) : (s.judged c k e digest verdict charged).obj (okey i j) = s.obj (okey i j) := by
  have hrows : okey i j ≠ okey (0x5200 + e) 2 := okey_ne hj (by decide) hr
  have htraffic : okey i j ≠ okey 0x3510 2 := okey_ne hj (by decide) (.inl ht)
  rw [State.judged, State.obj_reportV_other _ _ _ _ _ _ _ _ _ hj h h', State.checkIssued,
    State.obj_addObj_other _ _ _ hrows, State.takeCheck, State.obj_addObj_other _ _ _ htraffic]
  rfl

/-- The newest record after a verdict is CHECK_VERDICT of the engine that it names (R302). -/
theorem State.judged_newest : ∃ r, (s.judged c k e digest verdict charged).faults.ring.head? = some r
    ∧ r.code = 0x4009 ∧ r.kind = 2 ∧ r.source = charged ∧ r.ctx = some c.ctx := State.reportV_newest ..

/-- What the charge by a verdict does: CONFIRMED counts, and at FENCE_AFTER the engine is fenced (R88, R302). -/
theorem State.charged_spec {charged : Nat} (hc : charged < 512) :
    let count := s.chargedCount charged
    let fence := okey (0x9000 + charged) 9
    let t := s.charged c k e digest verdict charged
    (∃ r ∈ t.faults.ring, r.code = 0x4009 ∧ r.kind = 2 ∧ r.source = charged ∧ r.ctx = some c.ctx)
    ∧ t.obj (okey (0x5200 + charged) 1) = count
    ∧ (s.obj (okey 0x5010 2) ≤ count → t.obj fence = 1
      ∧ (s.obj fence ≠ 1 → ∃ r ∈ t.faults.ring, r.code = 0x400A ∧ r.kind = 2 ∧ r.source = charged))
    ∧ (count < s.obj (okey 0x5010 2) → t.obj fence = s.obj fence) := by
  intro count fence t
  obtain ⟨u, hu⟩ : ∃ u, u = s.judged c k e digest verdict charged := ⟨_, rfl⟩
  have ht : t = u.chargeEngine c.ctx charged (s.verdictOf c k e digest verdict charged) := by rw [hu]; rfl
  have hconfirmed : u.obj (okey (0x5200 + charged) 1) = s.obj (okey (0x5200 + charged) 1) := by
    rw [hu, State.obj_judged_other _ _ _ _ _ _ _ (by decide) (by omega) (by omega) (by omega) (.inr (by decide))]
  have hafter : u.obj (okey 0x5010 2) = s.obj (okey 0x5010 2) := by
    rw [hu, State.obj_judged_other _ _ _ _ _ _ _ (by decide) (by decide) (by decide) (by decide) (.inl (by omega))]
  have hfence : u.obj fence = s.obj fence := by
    rw [hu, State.obj_judged_other _ _ _ _ _ _ _ (by decide) (by omega) (by omega) (by omega) (.inr (by decide))]
  have hcount : u.chargedCount charged = count := congrArg (fun x => min 255 (x + 1)) hconfirmed
  obtain ⟨hnew, hfenced, hfree, hold⟩ :=
    u.chargeEngine_spec c.ctx charged (s.verdictOf c k e digest verdict charged) hc
  rw [← ht, hcount] at hnew
  rw [← ht, hcount, hafter, hfence] at hfenced hfree
  obtain ⟨r, hr, hcode, hkind, hsource, hctx⟩ := s.judged_newest c k e digest verdict charged
  rw [← hu] at hr
  refine ⟨⟨r, ?_, hcode, hkind, hsource, hctx⟩, hnew, hfenced, hfree⟩
  rw [ht]
  exact hold r hr (by rw [hcode]; decide)

/-- A charge by a verdict leaves COMMIT_HOLD alone. -/
theorem State.obj_charged_commitHold {charged ctx : Nat} (hx : ctx < 64) :
    (s.charged c k e digest verdict charged).obj (okey (intIdx ctx) 1) = s.obj (okey (intIdx ctx) 1) := by
  have hi : intIdx ctx < 0x5140 ∧ 0x5100 ≤ intIdx ctx := by unfold intIdx; omega
  rw [State.charged, State.obj_chargeEngine_other _ _ _ _ (by decide) (by omega) (by omega) (by omega) (by omega),
    State.obj_judged_other _ _ _ _ _ _ _ (by decide) (by omega) (by omega) (by omega) (.inr (by decide))]

/-- What each verdict leaves: a record, the charge of an engine or the capture kept, COMMIT_HOLD unless the original is
upheld (R302). -/
theorem State.concluded_spec {verdict charged : Nat}
    (h : (verdict = 1 ∧ charged = k) ∨ ((verdict = 2 ∨ verdict = 3) ∧ charged = c.engine))
    (hctx : c.ctx < 64) (hc : charged < 512) :
    let count := s.chargedCount charged
    let fence := okey (0x9000 + charged) 9
    let t := s.concluded c k e cap digest verdict
    (∃ r ∈ t.faults.ring, r.code = 0x4009 ∧ r.kind = 2 ∧ r.source = charged ∧ r.ctx = some c.ctx)
    ∧ (verdict = 3 → t.obj (okey (0x5200 + charged) 1) = s.obj (okey (0x5200 + charged) 1)
        ∧ t.captures = s.captures.map (fun x => if x.id = cap then { x with phase := .kept } else x))
    ∧ (verdict ≠ 3 → t.obj (okey (0x5200 + charged) 1) = count
        ∧ t.captures = s.captures.filter (fun x => x.id ≠ cap)
        ∧ (s.obj (okey 0x5010 2) ≤ count → t.obj fence = 1
          ∧ (s.obj fence ≠ 1 → ∃ r ∈ t.faults.ring, r.code = 0x400A ∧ r.kind = 2 ∧ r.source = charged))
        ∧ (count < s.obj (okey 0x5010 2) → t.obj fence = s.obj fence))
    ∧ (verdict = 1 → t.obj (okey (intIdx c.ctx) 1) = s.obj (okey (intIdx c.ctx) 1) ∧ t.ctxs = s.ctxs)
    ∧ (verdict ≠ 1 → t.obj (okey (intIdx c.ctx) 1) = 1)
    ∧ t.flights = s.flights ∧ t.streams = s.streams ∧ t.cores = s.cores := by
  intro count fence
  have hidx : intIdx c.ctx < 0x5140 := by unfold intIdx; omega
  rcases h with ⟨rfl, rfl⟩ | ⟨rfl | rfl, rfl⟩
  case inl =>
    obtain ⟨hrecord, hcount, hfence, hfree⟩ := s.charged_spec c charged e digest 1 hc
    have htasks := s.charged_tasks c charged e digest 1 charged
    have hhold := s.obj_charged_commitHold c charged e digest 1 (charged := charged) hctx
    rw [State.concluded_upheld]
    generalize s.charged c charged e digest 1 charged = u at *
    refine ⟨hrecord, by simp, fun _ => ⟨hcount, ?_, hfence, hfree⟩, fun _ => ⟨hhold, (congrArg Tasks.ctxs htasks :)⟩,
      by simp,
      (congrArg Tasks.flights htasks :), (congrArg Tasks.streams htasks :), (congrArg Tasks.cores htasks :)⟩
    exact congrArg (List.filter _) (congrArg Tasks.captures htasks :)
  case inr.inl =>
    obtain ⟨hrecord, hcount, hfence, hfree⟩ := s.charged_spec c k e digest 2 hc
    have htasks := s.charged_tasks c k e digest 2 c.engine
    rw [State.concluded_overturned]
    generalize s.charged c k e digest 2 c.engine = u at *
    obtain ⟨hhold, hfaults, ⟨x, hx⟩, hobj⟩ := u.setCommitHold_spec c.ctx 27 0x4009
    generalize u.setCommitHold c.ctx 27 0x4009 = w at *
    rw [htasks] at hx
    rw [← hobj _ _ (by decide) (by omega)] at hcount
    rw [← hfaults] at hrecord
    rw [← hobj _ _ (by decide) (by omega), ← hfaults] at hfence
    rw [← hobj _ _ (by decide) (by omega)] at hfree
    refine ⟨hrecord, by simp, fun _ => ⟨hcount, ?_, hfence, hfree⟩, by simp, fun _ => hhold,
      (congrArg Tasks.flights hx :), (congrArg Tasks.streams hx :), (congrArg Tasks.cores hx :)⟩
    exact congrArg (List.filter _) (congrArg Tasks.captures hx :)
  case inr.inr =>
    have hcount : (s.judged c k e digest 3 c.engine).obj (okey (0x5200 + c.engine) 1) =
        s.obj (okey (0x5200 + c.engine) 1) :=
      s.obj_judged_other _ _ _ _ _ _ (by decide) (by omega) (by omega) (by omega) (.inr (by decide))
    obtain ⟨r, hr, hrecord⟩ := s.judged_newest c k e digest 3 c.engine
    have htasks := s.judged_tasks c k e digest 3 c.engine
    rw [State.concluded_open]
    generalize s.judged c k e digest 3 c.engine = u at *
    obtain ⟨hhold, hfaults, ⟨x, hx⟩, hobj⟩ := u.setCommitHold_spec c.ctx 26 0x4009
    generalize u.setCommitHold c.ctx 26 0x4009 = w at *
    rw [htasks] at hx
    rw [← hfaults] at hr
    refine ⟨⟨r, List.mem_of_head? hr, hrecord⟩, fun _ => ⟨(hobj _ _ (by decide) (by omega)).trans hcount, ?_⟩,
      by simp, by simp, fun _ => hhold,
      (congrArg Tasks.flights hx :), (congrArg Tasks.streams hx :), (congrArg Tasks.cores hx :)⟩
    exact congrArg (List.map _) (congrArg Tasks.captures hx :)

end

/-! ### XCHK_CMD (R302, R304) -/

section
variable {s : State} {path : Nat} (ha : s.access path 0x5500 = 0) (hb : s.obj (okey 0x5500 3) ≠ 1)
include ha hb

/-- Without an allocation that holds it, or without a kept capture, nothing is exported. -/
theorem xchkExport_of_refused (h : s.inLandingAlloc (s.pobj path (okey 0x5500 2)) (s.pobj path (okey 0x5500 1)) (2 ^ 21)
      = false ∨ s.captures.find? (fun c => c.ctx = s.pobj path (okey 0x5500 2) && c.phase = .kept) = none) :
    xchkExport s path = s.setObj (okey 0x5500 3) 3 := by
  rw [xchkExport, State.onCmd_at (by decide) _ ha hb]
  dsimp only
  split
  · rfl
  · next c hc => exact if_pos (by simpa [hc] using h)

theorem xchkExport_of_kept {c : Capture}
    (h : s.inLandingAlloc (s.pobj path (okey 0x5500 2)) (s.pobj path (okey 0x5500 1)) (2 ^ 21) = true)
    (hc : s.captures.find? (fun c => c.ctx = s.pobj path (okey 0x5500 2) && c.phase = .kept) = some c) :
    xchkExport s path = ((s.tierWriteBytes (s.pobj path (okey 0x5500 1)) c.slotBytes).dropCapture c.id).setObj
      (okey 0x5500 3) 2 := by
  rw [xchkExport, State.onCmd_at (by decide) _ ha hb]
  dsimp only
  rw [hc]
  exact if_neg (by rw [h]; decide)

/-- Without an allocation that holds it, or with a malformed header, nothing is run. -/
theorem xchkRun_of_refused (h : s.inLandingAlloc (s.pobj path (okey 0x5500 2)) (s.pobj path (okey 0x5500 1)) (2 ^ 21)
      = false ∨ captureDigest (fun x => s.tierRead (s.pobj path (okey 0x5500 1) + x)) = none) :
    xchkRun s path = s.setObj (okey 0x5500 3) 3 := by
  rw [xchkRun, State.onCmd_at (by decide) _ ha hb]
  dsimp only
  split
  · rfl
  · next hin =>
    have hin' := Bool.eq_false_iff.2 hin
    rw [Bool.not_eq_false'] at hin'
    rw [h.resolve_left (hin'.trans_ne (by decide))]

theorem xchkRun_of_found {d : Nat}
    (h : s.inLandingAlloc (s.pobj path (okey 0x5500 2)) (s.pobj path (okey 0x5500 1)) (2 ^ 21) = true)
    (hd : captureDigest (fun x => s.tierRead (s.pobj path (okey 0x5500 1) + x)) = some d) :
    xchkRun s path = (s.setObj (okey 0x5500 4) d).setObj (okey 0x5500 3) 2 := by
  rw [xchkRun, State.onCmd_at (by decide) _ ha hb]
  dsimp only
  rw [hd]
  exact if_neg (by rw [h]; decide)

end

/-! ### BLAZE_SIGN (R308) -/

/-- The oldest unsigned record of a list is signed: those behind it are signed already. -/
theorem signOldest_append (a : List Blaze) {b : Blaze} {rest : List Blaze} (hb : b.signed = false)
    (hrest : ∀ x ∈ rest, x.signed = true) :
    signOldest (a ++ b :: rest) = a ++ { b with signed := true } :: rest := by
  induction a with
  | nil =>
    have hall : (rest.all (fun x => x.signed) && !b.signed) = true := by simpa [hb] using hrest
    exact if_pos hall
  | cons x a ih =>
    have hall : ((a ++ b :: rest).all (fun x => x.signed) && !x.signed) = false := by simp [hb]
    rw [List.cons_append, signOldest, if_neg (Bool.eq_false_iff.1 hall), ih]
    rfl

/-! ### The statement -/

/-- A capture that no check command names leaves the machine alone. -/
theorem checks_of_no_capture {s : State} {cap : Nat} (h : s.capture cap = none) (e flip : Nat) :
    checkStart s cap e = s ∧ checkComplete s cap flip = s ∧ arbitrationComplete s cap e flip = s := by
  simp [checkStart, checkComplete, arbitrationComplete, h]

theorem State.takeCheck_frame (s : State) (c : Capture) (e : Nat) : ∃ b, s.takeCheck c e =
    { s with turns := Tab.put 0 s.turns (512 + e / 64) (e % 64 + 1), objs := b } := ⟨_, rfl⟩

/-- CHECK_START on an engine whose core is on: the turn passes on, the capture is at its check (R301). -/
theorem State.takeCheck_spec (s : State) (c : Capture) (e cap : Nat) :
    let t := (s.takeCheck c e).updCapture cap (fun x => { x with phase := .checking e })
    t = { s with
        captures := s.captures.map (fun x => if x.id = cap then { x with phase := .checking e } else x)
        turns := Tab.put 0 s.turns (512 + e / 64) (e % 64 + 1), objs := t.objs }
    ∧ t.obj (okey 0x3510 2) = (s.obj (okey 0x3510 2) + c.slotBytes.length) % 2 ^ 64
    ∧ ∀ k, k ≠ okey 0x3510 2 → t.obj k = s.obj k := by
  intro t
  obtain ⟨b, hb⟩ := s.takeCheck_frame c e
  have ht : t = { s with
      captures := s.captures.map (fun x => if x.id = cap then { x with phase := .checking e } else x)
      turns := Tab.put 0 s.turns (512 + e / 64) (e % 64 + 1), objs := b } := by
    unfold t
    rw [hb]
    rfl
  refine ⟨by rw [ht], ?_, fun k hk => ?_⟩
  · rw [State.obj_updCapture, State.takeCheck, State.obj_addObj_same]
    rfl
  · rw [State.obj_updCapture, State.takeCheck, State.obj_addObj_other _ _ _ hk]
    rfl

/-- Settles O48: the equations of check, arbitration and XCHK_CMD, and the verdict's three outcomes. -/
theorem checksRunToAVerdict : Obligations.ChecksRunToAVerdict := by
  refine ⟨?absent, fun s cl e _ => State.nextChecker_spec, ?start, ?complete, ?arbitration, ?xchk, ?sign⟩
  case absent =>
    intro s cap e flip he hflip h
    obtain ⟨hstart, hcomplete, harbiter⟩ := checks_of_no_capture h e flip
    have hw : (decide (e < 512) && decide (flip < 2 ^ 64)) = true := by
      rw [decide_eq_true he, decide_eq_true hflip]
      rfl
    exact ⟨(need_ok (decide_eq_true he) _).trans (congrArg _ hstart),
      (need_ok (decide_eq_true hflip) _).trans (congrArg _ hcomplete), (need_ok hw _).trans (congrArg _ harbiter)⟩
  case start =>
    intro s cap e c he h may
    have hexec : exec (.checkStart cap e) s = .next (checkStart s cap e) := need_ok (decide_eq_true he) _
    rw [hexec, checkStart_of_capture h]
    refine ⟨fun hno => congrArg _ (if_neg hno), fun hm hoff => congrArg _ ((if_pos hm).trans (if_pos hoff)),
      fun hm hon => ⟨_, congrArg _ ((if_pos hm).trans (if_neg (Bool.eq_false_iff.1 hon))), s.takeCheck_spec c e cap⟩⟩
  case complete =>
    intro s cap flip e c hflip h counted digest
    have hexec : exec (.checkComplete cap flip) s = .next (checkComplete s cap flip) :=
      need_ok (decide_eq_true hflip) _
    rw [hexec]
    refine ⟨fun hno => congrArg _ (checkComplete_before h flip hno), fun hp hdie hdown heq => ?_,
      fun hp hdie hdown hne => ?_⟩
    · rw [checkComplete_of_checking h hp hdie hdown, if_pos heq]
      rfl
    · rw [checkComplete_of_checking h hp hdie hdown, if_neg hne]
      exact ⟨_, rfl, s.toArbiter_report_spec c e cap digest⟩
  case arbitration =>
    intro s cap e flip k c he hflip h may digest agrees charged count fence
    have hw : (decide (e < 512) && decide (flip < 2 ^ 64)) = true := by
      rw [decide_eq_true he, decide_eq_true hflip]
      rfl
    have hexec : exec (.arbitrationComplete cap e flip) s = .next (arbitrationComplete s cap e flip) := need_ok hw _
    rw [hexec]
    refine ⟨fun hno => congrArg _ (arbitrationComplete_before h hno flip),
      fun hp hm hoff => congrArg _ (arbitrationComplete_of_off h hp hm.1 hm.2 hoff flip),
      fun hp hm hon hctx hengine hk => ?_⟩
    rw [arbitrationComplete_of_on h hp hm.1 hm.2 hon]
    have hcases : (agrees = 1 ∧ charged = k) ∨ ((agrees = 2 ∨ agrees = 3) ∧ charged = c.engine) := by
      by_cases ho : digest = c.digest
      · exact .inl ⟨if_pos ho, if_pos ho⟩
      · refine .inr ⟨?_, if_neg ho⟩
        simp only [agrees, if_neg ho]
        by_cases hc : digest = c.check <;> simp [hc]
    have hcharged : charged < 512 := by rcases hcases with ⟨-, hc⟩ | ⟨-, hc⟩ <;> omega
    exact ⟨_, rfl, s.concluded_spec c k e cap digest hcases hctx hcharged⟩
  case xchk =>
    intro s path hpath ha hb ctx a placed kept found
    have hexport : exec (.xchkExport path) s = .next (xchkExport s path) := need_ok (decide_eq_true hpath) _
    have hrun : exec (.xchkRun path) s = .next (xchkRun s path) := need_ok (decide_eq_true hpath) _
    rw [hexport, hrun]
    exact ⟨fun h => congrArg _ (xchkExport_of_refused ha hb h), fun c h hc => congrArg _ (xchkExport_of_kept ha hb h hc),
      fun h => congrArg _ (xchkRun_of_refused ha hb h), fun d h hd => congrArg _ (xchkRun_of_found ha hb h hd)⟩
  case sign =>
    intro s
    have hexec : exec .blazeSign s = .next (blazeSign s) := rfl
    rw [hexec]
    refine ⟨fun hdie => congrArg _ (if_neg (Bool.eq_false_iff.1 hdie)), fun hdie a b rest hblazes hb hrest => ?_⟩
    rw [blazeSign, if_pos hdie, hblazes, signOldest_append a hb hrest]

end Sys2Proof.Machine

/-!
PROOF. Pre-emption: a task's data under its new core's engines, the save of a task and of a context, the overrun of a
drain, the restore.
-/

namespace Sys2Proof.Tab

variable {α : Type}

/-! ### Tables under other keys -/

theorem pairwise_of_rising {t : Tab α} (h : rising t = true) : t.Pairwise (fun a b => a.1 < b.1) := by
  induction t with
  | nil => exact .nil
  | cons e t ih =>
    obtain ⟨hlt, hr⟩ := rising_cons.1 h
    exact .cons hlt (ih hr)

section
variable [DecidableEq α]

theorem mem_put {d : α} {t : Tab α} {a : Nat} {v : α} {e : Nat × α} (h : e ∈ put d t a v) :
    e = (a, v) ∨ (e ∈ t ∧ e.1 ≠ a) := by
  unfold put at h
  split at h
  · exact .inr ⟨mem_erase h, erase_ne t a e h⟩
  · rcases mem_insert h with h | h
    · exact .inl h
    · exact .inr ⟨mem_erase h, erase_ne t a e h⟩

/-- The table with every entry written again under another key. -/
def rekey (d : α) (φ : Nat → Nat) (t : Tab α) : Tab α := t.foldl (fun u e => put d u (φ e.1) e.2) []

theorem wf_rekey (d : α) (φ : Nat → Nat) (t : Tab α) : wf d (rekey d φ t) = true :=
  List.foldlRecOn (motive := fun u => wf d u = true) t _ rfl (fun _ hu _ _ => wf_put _ _ hu)

theorem key_of_mem_rekey {d : α} {φ : Nat → Nat} {t : Tab α} {e : Nat × α} (h : e ∈ rekey d φ t) :
    ∃ x ∈ t, e.1 = φ x.1 := by
  refine List.foldlRecOn (motive := fun u : Tab α => ∀ e ∈ u, ∃ x ∈ t, e.1 = φ x.1) t _ ?_ ?_ e h
  · simp
  · intro u hu x hx e he
    rcases mem_put he with rfl | ⟨he, -⟩
    · exact ⟨x, hx, rfl⟩
    · exact hu e he

theorem get_foldl_put_other (d : α) (φ : Nat → Nat) (t u : Tab α) {b : Nat} (h : ∀ e ∈ t, φ e.1 ≠ b) :
    get d (t.foldl (fun u e => put d u (φ e.1) e.2) u) b = get d u b := by
  refine List.foldlRecOn (motive := fun w : Tab α => get d w b = get d u b) t _ rfl (fun w hw e he => ?_)
  rw [get_put_other _ _ (h e he).symm, hw]

/-- The entry of a key stands under its new key, where no other entry was given that. -/
theorem get_rekey (d : α) {φ : Nat → Nat} {t : Tab α} {a : Nat} (ht : t.Pairwise (fun a b => a.1 < b.1))
    (hφ : ∀ e ∈ t, φ e.1 = φ a → e.1 = a) : get d (rekey d φ t) (φ a) = get d t a := by
  have key : ∀ u : Tab α, get d u (φ a) = d →
      get d (t.foldl (fun u e => put d u (φ e.1) e.2) u) (φ a) = get d t a := by
    induction t with
    | nil => exact fun u hu => hu
    | cons e t ih =>
      intro u hu
      obtain ⟨hlt, ht⟩ := List.pairwise_cons.1 ht
      rw [List.foldl_cons]
      by_cases he : e.1 = a
      · have hrest : ∀ x ∈ t, φ x.1 ≠ φ a := fun x hx h => by
          have hxa := hφ x (List.mem_cons_of_mem _ hx) h
          have hlt := hlt x hx
          omega
        rw [get_foldl_put_other d φ t _ hrest, he, get_put_same, get, if_pos he]
      · have hother : φ a ≠ φ e.1 := fun h => he (hφ e List.mem_cons_self h.symm)
        rw [ih ht (fun x hx => hφ x (List.mem_cons_of_mem _ hx)) _ ((get_put_other u e.2 hother).trans hu), get,
          if_neg he]
  exact key [] rfl

end

end Sys2Proof.Tab

namespace Sys2Proof.Machine

/-! ### Engines of a task's data (R275, R279) -/

/-- The key of an engine's entry in a table with `w` places for each engine, under another engine. -/
def engineKey (w : Nat) (f : Nat → Nat) (k : Nat) : Nat := w * f (k / w) + k % w

theorem engineKey_div {w : Nat} (hw : 0 < w) (f : Nat → Nat) (k : Nat) : engineKey w f k / w = f (k / w) := by
  rw [engineKey, Nat.mul_add_div hw, Nat.div_eq_of_lt (Nat.mod_lt _ hw), add_zero]

theorem engineKey_mod (w : Nat) (f : Nat → Nat) (k : Nat) : engineKey w f k % w = k % w := by
  rw [engineKey, Nat.mul_add_mod, Nat.mod_mod]

/-- The place of an engine's entry does not depend on the engine. -/
theorem engineKey_place {w j k : Nat} (f : Nat → Nat) (hk : k < w) : engineKey w f (w * j + k) = w * f j + k := by
  have hw : 0 < w := by omega
  rw [engineKey, Nat.mul_add_div hw, Nat.div_eq_of_lt hk, add_zero, Nat.mul_add_mod, Nat.mod_eq_of_lt hk]

/-- Two entries that another engine's table holds at one place are of one engine, where their engines are told apart. -/
theorem engineKey_inj {w a b : Nat} {f : Nat → Nat} (hw : 0 < w) (hf : f (a / w) = f (b / w) → a / w = b / w)
    (h : engineKey w f a = engineKey w f b) : a = b := by
  have hdiv : a / w = b / w := hf (by rw [← engineKey_div hw f, h, engineKey_div hw f])
  have hmod : a % w = b % w := by rw [← engineKey_mod, h, engineKey_mod]
  rw [← Nat.div_add_mod a w, hdiv, hmod, Nat.div_add_mod]

theorem CoreData.mapEngines_eq (f : Nat → Nat) (d : CoreData) : d.mapEngines f = { d with
    tiles := Tab.rekey {} (engineKey 8 f) d.tiles, sets := Tab.rekey {} (engineKey 16 f) d.sets } := rfl

/-- A table that leaves engine `j` of one core comes back under engine `j` of another (R279, R280). -/
theorem get_rekey_engines {α : Type} [DecidableEq α] (d : α) {t : Tab α} {w j k : Nat} {old new : List Nat}
    (hold : old.Nodup) (hnew : new.Nodup) (hlen : new.length = old.length) (ht : (t.map Prod.fst).Pairwise (· < ·))
    (hmem : ∀ e ∈ t, e.1 / w ∈ old) (hj : j < old.length) (hk : k < w) :
    Tab.get d (Tab.rekey d (engineKey w (fun k => new.getD k k)) (Tab.rekey d (engineKey w (fun k => old.idxOf k)) t))
      (w * new.getD j 0 + k) = Tab.get d t (w * old.getD j 0 + k) := by
  have hw : 0 < w := by omega
  have hjn : j < new.length := by omega
  have hidx : old.idxOf old[j] = j := hold.idxOf_getElem j hj
  have hget : old.getD j 0 = old[j] := List.getD_eq_getElem _ _ hj
  have hgetn : ∀ i x, i < new.length → new.getD i x = new.getD i i := fun i x hi => by
    rw [List.getD_eq_getElem _ _ hi, List.getD_eq_getElem _ _ hi]
  have hdiv : ∀ i, (w * i + k) / w = i := fun i => by
    rw [Nat.mul_add_div hw, Nat.div_eq_of_lt hk, add_zero]
  have hfirst : engineKey w (fun k => old.idxOf k) (w * old.getD j 0 + k) = w * j + k := by
    rw [engineKey_place _ hk, hget, hidx]
  have hsecond : engineKey w (fun k => new.getD k k) (w * j + k) = w * new.getD j 0 + k := by
    rw [engineKey_place _ hk, hgetn j 0 hjn]
  have hwf := Tab.wf_rekey d (engineKey w (fun k => old.idxOf k)) t
  rw [Tab.wf, Bool.and_eq_true] at hwf
  rw [← hsecond, Tab.get_rekey d (Tab.pairwise_of_rising hwf.1), ← hfirst,
    Tab.get_rekey d (List.pairwise_map.1 ht)]
  · intro e he
    refine engineKey_inj hw fun h => ?_
    rw [hdiv] at h ⊢
    exact (List.idxOf_inj (hmem e he)).1 h
  · intro e he
    obtain ⟨x, hx, hkey⟩ := Tab.key_of_mem_rekey he
    have hlt : e.1 / w < new.length := by
      rw [hkey, engineKey_div hw, hlen]
      exact List.idxOf_lt_length_of_mem (hmem x hx)
    refine engineKey_inj hw fun h => ?_
    rw [hdiv] at h ⊢
    rw [List.getD_eq_getElem _ _ hlt, List.getD_eq_getElem _ _ hjn] at h
    exact (hnew.getElem_inj_iff).1 h

/-! ### The save record's place (R279) -/

section
variable (s : State) (a n : Nat)

theorem State.openRange_frame : ∃ l, s.openRange a n = { s with landing := l } := by
  refine List.foldlRecOn (motive := fun t : State => ∃ l, t = { s with landing := l }) _ _ ⟨s.landing, rfl⟩ ?_
  rintro _ ⟨l, rfl⟩ p _
  unfold State.openPage
  dsimp only
  split <;> exact ⟨_, rfl⟩

theorem State.markRange_frame : ∃ g, s.markRange a n = { s with tmap := g } := by
  refine List.foldlRecOn (motive := fun t : State => ∃ g, t = { s with tmap := g }) _ _ ⟨s.tmap, rfl⟩ ?_
  rintro _ ⟨g, rfl⟩ p _
  unfold State.markDirty
  dsimp only
  split <;> exact ⟨_, rfl⟩

theorem State.markRange_after {s t : State} (a n : Nat)
    (h : ∃ l d f h v, t = { s with landing := l, ddr := d, flash := f, host := h, free := v }) : ∃ l d f h v g,
    t.markRange a n = { s with landing := l, ddr := d, flash := f, host := h, free := v, tmap := g } := by
  obtain ⟨l, d, f, h, v, rfl⟩ := h
  obtain ⟨g, hg⟩ :=
    State.markRange_frame { s with landing := l, ddr := d, flash := f, host := h, free := v } a n
  exact ⟨l, d, f, h, v, g, hg⟩

/-- A loss in one region touches memories, the Tier Map and the counter of free values (R163, R261; log entry 6). -/
theorem State.regionLose_frame : ∃ l d f h v g,
    s.regionLose a n = { s with landing := l, ddr := d, flash := f, host := h, free := v, tmap := g } := by
  unfold State.regionLose
  split
  · exact ⟨_, _, _, _, _, _, rfl⟩
  · obtain ⟨l, hl⟩ := s.openRange_frame a n
    rw [hl]
    apply State.markRange_after
    split <;> exact ⟨_, _, _, _, _, rfl⟩

end

/-- A loss of tier bytes touches memories, the Tier Map and the counter of free values alone. -/
theorem State.tierLose_frame (s : State) (a n k : Nat) : ∃ l d f h v g,
    s.tierLose a n k = { s with landing := l, ddr := d, flash := f, host := h, free := v, tmap := g } := by
  induction k generalizing s a n with
  | zero => exact ⟨_, _, _, _, _, _, rfl⟩
  | succ k ih =>
    rw [State.tierLose]
    split
    · exact ⟨_, _, _, _, _, _, rfl⟩
    · obtain ⟨l, d, f, h, v, g, hr⟩ := s.regionLose_frame a (min n (2 ^ 26 - a % 2 ^ 26))
      obtain ⟨l', d', f', h', v', g', ht⟩ := ih (s.regionLose a (min n (2 ^ 26 - a % 2 ^ 26)))
        (a + min n (2 ^ 26 - a % 2 ^ 26)) (n - min n (2 ^ 26 - a % 2 ^ 26))
      refine ⟨l', d', f', h', v', g', ht.trans ?_⟩
      rw [hr]

section
variable {s t : State} (hmap : t.tmap = s.tmap) (hwins : t.hostWins = s.hostWins) (hlanding : t.landing = s.landing)
include hmap hwins hlanding

/-- Tier bytes are copied out by the Tier Map, the host windows and the Landing's contents. -/
theorem State.copyImage_congr (a n : Nat) (m : Mem) (o k : Nat) : t.copyImage a n m o k = s.copyImage a n m o k := by
  have hregion : ∀ r, t.region r = s.region r := fun r => congrArg (fun m : Tab Region => Tab.get ({} : Region) m r) hmap
  have hhome : ∀ g x, t.homeLoc g x = s.homeLoc g x := fun g x => by
    simp only [State.homeLoc, State.hostWin, hwins]
  have hresolve : ∀ x, t.resolve x = s.resolve x := fun x => by
    rw [State.resolve, State.resolve, hregion, hhome]
  induction k generalizing a n m o with
  | zero => rfl
  | succ k ih =>
    rw [State.copyImage, State.copyImage]
    split
    · rfl
    · rw [hresolve, hlanding]
      exact ih _ _ _ _

theorem State.saveArea_congr {ctx : Nat} (himage : (t.ctx ctx).image = (s.ctx ctx).image) (o : Nat) :
    t.saveArea ctx o = s.saveArea ctx o := by
  rw [State.saveArea, State.saveArea, State.saveAddr, State.saveAddr, himage]
  exact State.copyImage_congr hmap hwins hlanding ..

end

/-! ### SAVE_START (R279, R281) -/

/-- The drain of a context depends on its state and its cores. -/
theorem State.drains_congr {s t : State} (h : t.tasks = s.tasks) (ctx : Nat) : t.drains ctx = s.drains ctx := by
  have hcores : t.cores = s.cores := (congrArg Tasks.cores h :)
  unfold State.drains State.coresOf State.core
  rw [State.ctx_of_tasks h, hcores]

/-- The owner key of the task on a core. -/
def State.ownerOn (s : State) (n : Nat) : Nat := 16 * (n / 16) + (s.core n).task

/-- SAVE_START may come: the core drains, no command of its task is left, the die runs. -/
def State.maySave (s : State) (n : Nat) : Prop :=
  (s.core n).phase = .draining ∧ (∀ f ∈ s.flights, f.ctx = (s.core n).ctx → f.owner ≠ s.ownerOn n)
    ∧ s.dieRuns = true

/-- A core that saves, with the bytes of its task's place in the save regions written over (R279; log entry 55). -/
def State.areaWritten (s : State) (n : Nat) : State :=
  (s.updCore n (fun x => { x with phase := .saving })).tierLose (s.saveAddr (s.core n).ctx (s.ownerOn n)) 4788480 2

/-- The save record that a core's task leaves (R279). -/
def State.recordOf (s : State) (n : Nat) : SaveRec :=
  { data := (s.core n).data.mapEngines (fun k => (s.core n).engs.idxOf k)
    area := (s.areaWritten n).saveArea (s.core n).ctx (s.ownerOn n) }

/-- The save of a task with the part of the drain in which events fell (R279, R281; log entry 9). -/
def State.taskSaved (s : State) (n busy : Nat) : State :=
  ((s.areaWritten n).updCtx (s.core n).ctx (fun x =>
    { x with saves := Tab.put {} x.saves (s.ownerOn n) (s.recordOf n) })).drainMore (s.core n).ctx busy

theorem saveStart_guard (s : State) (n : Nat) : ((s.core n).phase ≠ .draining
      || s.flights.any (fun f => f.ctx = (s.core n).ctx && f.owner = s.ownerOn n) || !s.dieRuns) = false
    ↔ s.maySave n := by
  simp [State.maySave, and_assoc]

theorem saveStart_before {s : State} {n : Nat} (h : ¬ s.maySave n) (busy : Nat) : saveStart s n busy = s := by
  rw [← saveStart_guard, Bool.not_eq_false] at h
  exact if_pos h

theorem saveStart_of_may {s : State} {n : Nat} (h : s.maySave n) (busy : Nat) : saveStart s n busy =
    if (s.taskSaved n busy).drains (s.core n).ctx then s.taskSaved n busy
    else (s.taskSaved n busy).countDrain (s.core n).ctx :=
  if_neg (Bool.eq_false_iff.1 ((saveStart_guard s n).2 h))

section
variable (s : State) (n busy : Nat)

theorem State.areaWritten_frame : ∃ l d f h v g, s.areaWritten n =
    { s.updCore n (fun x => { x with phase := .saving }) with
      landing := l, ddr := d, flash := f, host := h, free := v, tmap := g } := State.tierLose_frame ..

/-- What a task's save leaves: the core saving, the context with the record and the drain, everything else of the plans
under way and every object as they were. -/
theorem State.taskSaved_spec :
    let t := s.taskSaved n busy
    t.cores = (s.updCore n (fun x => { x with phase := .saving })).cores
    ∧ t.ctx (s.core n).ctx = { s.ctx (s.core n).ctx with
        saves := Tab.put {} (s.ctx (s.core n).ctx).saves (s.ownerOn n) (s.recordOf n)
        drain := (s.ctx (s.core n).ctx).drain + busy }
    ∧ t.flights = s.flights ∧ t.streams = s.streams ∧ (∀ k, t.obj k = s.obj k) := by
  obtain ⟨l, d, f, h, v, g, hw⟩ := s.areaWritten_frame n
  have hctx : (s.areaWritten n).ctx (s.core n).ctx = s.ctx (s.core n).ctx := by rw [hw]; rfl
  refine ⟨?_, ?_, ?_, ?_, fun k => ?_⟩
  · rw [State.taskSaved, State.drainMore, State.updCtx_cores, State.updCtx_cores, hw]
  · rw [State.taskSaved, State.drainMore, State.ctx_updCtx_same, State.ctx_updCtx_same, hctx]
  · rw [State.taskSaved, State.drainMore, State.updCtx_flights, State.updCtx_flights, hw, State.updCore_flights]
  · rw [State.taskSaved, State.drainMore, State.updCtx_streams, State.updCtx_streams, hw, State.updCore_streams]
  · rw [State.taskSaved, State.drainMore, State.obj_updCtx, State.obj_updCtx, hw]
    rfl

theorem State.recordOf_area :
    (s.recordOf n).area = (s.areaWritten n).saveArea (s.core n).ctx (s.ownerOn n) := rfl

/-- The bytes of a save area do not depend on the context's records and counts. -/
theorem State.saveArea_updCtx_drainMore (ctx o : Nat) {f : Ctx → Ctx} (hf : ∀ x, (f x).image = x.image) :
    ((s.updCtx ctx f).drainMore ctx busy).saveArea ctx o = s.saveArea ctx o := by
  apply State.saveArea_congr
  · rw [State.drainMore, State.updCtx_tmap, State.updCtx_tmap]
  · rw [State.drainMore, State.updCtx_hostWins, State.updCtx_hostWins]
  · rw [State.drainMore, State.updCtx_landing, State.updCtx_landing]
  · rw [State.drainMore, State.ctx_updCtx_same, State.ctx_updCtx_same, hf]

/-- The record holds the bytes of the save area as a save leaves them. -/
theorem State.saveArea_taskSaved :
    (s.taskSaved n busy).saveArea (s.core n).ctx (s.ownerOn n) = (s.recordOf n).area := by
  rw [State.recordOf_area, State.taskSaved]
  exact State.saveArea_updCtx_drainMore _ _ _ _ (fun _ => rfl)

end

/-! ### The count of a drain (R281, R284) -/

section
variable (s : State) (ctx : Nat)

/-- Past 160,000 SCLK an overrun and the excess are counted. -/
theorem State.obj_countDrain_overrun (h : 160000 < (s.ctx ctx).drain) :
    (s.countDrain ctx).obj (okey (ctxIdx ctx) 0x16) = (s.obj (okey (ctxIdx ctx) 0x16) + 1) % 2 ^ 32
    ∧ (s.countDrain ctx).obj (okey (ctxIdx ctx) 0x17)
      = (s.obj (okey (ctxIdx ctx) 0x17) + ((s.ctx ctx).drain - 160000)) % 2 ^ 64 := by
  have h67 : okey (ctxIdx ctx) 0x16 ≠ okey (ctxIdx ctx) 0x17 := okey_ne (by decide) (by decide) (.inr (by decide))
  have h68 : okey (ctxIdx ctx) 0x16 ≠ okey (ctxIdx ctx) 0x18 := okey_ne (by decide) (by decide) (.inr (by decide))
  have h78 : okey (ctxIdx ctx) 0x17 ≠ okey (ctxIdx ctx) 0x18 := okey_ne (by decide) (by decide) (.inr (by decide))
  rw [State.countDrain, if_pos h]
  refine ⟨?_, ?_⟩
  · rw [State.obj_addObj_other _ _ _ h67, State.obj_addObj_same, State.obj_setObj_other _ _ h68]
  · rw [State.obj_addObj_same, State.obj_addObj_other _ _ _ h67.symm, State.obj_setObj_other _ _ h78]

/-- Up to 160,000 SCLK the longest drain alone is kept. -/
theorem State.obj_countDrain_within {j : Nat} (hj : j < 256) (h : (s.ctx ctx).drain ≤ 160000) (h18 : j ≠ 0x18) :
    (s.countDrain ctx).obj (okey (ctxIdx ctx) j) = s.obj (okey (ctxIdx ctx) j) := by
  rw [State.countDrain, if_neg (by omega)]
  exact State.obj_setObj_other _ _ (okey_ne hj (by decide) (.inr h18))

end

/-- SAVE_START: the record, the cores, and the count of a drain that ends (R279, R281, R284). -/
theorem saveStart_spec {s : State} {n busy : Nat} (hm : s.maySave n) :
    let c := s.core n
    let o := s.ownerOn n
    let t := saveStart s n busy
    let drain := (s.ctx c.ctx).drain + busy
    t.core n = { c with phase := .saving }
    ∧ Tab.get {} (t.ctx c.ctx).saves o
        = { data := c.data.mapEngines (fun k => c.engs.idxOf k), area := t.saveArea c.ctx o }
    ∧ (t.ctx c.ctx).drain = drain
    ∧ (∀ k, k ≠ n → t.core k = s.core k) ∧ t.flights = s.flights ∧ t.streams = s.streams
    ∧ (t.drains c.ctx = true → ∀ k, t.obj k = s.obj k)
    ∧ (t.drains c.ctx = false → t.obj (okey (ctxIdx c.ctx) 0x18)
        = max (s.obj (okey (ctxIdx c.ctx) 0x18)) (drain % 2 ^ 32)
      ∧ (drain ≤ 160000 → t.obj (okey (ctxIdx c.ctx) 0x16) = s.obj (okey (ctxIdx c.ctx) 0x16)
        ∧ t.obj (okey (ctxIdx c.ctx) 0x17) = s.obj (okey (ctxIdx c.ctx) 0x17))
      ∧ (160000 < drain → t.obj (okey (ctxIdx c.ctx) 0x16) = (s.obj (okey (ctxIdx c.ctx) 0x16) + 1) % 2 ^ 32
        ∧ t.obj (okey (ctxIdx c.ctx) 0x17) = (s.obj (okey (ctxIdx c.ctx) 0x17) + (drain - 160000)) % 2 ^ 64)) := by
  intro c o t drain
  obtain ⟨u, hu⟩ : ∃ u, u = s.taskSaved n busy := ⟨_, rfl⟩
  obtain ⟨hcores, hctx, hflights, hstreams, hobj⟩ := s.taskSaved_spec n busy
  have ht : t = if u.drains c.ctx then u else u.countDrain c.ctx := hu ▸ saveStart_of_may hm busy
  have hframe : ∃ b, t = { u with objs := b } := by
    rw [ht]
    split
    · exact ⟨u.objs, rfl⟩
    · exact u.countDrain_frame c.ctx
  have harea : t.saveArea c.ctx o = (s.recordOf n).area := by
    obtain ⟨b, hb⟩ := hframe
    rw [← s.saveArea_taskSaved n busy, ← hu, hb]
    exact State.saveArea_congr rfl rfl rfl rfl _
  have hdrains : t.drains c.ctx = u.drains c.ctx := by
    obtain ⟨b, hb⟩ := hframe
    exact State.drains_congr (by rw [hb]; rfl) _
  rw [← hu] at hcores hctx hflights hstreams hobj
  have hdrain : (u.ctx c.ctx).drain = drain := by rw [hctx]
  have hctx' : t.ctx c.ctx = u.ctx c.ctx := by
    obtain ⟨b, hb⟩ := hframe
    rw [hb]
    rfl
  have hcore : ∀ k, t.core k = (s.updCore n (fun x => { x with phase := .saving })).core k := fun k => by
    obtain ⟨b, hb⟩ := hframe
    exact State.core_congr (by rw [hb]; exact hcores) k
  refine ⟨?_, ?_, ?_, fun k hk => ?_, ?_, ?_, fun hd k => ?_, fun hd => ?_⟩
  · rw [hcore, State.core_updCore_same]
  · rw [harea, hctx', hctx, Tab.get_put_same]
    rfl
  · rw [hctx', hdrain]
  · rw [hcore, State.core_updCore_other _ _ hk]
  · obtain ⟨b, hb⟩ := hframe
    rw [hb]
    exact hflights
  · obtain ⟨b, hb⟩ := hframe
    rw [hb]
    exact hstreams
  · rw [ht, if_pos (hdrains ▸ hd), hobj]
  · rw [ht, if_neg (Bool.eq_false_iff.1 (hdrains ▸ hd)), State.obj_countDrain, hdrain, hobj]
    refine ⟨rfl, fun hle => ?_, fun hlt => ?_⟩
    · rw [u.obj_countDrain_within _ (by decide) (hdrain ▸ hle) (by decide),
        u.obj_countDrain_within _ (by decide) (hdrain ▸ hle) (by decide), hobj, hobj]
      exact ⟨rfl, rfl⟩
    · obtain ⟨hover, hexcess⟩ := u.obj_countDrain_overrun c.ctx (hdrain ▸ hlt)
      rw [hover, hexcess, hobj, hobj, hdrain]
      exact ⟨rfl, rfl⟩

/-! ### SAVE_COMPLETE (R279, R282) -/

theorem Tile.freed_freed (t : Tile) : t.freed.freed = t.freed := rfl

theorem CoreData.left_left (d : CoreData) : d.left.left = d.left := by
  have h : (d.left.tiles.map fun e => (e.1, e.2.freed)) = d.left.tiles := by
    simp [CoreData.left, Tile.freed_freed]
  rw [CoreData.left, h]

/-- A saved task leaves its core with its tiles free. -/
def State.retire (s : State) (n : Nat) : State := (s.leaveCore n).updData n CoreData.left

theorem State.core_retire_same (s : State) (n : Nat) :
    ((s.retire n).core n).phase = .free ∧ ((s.retire n).core n).data = (s.core n).data.left := by
  rw [State.retire, State.updData, State.core_updCore_same, State.leaveCore, State.core_updCore_same]
  exact ⟨rfl, rfl⟩

theorem State.core_retire_other (s : State) {n k : Nat} (h : k ≠ n) : (s.retire n).core k = s.core k := by
  rw [State.retire, State.updData, State.core_updCore_other _ _ h, State.leaveCore, State.core_updCore_other _ _ h]

theorem State.core_retires_other (l : List Nat) (s : State) {n : Nat} (h : n ∉ l) :
    (l.foldl State.retire s).core n = s.core n := by
  induction l generalizing s with
  | nil => rfl
  | cons a l ih =>
    obtain ⟨ha, hl⟩ := not_or.1 (mt List.mem_cons.2 h)
    rw [List.foldl_cons, ih _ hl, State.core_retire_other _ ha]

/-- A core left twice is left. -/
theorem State.core_retires (l : List Nat) (s : State) {n : Nat} (h : n ∈ l) :
    ((l.foldl State.retire s).core n).phase = .free
    ∧ ((l.foldl State.retire s).core n).data = (s.core n).data.left := by
  induction l generalizing s with
  | nil => simp at h
  | cons a l ih =>
    rw [List.foldl_cons]
    by_cases hn : n ∈ l
    · obtain ⟨hphase, hdata⟩ := ih (s.retire a) hn
      refine ⟨hphase, hdata.trans ?_⟩
      by_cases ha : n = a
      · subst ha
        rw [(s.core_retire_same n).2, CoreData.left_left]
      · rw [State.core_retire_other _ ha]
    · obtain rfl : n = a := (List.mem_cons.1 h).resolve_right hn
      rw [State.core_retires_other l _ hn]
      exact s.core_retire_same n

theorem State.retires_frame (l : List Nat) (s : State) : ∃ k, l.foldl State.retire s = { s with cores := k } := by
  refine List.foldlRecOn (motive := fun t : State => ∃ k, t = { s with cores := k }) l _ ⟨s.cores, rfl⟩ ?_
  rintro _ ⟨k, rfl⟩ n _
  exact ⟨_, rfl⟩

theorem State.ctx_stamp_same (s : State) (i : Nat) : (s.stamp i).ctx i = { s.ctx i with since := s.seqNo + 1 } :=
  s.ctx_updCtx_same i (fun c => { c with since := s.seqNo + 1 })

/-- A context whose tasks are saved: no places, no pre-emption under way. -/
def Ctx.saved (c : Ctx) : Ctx := { c with st := .saved, places := [], preempted := false }

/-- The saved context waits, and the pre-emption is counted (R278, R284). -/
def State.ctxSaved (s : State) (ctx : Nat) : State :=
  ((((s.coresOf ctx).foldl State.retire s).updCtx ctx Ctx.saved).stamp ctx).addObj (okey (ctxIdx ctx) 0x15) 32 1

section
variable {s : State} {ctx : Nat}

theorem saveComplete_before (h : ¬ ((s.ctx ctx).st = .saving ∧ s.drains ctx = false ∧ s.dieRuns = true)) :
    saveComplete s ctx = s := by
  refine if_pos ?_
  by_contra hg
  simp only [Bool.or_eq_true, decide_eq_true_eq, Bool.not_eq_true', not_or, not_not, Bool.not_eq_true,
    Bool.not_eq_false] at hg
  exact h ⟨hg.1.1, hg.1.2, hg.2⟩

theorem saveComplete_of_may (hst : (s.ctx ctx).st = .saving) (hd : s.drains ctx = false) (hr : s.dieRuns = true) :
    saveComplete s ctx = if (s.ctx ctx).preempted then ((s.ctxSaved ctx).restCheck ctx).planDone ctx
      else (s.ctxSaved ctx).restCheck ctx :=
  if_neg (by simp [hst, hd, hr])

variable (s ctx)

theorem State.ctxSaved_spec :
    let t := s.ctxSaved ctx
    t.cores = ((s.coresOf ctx).foldl State.retire s).cores
    ∧ (t.ctx ctx).st = .saved ∧ (t.ctx ctx).places = [] ∧ (t.ctx ctx).saves = (s.ctx ctx).saves
    ∧ t.streams = s.streams
    ∧ t.obj (okey (ctxIdx ctx) 0x15) = (s.obj (okey (ctxIdx ctx) 0x15) + 1) % 2 ^ 32 := by
  obtain ⟨k, hk⟩ := State.retires_frame (s.coresOf ctx) s
  obtain ⟨u, hu⟩ : ∃ u, u = (s.coresOf ctx).foldl State.retire s := ⟨_, rfl⟩
  have huctx : u.ctx ctx = s.ctx ctx := by rw [hu, hk]; rfl
  have hobj : ∀ a, u.obj a = s.obj a := fun a => by rw [hu, hk]; rfl
  have hstreams : u.streams = s.streams := by rw [hu, hk]
  rw [State.ctxSaved, ← hu]
  have hctx : ((u.updCtx ctx Ctx.saved).stamp ctx).ctx ctx = { (u.ctx ctx).saved with since := u.seqNo + 1 } := by
    rw [State.ctx_stamp_same, State.ctx_updCtx_same]
    rfl
  have htasks : (((u.updCtx ctx Ctx.saved).stamp ctx).addObj (okey (ctxIdx ctx) 0x15) 32 1).ctx ctx
      = { (u.ctx ctx).saved with since := u.seqNo + 1 } := by
    rw [State.ctx_of_tasks (State.addObj_tasks ..), hctx]
  dsimp only
  rw [htasks, Ctx.saved, huctx, State.obj_addObj_same]
  refine ⟨?_, rfl, rfl, rfl, ?_, ?_⟩
  · rw [State.addObj_cores]; rfl
  · rw [State.addObj_streams, ← hstreams]; rfl
  · rw [← hobj]; rfl

end

/-- SAVE_COMPLETE: the cores are left, the context is SAVED and counted, and a pre-emption that waits for it is done. -/
theorem saveComplete_spec {s : State} {ctx : Nat} (hst : (s.ctx ctx).st = .saving) (hd : s.drains ctx = false)
    (hr : s.dieRuns = true) :
    let t := saveComplete s ctx
    (t.ctx ctx).st = .saved ∧ (t.ctx ctx).places = [] ∧ (t.ctx ctx).saves = (s.ctx ctx).saves ∧ t.streams = s.streams
    ∧ (∀ n ∈ s.coresOf ctx, (t.core n).phase = .free ∧ (t.core n).data = (s.core n).data.left)
    ∧ (∀ n, n ∉ s.coresOf ctx → t.core n = s.core n)
    ∧ t.obj (okey (ctxIdx ctx) 0x15) = (s.obj (okey (ctxIdx ctx) 0x15) + 1) % 2 ^ 32
    ∧ ((s.ctx ctx).preempted = true → t.obj (okey (ctxIdx ctx) 3) = 2) := by
  intro t
  obtain ⟨hcores, hsaved, hplaces, hsaves, hstreams, hobj⟩ := s.ctxSaved_spec ctx
  obtain ⟨u, hu⟩ : ∃ u, u = s.ctxSaved ctx := ⟨_, rfl⟩
  have ht : t = if (s.ctx ctx).preempted then (u.restCheck ctx).planDone ctx else u.restCheck ctx :=
    hu ▸ saveComplete_of_may hst hd hr
  rw [← hu] at hcores hsaved hplaces hsaves hstreams hobj
  have htasks : t.tasks = u.tasks := by
    rw [ht]
    split
    · rw [State.planDone_tasks, State.restCheck_tasks]
    · rw [State.restCheck_tasks]
  have hcore : ∀ n, t.core n = ((s.coresOf ctx).foldl State.retire s).core n := fun n =>
    State.core_congr ((congrArg Tasks.cores htasks :).trans hcores) n
  have hcount : t.obj (okey (ctxIdx ctx) 0x15) = u.obj (okey (ctxIdx ctx) 0x15) := by
    have hrest : (u.restCheck ctx).obj (okey (ctxIdx ctx) 0x15) = u.obj (okey (ctxIdx ctx) 0x15) :=
      u.obj_restCheck_other ctx (by decide) (by unfold ctxIdx; omega)
    rw [ht]
    split
    · rw [State.obj_planDone_other _ _ (okey_ne (by decide) (by decide) (.inr (by decide)))
        (okey_ne (by decide) (by decide) (.inr (by decide))), hrest]
    · exact hrest
  rw [State.ctx_of_tasks htasks]
  refine ⟨hsaved, hplaces, hsaves, (congrArg Tasks.streams htasks :).trans hstreams, fun n hn => ?_, fun n hn => ?_,
    hcount.trans hobj, fun hp => ?_⟩
  · rw [hcore]
    exact State.core_retires _ s hn
  · rw [hcore, State.core_retires_other _ s hn]
  · rw [ht, if_pos hp, (State.obj_planDone _ ctx).1]

/-! ### PREEMPT_OVERRUN (R281, R282; log entry 57) -/

/-- The oldest command that a drain or an UNLOAD waits for. -/
def State.oldest (s : State) (ctx : Nat) : Option Flight :=
  s.flights.find? (fun f => f.ctx = ctx && ((s.ctx ctx).st = .unloading || f.owner < 128))

section
variable {s : State} {ctx : Nat}

theorem preemptOverrun_of_oldest {f : Flight} (ho : (s.ctx ctx).overrun = false)
    (hd : s.drains ctx = true ∨ (s.ctx ctx).st = .unloading) (hr : s.dieRuns = true) (hf : s.oldest ctx = some f) :
    preemptOverrun s ctx = (s.updCtx ctx (fun x => { x with overrun := true })).report 0x5015 1
      (if f.owner < 128 then f.core else f.owner) (some ctx) (f.pos * 256 + f.op) false false := by
  rw [State.oldest] at hf
  have hg : ((s.ctx ctx).overrun || !(s.drains ctx || decide ((s.ctx ctx).st = .unloading)) || !s.dieRuns) = false := by
    rcases hd with hd | hd <;> simp [ho, hr, hd]
  rw [preemptOverrun, if_neg (Bool.eq_false_iff.1 hg), hf]

theorem preemptOverrun_before (h : (s.ctx ctx).overrun = true ∨ (s.drains ctx = false ∧ (s.ctx ctx).st ≠ .unloading)
    ∨ s.dieRuns = false ∨ s.oldest ctx = none) : preemptOverrun s ctx = s := by
  rw [preemptOverrun]
  split
  · rfl
  · next hg =>
    simp only [Bool.or_eq_true, Bool.not_eq_true', not_or, not_and, Bool.not_eq_true, Bool.not_eq_false,
      Bool.or_eq_false_iff, decide_eq_false_iff_not] at hg
    have hnone : s.oldest ctx = none := by
      obtain ⟨⟨ho, hd⟩, hr⟩ := hg
      rcases h with h | ⟨h, h'⟩ | h | h
      · exact absurd (h.symm.trans ho) (by decide)
      · exact absurd h' (hd h)
      · exact absurd (hr.symm.trans h) (by decide)
      · exact h
    rw [State.oldest] at hnone
    rw [hnone]

end

/-! ### RESTORE_COMPLETE (R141, R279, R280; log entry 55) -/

/-- RESTORE_COMPLETE may come: the core restores, is powered and not under reset, the die runs. -/
def State.mayRestore (s : State) (n : Nat) : Prop :=
  (s.core n).phase = .restoring ∧ Tab.get false s.power.off n = false ∧ s.dieRuns = true ∧ s.unitDown n = false

/-- The save record of the task on a core. -/
def State.savedOf (s : State) (n : Nat) : SaveRec := Tab.get {} (s.ctx (s.core n).ctx).saves (s.ownerOn n)

/-- No later write has changed the task's save area. -/
def State.saveIntact (s : State) (n : Nat) : Prop := s.saveArea (s.core n).ctx (s.ownerOn n) = (s.savedOf n).area

/-- A core that runs its task again. -/
def Core.resumed (c : Core) : Core := { c with phase := .running }

/-- A task whose record stands comes back with it, under the engines of its new core. -/
def State.readBack (s : State) (n : Nat) : State :=
  (s.updCore n Core.resumed).updCore n (fun x =>
    { x with data := (s.savedOf n).data.mapEngines (fun k => (s.core n).engs.getD k k) })

/-- A task whose record was written over comes back with free data. -/
def State.readFree (s : State) (n : Nat) : State :=
  ((s.updCore n Core.resumed).dropTileCaps (s.savedOf n).data.tiles).restoreFree n (s.core n).ctx (s.ownerOn n)

/-- The context is PLACED with the last task that runs again (R280). -/
def State.placeLast (s : State) (ctx : Nat) : State :=
  if (s.coresOf ctx).all (fun k => (s.core k).phase = .running) && (s.ctx ctx).st = .restoring then
    s.updCtx ctx (fun x => { x with st := .placed, saves := [] })
  else s

section
variable {s : State} {n : Nat}

theorem restoreComplete_guard : ((s.core n).phase ≠ .restoring || Tab.get false s.power.off n || !s.dieRuns
    || s.unitDown n) = false ↔ s.mayRestore n := by
  simp [State.mayRestore, and_assoc]

theorem restoreComplete_before (h : ¬ s.mayRestore n) : restoreComplete s n = s := by
  rw [← restoreComplete_guard, Bool.not_eq_false] at h
  exact if_pos h

theorem restoreComplete_of_lost (h : s.mayRestore n) (hl : s.saveLost (s.core n).ctx = true) : restoreComplete s n =
    if (s.ctx (s.core n).ctx).held then s else s.holdShell 0x2005 n (s.core n).ctx 0 := by
  rw [restoreComplete, if_neg (Bool.eq_false_iff.1 (restoreComplete_guard.2 h)), if_pos hl]

theorem restoreComplete_of_intact (h : s.mayRestore n) (hl : s.saveLost (s.core n).ctx = false)
    (hi : s.saveIntact n) :
    restoreComplete s n = ((s.readBack n).placeLast (s.core n).ctx).restCheck (s.core n).ctx := by
  rw [State.saveIntact, State.ownerOn, State.savedOf, State.ownerOn] at hi
  rw [restoreComplete, if_neg (Bool.eq_false_iff.1 (restoreComplete_guard.2 h)), if_neg (Bool.eq_false_iff.1 hl)]
  dsimp only
  rw [if_pos hi]
  rfl

theorem restoreComplete_of_changed (h : s.mayRestore n) (hl : s.saveLost (s.core n).ctx = false)
    (hi : ¬ s.saveIntact n) :
    restoreComplete s n = ((s.readFree n).placeLast (s.core n).ctx).restCheck (s.core n).ctx := by
  rw [State.saveIntact, State.ownerOn, State.savedOf, State.ownerOn] at hi
  rw [restoreComplete, if_neg (Bool.eq_false_iff.1 (restoreComplete_guard.2 h)), if_neg (Bool.eq_false_iff.1 hl)]
  dsimp only
  rw [if_neg hi]
  rfl

end

/-- From `s` to `t` the task on core `n` runs again with data `d`; no other core, command or context changes. -/
structure State.Resumed (s : State) (n : Nat) (d : CoreData) (t : State) : Prop where
  core : t.core n = { s.core n with phase := .running, data := d }
  cores : ∀ k, k ≠ n → t.core k = s.core k
  mem : ∀ e ∈ t.cores, e.1 = n ∨ (e.1 ≠ n ∧ e ∈ s.cores)
  flights : t.flights = s.flights
  ctxs : t.ctxs = s.ctxs

/-- The entries of a core table after one core changed. -/
theorem State.mem_updCore {s : State} {n : Nat} {f : Core → Core} {e : Nat × Core} (h : e ∈ (s.updCore n f).cores) :
    e.1 = n ∨ (e.1 ≠ n ∧ e ∈ s.cores) := by
  rcases Tab.mem_put h with rfl | ⟨h, hne⟩
  · exact .inl rfl
  · exact .inr ⟨hne, h⟩

section
variable (s : State) (n : Nat)

/-- A core resumed and given data, whatever else happens between. -/
theorem State.resumed_updCore {u : State} {d : CoreData} (hcores : u.cores = (s.updCore n Core.resumed).cores)
    (hflights : u.flights = s.flights) (hctxs : u.ctxs = s.ctxs) :
    s.Resumed n d (u.updCore n (fun x => { x with data := d })) where
  core := by rw [State.core_updCore_same, State.core_congr hcores, State.core_updCore_same, Core.resumed]
  cores k hk := by
    rw [State.core_updCore_other _ _ hk, State.core_congr hcores, State.core_updCore_other _ _ hk]
  mem e he := by
    rcases State.mem_updCore he with he | ⟨hne, he⟩
    · exact .inl he
    · exact State.mem_updCore (hcores ▸ he)
  flights := hflights
  ctxs := hctxs

theorem State.readBack_resumed :
    s.Resumed n ((s.savedOf n).data.mapEngines (fun k => (s.core n).engs.getD k k)) (s.readBack n) :=
  s.resumed_updCore n rfl rfl rfl

theorem State.readBack_streams : (s.readBack n).streams = s.streams ∧ (s.readBack n).tok = s.tok
    ∧ (s.readBack n).acq = s.acq ∧ (s.readBack n).cred = s.cred ∧ (s.readBack n).free = s.free :=
  ⟨rfl, rfl, rfl, rfl, rfl⟩

theorem State.readFree_resumed : s.Resumed n (freeData s.free (s.core n).ctx) (s.readFree n) :=
  s.resumed_updCore n rfl rfl rfl

theorem State.readFree_free : (s.readFree n).free = s.free + 400000 := rfl

theorem State.restoreFree_streams (ctx o : Nat) : (s.restoreFree n ctx o).streams =
    Tab.update {} s.streams (skey ctx o) (fun x => { x with pos := Config.freeValue (s.free + 343000) % 2 ^ 22 }) := rfl

theorem State.readFree_stream {k : Nat} (hk : k ≠ skey (s.core n).ctx (s.ownerOn n)) :
    Tab.get {} (s.readFree n).streams k = Tab.get {} s.streams k := by
  rw [State.readFree, State.restoreFree_streams, Tab.get_update_other _ _ _ hk]
  rfl

end

section
variable (s : State) (ctx : Nat)

/-- Placing a context, and the check of rest after it, change that context and the objects. -/
theorem State.placeLast_frame :
    ∃ b g q p x, (s.placeLast ctx).restCheck ctx =
      { s with objs := b, snag := g, out := q, msixPend := p, ctxs := x } := by
  have hplace : ∃ x, s.placeLast ctx = { s with ctxs := x } := by
    unfold State.placeLast
    split
    · exact ⟨_, rfl⟩
    · exact ⟨s.ctxs, rfl⟩
  obtain ⟨x, hx⟩ := hplace
  obtain ⟨b, g, q, p, h⟩ := (s.placeLast ctx).restCheck_frame ctx
  exact ⟨b, g, q, p, x, by rw [h, hx]⟩

/-- With every task of a restoring context running, the context is PLACED (R280). -/
theorem State.placeLast_placed (hst : (s.ctx ctx).st = .restoring)
    (hall : ∀ k ∈ s.coresOf ctx, (s.core k).phase = .running) :
    (((s.placeLast ctx).restCheck ctx).ctx ctx).st = .placed := by
  have hg : ((s.coresOf ctx).all (fun k => (s.core k).phase = .running) && (s.ctx ctx).st = .restoring) = true := by
    rw [Bool.and_eq_true, List.all_eq_true]
    exact ⟨fun k hk => decide_eq_true (hall k hk), decide_eq_true hst⟩
  rw [State.ctx_of_tasks (State.restCheck_tasks ..), State.placeLast, if_pos hg, State.ctx_updCtx_same]

end

/-- What both ends of a restore leave. -/
theorem State.Resumed.placeLast {s u : State} {n : Nat} {d : CoreData} (h : s.Resumed n d u) :
    let c := s.core n
    let t := (u.placeLast c.ctx).restCheck c.ctx
    t.core n = { c with phase := .running, data := d } ∧ (∀ k, k ≠ n → t.core k = s.core k) ∧ t.flights = s.flights
    ∧ ((s.ctx c.ctx).st = .restoring → (∀ e ∈ s.cores, e.1 ≠ n → e.2.ctx = c.ctx → e.2.phase = .free ∨
        (s.core e.1).phase = .running) → (t.ctx c.ctx).st = .placed) := by
  intro c t
  obtain ⟨b, g, q, p, x, ht⟩ := u.placeLast_frame c.ctx
  have hcore : ∀ k, t.core k = u.core k := fun k => State.core_congr (congrArg State.cores ht) k
  refine ⟨(hcore n).trans h.core, fun k hk => (hcore k).trans (h.cores k hk),
    (congrArg State.flights ht).trans h.flights, fun hst hothers => ?_⟩
  have hctx : u.ctx c.ctx = s.ctx c.ctx := congrArg (fun m : Tab Ctx => Tab.get ({} : Ctx) m c.ctx) h.ctxs
  refine u.placeLast_placed c.ctx (hctx ▸ hst) fun k hk => ?_
  obtain ⟨e, he, rfl⟩ := List.mem_map.1 hk
  obtain ⟨hmem, hbusy⟩ := List.mem_filter.1 he
  simp only [ne_eq, Bool.and_eq_true, decide_not, Bool.not_eq_true', decide_eq_false_iff_not, decide_eq_true_eq] at hbusy
  rcases h.mem e hmem with hn | ⟨hn, hmem⟩
  · rw [hn, h.core]
  · rw [h.cores _ hn]
    exact (hothers e hmem hn hbusy.2).resolve_left hbusy.1

/-- RESTORE_COMPLETE with a record that can be read (R279, R280; log entry 55). -/
theorem restoreComplete_spec {s : State} {n : Nat} (h : s.mayRestore n) (hl : s.saveLost (s.core n).ctx = false) :
    let c := s.core n
    let saved := s.savedOf n
    let t := restoreComplete s n
    (s.saveIntact n → t.core n = { c with phase := .running, data := saved.data.mapEngines (fun k => c.engs.getD k k) }
      ∧ t.streams = s.streams ∧ t.tok = s.tok ∧ t.acq = s.acq ∧ t.cred = s.cred ∧ t.free = s.free)
    ∧ (¬ s.saveIntact n → t.core n = { c with phase := .running, data := freeData s.free c.ctx }
      ∧ t.free = s.free + 400000
      ∧ ∀ k, k ≠ skey c.ctx (s.ownerOn n) → Tab.get {} t.streams k = Tab.get {} s.streams k)
    ∧ (∀ k, k ≠ n → t.core k = s.core k) ∧ t.flights = s.flights
    ∧ ((s.ctx c.ctx).st = .restoring → (∀ e ∈ s.cores, e.1 ≠ n → e.2.ctx = c.ctx → e.2.phase = .free ∨
        (s.core e.1).phase = .running) → (t.ctx c.ctx).st = .placed) := by
  intro c saved t
  by_cases hi : s.saveIntact n
  · obtain ⟨hcore, hrest⟩ := (s.readBack_resumed n).placeLast
    obtain ⟨b, g, q, p, x, hf⟩ := (s.readBack n).placeLast_frame c.ctx
    have ht : t = ((s.readBack n).placeLast c.ctx).restCheck c.ctx := restoreComplete_of_intact h hl hi
    rw [← ht] at hcore hrest hf
    refine ⟨fun _ => ⟨hcore, ?_⟩, fun hn => absurd hi hn, hrest⟩
    rw [hf]
    exact s.readBack_streams n
  · obtain ⟨hcore, hrest⟩ := (s.readFree_resumed n).placeLast
    obtain ⟨b, g, q, p, x, hf⟩ := (s.readFree n).placeLast_frame c.ctx
    have ht : t = ((s.readFree n).placeLast c.ctx).restCheck c.ctx := restoreComplete_of_changed h hl hi
    rw [← ht] at hcore hrest hf
    refine ⟨fun hn => absurd hn hi, fun _ => ⟨hcore, ?_, fun k hk => ?_⟩, hrest⟩
    · rw [hf]
      exact s.readFree_free n
    · rw [hf]
      exact s.readFree_stream n hk

/-- A task's data comes back as it was, its tiles and conversion sets under the new core's engines (R279, R280). -/
theorem CoreData.mapEngines_back (d : CoreData) (old new : List Nat) :
    let r := (d.mapEngines (fun k => old.idxOf k)).mapEngines (fun k => new.getD k k)
    r.pad = d.pad ∧ r.lanes = d.lanes ∧ r.masks = d.masks ∧ r.sas = d.sas ∧ r.wins = d.wins
    ∧ (old.Nodup → new.Nodup → new.length = old.length →
      ((d.tiles.map Prod.fst).Pairwise (· < ·) → (∀ e ∈ d.tiles, e.1 / 8 ∈ old) → ∀ j k, j < old.length → k < 8 →
        Tab.get {} r.tiles (8 * new.getD j 0 + k) = Tab.get {} d.tiles (8 * old.getD j 0 + k))
      ∧ ((d.sets.map Prod.fst).Pairwise (· < ·) → (∀ e ∈ d.sets, e.1 / 16 ∈ old) → ∀ j k, j < old.length → k < 16 →
        Tab.get {} r.sets (16 * new.getD j 0 + k) = Tab.get {} d.sets (16 * old.getD j 0 + k))) := by
  rw [CoreData.mapEngines_eq, CoreData.mapEngines_eq]
  refine ⟨rfl, rfl, rfl, rfl, rfl, fun hold hnew hlen => ⟨fun ht hmem j k hj hk => ?_, fun ht hmem j k hj hk => ?_⟩⟩
  · exact get_rekey_engines {} hold hnew hlen ht hmem hj hk
  · exact get_rekey_engines {} hold hnew hlen ht hmem hj hk

/-! ### The obligation -/

/-- Settles O45: the save, the save's completion, the overrun and the restore each by its equation under its guard, the
engines by tables written under other keys. -/
theorem tasksAreSavedAndRestored : Obligations.TasksAreSavedAndRestored := by
  unfold Obligations.TasksAreSavedAndRestored
  refine ⟨fun s n busy hn => ⟨fun hm => ?_, fun hm => ?_⟩, fun s ctx hctx => ⟨fun hm => ?_, fun hst hd hr => ?_, ?_, ?_⟩,
    fun s n hn => ⟨fun hm => ?_, fun hm hl => ?_, fun hm hl => ?_⟩, CoreData.mapEngines_back⟩
  · exact (need_ok (decide_eq_true hn) _).trans (congrArg _ (saveStart_before hm busy))
  · obtain ⟨hcore, hsave, hdrain, hcores, hflights, hstreams, hwait, hlast⟩ := saveStart_spec (busy := busy) hm
    exact ⟨saveStart s n busy, need_ok (decide_eq_true hn) _, hcore, hsave, hdrain, hcores, hflights, hstreams,
      fun hd k _ => hwait hd k, hlast⟩
  · exact (need_ok (decide_eq_true hctx) _).trans (congrArg _ (saveComplete_before hm))
  · exact ⟨saveComplete s ctx, need_ok (decide_eq_true hctx) _, saveComplete_spec hst hd hr⟩
  · exact fun f ho hd hr hf =>
      (need_ok (decide_eq_true hctx) _).trans (congrArg _ (preemptOverrun_of_oldest ho hd hr hf))
  · exact fun h => (need_ok (decide_eq_true hctx) _).trans (congrArg _ (preemptOverrun_before h))
  · exact (need_ok (decide_eq_true hn) _).trans (congrArg _ (restoreComplete_before hm))
  · exact (need_ok (decide_eq_true hn) _).trans (congrArg _ (restoreComplete_of_lost hm hl))
  · exact ⟨restoreComplete s n, need_ok (decide_eq_true hn) _, restoreComplete_spec hm hl⟩
end Sys2Proof.Machine

/-!
PROOF. Firebreaks: the request and its dump, the contexts that a reset breaks, the reset of a core, of the die and
of the module, and the end.
-/

namespace Sys2Proof.Machine

/-! ### The request (R318, R322, R329) -/

section
variable (s : State) (cause num : Nat)

/-- A dump that starts takes the older slot, a free value and the count of a dump written over (R318). -/
theorem State.startDump_frame : ∃ b d n x, s.startDump cause num = { s with objs := b, dumps := d, free := n }
    ∧ d = Tab.put {} s.dumps s.dumpSlot x ∧ x.st = .writing ∧ x.cause = cause := by
  unfold State.startDump
  dsimp only
  split
  · exact ⟨_, _, _, _, rfl, rfl, rfl, rfl⟩
  · exact ⟨_, _, _, _, rfl, rfl, rfl, rfl⟩

/-- A dump that starts counts at the dump store alone. -/
theorem State.obj_startDump_other {k : Nat} (h : k ≠ okey 0x5700 7) : (s.startDump cause num).obj k = s.obj k := by
  unfold State.startDump
  dsimp only
  split
  · exact (State.obj_addObj_other s.seed.2 _ _ h).trans rfl
  · rfl

/-- A dump that starts runs, in the slot of the older one. -/
theorem State.startDump_runs : (s.startDump cause num).dumping = true
    ∧ ((s.startDump cause num).dump s.dumpSlot).cause = cause := by
  obtain ⟨b, d, n, x, ht, hd, hst, hcause⟩ := s.startDump_frame cause num
  have hx : Tab.get {} (Tab.put {} s.dumps s.dumpSlot x) s.dumpSlot = x := Tab.get_put_same ..
  have hne : x ≠ {} := fun h => by rw [h] at hst; exact absurd hst (by decide)
  have hmem : (s.dumpSlot, x) ∈ Tab.put {} s.dumps s.dumpSlot x := by
    have h := Tab.get_mem (d := ({} : DumpSlot)) (t := Tab.put {} s.dumps s.dumpSlot x) (k := s.dumpSlot) (by rwa [hx])
    rwa [hx] at h
  rw [ht, State.dumping, State.dump, hd, hx]
  exact ⟨List.any_eq_true.2 ⟨_, hmem, decide_eq_true hst⟩, hcause⟩

end

/-- FB_CMD reads 1 with the request noted, no unit touched yet (R322, R329). -/
def State.fbNoted (s : State) (last : Nat) : State :=
  let s1 := (((s.setObj (okey 0x5800 3) 0).setObj fbCmdKey 1).setObj (okey 0x5800 4) 1).setObj (okey 0x5800 5) last
  { s1 with snag := { s1.snag with dumped := false } }

section
variable (s : State) (last : Nat)

theorem State.fbNoted_frame :
    ∃ b, s.fbNoted last = { s with objs := b, snag := { s.snag with dumped := false } } := ⟨_, rfl⟩

theorem State.obj_fbNoted : (s.fbNoted last).obj fbCmdKey = 1 ∧ (s.fbNoted last).obj (okey 0x5800 3) = 0
    ∧ (s.fbNoted last).obj (okey 0x5800 4) = 1
    ∧ (s.fbNoted last).obj (okey 0x5800 5) = last := by
  have hne : ∀ {a b : Nat}, a < 256 → b < 256 → a ≠ b → okey 0x5800 a ≠ okey 0x5800 b :=
    fun ha hb h => okey_ne ha hb (.inr h)
  have hobj : ∀ k, (s.fbNoted last).obj k = ((((s.setObj (okey 0x5800 3) 0).setObj fbCmdKey 1).setObj
    (okey 0x5800 4) 1).setObj (okey 0x5800 5) last).obj k := fun _ => rfl
  simp only [hobj, fbCmdKey]
  refine ⟨?_, ?_, ?_, ?_⟩
  · rw [State.obj_setObj_other _ _ (hne (by decide) (by decide) (by decide)),
      State.obj_setObj_other _ _ (hne (by decide) (by decide) (by decide)), State.obj_setObj_same]
  · rw [State.obj_setObj_other _ _ (hne (by decide) (by decide) (by decide)),
      State.obj_setObj_other _ _ (hne (by decide) (by decide) (by decide)),
      State.obj_setObj_other _ _ (hne (by decide) (by decide) (by decide)), State.obj_setObj_same]
  · rw [State.obj_setObj_other _ _ (hne (by decide) (by decide) (by decide)), State.obj_setObj_same]
  · rw [State.obj_setObj_same]

end

section
variable {s : State} {path code : Nat}

theorem fbRequest_busy (ha : s.access path 0x5800 = 0) (hb : s.obj fbCmdKey = 1) :
    fbRequest s path code = (s.dictRefuse path fbCmdKey 5).setObj (okey 0x5800 3) 1 := by
  rw [fbRequest, if_neg (not_not_intro ha), if_pos hb]

theorem fbRequest_range (ha : s.access path 0x5800 = 0) (hb : s.obj fbCmdKey ≠ 1) (hc : fbUnits code ≠ 0)
    (hu : fbUnits code ≤ s.pobj path (okey 0x5800 1)) :
    fbRequest s path code = (s.setObj (okey 0x5800 3) 2).setObj fbCmdKey 3 := by
  rw [fbRequest, if_neg (not_not_intro ha), if_neg hb, if_neg hc]
  dsimp only
  rw [if_pos hu]

theorem fbRequest_accepted (ha : s.access path 0x5800 = 0) (hb : s.obj fbCmdKey ≠ 1)
    (hu : s.pobj path (okey 0x5800 1) < fbUnits code) :
    fbRequest s path code = if (s.fbNoted (code * 2 ^ 24 + s.pobj path (okey 0x5800 1) * 2 ^ 16)).dumping
      then s.fbNoted (code * 2 ^ 24 + s.pobj path (okey 0x5800 1) * 2 ^ 16)
      else (s.fbNoted (code * 2 ^ 24 + s.pobj path (okey 0x5800 1) * 2 ^ 16)).startDump 2 code := by
  rw [fbRequest, if_neg (not_not_intro ha), if_neg hb, if_neg (by omega)]
  dsimp only
  rw [if_neg (by omega)]
  rfl

end

/-- An accepted request: the request is noted and a dump runs (R318, R322). -/
theorem fbRequest_spec {s : State} {path code : Nat} (ha : s.access path 0x5800 = 0) (hb : s.obj fbCmdKey ≠ 1)
    (hu : s.pobj path (okey 0x5800 1) < fbUnits code) :
    let t := fbRequest s path code
    t = { s with objs := t.objs, dumps := t.dumps, free := t.free, snag := { s.snag with dumped := false } }
    ∧ t.obj fbCmdKey = 1 ∧ t.obj (okey 0x5800 3) = 0 ∧ t.obj (okey 0x5800 4) = 1
    ∧ t.obj (okey 0x5800 5) = code * 2 ^ 24 + s.pobj path (okey 0x5800 1) * 2 ^ 16 ∧ t.dumping = true
    ∧ (s.dumping = true → t.dumps = s.dumps) ∧ (s.dumping = false → (t.dump s.dumpSlot).cause = 2) := by
  intro t
  obtain ⟨u, hu'⟩ : ∃ u, u = s.fbNoted (code * 2 ^ 24 + s.pobj path (okey 0x5800 1) * 2 ^ 16) := ⟨_, rfl⟩
  have ht : t = if u.dumping then u else u.startDump 2 code := hu' ▸ fbRequest_accepted ha hb hu
  obtain ⟨b, hnoted⟩ := s.fbNoted_frame (code * 2 ^ 24 + s.pobj path (okey 0x5800 1) * 2 ^ 16)
  obtain ⟨hcmd, hresult, hstate, hlast⟩ := s.obj_fbNoted (code * 2 ^ 24 + s.pobj path (okey 0x5800 1) * 2 ^ 16)
  rw [← hu'] at hnoted hcmd hresult hstate hlast
  have hdumping : u.dumping = s.dumping := by rw [hnoted]; rfl
  have hslot : u.dumpSlot = s.dumpSlot := by rw [hnoted]; rfl
  cases hd : s.dumping with
  | true =>
    have htu : t = u := ht.trans (if_pos (hdumping.trans hd))
    rw [htu]
    refine ⟨by rw [hnoted], hcmd, hresult, hstate, hlast, hdumping.trans hd, fun _ => by rw [hnoted], by simp⟩
  | false =>
    have htu : t = u.startDump 2 code := ht.trans (if_neg (by simp [hdumping, hd]))
    obtain ⟨b', d, n, x, hframe, -⟩ := u.startDump_frame 2 code
    obtain ⟨hruns, hcause⟩ := u.startDump_runs 2 code
    have hne : ∀ a, a < 256 → okey 0x5800 a ≠ okey 0x5700 7 := fun a ha => okey_ne ha (by decide) (.inl (by decide))
    rw [htu]
    refine ⟨by rw [hframe, hnoted], ?_, ?_, ?_, ?_, hruns, by simp, fun _ => hslot ▸ hcause⟩
    · exact (u.obj_startDump_other _ _ (hne 2 (by decide))).trans hcmd
    · exact (u.obj_startDump_other _ _ (hne 3 (by decide))).trans hresult
    · exact (u.obj_startDump_other _ _ (hne 4 (by decide))).trans hstate
    · exact (u.obj_startDump_other _ _ (hne 5 (by decide))).trans hlast

/-- The seven rows are the requests of their codes, for the units that FB_UNIT may name (R323, R329). -/
theorem exec_fbRows {s : State} {path : Nat} (hp : path < 18) : ∀ r ∈ Claims.fbRows path,
    exec r.1 s = .next (fbRequest s path r.2.1) ∧ fbUnits r.2.1 = r.2.2 ∧ r.2.2 ≠ 0 := by
  have hok : pathOk path = true := decide_eq_true hp
  simp only [Claims.fbRows, List.forall_mem_cons, List.not_mem_nil, false_imp_iff, implies_true, and_true]
  refine ⟨⟨need_ok hok _, rfl, ?_⟩, ⟨need_ok hok _, rfl, ?_⟩, ⟨need_ok hok _, rfl, ?_⟩, ⟨need_ok hok _, rfl, ?_⟩,
    ⟨need_ok hok _, rfl, ?_⟩, ⟨need_ok hok _, rfl, ?_⟩, ⟨need_ok hok _, rfl, ?_⟩⟩ <;> decide

/-! ### FIREBREAK_RESET and FIREBREAK_COMPLETE (R322, R323) -/

/-- The reset may come: the request was noted and its dump has been taken. -/
def State.fbDue (s : State) : Prop := s.obj (okey 0x5800 4) = 1 ∧ s.snag.dumped = true ∧ s.dumping = false

/-- The code and the unit of the last request. -/
def State.fbCode (s : State) : Nat := s.obj (okey 0x5800 5) / 2 ^ 24

def State.fbUnit (s : State) : Nat := s.obj (okey 0x5800 5) / 2 ^ 16 % 256

/-- The contexts broken and the units reset. -/
def State.unitsReset (s : State) (code unit : Nat) : State :=
  ((s.setObj (okey 0x5800 4) 2).breakAll code unit).resetUnits code unit

/-- The units in scope, the reset counted and reported (R322, R323). -/
def State.fbReported (s : State) (code unit : Nat) : State :=
  (({ s with downUnits := fbScope code unit } : State).addObj (okey 0x5800 6) 32 1).report 0x8003 8 0 none
    (code * 256 + unit) (code ≤ 3 || code = 5) false

/-- A module firebreak: the module reset, with the fault latched for the Camp (log entry 71). -/
def State.moduleBroken (s : State) (code unit : Nat) : State :=
  let t := (s.addObj (okey 0x5800 6) 32 1).moduleReset 3
  { t with power := { t.power with latched := t.power.latched ++ [(0x8003, code * 256 + unit)] } }

section
variable {s : State}

theorem firebreakReset_guard :
    (s.obj (okey 0x5800 4) ≠ 1 || !s.snag.dumped || s.dumping) = false ↔ s.fbDue := by
  simp [State.fbDue, and_assoc]

theorem firebreakReset_before (h : ¬ s.fbDue) : firebreakReset s = s := by
  rw [← firebreakReset_guard, Bool.not_eq_false] at h
  exact if_pos h

theorem firebreakReset_of_units (h : s.fbDue) (hc : s.fbCode ≠ 7) :
    firebreakReset s = (s.unitsReset s.fbCode s.fbUnit).fbReported s.fbCode s.fbUnit := by
  rw [firebreakReset, if_neg (Bool.eq_false_iff.1 (firebreakReset_guard.2 h))]
  exact if_neg hc

theorem firebreakReset_of_module (h : s.fbDue) (hc : s.fbCode = 7) :
    firebreakReset s = s.moduleBroken s.fbCode s.fbUnit := by
  rw [firebreakReset, if_neg (Bool.eq_false_iff.1 (firebreakReset_guard.2 h))]
  exact if_pos hc

theorem firebreakComplete_before (h : s.obj (okey 0x5800 4) ≠ 2) : firebreakComplete s = s := if_pos h

theorem firebreakComplete_of_running (h : s.obj (okey 0x5800 4) = 2) : firebreakComplete s =
    { (s.setObj (okey 0x5800 4) 0).setObj fbCmdKey 2 with downUnits := [] } := if_neg (not_not_intro h)

end

/-- A report of the reset and its count touch objects, the fault records and the interrupts. -/
theorem State.fbReported_frame (s : State) (code unit : Nat) : ∃ b f o p, s.fbReported code unit =
    { s with objs := b, faults := f, out := o, msixPend := p, downUnits := fbScope code unit } := by
  obtain ⟨b, f, o, p, h⟩ := (({ s with downUnits := fbScope code unit } : State).addObj (okey 0x5800 6) 32 1).report_frame
    0x8003 8 0 none (code * 256 + unit) (code ≤ 3 || code = 5) false
  exact ⟨b, f, o, p, h⟩

/-- Beside FB_COUNT and the fault and blaze objects the report leaves every object. -/
theorem State.obj_fbReported_other (s : State) (code unit : Nat) {i j : Nat} (hj : j < 256) (hi : i ≠ 0x5800)
    (h : i ≠ 0x5000) (h' : i ≠ 0x5400) : (s.fbReported code unit).obj (okey i j) = s.obj (okey i j) := by
  rw [State.fbReported]
  refine (State.obj_reportV_other _ _ _ _ _ _ _ _ _ hj h h').trans ?_
  rw [State.obj_addObj_other _ _ _ (okey_ne hj (by decide) (.inl hi))]
  rfl

/-! ### The contexts that a reset breaks (R324) -/

/-- A context that a reset has broken. -/
def Ctx.isBroken (c : Ctx) : Prop := c.held = true ∧ c.broken = true

/-- Beside a context's hold nothing of the contexts changes. -/
theorem State.hold_ctxs (s : State) (c code : Nat) : (s.hold c code).ctxs = if (s.ctx c).held then s.ctxs
    else (s.updCtx c (fun x => { x with held := true, holdFault := code })).ctxs := by
  unfold State.hold
  split
  · rfl
  · rw [← State.tasks_ctxs]
    obtain ⟨g, q, p, h⟩ := State.noteReplay_frame
      ((s.updCtx c (fun x => { x with held := true, holdFault := code })).signal (s.obj (okey (0x2000 + c) 8))) c 3 code 0
    rw [h]
    exact congrArg Tasks.ctxs (State.signal_tasks _ _)

theorem State.ctx_congr {s t : State} (h : t.ctxs = s.ctxs) (i : Nat) : t.ctx i = s.ctx i :=
  congrArg (fun x : Tab Ctx => Tab.get ({} : Ctx) x i) h

/-- A held context is held; the others are as they were. -/
theorem State.held_hold (s : State) (c code : Nat) : ((s.hold c code).ctx c).held = true
    ∧ ((s.hold c code).ctx c).broken = (s.ctx c).broken ∧ ∀ k, k ≠ c → (s.hold c code).ctx k = s.ctx k := by
  have h := s.hold_ctxs c code
  cases hc : (s.ctx c).held with
  | true =>
    rw [hc, if_pos rfl] at h
    rw [State.ctx_congr h, hc]
    exact ⟨rfl, rfl, fun k _ => State.ctx_congr h k⟩
  | false =>
    rw [hc, if_neg (by decide)] at h
    rw [State.ctx_congr h, State.ctx_updCtx_same]
    exact ⟨rfl, rfl, fun k hk => (State.ctx_congr h k).trans (State.ctx_updCtx_other _ _ hk)⟩

/-- One context is broken and held with HOLD_FAULT 8003h. -/
def State.breakOne (s : State) (c : Nat) : State :=
  ((s.updCtx c (fun x => { x with broken := true })).hold c 0x8003).updCtx c (fun x => { x with holdFault := 0x8003 })

section
variable (s : State) (c : Nat)

theorem State.breakOne_frame : ∃ x g q p, s.breakOne c = { s with ctxs := x, snag := g, out := q, msixPend := p } := by
  obtain ⟨x, g, q, p, h⟩ := (s.updCtx c (fun x => { x with broken := true })).hold_frame c 0x8003
  rw [State.breakOne, h]
  exact ⟨_, g, q, p, rfl⟩

theorem State.breakOne_isBroken : ((s.breakOne c).ctx c).isBroken := by
  obtain ⟨hheld, hbroken, -⟩ := (s.updCtx c (fun x => { x with broken := true })).held_hold c 0x8003
  rw [State.breakOne, State.ctx_updCtx_same]
  refine ⟨hheld, hbroken.trans ?_⟩
  rw [State.ctx_updCtx_same]

theorem State.breakOne_other {k : Nat} (h : k ≠ c) : (s.breakOne c).ctx k = s.ctx k := by
  obtain ⟨-, -, hother⟩ := (s.updCtx c (fun x => { x with broken := true })).held_hold c 0x8003
  rw [State.breakOne, State.ctx_updCtx_other _ _ h, hother k h, State.ctx_updCtx_other _ _ h]

theorem State.breakOne_keeps {k : Nat} (h : (s.ctx k).isBroken) : ((s.breakOne c).ctx k).isBroken := by
  by_cases hk : k = c
  · exact hk ▸ s.breakOne_isBroken c
  · rwa [s.breakOne_other c hk]

end

section
variable (l : List Nat) (s : State)

theorem State.breaksAll_frame :
    ∃ x g q p, l.foldl State.breakOne s = { s with ctxs := x, snag := g, out := q, msixPend := p } := by
  refine List.foldlRecOn (motive := fun t : State => ∃ x g q p,
    t = { s with ctxs := x, snag := g, out := q, msixPend := p }) l _ ⟨s.ctxs, s.snag, s.out, s.msixPend, rfl⟩ ?_
  rintro _ ⟨x, g, q, p, rfl⟩ c _
  obtain ⟨x', g', q', p', h⟩ :=
    State.breakOne_frame { s with ctxs := x, snag := g, out := q, msixPend := p } c
  exact ⟨x', g', q', p', h⟩

theorem State.breaksAll_isBroken {c : Nat} (h : c ∈ l ∨ (s.ctx c).isBroken) :
    ((l.foldl State.breakOne s).ctx c).isBroken := by
  induction l generalizing s with
  | nil => simpa using h
  | cons a l ih =>
    refine ih _ ?_
    rcases h with h | h
    · rcases List.mem_cons.1 h with rfl | h
      · exact .inr (s.breakOne_isBroken c)
      · exact .inl h
    · exact .inr (s.breakOne_keeps a h)

end

section
variable (s : State) (code unit : Nat)

theorem State.breakAll_eq (h : code ≤ 3 ∨ code = 5) :
    s.breakAll code unit = ((List.range 64).filter (s.breaks code unit)).foldl State.breakOne s := by
  have hg : ¬ ((decide (3 < code) && decide (code ≠ 5)) = true) := by
    simp only [Bool.and_eq_true, decide_eq_true_eq]
    omega
  exact if_neg hg

/-- Resets of links, of the die and of the module break no context (R324). -/
theorem State.breakAll_none (h : 3 < code) (h5 : code ≠ 5) : s.breakAll code unit = s := by
  have hg : (decide (3 < code) && decide (code ≠ 5)) = true := by
    simp only [Bool.and_eq_true, decide_eq_true_eq]
    exact ⟨h, h5⟩
  exact if_pos hg

end

/-! ### Commands that end without completing (R117, R150) -/

/-- From `s` to `t` commands have gone; memories, the Tier Map and the contexts' holds stand. -/
structure State.Fewer (s t : State) : Prop where
  flights : ∀ f ∈ t.flights, f ∈ s.flights
  ddr : t.ddr = s.ddr
  tmap : t.tmap = s.tmap
  ctxs : ∀ c, (t.ctx c).held = (s.ctx c).held ∧ (t.ctx c).broken = (s.ctx c).broken

theorem State.Fewer.refl (s : State) : s.Fewer s := ⟨fun _ h => h, rfl, rfl, fun _ => ⟨rfl, rfl⟩⟩

theorem State.Fewer.trans {s t u : State} (h : s.Fewer t) (h' : t.Fewer u) : s.Fewer u where
  flights f hf := h.flights f (h'.flights f hf)
  ddr := h'.ddr.trans h.ddr
  tmap := h'.tmap.trans h.tmap
  ctxs c := ⟨(h'.ctxs c).1.trans (h.ctxs c).1, (h'.ctxs c).2.trans (h.ctxs c).2⟩

theorem State.Fewer.isBroken {s t : State} (h : s.Fewer t) {c : Nat} (hc : (s.ctx c).isBroken) : (t.ctx c).isBroken :=
  ⟨(h.ctxs c).1.trans hc.1, (h.ctxs c).2.trans hc.2⟩

/-- A task's place given up leaves the hold of every context. -/
theorem State.kept_freePlace (s : State) (i o c : Nat) :
    ((s.updCtx i (fun x => { x with places := Tab.put 0 x.places o 0 })).ctx c).held = (s.ctx c).held
    ∧ ((s.updCtx i (fun x => { x with places := Tab.put 0 x.places o 0 })).ctx c).broken = (s.ctx c).broken := by
  by_cases h : c = i
  · subst h
    rw [State.ctx_updCtx_same]
    exact ⟨rfl, rfl⟩
  · rw [State.ctx_updCtx_other _ _ h]
    exact ⟨rfl, rfl⟩

theorem State.kept_freeEnded (s : State) (ctx owner c : Nat) :
    ((s.freeEnded ctx owner).ctx c).held = (s.ctx c).held
    ∧ ((s.freeEnded ctx owner).ctx c).broken = (s.ctx c).broken := by
  unfold State.freeEnded
  dsimp only
  split
  · split
    · rw [State.ctx_of_tasks (State.countDrain_tasks _ _)]
      exact (s.leaveCore (Tab.get 0 (s.ctx ctx).places owner - 1)).kept_freePlace ctx owner c
    · exact (s.leaveCore (Tab.get 0 (s.ctx ctx).places owner - 1)).kept_freePlace ctx owner c
  · exact ⟨rfl, rfl⟩

section
variable (s : State) (f : Flight)

/-- A command that ends leaves the memories. -/
theorem State.endFlight_frame : ∃ d b k x g q p, s.endFlight f = { s.dropFlight f.id with
    descs := d, objs := b, cores := k, ctxs := x, snag := g, out := q, msixPend := p } := by
  obtain ⟨d, hd⟩ := (s.dropFlight f.id).releaseCopies_frame f.ctx f.descs
  obtain ⟨b, k, x, h⟩ := ((s.dropFlight f.id).releaseCopies f.ctx f.descs).freeEnded_frame f.ctx f.owner
  obtain ⟨b', g, q, p, h'⟩ :=
    (((s.dropFlight f.id).releaseCopies f.ctx f.descs).freeEnded f.ctx f.owner).restCheck_frame f.ctx
  exact ⟨d, b', k, x, g, q, p, by rw [State.endFlight, h', h, hd]⟩

theorem State.endFlight_flights : (s.endFlight f).flights = s.flights.filter (fun g => g.id ≠ f.id) := by
  obtain ⟨d, b, k, x, g, q, p, h⟩ := s.endFlight_frame f
  rw [h]
  rfl

theorem State.endFlight_fewer : s.Fewer (s.endFlight f) where
  flights g hg := by
    rw [State.endFlight_flights] at hg
    exact (List.mem_filter.1 hg).1
  ddr := by
    obtain ⟨d, b, k, x, g, q, p, h⟩ := s.endFlight_frame f
    rw [h]
    rfl
  tmap := by
    obtain ⟨d, b, k, x, g, q, p, h⟩ := s.endFlight_frame f
    rw [h]
    rfl
  ctxs c := by
    obtain ⟨d, hd⟩ := (s.dropFlight f.id).releaseCopies_frame f.ctx f.descs
    obtain ⟨hheld, hbroken⟩ := ((s.dropFlight f.id).releaseCopies f.ctx f.descs).kept_freeEnded f.ctx f.owner c
    rw [State.endFlight, State.ctx_of_tasks (State.restCheck_tasks _ _), hheld, hbroken, hd]
    exact ⟨rfl, rfl⟩

end

theorem State.endFlights_fewer (l : List Flight) (s : State) : s.Fewer (l.foldl State.endFlight s) :=
  List.foldlRecOn (motive := fun t : State => s.Fewer t) l _ (.refl s) fun t ht f _ => ht.trans (t.endFlight_fewer f)

/-- Every command of a list that ends is gone. -/
theorem State.endFlights_gone (l : List Flight) (s : State) {f g : Flight} (hf : f ∈ l)
    (hg : g ∈ (l.foldl State.endFlight s).flights) : g.id ≠ f.id := by
  induction l generalizing s with
  | nil => simp at hf
  | cons a l ih =>
    rcases List.mem_cons.1 hf with rfl | hf
    · have hmem := (State.endFlights_fewer l (s.endFlight f)).flights g hg
      rw [State.endFlight_flights] at hmem
      exact of_decide_eq_true (List.mem_filter.1 hmem).2
    · exact ih (s.endFlight a) hf hg

section
variable (s : State)

theorem State.dropFlights_fewer (p : Flight → Bool) : s.Fewer (s.dropFlights p) := State.endFlights_fewer _ s

/-- None of the commands in scope is left. -/
theorem State.dropFlights_gone {p : Flight → Bool} {f : Flight} (hf : f ∈ (s.dropFlights p).flights) : p f = false := by
  by_contra hp
  rw [Bool.not_eq_false] at hp
  have hmem : f ∈ s.flights := (s.dropFlights_fewer p).flights f hf
  exact State.endFlights_gone _ s (List.mem_filter.2 ⟨hmem, hp⟩) hf rfl

/-! ### The reset of a core (R88, R323) -/

theorem State.resetCore_fewer (n : Nat) : s.Fewer (s.resetCore n) := by
  refine (s.dropFlights_fewer (fun f => f.owner < 128 && f.core = n)).trans ?_
  unfold State.resetCore
  dsimp only
  split
  · exact ⟨fun _ h => h, rfl, rfl, fun _ => ⟨rfl, rfl⟩⟩
  · exact ⟨fun _ h => h, rfl, rfl, fun c => State.kept_freePlace _ _ _ c⟩

theorem State.resetCore_flights (n : Nat) :
    (s.resetCore n).flights = (s.dropFlights (fun f => f.owner < 128 && f.core = n)).flights := by
  unfold State.resetCore
  dsimp only
  split
  · rfl
  · rfl

theorem State.resetCore_cores (n : Nat) : ∃ k, (s.resetCore n).cores = Tab.put {} k n {} := ⟨_, rfl⟩

/-- A core that is reset is free with empty data, and no command of it is left. -/
theorem State.resetCore_spec (n : Nat) : (s.resetCore n).core n = {}
    ∧ ∀ f ∈ (s.resetCore n).flights, ¬ (f.owner < 128 ∧ f.core = n) := by
  obtain ⟨k, hk⟩ := s.resetCore_cores n
  refine ⟨by rw [State.core, hk, Tab.get_put_same], fun f hf h => ?_⟩
  rw [State.resetCore_flights] at hf
  have hgone := s.dropFlights_gone hf
  simp [h.1, h.2] at hgone

end

/-- What a core's reset request leaves: the core free, its commands gone, memories and Tier Map as they were, every
context that it breaks held (R323, R324). -/
theorem unitsReset_core {s : State} {unit : Nat} :
    let t := (s.unitsReset 1 unit).fbReported 1 unit
    t.core unit = {} ∧ (∀ f ∈ t.flights, ¬ (f.owner < 128 ∧ f.core = unit)) ∧ t.ddr = s.ddr ∧ t.tmap = s.tmap
    ∧ ∀ c, c < 64 → s.breaks 1 unit c = true → (t.ctx c).held = true ∧ (t.ctx c).broken = true := by
  obtain ⟨u, hu⟩ : ∃ u, u = s.setObj (okey 0x5800 4) 2 := ⟨_, rfl⟩
  obtain ⟨w, hw⟩ : ∃ w, w = u.breakAll 1 unit := ⟨_, rfl⟩
  obtain ⟨b, f, o, p, hr⟩ := (w.resetCore unit).fbReported_frame 1 unit
  have ht : (s.unitsReset 1 unit).fbReported 1 unit = (w.resetCore unit).fbReported 1 unit := by
    rw [State.unitsReset, ← hu, ← hw]
    rfl
  rw [u.breakAll_eq 1 unit (.inl (by decide))] at hw
  obtain ⟨x, g, q, p', hframe⟩ := State.breaksAll_frame ((List.range 64).filter (u.breaks 1 unit)) u
  have hbreaks : ∀ c, u.breaks 1 unit c = s.breaks 1 unit c := fun c => by rw [hu]; rfl
  have hfewer := w.resetCore_fewer unit
  obtain ⟨hcore, hgone⟩ := w.resetCore_spec unit
  dsimp only
  rw [ht, hr]
  refine ⟨hcore, hgone, ?_, ?_, fun c hc hb => ?_⟩
  · exact hfewer.ddr.trans (by rw [hw, hframe, hu]; rfl)
  · exact hfewer.tmap.trans (by rw [hw, hframe, hu]; rfl)
  · refine hfewer.isBroken ?_
    rw [hw]
    refine State.breaksAll_isBroken _ u (.inl (List.mem_filter.2 ⟨List.mem_range.2 hc, ?_⟩))
    rw [hbreaks, hb]

/-! ### What a die reset reaches before it clears the die (R238, R247) -/

/-- From `s` to `t` flash, dumps, update streams, power, the images of the slots and INCARNATION stand. -/
structure State.Outlives (s t : State) : Prop where
  flash : t.flash = s.flash
  dumps : t.dumps = s.dumps
  ustreams : t.ustreams = s.ustreams
  power : t.power = s.power
  images : ∀ n, (t.slot n).image = (s.slot n).image
  incarnation : t.obj (okey 0x4000 2) = s.obj (okey 0x4000 2)

theorem State.Outlives.refl (s : State) : s.Outlives s := ⟨rfl, rfl, rfl, rfl, fun _ => rfl, rfl⟩

theorem State.Outlives.trans {s t u : State} (h : s.Outlives t) (h' : t.Outlives u) : s.Outlives u :=
  ⟨h'.flash.trans h.flash, h'.dumps.trans h.dumps, h'.ustreams.trans h.ustreams, h'.power.trans h.power,
    fun n => (h'.images n).trans (h.images n), h'.incarnation.trans h.incarnation⟩

theorem State.outlives_foldl {α : Type} {f : State → α → State}
    (h : ∀ (t : State) (a : α), t.Outlives (f t a)) (l : List α) (s : State) : s.Outlives (l.foldl f s) :=
  List.foldlRecOn (motive := fun t : State => s.Outlives t) l f (.refl s) fun t ht a _ => ht.trans (h t a)

theorem State.outlives_setObj (s : State) {k : Nat} (v : Nat) (h : okey 0x4000 2 ≠ k) : s.Outlives (s.setObj k v) :=
  ⟨rfl, rfl, rfl, rfl, fun _ => rfl, State.obj_setObj_other _ _ h⟩

/-- What a granule's state becomes leaves its slot's image. -/
theorem State.outlives_updGran (s : State) (n g : Nat) (f : GranState → GranState) : s.Outlives (s.updGran n g f) := by
  refine ⟨rfl, rfl, rfl, rfl, fun m => ?_, rfl⟩
  have hslots : (s.updGran n g f).slots = Tab.update {} s.slots n
      (fun z => { z with grans := Tab.update {} z.grans g f }) := rfl
  rw [State.slot, hslots]
  by_cases h : m = n
  · rw [h, Tab.get_update_same]
    rfl
  · rw [Tab.get_update_other _ _ _ h]
    rfl

theorem State.homeLose_frame (s : State) (a n k : Nat) : ∃ d f, s.homeLose a n k = { s with ddr := d, free := f } := by
  induction k generalizing s a n with
  | zero => exact ⟨s.ddr, s.free, rfl⟩
  | succ k ih =>
    unfold State.homeLose
    dsimp only
    split
    · exact ⟨s.ddr, s.free, rfl⟩
    · split
      · obtain ⟨d, f, h⟩ := ih _ _ _
        exact ⟨d, f, h⟩
      · obtain ⟨d, f, h⟩ := ih _ _ _
        exact ⟨d, f, h⟩

theorem State.outlives_tear (s : State) (g : Granule) : s.Outlives (s.tear g) := by
  refine (s.outlives_updGran g.slot g.gran (fun y => { y with torn := true })).trans ?_
  unfold State.tear
  dsimp only
  split
  · next u _ =>
    obtain ⟨d, f, h⟩ := State.homeLose_frame (s.updGran g.slot g.gran (fun y => { y with torn := true }))
      (recAddr (s.slot g.slot).image u.nstate g.gran) (u.nstate * 262144) 2
    rw [h]
    exact ⟨rfl, rfl, rfl, rfl, fun _ => rfl, rfl⟩
  · exact .refl _

/-- Receive buffers and requests at the Planers are not among what outlives. -/
theorem State.Outlives.queues {s u : State} (h : s.Outlives u) (r : List Granule) (q : List (Nat × Nat))
    (w : List TierReq) : s.Outlives { u with rxBuf := r, reqs := q, tierQ := w } :=
  ⟨h.flash, h.dumps, h.ustreams, h.power, h.images, h.incarnation⟩

/-- The Planers' receive buffers are emptied; what stands at the Planers outlives it. -/
theorem State.outlives_dropGranules (s : State) (qs : List Nat) (reset : Bool) :
    s.Outlives (s.dropGranules qs reset) := by
  refine State.Outlives.queues (State.outlives_foldl (fun t g => ?_) _ s) _ _ _
  split
  · split
    · exact (t.outlives_updGran _ _ _).trans
        (State.outlives_setObj _ _ (okey_ne (by decide) (by decide) (.inr (by decide))))
    · exact t.outlives_tear g
  · exact .refl t

theorem State.outlives_stepEnd (s : State) (ctx r : Nat) : s.Outlives (s.stepEnd ctx r) :=
  (s.outlives_setObj r (okey_ne (by decide) (by decide) (.inr (by decide)))).trans
    (State.outlives_setObj _ _ (okey_ne (by decide) (by decide) (.inr (by decide))))

/-! ### The reset of the die (R323, code 6) -/

/-- No context, command, core, region, frame, link or stand. -/
structure State.Blank (t : State) : Prop where
  ctxs : t.ctxs = []
  cores : t.cores = []
  flights : t.flights = []
  posts : t.posts = []
  streams : t.streams = []
  tmap : t.tmap = []
  frames : t.frames = []
  links : t.links = []
  members : t.members = []
  serving : t.serving = []

/-- The end of a die reset: INCARNATION counted, a CMD object stopped, the Landing lost. -/
def State.dieEnd (s : State) : State := ((s.addObj (okey 0x4000 2) 16 1).stopCmd (okey 0x7010 1)).loseLanding

theorem State.stopCmd_frame (s : State) (k : Nat) : ∃ b, s.stopCmd k = { s with objs := b } := by
  unfold State.stopCmd
  split
  · exact ⟨_, rfl⟩
  · exact ⟨s.objs, rfl⟩

theorem State.obj_stopCmd_other (s : State) {k j : Nat} (h : j ≠ k) : (s.stopCmd k).obj j = s.obj j := by
  unfold State.stopCmd
  split
  · exact State.obj_setObj_other _ _ h
  · rfl

section
variable (s : State)

theorem State.dieEnd_frame : ∃ b l f, s.dieEnd = { s with objs := b, landing := l, free := f } := by
  obtain ⟨b, h⟩ := (s.addObj (okey 0x4000 2) 16 1).stopCmd_frame (okey 0x7010 1)
  rw [State.dieEnd, h]
  exact ⟨b, _, _, rfl⟩

theorem State.obj_loseLanding (k : Nat) : s.loseLanding.obj k = s.obj k := rfl

theorem State.dieEnd_incarnation : s.dieEnd.obj (okey 0x4000 2) = (s.obj (okey 0x4000 2) + 1) % 2 ^ 16 := by
  rw [State.dieEnd, State.obj_loseLanding, State.obj_stopCmd_other _ (okey_ne (by decide) (by decide) (.inl (by decide))),
    State.obj_addObj_same]

theorem State.obj_dieEnd_other {i j : Nat} (hj : j < 256) (h : i ≠ 0x4000) (h' : i ≠ 0x7010) :
    s.dieEnd.obj (okey i j) = s.obj (okey i j) := by
  rw [State.dieEnd, State.obj_loseLanding, State.obj_stopCmd_other _ (okey_ne hj (by decide) (.inl h')),
    State.obj_addObj_other _ _ _ (okey_ne hj (by decide) (.inl h))]

/-- The Planers' actions that needed the die have ended, before the die is cleared (R247). -/
def State.dieStopped : State :=
  ((s.dropGranules [0, 1, 2, 3] false).stepRun.map (fun e => e.1)).foldl (fun t c => t.stepEnd c 4)
    (s.dropGranules [0, 1, 2, 3] false)

theorem State.outlives_dieStopped : s.Outlives s.dieStopped :=
  (s.outlives_dropGranules _ _).trans (State.outlives_foldl (fun t c => t.outlives_stepEnd c 4) _ _)

/-- A die reset clears the die: what stands outside it and the kept objects are those of the stopped state. -/
theorem State.dieReset_eq : ∃ u : State, s.dieReset = u.dieEnd ∧ u.Blank
    ∧ u.objs = s.dieStopped.objs.filter (fun e => dieKeeps e.1) ∧ u.flash = s.dieStopped.flash
    ∧ u.dumps = s.dieStopped.dumps ∧ u.ustreams = s.dieStopped.ustreams ∧ u.power = s.dieStopped.power
    ∧ u.slots = s.dieStopped.slots.map (fun e => (e.1, { e.2 with pin0 := 0, pin1 := 0, done := [] })) :=
  ⟨_, rfl, ⟨rfl, rfl, rfl, rfl, rfl, rfl, rfl, rfl, rfl, rfl⟩, rfl, rfl, rfl, rfl, rfl, rfl⟩

end

/-- An object of a table of which a part is kept reads as before, or its default. -/
theorem State.obj_of_filter {s t : State} {p : Nat → Bool} (h : t.objs = s.objs.filter (fun e => p e.1)) (k : Nat) :
    t.obj k = if p k then s.obj k else objDefault k := by
  rw [State.obj, h, Tab.get_filter_key]
  rfl

theorem Tab.get_map {α : Type} (d : α) (g : α → α) (hd : g d = d) (t : Tab α) (k : Nat) :
    Tab.get d (t.map (fun e => (e.1, g e.2))) k = g (Tab.get d t k) := by
  induction t with
  | nil => exact hd.symm
  | cons e t ih =>
    rw [List.map_cons, Tab.get, Tab.get]
    split
    · rfl
    · exact ih

/-- A slot as a die reset leaves it. -/
def Slot.unpinned (z : Slot) : Slot := { z with pin0 := 0, pin1 := 0, done := [] }

/-- What the die's epoch and fence objects read after their reset (R192, R195). -/
theorem dieKeeps_epoch : ∀ c, c < 64 → dieKeeps (okey (0x4100 + c) 1) = false ∧ dieKeeps (okey (standIdx c) 2) = false
    ∧ objDefault (okey (0x4100 + c) 1) = 0 ∧ objDefault (okey (standIdx c) 2) = 1 := by decide

section
variable (s : State)

/-- The report of a reset leaves what a die reset cleared and what outlives it. -/
theorem State.Blank.fbReported {t : State} (h : t.Blank) (code unit : Nat) : (t.fbReported code unit).Blank := by
  obtain ⟨b, f, o, p, hr⟩ := t.fbReported_frame code unit
  rw [hr]
  exact ⟨h.ctxs, h.cores, h.flights, h.posts, h.streams, h.tmap, h.frames, h.links, h.members, h.serving⟩

theorem State.dieReset_blank : s.dieReset.Blank := by
  obtain ⟨u, hu, hblank, -⟩ := s.dieReset_eq
  obtain ⟨b, l, f, h⟩ := u.dieEnd_frame
  rw [hu, h]
  exact ⟨hblank.ctxs, hblank.cores, hblank.flights, hblank.posts, hblank.streams, hblank.tmap, hblank.frames,
    hblank.links, hblank.members, hblank.serving⟩

/-- INCARNATION is one higher; the epochs and the fences of the stands read their defaults (R192, R195). -/
theorem State.obj_dieReset : s.dieReset.obj (okey 0x4000 2) = (s.obj (okey 0x4000 2) + 1) % 2 ^ 16
    ∧ ∀ c, c < 64 → s.dieReset.obj (okey (0x4100 + c) 1) = 0 ∧ s.dieReset.obj (okey (standIdx c) 2) = 1 := by
  obtain ⟨u, hu, -, hobjs, -⟩ := s.dieReset_eq
  have hobj := State.obj_of_filter hobjs
  rw [hu]
  refine ⟨?_, fun c hc => ?_⟩
  · rw [State.dieEnd_incarnation, hobj, if_pos (by decide), s.outlives_dieStopped.incarnation]
  · obtain ⟨hepoch, hfence, hzero, hone⟩ := dieKeeps_epoch c hc
    rw [State.obj_dieEnd_other _ (by decide) (by omega) (by omega), hobj, hepoch, hzero,
      State.obj_dieEnd_other _ (by decide) (by unfold standIdx; omega) (by unfold standIdx; omega), hobj, hfence, hone]
    exact ⟨rfl, rfl⟩

theorem State.dieReset_outlives : s.dieReset.flash = s.flash ∧ s.dieReset.dumps = s.dumps
    ∧ s.dieReset.ustreams = s.ustreams ∧ s.dieReset.power = s.power
    ∧ ∀ n, (s.dieReset.slot n).image = (s.slot n).image
      ∧ (s.dieReset.slot n).pin0 = 0 ∧ (s.dieReset.slot n).pin1 = 0 := by
  obtain ⟨u, hu, -, -, hflash, hdumps, hustreams, hpower, hslots⟩ := s.dieReset_eq
  obtain ⟨b, l, f, h⟩ := u.dieEnd_frame
  have hout := s.outlives_dieStopped
  have hslot : ∀ n, u.slot n = (s.dieStopped.slot n).unpinned := fun n => by
    rw [State.slot, hslots]
    exact Tab.get_map ({} : Slot) Slot.unpinned rfl s.dieStopped.slots n
  have hslot' : ∀ n, s.dieReset.slot n = (s.dieStopped.slot n).unpinned := fun n => by
    rw [hu, h]
    exact hslot n
  refine ⟨?_, ?_, ?_, ?_, fun n => ?_⟩
  · rw [hu, h]
    exact hflash.trans hout.flash
  · rw [hu, h]
    exact hdumps.trans hout.dumps
  · rw [hu, h]
    exact hustreams.trans hout.ustreams
  · rw [hu, h]
    exact hpower.trans hout.power
  · rw [hslot']
    exact ⟨hout.images n, rfl, rfl⟩

end

/-- What a die firebreak leaves, after its report (R192, R247, R323). -/
theorem unitsReset_die {s : State} {unit : Nat} :
    let t := (s.unitsReset 6 unit).fbReported 6 unit
    t.Blank ∧ t.incarnation = (s.incarnation + 1) % 2 ^ 16 ∧ (∀ c, c < 64 → t.epoch c = 0 ∧ t.fenced c = true)
    ∧ t.flash = s.flash ∧ t.dumps = s.dumps ∧ t.ustreams = s.ustreams ∧ t.power = s.power
    ∧ ∀ n, (t.slot n).image = (s.slot n).image ∧ (t.slot n).pin0 = 0 ∧ (t.slot n).pin1 = 0 := by
  obtain ⟨u, hu⟩ : ∃ u, u = s.setObj (okey 0x5800 4) 2 := ⟨_, rfl⟩
  obtain ⟨w, hw⟩ : ∃ w, w = u.dieReset := ⟨_, rfl⟩
  have ht : s.unitsReset 6 unit = w := by
    rw [State.unitsReset, ← hu, State.breakAll_none _ _ _ (by decide) (by decide), hw]
    rfl
  have hinc : u.obj (okey 0x4000 2) = s.obj (okey 0x4000 2) :=
    hu ▸ State.obj_setObj_other _ _ (okey_ne (by decide) (by decide) (.inl (by decide)))
  have hblank := u.dieReset_blank
  obtain ⟨hcount, hstands⟩ := u.obj_dieReset
  obtain ⟨hflash, hdumps, hustreams, hpower, hslots⟩ := u.dieReset_outlives
  rw [← hw] at hblank hcount hstands hflash hdumps hustreams hpower hslots
  obtain ⟨b, f, o, p, hr⟩ := w.fbReported_frame 6 unit
  have hobj : ∀ {i j : Nat}, j < 256 → i ≠ 0x5800 → i ≠ 0x5000 → i ≠ 0x5400 →
      (w.fbReported 6 unit).obj (okey i j) = w.obj (okey i j) :=
    fun hj hi h h' => w.obj_fbReported_other 6 unit hj hi h h'
  have hslot : ∀ n, (w.fbReported 6 unit).slot n = w.slot n := fun n => by rw [hr]; rfl
  dsimp only
  rw [ht]
  refine ⟨hblank.fbReported 6 unit, ?_, fun c hc => ⟨?_, ?_⟩, ?_, ?_, ?_, ?_, fun n => ?_⟩
  · rw [State.incarnation, hobj (by decide) (by decide) (by decide) (by decide), hcount, hinc, State.incarnation]
  · rw [State.epoch, hobj (by decide) (by omega) (by omega) (by omega), (hstands c hc).1]
  · have hidx : standIdx c < 0x5000 := by unfold standIdx; omega
    rw [State.fenced, hobj (by decide) (by omega) (by omega) (by omega), (hstands c hc).2]
    rfl
  · rw [hr, hflash, hu, State.setObj_flash]
  · rw [hr, hdumps, hu, State.setObj_dumps]
  · rw [hr, hustreams, hu, State.setObj_ustreams]
  · rw [hr, hpower, hu, State.setObj_power]
  · have hold : u.slot n = s.slot n := by rw [hu]; rfl
    rw [hslot, ← hold]
    exact hslots n

/-! ### The reset of the module (R373, code 7; log entries 70, 71) -/

section
variable (s : State)

/-- A module reset leaves what it keeps of the objects; BOOT_CAUSE is written. -/
theorem State.moduleReset_objs : ∃ (u : State) (b : Tab Nat), s.moduleReset 3 = u.setObj (okey 0x1480 2) 3
    ∧ u.objs = b.filter (fun e => moduleKeeps 3 e.1) := ⟨_, _, rfl, rfl⟩

theorem State.obj_moduleReset : (s.moduleReset 3).obj (okey 0x1480 1) = 0
    ∧ (s.moduleReset 3).obj (okey 0x1480 2) = 3 := by
  obtain ⟨u, b, hu, hobjs⟩ := s.moduleReset_objs
  have hkeep : moduleKeeps 3 (okey 0x1480 1) = false ∧ objDefault (okey 0x1480 1) = 0 := by decide
  rw [hu, State.obj_setObj_same, State.obj_setObj_other _ _ (okey_ne (by decide) (by decide) (.inr (by decide))),
    State.obj, hobjs, Tab.get_filter_key, hkeep.1, hkeep.2]
  exact ⟨rfl, rfl⟩

/-- A module firebreak keeps flash, the error history and what the Lookout had latched; memories and plans go. -/
theorem State.moduleReset_keeps :
    let t := s.moduleReset 3
    t.flash = s.flash ∧ t.faults.history = s.faults.history ∧ t.faults.ring = [] ∧ t.tmap = [] ∧ t.landing = {}
    ∧ t.ddr = {} ∧ t.ctxs = [] ∧ t.flights = [] ∧ t.power.latched = s.power.latched ∧ t.pending = s.pending :=
  ⟨rfl, rfl, rfl, rfl, rfl, rfl, rfl, rfl, rfl, rfl⟩

end

/-- What a module firebreak leaves (R373; log entry 71). -/
theorem moduleBroken_spec (s : State) (code unit : Nat) :
    let t := s.moduleBroken code unit
    t.obj (okey 0x1480 1) = 0 ∧ t.obj (okey 0x1480 2) = 3 ∧ t.flash = s.flash ∧ t.faults.history = s.faults.history
    ∧ t.faults.ring = [] ∧ t.tmap = [] ∧ t.landing = {} ∧ t.ddr = {} ∧ t.ctxs = [] ∧ t.flights = []
    ∧ t.power.latched = s.power.latched ++ [(0x8003, code * 256 + unit)] ∧ t.pending = s.pending := by
  obtain ⟨u, hu⟩ : ∃ u, u = s.addObj (okey 0x5800 6) 32 1 := ⟨_, rfl⟩
  obtain ⟨hboot, hcause⟩ := u.obj_moduleReset
  obtain ⟨hflash, hhistory, hring, htmap, hlanding, hddr, hctxs, hflights, hlatched, hpending⟩ := u.moduleReset_keeps
  rw [State.moduleBroken, ← hu]
  generalize u.moduleReset 3 = w at *
  have hold : u.flash = s.flash ∧ u.faults = s.faults ∧ u.power = s.power ∧ u.pending = s.pending := by
    rw [hu, State.addObj_flash, State.addObj_faults, State.addObj_power, State.addObj_pending]
    exact ⟨rfl, rfl, rfl, rfl⟩
  obtain ⟨hf, hh, hp, hq⟩ := hold
  refine ⟨hboot, hcause, hflash.trans hf, hhistory.trans (by rw [hh]), hring, htmap, hlanding, hddr, hctxs, hflights, ?_,
    hpending.trans hq⟩
  dsimp only
  rw [hlatched, hp]

/-! ### The obligation -/

/-- Settles O50: the request by its three outcomes, the reset by its equation under its guard, what it leaves of a core
by commands that only end, of the die by the kept objects, of the module by its fresh state. -/
theorem firebreaksAreRequestedAndRun : Obligations.FirebreaksAreRequestedAndRun := by
  unfold Obligations.FirebreaksAreRequestedAndRun
  refine ⟨fun s path hp ha r hr => ?_, fun s => ⟨fun h => ?_, fun h hc => ?_, fun h hc hu => ?_, fun h hc => ?_,
    fun h hc => ?_, fun h => ?_, fun h => ?_⟩⟩
  · obtain ⟨hexec, hunits, hsome⟩ := exec_fbRows (s := s) hp r hr
    refine ⟨fun hb => ?_, fun hb hle => ?_, fun hb hlt => ?_⟩
    · exact hexec.trans (congrArg _ (fbRequest_busy ha hb))
    · exact hexec.trans (congrArg _ (fbRequest_range ha hb (hunits ▸ hsome) (hunits ▸ hle)))
    · exact ⟨_, hexec, fbRequest_spec ha hb (hunits ▸ hlt)⟩
  · exact (need_ok rfl _).trans (congrArg _ (firebreakReset_before h))
  · have hcode : s.fbCode ≠ 7 := fun h7 => absurd (h7 ▸ hc : (7 : Nat) ≤ 6) (by decide)
    exact (need_ok rfl _).trans (congrArg _ (firebreakReset_of_units h hcode))
  · have hcode : s.fbCode = 1 := hc
    refine ⟨_, (need_ok rfl _).trans (congrArg _ (firebreakReset_of_units h (by rw [hcode]; decide))), ?_⟩
    rw [hcode]
    exact unitsReset_core
  · have hcode : s.fbCode = 6 := hc
    refine ⟨_, (need_ok rfl _).trans (congrArg _ (firebreakReset_of_units h (by rw [hcode]; decide))), ?_⟩
    rw [hcode]
    obtain ⟨hblank, hrest⟩ := unitsReset_die (s := s) (unit := s.fbUnit)
    exact ⟨hblank.ctxs, hblank.cores, hblank.flights, hblank.posts, hblank.streams, hblank.tmap, hblank.frames,
      hblank.links, hblank.members, hblank.serving, hrest⟩
  · exact ⟨_, (need_ok rfl _).trans (congrArg _ (firebreakReset_of_module h hc)), moduleBroken_spec s s.fbCode s.fbUnit⟩
  · exact (need_ok rfl _).trans (congrArg _ (firebreakComplete_before h))
  · exact (need_ok rfl _).trans (congrArg _ (firebreakComplete_of_running h))
end Sys2Proof.Machine

/-!
PROOF. Limber's register instructions: the lane operations, the row reductions and the mask operations.
-/

namespace Sys2Proof.Machine

/-! ### The active lanes of a mask (R91, R100) -/

/-- Under k0 every lane is active (R91). -/
theorem CoreData.active_zero (d : CoreData) {l : Nat} (hl : l < 256) : d.active 0 l = true := by
  rw [CoreData.active, CoreData.mask, if_pos rfl, BitVec.getLsbD_allOnes, decide_eq_true hl]

/-! ### Issue of a register instruction (R94) -/

/-- A command that may start and changes its core's data by u does that and ends its own phase. -/
theorem State.issueLimber_start {s : State} {id op : Nat} {f : Flight} {g : W128 → CoreData → CoreData}
    (u : CoreData → CoreData) (hs : s.startable id op = some f)
    (hg : g f.w0 (s.core f.core).data = u (s.core f.core).data) :
    s.issueLimber id op g =
      (s.updCore f.core (fun c => { c with data := u c.data })).updFlight id (fun x => { x with phase := .done }) :=
  State.issueLimber_eq g _ hs hg

/-! ### Lane operations (R95 to R100) -/

/-- Each lane operation writes its result into the lanes of VD that it selects. -/
theorem exec_laneRow (s : State) (id : Nat) : ∀ r ∈ Claims.laneRows (.start id), exec r.1 s = .next
    (s.issueLimber id r.2.1 (fun w d => d.writeLanes (fld w 77 72) (r.2.2.1 d w) (r.2.2.2 d w))) := by
  intro r hr
  unfold Claims.laneRows at hr
  fin_cases hr <;> exact need_ok rfl _

/-- Settles O16: every lane operation is one masked write of VD. -/
theorem laneOperationsWriteActiveLanes : Obligations.LaneOperationsWriteActiveLanes := by
  refine ⟨fun s id f r hr hs => ?_, fun d l hl => d.active_zero hl⟩
  obtain ⟨lanes, hwrite, hlanes⟩ := (s.core f.core).data.writeLanes_eq (fld f.w0 77 72)
    (r.2.2.1 (s.core f.core).data f.w0) (r.2.2.2 (s.core f.core).data f.w0)
  exact ⟨lanes, (exec_laneRow s id r hr).trans (congrArg _
    (State.issueLimber_start ({ · with lanes := lanes }) hs hwrite)), hlanes⟩

/-! ### Row reductions (R102) -/

/-- One level combines the results 2i and 2i + 1 of the level below. -/
theorem treeLevel_map_tree (f : F32 → F32 → F32) (p : Nat → F32) (k n : Nat) :
    treeLevel f ((List.range (2 * n)).map (Claims.tree f p k)) = (List.range n).map (Claims.tree f p (k + 1)) := by
  suffices h : ∀ a, treeLevel f ((List.range' (2 * a) (2 * n)).map (Claims.tree f p k))
      = (List.range' a n).map (Claims.tree f p (k + 1)) by
    simpa [List.range_eq_range'] using h 0
  induction n with
  | zero => exact fun _ => rfl
  | succ n ih =>
    intro a
    rw [Nat.mul_succ, List.range'_succ, List.range'_succ, List.range'_succ]
    exact congrArg (_ :: ·) (ih (a + 1))

/-- Six levels combine 64 operands into the root of the tree. -/
theorem treeReduce_map_range (f : F32 → F32 → F32) (p : Nat → F32) :
    treeReduce f ((List.range 64).map p) = Claims.tree f p 6 0 := by
  have hleaves : (List.range 64).map p = (List.range (2 * 32)).map (Claims.tree f p 0) := rfl
  rw [treeReduce, hleaves, treeLevel_map_tree, treeLevel_map_tree f p 1 16, treeLevel_map_tree f p 2 8,
    treeLevel_map_tree f p 3 4, treeLevel_map_tree f p 4 2, treeLevel_map_tree f p 5 1]
  rfl

/-- Operand c of row q: the lane's operand where the lane is active, else the identity. -/
def rowOperand (ident : F32) (operand : CoreData → W128 → Nat → F32) (w : W128) (d : CoreData) (q c : Nat) : F32 :=
  if d.active (fld w 53 50) (64 * q + c) then operand d w (64 * q + c) else ident

/-- The result of row q, as `reduceRows` forms it. -/
def rowResult (f : F32 → F32 → F32) (ident : F32) (operand : CoreData → W128 → Nat → F32) (w : W128) (d : CoreData)
    (q : Nat) : F32 :=
  treeReduce f ((List.range 64).map (rowOperand ident operand w d q))

/-- A reduction writes, in the lanes that it selects, the root of the row's tree combined with the lane of VC. -/
theorem reduceRows_eq (f : F32 → F32 → F32) (ident : F32) (operand : CoreData → W128 → Nat → F32) (w : W128)
    (d : CoreData) : ∃ lanes, reduceRows f ident operand w d = { d with lanes := lanes }
    ∧ ∀ reg l, l < 256 → Tab.get 0 lanes (256 * reg + l) =
        if reg = fld w 77 72 ∧ (fld w 49 49 = 1 ∨ d.active (fld w 53 50) l = true)
        then f (Claims.tree f (rowOperand ident operand w d (l / 64)) 6 0) (d.lane (fld w 59 54) l)
        else d.lane reg l := by
  obtain ⟨lanes, hwrite, hlanes⟩ := d.writeLanes_eq (fld w 77 72)
    (fun l => fld w 49 49 = 1 || d.active (fld w 53 50) l)
    (fun l => f (((List.range 4).map (rowResult f ident operand w d)).getD (l / 64) 0) (d.lane (fld w 59 54) l))
  refine ⟨lanes, hwrite, fun reg l hl => ?_⟩
  have hrow : ((List.range 4).map (rowResult f ident operand w d)).getD (l / 64) 0
      = Claims.tree f (rowOperand ident operand w d (l / 64)) 6 0 := by
    rw [List.getD_eq_getElem _ _ (by simp; omega), List.getElem_map, List.getElem_range]
    exact treeReduce_map_range f _
  rw [hlanes reg l hl, hrow]
  simp only [Bool.or_eq_true, decide_eq_true_eq]

/-- Each reduction reduces by its operation, from its identity and its operands. -/
theorem exec_reductionRow (s : State) (id : Nat) : ∀ r ∈ Claims.reductionRows (.start id), exec r.1 s = .next
    (s.issueLimber id r.2.1 (reduceRows r.2.2.1 r.2.2.2.1 r.2.2.2.2)) := by
  intro r hr
  unfold Claims.reductionRows at hr
  fin_cases hr <;> exact need_ok rfl _

/-- Settles O17: the levels of the reduction are those of the tree, and the rest is one masked write. -/
theorem rowReductionsFollowTheTree : Obligations.RowReductionsFollowTheTree := by
  intro s id f r hr hs d act p
  obtain ⟨lanes, hreduce, hlanes⟩ := reduceRows_eq r.2.2.1 r.2.2.2.1 r.2.2.2.2 f.w0 d
  exact ⟨lanes, (exec_reductionRow s id r hr).trans (congrArg _
    (State.issueLimber_start ({ · with lanes := lanes }) hs hreduce)), hlanes⟩

/-! ### Mask operations (R99, R101) -/

/-- The number whose bits below n are given by a test, as `maskOf` adds them up. -/
def maskSum (p : Nat → Bool) (n : Nat) : Nat := (List.range n).foldl (fun a l => a + b2n (p l) * 2 ^ l) 0

theorem maskSum_succ (p : Nat → Bool) (n : Nat) : maskSum p (n + 1) = 2 ^ n * (p n).toNat + maskSum p n := by
  have hb : b2n (p n) = (p n).toNat := by cases p n <;> rfl
  rw [maskSum, List.range_succ, List.foldl_append, List.foldl_cons, List.foldl_nil, hb, Nat.add_comm, Nat.mul_comm]
  rfl

theorem maskSum_lt (p : Nat → Bool) (n : Nat) : maskSum p n < 2 ^ n := by
  induction n with
  | zero => exact Nat.one_pos
  | succ n ih =>
    have hb := (p n).toNat_le
    rw [maskSum_succ, Nat.pow_succ]
    nlinarith

theorem testBit_maskSum (p : Nat → Bool) {n l : Nat} (hl : l < n) : (maskSum p n).testBit l = p l := by
  induction n with
  | zero => omega
  | succ n ih =>
    rw [maskSum_succ, Nat.testBit_two_pow_mul_add _ (maskSum_lt p n)]
    split
    · next h => exact ih h
    · next h =>
      obtain rfl : l = n := by omega
      rw [Nat.sub_self, Nat.testBit_bool_toNat]
      rfl

theorem getLsbD_maskOf (p : Nat → Bool) {l : Nat} (hl : l < 256) : (maskOf p).getLsbD l = p l := by
  have hbit : (maskOf p).getLsbD l = (decide (l < 256) && (maskSum p 256).testBit l) := BitVec.getLsbD_ofNat ..
  rw [hbit, decide_eq_true hl, Bool.true_and, testBit_maskSum p hl]

/-- A mask is the one that its bits make up. -/
theorem eq_maskOf {v : BitVec 256} {p : Nat → Bool} (h : ∀ l, l < 256 → v.getLsbD l = p l) : v = maskOf p :=
  BitVec.eq_of_getLsbD_eq fun l hl => (h l hl).trans (getLsbD_maskOf p hl).symm

/-- A write of a mask sets its bits, leaves every other mask alone, and does nothing to k0 (R91, R96). -/
theorem CoreData.setMask_eq (d : CoreData) (k : Nat) (v : BitVec 256) :
    ∃ masks, d.setMask k v = { d with masks := masks }
    ∧ (k ≠ 0 → Tab.get 0 masks k = v) ∧ ∀ j, (j ≠ k ∨ k = 0) → Tab.get 0 masks j = Tab.get 0 d.masks j := by
  unfold CoreData.setMask
  split
  · next hk => exact ⟨d.masks, rfl, fun h => absurd hk h, fun _ _ => rfl⟩
  · next hk =>
    exact ⟨_, rfl, fun _ => Tab.get_put_same .., fun j hj => Tab.get_put_other _ _ (hj.resolve_right hk)⟩

/-- KOP's mask by FUNC, bit by bit (R101). -/
theorem doKop_eq (w : W128) (d : CoreData) : doKop w d = d.setMask (fld w 77 74) (maskOf fun l =>
    let a := d.active (fld w 73 70) l
    let b := d.active (fld w 69 66) l
    let o := fld w 65 63
    if o = 0 then a && b else if o = 1 then a || b else if o = 2 then a && !b else if o = 3 then a != b else !a) := by
  refine congrArg (d.setMask _) (eq_maskOf fun l hl => ?_)
  unfold CoreData.active
  generalize fld w 65 63 = o
  match o with
  | 0 => exact BitVec.getLsbD_and
  | 1 => exact BitVec.getLsbD_or
  | 2 => simp [hl]
  | 3 => simp
  | n + 4 => simp [hl]

/-- KCOL's mask by the bounds of columns and rows (R101). -/
theorem doKcol_eq (w : W128) (d : CoreData) : doKcol w d = d.setMask (fld w 77 74) (maskOf fun l =>
    decide (fld w 73 68 ≤ l % 64 ∧ l % 64 ≤ fld w 67 62 ∧ fld w 61 60 ≤ l / 64 ∧ l / 64 ≤ fld w 59 58)) := by
  refine congrArg (d.setMask _) (eq_maskOf fun l hl => ?_)
  rw [getLsbD_maskOf _ hl]
  simp only [Bool.decide_and, Bool.and_assoc]

/-- Each mask operation writes the mask of its test into KD. -/
theorem exec_maskRow (s : State) (id : Nat) : ∀ r ∈ Claims.maskRows (.start id), exec r.1 s = .next
    (s.issueLimber id r.2.1 (fun w d => d.setMask (fld w 77 74) (maskOf (r.2.2 d w)))) := by
  simp only [Claims.maskRows, List.forall_mem_cons, List.not_mem_nil, false_imp_iff, implies_true, and_true]
  refine ⟨need_ok rfl _, ?kop, ?kcol⟩
  case kop => exact (need_ok rfl _).trans (congrArg _ (congrArg (s.issueLimber id 0x81) (funext₂ doKop_eq)))
  case kcol => exact (need_ok rfl _).trans (congrArg _ (congrArg (s.issueLimber id 0x82) (funext₂ doKcol_eq)))

/-- Settles O18: every mask operation is one write of a mask made up of its bits. -/
theorem maskOperationsWriteOneMask : Obligations.MaskOperationsWriteOneMask := by
  intro s id f r hr hs d
  obtain ⟨masks, hset, hkd, hother⟩ := d.setMask_eq (fld f.w0 77 74) (maskOf (r.2.2 d f.w0))
  refine ⟨masks, (exec_maskRow s id r hr).trans (congrArg _
    (State.issueLimber_start ({ · with masks := masks }) hs hset)), fun hk l hl => ?_, hother⟩
  rw [hkd hk, getLsbD_maskOf _ hl]

end Sys2Proof.Machine

/-!
PROOF. The core move port's dispatch: the window registers, and what WINSET, FILL and SPILL answer.
-/

namespace Sys2Proof.Machine

/-! ### Window registers (R156) -/

/-- A change of a core's data that writes its window registers alone. -/
theorem State.updData_wins (s : State) (n : Nat) {g : CoreData → CoreData} {wins : Tab (BitVec 32)}
    (hg : g (s.core n).data = { (s.core n).data with wins := wins }) :
    s.updData n g = s.updCore n (fun c => { c with data := { c.data with wins := wins } }) :=
  s.updData_eq_updCore (congrArg (fun d => { s.core n with data := d }) hg)

/-! ### WINSET -/

section
variable {s : State} {sh : Shell} {h : Head}

/-- The first coordinate that a WINSET sets, by its place among the window registers (R156). -/
def winsetKey (w : W128) : Nat := 4 * fld w 77 74 + (if fld w 73 73 = 1 then 2 else 0)

/-- The window registers after a WINSET (R156). -/
def winsetWins (t : Tab (BitVec 32)) (w : W128) : Tab (BitVec 32) :=
  Tab.put 0 (Tab.put 0 t (winsetKey w) (BitVec.ofInt 32 (fld w 72 49))) (winsetKey w + 1) (BitVec.ofInt 32 (fld w 48 25))

/-- WINSET that may dispatch sets its two coordinates and completes (R156). -/
theorem winset_of_ready (hr : s.readyHead sh 0x92 (fun _ => .none) = some h) :
    winset s sh = (((((s.updCore h.core (fun c => { c with data := { c.data with
      wins := winsetWins (s.core h.core).data.wins h.w } })).acquire h).issuePost h.ctx h.owner h.w).freeEnded h.ctx
        h.owner).restCheck h.ctx) := by
  rw [← s.updData_wins h.core (wins := winsetWins (s.core h.core).data.wins h.w) (g := fun d => (d.setWin (fld h.w 77 74)
    (if fld h.w 73 73 = 1 then 2 else 0) (fld h.w 72 49)).setWin (fld h.w 77 74)
    ((if fld h.w 73 73 = 1 then 2 else 0) + 1) (fld h.w 48 25)) rfl]
  exact State.dispatchNow_ok hr rfl

/-! ### FILL and SPILL -/

/-- The opcode of FILL or SPILL. -/
def moveOp (wr : Bool) : Nat := if wr then 0x91 else 0x90

/-- The dispatch of FILL, or of SPILL. -/
def moveDispatch (wr : Bool) (sh : Shell) (err : Option Nat) : Instr :=
  if wr then .spill (.dispatch sh) err else .fill (.dispatch sh) err

theorem exec_moveDispatch (s : State) (wr : Bool) (err : Option Nat) (hw : sh.wf = true) :
    exec (moveDispatch wr sh err) s = .next (s.dispatchMove sh (moveOp wr) wr) := by
  cases wr <;> exact need_ok hw _

end

section
variable {s : State} {sh : Shell} {h : Head} {wr : Bool} {d : Desc}
  (hr : s.readyHead sh (moveOp wr) (fun _ => .movePort) = some h)

/-- The origin that a FILL or SPILL takes from its window register (R157). -/
abbrev State.moveOrigin (s : State) (h : Head) : List Int := (s.core h.core).data.win (fld h.w 63 60)

/-- The pieces of the window that a FILL or SPILL names (R124, R157). -/
abbrev State.headPieces (s : State) (h : Head) (d : Desc) : List Piece := winPieces d (fld h.w 65 64) (s.moveOrigin h)

/-- The regions that a FILL or SPILL touches. -/
abbrev State.headRegions (s : State) (h : Head) (d : Desc) (wr : Bool) : List Nat :=
  s.pieceRegions h.ctx d wr (s.headPieces h d)

/-- The window registers once a FILL or SPILL has advanced its coordinate by STEP (R157). -/
def State.advancedWins (s : State) (h : Head) : Tab (BitVec 32) :=
  Tab.put 0 (s.core h.core).data.wins (4 * fld h.w 63 60 + fld h.w 43 42)
    (BitVec.ofInt 32 ((s.moveOrigin h).getD (fld h.w 43 42) 0 + signExt 16 (fld h.w 41 26)))

include hr

theorem State.dispatchMove_undescribed (hd : s.useDesc h.ctx (fld h.w 77 66) (!wr) wr = none) :
    s.dispatchMove sh (moveOp wr) wr = s.holdHead h 0x5008 0 :=
  State.dispatch_stop hr (by rw [hd])

variable (hd : s.useDesc h.ctx (fld h.w 77 66) (!wr) wr = some d)

include hd

theorem State.dispatchMove_badWindow (hb : badWindow d h.w (s.moveOrigin h) = true) :
    s.dispatchMove sh (moveOp wr) wr = s.holdHead h 0x500C 0 :=
  State.dispatch_stop hr (by simp only [hd, hb, if_true])

variable (hb : badWindow d h.w (s.moveOrigin h) = false)

include hb

theorem State.dispatchMove_notResident {code : Nat} (hn : s.notResident (s.headRegions h d wr) = some code) :
    s.dispatchMove sh (moveOp wr) wr
      = s.holdHead h code (accessDetail code (s.firstPiece h.ctx d wr (s.headPieces h d))) :=
  State.dispatch_stop hr (by simp only [hd, hb, hn, Bool.false_eq_true, if_false])

variable (hn : s.notResident (s.headRegions h d wr) = none)

include hn

theorem State.dispatchMove_busy (hp : (wr && s.piecesBusy h.ctx d (s.headPieces h d)) = true) :
    s.dispatchMove sh (moveOp wr) wr = s.holdHead h 0x5013 (s.firstPiece h.ctx d wr (s.headPieces h d)) :=
  State.dispatch_stop hr (by simp only [hd, hb, hn, hp, Bool.false_eq_true, if_false, if_true])

/-- A FILL or SPILL that nothing keeps back advances its window register and enters the move-port queue (R157). -/
theorem State.dispatchMove_of_free (hp : (wr && s.piecesBusy h.ctx d (s.headPieces h d)) = false) :
    s.dispatchMove sh (moveOp wr) wr = (((s.updCore h.core (fun c => { c with data := { c.data with
        wins := s.advancedWins h } })).acquire h).launch { h.flight .movePort with
          pos := (s.stream h.ctx h.owner).pos
          descs := [s.copyOf h.ctx (fld h.w 77 66)]
          origin := s.moveOrigin h
          regions := s.headRegions h d wr }).restCheck h.ctx := by
  rw [← s.updData_wins h.core (wins := s.advancedWins h) (g := fun x => x.setWin (fld h.w 63 60) (fld h.w 43 42)
    ((s.moveOrigin h).getD (fld h.w 43 42) 0 + signExt 16 (fld h.w 41 26))) rfl]
  refine State.dispatch_ok (f := { h.flight .movePort with
    descs := [s.copyOf h.ctx (fld h.w 77 66)], origin := s.moveOrigin h, regions := s.headRegions h d wr }) hr ?_
  simp only [hd, hb, hn, hp, Bool.false_eq_true, if_false]

end

/-- Settles O20: WINSET is one change of two coordinates, and the checks of a FILL or SPILL answer in their order. -/
theorem movePortDispatches : Obligations.MovePortDispatches := by
  refine ⟨?winset, ?moves, ?undescribed⟩
  case winset =>
    intro s sh h hw hr r d
    refine ⟨_, (need_ok hw _).trans (congrArg Host.Outcome.next (winset_of_ready hr)), ?first, Tab.get_put_same ..,
      fun k hk hk' => ?others⟩
    case first => exact (Tab.get_put_other _ _ (Nat.succ_ne_self _).symm).trans (Tab.get_put_same ..)
    case others => exact (Tab.get_put_other _ _ hk').trans (Tab.get_put_other _ _ hk)
  case moves =>
    intro s sh h d wr err hw i hr hd o ps rs r
    have hi : exec i s = .next (s.dispatchMove sh (moveOp wr) wr) := exec_moveDispatch s wr err hw
    simp only [hi]
    refine ⟨fun hb => congrArg _ (State.dispatchMove_badWindow hr hd hb),
      fun code hb hn => congrArg _ (State.dispatchMove_notResident hr hd hb hn),
      fun hb hn hwr hp => congrArg _ (State.dispatchMove_busy hr hd hb hn (by rw [hwr]; exact hp)),
      fun hb hn hp => ⟨_, congrArg _ (State.dispatchMove_of_free hr hd hb hn hp), Tab.get_put_same ..,
        fun k hk => Tab.get_put_other _ _ hk⟩⟩
  case undescribed =>
    intro s sh h wr err hw hr hd
    exact (exec_moveDispatch s wr err hw).trans (congrArg _ (State.dispatchMove_undescribed hr hd))

end Sys2Proof.Machine

/-!
PROOF. Descriptor commands: creation, destruction, the flush of C6 translations, and the translation itself.
-/

namespace Sys2Proof.Machine

section
variable {s : State} {path ctx : Nat}

/-! ### DESC_CREATE (R115, R116, R119, R120) -/

/-- A served DESC_CREATE whose CMD is not busy runs. -/
theorem exec_descCreate (hp : path < 18) (hc : ctx < 64) (ha : s.access path (0x2800 + ctx) = 0)
    (hb : s.obj (okey (0x2800 + ctx) 3) ≠ 1) : exec (.descCreate path ctx) s = .next (descCreate s path ctx) :=
  (need_ok (atOk_of_lt hp hc) _).trans (congrArg _ (State.onCmd_at (by decide) _ ha hb))

theorem descCreate_inUse (h : (s.desc ctx (s.pobj path (okey (0x2800 + ctx) 1))).st ≠ .free) :
    descCreate s path ctx = (s.refuseDesc ctx (s.pobj path (okey (0x2800 + ctx) 1)) (10, false, 0)).setObj
      (okey (0x2800 + ctx) 3) 3 := by
  unfold descCreate
  simp only [if_pos h, plainReason]

section
variable (h : (s.desc ctx (s.pobj path (okey (0x2800 + ctx) 1))).st = .free)
include h

theorem descCreate_invalid {r : DescReason}
    (hv : validateDesc (s.alloc ctx) (s.pobj path (okey (0x2800 + ctx) 2)) = some r) :
    descCreate s path ctx = (s.refuseDesc ctx (s.pobj path (okey (0x2800 + ctx) 1)) r).setObj
      (okey (0x2800 + ctx) 3) 3 := by
  unfold descCreate
  simp only [h, ne_eq, not_true_eq_false, if_false, hv]

theorem descCreate_valid (hv : validateDesc (s.alloc ctx) (s.pobj path (okey (0x2800 + ctx) 2)) = none) :
    descCreate s path ctx = ((s.installDesc ctx (s.pobj path (okey (0x2800 + ctx) 1))
      (s.pobj path (okey (0x2800 + ctx) 2))).setObj (okey (0x2800 + ctx) 4)
        (descResult (0, false, 0) (s.pobj path (okey (0x2800 + ctx) 1)))).setObj (okey (0x2800 + ctx) 3) 2 := by
  unfold descCreate
  simp only [h, ne_eq, not_true_eq_false, if_false, hv]

end

/-- DESC_RESULT of a reason that concerns no dimension (R120). -/
theorem descResult_plain (r n : Nat) : descResult (r, false, 0) n = r * 2 ^ 28 + n * 2 ^ 13 := by
  simp [descResult, b2n]

/-! ### DESC_DESTROY (R117) -/

theorem exec_descDestroy {n : Nat} (hp : path < 18) (hc : ctx < 64) (hn : n < 2 ^ 32) :
    exec (.descDestroy path ctx n) s = .next (s.onWrite path (okey (0x2800 + ctx) 5)
      (if n ≤ 4095 then none else some 3) (fun s => descDestroy s ctx n)) :=
  need_ok (Bool.and_eq_true_iff.2 ⟨atOk_of_lt hp hc, decide_eq_true hn⟩) _

/-! ### C6 translation (R134, R135, R136) -/

/-- The entry that the table holds for a C6 byte (R134). -/
def State.c6New (s : State) (ctx va : Nat) : Nat :=
  leNat (s.tierBytes (s.obj (okey (0x2800 + ctx) 7) + 8 * (va / 2 ^ 21)) 8)

/-- The entry for a C6 byte at the end of the last flush (R136). -/
def State.c6Kept (s : State) (ctx va : Nat) : Nat := (s.ctx ctx).c6Old.readLe (8 * (va / 2 ^ 21)) 8

/-- The entry that translates is the kept one or the table's (R136; log entry 21). -/
theorem State.c6Entry_eq_or (s : State) (ctx va : Nat) :
    s.c6Entry ctx va = s.c6Kept ctx va ∨ s.c6Entry ctx va = s.c6New ctx va := by
  unfold State.c6Entry
  dsimp only
  split
  · exact .inr rfl
  · split
    · exact .inl rfl
    · exact .inr rfl

/-- The tier address that an entry gives a C6 byte (R134). -/
def c6Addr (e va : Nat) : Nat := bits e 24 0 * 2 ^ 21 + va % 2 ^ 21

/-- Whether an entry permits an access: valid, reserved bits 0, the direction, the context's page (R134, R135). -/
def State.c6May (s : State) (ctx va : Nat) (wr : Bool) (e : Nat) : Prop :=
  bit e 63 = true ∧ bits e 60 25 = 0 ∧ bit e (if wr then 61 else 62) = true
    ∧ (s.region (c6Addr e va / 2 ^ 26)).ownedBy ctx = true

theorem State.c6Translate_beyond {va : Nat} (wr : Bool) (h : s.obj (okey (0x2800 + ctx) 8) ≤ va / 2 ^ 21) :
    s.c6Translate ctx va wr = none :=
  if_pos h

section
variable {va : Nat} (wr : Bool) (h : va / 2 ^ 21 < s.obj (okey (0x2800 + ctx) 8))
include h

/-- Within the table the entry decides (R135). -/
theorem State.c6Translate_within : s.c6Translate ctx va wr
    = if bit (s.c6Entry ctx va) 63 && bits (s.c6Entry ctx va) 60 25 = 0
        && (if wr then bit (s.c6Entry ctx va) 61 else bit (s.c6Entry ctx va) 62)
        && (s.region (c6Addr (s.c6Entry ctx va) va / 2 ^ 26)).ownedBy ctx
      then some (c6Addr (s.c6Entry ctx va) va) else none :=
  if_neg (Nat.not_le.2 h)

theorem State.c6Translate_of_may (hm : s.c6May ctx va wr (s.c6Entry ctx va)) :
    s.c6Translate ctx va wr = some (c6Addr (s.c6Entry ctx va) va) := by
  obtain ⟨hvalid, hres, hdir, hown⟩ := hm
  rw [s.c6Translate_within wr h]
  refine if_pos ?_
  simp only [Bool.and_eq_true, decide_eq_true_eq]
  exact ⟨⟨⟨hvalid, hres⟩, by cases wr <;> exact hdir⟩, hown⟩

theorem State.c6Translate_of_not_may (hm : ¬ s.c6May ctx va wr (s.c6Entry ctx va)) : s.c6Translate ctx va wr = none := by
  rw [s.c6Translate_within wr h]
  refine if_neg fun hc => hm ?_
  simp only [Bool.and_eq_true, decide_eq_true_eq] at hc
  obtain ⟨⟨⟨hvalid, hres⟩, hdir⟩, hown⟩ := hc
  exact ⟨hvalid, hres, by cases wr <;> exact hdir, hown⟩

end

end

/-- Settles O26: creation and destruction by the entry's state and the image's validation, the flush by the commands under
way, and a translation by the one entry that stands for its page. -/
theorem descriptorsAreCreatedAndDestroyed : Obligations.DescriptorsAreCreatedAndDestroyed := by
  refine ⟨?create, ?destroy, ?destroyRange, ?flush, ?flushComplete, ?translate⟩
  case create =>
    intro s path ctx hp hc ha hb n x
    have hrun := exec_descCreate hp hc ha hb
    refine ⟨fun hst hv => ?_, fun r hst hv => ?_, fun hst => ?_⟩
    · rw [hrun, descCreate_valid hst hv, descResult_plain, Nat.zero_mul, Nat.zero_add]
      rfl
    · rw [hrun, descCreate_invalid hst hv]
      rfl
    · rw [hrun, descCreate_inUse hst, State.refuseDesc, descResult_plain]
      rfl
  case destroy =>
    intro s path ctx n hp hc hn ha
    rw [exec_descDestroy hp hc (by omega), if_pos hn, State.onWrite_at (by decide) _ ha]
    rfl
  case destroyRange =>
    intro s path ctx n hp hc hn hn' ha
    rw [exec_descDestroy hp hc hn', if_neg (by omega),
      State.onWrite_refused _ (by rw [okey_div _ (by decide)]; exact ha)]
  case flush =>
    intro s path ctx hp hc ha hb
    exact (need_ok (atOk_of_lt hp hc) _).trans (congrArg _ (State.onCmd_at (by decide) _ ha hb))
  case flushComplete =>
    intro s ctx m hc hm
    refine (need_ok (decide_eq_true hc) _).trans (congrArg _ ?_)
    simp only [c6FlushComplete, hm]
  case translate =>
    intro s ctx va wr page entries new old
    exact ⟨State.c6Translate_beyond wr, fun h => ⟨s.c6Entry ctx va, s.c6Entry_eq_or ctx va,
      State.c6Translate_of_may wr h, State.c6Translate_of_not_may wr h⟩⟩

end Sys2Proof.Machine

/-!
PROOF. Allocations and Landing frames: the grant and release of runs of regions, and the moves of frames between FREE and a
context's pool.
-/

namespace Sys2Proof.Machine

/-! ### Regions, allocations and their objects read back -/

theorem State.region_updRegion (s : State) (r k : Nat) (f : Region → Region) :
    (s.updRegion r f).region k = if k = r then f (s.region r) else s.region k := by
  unfold State.region State.updRegion Tab.update
  rw [Tab.get_put]

theorem mem_regionRange {first count r : Nat} : r ∈ regionRange first count ↔ first ≤ r ∧ r < first + count := by
  simp only [regionRange, List.mem_map, List.mem_range]
  constructor
  · rintro ⟨k, hk, rfl⟩; omega
  · rintro ⟨h1, h2⟩; exact ⟨r - first, by omega, by omega⟩

/-- One change of every region of a list: a region of the list is changed, and no other; the rest of the state stands. -/
theorem State.updRegions_spec {f : Region → Region} (hf : ∀ g, f (f g) = f g) (rs : List Nat) (s : State) :
    (∀ r, (rs.foldl (fun t r => t.updRegion r f) s).region r = if r ∈ rs then f (s.region r) else s.region r)
    ∧ ∃ m, rs.foldl (fun t r => t.updRegion r f) s = { s with tmap := m } := by
  induction rs generalizing s with
  | nil => exact ⟨fun r => rfl, s.tmap, rfl⟩
  | cons a rs ih =>
    obtain ⟨hreg, m, hm⟩ := ih (s.updRegion a f)
    refine ⟨fun r => ?_, m, hm⟩
    rw [List.foldl_cons, hreg, State.region_updRegion]
    by_cases ha : r = a
    · subst ha; simp [hf]
    · simp [ha]

/-- Every region of a range is changed alike, the others stand. -/
theorem State.updRange_region {f : Region → Region} (hf : ∀ g, f (f g) = f g) (first count : Nat) (s : State) (r : Nat) :
    ((regionRange first count).foldl (fun t r => t.updRegion r f) s).region r
      = if first ≤ r ∧ r < first + count then f (s.region r) else s.region r := by
  rw [(State.updRegions_spec hf _ s).1, if_congr mem_regionRange rfl rfl]

/-- The state with an allocation written (R152). -/
def State.setAlloc (s : State) (ctx a : Nat) (x : Alloc) : State :=
  { s with allocs := Tab.put {} s.allocs (ctx * 256 + a) x }

theorem State.alloc_setAlloc_same (s : State) (ctx a : Nat) (x : Alloc) : (s.setAlloc ctx a x).alloc ctx a = x :=
  Tab.get_put_same ..

theorem State.alloc_setAlloc_other (s : State) {ctx a c n : Nat} (x : Alloc) (h : c * 256 + n ≠ ctx * 256 + a) :
    (s.setAlloc ctx a x).alloc c n = s.alloc c n :=
  Tab.get_put_other _ _ h

/-! ### How an ALLOC_CMD ends (R152, R174) -/

section
variable (s : State) (path ctx : Nat) (hc : ctx < 64)
include hc

/-- What a path's ALLOC_FIRST and ALLOC_COUNT show after an allocation's change (R336). -/
theorem State.pobj_showAlloc {a : Alloc} (ha : s.alloc ctx (s.pobj path (okey (0x3100 + ctx) 1)) = a) :
    (s.showAlloc path ctx).pobj path (okey (0x3100 + ctx) 2) = (if a.count = 0 then 0 else a.first)
    ∧ (s.showAlloc path ctx).pobj path (okey (0x3100 + ctx) 3) = a.count := by
  have hk : ∀ j, j < 256 → okey (0x3100 + ctx) j < 2 ^ 24 := fun j hj => by unfold okey; omega
  have hne : okey (0x3100 + ctx) 2 ≠ okey (0x3100 + ctx) 3 := okey_ne (by decide) (by decide) (.inr (by decide))
  unfold State.showAlloc
  simp only [ha]
  simp only [State.pobj_setPobj _ _ (hk 2 (by decide)) (hk 2 (by decide)),
    State.pobj_setPobj _ _ (hk 3 (by decide)) (hk 2 (by decide)),
    State.pobj_setPobj _ _ (hk 3 (by decide)) (hk 3 (by decide)), hne, and_false, if_false, and_self, if_true]

end

/-- The number that a path's ALLOC_SEL names. -/
def State.allocSel (s : State) (path ctx : Nat) : Nat := s.pobj path (okey (0x3100 + ctx) 1)

/-- The state after an ALLOC_CMD that is done: the regions of the range changed, the allocation written and shown (R152). -/
def State.allocDone (s : State) (path ctx first count : Nat) (f : Region → Region) (x : Alloc) : State :=
  ((((regionRange first count).foldl (fun t r => t.updRegion r f) s).setAlloc ctx (s.allocSel path ctx) x).showAlloc
    path ctx).tierEnd (okey (0x3100 + ctx) 4) 0 1 first ctx

section
variable (s : State) (path ctx first count : Nat) (hc : ctx < 64) {f : Region → Region} (hf : ∀ g, f (f g) = f g)
  (x : Alloc)

theorem State.obj_allocDone : (s.allocDone path ctx first count f x).obj (okey (0x3100 + ctx) 4) = 2
    ∧ (s.allocDone path ctx first count f x).obj (okey 0x3010 6) = tierResult 0 1 first ctx := by
  unfold State.allocDone State.tierEnd
  rw [State.obj_setObj_same, State.obj_setObj_other _ _ (okey_ne (by decide) (by decide) (.inl (by omega))),
    State.obj_setObj_same]
  exact ⟨rfl, rfl⟩

theorem State.alloc_allocDone_same : (s.allocDone path ctx first count f x).alloc ctx (s.allocSel path ctx) = x :=
  State.alloc_setAlloc_same ..

include hf in
theorem State.region_allocDone (r : Nat) : (s.allocDone path ctx first count f x).region r
    = if first ≤ r ∧ r < first + count then f (s.region r) else s.region r :=
  State.updRange_region hf first count s r

include hf

theorem State.alloc_allocDone_other {c n : Nat} (h : c * 256 + n ≠ ctx * 256 + s.allocSel path ctx) :
    (s.allocDone path ctx first count f x).alloc c n = s.alloc c n := by
  obtain ⟨-, m, hm⟩ := State.updRegions_spec hf (regionRange first count) s
  refine (State.alloc_setAlloc_other _ x h).trans ?_
  rw [hm]
  rfl

include hc in
theorem State.pobj_allocDone :
    (s.allocDone path ctx first count f x).pobj path (okey (0x3100 + ctx) 2) = (if x.count = 0 then 0 else x.first)
    ∧ (s.allocDone path ctx first count f x).pobj path (okey (0x3100 + ctx) 3) = x.count := by
  obtain ⟨-, m, hm⟩ := State.updRegions_spec hf (regionRange first count) s
  unfold State.allocDone
  rw [hm]
  exact State.pobj_showAlloc _ path ctx hc (State.alloc_setAlloc_same ..)

/-- Beside the Tier Map, the allocations and the objects nothing changes. -/
theorem State.allocDone_frame : s.allocDone path ctx first count f x = { s with
    tmap := (s.allocDone path ctx first count f x).tmap, allocs := (s.allocDone path ctx first count f x).allocs
    objs := (s.allocDone path ctx first count f x).objs, pobjs := (s.allocDone path ctx first count f x).pobjs } := by
  obtain ⟨-, m, hm⟩ := State.updRegions_spec hf (regionRange first count) s
  unfold State.allocDone
  rw [hm]
  rfl

end

/-- A region given to a context (R152). -/
def Region.granted (ctx : Nat) (g : Region) : Region := { g with allocated := true, owner := ctx }

/-- A region given back (R152). -/
def Region.released (g : Region) : Region := { g with allocated := false, owner := 0 }

/-! ### ALLOC_CMD 1 (R152) -/

section
variable {s : State} {path ctx : Nat}

theorem exec_allocGrant (hp : path < 18) (hc : ctx < 64) (ha : s.access path (0x3100 + ctx) = 0)
    (hb : s.obj (okey (0x3100 + ctx) 4) ≠ 1) : exec (.allocGrant path ctx) s = .next (allocGrant s path ctx) :=
  (need_ok (atOk_of_lt hp hc) _).trans (congrArg _ (State.onCmd_at (by decide) _ ha hb))

theorem exec_allocRelease (hp : path < 18) (hc : ctx < 64) (ha : s.access path (0x3100 + ctx) = 0)
    (hb : s.obj (okey (0x3100 + ctx) 4) ≠ 1) : exec (.allocRelease path ctx) s = .next (allocRelease s path ctx) :=
  (need_ok (atOk_of_lt hp hc) _).trans (congrArg _ (State.onCmd_at (by decide) _ ha hb))

/-- The first region and the count that a path asks for (R152). -/
def State.allocFirst (s : State) (path ctx : Nat) : Nat := s.pobj path (okey (0x3100 + ctx) 2)

/-- The count that a path asks for (R152). -/
def State.allocCount (s : State) (path ctx : Nat) : Nat := s.pobj path (okey (0x3100 + ctx) 3)

/-- The regions that a path asks for (R152). -/
def State.askedRegions (s : State) (path ctx : Nat) : List Nat :=
  regionRange (s.allocFirst path ctx) (s.allocCount path ctx)

/-- Whether an ALLOC_CMD 1 is refused with reason 1: its number is used, or its range is none (R152). -/
def State.badAsk (s : State) (path ctx : Nat) : Prop := (s.alloc ctx (s.allocSel path ctx)).count ≠ 0
  ∨ s.allocCount path ctx = 0 ∨ 1048576 < s.allocFirst path ctx + s.allocCount path ctx

theorem State.badAsk_iff : s.badAsk path ctx ↔ ((s.alloc ctx (s.allocSel path ctx)).count ≠ 0
    || s.allocCount path ctx = 0 || s.allocFirst path ctx + s.allocCount path ctx > 1048576) = true := by
  simp only [State.badAsk, Bool.or_eq_true, decide_eq_true_eq, or_assoc]

theorem allocGrant_of_bad (h : s.badAsk path ctx) : allocGrant s path ctx
    = s.tierEnd (okey (0x3100 + ctx) 4) 1 1 (s.allocFirst path ctx) ctx :=
  if_pos (State.badAsk_iff.1 h)

section
variable (h : ¬ s.badAsk path ctx)
include h

theorem allocGrant_unmapped {r : Nat} (hr : (s.askedRegions path ctx).find? (fun r => (s.region r).home = .none) = some r) :
    allocGrant s path ctx = s.tierEnd (okey (0x3100 + ctx) 4) 4 1 r ctx := by
  refine (if_neg (mt State.badAsk_iff.2 h)).trans ?_
  simp only [State.askedRegions, State.allocFirst, State.allocCount] at hr
  simp only [hr]

variable (hm : (s.askedRegions path ctx).find? (fun r => (s.region r).home = .none) = none)
include hm

theorem allocGrant_allocated {r : Nat} (hr : (s.askedRegions path ctx).find? (fun r => (s.region r).allocated) = some r) :
    allocGrant s path ctx = s.tierEnd (okey (0x3100 + ctx) 4) 5 1 r ctx := by
  refine (if_neg (mt State.badAsk_iff.2 h)).trans ?_
  simp only [State.askedRegions, State.allocFirst, State.allocCount] at hm hr
  simp only [hm, hr]

variable (ha : (s.askedRegions path ctx).find? (fun r => (s.region r).allocated) = none)
include ha

theorem allocGrant_lost {r : Nat} (hr : (s.askedRegions path ctx).find? (fun r => (s.region r).lost) = some r) :
    allocGrant s path ctx = s.tierEnd (okey (0x3100 + ctx) 4) 9 1 r ctx := by
  refine (if_neg (mt State.badAsk_iff.2 h)).trans ?_
  simp only [State.askedRegions, State.allocFirst, State.allocCount] at hm ha hr
  simp only [hm, ha, hr]

theorem allocGrant_done (hl : (s.askedRegions path ctx).find? (fun r => (s.region r).lost) = none) :
    allocGrant s path ctx = s.allocDone path ctx (s.allocFirst path ctx) (s.allocCount path ctx) (Region.granted ctx)
      { first := s.allocFirst path ctx, count := s.allocCount path ctx } := by
  refine (if_neg (mt State.badAsk_iff.2 h)).trans ?_
  simp only [State.askedRegions, State.allocFirst, State.allocCount] at hm ha hl
  simp only [hm, ha, hl]
  rfl

end

/-! ### ALLOC_CMD 2 (R118, R152) -/

/-- The allocation that a path's ALLOC_SEL names. -/
def State.allocNamed (s : State) (path ctx : Nat) : Alloc := s.alloc ctx (s.allocSel path ctx)

theorem allocRelease_unused (h : (s.allocNamed path ctx).count = 0) : allocRelease s path ctx
    = s.tierEnd (okey (0x3100 + ctx) 4) 1 1 (s.allocNamed path ctx).first ctx :=
  if_pos h

section
variable (h : (s.allocNamed path ctx).count ≠ 0)
include h

theorem allocRelease_held (hd : s.allocHeld ctx (s.allocSel path ctx) = true) : allocRelease s path ctx
    = (s.refuse 0x5009 (some ctx) 0).tierEnd (okey (0x3100 + ctx) 4) 8 1 (s.allocNamed path ctx).first ctx :=
  (if_neg h).trans (if_pos hd)

variable (hd : s.allocHeld ctx (s.allocSel path ctx) = false)
include hd

theorem allocRelease_staged {r : Nat} (hr : (regionRange (s.allocNamed path ctx).first
    (s.allocNamed path ctx).count).find? (fun r => (s.region r).staged) = some r) :
    allocRelease s path ctx = s.tierEnd (okey (0x3100 + ctx) 4) 6 1 r ctx := by
  refine (if_neg h).trans ((if_neg (Bool.eq_false_iff.1 hd)).trans ?_)
  simp only [State.allocNamed, State.allocSel] at hr
  simp only [hr]

theorem allocRelease_done (hr : (regionRange (s.allocNamed path ctx).first
    (s.allocNamed path ctx).count).find? (fun r => (s.region r).staged) = none) :
    allocRelease s path ctx = s.allocDone path ctx (s.allocNamed path ctx).first (s.allocNamed path ctx).count
      Region.released {} := by
  refine (if_neg h).trans ((if_neg (Bool.eq_false_iff.1 hd)).trans ?_)
  simp only [State.allocNamed, State.allocSel] at hr
  simp only [hr]
  rfl

end

end

/-- No region of a range is found where none of them passes the test. -/
theorem find_regionRange_none {first count : Nat} {p : Nat → Bool}
    (h : ∀ r, first ≤ r → r < first + count → p r = false) :
    (regionRange first count).find? p = none :=
  List.find?_eq_none.2 fun r hr => Bool.eq_false_iff.1 (h r (mem_regionRange.1 hr).1 (mem_regionRange.1 hr).2)

/-! ### FRAME_CMD (R154) -/

section
variable {s : State} {path ctx : Nat}

theorem exec_frameCmd (hp : path < 18) (hc : ctx < 64) (ha : s.access path 0x3011 = 0) (hb : s.obj (okey 0x3011 3) ≠ 1) :
    exec (.frameToPool path ctx) s = .next (frameToPool s path ctx)
    ∧ exec (.frameToFree path) s = .next (frameToFree s path) :=
  ⟨(need_ok (atOk_of_lt hp hc) _).trans (congrArg _ (State.onCmd_at (by decide) _ ha hb)),
    (need_ok (decide_eq_true hp) _).trans (congrArg _ (State.onCmd_at (by decide) _ ha hb))⟩

end

/-- Settles O28: an ALLOC_CMD by its checks in their order, its effect on every region of the range at once; a FRAME_CMD by
the frame's state. -/
theorem allocationsAndFramesAreGranted : Obligations.AllocationsAndFramesAreGranted := by
  refine ⟨?alloc, ?frame⟩
  case alloc =>
    intro s path ctx hp hc ha hb sel first count a
    rw [exec_allocGrant hp hc ha hb, exec_allocRelease hp hc ha hb]
    have hask : a.count = 0 → count ≠ 0 → first + count ≤ 1048576 → ¬ s.badAsk path ctx :=
      fun h0 hcount hend hbad => hbad.elim (absurd h0) (·.elim hcount (Nat.not_lt.2 hend))
    have hgranted : ∀ g, Region.granted ctx (Region.granted ctx g) = Region.granted ctx g := fun _ => rfl
    have hreleased : ∀ g, Region.released (Region.released g) = Region.released g := fun _ => rfl
    refine ⟨fun h0 hcount hend hfree => ?grant, fun hbad => congrArg _ (allocGrant_of_bad hbad),
      fun r why h0 hcount hend hwhy => congrArg _ ?refused, fun h0 => congrArg _ (allocRelease_unused h0),
      fun r h0 hd hr => congrArg _ (allocRelease_staged h0 hd hr), fun h0 hd hr => ?release,
      fun h0 hd => congrArg _ (allocRelease_held h0 hd)⟩
    case grant =>
      have hdone := allocGrant_done (hask h0 hcount hend)
        (find_regionRange_none fun r h h' => decide_eq_false (hfree r h h').1)
        (find_regionRange_none fun r h h' => (hfree r h h').2.1)
        (find_regionRange_none fun r h h' => (hfree r h h').2.2)
      obtain ⟨hcmd, hres⟩ := s.obj_allocDone path ctx first count (f := Region.granted ctx) ⟨first, count⟩
      obtain ⟨hfirst, hcnt⟩ := s.pobj_allocDone path ctx first count hc hgranted ⟨first, count⟩
      have hreg := s.region_allocDone path ctx first count hgranted ⟨first, count⟩
      exact ⟨_, congrArg _ hdone, fun r h h' => (hreg r).trans (if_pos ⟨h, h'⟩),
        fun r h => (hreg r).trans (if_neg (by omega)), s.alloc_allocDone_same .., hcmd, hres,
        hfirst.trans (if_neg hcount), hcnt, fun c n _ h => s.alloc_allocDone_other path ctx first count hgranted _ h,
        s.allocDone_frame path ctx first count hgranted _⟩
    case refused =>
      rcases hwhy with ⟨hr, rfl⟩ | ⟨hm, hr, rfl⟩ | ⟨hm, hal, hr, rfl⟩
      · exact allocGrant_unmapped (hask h0 hcount hend) hr
      · exact allocGrant_allocated (hask h0 hcount hend) hm hr
      · exact allocGrant_lost (hask h0 hcount hend) hm hal hr
    case release =>
      have hdone := allocRelease_done h0 hd (find_regionRange_none hr)
      obtain ⟨hcmd, hres⟩ := s.obj_allocDone path ctx a.first a.count (f := Region.released) {}
      obtain ⟨hfirst, hcnt⟩ := s.pobj_allocDone path ctx a.first a.count hc hreleased {}
      have hreg := s.region_allocDone path ctx a.first a.count hreleased {}
      exact ⟨_, congrArg _ hdone, fun r h h' => (hreg r).trans (if_pos ⟨h, h'⟩),
        fun r h => (hreg r).trans (if_neg (by omega)), s.alloc_allocDone_same .., hcmd, hres, hfirst, hcnt,
        s.allocDone_frame path ctx a.first a.count hreleased _⟩
  case frame =>
    intro s path ctx hp hc ha hb f done
    obtain ⟨hpool, hfree⟩ := exec_frameCmd hp hc ha hb
    rw [hpool, hfree]
    unfold frameToPool frameToFree
    refine ⟨fun h => ?_, fun c h => ?_, fun c h => ?_, fun c b h => ?_, fun r h => ?_, fun c r h => ?_⟩
    all_goals
      simp only [f] at h
      simp only [h]
    · exact ⟨rfl, rfl⟩
    · rfl
    · rfl
    · rfl
    · exact ⟨rfl, rfl⟩
    · exact ⟨rfl, rfl⟩

end Sys2Proof.Machine

/-!
PROOF. Writes to tier space: what they change, where a tier byte lies afterwards, and that the counters have no part in them.
-/

namespace Sys2Proof.Machine

/-! ### The counters and the memories of the tiers as parts of the state -/

/-- The state with other objects and other records of the flash blocks: all that counts accesses (R146, R174). -/
def State.withCounts (s : State) (b : Tab Nat) (x : Tab FlashBlock) : State := { s with objs := b, ftl := x }

/-- From `s` to `t` nothing has changed but the four memories and the dirty bits of the Tier Map: every region has the place that
it had. -/
structure State.TierWritten (s t : State) : Prop where
  frame : ∃ m l d f h, t = { s with tmap := m, landing := l, ddr := d, flash := f, host := h }
  places : ∀ r, ∃ dirty pages, t.region r = { s.region r with dirty := dirty, pages := pages }

theorem State.TierWritten.refl (s : State) : s.TierWritten s :=
  ⟨⟨_, _, _, _, _, rfl⟩, fun _ => ⟨_, _, rfl⟩⟩

theorem State.TierWritten.trans {s t u : State} (h : s.TierWritten t) (h' : t.TierWritten u) : s.TierWritten u where
  frame := by
    obtain ⟨_, _, _, _, _, rfl⟩ := h.frame
    obtain ⟨m, l, d, f, x, rfl⟩ := h'.frame
    exact ⟨m, l, d, f, x, rfl⟩
  places r := by
    obtain ⟨_, _, e⟩ := h.places r
    obtain ⟨dirty, pages, e'⟩ := h'.places r
    exact ⟨dirty, pages, by rw [e', e]⟩

theorem State.TierWritten.foldl {α : Type} {f : State → α → State} (h : ∀ (t : State) (a : α), t.TierWritten (f t a)) (l : List α)
    (s : State) : s.TierWritten (l.foldl f s) :=
  List.foldlRecOn (motive := fun t : State => s.TierWritten t) l _ (.refl s) fun t ht a _ => ht.trans (h t a)

section
variable {s t : State} (h : s.TierWritten t)
include h

theorem State.TierWritten.ftl : t.ftl = s.ftl := by
  obtain ⟨_, _, _, _, _, rfl⟩ := h.frame
  rfl

theorem State.TierWritten.objs : t.objs = s.objs := by
  obtain ⟨_, _, _, _, _, rfl⟩ := h.frame
  rfl

theorem State.TierWritten.scalerQ : t.scalerQ = s.scalerQ := by
  obtain ⟨_, _, _, _, _, rfl⟩ := h.frame
  rfl

theorem State.TierWritten.cores : t.cores = s.cores := by
  obtain ⟨_, _, _, _, _, rfl⟩ := h.frame
  rfl

/-- A tier byte lies where it lay (R140). -/
theorem State.TierWritten.resolve (a : Nat) : t.resolve a = s.resolve a := by
  obtain ⟨dirty, pages, e⟩ := h.places (a / 2 ^ 26)
  obtain ⟨_, _, _, _, _, rfl⟩ := h.frame
  unfold State.resolve State.homeLoc
  rw [e]
  rfl

theorem State.TierWritten.phyDown (l : Loc) : t.phyDown l = s.phyDown l := by
  obtain ⟨_, _, _, _, _, rfl⟩ := h.frame
  cases l <;> rfl

end

/-! ### One byte (R140, R163, R261) -/

section
variable (s : State) (a : Nat) (v : Nat) (l : Loc) (b : Tab Nat) (x : Tab FlashBlock)

theorem State.openPage_tierWritten : s.TierWritten (s.openPage a) := by
  unfold State.openPage
  dsimp only
  split
  · exact ⟨⟨_, _, _, _, _, rfl⟩, fun _ => ⟨_, _, rfl⟩⟩
  · exact .refl s

theorem State.locWrite_tierWritten : s.TierWritten (s.locWrite l v) := by
  cases l with
  | landing y =>
    unfold State.locWrite
    dsimp only
    split
    · exact .refl s
    · exact ⟨⟨_, _, _, _, _, rfl⟩, fun _ => ⟨_, _, rfl⟩⟩
  | none => exact .refl s
  | _ => exact ⟨⟨_, _, _, _, _, rfl⟩, fun _ => ⟨_, _, rfl⟩⟩

theorem State.markDirty_tierWritten : s.TierWritten (s.markDirty a) := by
  unfold State.markDirty
  dsimp only
  split
  · refine ⟨⟨_, _, _, _, _, rfl⟩, fun r => ?_⟩
    unfold State.region State.updRegion
    dsimp only
    by_cases hr : r = a / 2 ^ 26
    · subst hr
      exact ⟨_, _, Tab.get_update_same ..⟩
    · exact ⟨_, _, Tab.get_update_other _ _ _ hr⟩
  · exact .refl s

theorem State.tierWrite_tierWritten : s.TierWritten (s.tierWrite a v) := by
  unfold State.tierWrite
  split
  · exact .refl s
  · exact ((s.openPage_tierWritten a).trans (State.locWrite_tierWritten _ _ _)).trans (State.markDirty_tierWritten _ _)

@[simp] theorem State.withCounts_region (r : Nat) : (s.withCounts b x).region r = s.region r := rfl
@[simp] theorem State.withCounts_isKv (r : Nat) : (s.withCounts b x).isKv r = s.isKv r := rfl
@[simp] theorem State.withCounts_resolve : (s.withCounts b x).resolve a = s.resolve a := rfl
@[simp] theorem State.withCounts_unitDown (u : Nat) : (s.withCounts b x).unitDown u = s.unitDown u := rfl
@[simp] theorem State.withCounts_phyDown : (s.withCounts b x).phyDown l = s.phyDown l := by cases l <;> rfl

theorem State.openPage_withCounts : (s.withCounts b x).openPage a = (s.openPage a).withCounts b x := by
  simp only [State.openPage, State.withCounts_region, State.withCounts_isKv]
  rw [apply_ite (State.withCounts · b x)]
  rfl

theorem State.locWrite_withCounts : (s.withCounts b x).locWrite l v = (s.locWrite l v).withCounts b x := by
  cases l with
  | landing y =>
    simp only [State.locWrite, State.withCounts_unitDown]
    rw [apply_ite (State.withCounts · b x)]
    rfl
  | _ => rfl

theorem State.markDirty_withCounts : (s.withCounts b x).markDirty a = (s.markDirty a).withCounts b x := by
  simp only [State.markDirty, State.withCounts_region]
  rw [apply_ite (State.withCounts · b x)]
  rfl

/-- A write to tier space does not depend on the counters, and leaves them. -/
theorem State.tierWrite_withCounts : (s.withCounts b x).tierWrite a v = (s.tierWrite a v).withCounts b x := by
  simp only [State.tierWrite, State.withCounts_region, State.withCounts_isKv, State.withCounts_resolve,
    State.openPage_withCounts, State.locWrite_withCounts, State.markDirty_withCounts]
  rw [apply_ite (State.withCounts · b x)]

end

/-! ### Runs of bytes -/

section
variable (s : State) (a : Nat) (bs : List Nat) (b : Tab Nat) (x : Tab FlashBlock)

theorem State.tierWriteBytes_tierWritten : s.TierWritten (s.tierWriteBytes a bs) := by
  induction bs generalizing s a with
  | nil => exact .refl s
  | cons v bs ih => exact (s.tierWrite_tierWritten a v).trans (ih ..)

theorem State.tierWriteBytes_withCounts :
    (s.withCounts b x).tierWriteBytes a bs = (s.tierWriteBytes a bs).withCounts b x := by
  induction bs generalizing s a with
  | nil => rfl
  | cons v bs ih => rw [State.tierWriteBytes, State.tierWriteBytes, State.tierWrite_withCounts, ih]

end

/-- A run of steps that do not depend on the counters. -/
theorem State.foldl_withCounts {α : Type} {f : State → α → State}
    (h : ∀ s a b x, f (State.withCounts s b x) a = (f s a).withCounts b x) (l : List α) (s : State) (b : Tab Nat)
    (x : Tab FlashBlock) : l.foldl f (s.withCounts b x) = (l.foldl f s).withCounts b x := by
  induction l generalizing s with
  | nil => rfl
  | cons a l ih => rw [List.foldl_cons, List.foldl_cons, h, ih]

/-! ### The counters (R174) -/

/-- From `s` to `t` objects have been counted, none of a sub-index above 3. -/
def State.Counted (s t : State) : Prop :=
  ∃ b, t = { s with objs := b } ∧ ∀ i j, 3 < j → j < 256 → t.obj (okey i j) = s.obj (okey i j)

theorem State.Counted.refl (s : State) : s.Counted s := ⟨s.objs, rfl, fun _ _ _ _ => rfl⟩

theorem State.Counted.trans {s t u : State} (h : s.Counted t) (h' : t.Counted u) : s.Counted u := by
  obtain ⟨_, rfl, hs⟩ := h
  obtain ⟨b, rfl, ht⟩ := h'
  exact ⟨b, rfl, fun i j hj hj' => (ht i j hj hj').trans (hs i j hj hj')⟩

theorem State.addObj_counted (s : State) {i j : Nat} (hj : j ≤ 3) (w n : Nat) : s.Counted (s.addObj (okey i j) w n) :=
  ⟨_, rfl, fun _ _ hk hk' => State.obj_addObj_other _ _ _ (okey_ne hk' (by omega) (.inr (by omega)))⟩

/-- An access is counted in STACK_BYTES, LANDING_CLASS_BYTES and DDR_BYTES alone (R174). -/
theorem State.countAccess_counted (s : State) {cls : Nat} (a n : Nat) (hc : cls ≤ 3) :
    s.Counted (s.countAccess cls a n) := by
  unfold State.countAccess
  split
  · exact .refl s
  · split
    · exact (s.addObj_counted hc 64 n).trans (State.addObj_counted _ (by decide) 64 n)
    · exact s.addObj_counted (by decide) 64 n
    · exact .refl s

/-- Writes to tier space after a count are counted after the writes. -/
theorem State.Counted.foldl {α : Type} {f : State → α → State} {s t : State} (h : s.Counted t)
    (hc : ∀ s a b x, f (State.withCounts s b x) a = (f s a).withCounts b x)
    (hw : ∀ (t : State) (a : α), t.TierWritten (f t a)) (l : List α) : (l.foldl f s).Counted (l.foldl f t) := by
  obtain ⟨b, rfl, ho⟩ := h
  have hs := State.TierWritten.foldl hw l s
  have he : l.foldl f { s with objs := b } = { l.foldl f s with objs := b } := by
    refine (State.foldl_withCounts hc l s b s.ftl).trans ?_
    rw [← hs.ftl]
    rfl
  refine ⟨b, he, fun i j hj hj' => ?_⟩
  rw [he]
  refine (ho i j hj hj').trans ?_
  obtain ⟨_, _, _, _, _, hf⟩ := hs.frame
  rw [hf]
  rfl

end Sys2Proof.Machine

/-!
PROOF. FILL and SPILL as they move: the pieces of a window and of its kerf lie in the slot, a run of pieces in native mode, and how
a run that meets a failing access ends.
-/

namespace Sys2Proof.Tab

variable {α : Type}

theorem erase_of_ne {t : Tab α} {a : Nat} (h : ∀ e ∈ t, e.1 ≠ a) : erase t a = t := by
  induction t with
  | nil => rfl
  | cons e t ih =>
    rw [erase, if_neg (h e (by simp)), ih fun f hf => h f (List.mem_cons_of_mem _ hf)]

theorem erase_insert {t : Tab α} {a : Nat} (v : α) (h : ∀ e ∈ t, e.1 ≠ a) : erase (insert t a v) a = t := by
  induction t with
  | nil => simp [insert, erase]
  | cons e t ih =>
    obtain ⟨k, w⟩ := e
    have hk : k ≠ a := h (k, w) (by simp)
    have ht : ∀ f ∈ t, f.1 ≠ a := fun f hf => h f (List.mem_cons_of_mem _ hf)
    by_cases ha : a < k
    · simp [insert, ha, erase, hk, erase_of_ne ht]
    · simp [insert, ha, erase, hk, ih ht]

/-- The second of two writes of one key stands alone. -/
theorem put_put_same [DecidableEq α] (d : α) (t : Tab α) (a : Nat) (v w : α) : put d (put d t a v) a w = put d t a w := by
  have he : erase (put d t a v) a = erase t a := by
    rw [put]
    split
    · exact erase_of_ne (erase_ne t a)
    · exact erase_insert v (erase_ne t a)
  conv_lhs => rw [put, he]
  rw [put]

end Sys2Proof.Tab

namespace Sys2Proof.Machine

/-! ### The bytes of a window lie in its slot (R124 to R127) -/

/-- Writes inside a range leave every byte outside it. -/
theorem Mem.read_writes_outside {α : Type} {place : α → Nat} {bytes : α → List Nat} {lo hi a : Nat} (l : List α) (m : Mem)
    (h : ∀ e ∈ l, lo ≤ place e ∧ place e + (bytes e).length ≤ hi) (ha : a < lo ∨ hi ≤ a) :
    (l.foldl (fun m e => m.writeBytes (place e) (bytes e)) m).read a = m.read a := by
  induction l generalizing m with
  | nil => rfl
  | cons e l ih =>
    obtain ⟨h1, h2⟩ := h e (by simp)
    rw [List.foldl_cons, ih _ fun f hf => h f (List.mem_cons_of_mem _ hf), Mem.read_writeBytes_other (by omega)]

theorem Desc.rowValid_le (d : Desc) (rd : Nat) (o : List Int) (r : Nat) : d.rowValid rd o r ≤ 64 :=
  (List.length_filter_le _ _).trans (by simp)

theorem length_packCodes (f : Format) (cs : List Nat) : (packCodes f cs).length = cs.length * f.width / 8 :=
  length_leBytes _ _

/-- A piece cut from a run lies in the run. -/
theorem slot_of_mem_cutPieces {a o n k : Nat} {p : Piece} (h : p ∈ cutPieces a o n k) : p.slot + p.len ≤ o + n := by
  induction k generalizing a o n with
  | zero => simp [cutPieces] at h
  | succ k ih =>
    unfold cutPieces at h
    split at h
    · simp at h
    · rcases List.mem_cons.1 h with rfl | h
      · dsimp only
        omega
      · have := ih h
        omega

/-- A row's value bytes end where the next row's begin (R127). -/
theorem rowBytes_le {f : Format} {r nv : Nat} (hr : r < 64) (hn : nv ≤ 64) :
    r * f.rowBytes + nv * f.width / 8 + (64 - nv) * f.width / 8 ≤ 64 * f.rowBytes := by
  have hsum : nv * f.width + (64 - nv) * f.width = 64 * f.width := by rw [← Nat.add_mul]; congr 1; omega
  have hrow : (r + 1) * f.rowBytes ≤ 64 * f.rowBytes := Nat.mul_le_mul_right _ hr
  unfold Format.rowBytes at hrow ⊢
  rw [Nat.add_mul] at hrow
  omega

/-- Values lie below the scales of a slot, and these below its end (R65, R127). -/
theorem rows_le_slotBytes (f : Format) : 64 * f.rowBytes ≤ f.slotBytes := Nat.le_add_right _ _

theorem scales_le_slotBytes {f : Format} (h : f.isMx = true) {r b : Nat} (hr : r < 64) (hb : b < 2) :
    64 * f.rowBytes + 2 * r + b + 1 ≤ f.slotBytes := by
  rw [Format.slotBytes, if_pos h]
  omega

/-- Every piece of a window lies in the slot image (R127). -/
theorem slot_of_mem_winPieces {d : Desc} {rd : Nat} {o : List Int} {p : Piece} (h : p ∈ winPieces d rd o) :
    p.slot + p.len ≤ d.fmt.slotBytes := by
  obtain ⟨r, hr, hp⟩ := List.mem_flatMap.1 h
  rw [List.mem_range] at hr
  have hv := rowBytes_le (f := d.fmt) hr (d.rowValid_le rd o r)
  have hs := rows_le_slotBytes d.fmt
  rcases List.mem_append.1 hp with hp | hp
  · have := slot_of_mem_cutPieces hp
    omega
  · split at hp
    · next hmx =>
      obtain ⟨b, hb, rfl⟩ := List.mem_map.1 hp
      exact scales_le_slotBytes hmx hr (List.mem_range.1 (List.mem_filter.1 hb).1)
    · simp at hp

/-- Every kerf write of a window lies in the slot image (R125, R127). -/
theorem slot_of_mem_kerfWrites {d : Desc} {rd : Nat} {o : List Int} {e : Nat × List Nat} (h : e ∈ kerfWrites d rd o) :
    e.1 + e.2.length ≤ d.fmt.slotBytes := by
  obtain ⟨r, hr, he⟩ := List.mem_flatMap.1 h
  rw [List.mem_range] at hr
  have hv := rowBytes_le (f := d.fmt) hr (d.rowValid_le rd o r)
  have hs := rows_le_slotBytes d.fmt
  rcases List.mem_cons.1 he with rfl | he
  · rw [length_packCodes, List.length_replicate]
    omega
  · split at he
    · next hmx =>
      obtain ⟨b, hb, rfl⟩ := List.mem_map.1 he
      exact scales_le_slotBytes hmx hr (List.mem_range.1 (List.mem_filter.1 hb).1)
    · simp at he

/-! ### A run of pieces in native mode (R157) -/

/-- The scratchpad of a core replaced. -/
def State.withPad (s : State) (n : Nat) (m : Mem) : State :=
  s.updCore n (fun c => { c with data := { c.data with pad := m } })

/-- No PHY behind a list of pieces is out of lock (R361). -/
def State.piecesUp (s : State) (ps : List Piece) : Prop :=
  ∀ p ∈ ps, s.phyDown (s.resolve p.addr) = false ∧ s.phyDown (s.resolve (p.addr + p.len - 1)) = false

/-- The bytes of a piece as a SPILL writes them (R157). -/
def State.spillBytes (pad : Mem) (slot : Nat) (s : State) (p : Piece) : State :=
  s.tierWriteBytes p.addr (pad.readBytes (slot + p.slot) p.len)

/-- The bytes of a piece as a FILL writes them (R157). -/
def State.fillBytes (s : State) (slot : Nat) (m : Mem) (p : Piece) : Mem :=
  m.writeBytes (slot + p.slot) (s.tierBytes p.addr p.len)

/-- Two changes of one core are one. -/
theorem State.updCore_updCore (s : State) (n : Nat) (f g : Core → Core) :
    (s.updCore n f).updCore n g = s.updCore n (fun c => g (f c)) := by
  have h := State.core_updCore_same s n f
  unfold State.core at h
  unfold State.updCore Tab.update at h ⊢
  dsimp only at h ⊢
  rw [h, Tab.put_put_same]

/-- A change of a scratchpad that has been replaced. -/
theorem State.withPad_updData (s : State) (n : Nat) (m : Mem) (h : Mem → Mem) :
    (s.withPad n m).updData n (fun x => { x with pad := h x.pad }) = s.withPad n (h m) := by
  refine (State.updData_eq_updCore (h := fun c => { c with data := { c.data with pad := h c.data.pad } }) _ rfl).trans ?_
  exact State.updCore_updCore ..

section
variable (s : State) (f : Flight) (slot a : Nat) (p : Piece)

theorem State.spillPiece_counted : (s.tierWriteBytes a ((s.core f.core).data.pad.readBytes (slot + p.slot) p.len)).Counted
    (s.spillPiece f slot a p) :=
  State.countAccess_counted _ _ _ (by decide)

theorem State.fillPiece_counted : (s.updData f.core (fun d => { d with
    pad := d.pad.writeBytes (slot + p.slot) (s.tierBytes a p.len) })).Counted (s.fillPiece f slot a p) :=
  State.countAccess_counted _ _ _ (by decide)

end

section
variable {f : Flight} {d : Desc} {slot : Nat} (hn : d.c6 = false)
include hn

theorem State.translate_native (s : State) (ctx : Nat) (wr : Bool) (a : Nat) : s.translate ctx d wr a = some a := by
  rw [State.translate, hn]
  rfl

/-- A piece behind PHYs in lock moves, and the run goes on. -/
theorem State.movePieces_cons_native {s : State} {p : Piece} (wr : Bool) (t : List Piece)
    (ha : s.phyDown (s.resolve p.addr) = false) (hb : s.phyDown (s.resolve (p.addr + p.len - 1)) = false) :
    s.movePieces f d wr slot none (p :: t) = (if wr then s.spillPiece f slot p.addr p
      else s.fillPiece f slot p.addr p).movePieces f d wr slot none t := by
  rw [State.movePieces]
  simp only [State.translate_native hn, ha, hb]
  rfl

/-- A run of pieces of a SPILL writes the slot's bytes to tier space and counts them. -/
theorem State.movePieces_spill {pad : Mem} (ps : List Piece) {s : State} (hp : (s.core f.core).data.pad = pad)
    (hup : s.piecesUp ps) : ∃ t, s.movePieces f d true slot none ps = (t, true)
      ∧ (ps.foldl (State.spillBytes pad slot) s).Counted t := by
  induction ps generalizing s with
  | nil => exact ⟨s, rfl, .refl s⟩
  | cons p ps ih =>
    have hw : ∀ (t : State) (p : Piece), t.TierWritten (t.spillBytes pad slot p) := fun t p => t.tierWriteBytes_tierWritten _ _
    have hcount : (s.spillBytes pad slot p).Counted (s.spillPiece f slot p.addr p) :=
      hp ▸ s.spillPiece_counted f slot p.addr p
    obtain ⟨ha, hb⟩ := hup p (by simp)
    rw [State.movePieces_cons_native hn true ps ha hb, if_pos rfl, List.foldl_cons]
    have hrest : (s.spillPiece f slot p.addr p).piecesUp ps := by
      obtain ⟨b, he, -⟩ := hcount
      intro q hq
      rw [he]
      have h1 := hup q (List.mem_cons_of_mem _ hq)
      rw [← (hw s p).phyDown, ← (hw s p).phyDown, ← (hw s p).resolve, ← (hw s p).resolve] at h1
      exact h1
    have hpad : ((s.spillPiece f slot p.addr p).core f.core).data.pad = pad := by
      obtain ⟨b, he, -⟩ := hcount
      refine Eq.trans ?_ hp
      rw [he]
      exact congrArg (fun x : Tab Core => (Tab.get ({} : Core) x f.core).data.pad) (hw s p).cores
    obtain ⟨t, ht, hc⟩ := ih hpad hrest
    exact ⟨t, ht, (hcount.foldl (fun s p b x => s.tierWriteBytes_withCounts _ _ b x) hw ps).trans hc⟩

/-- A run of pieces of a FILL writes the pieces' bytes into the scratchpad and counts them. -/
theorem State.movePieces_fill {s : State} (ps : List Piece) {m : Mem} {u : State} (hu : (s.withPad f.core m).Counted u)
    (hup : s.piecesUp ps) : ∃ t, u.movePieces f d false slot none ps = (t, true)
      ∧ (s.withPad f.core (ps.foldl (s.fillBytes slot) m)).Counted t := by
  induction ps generalizing m u with
  | nil => exact ⟨u, rfl, hu⟩
  | cons p ps ih =>
    obtain ⟨ha, hb⟩ := hup p (by simp)
    have hcount : (s.withPad f.core (s.fillBytes slot m p)).Counted (u.fillPiece f slot p.addr p) := by
      obtain ⟨b, rfl, ho⟩ := hu
      refine State.Counted.trans ⟨b, rfl, ho⟩ ?_
      have he := s.withPad_updData f.core m (fun x => x.writeBytes (slot + p.slot) (s.tierBytes p.addr p.len))
      rw [State.fillBytes, ← he]
      exact State.fillPiece_counted _ f slot p.addr p
    have hd : ∀ a, u.phyDown (u.resolve a) = s.phyDown (s.resolve a) := by
      obtain ⟨b, rfl, -⟩ := hu
      exact fun a => rfl
    rw [State.movePieces_cons_native hn false ps ((hd _).trans ha) ((hd _).trans hb), if_neg Bool.false_ne_true,
      List.foldl_cons]
    exact ih hcount fun q hq => hup q (List.mem_cons_of_mem _ hq)

end

/-! ### How a step that meets a failing access ends (R135, R150) -/

/-- From `s` to `t` no command has entered, left or moved on, and nothing is posted. -/
structure State.Underway (s t : State) : Prop where
  flights : t.flights = s.flights
  posts : t.posts = s.posts

/-- From `s` to `t` a command has ended without completing: it is gone, its context is held, nothing is posted. -/
structure State.EndedHeld (s : State) (f : Flight) (t : State) : Prop where
  gone : t.flight f.id = none
  held : (t.ctx f.ctx).held = true
  posts : t.posts = s.posts

theorem State.Underway.refl (s : State) : s.Underway s := ⟨rfl, rfl⟩

theorem State.Underway.trans {s t u : State} (h : s.Underway t) (h' : t.Underway u) : s.Underway u :=
  ⟨h'.flights.trans h.flights, h'.posts.trans h.posts⟩

theorem State.Underway.endedHeld {s t u : State} {f : Flight} (h : s.Underway t) (h' : t.EndedHeld f u) : s.EndedHeld f u :=
  ⟨h'.gone, h'.held, h'.posts.trans h.posts⟩

theorem State.TierWritten.underway {s t : State} (h : s.TierWritten t) : s.Underway t := by
  obtain ⟨_, _, _, _, _, rfl⟩ := h.frame
  exact ⟨rfl, rfl⟩

theorem State.Counted.underway {s t : State} (h : s.Counted t) : s.Underway t := by
  obtain ⟨b, rfl, -⟩ := h
  exact ⟨rfl, rfl⟩

/-- A command whose shell reports a fault and that ends then leaves its context held. -/
theorem State.endFlight_holdShell (s : State) (f : Flight) (code unit detail : Nat) :
    s.EndedHeld f ((s.holdShell code unit f.ctx detail).endFlight f) := by
  have hfewer := (s.holdShell code unit f.ctx detail).endFlight_fewer f
  refine ⟨?gone, (hfewer.ctxs f.ctx).1.trans ?held, ?posts⟩
  case gone =>
    rw [State.flight, State.endFlight_flights]
    exact List.find?_eq_none.2 fun g hg => by simpa using (List.mem_filter.1 hg).2
  case held => exact (State.held_hold _ f.ctx code).1
  case posts =>
    obtain ⟨d, b, k, x, g, q, p, he⟩ := (s.holdShell code unit f.ctx detail).endFlight_frame f
    obtain ⟨b', h', x', g', q', p', hs⟩ := s.holdShell_frame code unit f.ctx detail
    rw [he, hs]
    rfl

/-- An uncorrectable access ends its step (R150). -/
theorem State.memFault_endedHeld (s : State) (f : Flight) (a : Nat) : s.EndedHeld f (s.memFault f a) := by
  have hcount : s.Underway (s.countUncorr (s.resolve a)) := by
    cases s.resolve a <;> exact ⟨rfl, rfl⟩
  exact hcount.endedHeld (State.endFlight_holdShell ..)

/-- A C6 access that is not permitted ends its command (R135). -/
theorem State.c6Fault_endedHeld (s : State) (f : Flight) (va : Nat) : s.EndedHeld f (s.c6Fault f va) :=
  State.Underway.endedHeld (t := s.setObj (okey (0x2800 + f.ctx) 0x0B) va) ⟨rfl, rfl⟩ (State.endFlight_holdShell ..)

/-- A piece moved by a FILL or SPILL leaves the command under way. -/
theorem State.piece_underway (s : State) (f : Flight) (wr : Bool) (slot a : Nat) (p : Piece) :
    s.Underway (if wr then s.spillPiece f slot a p else s.fillPiece f slot a p) := by
  cases wr with
  | true => exact (s.tierWriteBytes_tierWritten _ _).underway.trans (s.spillPiece_counted f slot a p).underway
  | false => exact .trans (t := s.updData f.core _) ⟨rfl, rfl⟩ (s.fillPiece_counted f slot a p).underway

/-- A run of pieces comes to its end, or its command ends with its context held (R135, R150, R361). -/
theorem State.movePieces_outcome (f : Flight) (d : Desc) (wr : Bool) (slot : Nat) (ps : List Piece) (err : Option Nat)
    (s : State) : ((s.movePieces f d wr slot err ps).2 = true ∧ s.Underway (s.movePieces f d wr slot err ps).1)
      ∨ ((s.movePieces f d wr slot err ps).2 = false ∧ s.EndedHeld f (s.movePieces f d wr slot err ps).1) := by
  induction ps generalizing s err with
  | nil => exact .inl ⟨rfl, .refl s⟩
  | cons p ps ih =>
    rw [State.movePieces]
    split
    · exact .inr ⟨rfl, s.c6Fault_endedHeld f _⟩
    · next a _ =>
      split
      · exact .inr ⟨rfl, s.memFault_endedHeld f a⟩
      · have hp := s.piece_underway f wr slot a p
        exact (ih (err.map (· - 1)) _).imp (fun h => ⟨h.1, hp.trans h.2⟩) (fun h => ⟨h.1, hp.endedHeld h.2⟩)

end Sys2Proof.Machine

/-!
PROOF. The start of a FILL or SPILL: the whole move in native mode, how one that fails ends, and the fault of a region without a
home.
-/

namespace Sys2Proof.Machine

/-- The start of FILL, or of SPILL. -/
def moveStart (wr : Bool) (id : Nat) (err : Option Nat) : Instr :=
  if wr then .spill (.start id) err else .fill (.start id) err

/-- The descriptor of a dispatched FILL or SPILL (R117). -/
def Flight.moveDesc (f : Flight) : Desc := descOf (f.descs.headD { num := 0, image := 0 }).image

/-- The slot of a dispatched FILL or SPILL (R155). -/
def Flight.moveSlot (f : Flight) : Nat := 64 * fld f.w0 59 44

/-- The pieces that a dispatched FILL or SPILL moves (R157). -/
def Flight.movePs (f : Flight) : List Piece := winPieces f.moveDesc (fld f.w0 65 64) f.origin

/-- A scratchpad once the kerf of a FILL is written (R125). -/
def Flight.kerfed (f : Flight) (m : Mem) : Mem :=
  (kerfWrites f.moveDesc (fld f.w0 65 64) f.origin).foldl (fun m e => m.writeBytes (f.moveSlot + e.1) e.2) m

/-- The state in which a FILL or SPILL begins to move pieces: a FILL has written its kerf (R125). -/
def State.moveBegun (s : State) (f : Flight) (wr : Bool) : State :=
  if wr then s else s.updData f.core (fun x => { x with pad := f.kerfed x.pad })

/-- A finished FILL or SPILL is counted in its core's FILL_BYTES or SPILL_BYTES, and its effect is done (R157, R174). -/
def State.moveDone (s : State) (f : Flight) (wr : Bool) (id : Nat) : State :=
  (s.addObj (okey (0x8000 + f.core) (if wr then 0x0D else 0x0C)) 64 f.moveDesc.fmt.slotBytes).updFlight id
    (fun g => { g with phase := .done })

/-- A command whose effect is done is still dispatched, as done. -/
theorem State.flight_done {s : State} {id : Nat} {f : Flight} (h : s.flight id = some f) :
    ∃ g, (s.updFlight id (fun g => { g with phase := .done })).flight id = some g ∧ g.phase = .done := by
  unfold State.flight State.updFlight at *
  dsimp only
  generalize s.flights = l at h
  induction l with
  | nil => simp at h
  | cons a l ih =>
    by_cases ha : a.id = id
    · exact ⟨{ a with phase := .done }, by simp [ha], rfl⟩
    · simp only [List.find?_cons, ha, decide_false, List.map_cons, if_false] at h ⊢
      exact ih h

/-- A move whose bytes are counted is counted as a whole, in FILL_BYTES or SPILL_BYTES, and in no memory (R174). -/
theorem State.moveDone_of_counted {s u t : State} (h : u.Counted t) (hu : u.objs = s.objs) (f : Flight) (wr : Bool)
    (id : Nat) : ∃ b, t.moveDone f wr id = ({ u with objs := b } : State).updFlight id (fun g => { g with phase := .done })
      ∧ ({ s with objs := b } : State).obj (okey (0x8000 + f.core) (if wr then 0x0D else 0x0C))
        = (s.obj (okey (0x8000 + f.core) (if wr then 0x0D else 0x0C)) + f.moveDesc.fmt.slotBytes) % 2 ^ 64 := by
  have hkey : u.obj (okey (0x8000 + f.core) (if wr then 0x0D else 0x0C))
      = s.obj (okey (0x8000 + f.core) (if wr then 0x0D else 0x0C)) := congrArg (Tab.get _ · _) hu
  obtain ⟨b, rfl, ho⟩ := h
  refine ⟨_, rfl, (State.obj_addObj_same { u with objs := b } _ 64 _).trans ?_⟩
  rw [ho _ _ (by cases wr <;> decide) (by cases wr <;> decide), hkey]

section
variable {s : State} {id : Nat} {f : Flight} {wr : Bool}

theorem exec_moveStart (err : Option Nat) (ht : s.touchesNone id = false) :
    exec (moveStart wr id err) s = .next (s.startMove id (moveOp wr) wr err) := by
  have hc : ¬ ((s.startable id (moveOp wr)).isSome && s.touchesNone id) = true := by rw [ht, Bool.and_false]; decide
  cases wr <;> exact if_neg hc

variable (hs : s.startable id (moveOp wr) = some f)

include hs

theorem exec_moveStart_unmapped (err : Option Nat) (ht : s.touchesNone id = true) :
    exec (moveStart wr id err) s = .fault .unmapped := by
  have hc : ((s.startable id (moveOp wr)).isSome && s.touchesNone id) = true := by rw [hs, ht]; rfl
  cases wr <;> exact if_pos hc

theorem State.startMove_of_startable (err : Option Nat) : s.startMove id (moveOp wr) wr err
    = if ((s.moveBegun f wr).movePieces f f.moveDesc wr f.moveSlot err f.movePs).2
      then (((s.moveBegun f wr).movePieces f f.moveDesc wr f.moveSlot err f.movePs).1).moveDone f wr id
      else ((s.moveBegun f wr).movePieces f f.moveDesc wr f.moveSlot err f.movePs).1 := by
  rw [State.startMove, hs]
  rfl

theorem State.startMove_done {err : Option Nat} {t : State}
    (hm : (s.moveBegun f wr).movePieces f f.moveDesc wr f.moveSlot err f.movePs = (t, true)) :
    s.startMove id (moveOp wr) wr err = t.moveDone f wr id := by
  rw [State.startMove_of_startable hs, hm]
  rfl

/-- A FILL or SPILL that starts has its effect done, or has ended with its context held (R135, R150). -/
theorem State.startMove_outcome (err : Option Nat) :
    (∃ g, (s.startMove id (moveOp wr) wr err).flight id = some g ∧ g.phase = .done)
    ∨ ((s.startMove id (moveOp wr) wr err).flight id = none
      ∧ ((s.startMove id (moveOp wr) wr err).ctx f.ctx).held = true
      ∧ (s.startMove id (moveOp wr) wr err).posts = s.posts) := by
  have hf := (State.startable_flight hs).1
  have hb : s.Underway (s.moveBegun f wr) := by cases wr <;> exact ⟨rfl, rfl⟩
  rw [State.startMove_of_startable hs]
  rcases State.movePieces_outcome f f.moveDesc wr f.moveSlot f.movePs err (s.moveBegun f wr) with ⟨h2, h1⟩ | ⟨h2, h1⟩
  · rw [if_pos h2]
    refine .inl (State.flight_done (f := f) ?_)
    exact (State.flight_congr (hb.trans h1).flights id).trans hf
  · rw [h2, if_neg Bool.false_ne_true]
    obtain ⟨hgone, hheld, hposts⟩ := hb.endedHeld h1
    exact .inr ⟨State.flight_id hf ▸ hgone, hheld, hposts⟩

end

/-- A FILL in native mode whose accesses are made fills its slot (R125, R126, R157). -/
theorem State.startMove_fill {s : State} {id : Nat} {f : Flight} (hs : s.startable id 0x90 = some f)
    (hn : f.moveDesc.c6 = false) (hup : s.piecesUp f.movePs) :
    ∃ b, s.startMove id 0x90 false none = ({ s.withPad f.core (f.movePs.foldl (s.fillBytes f.moveSlot)
        (f.kerfed (s.core f.core).data.pad)) with objs := b } : State).updFlight id (fun g => { g with phase := .done })
      ∧ ({ s with objs := b } : State).obj (okey (0x8000 + f.core) 0x0C)
        = (s.obj (okey (0x8000 + f.core) 0x0C) + f.moveDesc.fmt.slotBytes) % 2 ^ 64 := by
  have hb : s.moveBegun f false = s.withPad f.core (f.kerfed (s.core f.core).data.pad) :=
    State.updData_eq_updCore (g := fun x => { x with pad := f.kerfed x.pad })
      (h := fun c => { c with data := { c.data with pad := f.kerfed (s.core f.core).data.pad } }) s rfl
  have hbegun : (s.withPad f.core (f.kerfed (s.core f.core).data.pad)).Counted (s.moveBegun f false) := hb ▸ .refl _
  obtain ⟨t, ht, hc⟩ := State.movePieces_fill (slot := f.moveSlot) hn f.movePs hbegun hup
  obtain ⟨b, hdone, hcount⟩ := State.moveDone_of_counted hc rfl f false id
  exact ⟨b, (State.startMove_done (wr := false) hs ht).trans hdone, hcount⟩

/-- A SPILL in native mode whose accesses are made writes its slot to tier space (R126, R157). -/
theorem State.startMove_spill {s : State} {id : Nat} {f : Flight} (hs : s.startable id 0x91 = some f)
    (hn : f.moveDesc.c6 = false) (hup : s.piecesUp f.movePs) :
    ∃ b, s.startMove id 0x91 true none = ({ f.movePs.foldl (State.spillBytes (s.core f.core).data.pad f.moveSlot) s with
        objs := b } : State).updFlight id (fun g => { g with phase := .done })
      ∧ ({ s with objs := b } : State).obj (okey (0x8000 + f.core) 0x0D)
        = (s.obj (okey (0x8000 + f.core) 0x0D) + f.moveDesc.fmt.slotBytes) % 2 ^ 64 := by
  obtain ⟨t, ht, hc⟩ := State.movePieces_spill (slot := f.moveSlot) hn f.movePs rfl hup
  have hw := State.TierWritten.foldl (f := State.spillBytes (s.core f.core).data.pad f.moveSlot)
    (fun t p => t.tierWriteBytes_tierWritten _ _) f.movePs s
  obtain ⟨b, hdone, hcount⟩ := State.moveDone_of_counted hc hw.objs f true id
  exact ⟨b, (State.startMove_done (wr := true) hs ht).trans hdone, hcount⟩

/-- A FILL writes no byte outside its slot (R127). -/
theorem read_fill_outside (s : State) (f : Flight) (m : Mem) {a : Nat}
    (ha : a < f.moveSlot ∨ f.moveSlot + f.moveDesc.fmt.slotBytes ≤ a) :
    (f.movePs.foldl (s.fillBytes f.moveSlot) (f.kerfed m)).read a = m.read a := by
  have hpieces := Mem.read_writes_outside (place := fun p : Piece => f.moveSlot + p.slot)
    (bytes := fun p => s.tierBytes p.addr p.len) f.movePs (f.kerfed m) (fun p hp => ?pieces) ha
  case pieces =>
    have := slot_of_mem_winPieces hp
    rw [State.tierBytes, List.length_map, List.length_range]
    omega
  have hkerf := Mem.read_writes_outside (place := fun e : Nat × List Nat => f.moveSlot + e.1) (bytes := fun e => e.2)
    (kerfWrites f.moveDesc (fld f.w0 65 64) f.origin) m (fun e he => ?kerf) ha
  case kerf =>
    have := slot_of_mem_kerfWrites he
    omega
  exact hpieces.trans hkerf

/-- Settles O21: in native mode a run of pieces is a run of writes of one memory, beside counters; where an access fails, the
run ends its command with the context held. -/
theorem fillAndSpillMoveTheWindow : Obligations.FillAndSpillMoveTheWindow := by
  refine ⟨?fill, ?spill, ?outcome, ?unmapped⟩
  case fill =>
    intro s id f hs ht d slot kerf ps pad pad1 hn hup
    obtain ⟨b, hmove, hcount⟩ := State.startMove_fill hs hn hup
    exact ⟨⟨b, (exec_moveStart (wr := false) none ht).trans (congrArg _ hmove), hcount⟩,
      fun a ha => read_fill_outside s f pad ha⟩
  case spill =>
    intro s id f hs ht d slot pad t hn hup
    obtain ⟨b, hmove, hcount⟩ := State.startMove_spill hs hn hup
    exact ⟨b, (exec_moveStart (wr := true) none ht).trans (congrArg _ hmove), hcount⟩
  case outcome =>
    intro s id f wr err hs ht
    exact ⟨_, exec_moveStart err ht, State.startMove_outcome hs err⟩
  case unmapped =>
    intro s id f wr err hs ht
    exact exec_moveStart_unmapped hs err ht

end Sys2Proof.Machine

/-!
PROOF. The dispatch of a MOVE: its checks in their order.
-/

namespace Sys2Proof.Machine

section
variable {s : State} {sh : Shell} {h : Head} (hr : s.readyHead sh 0x98 (fun _ => .unit) = some h)

theorem exec_moveDispatchStep (s : State) (err : Option Nat) (hw : sh.wf = true) :
    exec (.move (.dispatch sh) err) s = .next (s.dispatchMover sh) :=
  need_ok hw _

include hr

/-- A MOVE without its two descriptors holds the context (R117). -/
theorem State.dispatchMover_undescribed (hd : s.useDesc h.ctx (moveBody h.words).sdesc true false = none
      ∨ s.useDesc h.ctx (moveBody h.words).ddesc false true = none) :
    s.dispatchMover sh = s.holdHead h 0x5008 0 := by
  refine State.dispatch_stop hr ?_
  rcases hd with hd | hd
  · simp only [hd]
  · simp only [hd]
    cases s.useDesc h.ctx (moveBody h.words).sdesc true false <;> rfl

variable {sd dd : Desc} (hsd : s.useDesc h.ctx (moveBody h.words).sdesc true false = some sd)
  (hdd : s.useDesc h.ctx (moveBody h.words).ddesc false true = some dd)
include hsd hdd

/-- A MOVE that a rule forbids holds the context with the rule's fault (R130, R141, R148, R167, R168, R173). -/
theorem State.dispatchMover_fault {code : Nat}
    (hf : s.moveFault h (moveBody h.words) sd dd (s.moveRegions h.ctx (moveBody h.words) sd dd false)
      (s.moveRegions h.ctx (moveBody h.words) sd dd true) = some code) :
    s.dispatchMover sh
      = s.holdHead h code (accessDetail code (s.moveFirst h.ctx (moveBody h.words) sd dd false)) :=
  State.dispatch_stop hr (by simp only [hsd, hdd, hf])

variable (hf : s.moveFault h (moveBody h.words) sd dd (s.moveRegions h.ctx (moveBody h.words) sd dd false)
  (s.moveRegions h.ctx (moveBody h.words) sd dd true) = none)
include hf

/-- A MOVE into a serving buffer that is not FILLING holds the context (R255). -/
theorem State.dispatchMover_busy (hb : s.moveBusy h.ctx (moveBody h.words) sd dd = true) :
    s.dispatchMover sh = s.holdHead h 0x5013 (s.moveFirst h.ctx (moveBody h.words) sd dd true) :=
  State.dispatch_stop hr (by simp only [hsd, hdd, hf, hb, if_true])

/-- A MOVE that nothing keeps back enters its unit's queue with copies of its descriptors (R117, R168). -/
theorem State.dispatchMover_of_free (hb : s.moveBusy h.ctx (moveBody h.words) sd dd = false) :
    s.dispatchMover sh = ((s.acquire h).launch { h.flight .unit with
      pos := (s.stream h.ctx h.owner).pos
      descs := [s.copyOf h.ctx (moveBody h.words).sdesc, s.copyOf h.ctx (moveBody h.words).ddesc]
      regions := (s.moveRegions h.ctx (moveBody h.words) sd dd false
        ++ s.moveRegions h.ctx (moveBody h.words) sd dd true).eraseDups }).restCheck h.ctx := by
  refine State.dispatch_ok (f := { h.flight .unit with
    descs := [s.copyOf h.ctx (moveBody h.words).sdesc, s.copyOf h.ctx (moveBody h.words).ddesc]
    regions := (s.moveRegions h.ctx (moveBody h.words) sd dd false
      ++ s.moveRegions h.ctx (moveBody h.words) sd dd true).eraseDups }) hr ?_
  simp only [hsd, hdd, hf, hb, Bool.false_eq_true, if_false]

end

end Sys2Proof.Machine

/-!
PROOF. The rows of a MOVE: what one row writes, how a run of rows goes on in native mode, what it counts of its windows, and how a
run that meets a failing access ends.
-/

namespace Sys2Proof.Machine

/-! ### Counts of a MOVE (R146, R147, R174) -/

/-- From `s` to `t` nothing has changed but what counts accesses. -/
def State.SameButCounts (s t : State) : Prop := ∃ b x, t = s.withCounts b x

theorem State.SameButCounts.refl (s : State) : s.SameButCounts s := ⟨s.objs, s.ftl, rfl⟩

theorem State.SameButCounts.trans {s t u : State} (h : s.SameButCounts t) (h' : t.SameButCounts u) : s.SameButCounts u := by
  obtain ⟨_, _, rfl⟩ := h
  obtain ⟨b, x, rfl⟩ := h'
  exact ⟨b, x, rfl⟩

theorem State.SameButCounts.underway {s t : State} (h : s.SameButCounts t) : s.Underway t := by
  obtain ⟨_, _, rfl⟩ := h
  exact ⟨rfl, rfl⟩

theorem State.addObj_sameButCounts (s : State) (k w n : Nat) : s.SameButCounts (s.addObj k w n) := ⟨_, _, rfl⟩

theorem State.countAccess_sameButCounts (s : State) (cls a n : Nat) : s.SameButCounts (s.countAccess cls a n) := by
  unfold State.countAccess
  split
  · exact .refl s
  · split
    · exact (s.addObj_sameButCounts ..).trans (State.addObj_sameButCounts ..)
    · exact s.addObj_sameButCounts ..
    · exact .refl s

theorem State.countMove_counts (s : State) (cls : Nat) (g : MoveProg) (wr : Bool) (a n : Nat) :
    s.SameButCounts (s.countMove cls g wr a n).1 ∧ (s.countMove cls g wr a n).2.wins = g.wins := by
  have hc := s.countAccess_sameButCounts cls a n
  unfold State.countMove
  dsimp only
  split
  · next q x _ =>
    split
    · exact ⟨hc.trans ⟨_, _, rfl⟩, rfl⟩
    · have hb := hc.trans (State.addObj_sameButCounts _ (okey (0x3400 + q) 2) 64 n)
      split
      · exact ⟨hb, rfl⟩
      · exact ⟨hb.trans (State.addObj_sameButCounts ..), rfl⟩
  · exact ⟨hc, rfl⟩

/-- The accesses of a row are counted, and the windows made stand. -/
theorem State.countRow_counts (s : State) (f : Flight) (sd dd : Desc) (g : MoveProg) (accs : List MoveAcc) :
    s.SameButCounts (s.countRow f sd dd g accs).1 ∧ (s.countRow f sd dd g accs).2.wins = g.wins := by
  refine List.foldlRecOn (motive := fun t : State × MoveProg => s.SameButCounts t.1 ∧ t.2.wins = g.wins) _ _
    ⟨.refl s, rfl⟩ ?_
  rintro t ⟨hs, hg⟩ e _
  split
  · next x _ =>
    obtain ⟨hs', hg'⟩ := t.1.countMove_counts (moverClass f.owner) t.2 e.write x
      ((accs.filter e.same).map (fun y => y.addr)).eraseDups.length
    exact ⟨hs.trans hs', hg'.trans hg⟩
  · exact ⟨hs, hg⟩

/-! ### What a row writes (R126, R131, R168) -/

theorem State.descWrite_tierWritten (s : State) (ctx : Nat) (d : Desc) (a : Nat) (bs : List Nat) :
    s.TierWritten (s.descWrite ctx d a bs) := by
  refine State.TierWritten.foldl (fun t e => ?_) _ s
  split
  · exact t.tierWrite_tierWritten _ _
  · exact .refl t

/-- Bytes at native addresses are bytes of tier space (R117). -/
theorem State.descWrite_native {d : Desc} (hn : d.c6 = false) (s : State) (ctx a : Nat) (bs : List Nat) :
    s.descWrite ctx d a bs = s.tierWriteBytes a bs := by
  unfold State.descWrite
  simp only [State.translate_native hn]
  induction bs generalizing s a with
  | nil => rfl
  | cons v bs ih =>
    rw [List.mapIdx_cons, List.foldl_cons, State.tierWriteBytes, ← ih]
    simp only [Nat.add_zero, Nat.add_assoc, Nat.add_comm 1]

section
variable (b : MoveBody) (sd dd : Desc)

theorem moveRowInto_tierWritten (s : State) (e : List Int × Nat) : s.TierWritten (Claims.moveRowInto b sd dd s e) := by
  unfold Claims.moveRowInto
  dsimp only
  split
  · exact (s.tierWriteBytes_tierWritten _ _).trans (State.tierWriteBytes_tierWritten _ _ _)
  · exact s.tierWriteBytes_tierWritten _ _

/-- What a row reads and writes does not depend on the counters. -/
theorem moveRowInto_withCounts (s : State) (e : List Int × Nat) (c : Tab Nat) (x : Tab FlashBlock) :
    Claims.moveRowInto b sd dd (s.withCounts c x) e = (Claims.moveRowInto b sd dd s e).withCounts c x := by
  have hrd : (s.withCounts c x).tierRead = s.tierRead := rfl
  simp only [Claims.moveRowInto, hrd, State.tierWriteBytes_withCounts]
  rw [apply_ite (State.withCounts · c x)]

/-- A row of a native MOVE is written as the statement of its bytes says, beside counters. -/
theorem State.moveCols_native (hsd : sd.c6 = false) (hdd : dd.c6 = false) (s : State) (f : Flight) (g : MoveProg)
    (o : List Int) (r : Nat) :
    (Claims.moveRowInto b sd dd s (o, r)).SameButCounts (s.moveCols f b sd dd g o r (dd.rowValid b.drd o r)).1
    ∧ (s.moveCols f b sd dd g o r (dd.rowValid b.drd o r)).2.1.wins = g.wins := by
  obtain ⟨⟨c, x, hc⟩, hg⟩ := s.countRow_counts f sd dd g (moveRowAccs b sd dd r (dd.rowValid b.drd o r) o)
  refine ⟨.trans ⟨c, x, ?_⟩ (State.addObj_sameButCounts ..), hg⟩
  simp only [hc, State.translate_native hsd, State.descWrite_native hdd, State.tierWriteBytes_withCounts]
  rw [← apply_ite (State.withCounts · c x)]
  rfl

/-- A part of a row leaves the command under way. -/
theorem State.moveCols_underway (s : State) (f : Flight) (g : MoveProg) (o : List Int) (r n : Nat) :
    s.Underway (s.moveCols f b sd dd g o r n).1 := by
  have hc := (s.countRow_counts f sd dd g (moveRowAccs b sd dd r n o)).1.underway
  refine (hc.trans ?_).trans (State.addObj_sameButCounts ..).underway
  split
  · exact ((State.descWrite_tierWritten ..).trans (State.descWrite_tierWritten ..)).underway
  · exact (State.descWrite_tierWritten ..).underway

end

/-! ### The windows that a MOVE has made (R132) -/

/-- Rows made of a window. -/
def MoveProg.made (g : MoveProg) (o : List Int) : Nat := ((g.wins.find? (fun e => e.1 = o)).map (fun e => e.2.1)).getD 0

theorem MoveProg.made_congr {g h : MoveProg} (he : g.wins = h.wins) (o : List Int) : g.made o = h.made o := by
  rw [MoveProg.made, he, MoveProg.made]

/-- A row noted is one more row of its window, and of no other. -/
theorem MoveProg.made_note (g : MoveProg) (o : List Int) (st : Stat) (w : List Int) :
    (g.note o st).made w = g.made w + if o = w then 1 else 0 := by
  unfold MoveProg.made MoveProg.note
  by_cases hw : o = w
  · subst hw
    cases hf : g.wins.find? (fun e => e.1 = o) <;> simp
  · cases hf : g.wins.find? (fun e => e.1 = o) with
    | none => simp [hw]
    | some e =>
      have hne : ∀ a : List Int × Nat × Stat, (!decide (a.1 = o) && decide (a.1 = w)) = decide (a.1 = w) := by
        intro a
        by_cases ha : a.1 = w
        · simp [ha, Ne.symm hw]
        · simp [ha]
      simp [hw, List.find?_filter, hne]

/-- The rows of a list of windows, window after window (R168). -/
def rowsOf (ws : List (List Int)) : List (List Int × Nat) := ws.flatMap (fun o => (List.range 64).map (fun r => (o, r)))

/-- A window named once has its 64 rows. -/
theorem countP_rowsOf {ws : List (List Int)} (hd : ws.Nodup) {o : List Int} (ho : o ∈ ws) :
    (rowsOf ws).countP (fun e => e.1 = o) = 64 := by
  have hrows : ∀ w : List Int, ((List.range 64).map (fun r => (w, r))).countP (fun e => e.1 = o) = if w = o then 64 else 0 := by
    intro w
    by_cases hw : w = o <;> simp [List.countP_map, Function.comp_def, hw]
  have hnone : ∀ vs : List (List Int), o ∉ vs → (rowsOf vs).countP (fun e => e.1 = o) = 0 := by
    intro vs hvs
    refine List.countP_eq_zero.2 fun e he => ?_
    obtain ⟨w, hw, hr⟩ := List.mem_flatMap.1 he
    obtain ⟨r, -, rfl⟩ := List.mem_map.1 hr
    simpa using fun h : w = o => hvs (h ▸ hw)
  induction ws with
  | nil => simp at ho
  | cons w ws ih =>
    obtain ⟨hw, hd⟩ := List.nodup_cons.1 hd
    rw [rowsOf, List.flatMap_cons, List.countP_append, hrows]
    rcases List.mem_cons.1 ho with rfl | ho
    · rw [if_pos rfl]
      exact congrArg (64 + ·) (hnone ws hw)
    · rw [if_neg fun h : w = o => hw (h ▸ ho)]
      exact (Nat.zero_add _).trans (ih hd ho)

/-! ### A run of rows (R135, R168) -/

section
variable {b : MoveBody} {sd dd : Desc} (hsd : sd.c6 = false) (hdd : dd.c6 = false)
include hsd hdd

/-- With both sides native and no PHY out of lock every access of a row is made. -/
theorem State.rowStop_native {s : State} (hup : ∀ l, s.phyDown l = false) (ctx : Nat) (us : List MoveAcc) :
    s.rowStop ctx sd dd us none = none := by
  refine List.findSome?_eq_none_iff.2 fun e _ => ?_
  have hd : (if e.2.write then dd else sd).c6 = false := by cases e.2.write <;> assumption
  simp only [State.accAddr, State.translate_native hd, hup]
  rfl

/-- A run of rows writes them one after the other, beside counters, and notes each row of its window (R168). -/
theorem State.moveRows_native (f : Flight) (rows : List (List Int × Nat)) {s t : State} (g : MoveProg)
    (hst : s.SameButCounts t) (hup : ∀ l, s.phyDown l = false) :
    ∃ u g', t.moveRows f b sd dd none g rows = (u, true, g') ∧ (rows.foldl (Claims.moveRowInto b sd dd) s).SameButCounts u
      ∧ ∀ o, g'.made o = g.made o + rows.countP (fun e => e.1 = o) := by
  induction rows generalizing s t g with
  | nil => exact ⟨t, g, rfl, hst, fun o => rfl⟩
  | cons e rows ih =>
    obtain ⟨o, r⟩ := e
    obtain ⟨c, x, rfl⟩ := hst
    have hup' : ∀ l, (s.withCounts c x).phyDown l = false := fun l => (s.withCounts_phyDown l c x).trans (hup l)
    obtain ⟨hrow, hg⟩ := State.moveCols_native b sd dd hsd hdd (s.withCounts c x) f g o r
    rw [moveRowInto_withCounts] at hrow
    obtain ⟨u, g', hu, hsu, hmade⟩ := ih (((s.withCounts c x).moveCols f b sd dd g o r (dd.rowValid b.drd o r)).2.1.note o
      ((s.withCounts c x).moveCols f b sd dd g o r (dd.rowValid b.drd o r)).2.2) (State.SameButCounts.trans ⟨c, x, rfl⟩ hrow)
      (fun l => ((moveRowInto_tierWritten b sd dd s (o, r)).phyDown l).trans (hup l))
    refine ⟨u, g', ?_, hsu, fun w => ?_⟩
    · rw [State.moveRows]
      simp only [State.rowStop_native hsd hdd hup']
      exact hu
    · rw [hmade, MoveProg.made_note, MoveProg.made_congr hg, List.countP_cons, Nat.add_assoc]
      simp only [decide_eq_true_eq]
      omega

end

/-- A run of rows comes to its end, or its command ends with its context held (R135, R150, R361). -/
theorem State.moveRows_outcome (f : Flight) (b : MoveBody) (sd dd : Desc) (rows : List (List Int × Nat)) (err : Option Nat)
    (g : MoveProg) (s : State) :
    ((s.moveRows f b sd dd err g rows).2.1 = true ∧ s.Underway (s.moveRows f b sd dd err g rows).1)
      ∨ ((s.moveRows f b sd dd err g rows).2.1 = false ∧ s.EndedHeld f (s.moveRows f b sd dd err g rows).1) := by
  induction rows generalizing s err g with
  | nil => exact .inl ⟨rfl, .refl s⟩
  | cons e rows ih =>
    obtain ⟨o, r⟩ := e
    rw [State.moveRows]
    dsimp only
    split
    · next e c6 _ =>
      refine .inr ⟨rfl, (State.moveCols_underway b sd dd s f g o r (moveCut b sd dd e.col)).endedHeld ?_⟩
      cases c6 with
      | true => exact State.c6Fault_endedHeld ..
      | false => exact State.memFault_endedHeld ..
    · have hc := State.moveCols_underway b sd dd s f g o r (dd.rowValid b.drd o r)
      exact (ih _ _ _).imp (fun h => ⟨h.1, hc.trans h.2⟩) (fun h => ⟨h.1, hc.endedHeld h.2⟩)

end Sys2Proof.Machine

/-!
PROOF. The run of a MOVE: its waits, its rows and the statuses that it passes to the Scaler.
-/

namespace Sys2Proof.Machine

/-! ### Statuses (R132) -/

/-- A window whose 64 rows are made has its record. -/
theorem MoveProg.find_of_made {g : MoveProg} {o : List Int} (h : g.made o = 64) :
    ∃ w st, g.wins.find? (fun e => e.1 = o) = some (w, 64, st) := by
  unfold MoveProg.made at h
  cases hf : g.wins.find? (fun e => e.1 = o) with
  | none => simp [hf] at h
  | some e =>
    obtain ⟨w, n, st⟩ := e
    rw [hf] at h
    obtain rfl : n = 64 := h
    exact ⟨w, st, rfl⟩

theorem length_filterMap_of_isSome {α β : Type} {f : α → Option β} {l : List α} (h : ∀ a ∈ l, (f a).isSome = true) :
    (l.filterMap f).length = l.length := by
  induction l with
  | nil => rfl
  | cons a l ih =>
    obtain ⟨b, hb⟩ := Option.isSome_iff_exists.1 (h a (by simp))
    rw [List.filterMap_cons_some hb, List.length_cons, List.length_cons, ih fun c hc => h c (List.mem_cons_of_mem _ hc)]

/-- The statuses go to the Scaler and change nothing else. -/
theorem State.moveStats_frame (s : State) (f : Flight) (b : MoveBody) (g : MoveProg) :
    s.moveStats f b g = { s with scalerQ := (s.moveStats f b g).scalerQ } := rfl

/-- A MOVE that has made every window whole passes on one record for each (R132). -/
theorem State.length_moveStats {g : MoveProg} {b : MoveBody} (h : ∀ o ∈ moveWindows b, g.made o = 64) (s : State) (f : Flight) :
    (s.moveStats f b g).scalerQ.length = s.scalerQ.length + (moveWindows b).length := by
  unfold State.moveStats
  rw [List.length_append, length_filterMap_of_isSome, List.length_mapIdx]
  intro e he
  obtain ⟨k, hk, rfl⟩ := List.mem_mapIdx.1 he
  obtain ⟨w, st, hf⟩ := MoveProg.find_of_made (h _ (List.getElem_mem hk))
  simp only [hf]
  rfl

/-! ### The run (R168, R190, R322) -/

theorem State.startableStep_flight {s : State} {id op : Nat} {f : Flight} (h : s.startableStep id op = some f) :
    s.flight id = some f := by
  unfold State.startableStep at h
  split at h
  · cases h
  · next g hg =>
    dsimp only at h
    split at h
    · rw [hg, h]
    · cases h

/-- The descriptors of a dispatched MOVE, its source's and its destination's (R117). -/
def Flight.moveDescs (f : Flight) : Desc × Desc :=
  (descOf (f.descs.getD 0 { num := 0, image := 0 }).image, descOf (f.descs.getD 1 { num := 0, image := 0 }).image)

/-- Whether a home that a MOVE touches cannot be reached (R190). -/
def State.homeMissing (s : State) (f : Flight) : Bool :=
  f.regions.any (fun r => let g := s.region r; !g.staged && !s.isKv r && !s.homeUp g)

/-- Whether a MOVE would read a Landing that is being reset (R322). -/
def State.landingMissing (s : State) (f : Flight) : Bool :=
  s.unitDown landingUnit && (s.moveRegions f.ctx (moveBody f.words) f.moveDescs.1 f.moveDescs.2 false).any
    (fun r => (s.region r).inLanding)

/-- All that a MOVE moves (R168). -/
def State.moveAllOf (s : State) (f : Flight) (err : Option Nat) : State × Bool :=
  s.moveAll f (moveBody f.words) f.moveDescs.1 f.moveDescs.2 err

section
variable {s : State} {id : Nat} {f : Flight} (err : Option Nat)

theorem exec_moveRun (ht : s.touchesNone id = false) : exec (.move (.start id) err) s = .next (s.runMove id err) := by
  have hc : ¬ ((s.startableStep id 0x98).isSome && s.touchesNone id) = true := by rw [ht, Bool.and_false]; decide
  exact if_neg hc

variable (hs : s.startableStep id 0x98 = some f)
include hs

theorem exec_moveRun_unmapped (ht : s.touchesNone id = true) : exec (.move (.start id) err) s = .fault .unmapped := by
  have hc : ((s.startableStep id 0x98).isSome && s.touchesNone id) = true := by rw [hs, ht]; rfl
  exact if_pos hc

/-- A MOVE with a home that cannot be reached, or that would read a Landing being reset, waits (R190, R322). -/
theorem State.runMove_waits (hw : s.homeMissing f = true ∨ s.landingMissing f = true) : s.runMove id err = s := by
  rw [State.runMove, hs]
  cases hh : s.homeMissing f with
  | true => exact if_pos hh
  | false => exact (if_neg (Bool.eq_false_iff.1 hh)).trans (if_pos (hw.resolve_left (by rw [hh]; decide)))

theorem State.runMove_runs (hh : s.homeMissing f = false) (hl : s.landingMissing f = false) :
    s.runMove id err = if (s.moveAllOf f err).2
      then (s.moveAllOf f err).1.updFlight id (fun g => { g with phase := .done }) else (s.moveAllOf f err).1 := by
  rw [State.runMove, hs]
  exact (if_neg (Bool.eq_false_iff.1 hh)).trans (if_neg (Bool.eq_false_iff.1 hl))

end

/-- The homes of a MOVE can be reached where each of its regions is staged, key/value or has a home that is up (R190). -/
theorem State.homeMissing_of_up {s : State} {f : Flight}
    (h : ∀ r ∈ f.regions, (s.region r).staged = true ∨ s.isKv r = true ∨ s.homeUp (s.region r) = true) :
    s.homeMissing f = false := by
  refine List.any_eq_false.2 fun r hr => ?_
  rcases h r hr with h | h | h <;> simp [h]

theorem State.homeMissing_of_down {s : State} {f : Flight} {r : Nat} (hr : r ∈ f.regions)
    (h1 : (s.region r).staged = false) (h2 : s.isKv r = false) (h3 : s.homeUp (s.region r) = false) :
    s.homeMissing f = true :=
  List.any_eq_true.2 ⟨r, hr, by simp [h1, h2, h3]⟩

theorem State.landingMissing_of_up {s : State} (f : Flight) (h : s.unitDown landingUnit = false) :
    s.landingMissing f = false := by
  rw [State.landingMissing, h, Bool.false_and]

/-- All that a MOVE moves comes to its end, or the command ends with its context held (R135, R150). -/
theorem State.moveAll_outcome (s : State) (f : Flight) (err : Option Nat) :
    ((s.moveAllOf f err).2 = true ∧ s.Underway (s.moveAllOf f err).1)
      ∨ ((s.moveAllOf f err).2 = false ∧ s.EndedHeld f (s.moveAllOf f err).1) := by
  have h := State.moveRows_outcome f (moveBody f.words) f.moveDescs.1 f.moveDescs.2
    (moveOrder (moveBody f.words) f.moveDescs.1 f.moveDescs.2) err {} s
  unfold State.moveAllOf State.moveAll
  dsimp only
  split
  · exact h.imp (fun ⟨he, hu⟩ => ⟨he, hu.flights, hu.posts⟩) (fun ⟨he, hu⟩ => ⟨he, hu.gone, hu.held, hu.posts⟩)
  · exact h

/-- A MOVE that runs has its effect done, or has ended with its context held (R135, R150). -/
theorem State.runMove_outcome {s : State} {id : Nat} {f : Flight} (err : Option Nat)
    (hs : s.startableStep id 0x98 = some f) (hh : s.homeMissing f = false) (hl : s.landingMissing f = false) :
    (∃ g, (s.runMove id err).flight id = some g ∧ g.phase = .done)
    ∨ ((s.runMove id err).flight id = none ∧ ((s.runMove id err).ctx f.ctx).held = true
      ∧ (s.runMove id err).posts = s.posts) := by
  have hf := State.startableStep_flight hs
  rw [State.runMove_runs err hs hh hl]
  rcases s.moveAll_outcome f err with ⟨h2, h1⟩ | ⟨h2, h1⟩
  · rw [if_pos h2]
    exact .inl (State.flight_done (f := f) ((State.flight_congr h1.flights id).trans hf))
  · rw [h2, if_neg Bool.false_ne_true]
    exact .inr ⟨State.flight_id hf ▸ h1.gone, h1.held, h1.posts⟩

/-- The destination of a native MOVE, row after row (R168). -/
def State.moved (s : State) (f : Flight) : State :=
  (rowsOf (moveWindows (moveBody f.words))).foldl (Claims.moveRowInto (moveBody f.words) f.moveDescs.1 f.moveDescs.2) s

theorem State.moved_tierWritten (s : State) (f : Flight) : s.TierWritten (s.moved f) :=
  State.TierWritten.foldl (moveRowInto_tierWritten _ _ _) _ s

/-- A native MOVE whose accesses are made writes its rows, beside counters and the records for the Scaler (R132, R168). -/
theorem State.moveAll_native {s : State} {f : Flight} (hsd : f.moveDescs.1.c6 = false) (hdd : f.moveDescs.2.c6 = false)
    (hup : ∀ l, s.phyDown l = false) (hnd : (moveWindows (moveBody f.words)).Nodup) :
    ∃ b x sq, s.moveAllOf f none = ({ s.moved f with objs := b, ftl := x, scalerQ := sq }, true)
      ∧ (moveConverts (moveBody f.words) f.moveDescs.1 f.moveDescs.2 = false → sq = s.scalerQ)
      ∧ (moveConverts (moveBody f.words) f.moveDescs.1 f.moveDescs.2 = true →
        sq.length = s.scalerQ.length + (moveWindows (moveBody f.words)).length) := by
  obtain ⟨u, g, hu, hsu, hmade⟩ := State.moveRows_native (b := moveBody f.words) hsd hdd f
    (rowsOf (moveWindows (moveBody f.words))) {} (.refl s) hup
  obtain ⟨b, x, hc⟩ : (s.moved f).SameButCounts u := hsu
  have hq : (s.moved f).scalerQ = s.scalerQ := (s.moved_tierWritten f).scalerQ
  have hall : ∀ o ∈ moveWindows (moveBody f.words), g.made o = 64 := fun o ho => by
    rw [hmade, countP_rowsOf hnd ho]
    rfl
  have horder : moveOrder (moveBody f.words) f.moveDescs.1 f.moveDescs.2 = rowsOf (moveWindows (moveBody f.words)) :=
    if_neg (by rw [hsd, hdd]; decide)
  unfold State.moveAllOf State.moveAll
  simp only [horder, hu]
  cases hconv : moveConverts (moveBody f.words) f.moveDescs.1 f.moveDescs.2 with
  | false => exact ⟨b, x, s.scalerQ, by rw [hc, ← hq]; rfl, fun _ => rfl, nofun⟩
  | true =>
    refine ⟨b, x, (u.moveStats f (moveBody f.words) g).scalerQ, ?_, nofun, fun _ => ?_⟩
    · rw [if_pos rfl, State.moveStats_frame, hc]
      rfl
    · rw [State.length_moveStats hall, hc, ← hq]
      rfl

/-- Settles O23: the checks of a MOVE answer in their order; in native mode its rows are written one after the other, beside
counters, and each window's 64 rows make one record; where an access fails the command ends with its context held. -/
theorem movesRunWindowByWindow : Obligations.MovesRunWindowByWindow := by
  refine ⟨?dispatch, ?undescribed, ?runs, ?outcome, ?homeless, ?resetting, ?unmapped⟩
  case dispatch =>
    intro s sh h sd dd err hw hr b hsd hdd src dst
    rw [exec_moveDispatchStep s err hw]
    exact ⟨fun code hf => congrArg _ (State.dispatchMover_fault hr hsd hdd hf),
      fun hf hb => congrArg _ (State.dispatchMover_busy hr hsd hdd hf hb),
      fun hf hb => congrArg _ (State.dispatchMover_of_free hr hsd hdd hf hb)⟩
  case undescribed =>
    intro s sh h err hw hr hd
    exact (exec_moveDispatchStep s err hw).trans (congrArg _ (State.dispatchMover_undescribed hr hd))
  case runs =>
    intro s id f hs ht hhome b sd dd t hsd hdd hup hland hnd
    obtain ⟨c, x, sq, hall, hcopy, hconv⟩ := State.moveAll_native (s := s) (f := f) hsd hdd hup hnd
    refine ⟨c, x, sq, (exec_moveRun none ht).trans (congrArg _ ?_), hcopy, hconv⟩
    rw [State.runMove_runs none hs (State.homeMissing_of_up hhome) (State.landingMissing_of_up f hland), hall]
    rfl
  case outcome =>
    intro s id f err hs ht hhome hland
    exact ⟨_, exec_moveRun err ht, State.runMove_outcome err hs (State.homeMissing_of_up hhome)
      (State.landingMissing_of_up f hland)⟩
  case homeless =>
    intro s id r f err hs ht hr h1 h2 h3
    exact (exec_moveRun err ht).trans
      (congrArg _ (State.runMove_waits err hs (.inl (State.homeMissing_of_down hr h1 h2 h3))))
  case resetting =>
    intro s id r f err hs ht hdown hr hland
    have hmiss : s.landingMissing f = true := Bool.and_eq_true_iff.2 ⟨hdown, List.any_eq_true.2 ⟨r, hr, hland⟩⟩
    exact (exec_moveRun err ht).trans (congrArg _ (State.runMove_waits err hs (.inr hmiss)))
  case unmapped =>
    intro s id f err hs ht
    exact exec_moveRun_unmapped err hs ht

end Sys2Proof.Machine

/-!
PROOF. The memories of the tiers: their canonical form along every step, and what a byte written to tier space changes.
-/

namespace Sys2Proof.Machine

/-- Settles O4: every operation keeps the canonical form, and the queue has no part in it. -/
theorem stepKeepsMemoriesCanonical : Obligations.StepKeepsMemoriesCanonical :=
  fun _ _ hs h => (keeps_step h).mem hs

/-! ### One byte of a memory -/

theorem Mem.rd_write_same (m : Mem) (a : Nat) {b : Nat} (hb : b < 256) : (m.write a b).rd a = b := by
  have h : (m.write a b).read a = BitVec.ofNat 8 b := Mem.read_writeBytes_same (k := 0) (bs := [b]) (by simp)
  rw [Mem.rd, h, BitVec.toNat_ofNat, Nat.mod_eq_of_lt hb]

theorem Mem.rd_write_other (m : Mem) {a x : Nat} (b : Nat) (h : x ≠ a) : (m.write a b).rd x = m.rd x :=
  congrArg BitVec.toNat (Mem.read_writeBytes_other (by simp only [List.length_singleton]; omega))

/-! ### One place (R140, R145, R146) -/

/-- Two places that lie both in the Planers' DDR or flash have offsets below a Planer's span (R145, R146). -/
def Loc.Within (l l' : Loc) : Prop :=
  ∀ q q' y y', (l = .ddr q y ∨ l = .flash q y) → (l' = .ddr q' y' ∨ l' = .flash q' y') → y < 2 ^ 44 ∧ y' < 2 ^ 44

theorem planerAddr_inj {q q' y y' : Nat} (hy : y < 2 ^ 44 ∧ y' < 2 ^ 44) (h : planerAddr q y = planerAddr q' y') :
    q = q' ∧ y = y' := by
  unfold planerAddr at h
  omega

section
variable (s : State) {l l' : Loc} {b : Nat}

/-- In a Landing that is being reset a write is discarded (R322). -/
theorem State.locWrite_landing_down (x b : Nat) (h : s.unitDown landingUnit = true) : s.locWrite (.landing x) b = s :=
  if_pos h

theorem State.locWrite_landing_up (x b : Nat) (h : s.unitDown landingUnit = false) :
    s.locWrite (.landing x) b = { s with landing := s.landing.write x b } :=
  if_neg (Bool.eq_false_iff.1 h)

/-- A byte written at a place reads back (R140). -/
theorem State.locRead_locWrite_same (hb : b < 256) (hl : l ≠ .none) (hup : s.unitDown landingUnit = false) :
    (s.locWrite l b).locRead l = b := by
  cases l with
  | landing a =>
    rw [s.locWrite_landing_up a b hup]
    exact s.landing.rd_write_same a hb
  | ddr q a => exact s.ddr.rd_write_same _ hb
  | flash q a => exact s.flash.rd_write_same _ hb
  | host a => exact s.host.rd_write_same a hb
  | none => exact absurd rfl hl

/-- A byte written at a place leaves every other place as it was. -/
theorem State.locRead_locWrite_other (hup : s.unitDown landingUnit = false) (h : l' ≠ l) (hw : l'.Within l) :
    (s.locWrite l b).locRead l' = s.locRead l' := by
  cases l with
  | landing a =>
    rw [s.locWrite_landing_up a b hup]
    cases l' with
    | landing x => exact s.landing.rd_write_other b fun hx => h (congrArg Loc.landing hx)
    | _ => rfl
  | ddr q a =>
    cases l' with
    | ddr p x =>
      refine s.ddr.rd_write_other b fun hx => h ?_
      obtain ⟨rfl, rfl⟩ := planerAddr_inj (hw p q x a (.inl rfl) (.inl rfl)) hx
      rfl
    | _ => rfl
  | flash q a =>
    cases l' with
    | flash p x =>
      refine s.flash.rd_write_other b fun hx => h ?_
      obtain ⟨rfl, rfl⟩ := planerAddr_inj (hw p q x a (.inr rfl) (.inr rfl)) hx
      rfl
    | _ => rfl
  | host a =>
    cases l' with
    | host x => exact s.host.rd_write_other b fun hx => h (congrArg Loc.host hx)
    | _ => rfl
  | none => rfl

end

/-! ### One tier byte (R140, R163, R261) -/

section
variable (s : State) (a b : Nat)

theorem State.TierWritten.isKv {s t : State} (h : s.TierWritten t) (r : Nat) : t.isKv r = s.isKv r := by
  obtain ⟨_, _, _, _, _, rfl⟩ := h.frame
  rfl

/-- A mapped region has a home place for each of its bytes (R140, R142). -/
theorem State.resolve_ne_none {s : State} {a : Nat} (h : (s.region (a / 2 ^ 26)).home ≠ .none) : s.resolve a ≠ .none := by
  unfold State.resolve State.homeLoc
  dsimp only
  split
  · exact Loc.noConfusion
  · cases hh : (s.region (a / 2 ^ 26)).home with
    | none => exact absurd hh h
    | _ => exact Loc.noConfusion

@[simp] theorem State.locRead_markDirty (l : Loc) : (s.markDirty a).locRead l = s.locRead l := by
  unfold State.markDirty
  dsimp only
  split
  · cases l <;> rfl
  · rfl

/-- Outside key/value areas a tier byte is the byte at its place (R140). -/
theorem State.tierRead_mapped {s : State} {a : Nat} (h : s.isKv (a / 2 ^ 26) = false) :
    s.tierRead a = s.locRead (s.resolve a) := by
  simp only [State.tierRead, h, Bool.false_and, Bool.false_eq_true, if_false]

/-- Outside key/value areas a write goes to the byte's place and marks its page (R140, R163). -/
theorem State.tierWrite_mapped {s : State} {a : Nat} (h : s.isKv (a / 2 ^ 26) = false) :
    s.tierWrite a b = (s.locWrite (s.resolve a) b).markDirty a := by
  simp only [State.tierWrite, State.openPage, h, Bool.false_and, Bool.false_eq_true, if_false]

/-- A write to a key/value region that is not reserved is discarded (R261). -/
theorem State.tierWrite_unreserved {s : State} {a : Nat} (h : s.isKv (a / 2 ^ 26) = true)
    (hs : (s.region (a / 2 ^ 26)).staged = false) : s.tierWrite a b = s := by
  simp only [State.tierWrite, h, hs, Bool.not_false, Bool.and_self, if_true]

theorem State.tmap_locWrite (l : Loc) : (s.locWrite l b).tmap = s.tmap := by
  cases l with
  | landing x =>
    cases hup : s.unitDown landingUnit with
    | true => rw [s.locWrite_landing_down x b hup]
    | false => rw [s.locWrite_landing_up x b hup]
  | _ => rfl

/-- A Tier Map entry after a write to a byte of its staged copy: DIRTY, with the byte's page dirty (R163). -/
def Region.touched (g : Region) (a : Nat) : Region :=
  { g with dirty := true, pages := Tab.put false g.pages (pageOf a) true }

theorem Region.pageDirty_touched_same (g : Region) (a : Nat) : (g.touched a).pageDirty a = true :=
  Tab.get_put_same false g.pages (pageOf a) true

theorem Region.pageDirty_touched_other (g : Region) {a x : Nat} (h : pageOf x ≠ pageOf a) :
    (g.touched a).pageDirty x = g.pageDirty x :=
  Tab.get_put_other (d := false) (e := false) g.pages true h

theorem State.region_markDirty {s : State} {a : Nat} (r : Nat) (h : (s.region (a / 2 ^ 26)).staged = true) :
    (s.markDirty a).region r = if r = a / 2 ^ 26 then (s.region (a / 2 ^ 26)).touched a else s.region r := by
  rw [State.markDirty, if_pos h, State.region_updRegion]
  rfl

theorem State.markDirty_unstaged {s : State} {a : Nat} (h : (s.region (a / 2 ^ 26)).staged = false) : s.markDirty a = s :=
  if_neg (Bool.eq_false_iff.1 h)

theorem State.region_locWrite (l : Loc) (r : Nat) : (s.locWrite l b).region r = s.region r :=
  congrArg (Tab.get ({} : Region) · r) (s.tmap_locWrite b l)

end

section
variable {s : State} {a : Nat} (b : Nat) (hkv : s.isKv (a / 2 ^ 26) = false)
include hkv

/-- A write to a staged region sets DIRTY and the dirty bit of its page (R163). -/
theorem State.dirty_tierWrite (hs : (s.region (a / 2 ^ 26)).staged = true) :
    ((s.tierWrite a b).region (a / 2 ^ 26)).dirty = true
    ∧ ((s.tierWrite a b).region (a / 2 ^ 26)).pageDirty a = true := by
  rw [State.tierWrite_mapped b hkv, State.region_markDirty _ (by rw [State.region_locWrite]; exact hs), if_pos rfl]
  exact ⟨rfl, Region.pageDirty_touched_same _ a⟩

/-- The dirty bit of another page, or of a page of another region, is as before (R163). -/
theorem State.pageDirty_tierWrite {x : Nat} (hx : pageOf x ≠ pageOf a ∨ x / 2 ^ 26 ≠ a / 2 ^ 26) :
    ((s.tierWrite a b).region (x / 2 ^ 26)).pageDirty x = (s.region (x / 2 ^ 26)).pageDirty x := by
  rw [State.tierWrite_mapped b hkv]
  cases hs : (s.region (a / 2 ^ 26)).staged with
  | false => rw [State.markDirty_unstaged (by rw [State.region_locWrite]; exact hs), State.region_locWrite]
  | true =>
    rw [State.region_markDirty _ (by rw [State.region_locWrite]; exact hs), State.region_locWrite, State.region_locWrite]
    split
    · next hr =>
      rw [hr]
      exact Region.pageDirty_touched_other _ (hx.resolve_right fun h => h hr)
    · rfl

/-- A region that is not staged keeps its Tier Map entry. -/
theorem State.tmap_tierWrite (hs : (s.region (a / 2 ^ 26)).staged = false) : (s.tierWrite a b).tmap = s.tmap := by
  rw [State.tierWrite_mapped b hkv, State.markDirty_unstaged (by rw [State.region_locWrite]; exact hs), State.tmap_locWrite]

end

/-- Settles O22: outside key/value areas a write is one write at the byte's place and one mark in the Tier Map, and neither
moves a place. -/
theorem tierSpaceReadsBack : Obligations.TierSpaceReadsBack := by
  refine ⟨fun s a b hb hkv hhome hup => ?write, fun s a b hkv hs => State.tierWrite_unreserved b hkv hs,
    fun s x b hdown => s.locWrite_landing_down x b hdown⟩
  have hw := s.tierWrite_tierWritten a b
  have hread : ∀ x, s.isKv (x / 2 ^ 26) = false →
      (s.tierWrite a b).tierRead x = (s.locWrite (s.resolve a) b).locRead (s.resolve x) := fun x hx => by
    rw [State.tierRead_mapped ((hw.isKv _).trans hx), hw.resolve, State.tierWrite_mapped b hkv, State.locRead_markDirty]
  have hframes : (s.tierWrite a b).frames = s.frames := by
    obtain ⟨_, _, _, _, _, he⟩ := hw.frame
    rw [he]
  refine ⟨(hread a hkv).trans (s.locRead_locWrite_same hb (State.resolve_ne_none hhome) hup), fun x hx hne hwithin => ?_,
    hw.resolve, State.dirty_tierWrite b hkv, fun x => State.pageDirty_tierWrite b hkv, State.tmap_tierWrite b hkv, hw.objs,
    hw.cores, hframes⟩
  rw [hread x hx, s.locRead_locWrite_other hup hne hwithin, State.tierRead_mapped hx]

end Sys2Proof.Machine

/-!
PROOF. STAGE: what a copy between memories reads as, the step's dispatch with its checks in their order, and its two ends.
-/

namespace Sys2Proof.Machine

/-! ### A read after a copy -/

theorem holeByte_append_left {xs ys : List Hole} {a : Nat} (h : ∀ x ∈ xs, x.has a = false) :
    holeByte (xs ++ ys) a = holeByte ys a := by
  have hnone : xs.find? (fun x => x.has a) = none := List.find?_eq_none.2 fun x hx => Bool.eq_false_iff.1 (h x hx)
  unfold holeByte
  rw [List.find?_append, hnone, Option.none_or]

/-- A copied hole gives a byte what the hole gave it at its old place. -/
theorem holeByte_moved {lo n dlo o : Nat} (ho : o < n) (h : Hole) (rest : List Hole) :
    holeByte (h.moved lo n dlo ++ rest) (dlo + o)
      = if h.has (lo + o) then Config.freeByte h.seed (lo + o - h.lo + h.off) else holeByte rest (dlo + o) := by
  unfold Hole.moved
  dsimp only
  split
  · rw [List.singleton_append, holeByte_cons]
    simp only [Hole.has, Bool.and_eq_true, decide_eq_true_eq]
    refine if_ctx_congr (by omega) (fun _ => ?_) fun _ => rfl
    congr 1
    omega
  · rw [if_neg (by simp only [Hole.has, Bool.and_eq_true, decide_eq_true_eq]; omega)]
    rfl

theorem holeByte_copied {lo n dlo o : Nat} (ho : o < n) (hs : List Hole) :
    holeByte (hs.flatMap (Hole.moved lo n dlo)) (dlo + o) = holeByte hs (lo + o) := by
  induction hs with
  | nil => rfl
  | cons h hs ih => rw [List.flatMap_cons, holeByte_moved ho, holeByte_cons, ih]

/-- The cell that a copy lists at a byte is the one that the source lists at the byte's old place. -/
theorem find_copied {lo n dlo o : Nat} (ho : o < n) (l : List Host.Cell) :
    ((l.filter (fun c => lo ≤ c.1 && c.1 < lo + n)).map (fun c => (dlo + (c.1 - lo), c.2))).find? (fun c => c.1 = dlo + o)
      = (l.find? (fun c => c.1 = lo + o)).map (fun c => (dlo + (c.1 - lo), c.2)) := by
  rw [List.find?_map, List.find?_filter]
  congr 2
  funext c
  rw [Bool.eq_iff_iff]
  simp only [Function.comp_apply, Bool.and_eq_true, decide_eq_true_eq]
  omega

/-- A copied byte reads as it did at its old place. -/
theorem Mem.read_copy_same {src dst : Mem} {lo n dlo o : Nat} (ho : o < n) :
    (src.copy lo n dst dlo).read (dlo + o) = src.read (lo + o) := by
  have hlow : (dst.cells.filter (fun c => c.1 < dlo)).find? (fun c => c.1 = dlo + o) = none :=
    find_none_of fun c hc => by have := (List.mem_filter.1 hc).2; simp only [decide_eq_true_eq] at this; omega
  have hhigh : (dst.cells.filter (fun c => dlo + n ≤ c.1)).find? (fun c => c.1 = dlo + o) = none :=
    find_none_of fun c hc => by have := (List.mem_filter.1 hc).2; simp only [decide_eq_true_eq] at this; omega
  have hcut : ∀ x ∈ cutHoles dlo n dst.holes, x.has (dlo + o) = false := fun x hx =>
    Bool.eq_false_iff.2 fun hx' => by have := (cutHoles_has hx hx').2; omega
  rw [Mem.read_eq, Mem.read_eq]
  simp only [Mem.copy, Mem.splice, List.find?_append, hlow, hhigh, find_copied ho, holeByte_append_left hcut,
    holeByte_copied ho, Option.none_or, Option.or_none]
  cases src.cells.find? (fun c => c.1 = lo + o) <;> rfl

/-- A copy leaves the bytes outside its destination alone. -/
theorem Mem.read_copy_other {src dst : Mem} {lo n dlo a : Nat} (ha : a < dlo ∨ dlo + n ≤ a) :
    (src.copy lo n dst dlo).read a = dst.read a := by
  refine Mem.read_splice_other ha (fun c hc => ?_) fun h hh => ?_
  · obtain ⟨d, hd, rfl⟩ := List.mem_map.1 hc
    have := (List.mem_filter.1 hd).2
    simp only [Bool.and_eq_true, decide_eq_true_eq] at this
    dsimp only
    omega
  · obtain ⟨g, -, hg⟩ := List.mem_flatMap.1 hh
    refine Bool.eq_false_iff.2 fun hx => ?_
    have := Hole.has_moved hg hx
    omega

theorem Mem.rd_copy_same {src dst : Mem} {lo n dlo o : Nat} (ho : o < n) :
    (src.copy lo n dst dlo).rd (dlo + o) = src.rd (lo + o) :=
  congrArg BitVec.toNat (Mem.read_copy_same ho)

theorem Mem.rd_copy_other {src dst : Mem} {lo n dlo a : Nat} (ha : a < dlo ∨ dlo + n ≤ a) :
    (src.copy lo n dst dlo).rd a = dst.rd a :=
  congrArg BitVec.toNat (Mem.read_copy_other ha)

/-! ### The copy of a home into a frame (R162) -/

/-- Whether a region's home lies outside the Landing (R142). -/
def Region.isFar (g : Region) : Prop := g.home = .ddr ∨ g.home = .flash ∨ g.home = .host

/-- A home outside the Landing is a run of one memory's bytes. -/
theorem State.homeLoc_run {s : State} {g : Region} (h : g.isFar) : ∃ (m : Mem) (lo : Nat),
    (∀ o, s.locRead (s.homeLoc g o) = m.rd (lo + o))
    ∧ ∀ fr n, (s.copyIn g fr 0 n).landing = m.copy lo n s.landing (fr * 2 ^ 26) := by
  unfold State.copyIn State.homeLoc
  rcases h with h | h | h
  · refine ⟨s.ddr, planerAddr g.planer (g.homeFrame * 2 ^ 26), fun o => ?_, fun fr n => ?_⟩
    · simp only [h, State.locRead, planerAddr, Nat.add_assoc]
    · simp only [h, Nat.add_zero]
  · refine ⟨s.flash, planerAddr g.planer (g.homeFrame * 2 ^ 26), fun o => ?_, fun fr n => ?_⟩
    · simp only [h, State.locRead, planerAddr, Nat.add_assoc]
    · simp only [h, Nat.add_zero]
  · refine ⟨s.host, s.hostWin g.homeFrame / 2 ^ 12 * 2 ^ 12, fun o => ?_, fun fr n => ?_⟩
    · simp only [h, State.locRead]
    · simp only [h, Nat.add_zero]

/-- A frame that a home outside the Landing was copied into reads as the home, every other frame as before. -/
theorem State.landing_copyIn {s : State} {g : Region} (h : g.isFar) (fr : Nat) :
    (∀ o, o < 2 ^ 26 → (s.copyIn g fr 0 (2 ^ 26)).landing.rd (fr * 2 ^ 26 + o) = s.locRead (s.homeLoc g o))
    ∧ ∀ a, a / 2 ^ 26 ≠ fr → (s.copyIn g fr 0 (2 ^ 26)).landing.rd a = s.landing.rd a := by
  obtain ⟨m, lo, hread, hcopy⟩ := State.homeLoc_run (s := s) h
  rw [hcopy]
  exact ⟨fun o ho => by rw [Mem.rd_copy_same ho, hread], fun a ha => Mem.rd_copy_other (by omega)⟩

/-- With every PHY in lock no copy stops (R361). -/
theorem State.copyStop_of_up {s : State} (h : s.physDown = false) (g : Region) (fr : Nat) (us : List (Nat × Nat)) :
    s.copyStop g fr us = none :=
  if_pos (by rw [h]; rfl)

/-! ### Dispatch (R161, R162) -/

section
variable {s : State} {sh : Shell} {h : Head} (hr : s.readyHead sh 0x99 (fun _ => .unit) = some h)

theorem exec_stage_dispatch (s : State) (hw : sh.wf = true) : exec (.stage (.dispatch sh)) s = .next (s.dispatchStage sh) :=
  need_ok hw _

include hr

theorem State.dispatchStage_fault {code : Nat} (hf : s.stageFault h false = some code) :
    s.dispatchStage sh = s.holdHead h code (accessDetail code (stepRegion h.w * 2 ^ 26)) :=
  State.dispatch_stop hr (by simp only [hf])

variable (hf : s.stageFault h false = none)
include hf

/-- A STAGE whose region or frame is not as R162 asks holds the context. -/
theorem State.dispatchStage_conflict (hc : (s.region (stepRegion h.w)).staged = true
      ∨ (s.region (stepRegion h.w)).busy ≠ .idle ∨ (s.region (stepRegion h.w)).home = .none
      ∨ (s.region (stepRegion h.w)).home = .landing ∨ s.frame (stepFrame h.w) ≠ .pool h.ctx false) :
    s.dispatchStage sh = s.holdHead h 0x500B 0 := by
  refine State.dispatch_stop hr ?_
  simp only [hf]
  exact if_pos (by simpa only [Bool.or_eq_true, decide_eq_true_eq, or_assoc] using hc)

/-- A STAGE that nothing keeps back makes its region BUSY, reserves its frame and enters its unit's queue (R162). -/
theorem State.dispatchStage_of_free (hs : (s.region (stepRegion h.w)).staged = false)
    (hb : (s.region (stepRegion h.w)).busy = .idle) (hn : (s.region (stepRegion h.w)).home ≠ .none)
    (hl : (s.region (stepRegion h.w)).home ≠ .landing) (hp : s.frame (stepFrame h.w) = .pool h.ctx false) :
    s.dispatchStage sh = ((((s.updRegion (stepRegion h.w) (fun x => { x with busy := .stage })).setFrame (stepFrame h.w)
      (.pool h.ctx true)).acquire h).launch { stageFlight h with pos := (s.stream h.ctx h.owner).pos }).restCheck h.ctx := by
  refine State.dispatch_ok hr ?_
  simp only [hf]
  exact if_neg (by simp [hs, hb, hn, hl, hp])

end

/-! ### Start and completion (R150, R162) -/

/-- A region that a STAGE has brought in (R162). -/
def Region.broughtIn (fr : Nat) (g : Region) : Region :=
  { g with staged := true, frame := fr, pages := [], dirty := false, busy := .idle }

/-- The state after a STAGE whose accesses were made: the copy, the region, the frame and the counts (R162, R174). -/
def State.stagedBy (s : State) (f : Flight) : State :=
  (((((((s.copyIn (s.region (stepRegion f.w0)) (stepFrame f.w0) 0 (2 ^ 26)).updRegion (stepRegion f.w0)
    (Region.broughtIn (stepFrame f.w0))).setFrame (stepFrame f.w0) (.staged f.ctx (stepRegion f.w0))).addObj
    (okey (moverIndex f.owner) 5) 64 (2 ^ 26)).countFrame (moverClass f.owner)).countHome (s.region (stepRegion f.w0))
    (2 ^ 26)).readHome (s.region (stepRegion f.w0))).complete f

/-- The place of a STAGE's access that failed: the frame's byte where its PHY is out of lock, else the home's (R150). -/
def State.stagePlace (s : State) (f : Flight) (o : Nat) : Loc :=
  if s.phyDown (.landing (stepFrame f.w0 * 2 ^ 26 + o)) then .landing (stepFrame f.w0 * 2 ^ 26 + o)
  else s.homeLoc (s.region (stepRegion f.w0)) o

/-- The state after a STAGE whose access at a tier offset failed (R150; log entry 18). -/
def State.stageFails (s : State) (f : Flight) (x : Nat) : State :=
  ((s.updRegion (stepRegion f.w0) (fun g => { g with busy := .idle })).setFrame (stepFrame f.w0)
    (.pool f.ctx false)).memFaultAt f (s.stagePlace f (x % 2 ^ 26)) (stepRegion f.w0 * 2 ^ 26 + x % 2 ^ 26)

theorem exec_stage_start {s : State} {id : Nat} {f : Flight} (hs : s.startableStep id 0x99 = some f) :
    exec (.stage (.start id)) s = .next (s.updFlight f.id (fun g => { g with phase := .running })) := by
  refine (need_ok rfl _).trans (congrArg _ ?_)
  simp only [State.startStage, hs]

section
variable {s : State} {id : Nat} {f : Flight} (hs : s.runningStep id 0x99 .running = some f)

theorem exec_stageComplete (s : State) (id : Nat) (err : Option Nat) :
    exec (.stageComplete id err) s = .next (stageComplete s id err) := rfl

include hs

theorem stageComplete_waits (err : Option Nat) (hg : s.granHolds (stepRegion f.w0) = true) : stageComplete s id err = s := by
  simp only [stageComplete, hs, hg, if_true]

variable (hg : s.granHolds (stepRegion f.w0) = false)
include hg

theorem stageComplete_done (hc : s.copyStop (s.region (stepRegion f.w0)) (stepFrame f.w0) [(0, 2 ^ 26)] = none) :
    stageComplete s id none = s.stagedBy f := by
  simp only [stageComplete, hs, hg, hc, Bool.false_eq_true, if_false, Option.none_or]
  rfl

theorem stageComplete_fails {err : Option Nat} {x : Nat}
    (hc : err.or (s.copyStop (s.region (stepRegion f.w0)) (stepFrame f.w0) [(0, 2 ^ 26)]) = some x) :
    stageComplete s id err = s.stageFails f x := by
  simp only [stageComplete, hs, hg, hc, Bool.false_eq_true, if_false]
  rfl

end

/-- Settles O24: the checks of a STAGE answer in their order, and its completion waits, is one copy with its counts, or fails at one
access. -/
theorem stageBringsARegionIn : Obligations.StageBringsARegionIn := by
  refine ⟨?dispatch, fun s id f hs => exec_stage_start hs, ?complete, ?fails⟩
  case dispatch =>
    intro s sh h hw hr r g fr
    rw [exec_stage_dispatch s hw]
    exact ⟨fun code hf => congrArg _ (State.dispatchStage_fault hr hf),
      fun hf hc => congrArg _ (State.dispatchStage_conflict hr hf hc),
      fun hf hs hb hn hl hp => congrArg _ (State.dispatchStage_of_free hr hf hs hb hn hl hp)⟩
  case complete =>
    intro s id f hs r fr s1
    exact ⟨fun err hg => congrArg _ (stageComplete_waits hs err hg),
      fun hg hc => congrArg _ (stageComplete_done hs hg hc), fun hup => State.copyStop_of_up hup _ _ _,
      fun _ hhome => State.landing_copyIn hhome fr⟩
  case fails =>
    intro s id x f err hs r fr o hg herr
    refine congrArg _ (stageComplete_fails hs hg ?_)
    rcases herr with rfl | ⟨rfl, hc⟩
    · rfl
    · exact hc

end Sys2Proof.Machine

/-!
PROOF. EVICT and CLEAN: dispatch, the waits of an EVICT, what a write-back changes, and the ends of both steps.
-/

namespace Sys2Proof.Machine

/-! ### Dispatch (R164, R165) -/

/-- The opcode of CLEAN, or of EVICT. -/
def backOp (clean : Bool) : Nat := if clean then 0x9B else 0x9A

/-- What a CLEAN, or an EVICT, holds its region for. -/
def backBusy (clean : Bool) : BusyBy := if clean then .clean else .evict

/-- The dispatch of CLEAN, or of EVICT. -/
def backDispatch (clean : Bool) (sh : Shell) : Instr := if clean then .clean (.dispatch sh) else .evict (.dispatch sh)

theorem exec_backDispatch (s : State) (clean : Bool) {sh : Shell} (hw : sh.wf = true) :
    exec (backDispatch clean sh) s = .next (s.dispatchBack sh (backOp clean) (backBusy clean)) := by
  cases clean <;> exact need_ok hw _

section
variable {s : State} {sh : Shell} {h : Head} {op : Nat} {busy : BusyBy}
  (hr : s.readyHead sh op (fun _ => .unit) = some h)
include hr

theorem State.dispatchBack_fault {code : Nat} (hf : s.stageFault h true = some code) :
    s.dispatchBack sh op busy = s.holdHead h code (accessDetail code (stepRegion h.w * 2 ^ 26)) :=
  State.dispatch_stop hr (by simp only [hf])

variable (hf : s.stageFault h true = none)
include hf

/-- A write-back of a region that is not staged, or is BUSY, holds the context (R164, R165). -/
theorem State.dispatchBack_conflict (hc : (s.region (stepRegion h.w)).staged = false
      ∨ (s.region (stepRegion h.w)).busy ≠ .idle) : s.dispatchBack sh op busy = s.holdHead h 0x500B 0 := by
  refine State.dispatch_stop hr ?_
  simp only [hf]
  exact if_pos (by simpa only [Bool.or_eq_true, Bool.not_eq_true', decide_eq_true_eq] using hc)

/-- A write-back that nothing keeps back makes its region BUSY and enters its unit's queue (R164, R165). -/
theorem State.dispatchBack_of_free (hs : (s.region (stepRegion h.w)).staged = true)
    (hb : (s.region (stepRegion h.w)).busy = .idle) :
    s.dispatchBack sh op busy = (((s.updRegion (stepRegion h.w) (fun x => { x with busy := busy })).acquire h).launch
      { stageFlight h with pos := (s.stream h.ctx h.owner).pos }).restCheck h.ctx := by
  refine State.dispatch_ok hr ?_
  simp only [hf]
  exact if_neg (by simp [hs, hb])

end

/-! ### What a write-back changes (R164, R174) -/

/-- From `s` to `t` accesses to the tiers have been counted, and no mover's bytes. -/
def State.TierCounted (s t : State) : Prop :=
  ∃ b, t = { s with objs := b } ∧ ∀ i, 0x3600 ≤ i → t.obj (okey i 5) = s.obj (okey i 5)

/-- From `s` to `t` nothing has changed but the homes outside the Landing and what counts accesses to the tiers. -/
structure State.WrittenBack (s t : State) : Prop where
  frame : ∃ b d f h, t = { s with objs := b, ddr := d, flash := f, host := h }
  movers : ∀ i, 0x3600 ≤ i → t.obj (okey i 5) = s.obj (okey i 5)

theorem State.TierCounted.refl (s : State) : s.TierCounted s := ⟨s.objs, rfl, fun _ _ => rfl⟩

theorem State.TierCounted.trans {s t u : State} (h : s.TierCounted t) (h' : t.TierCounted u) : s.TierCounted u := by
  obtain ⟨_, rfl, hs⟩ := h
  obtain ⟨b, rfl, ht⟩ := h'
  exact ⟨b, rfl, fun i hi => (ht i hi).trans (hs i hi)⟩

theorem State.addObj_tierCounted (s : State) {i j : Nat} (hi : i < 0x3600 ∨ j ≠ 5) (hj : j < 256) (w n : Nat) :
    s.TierCounted (s.addObj (okey i j) w n) :=
  ⟨_, rfl, fun _ _ => State.obj_addObj_other _ _ _ (okey_ne (by decide) hj (by omega))⟩

theorem State.WrittenBack.refl (s : State) : s.WrittenBack s := ⟨⟨_, _, _, _, rfl⟩, fun _ _ => rfl⟩

theorem State.WrittenBack.trans {s t u : State} (h : s.WrittenBack t) (h' : t.WrittenBack u) : s.WrittenBack u where
  frame := by
    obtain ⟨_, _, _, _, rfl⟩ := h.frame
    obtain ⟨b, d, f, x, rfl⟩ := h'.frame
    exact ⟨b, d, f, x, rfl⟩
  movers i hi := (h'.movers i hi).trans (h.movers i hi)

theorem State.TierCounted.writtenBack {s t : State} (h : s.TierCounted t) : s.WrittenBack t := by
  obtain ⟨b, rfl, hm⟩ := h
  exact ⟨⟨b, _, _, _, rfl⟩, hm⟩

theorem moverClass_lt (u : Nat) : moverClass u < 256 := by
  unfold moverClass
  split <;> decide

theorem le_moverIndex (u : Nat) : 0x3600 ≤ moverIndex u := by
  unfold moverIndex
  split <;> omega

section
variable (s : State) (g : Region) {cls : Nat} (hc : cls < 256)

include hc in
theorem State.countAccess_tierCounted (a n : Nat) : s.TierCounted (s.countAccess cls a n) := by
  unfold State.countAccess
  split
  · exact .refl s
  · split
    · exact (s.addObj_tierCounted (.inl (by decide)) hc 64 n).trans
        (State.addObj_tierCounted _ (.inr (by decide)) (by decide) 64 n)
    · exact s.addObj_tierCounted (.inr (by decide)) (by decide) 64 n
    · exact .refl s

include hc in
theorem State.countRange_tierCounted (a n k : Nat) : s.TierCounted (s.countRange cls a n k) := by
  induction k generalizing s a n with
  | zero => exact .refl s
  | succ k ih =>
    rw [State.countRange]
    split
    · exact .refl s
    · exact (s.countAccess_tierCounted hc _ _).trans (ih ..)

theorem State.countHome_tierCounted (n : Nat) : s.TierCounted (s.countHome g n) := by
  unfold State.countHome
  split
  · exact s.addObj_tierCounted (.inr (by decide)) (by decide) 64 n
  · exact .refl s

theorem State.copyBack_writtenBack (o n : Nat) : s.WrittenBack (s.copyBack g o n) := by
  unfold State.copyBack
  dsimp only
  split
  · exact ⟨⟨_, _, _, _, rfl⟩, fun _ _ => rfl⟩
  · next q a _ =>
    have hflash : s.WrittenBack { s with flash := s.landing.copy (g.frame * 2 ^ 26 + o) n s.flash (planerAddr q a) } :=
      ⟨⟨_, _, _, _, rfl⟩, fun _ _ => rfl⟩
    exact hflash.trans ((State.addObj_tierCounted _ (.inr (by decide)) (by decide) 64 n).trans
      (State.addObj_tierCounted _ (.inr (by decide)) (by decide) 64 n)).writtenBack
  · exact ⟨⟨_, _, _, _, rfl⟩, fun _ _ => rfl⟩
  · exact .refl s

end

/-- One unit of a write-back with its counts (R164, R174). -/
def State.writeUnit (s : State) (u r : Nat) (g : Region) (e : Nat × Nat) : State :=
  ((s.copyBack g e.1 e.2).countRange (moverClass u) (r * 2 ^ 26 + e.1) e.2 10).countHome g e.2

theorem State.writeUnit_writtenBack (s : State) (u r : Nat) (g : Region) (e : Nat × Nat) :
    s.WrittenBack (s.writeUnit u r g e) :=
  (s.copyBack_writtenBack g e.1 e.2).trans
    ((State.countRange_tierCounted _ (moverClass_lt u) _ _ _).trans (State.countHome_tierCounted ..)).writtenBack

theorem State.WrittenBack.foldl {α : Type} {f : State → α → State} (h : ∀ (t : State) (a : α), t.WrittenBack (f t a))
    (l : List α) (s : State) : s.WrittenBack (l.foldl f s) :=
  List.foldlRecOn (motive := fun t : State => s.WrittenBack t) l _ (.refl s) fun t ht a _ => ht.trans (h t a)

section
variable (s : State) (u r : Nat) (us : List (Nat × Nat))

theorem State.writeUnits_eq : s.writeUnits u r us = us.foldl (fun t e => t.writeUnit u r (s.region r) e)
    (s.addObj (okey (moverIndex u) 5) 64 (unitBytes us)) := rfl

/-- Units written back are counted in their mover's bytes (R174). -/
theorem State.obj_writeUnits : (s.writeUnits u r us).obj (okey (moverIndex u) 5)
    = (s.obj (okey (moverIndex u) 5) + unitBytes us) % 2 ^ 64 := by
  rw [State.writeUnits_eq, (State.WrittenBack.foldl (fun t => t.writeUnit_writtenBack u r (s.region r)) us _).movers _
    (le_moverIndex u), State.obj_addObj_same]

/-- A write-back leaves the Landing and the Tier Map alone. -/
theorem State.writeUnits_frame : ∃ b d f h, s.writeUnits u r us = { s with objs := b, ddr := d, flash := f, host := h } := by
  obtain ⟨b, d, f, h, he⟩ := (State.WrittenBack.foldl (fun t => t.writeUnit_writtenBack u r (s.region r)) us
    (s.addObj (okey (moverIndex u) 5) 64 (unitBytes us))).frame
  exact ⟨b, d, f, h, he⟩

theorem State.region_writeUnits (k : Nat) : (s.writeUnits u r us).region k = s.region k := by
  obtain ⟨_, _, _, _, he⟩ := s.writeUnits_frame u r us
  rw [he]
  rfl

end

/-- A dirty page of a region with its home in DDR is copied there (R164). -/
theorem State.ddr_writeUnit {s : State} {g : Region} (hd : g.home = .ddr) (u r o n : Nat) :
    (s.writeUnit u r g (o, n)).ddr = s.landing.copy (g.frame * 2 ^ 26 + o) n s.ddr
      (planerAddr g.planer (g.homeFrame * 2 ^ 26 + o)) := by
  obtain ⟨b, he, -⟩ := (State.countRange_tierCounted (s.copyBack g o n) (moverClass_lt u) (r * 2 ^ 26 + o) n 10).trans
    (State.countHome_tierCounted _ g n)
  rw [State.writeUnit, he]
  unfold State.copyBack State.homeLoc
  simp only [hd]

/-- Two changes of a Tier Map entry that agree on it are one. -/
theorem State.updRegion_congr {s : State} {r : Nat} {f g : Region → Region} (h : f (s.region r) = g (s.region r)) :
    s.updRegion r f = s.updRegion r g :=
  congrArg (fun x => ({ s with tmap := Tab.put {} s.tmap r x } : State)) h

/-- With every PHY in lock a write-back without a failing access does not stop (R361). -/
theorem State.backStop_of_up {s : State} (h : s.physDown = false) (g : Region) : s.backStop g none = none :=
  s.copyStop_of_up h g _ _

/-! ### EVICT (R150, R151, R164) -/

theorem exec_evict_start {s : State} {id : Nat} {f : Flight} (hs : s.startableStep id 0x9A = some f) :
    exec (.evict (.start id)) s = .next (s.updFlight f.id (fun g => { g with phase := .running })) := by
  refine (need_ok rfl _).trans (congrArg _ ?_)
  simp only [State.startEvict, hs]

theorem evictDrainEnd_of_running {s : State} {id : Nat} {f : Flight} (hs : s.runningStep id 0x9A .running = some f) :
    evictDrainEnd s id = if (s.flights.takeWhile (fun g => g.id ≠ id)).any (fun g =>
        g.regions.contains (stepRegion f.w0)) || s.granHolds (stepRegion f.w0) then s
      else s.updFlight id (fun g => { g with phase := .drained }) := by
  simp only [evictDrainEnd, hs]

/-- The end of a step whose region a DISCARD has unstaged: not BUSY, completed (R151). -/
def State.unstagedMeanwhile (s : State) (f : Flight) : State :=
  (s.updRegion (stepRegion f.w0) (fun x => { x with busy := .idle })).complete f

/-- The end of an EVICT whose accesses were made (R164). -/
def State.evictedBy (s : State) (f : Flight) : State :=
  (((s.writeBack f.owner (stepRegion f.w0)).updRegion (stepRegion f.w0) (fun x =>
    { x with staged := false, frame := 0, pages := [], dirty := false, busy := .idle })).setFrame
    (s.region (stepRegion f.w0)).frame (.pool f.ctx false)).complete f

section
variable {s : State} {id : Nat} {f : Flight} (hs : s.runningStep id 0x9A .drained = some f) (err : Option Nat)
include hs

theorem evictComplete_unstaged (hg : (s.region (stepRegion f.w0)).staged = false) :
    evictComplete s id err = s.unstagedMeanwhile f := by
  simp only [evictComplete, hs, hg, Bool.not_false, if_true]
  rfl

variable (hg : (s.region (stepRegion f.w0)).staged = true)
include hg

theorem evictComplete_done (hb : s.backStop (s.region (stepRegion f.w0)) err = none) :
    evictComplete s id err = s.evictedBy f := by
  simp only [evictComplete, hs, hg, hb, Bool.not_true, Bool.false_eq_true, if_false]
  rfl

theorem evictComplete_fails {o : Nat} (hb : s.backStop (s.region (stepRegion f.w0)) err = some o) :
    evictComplete s id err
      = s.backFails f (s.region (stepRegion f.w0)) err o (s.region (stepRegion f.w0)).pages := by
  simp only [evictComplete, hs, hg, hb, Bool.not_true, Bool.false_eq_true, if_false]

end

/-! ### CLEAN (R150, R151, R165) -/

theorem exec_clean_start {s : State} {id : Nat} {f : Flight} (hs : s.startableStep id 0x9B = some f) :
    exec (.clean (.start id)) s = .next ((s.updRegion (stepRegion f.w0) (fun g => { g with pages := [] })).updFlight id
      (fun x => { x with
        phase := .running
        pages := ((s.region (stepRegion f.w0)).pages.filter (fun e => e.2)).map (fun e => e.1) })) := by
  refine (need_ok rfl _).trans (congrArg _ ?_)
  simp only [State.startClean, hs]

/-- The end of a CLEAN whose accesses were made: DIRTY exactly if a page was written since (R165). -/
def State.cleanedBy (s : State) (f : Flight) : State :=
  ((s.writeUnits f.owner (stepRegion f.w0) (dirtyUnits ((s.region (stepRegion f.w0)).toClean f))).updRegion
    (stepRegion f.w0) (fun x => { x with
      dirty := (s.region (stepRegion f.w0)).pages.any (fun e => e.2), busy := .idle })).complete f

section
variable {s : State} {id : Nat} {f : Flight} (hs : s.runningStep id 0x9B .running = some f) (err : Option Nat)
include hs

theorem cleanComplete_unstaged (hg : (s.region (stepRegion f.w0)).staged = false) :
    cleanComplete s id err = s.unstagedMeanwhile f := by
  simp only [cleanComplete, hs, hg, Bool.not_false, if_true]
  rfl

variable (hg : (s.region (stepRegion f.w0)).staged = true)
include hg

theorem cleanComplete_done (hb : s.backStop ((s.region (stepRegion f.w0)).toClean f) err = none) :
    cleanComplete s id err = s.cleanedBy f := by
  simp only [cleanComplete, hs, hg, hb, Bool.not_true, Bool.false_eq_true, if_false]
  exact congrArg (State.complete · f) (State.updRegion_congr (by rw [State.region_writeUnits]))

theorem cleanComplete_fails {o : Nat} (hb : s.backStop ((s.region (stepRegion f.w0)).toClean f) err = some o) :
    cleanComplete s id err = s.backFails f ((s.region (stepRegion f.w0)).toClean f) err o
      ((s.region (stepRegion f.w0)).notClean f o) := by
  simp only [cleanComplete, hs, hg, hb, Bool.not_true, Bool.false_eq_true, if_false]

end

/-- Setting the dirty bits of a list of pages sets these and no other. -/
theorem get_setPages (l : List Nat) (t : Tab Bool) (p : Nat) :
    Tab.get false (l.foldl (fun t p => Tab.put false t p true) t) p = (Tab.get false t p || decide (p ∈ l)) := by
  induction l generalizing t with
  | nil => simp
  | cons a l ih =>
    rw [List.foldl_cons, ih, Tab.get_put]
    by_cases ha : p = a
    · simp [ha]
    · simp [ha]

/-- The pages that are dirty after a CLEAN that failed: those written meanwhile and those not read before it (R150, R165). -/
theorem Region.get_notClean (g : Region) (f : Flight) (o p : Nat) : Tab.get false (g.notClean f o) p
    = (Tab.get false g.pages p || decide (p ∈ f.pages ∧ o ≤ 4096 * p)) := by
  rw [Region.notClean, get_setPages]
  simp only [List.mem_filter, decide_eq_true_eq]

/-- A region with its first page dirty alone and its home in DDR is written back by one copy of that page. -/
theorem State.ddr_writeBack_firstPage {s : State} (u : Nat) {r : Nat} (hd : (s.region r).home = .ddr)
    (hp : (s.region r).pages = [(pageOf (r * 2 ^ 26), true)]) :
    (s.writeBack u r).ddr = s.landing.copy ((s.region r).frame * 2 ^ 26) 4096 s.ddr
      (planerAddr (s.region r).planer ((s.region r).homeFrame * 2 ^ 26)) := by
  have hunits : dirtyUnits (s.region r) = [(0, 4096)] := by
    rw [show pageOf (r * 2 ^ 26) = 0 by unfold pageOf; omega] at hp
    simp [dirtyUnits, hd, hp]
  rw [State.writeBack, hunits, State.writeUnits_eq, List.foldl_cons, List.foldl_nil, State.ddr_writeUnit hd,
    Nat.add_zero, Nat.add_zero, State.addObj_landing, State.addObj_ddr]

theorem planerAddr_add (q a o : Nat) : planerAddr q (a + o) = planerAddr q a + o := (Nat.add_assoc _ _ _).symm

/-- Settles O25: the checks answer in their order, an EVICT waits for what was before it, and a write-back of either is the units'
copies with their counts, whole or up to the access that fails. -/
theorem evictAndCleanWriteBack : Obligations.EvictAndCleanWriteBack := by
  refine ⟨?dispatch, fun s id f hs => exec_evict_start hs, fun s id f hs => congrArg _ (evictDrainEnd_of_running hs), ?evict,
    fun s id f hs => exec_clean_start hs, ?clean, fun s u r => s.obj_writeUnits u r _, fun s g h => State.backStop_of_up h g,
    ?firstPage⟩
  case dispatch =>
    intro s sh h clean hw hr i r g
    have hi : exec i s = .next (s.dispatchBack sh (backOp clean) (backBusy clean)) := exec_backDispatch s clean hw
    rw [hi]
    exact ⟨fun code hf => congrArg _ (State.dispatchBack_fault hr hf),
      fun hf hc => congrArg _ (State.dispatchBack_conflict hr hf hc),
      fun hf hs hb => congrArg _ (State.dispatchBack_of_free hr hf hs hb)⟩
  case evict =>
    intro s id f err hs r g
    exact ⟨fun hg => congrArg _ (evictComplete_unstaged hs err hg), fun hg hb => congrArg _ (evictComplete_done hs err hg hb),
      fun o hg hb => congrArg _ (evictComplete_fails hs err hg hb)⟩
  case clean =>
    intro s id f err hs r g c
    exact ⟨fun hg => congrArg _ (cleanComplete_unstaged hs err hg), fun hg hb => congrArg _ (cleanComplete_done hs err hg hb),
      fun o hg hb => ⟨g.notClean f o, congrArg _ (cleanComplete_fails hs err hg hb), g.get_notClean f o⟩⟩
  case firstPage =>
    rintro s u r q hf - hd rfl rfl hp
    obtain ⟨_, _, _, _, (he : s.writeBack u r = _)⟩ := s.writeUnits_frame u r (dirtyUnits (s.region r))
    have hddr := State.ddr_writeBack_firstPage u hd hp
    refine ⟨fun o ho => ?_, fun a ha => ?_, by rw [he], by rw [he]⟩
    · rw [hddr, planerAddr_add]
      exact Mem.rd_copy_same ho
    · rw [hddr]
      exact Mem.rd_copy_other ha

end Sys2Proof.Machine

/-!
PROOF. REGION_CMD: the reason against each action, and the change of one region where there is none.
-/

namespace Sys2Proof.Machine

section
variable {s : State} {path : Nat}

theorem exec_regionCmds (hp : path < 18) (ha : s.access path 0x3010 = 0) (hb : s.obj (okey 0x3010 5) ≠ 1) :
    exec (.mapRegion path) s = .next (mapRegion s path) ∧ exec (.unmap path) s = .next (unmapRegion s path)
    ∧ exec (.trim path) s = .next (trimRegion s path) ∧ exec (.discard path) s = .next (discardRegion s path) := by
  have hpath : pathOk path = true := decide_eq_true hp
  have hserved := fun act => State.onCmd_at (s := s) (path := path) (i := 0x3010) (j := 5) (by decide) act ha hb
  exact ⟨(need_ok hpath _).trans (congrArg _ (hserved _)), (need_ok hpath _).trans (congrArg _ (hserved _)),
    (need_ok hpath _).trans (congrArg _ (hserved _)), (need_ok hpath _).trans (congrArg _ (hserved _))⟩

/-- How a REGION_CMD on region r ends: done in `t` without a reason, refused with one where nothing else changes (R151, R174). -/
def State.regionEnd (s t : State) (r reason : Nat) : State :=
  (if reason ≠ 0 then s else t).tierEnd (okey 0x3010 5) reason 0 r 0

theorem State.regionEnd_refused {s t : State} {r reason k : Nat} (h : reason = k) (hk : k ≠ 0) :
    s.regionEnd t r reason = s.tierEnd (okey 0x3010 5) k 0 r 0 := by
  subst h
  exact congrArg (State.tierEnd · _ _ _ _ _) (if_pos hk)

theorem State.regionEnd_done {s t u : State} {r reason : Nat} (h : reason = 0) (ht : t = u) :
    s.regionEnd t r reason = u.tierEnd (okey 0x3010 5) 0 0 r 0 := by
  subst h ht
  rfl

/-- The Tier Map entry that a MAP of a home writes, from REGION_ARG (R142, R151). -/
def mappedTo (hm : Home) (x : Nat) : Region :=
  { home := hm, planer := bits x 49 48, frame := bits x 47 35, homeFrame := bits x 34 15 }

/-- A region mapped to a home; a home in the Landing takes its frame (R151). -/
def State.mapped (s : State) (r : Nat) (hm : Home) (x : Nat) : State :=
  if hm = .landing then (s.updRegion r (fun _ => mappedTo hm x)).setFrame (bits x 47 35) (.home r)
  else s.updRegion r (fun _ => mappedTo hm x)

theorem mapRegion_eq : mapRegion s path = s.regionEnd
    (s.mapped (s.tmapSel path) ((argHome (s.pobj path (okey 0x3010 4))).getD .none) (s.pobj path (okey 0x3010 4)))
    (s.tmapSel path) (s.mapReason (s.tmapSel path) (s.pobj path (okey 0x3010 4))) := rfl

/-- What speaks against an UNMAP (R151). -/
def State.unmapReason (s : State) (r : Nat) : Nat :=
  if s.isKv r then 7 else if (s.region r).allocated then 5 else if (s.region r).staged then 6 else 0

/-- A region unmapped; a frame of the Landing is FREE with its contents lost (R151). -/
def State.unmapped (s : State) (r : Nat) : State :=
  if (s.region r).home = .landing then
    ({ s.updRegion r (fun _ => {}) with
      free := s.free + 1
      landing := s.landing.lose ((s.region r).frame * 2 ^ 26) (2 ^ 26) s.free } : State).setFrame (s.region r).frame .free
  else s.updRegion r (fun _ => {})

theorem unmapRegion_eq : unmapRegion s path
    = s.regionEnd (s.unmapped (s.tmapSel path)) (s.tmapSel path) (s.unmapReason (s.tmapSel path)) := rfl

/-- What speaks against a TRIM (R151). -/
def State.trimReason (s : State) (r : Nat) : Nat :=
  if s.isKv r then 7 else if (s.region r).home ≠ .flash then 1 else if (s.region r).allocated then 5 else 0

/-- The contents of a region's flash home lost (R151). -/
def State.trimmed (s : State) (r : Nat) : State :=
  { s with
    free := s.free + 1
    flash := s.flash.lose (planerAddr (s.region r).planer ((s.region r).homeFrame * 2 ^ 26)) (2 ^ 26) s.free }

theorem trimRegion_eq : trimRegion s path
    = s.regionEnd (s.trimmed (s.tmapSel path)) (s.tmapSel path) (s.trimReason (s.tmapSel path)) := rfl

/-- What speaks against a DISCARD (R151). -/
def State.discardReason (s : State) (r : Nat) : Nat :=
  if s.isKv r then 7 else if !(s.region r).staged then 4
  else if (s.region r).allocated && s.loaded (s.region r).owner && !(s.ctx (s.region r).owner).held then 7 else 0

/-- A region whose staged copy is dropped, its frame back in its pool (R151). -/
def State.discarded (s : State) (r : Nat) : State :=
  (s.setFrame (s.region r).frame (.pool (stagedPool (s.frame (s.region r).frame)) false)).updRegion r (fun x =>
    { x with staged := false, dirty := false, lost := false, frame := 0, pages := [] })

theorem discardRegion_eq : discardRegion s path
    = s.regionEnd (s.discarded (s.tmapSel path)) (s.tmapSel path) (s.discardReason (s.tmapSel path)) := rfl

end

section
variable {s : State} {r : Nat}

/-- No REGION_CMD but MAP touches a key/value area (R250). -/
theorem State.reasons_kv (h : s.isKv r = true) :
    s.unmapReason r = 7 ∧ s.trimReason r = 7 ∧ s.discardReason r = 7 := by
  simp [State.unmapReason, State.trimReason, State.discardReason, h]

variable (hkv : s.isKv r = false)
include hkv

theorem State.unmapReason_none (ha : (s.region r).allocated = false) (hs : (s.region r).staged = false) :
    s.unmapReason r = 0 := by
  simp [State.unmapReason, hkv, ha, hs]

theorem State.unmapReason_used (h : (s.region r).allocated = true ∨ (s.region r).staged = true) :
    s.unmapReason r = if (s.region r).allocated then 5 else 6 := by
  cases ha : (s.region r).allocated with
  | true => simp [State.unmapReason, hkv, ha]
  | false => simp [State.unmapReason, hkv, ha, h.resolve_left (by rw [ha]; decide)]

theorem State.trimReason_none (hf : (s.region r).home = .flash) (ha : (s.region r).allocated = false) :
    s.trimReason r = 0 := by
  simp [State.trimReason, hkv, hf, ha]

theorem State.trimReason_used (h : (s.region r).home ≠ .flash ∨ (s.region r).allocated = true) :
    s.trimReason r = if (s.region r).home ≠ .flash then 1 else 5 := by
  by_cases hf : (s.region r).home = .flash
  · simp [State.trimReason, hkv, hf, h.resolve_left (absurd hf)]
  · simp [State.trimReason, hkv, hf]

theorem State.discardReason_unstaged (hs : (s.region r).staged = false) : s.discardReason r = 4 := by
  simp [State.discardReason, hkv, hs]

variable (hs : (s.region r).staged = true)
include hs

theorem State.discardReason_none (h : (s.region r).allocated = false ∨ s.loaded (s.region r).owner = false
      ∨ (s.ctx (s.region r).owner).held = true) : s.discardReason r = 0 := by
  rcases h with h | h | h <;> simp [State.discardReason, hkv, hs, h]

/-- A region of a context that is loaded and not held keeps its staged copy (R151). -/
theorem State.discardReason_owned (ha : (s.region r).allocated = true) (hl : s.loaded (s.region r).owner = true)
    (hh : (s.ctx (s.region r).owner).held = false) : s.discardReason r = 7 := by
  simp [State.discardReason, hkv, hs, ha, hl, hh]

end

/-- Settles O27: each action is its reason's refusal, or where no reason speaks against it its one change. -/
theorem regionCommandsChangeTheTierMap : Obligations.RegionCommandsChangeTheTierMap := by
  intro s path hp ha hb r x g new done
  obtain ⟨hmap, hunmap, htrim, hdiscard⟩ := exec_regionCmds hp ha hb
  rw [hmap, hunmap, htrim, hdiscard, mapRegion_eq, unmapRegion_eq, trimRegion_eq, discardRegion_eq]
  refine ⟨fun hm h0 hx hne => congrArg _ (State.regionEnd_done h0 ?map),
    fun h0 hx => congrArg _ (State.regionEnd_done h0 ?mapLanding),
    fun h => congrArg _ (State.regionEnd_refused rfl h),
    fun hkv hal hst hne => congrArg _ (State.regionEnd_done (State.unmapReason_none hkv hal hst) (if_neg hne)),
    fun hkv hal hst hl => congrArg _ (State.regionEnd_done (State.unmapReason_none hkv hal hst) (if_pos hl)),
    fun hkv h => congrArg _ (State.regionEnd_refused (State.unmapReason_used hkv h) (by split <;> decide)),
    fun hkv hfl hal => congrArg _ (State.regionEnd_done (State.trimReason_none hkv hfl hal) rfl),
    fun hkv h => congrArg _ (State.regionEnd_refused (State.trimReason_used hkv h) (by split <;> decide)),
    fun hkv hst h => congrArg _ (State.regionEnd_done (State.discardReason_none hkv hst h) rfl),
    fun hkv hst hal hlo hh =>
      congrArg _ (State.regionEnd_refused (State.discardReason_owned hkv hst hal hlo hh) (by decide)),
    fun hkv hst => congrArg _ (State.regionEnd_refused (State.discardReason_unstaged hkv hst) (by decide)), fun hkv => ?_⟩
  case map =>
    rw [hx]
    exact if_neg hne
  case mapLanding =>
    rw [hx]
    exact if_pos rfl
  obtain ⟨hu, ht, hd⟩ := State.reasons_kv hkv
  exact ⟨congrArg _ (State.regionEnd_refused hu (by decide)), congrArg _ (State.regionEnd_refused ht (by decide)),
    congrArg _ (State.regionEnd_refused hd (by decide))⟩

end Sys2Proof.Machine

/-!
PROOF. Host windows, and the background work of flash and DDR: one block relocated or erased, and the counts of each kind of work.
-/

namespace Sys2Proof.Machine

/-! ### Host windows (R149) -/

/-- A served write of HOSTWIN_ADDR with its reserved bits 0 sets the window, or is refused where a mapped region names it. -/
theorem hostwinAddrWrite_served {s : State} {path v : Nat} (hv : v < 2 ^ 64) (hbits : bits v 11 1 = 0)
    (ha : s.access path 0x3020 = 0) : hostwinAddrWrite s path v = if s.windowUsed (s.pobj path (okey 0x3020 1))
      then (s.setObj (okey 0x3010 6) (tierResult 3 3 (s.pobj path (okey 0x3020 1)) 0)).dictRefuse path (okey 0x3020 2) 8
      else ({ s with hostWins := Tab.put 0 s.hostWins (s.pobj path (okey 0x3020 1)) v } : State).setObj (okey 0x3010 6)
        (tierResult 0 3 (s.pobj path (okey 0x3020 1)) 0) := by
  unfold hostwinAddrWrite
  dsimp only
  rw [hbits, if_neg (by decide), State.onWrite_at (by decide) _ ha]
  unfold hostwinWrite
  rw [Nat.mod_eq_of_lt hv]
  dsimp only
  split
  · rfl
  · rfl

/-! ### One flash block (R146, R174) -/

section
variable (s : State) (q b bytes : Nat)

/-- A block that is erased has one erase more and no reads since (R146). -/
theorem State.ftl_eraseBlock (x : Nat) : Tab.get ({} : FlashBlock) (s.eraseBlock q b bytes).ftl x
    = if x = blockKey q b then { erased := (Tab.get ({} : FlashBlock) s.ftl x).erased + 1, reads := 0 }
      else Tab.get {} s.ftl x := by
  unfold State.eraseBlock Tab.update
  rw [State.addObj_ftl, Tab.get_put]
  split
  · next h => rw [h]
  · rfl

theorem State.erases_eraseBlock : (s.eraseBlock q b bytes).erases q b = s.erases q b + 1 := by
  unfold State.erases
  rw [State.ftl_eraseBlock, if_pos rfl]
  rfl

/-- A relocation erases its block, and no other (R146). -/
theorem State.ftl_relocate (x : Nat) : Tab.get ({} : FlashBlock) (s.relocate q b bytes).ftl x
    = if x = blockKey q b then { erased := (Tab.get ({} : FlashBlock) s.ftl x).erased + 1, reads := 0 }
      else Tab.get {} s.ftl x := by
  rw [State.relocate, State.addObj_ftl, State.ftl_eraseBlock]

theorem State.erases_relocate : (s.relocate q b bytes).erases q b = s.erases q b + 1 := by
  unfold State.erases
  rw [State.ftl_relocate, if_pos rfl]
  rfl

/-- Erasing a block counts the bytes programmed and no other object (R174). -/
theorem State.obj_eraseBlock_other {k : Nat} (h : k ≠ okey (0x3400 + q) 3) : (s.eraseBlock q b bytes).obj k = s.obj k :=
  State.obj_addObj_other _ _ _ h

theorem State.obj_eraseBlock_programmed :
    (s.eraseBlock q b bytes).obj (okey (0x3400 + q) 3) = (s.obj (okey (0x3400 + q) 3) + bytes) % 2 ^ 64 :=
  State.obj_addObj_same ..

theorem State.obj_eraseBlock_sub {j : Nat} (hj : j < 256) (h : j ≠ 3) :
    (s.eraseBlock q b bytes).obj (okey (0x3400 + q) j) = s.obj (okey (0x3400 + q) j) :=
  s.obj_eraseBlock_other q b bytes (okey_ne hj (by decide) (.inr h))

theorem State.obj_relocate_sub {j : Nat} (hj : j < 256) (h3 : j ≠ 3) (h8 : j ≠ 8) :
    (s.relocate q b bytes).obj (okey (0x3400 + q) j) = s.obj (okey (0x3400 + q) j) :=
  (State.obj_addObj_other _ _ _ (okey_ne hj (by decide) (.inr h8))).trans (s.obj_eraseBlock_sub q b bytes hj h3)

end

/-! ### Background scrub (R146, R174) -/

section
variable (s : State) (q uncorr : Nat) (read : List (Nat × Nat)) (weak : List BlockMove)

/-- The state after the reads and relocations of a background scrub, with the uncorrectable codewords counted (R146, R174). -/
def State.scrubbed : State :=
  (weak.foldl (fun t e => t.relocate q e.block e.bytes) (read.foldl (fun t e => t.readBlock q e.1 e.2) s)).addObj
    (okey (0x3400 + q) 0x0A) 32 uncorr

/-- A background scrub leaves FLASH_SCRUB_NOW to the end of its pass (R174). -/
theorem State.obj_scrubbed_now :
    (s.scrubbed q uncorr read weak).obj (okey (0x3400 + q) 0x0B) = s.obj (okey (0x3400 + q) 0x0B) := by
  have hread := State.foldl_unchanged (State.obj · (okey (0x3400 + q) 0x0B)) (f := fun t e => t.readBlock q e.1 e.2)
    (fun _ _ => rfl) read s
  have hweak := State.foldl_unchanged (State.obj · (okey (0x3400 + q) 0x0B))
    (f := fun t (e : BlockMove) => t.relocate q e.block e.bytes)
    (fun t e => t.obj_relocate_sub q e.block e.bytes (by decide) (by decide) (by decide)) weak
  exact (State.obj_addObj_other _ _ _ (okey_ne (by decide) (by decide) (.inr (by decide)))).trans ((hweak _).trans hread)

theorem State.obj_scrubPassed_now :
    (s.scrubPassed q).obj (okey (0x3400 + q) 0x0B) = s.obj (okey (0x3400 + q) 0x0B) :=
  State.obj_setObj_other s _ (okey_ne (by decide) (by decide) (.inr (by decide)))

theorem State.obj_scrubPassed_age : (s.scrubPassed q).obj (okey (0x3400 + q) 9) = 0 := State.obj_setObj_same s _ _

theorem flashScrub_off {s : State} {q : Nat} (h : s.planerOn q = false) (e : Bool) : flashScrub s q read weak uncorr e = s :=
  if_pos (by rw [h]; rfl)

variable {s q} (h : s.planerOn q = true)
include h

theorem flashScrub_goes_on : flashScrub s q read weak uncorr false = s.scrubbed q uncorr read weak :=
  (if_neg (by rw [h]; decide)).trans (if_neg Bool.false_ne_true)

/-- A pass that ends is noted, and ends FLASH_SCRUB_NOW where that has asked for it (R174). -/
theorem flashScrub_ends : flashScrub s q read weak uncorr true = if s.obj (okey (0x3400 + q) 0x0B) = 1
    then ((s.scrubbed q uncorr read weak).scrubPassed q).setObj (okey (0x3400 + q) 0x0B) 2
    else (s.scrubbed q uncorr read weak).scrubPassed q := by
  have hnow : ((s.scrubbed q uncorr read weak).scrubPassed q).obj (okey (0x3400 + q) 0x0B)
      = s.obj (okey (0x3400 + q) 0x0B) := (State.obj_scrubPassed_now _ q).trans (s.obj_scrubbed_now q uncorr read weak)
  refine (if_neg (by rw [h]; decide)).trans ((if_pos rfl).trans ?_)
  exact if_congr (by rw [← hnow]; rfl) rfl rfl

end

theorem exec_flashScrub {q : Nat} {read : List (Nat × Nat)} {weak : List BlockMove} (hq : q < 4)
    (hr : read.all (fun e => e.1 < 2 ^ 32) = true) (hw : weak.all (fun e => e.block < 2 ^ 32) = true) (uncorr : Nat)
    (e : Bool) (s : State) :
    exec (.flashBackgroundScrub q read weak uncorr e) s = .next (flashScrub s q read weak uncorr e) :=
  need_ok (Bool.and_eq_true_iff.2 ⟨Bool.and_eq_true_iff.2 ⟨decide_eq_true hq, hr⟩, hw⟩) _

/-! ### Read disturb, wear levelling, garbage collection, patrol scrub (R145, R146, R148, R174) -/

section
variable (s : State) (q b bytes : Nat)

theorem readDisturb_eq : readDisturb s q ⟨b, bytes⟩
    = if s.planerOn q = true ∧ 200000 ≤ (Tab.get ({} : FlashBlock) s.ftl (blockKey q b)).reads then s.relocate q b bytes
      else s :=
  if_congr (by rw [Bool.and_eq_true, decide_eq_true_eq]) rfl rfl

theorem wearLevel_eq : wearLevel s q ⟨b, bytes⟩
    = if s.planerOn q = true ∧ s.erases q b + 150 < s.eraseMax q (eraseStart q)
        ∧ (∀ e ∈ s.ftlBlocks q, s.erases q b ≤ s.erases q (e.1 % 2 ^ 32)) then s.eraseBlock q b bytes else s :=
  if_congr (by simp only [Bool.and_eq_true, decide_eq_true_eq, List.all_eq_true, and_assoc]) rfl rfl

/-- Garbage collection reports FLASH_SPARE_LOW exactly when the spare falls below 10 per mille (R148). -/
theorem garbageCollect_eq {spare : Nat} (hs : spare < 2 ^ 16) (uncorr : Nat) : garbageCollect s q b bytes spare uncorr
    = if s.planerOn q = false then s
      else if spare < 10 ∧ 10 ≤ s.obj (okey (0x3400 + q) 7) then
        (((s.eraseBlock q b bytes).addObj (okey (0x3400 + q) 0x0A) 32 uncorr).setObj (okey (0x3400 + q) 7) spare).report
          0x2006 5 q none 0 false false
      else ((s.eraseBlock q b bytes).addObj (okey (0x3400 + q) 0x0A) 32 uncorr).setObj (okey (0x3400 + q) 7) spare := by
  unfold garbageCollect
  rw [Nat.mod_eq_of_lt hs]
  exact if_congr (by rw [Bool.not_eq_true']) rfl
    (if_congr (by rw [Bool.and_eq_true, decide_eq_true_eq, decide_eq_true_eq]) rfl rfl)

theorem ddrScrub_eq (corrected uncorr : Nat) : ddrScrub s q corrected uncorr = if s.planerOn q = false then s
    else (s.addObj (okey (0x3300 + q) 1) 32 corrected).addObj (okey (0x3300 + q) 2) 32 uncorr :=
  if_congr (by rw [Bool.not_eq_true']) rfl rfl

end

/-- Settles O29: each kind of background work is its guard and a composition of block erasures and counts. -/
theorem tiersCountTheirBackgroundWork : Obligations.TiersCountTheirBackgroundWork := by
  refine ⟨?hostwin, ?scrubNow, fun s q b n => rfl, ?scrub, ?relocate, ?wear, ?garbage, ?patrol⟩
  case hostwin =>
    intro s path v hp hv hbits ha w
    exact (need_ok (Bool.and_eq_true_iff.2 ⟨decide_eq_true hp, decide_eq_true hv⟩) _).trans
      (congrArg _ (hostwinAddrWrite_served hv hbits ha))
  case scrubNow =>
    intro s path q hp hq ha hb
    exact (need_ok (Bool.and_eq_true_iff.2 ⟨decide_eq_true hp, decide_eq_true hq⟩) _).trans
      (congrArg _ (State.onCmd_at (by decide) _ ha hb))
  case scrub =>
    intro s q uncorr read weak hq hr hw k s0 r
    simp only [exec_flashScrub hq hr hw]
    exact ⟨fun e h => congrArg _ (flashScrub_off uncorr read weak h e),
      fun h => congrArg _ (flashScrub_goes_on uncorr read weak h),
      fun h hnow => congrArg _ ((flashScrub_ends uncorr read weak h).trans (if_pos hnow)),
      fun h hnow => congrArg _ ((flashScrub_ends uncorr read weak h).trans (if_neg hnow)),
      State.obj_scrubPassed_age _ q⟩
  case relocate =>
    intro s q b bytes _ _ t
    have h8 : t.obj (okey (0x3400 + q) 8) = _ := State.obj_addObj_same (s.eraseBlock q b bytes) _ 32 1
    have h3 : t.obj (okey (0x3400 + q) 3) = (s.eraseBlock q b bytes).obj (okey (0x3400 + q) 3) :=
      State.obj_addObj_other _ _ _ (okey_ne (by decide) (by decide) (.inr (by decide)))
    rw [s.obj_eraseBlock_sub q b bytes (by decide) (by decide)] at h8
    rw [s.obj_eraseBlock_programmed] at h3
    exact ⟨s.erases_relocate q b bytes, congrArg FlashBlock.reads ((s.ftl_relocate q b bytes _).trans (if_pos rfl)),
      fun x hx => (s.ftl_relocate q b bytes x).trans (if_neg hx), h8, h3, rfl⟩
  case wear =>
    intro s q b bytes hq hb
    have hwf : (q < 4 && b < 2 ^ 32) = true := Bool.and_eq_true_iff.2 ⟨decide_eq_true hq, decide_eq_true hb⟩
    exact ⟨(need_ok hwf _).trans (congrArg _ (readDisturb_eq s q b bytes)),
      (need_ok hwf _).trans (congrArg _ (wearLevel_eq s q b bytes)), s.erases_eraseBlock q b bytes,
      s.obj_eraseBlock_sub q b bytes (by decide) (by decide)⟩
  case garbage =>
    intro s q b bytes spare uncorr hq hb hs k r
    exact (need_ok (Bool.and_eq_true_iff.2 ⟨decide_eq_true hq, decide_eq_true hb⟩) _).trans
      (congrArg _ (garbageCollect_eq s q b bytes hs uncorr))
  case patrol =>
    intro s q corrected uncorr hq
    exact (need_ok (decide_eq_true hq) _).trans (congrArg _ (ddrScrub_eq s q corrected uncorr))

end Sys2Proof.Machine

/-!
PROOF. The cruise, the scrub excursion, powered hours and the energy window.
-/

namespace Sys2Proof.Machine

/-! ### Surveys asked for (R369) -/

/-- Whether the module sleeps or is on its way between states, so that a survey stays due (R369). -/
abbrev State.surveyWaits (s : State) : Prop := 2 ≤ s.obj (okey 0x6000 1) ∨ s.power.target ≠ none

/-- Whether the Lookout runs in a module that is ready (R369). -/
def State.surveyRuns (s : State) : Prop := s.lookoutRuns = true ∧ s.obj (okey 0x1480 1) = 4

/-- The state that waits for a survey (R369). -/
def State.surveyDue (s : State) : State := { s with power := { s.power with due := true } }

theorem State.surveyWaits_iff (s : State) :
    (2 ≤ s.powerState || s.power.target.isSome) = true ↔ s.surveyWaits := by
  rw [Bool.or_eq_true, decide_eq_true_eq, Option.isSome_iff_ne_none]
  rfl

theorem State.turnOn_frame (s : State) (d : Nat) : ∃ x, s.turnOn d = { s with power := { s.power with turning := x } } := by
  unfold State.turnOn
  split <;> exact ⟨_, rfl⟩

/-- A survey that starts queues every cluster behind those that wait, and is no longer due (R369). -/
theorem State.startSurvey_frame (s : State) : ∃ x, s.startSurvey = { s with power := { s.power with
    survey := s.power.survey ++ List.range 8, due := false, turning := x } } := by
  unfold State.startSurvey
  dsimp only
  split
  · exact ⟨_, rfl⟩
  · exact State.turnOn_frame _ _

section
variable {s : State}

theorem cruiseSurvey_stopped (h : ¬ s.surveyRuns) : cruiseSurvey s = s := by
  refine if_pos ?_
  simpa only [Bool.or_eq_true, Bool.not_eq_true', decide_eq_true_eq, State.surveyRuns, not_and_or, Bool.not_eq_true] using h

variable (h : s.surveyRuns)
include h

theorem cruiseSurvey_runs : cruiseSurvey s = if s.surveyWaits then s.surveyDue
    else if s.power.survey ≠ [] then s else s.startSurvey := by
  obtain ⟨h1, h2⟩ := h
  refine (if_neg (by rw [h1, h2]; decide)).trans ?_
  exact if_congr s.surveyWaits_iff rfl rfl

end

/-! ### CRUISE_CMD (R369, R372) -/

/-- A served CRUISE_CMD reads 1, and its survey starts or stays due (R369). -/
theorem exec_cruiseCmd {s : State} {path : Nat} (hp : path < 18) (ha : s.access path 0x6480 = 0)
    (hb : s.obj (okey 0x6480 1) ≠ 1) : exec (.cruiseCmd path) s = .next (if s.surveyWaits ∨ s.obj (okey 0x1480 1) ≠ 4
      then (s.setObj (okey 0x6480 1) 1).surveyDue else (s.setObj (okey 0x6480 1) 1).startSurvey) := by
  refine (need_ok (decide_eq_true hp) _).trans (congrArg _ ((State.onCmd_at (by decide) _ ha hb).trans ?_))
  exact if_congr (by rw [Bool.or_eq_true, State.surveyWaits_iff, decide_eq_true_eq]) rfl rfl

/-! ### The survey of a cluster (R368, R369, R370) -/

/-- Objects of one index are told apart by their sub-index. -/
theorem okey_same_index (i j k : Nat) : okey i j = okey i k ↔ j = k := by unfold okey; omega

/-- Steps of 3 ps by which a slack falls short of the margin (R369). -/
def State.surveySteps (s : State) (slack : Int) : Nat := (((s.obj (okey 0x6480 5) : Int) - slack).toNat + 2) / 3

/-- GUARD of a cluster after its survey: raised by the steps that are short, at most by the headroom (R369). -/
def State.surveyGuard (s : State) (c : Nat) (slack : Int) : Nat :=
  s.obj (okey (cruiseIdx c) 2) + min (s.surveySteps slack) (s.headroom c)

/-- The history of a cluster's GUARD after its survey, at most 30 long (R369). -/
def State.surveyHistory (s : State) (c : Nat) (slack : Int) : List (Nat × Nat) :=
  ((s.obj (okey 0x1000 9), s.surveyGuard c slack) :: Tab.get [] s.power.history c).take 30

/-- The headroom that a cluster's survey leaves (R368). -/
def State.surveyRoom (s : State) (c : Nat) (slack : Int) : Nat :=
  (s.setObj (okey (cruiseIdx c) 2) (s.surveyGuard c slack)).headroom c

/-- LIFE_HOURS after a cluster's survey (R370). -/
def State.surveyLife (s : State) (c : Nat) (slack : Int) : Nat :=
  lifeHours (s.surveyRoom c slack) (slopeOf (s.surveyHistory c slack))

/-- The slope of a history as the object shows it (R369). -/
def slopeWord (h : List (Nat × Nat)) : Nat :=
  (toF32 ((Val.fin (slopeOf h).1 (slopeOf h).2.1 0).div (.fin false (slopeOf h).2.2 0))).toNat

/-- The state that has noted a cluster's survey: GUARD, the slack, the slope, LIFE_HOURS and the hours (R369, R370). -/
def State.surveyNoted (s : State) (c : Nat) (slack : Int) : State :=
  (((({ s.setObj (okey (cruiseIdx c) 2) (s.surveyGuard c slack) with power := { s.power with
    history := Tab.put [] s.power.history c (s.surveyHistory c slack) } } : State).setObj (okey (cruiseIdx c) 4)
    (slack.toNat % 65536)).setObj (okey (cruiseIdx c) 5) (slopeWord (s.surveyHistory c slack))).setObj
    (okey (cruiseIdx c) 6) (s.surveyLife c slack)).setObj (okey (cruiseIdx c) 7) (s.obj (okey 0x1000 9))

/-- GUARD_SHORT is set where the headroom did not allow every step (R369). -/
def State.surveyShort (s : State) (c : Nat) (slack : Int) : State :=
  if min (s.surveySteps slack) (s.headroom c) < s.surveySteps slack
  then (s.surveyNoted c slack).setObj (okey (cruiseIdx c) 8) 1 else s.surveyNoted c slack

/-- The warning that a cluster's headroom is short, once for each room that is smaller (R370). -/
def State.warnRoom (s : State) (c room life : Nat) : State :=
  if room ≤ s.obj (okey 0x6480 4) && (Tab.get 0 s.power.warnHead c = 0 || room + 1 < Tab.get 0 s.power.warnHead c) then
    ({ s with power := { s.power with warnHead := Tab.put 0 s.power.warnHead c (room + 1) } } : State).lookoutFault 0x6003
      (c + room * 2 ^ 8 + life * 2 ^ 32)
  else s

theorem State.surveyed_eq (s : State) (c : Nat) (slack : Int) : s.surveyed c slack
    = (s.surveyShort c slack).warnRoom c (s.surveyRoom c slack) (s.surveyLife c slack) := rfl

/-- A fault of the Lookout that is not one of the capped warnings touches the fault objects or the latch (R365). -/
theorem State.obj_lookoutFault (s : State) {code i j : Nat} (detail : Nat) (hc : cappedFault code = false) (hj : j < 256)
    (h : i ≠ 0x5000) (h' : i ≠ 0x5400) : (s.lookoutFault code detail).obj (okey i j) = s.obj (okey i j) := by
  unfold State.lookoutFault
  split
  · exact State.obj_reportV_other _ _ _ _ _ _ _ _ _ hj h h'
  · rw [State.latchFault, hc]
    rfl

section
variable (s : State) (c : Nat) (slack : Int)

/-- The warning after a survey leaves every object but the fault's (R370). -/
theorem State.obj_surveyed {i j : Nat} (hj : j < 256) (h : i ≠ 0x5000) (h' : i ≠ 0x5400) :
    (s.surveyed c slack).obj (okey i j) = (s.surveyShort c slack).obj (okey i j) := by
  rw [State.surveyed_eq, State.warnRoom]
  split
  · exact State.obj_lookoutFault _ (code := 0x6003) _ rfl hj h h'
  · rfl

variable {c}

/-- A survey writes objects of its cluster alone. -/
theorem State.obj_surveyShort_other {i j : Nat} (hj : j < 256) (hi : i ≠ cruiseIdx c) :
    (s.surveyShort c slack).obj (okey i j) = s.obj (okey i j) := by
  have hne : ∀ {b}, b < 256 → okey i j ≠ okey (cruiseIdx c) b := fun hb => okey_ne hj hb (.inl hi)
  have noted : (s.surveyNoted c slack).obj (okey i j) = s.obj (okey i j) :=
    ((((State.obj_setObj_other _ _ (hne (by decide))).trans (State.obj_setObj_other _ _ (hne (by decide)))).trans
      (State.obj_setObj_other _ _ (hne (by decide)))).trans (State.obj_setObj_other _ _ (hne (by decide)))).trans
      (State.obj_setObj_other s _ (hne (by decide)))
  unfold State.surveyShort
  split
  · exact (State.obj_setObj_other _ _ (hne (by decide))).trans noted
  · exact noted

/-- What a survey notes in the objects of its cluster (R369, R370). -/
theorem State.obj_surveyNoted (j : Nat) : (s.surveyNoted c slack).obj (okey (cruiseIdx c) j)
    = if j = 7 then s.obj (okey 0x1000 9) else if j = 6 then s.surveyLife c slack
      else if j = 5 then slopeWord (s.surveyHistory c slack) else if j = 4 then slack.toNat % 65536
      else if j = 2 then s.surveyGuard c slack else s.obj (okey (cruiseIdx c) j) := by
  rw [State.surveyNoted, State.obj_setObj, State.obj_setObj, State.obj_setObj, State.obj_setObj]
  simp only [okey_same_index]
  refine if_congr .rfl rfl (if_congr .rfl rfl (if_congr .rfl rfl (if_congr .rfl rfl ?_)))
  exact (State.obj_setObj s _ _ _).trans (if_congr (okey_same_index _ _ _) rfl rfl)

/-- GUARD_SHORT of a surveyed cluster is set where the headroom does not allow every step (R369). -/
theorem State.obj_surveyShort (j : Nat) : (s.surveyShort c slack).obj (okey (cruiseIdx c) j)
    = if j = 8 ∧ s.headroom c < s.surveySteps slack then 1 else (s.surveyNoted c slack).obj (okey (cruiseIdx c) j) := by
  unfold State.surveyShort
  split
  · next h =>
    rw [State.obj_setObj]
    exact if_congr ((okey_same_index _ _ _).trans ⟨fun hj => ⟨hj, by omega⟩, And.left⟩) rfl rfl
  · next h => exact (if_neg fun hj => h (by omega)).symm

end

/-! ### The clusters in turn (R369) -/

/-- The survey of a cluster leaves the queue; eight of them make a survey of all (R369). -/
def State.surveyPassed (s : State) (rest : List Nat) : State :=
  if rest.length % 8 = 0 then ({ s with power := { s.power with survey := rest } } : State).addObj (okey 0x6480 6) 32 1
  else { s with power := { s.power with survey := rest } }

/-- After a cluster's survey the next cluster is turned on, and with the last one CRUISE_CMD ends (R369). -/
def State.nextCluster (s : State) : List Nat → State
  | [] => if s.obj (okey 0x6480 1) = 1 then s.setObj (okey 0x6480 1) 2 else s
  | n :: _ => s.turnOn (128 + n)

/-- A cluster's survey does nothing out of turn, without slacks, on a die that rests or with the cluster off (R369). -/
theorem clusterSurveyComplete_idle {s : State} {c : Nat} {slacks : List Int} (h : s.power.survey.head? ≠ some c
    ∨ slacks = [] ∨ s.dieRuns = false ∨ Tab.get false s.power.off (128 + c) = true) :
    clusterSurveyComplete s c slacks = s := by
  unfold clusterSurveyComplete
  split
  · next d rest x xs hd =>
    refine if_pos ?_
    rw [hd, List.head?_cons, Ne, Option.some_inj] at h
    simpa [or_assoc] using h
  · rfl

theorem clusterSurveyComplete_runs {s : State} {c : Nat} {rest : List Nat} {x : Int} (xs : List Int)
    (hd : s.power.survey = c :: rest) (hr : s.dieRuns = true) (ho : Tab.get false s.power.off (128 + c) = false) :
    clusterSurveyComplete s c (x :: xs) = ((s.surveyed c (xs.foldl min x)).surveyPassed rest).nextCluster rest := by
  unfold clusterSurveyComplete
  rw [hd]
  refine (if_neg (by simp [hr, ho])).trans ?_
  cases rest <;> rfl

theorem State.surveyPassed_survey (s : State) (rest : List Nat) : (s.surveyPassed rest).power.survey = rest := by
  unfold State.surveyPassed
  split <;> rfl

theorem State.obj_surveyPassed (s : State) (rest : List Nat) {k : Nat} (hk : k ≠ okey 0x6480 6) :
    (s.surveyPassed rest).obj k = s.obj k := by
  unfold State.surveyPassed
  split
  · exact State.obj_addObj_other _ _ _ hk
  · rfl

/-- The last cluster's survey makes a survey of all (R369). -/
theorem State.obj_surveyPassed_nil (s : State) :
    (s.surveyPassed []).obj (okey 0x6480 6) = (s.obj (okey 0x6480 6) + 1) % 2 ^ 32 := State.obj_addObj_same _ _ _ _

theorem State.nextCluster_survey (s : State) (rest : List Nat) : (s.nextCluster rest).power.survey = s.power.survey := by
  cases rest with
  | nil => rw [State.nextCluster]; split <;> rfl
  | cons n ns =>
    obtain ⟨p, hp⟩ := s.turnOn_frame (128 + n)
    exact congrArg (·.power.survey) hp

theorem State.obj_nextCluster (s : State) (rest : List Nat) {k : Nat} (hk : k ≠ okey 0x6480 1) :
    (s.nextCluster rest).obj k = s.obj k := by
  cases rest with
  | nil =>
    rw [State.nextCluster]
    split
    · exact State.obj_setObj_other s _ hk
    · rfl
  | cons n ns =>
    obtain ⟨p, hp⟩ := s.turnOn_frame (128 + n)
    exact congrArg (·.obj k) hp

/-- With the last cluster a CRUISE_CMD that reads 1 ends (R369). -/
theorem State.obj_nextCluster_nil {s : State} (h : s.obj (okey 0x6480 1) = 1) :
    (s.nextCluster []).obj (okey 0x6480 1) = 2 := by
  rw [State.nextCluster, if_pos h, State.obj_setObj_same]

section
variable {s : State} {c : Nat} (hc : c < 8) (rest : List Nat) (slack : Int)

/-- The state after a cluster's survey, with the next one turned on (R369). -/
def State.surveyStep (s : State) (c : Nat) (rest : List Nat) (slack : Int) : State :=
  ((s.surveyed c slack).surveyPassed rest).nextCluster rest

theorem State.surveyStep_survey : (s.surveyStep c rest slack).power.survey = rest :=
  (State.nextCluster_survey _ rest).trans (State.surveyPassed_survey _ rest)

include hc

/-- The objects of the surveyed cluster, below the fault's, are those that the survey noted (R369). -/
theorem State.obj_surveyStep {j : Nat} (hj : j < 256) : (s.surveyStep c rest slack).obj (okey (cruiseIdx c) j)
    = if j = 8 ∧ s.headroom c < s.surveySteps slack then 1 else (s.surveyNoted c slack).obj (okey (cruiseIdx c) j) := by
  have hne : ∀ {b}, b < 256 → okey (cruiseIdx c) j ≠ okey 0x6480 b :=
    fun hb => okey_ne hj hb (.inl (by unfold cruiseIdx; omega))
  rw [State.surveyStep, State.obj_nextCluster _ _ (hne (by decide)), State.obj_surveyPassed _ _ (hne (by decide)),
    s.obj_surveyed c slack hj (by unfold cruiseIdx; omega) (by unfold cruiseIdx; omega),
    State.obj_surveyShort]

/-- The objects of CRUISE_CMD are those from before the cluster's survey (R369). -/
theorem State.obj_surveyed_cruise {j : Nat} (hj : j < 256) :
    (s.surveyed c slack).obj (okey 0x6480 j) = s.obj (okey 0x6480 j) :=
  (s.obj_surveyed c slack hj (by decide) (by decide)).trans
    (s.obj_surveyShort_other slack hj (by unfold cruiseIdx; omega))

/-- A survey of all is counted with its last cluster (R369). -/
theorem State.obj_surveyStep_count :
    (s.surveyStep c [] slack).obj (okey 0x6480 6) = (s.obj (okey 0x6480 6) + 1) % 2 ^ 32 := by
  rw [State.surveyStep, State.obj_nextCluster _ _ (okey_ne (by decide) (by decide) (.inr (by decide))),
    State.obj_surveyPassed_nil, State.obj_surveyed_cruise hc _ (by decide)]

/-- CRUISE_CMD ends with the last cluster (R369). -/
theorem State.obj_surveyStep_ends (h : s.obj (okey 0x6480 1) = 1) :
    (s.surveyStep c [] slack).obj (okey 0x6480 1) = 2 := by
  refine State.obj_nextCluster_nil ?_
  rw [State.obj_surveyPassed _ _ (okey_ne (by decide) (by decide) (.inr (by decide))),
    State.obj_surveyed_cruise hc _ (by decide), h]

end

/-! ### The scrub excursion (R146, R367) -/

/-- Whether a Planer's scrub excursion begins (R367). -/
def State.excursionDue (s : State) (q : Nat) : Prop :=
  s.lookoutRuns = true ∧ s.obj (okey 0x1480 1) = 4 ∧ 2 ≤ s.obj (okey 0x6000 1) ∧ s.power.target = none
    ∧ s.power.excursion = none
    ∧ 168 - (s.obj (okey (0x3400 + q) 9) + Tab.get 0 s.power.scrubLen q) ≤ s.obj (okey 0x6600 1)

/-- The guard that keeps an excursion from beginning (R367). -/
theorem State.not_excursionDue_iff (s : State) (q : Nat) : (!s.lookoutRuns || s.obj (okey 0x1480 1) ≠ 4
    || s.powerState < 2 || s.power.target.isSome || s.power.excursion.isSome
    || s.obj (okey 0x6600 1) < s.scrubDeadline q) = true ↔ ¬ s.excursionDue q := by
  rw [State.excursionDue, State.powerState, State.scrubDeadline]
  simp only [Bool.or_eq_true, Bool.not_eq_true', decide_eq_true_eq, not_and_or, not_le, Bool.not_eq_true,
    Option.isSome_iff_ne_none, Ne, or_assoc]

theorem scrubExcursion_idle {s : State} {q : Nat} (h : ¬ s.excursionDue q) : scrubExcursion s q = s :=
  if_pos ((s.not_excursionDue_iff q).mpr h)

theorem scrubExcursion_begins {s : State} {q : Nat} (h : s.excursionDue q) : scrubExcursion s q
    = ({ s with power := { s.power with excursion := some q } } : State).addObj (okey 0x6600 2) 32 1 :=
  if_neg fun hg => (s.not_excursionDue_iff q).mp hg h

/-! ### Powered hours and the energy window (R353, R371) -/

/-- Counters with different keys each get their count, and the state changes in its objects alone. -/
theorem State.foldl_addObj_frame (key : Nat → Nat) (w n : Nat) (l : List Nat) (s : State) :
    ∃ o, l.foldl (fun t q => t.addObj (key q) w n) s = { s with objs := o } := by
  induction l generalizing s with
  | nil => exact ⟨_, rfl⟩
  | cons q l ih =>
    obtain ⟨o, ho⟩ := ih (s.addObj (key q) w n)
    exact ⟨o, ho⟩

theorem State.obj_foldl_addObj_other (key : Nat → Nat) (w n : Nat) {k : Nat} (l : List Nat) (h : ∀ q ∈ l, k ≠ key q)
    (s : State) : (l.foldl (fun t q => t.addObj (key q) w n) s).obj k = s.obj k := by
  induction l generalizing s with
  | nil => rfl
  | cons q l ih =>
    exact (ih (fun x hx => h x (List.mem_cons_of_mem q hx)) _).trans
      (State.obj_addObj_other s w n (h q List.mem_cons_self))

theorem State.obj_foldl_addObj (key : Nat → Nat) (w n : Nat) {q : Nat} (l : List Nat) (hq : q ∈ l)
    (hl : l.Pairwise (key · ≠ key ·)) (s : State) :
    (l.foldl (fun t q => t.addObj (key q) w n) s).obj (key q) = (s.obj (key q) + n) % 2 ^ w := by
  induction l generalizing s with
  | nil => exact absurd hq List.not_mem_nil
  | cons a l ih =>
    obtain ⟨ha, hl⟩ := List.pairwise_cons.mp hl
    rw [List.foldl_cons]
    rcases List.mem_cons.mp hq with rfl | hq
    · rw [State.obj_foldl_addObj_other key w n l ha, State.obj_addObj_same]
    · rw [ih hq hl, State.obj_addObj_other _ _ _ (ha q hq).symm]

/-- The key of a Planer's hours since its last complete pass. -/
def ageKey (q : Nat) : Nat := okey (0x3400 + q) 9

theorem poweredHours_stopped {s : State} (h : s.lookoutRuns = false) : poweredHours s = s := if_pos (by rw [h]; rfl)

theorem poweredHours_runs {s : State} (h : s.lookoutRuns = true) : poweredHours s
    = (List.range 4).foldl (fun t q => t.addObj (ageKey q) 32 1) (s.addObj (okey 0x1000 9) 32 1) :=
  if_neg (by rw [h]; decide)

/-- An hour of a Lookout that runs counts in the powered hours and for every Planer, and changes nothing else (R353). -/
theorem exec_poweredHours {s : State} (h : s.lookoutRuns = true) : ∃ t, exec .poweredHours s = .next t
    ∧ t.obj (okey 0x1000 9) = (s.obj (okey 0x1000 9) + 1) % 2 ^ 32
    ∧ (∀ q, q < 4 → t.obj (okey (0x3400 + q) 9) = (s.obj (okey (0x3400 + q) 9) + 1) % 2 ^ 32)
    ∧ t = { s with objs := t.objs } := by
  refine ⟨_, congrArg Host.Outcome.next (poweredHours_runs h), ?_, fun q hq => ?_, ?_⟩
  · rw [State.obj_foldl_addObj_other ageKey _ _ _ (by decide), State.obj_addObj_same]
  · refine (State.obj_foldl_addObj ageKey _ _ _ (List.mem_range.mpr hq) (by decide) _).trans ?_
    have hne : ageKey q ≠ okey 0x1000 9 := okey_ne (by decide) (by decide) (.inl (by omega))
    rw [State.obj_addObj_other _ _ _ hne, ageKey]
  · obtain ⟨o, ho⟩ := State.foldl_addObj_frame ageKey 32 1 (List.range 4) (s.addObj (okey 0x1000 9) 32 1)
    rw [ho]
    rfl

/-- Whether an energy window qualifies (R371). -/
def State.windowCounts (s : State) (rows : Nat) : Prop :=
  s.dieRuns = true ∧ s.obj (okey 0x6000 1) = 0 ∧ 40960000000 ≤ rows

theorem State.not_windowCounts_iff (s : State) (rows : Nat) :
    (!s.dieRuns || s.powerState ≠ 0 || rows < 40960000000) = true ↔ ¬ s.windowCounts rows := by
  rw [State.windowCounts, State.powerState]
  simp only [Bool.or_eq_true, Bool.not_eq_true', decide_eq_true_eq, not_and_or, not_le, Bool.not_eq_true, Ne, or_assoc]

/-- MAC_ENERGY of a window, rounded to the nearest fJ (R371). -/
def macEnergy (energy rows : Nat) : Nat := (2 * energy + rows * 4096) / (2 * (rows * 4096)) % 2 ^ 32

theorem macEnergyWindow_idle {s : State} {energy rows : Nat} (h : ¬ s.windowCounts rows) :
    macEnergyWindow s energy rows = s := if_pos ((s.not_windowCounts_iff rows).mpr h)

theorem macEnergyWindow_counts {s : State} {energy rows : Nat} (h : s.windowCounts rows) : ∃ pj,
    macEnergyWindow s energy rows = ((s.setObj (okey 0x6500 1) (macEnergy energy rows)).setObj (okey 0x6500 3) pj).addObj
      (okey 0x6500 8) 32 1 :=
  ⟨_, if_neg fun hg => (s.not_windowCounts_iff rows).mp hg h⟩

/-- A window that qualifies gives MAC_ENERGY, is counted, and changes nothing but objects (R371). -/
theorem exec_macEnergyWindow {s : State} {energy rows : Nat} (h : s.windowCounts rows) : ∃ t,
    exec (.macEnergyWindow energy rows) s = .next t ∧ t.obj (okey 0x6500 1) = macEnergy energy rows
    ∧ t.obj (okey 0x6500 8) = (s.obj (okey 0x6500 8) + 1) % 2 ^ 32 ∧ t = { s with objs := t.objs } := by
  obtain ⟨pj, he⟩ := macEnergyWindow_counts h
  refine ⟨_, congrArg Host.Outcome.next he, ?_, ?_, rfl⟩
  · rw [State.obj_addObj_other _ _ _ (by decide), State.obj_setObj_other _ _ (by decide), State.obj_setObj_same]
  · rw [State.obj_addObj_same, State.obj_setObj_other _ _ (by decide), State.obj_setObj_other _ _ (by decide)]

/-! ### The obligation -/

/-- CRUISE_SURVEY starts, waits or changes nothing (R369). -/
theorem exec_cruiseSurvey (s : State) :
    (¬ s.surveyRuns → exec .cruiseSurvey s = .next s)
    ∧ (s.surveyRuns → s.surveyWaits → exec .cruiseSurvey s = .next s.surveyDue)
    ∧ (s.surveyRuns → ¬ s.surveyWaits → s.power.survey ≠ [] → exec .cruiseSurvey s = .next s)
    ∧ (s.surveyRuns → ¬ s.surveyWaits → s.power.survey = [] → ∃ t, exec .cruiseSurvey s = .next t
      ∧ t.power.survey = List.range 8 ∧ t.power.due = false ∧ t.objs = s.objs) := by
  refine ⟨fun h => congrArg Host.Outcome.next (cruiseSurvey_stopped h), fun h hw => congrArg Host.Outcome.next ?_,
    fun h hw hs => congrArg Host.Outcome.next ?_, fun h hw hs => ?_⟩
  · rw [cruiseSurvey_runs h, if_pos hw]
  · rw [cruiseSurvey_runs h, if_neg hw, if_pos hs]
  · obtain ⟨x, hx⟩ := s.startSurvey_frame
    have he : cruiseSurvey s = s.startSurvey := by rw [cruiseSurvey_runs h, if_neg hw, if_neg (not_not.mpr hs)]
    refine ⟨_, congrArg Host.Outcome.next (he.trans hx), ?_, rfl, rfl⟩
    rw [hs]
    rfl

/-- CRUISE_CMD 1 queues every cluster behind the survey that runs, or leaves a survey due (R369, R372). -/
theorem exec_cruiseCmd_served {s : State} {path : Nat} (hp : path < 18) (ha : s.access path 0x6480 = 0)
    (hb : s.obj (okey 0x6480 1) ≠ 1) : ∃ t, exec (.cruiseCmd path) s = .next t ∧ t.obj (okey 0x6480 1) = 1
    ∧ (s.obj (okey 0x1480 1) = 4 → s.obj (okey 0x6000 1) ≤ 1 → s.power.target = none →
      t.power.survey = s.power.survey ++ List.range 8 ∧ t.power.due = false)
    ∧ (s.obj (okey 0x1480 1) ≠ 4 ∨ 2 ≤ s.obj (okey 0x6000 1) ∨ s.power.target ≠ none →
      t.power.survey = s.power.survey ∧ t.power.due = true) := by
  rw [exec_cruiseCmd hp ha hb]
  by_cases h : s.surveyWaits ∨ s.obj (okey 0x1480 1) ≠ 4
  · rw [if_pos h]
    refine ⟨_, rfl, State.obj_setObj_same s _ 1, fun hr hs ht => absurd h ?_, fun _ => ⟨rfl, rfl⟩⟩
    exact not_or.mpr ⟨not_or.mpr ⟨by omega, not_not.mpr ht⟩, not_not.mpr hr⟩
  · rw [if_neg h]
    obtain ⟨x, hx⟩ := (s.setObj (okey 0x6480 1) 1).startSurvey_frame
    rw [hx]
    refine ⟨_, rfl, State.obj_setObj_same s _ 1, fun _ _ _ => ⟨rfl, rfl⟩, fun hw => absurd ?_ h⟩
    exact or_comm.mp hw

/-- The survey of the next cluster notes its objects, and with the last cluster the survey of all ends (R369). -/
theorem exec_clusterSurveyComplete {s : State} {c : Nat} (hc : c < 8) {rest : List Nat} {x : Int} {xs : List Int}
    (hd : s.power.survey = c :: rest) (hr : s.dieRuns = true) (ho : Tab.get false s.power.off (128 + c) = false) :
    exec (.clusterSurveyComplete c (x :: xs)) s = .next (s.surveyStep c rest (xs.foldl min x)) :=
  (need_ok (decide_eq_true hc) _).trans (congrArg _ (clusterSurveyComplete_runs xs hd hr ho))

/-- Settles O58: each command's guard decides whether it acts, and each effect is a few objects of its own: the survey is
followed through the objects it notes, the warning and the turn to the next cluster. -/
theorem cruiseScrubAndHoursAreKept : Obligations.CruiseScrubAndHoursAreKept := by
  unfold Obligations.CruiseScrubAndHoursAreKept
  refine ⟨exec_cruiseSurvey, fun s path => exec_cruiseCmd_served, fun s c slacks hc => ⟨fun h => ?_, ?_⟩,
    fun s q hq => ⟨fun h => ?_, fun h => ?_, fun h => ?_, fun h => ?_⟩, fun s => ⟨fun h => ?_, exec_poweredHours⟩,
    fun s energy rows => ⟨fun h => ?_, exec_macEnergyWindow⟩⟩
  · exact (need_ok (decide_eq_true hc) _).trans (congrArg _ (clusterSurveyComplete_idle h))
  · rintro rest x xs hd rfl hr ho
    refine ⟨_, exec_clusterSurveyComplete hc hd hr ho, State.surveyStep_survey _ _, ⟨?_, ?_, ?_, fun h => ?_, fun h => ?_⟩,
      ?_⟩
    · exact (State.obj_surveyStep hc _ _ (by decide)).trans (s.obj_surveyNoted _ 2)
    · exact (State.obj_surveyStep hc _ _ (by decide)).trans (s.obj_surveyNoted _ 4)
    · exact (State.obj_surveyStep hc _ _ (by decide)).trans (s.obj_surveyNoted _ 7)
    · exact (State.obj_surveyStep hc _ _ (by decide)).trans (if_pos ⟨rfl, h⟩)
    · refine (State.obj_surveyStep hc _ _ (by decide)).trans ((if_neg fun hs => ?_).trans (s.obj_surveyNoted _ 8))
      exact absurd hs.2 (Nat.not_lt.mpr h)
    · rintro rfl
      exact ⟨State.obj_surveyStep_count hc _, State.obj_surveyStep_ends hc _⟩
  · exact (need_ok (decide_eq_true hq) _).trans (congrArg _ (scrubExcursion_idle h))
  · exact (need_ok (decide_eq_true hq) _).trans (congrArg _ (scrubExcursion_begins h))
  · exact (need_ok (decide_eq_true hq) _).trans (congrArg _ (if_pos h))
  · exact (need_ok (decide_eq_true hq) _).trans (congrArg _ (if_neg (not_not.mpr h)))
  · exact congrArg Host.Outcome.next (poweredHours_stopped h)
  · exact congrArg Host.Outcome.next (macEnergyWindow_idle h)

end Sys2Proof.Machine

/-!
PROOF. The Scaler: findings and the choice of a gradient format, and changes of the slots of a context.
-/

namespace Sys2Proof.Machine

/-! ### Status records (R293, R294) -/

theorem scalerRecord_idle {s : State} (h : s.scalerQ = [] ∨ s.dieRuns = false) : scalerRecord s = s := by
  unfold scalerRecord
  split
  · rfl
  · next r t hq => exact if_pos (by rw [h.resolve_left (by rw [hq]; exact List.cons_ne_nil r t)]; rfl)

theorem scalerRecord_takes {s : State} {r : ScalerIn} {rest : List ScalerIn} (hq : s.scalerQ = r :: rest)
    (hr : s.dieRuns = true) : scalerRecord s = Sys2Proof.Claims.makeFindings { s with scalerQ := rest } r := by
  unfold scalerRecord
  rw [hq]
  exact if_neg (by rw [hr]; decide)

/-! ### The actions of a finding (R294, R295) -/

/-- The fault of a finding (R294). -/
def findingCode (n : Nat) : Nat := match n with | 0 => 0x3002 | 1 => 0x3003 | 2 => 0x3004 | _ => 0x4007

/-- A finding that has only been counted (R294). -/
def State.findingCounted (s : State) (ctx n : Nat) : State :=
  (s.addObj (okey (intIdx ctx) (6 + n)) 64 1).updScalerCtx ctx (fun c =>
    { c with special := c.special + b2n (n = 0), overflow := c.overflow + b2n (n = 1) })

/-- A finding that has been counted and, unless it is ignored, reported (R294). -/
def State.findingTold (s : State) (ctx n kind source detail : Nat) : State :=
  if s.findingAction ctx n = 0 then s.findingCounted ctx n
  else (s.findingCounted ctx n).report (findingCode n) kind source (some ctx) detail
    (s.findingAction ctx n = 2 && s.loaded ctx && imgServing (s.ctx ctx).image) false

theorem State.finding_eq (s : State) (ctx n kind source detail : Nat) : s.finding ctx n kind source detail
    = if s.findingAction ctx n = 2 then (s.findingTold ctx n kind source detail).setCommitHold ctx (31 - n) (findingCode n)
      else s.findingTold ctx n kind source detail := rfl

/-- A set of COMMIT_HOLD keeps the other objects of its context (R295). -/
theorem State.obj_setCommitHold_beside (s : State) (ctx reason code : Nat) {j : Nat} (hj : j < 256) (h1 : j ≠ 1)
    (h2 : j ≠ 2) (h3 : j ≠ 3) :
    (s.setCommitHold ctx reason code).obj (okey (intIdx ctx) j) = s.obj (okey (intIdx ctx) j) := by
  unfold State.setCommitHold
  dsimp only
  split <;>
    simp only [State.obj_hold, State.obj_updScalerCtx,
      State.obj_setObj_other _ _ (okey_ne hj (by decide : 3 < 256) (.inr h3)),
      State.obj_setFlag_other s (okey_ne hj (by decide : 1 < 256) (.inr h1)) (okey_ne hj (by decide : 2 < 256) (.inr h2))]

section
variable (s : State) (ctx n kind source detail : Nat)

theorem State.findingTold_frame : ∃ b c f q p, s.findingTold ctx n kind source detail
    = { s with objs := b, scalerC := c, faults := f, out := q, msixPend := p } := by
  unfold State.findingTold
  split
  · exact ⟨_, _, _, _, _, rfl⟩
  · obtain ⟨b, f, q, p, h⟩ := (s.findingCounted ctx n).report_frame (findingCode n) kind source (some ctx) detail
      (s.findingAction ctx n = 2 && s.loaded ctx && imgServing (s.ctx ctx).image) false
    exact ⟨b, _, f, q, p, h⟩

/-- A finding touches neither the steps under way nor the windows (R294). -/
theorem State.finding_frame : ∃ b c f x g q p, s.finding ctx n kind source detail
    = { s with objs := b, scalerC := c, faults := f, ctxs := x, snag := g, out := q, msixPend := p } := by
  obtain ⟨b, c, f, q, p, ht⟩ := s.findingTold_frame ctx n kind source detail
  rw [State.finding_eq, ht]
  split
  · obtain ⟨b', c', x, g, q', p', h⟩ := State.setCommitHold_frame
      { s with objs := b, scalerC := c, faults := f, out := q, msixPend := p } ctx (31 - n) (findingCode n)
    exact ⟨_, _, _, _, _, _, _, h⟩
  · exact ⟨_, _, _, _, _, _, _, rfl⟩

variable {ctx n} (hc : ctx < 64)
include hc

/-- A report leaves the integrity objects, so that a told finding shows its count alone there (R294, R310). -/
theorem State.obj_findingTold {j : Nat} (hj : j < 256) : (s.findingTold ctx n kind source detail).obj (okey (intIdx ctx) j)
    = if j = 6 + n then (s.obj (okey (intIdx ctx) (6 + n)) + 1) % 2 ^ 64 else s.obj (okey (intIdx ctx) j) := by
  have counted : (s.findingCounted ctx n).obj (okey (intIdx ctx) j)
      = if j = 6 + n then (s.obj (okey (intIdx ctx) (6 + n)) + 1) % 2 ^ 64 else s.obj (okey (intIdx ctx) j) :=
    (State.obj_setObj s _ _ _).trans (if_congr (okey_same_index _ _ _) rfl rfl)
  unfold State.findingTold
  split
  · exact counted
  · exact (State.obj_reportV_other _ _ _ _ _ _ _ _ _ hj (by unfold intIdx; omega) (by unfold intIdx; omega)).trans counted

/-- A finding is counted in its counter, whatever its action (R294). -/
theorem State.obj_finding_count (hn : n < 4) : (s.finding ctx n kind source detail).obj (okey (intIdx ctx) (6 + n))
    = (s.obj (okey (intIdx ctx) (6 + n)) + 1) % 2 ^ 64 := by
  have told := (s.obj_findingTold kind source detail hc (n := n) (by omega : 6 + n < 256)).trans (if_pos rfl)
  rw [State.finding_eq]
  split
  · rw [State.obj_setCommitHold_beside _ _ _ _ (by omega) (by omega) (by omega) (by omega), told]
  · exact told

/-- Under HOLD a finding sets COMMIT_HOLD with its reason bit (R294, R295). -/
theorem State.obj_finding_held (h : s.findingAction ctx n = 2) :
    let t := s.finding ctx n kind source detail
    let i := intIdx ctx
    t.obj (okey i 1) = 1 ∧ t.obj (okey i 2) = (s.obj (okey i 2) + 1) % 2 ^ 16
      ∧ t.obj (okey i 3) = s.obj (okey i 3) ||| 2 ^ (31 - n) := by
  intro t i
  have ht : t = (s.findingTold ctx n kind source detail).setCommitHold ctx (31 - n) (findingCode n) :=
    (s.finding_eq ctx n kind source detail).trans (if_pos h)
  obtain ⟨h1, h2, h3⟩ := (s.findingTold ctx n kind source detail).obj_setCommitHold ctx (31 - n) (findingCode n)
  rw [s.obj_findingTold kind source detail hc (by decide), if_neg (by omega)] at h2 h3
  rw [ht]
  exact ⟨h1, h2, h3⟩

/-- Without HOLD a finding leaves the contexts and COMMIT_HOLD (R294). -/
theorem State.finding_not_held (h : s.findingAction ctx n ≠ 2) :
    (s.finding ctx n kind source detail).ctxs = s.ctxs
      ∧ (s.finding ctx n kind source detail).obj (okey (intIdx ctx) 1) = s.obj (okey (intIdx ctx) 1) := by
  rw [State.finding_eq, if_neg h, s.obj_findingTold kind source detail hc (by decide), if_neg (by omega)]
  obtain ⟨b, c, f, q, p, ht⟩ := s.findingTold_frame ctx n kind source detail
  rw [ht]
  exact ⟨rfl, rfl⟩

end

/-- Under IGNORE a finding is counted and nothing else changes (R294). -/
theorem State.finding_ignored {s : State} {ctx n : Nat} (kind source detail : Nat) (h : s.findingAction ctx n = 0) :
    s.finding ctx n kind source detail = s.findingCounted ctx n := by
  rw [State.finding_eq, if_neg (by rw [h]; decide), State.findingTold, if_pos h]

/-! ### The choice of a format (R297) -/

/-- The counts of the bins below `lo`, bin 0 left out (R297). -/
def binsBelow (h : Nat → Nat) (lo : Nat) : Nat := ((List.range (lo - 1)).map (fun b => h (b + 1))).foldl (· + ·) 0

/-- A histogram without bin 0 and bin 255 (R297). -/
def finiteBins (h : Nat → Nat) (b : Nat) : Nat := if 1 ≤ b && b ≤ 254 then h b else 0

theorem binsBelow_succ (h : Nat → Nat) {lo : Nat} (hlo : 1 ≤ lo) : binsBelow h (lo + 1) = binsBelow h lo + h lo := by
  obtain ⟨m, rfl⟩ := Nat.exists_eq_add_of_le' hlo
  simp only [binsBelow, Nat.add_sub_cancel, ← List.sum_eq_foldl]
  exact List.sum_range_succ _ m

/-- The loop of R297 discards at most 1/1,024 of the counts. -/
theorem binsBelow_lowBin (h : Nat → Nat) (n ehi k : Nat) {acc elo : Nat} (helo : 1 ≤ elo) (hacc : acc = binsBelow h elo)
    (hle : acc * 1024 ≤ n) : binsBelow h (lowBin h n ehi k acc elo) * 1024 ≤ n := by
  induction k generalizing acc elo with
  | zero => rwa [lowBin, ← hacc]
  | succ k ih =>
    rw [lowBin]
    split
    · rwa [← hacc]
    · split
      · rwa [← hacc]
      · next hn => exact ih (by omega) (by rw [binsBelow_succ h helo, hacc]) (Nat.le_of_not_lt hn)

/-- A filled bin lies at the top bin or below, and the top bin is filled. -/
theorem topBin_spec {h : Nat → Nat} {b : Nat} (hb : b < 256) (hh : h b ≠ 0) : b ≤ topBin h ∧ h (topBin h) ≠ 0 := by
  have hmem : b ∈ (List.range 256).filter (fun b => h b ≠ 0) :=
    List.mem_filter.mpr ⟨List.mem_range.mpr hb, decide_eq_true hh⟩
  have htop : topBin h = ((List.range 256).filter (fun b => h b ≠ 0)).max?.getD 0 := by
    rw [topBin, List.foldl_max, Nat.zero_max]
  rw [htop]
  refine ⟨List.le_max?_getD_of_mem hmem, ?_⟩
  cases hm : ((List.range 256).filter (fun b => h b ≠ 0)).max? with
  | none => rw [List.max?_eq_none_iff.mp hm] at hmem; exact absurd hmem List.not_mem_nil
  | some m => exact of_decide_eq_true (List.mem_filter.mp (List.max?_mem hm)).2

/-- The top of a histogram that has counts in bins 1 to 254 is the highest filled one of them. -/
theorem topBin_finiteBins {h : Nat → Nat} (hn : binsBelow h 255 ≠ 0) : h (topBin (finiteBins h)) ≠ 0
    ∧ 1 ≤ topBin (finiteBins h) ∧ topBin (finiteBins h) ≤ 254
    ∧ ∀ b, topBin (finiteBins h) < b → b ≤ 254 → h b = 0 := by
  obtain ⟨b, hb, hne⟩ : ∃ b, b < 254 ∧ h (b + 1) ≠ 0 := by
    by_contra hall
    refine hn ?_
    rw [binsBelow, ← List.sum_eq_foldl]
    refine List.sum_eq_zero fun x hx => ?_
    obtain ⟨b, hb, rfl⟩ := List.mem_map.mp hx
    by_contra hne
    exact hall ⟨b, List.mem_range.mp hb, hne⟩
  have fin_eq : ∀ {b}, 1 ≤ b → b ≤ 254 → finiteBins h b = h b := fun h1 h2 => if_pos (by simp [h1, h2])
  obtain ⟨-, htop⟩ := topBin_spec (h := finiteBins h) (b := b + 1) (by omega) (by rwa [fin_eq (by omega) (by omega)])
  obtain ⟨⟨h1, h2⟩, hh⟩ : (1 ≤ topBin (finiteBins h) ∧ topBin (finiteBins h) ≤ 254) ∧ h (topBin (finiteBins h)) ≠ 0 := by
    simpa only [finiteBins, Bool.and_eq_true, decide_eq_true_eq, ne_eq, ite_eq_right_iff, Classical.not_imp] using htop
  refine ⟨hh, h1, h2, fun c hc hc' => ?_⟩
  by_contra hne
  have := (topBin_spec (h := finiteBins h) (b := c) (by omega) (by rwa [fin_eq (by omega) hc'])).1
  omega

/-- The four ways the choice of R297 can end: bf16, or a format that the span of the exponents admits. -/
theorem scalerChoice_cases (force : Bool) (window : Nat) (w : List (Tab Nat × Bool)) :
    let h := windowBin w
    let hi := topBin (finiteBins h)
    let lo := lowBin h (binsBelow h 255) hi 256 0 1
    scalerChoice force window w = (1, 0)
    ∨ (force = false ∧ window ≤ w.length ∧ h 255 = 0 ∧ (∀ e ∈ w, e.2 = false)) ∧ binsBelow h 255 ≠ 0
      ∧ (hi - lo ≤ 27 ∧ scalerChoice force window w = (3, min 254 (hi - 13)) ∨ scalerChoice force window w = (4, 0)) := by
  intro h hi lo
  unfold scalerChoice
  dsimp only
  split
  · exact .inl rfl
  · next hg =>
    have hg : force = false ∧ window ≤ w.length ∧ h 255 = 0 ∧ ∀ e ∈ w, e.2 = false := by
      simpa [not_or, and_assoc] using hg
    split
    · exact .inl rfl
    · next hn =>
      split
      · next hs => exact .inr ⟨hg, hn, .inl ⟨hs, rfl⟩⟩
      · split
        · exact .inr ⟨hg, hn, .inr rfl⟩
        · exact .inl rfl

/-- What a choice of R297 says about the window. -/
theorem scalerChoice_spec (force : Bool) (window : Nat) (w : List (Tab Nat × Bool)) :
    let c := scalerChoice force window w
    let h := windowBin w
    (c = (1, 0) ∨ c = (4, 0) ∨ (c.1 = 3 ∧ c.2 ≤ 254))
    ∧ (c.1 ≠ 1 → force = false ∧ window ≤ w.length ∧ h 255 = 0 ∧ (∀ e ∈ w, e.2 = false)
        ∧ ∃ b, 1 ≤ b ∧ b ≤ 254 ∧ h b ≠ 0)
    ∧ (c.1 = 3 → ∃ lo hi, h hi ≠ 0 ∧ 1 ≤ hi ∧ hi ≤ 254 ∧ (∀ b, hi < b → b ≤ 254 → h b = 0) ∧ hi - lo ≤ 27
        ∧ c.2 = min 254 (hi - 13) ∧ binsBelow h lo * 1024 ≤ binsBelow h 255) := by
  intro c h
  rcases scalerChoice_cases force window w with hc | ⟨⟨hf, hw, h255, hs⟩, hn, hc⟩
  · exact ⟨.inl hc, fun hne => absurd (congrArg Prod.fst hc) hne,
      fun h3 => absurd ((congrArg Prod.fst hc).symm.trans h3) (by decide)⟩
  · obtain ⟨htop, h1, h2, habove⟩ := topBin_finiteBins hn
    refine ⟨?_, fun _ => ⟨hf, hw, h255, hs, _, h1, h2, htop⟩, fun h3 => ?_⟩
    · rcases hc with ⟨-, hc⟩ | hc
      · exact .inr (.inr ⟨congrArg Prod.fst hc, (congrArg Prod.snd hc).trans_le (Nat.min_le_left _ _)⟩)
      · exact .inr (.inl hc)
    · rcases hc with ⟨hspan, hc⟩ | hc
      · exact ⟨_, _, htop, h1, h2, habove, hspan, congrArg Prod.snd hc,
          binsBelow_lowBin h _ _ _ (Nat.le_refl 1) rfl (Nat.zero_le _)⟩
      · exact absurd ((congrArg Prod.fst hc).symm.trans h3) (by decide)

/-! ### The slots of a context (R296) -/

theorem scalerKey_ctx (ctx : Nat) {l : Nat} (hl : l < 2048) : scalerKey ctx l / 2048 = ctx := by unfold scalerKey; omega

theorem scalerKey_inj (ctx : Nat) {l m : Nat} : scalerKey ctx l = scalerKey ctx m ↔ l = m := by unfold scalerKey; omega

/-- The slots of a context have numbers below 2,048. -/
theorem State.scalerSlots_lt {s : State} {ctx : Nat} {e : Nat × ScalerSlot} (he : e ∈ s.scalerSlots ctx) : e.1 < 2048 := by
  obtain ⟨x, -, rfl⟩ := List.mem_map.mp he
  exact Nat.mod_lt _ (by decide)

/-- A slot of a context that is not listed has no Scaler state. -/
theorem State.scaler_of_not_slot {s : State} {ctx l : Nat} (hl : l < 2048) (h : ∀ e ∈ s.scalerSlots ctx, e.1 ≠ l) :
    Tab.get {} s.scaler (scalerKey ctx l) = {} := by
  by_contra hne
  refine h _ (List.mem_map_of_mem (List.mem_filter.mpr ⟨Tab.get_mem hne, decide_eq_true (scalerKey_ctx ctx hl)⟩)) ?_
  unfold scalerKey
  omega

section
variable (ctx : Nat) (f : Nat × ScalerSlot → ScalerSlot → ScalerSlot)

/-- Changes a context's slots one after the other. -/
def State.updSlots (s : State) (es : List (Nat × ScalerSlot)) : State :=
  es.foldl (fun t e => t.updScaler ctx e.1 (f e)) s

theorem State.updSlots_frame (es : List (Nat × ScalerSlot)) (s : State) :
    ∃ x, s.updSlots ctx f es = { s with scaler := x } := by
  induction es generalizing s with
  | nil => exact ⟨_, rfl⟩
  | cons e es ih =>
    obtain ⟨x, hx⟩ := ih (s.updScaler ctx e.1 (f e))
    exact ⟨x, hx⟩

theorem State.scaler_updScaler_other (s : State) (l : Nat) (g : ScalerSlot → ScalerSlot) {k : Nat}
    (hk : k ≠ scalerKey ctx l) : Tab.get ({} : ScalerSlot) (s.updScaler ctx l g).scaler k = Tab.get {} s.scaler k :=
  Tab.get_update_other _ _ _ hk

/-- A change of slots leaves every slot that is not among them. -/
theorem State.scaler_updSlots_other {es : List (Nat × ScalerSlot)} {k : Nat} (h : ∀ e ∈ es, k ≠ scalerKey ctx e.1)
    (s : State) : Tab.get ({} : ScalerSlot) (s.updSlots ctx f es).scaler k = Tab.get {} s.scaler k := by
  induction es generalizing s with
  | nil => rfl
  | cons e es ih =>
    exact (ih (fun x hx => h x (List.mem_cons_of_mem e hx)) _).trans
      (State.scaler_updScaler_other ctx s _ _ (h e List.mem_cons_self))

/-- Where the slots differ, each is changed once. -/
theorem State.scaler_updSlots {es : List (Nat × ScalerSlot)} (hes : (es.map Prod.fst).Pairwise (· < ·))
    {e : Nat × ScalerSlot} (he : e ∈ es) (s : State) :
    Tab.get ({} : ScalerSlot) (s.updSlots ctx f es).scaler (scalerKey ctx e.1)
      = f e (Tab.get {} s.scaler (scalerKey ctx e.1)) := by
  induction es generalizing s with
  | nil => exact absurd he List.not_mem_nil
  | cons a es ih =>
    obtain ⟨ha, hes⟩ := List.pairwise_cons.mp hes
    have hlt : ∀ x ∈ es, a.1 < x.1 := fun x hx => ha _ (List.mem_map_of_mem hx)
    rcases List.mem_cons.mp he with rfl | he
    · exact (State.scaler_updSlots_other ctx f (fun x hx => mt (scalerKey_inj ctx).mp (hlt x hx).ne) _).trans
        (Tab.get_update_same _ _ _ _)
    · exact (ih hes he _).trans (congrArg (f e) (State.scaler_updScaler_other ctx s _ _
        (mt (scalerKey_inj ctx).mp (hlt e he).ne')))

/-- A change that depends on the slot's number and is the same when done again is made on every slot that is listed. -/
theorem State.scaler_updSlots_idem {g : Nat → ScalerSlot → ScalerSlot} (hg : ∀ l z, g l (g l z) = g l z)
    {es : List (Nat × ScalerSlot)} {l : Nat} (hl : ∃ e ∈ es, e.1 = l) (s : State) :
    Tab.get ({} : ScalerSlot) (s.updSlots ctx (fun e => g e.1) es).scaler (scalerKey ctx l)
      = g l (Tab.get {} s.scaler (scalerKey ctx l)) := by
  induction es generalizing s with
  | nil => obtain ⟨e, he, -⟩ := hl; exact absurd he List.not_mem_nil
  | cons a es ih =>
    have first : Tab.get ({} : ScalerSlot) (s.updScaler ctx a.1 (g a.1)).scaler (scalerKey ctx l)
        = if l = a.1 then g l (Tab.get {} s.scaler (scalerKey ctx l)) else Tab.get {} s.scaler (scalerKey ctx l) := by
      split
      · next h => rw [h]; exact Tab.get_update_same _ _ _ _
      · next h => exact State.scaler_updScaler_other ctx s _ _ (mt (scalerKey_inj ctx).mp h)
    by_cases hes : ∃ e ∈ es, e.1 = l
    · refine (ih hes _).trans ?_
      rw [first]
      split
      · exact hg _ _
      · rfl
    · have hne : ∀ x ∈ es, scalerKey ctx l ≠ scalerKey ctx x.1 :=
        fun x hx => mt (scalerKey_inj ctx).mp fun h => hes ⟨x, hx, h.symm⟩
      refine (State.scaler_updSlots_other ctx _ hne _).trans ?_
      obtain ⟨e, he, rfl⟩ := hl
      rw [first, if_pos ((List.mem_cons.mp he).elim (congrArg Prod.fst) fun he => absurd ⟨e, he, rfl⟩ hes)]

end

end Sys2Proof.Machine

/-!
PROOF. SCALER_WINDOW and SCALER_XFER, and what the Scaler does as a whole.
-/

namespace Sys2Proof.Machine

/-! ### SCALER_WINDOW (R296, R310; log entry 103) -/

/-- What a write of SCALER_WINDOW makes of a slot (R310; log entry 103). -/
def State.windowEmptied (s : State) (ctx l : Nat) (z : ScalerSlot) : ScalerSlot :=
  { z with window := [], choice := if s.choiceTaken ctx l then z.choice else (1, 0) }

theorem State.windowEmptied_idem (s : State) (ctx l : Nat) (z : ScalerSlot) :
    s.windowEmptied ctx l (s.windowEmptied ctx l z) = s.windowEmptied ctx l z := by
  unfold State.windowEmptied
  split <;> rfl

theorem State.windowEmptied_default (s : State) (ctx l : Nat) : s.windowEmptied ctx l {} = {} := by
  unfold State.windowEmptied
  split <;> rfl

section
variable {s : State} {path ctx : Nat} (hp : path < 18) (hc : ctx < 64) (ha : s.access path (intIdx ctx) = 0)
include hp hc ha

/-- A SCALER_WINDOW out of range is refused (R310, R334). -/
theorem exec_scalerWindowWrite_refused {v : Nat} (hv : v < 2 ^ 32) (h : v = 0 ∨ 32 < v) :
    exec (.scalerWindowWrite path ctx v) s = .next (s.dictRefuse path (okey (intIdx ctx) 0x0A) 3) := by
  have hr : (if (1 ≤ v && v ≤ 32) = true then none else some 3) = some 3 :=
    if_neg (by rw [Bool.and_eq_true, decide_eq_true_eq, decide_eq_true_eq]; omega)
  refine (need_ok (Bool.and_eq_true_iff.mpr ⟨atOk_of_lt hp hc, decide_eq_true hv⟩) _).trans (congrArg _ ?_)
  rw [scalerWindowWrite, hr]
  exact State.onWrite_refused _ (by rwa [okey_div _ (by decide)])

/-- A SCALER_WINDOW in range is taken and empties the windows of its context (R310; log entry 103). -/
theorem exec_scalerWindowWrite {v : Nat} (h1 : 1 ≤ v) (h2 : v ≤ 32) :
    exec (.scalerWindowWrite path ctx v) s
      = .next ((s.setObj (okey (intIdx ctx) 0x0A) v).updSlots ctx (fun e => s.windowEmptied ctx e.1)
          (s.scalerSlots ctx)) := by
  have hr : (if (1 ≤ v && v ≤ 32) = true then none else some 3) = none := if_pos (by simp [h1, h2])
  refine (need_ok (Bool.and_eq_true_iff.mpr ⟨atOk_of_lt hp hc, decide_eq_true (by omega)⟩) _).trans (congrArg _ ?_)
  rw [scalerWindowWrite, hr]
  exact State.onWrite_at (by decide) _ ha

end

/-- The slots of a context are emptied, and no other slot is touched (R310). -/
theorem State.scaler_windowEmptied (s : State) (ctx v : Nat) {l : Nat} (hl : l < 2048) :
    Tab.get {} ((s.setObj (okey (intIdx ctx) 0x0A) v).updSlots ctx (fun e => s.windowEmptied ctx e.1)
      (s.scalerSlots ctx)).scaler (scalerKey ctx l) = s.windowEmptied ctx l (Tab.get {} s.scaler (scalerKey ctx l)) := by
  by_cases h : ∃ e ∈ s.scalerSlots ctx, e.1 = l
  · exact State.scaler_updSlots_idem ctx (s.windowEmptied_idem ctx) h _
  · have hno : ∀ e ∈ s.scalerSlots ctx, e.1 ≠ l := fun e he hel => h ⟨e, he, hel⟩
    rw [State.scaler_updSlots_other ctx _ fun e he => mt (scalerKey_inj ctx).mp (hno e he).symm, State.setObj_scaler,
      State.scaler_of_not_slot hl hno, State.windowEmptied_default]

/-- A change of a context's slots leaves the slots of every other context. -/
theorem State.scaler_updSlots_elsewhere {ctx : Nat} (f : Nat × ScalerSlot → ScalerSlot → ScalerSlot)
    {es : List (Nat × ScalerSlot)} (hes : ∀ e ∈ es, e.1 < 2048) (s : State) {k : Nat} (hk : k / 2048 ≠ ctx) :
    Tab.get ({} : ScalerSlot) (s.updSlots ctx f es).scaler k = Tab.get {} s.scaler k :=
  State.scaler_updSlots_other ctx f (fun e he h => hk (by rw [h]; exact scalerKey_ctx ctx (hes e he))) s

/-! ### SCALER_XFER 1 (R298, R310) -/

section
variable {s : State} {path ctx : Nat} (hp : path < 18) (hc : ctx < 64) (ha : s.access path (intIdx ctx) = 0)
  (hb : s.obj (okey (intIdx ctx) 0x0F) ≠ 1)
include hp hc ha hb

theorem exec_scalerExport : exec (.scalerExport path ctx) s
    = .next (if s.xferOk ctx (s.pobj path (okey (intIdx ctx) 0x0E)) (s.scalerBytes ctx) = true
        then (s.tierWriteBytes (s.pobj path (okey (intIdx ctx) 0x0E)) (s.scalerImage ctx)).setObj (okey (intIdx ctx) 0x0F) 2
        else s.setObj (okey (intIdx ctx) 0x0F) 3) := by
  refine (need_ok (atOk_of_lt hp hc) _).trans (congrArg _ ?_)
  rw [scalerExport, State.onCmd_at (by decide) _ ha hb]
  dsimp only
  cases s.xferOk ctx (s.pobj path (okey (intIdx ctx) 0x0E)) (s.scalerBytes ctx) <;> rfl

end

/-! ### SCALER_XFER 2 (R298, R310; log entry 37) -/

/-- The architect's test of a rising list is the order of its members. -/
theorem rising_iff (l : List Nat) : rising l = true ↔ l.Pairwise (· < ·) := by
  rw [← List.isChain_iff_pairwise]
  induction l with
  | nil => exact iff_of_true rfl .nil
  | cons a l ih =>
    cases l with
    | nil => exact iff_of_true rfl (.singleton a)
    | cons b l => rw [rising, Bool.and_eq_true, decide_eq_true_eq, ih, List.isChain_cons_cons]

/-- A slot that an import finds has a number below 2,048 (R310). -/
theorem scalerSlotAt_lt {rd : Nat → Nat} {a win : Nat} {e : Nat × ScalerSlot} (h : scalerSlotAt rd a win = some e) :
    e.1 < 2048 := by
  unfold scalerSlotAt at h
  dsimp only at h
  split at h
  · cases h
    exact Nat.mod_lt _ (by decide)
  · cases h

/-- The slots found in bytes that begin with the header of SCALER_XFER 1 (log entry 37). -/
def importSlots (rd : Nat → Nat) (win : Nat) : List (Option (Nat × ScalerSlot)) :=
  (List.range (rd 8 + 256 * rd 9)).map (fun k => scalerSlotAt rd (64 + 1028 * win * k) win)

theorem importSlots_lt {rd : Nat → Nat} {win : Nat} {e : Nat × ScalerSlot} (he : e ∈ (importSlots rd win).filterMap id) :
    e.1 < 2048 := by
  obtain ⟨z, hz, rfl⟩ := List.mem_filterMap.mp he
  obtain ⟨k, -, hk⟩ := List.mem_map.mp hz
  exact scalerSlotAt_lt hk

/-- Whether SCALER_XFER 2 takes the bytes at an address (R223, R298, R310). -/
def State.importable (s : State) (ctx a : Nat) : Prop :=
  let rd := fun x => s.tierRead (a + x)
  let win := s.obj (okey (intIdx ctx) 0x0A)
  s.xferOk ctx a 64 = true ∧ leNat ((List.range 4).map rd) = scalerMark ∧ rd 10 = win ∧ rd 8 + 256 * rd 9 ≤ 2048
    ∧ s.xferOk ctx a (64 + 1028 * win * (rd 8 + 256 * rd 9)) = true ∧ (∀ z ∈ importSlots rd win, z ≠ none)
    ∧ (((importSlots rd win).filterMap id).map Prod.fst).Pairwise (· < ·)

/-- The state with a context's Scaler state taken from an address (R298). -/
def State.imported (s : State) (ctx a : Nat) : State :=
  let rd := fun x => s.tierRead (a + x)
  let step := leNat ((List.range 4).map (fun j => rd (4 + j)))
  (((({ s with scaler := s.scaler.filter (fun e => e.1 / 2048 ≠ ctx) } : State).updSlots ctx (fun e _ => e.2)
    ((importSlots rd (s.obj (okey (intIdx ctx) 0x0A))).filterMap id)).updScalerCtx ctx
      (fun c => { c with missing := c.missing && step ≠ s.committed ctx })).setObj (okey (intIdx ctx) 0x0F) 2)

/-- The two tests of SCALER_XFER 2: the place and the header's range, then the bytes (R298, R310; log entry 37). -/
theorem State.importable_iff (s : State) (ctx a : Nat) :
    let rd := fun x => s.tierRead (a + x)
    let win := s.obj (okey (intIdx ctx) 0x0A)
    let m := rd 8 + 256 * rd 9
    let zs := importSlots rd win
    s.importable ctx a ↔ ¬ (!s.xferOk ctx a 64) = true ∧ ¬ (leNat ((List.range 4).map rd) ≠ scalerMark || rd 10 ≠ win
      || 2048 < m || !s.xferOk ctx a (64 + 1028 * win * m) || zs.any (·.isNone)
      || !rising ((zs.filterMap id).map (fun e => e.1))) = true := by
  intro rd win m zs
  have hnone : zs.any (·.isNone) = true ↔ ¬ ∀ z ∈ zs, z ≠ none := by simp
  simp only [Bool.or_eq_true, Bool.not_eq_true', decide_eq_true_eq, Bool.not_eq_false, not_or, hnone, not_not, not_lt,
    ne_eq, rising_iff]
  simp only [and_assoc]
  rfl

/-- SCALER_XFER 2 takes the state at its address or is refused (R298, R310). -/
theorem scalerImport_eq {s : State} {path ctx : Nat} (ha : s.access path (intIdx ctx) = 0)
    (hb : s.obj (okey (intIdx ctx) 0x0F) ≠ 1) :
    let a := s.pobj path (okey (intIdx ctx) 0x0E)
    (¬ s.importable ctx a → scalerImport s path ctx = s.setObj (okey (intIdx ctx) 0x0F) 3)
    ∧ (s.importable ctx a → scalerImport s path ctx = s.imported ctx a) := by
  intro a
  rw [scalerImport, State.onCmd_at (by decide) _ ha hb]
  refine ⟨fun h => ?_, fun h => ?_⟩
  · by_cases h1 : (!s.xferOk ctx a 64) = true
    · exact if_pos h1
    · exact (if_neg h1).trans (if_pos (by_contra fun h2 => h ((s.importable_iff ctx a).mpr ⟨h1, h2⟩)))
  · obtain ⟨h1, h2⟩ := (s.importable_iff ctx a).mp h
    exact (if_neg h1).trans (if_neg h2)

section
variable (s : State) (ctx a : Nat)

/-- An import changes the context's Scaler state and its command's object alone (R298). -/
theorem State.imported_frame : s.imported ctx a
    = { s with objs := (s.imported ctx a).objs, scaler := (s.imported ctx a).scaler,
               scalerC := (s.imported ctx a).scalerC } := by
  obtain ⟨x, hx⟩ := State.updSlots_frame ctx (fun e _ => e.2) ((importSlots (fun x => s.tierRead (a + x))
    (s.obj (okey (intIdx ctx) 0x0A))).filterMap id) { s with scaler := s.scaler.filter (fun e => e.1 / 2048 ≠ ctx) }
  rw [State.imported, hx]
  rfl

theorem State.obj_imported : (s.imported ctx a).obj (okey (intIdx ctx) 0x0F) = 2 := State.obj_setObj_same _ _ _

/-- Each slot that an import finds has the state found for it (R298). -/
theorem State.scaler_imported_found {l : Nat} {z : ScalerSlot} (h : s.importable ctx a)
    (hz : some (l, z) ∈ importSlots (fun x => s.tierRead (a + x)) (s.obj (okey (intIdx ctx) 0x0A))) :
    Tab.get {} (s.imported ctx a).scaler (scalerKey ctx l) = z := by
  obtain ⟨-, -, -, -, -, -, hrise⟩ := h
  exact State.scaler_updSlots ctx (fun e _ => e.2) hrise (List.mem_filterMap.mpr ⟨_, hz, rfl⟩) _

/-- A slot of the context that an import does not find is empty (R298). -/
theorem State.scaler_imported_missing {l : Nat} (hl : l < 2048)
    (hz : ∀ z, some (l, z) ∉ importSlots (fun x => s.tierRead (a + x)) (s.obj (okey (intIdx ctx) 0x0A))) :
    Tab.get {} (s.imported ctx a).scaler (scalerKey ctx l) = {} := by
  refine (State.scaler_updSlots_other ctx (fun e _ => e.2) (fun e he => mt (scalerKey_inj ctx).mp ?_) _).trans ?_
  · rintro rfl
    obtain ⟨z, hmem, rfl⟩ := List.mem_filterMap.mp he
    exact hz _ hmem
  · exact (Tab.get_filter_key _ s.scaler (fun k => k / 2048 ≠ ctx) _).trans (if_neg (by rw [scalerKey_ctx ctx hl]; simp))

/-- An import leaves the slots of every other context (R298). -/
theorem State.scaler_imported_elsewhere {k : Nat} (hk : k / 2048 ≠ ctx) :
    Tab.get {} (s.imported ctx a).scaler k = Tab.get {} s.scaler k :=
  (State.scaler_updSlots_elsewhere (fun e _ => e.2) (fun _ => importSlots_lt) _ hk).trans
    ((Tab.get_filter_key _ s.scaler (fun k => k / 2048 ≠ ctx) k).trans (if_pos (decide_eq_true hk)))

theorem State.scalerCtx_updScalerCtx (f : ScalerCtx → ScalerCtx) :
    (s.updScalerCtx ctx f).scalerCtx ctx = f (s.scalerCtx ctx) := Tab.get_update_same _ _ _ _

theorem State.scalerCtx_setObj (k v : Nat) : (s.setObj k v).scalerCtx = s.scalerCtx := rfl

theorem State.scalerCtx_updSlots (f : Nat × ScalerSlot → ScalerSlot → ScalerSlot) (es : List (Nat × ScalerSlot)) :
    (s.updSlots ctx f es).scalerCtx = s.scalerCtx := by
  obtain ⟨x, hx⟩ := State.updSlots_frame ctx f es s
  rw [hx]
  rfl

/-- An import of the committed step ends the wait for one (R298). -/
theorem State.missing_imported : ((s.imported ctx a).scalerCtx ctx).missing = ((s.scalerCtx ctx).missing
    && leNat ((List.range 4).map (fun j => s.tierRead (a + (4 + j)))) ≠ s.committed ctx) := by
  unfold State.imported
  dsimp only
  rw [State.scalerCtx_setObj, State.scalerCtx_updScalerCtx, State.scalerCtx_updSlots]
  rfl

end

/-! ### The obligation -/

/-- A finding counts, and acts as its action says (R294, R295). -/
theorem State.finding_spec (s : State) {ctx n : Nat} (kind source detail : Nat) (hc : ctx < 64) (hn : n < 4) :
    let t := s.finding ctx n kind source detail
    let i := intIdx ctx
    t.obj (okey i (6 + n)) = (s.obj (okey i (6 + n)) + 1) % 2 ^ 64
    ∧ t.flights = s.flights ∧ t.streams = s.streams ∧ t.cores = s.cores ∧ t.scaler = s.scaler
    ∧ (s.findingAction ctx n = 0 → t = { s with objs := t.objs, scalerC := t.scalerC })
    ∧ (s.findingAction ctx n = 2 → t.obj (okey i 1) = 1 ∧ t.obj (okey i 2) = (s.obj (okey i 2) + 1) % 2 ^ 16
      ∧ t.obj (okey i 3) = s.obj (okey i 3) ||| 2 ^ (31 - n))
    ∧ (s.findingAction ctx n ≠ 2 → t.ctxs = s.ctxs ∧ t.obj (okey i 1) = s.obj (okey i 1)) := by
  intro t i
  obtain ⟨hf, hs, hk, hz⟩ : t.flights = s.flights ∧ t.streams = s.streams ∧ t.cores = s.cores ∧ t.scaler = s.scaler := by
    obtain ⟨b, c, f, x, g, q, p, h⟩ := s.finding_frame ctx n kind source detail
    rw [show t = _ from h]
    exact ⟨rfl, rfl, rfl, rfl⟩
  refine ⟨s.obj_finding_count kind source detail hc hn, hf, hs, hk, hz, fun h => ?_,
    s.obj_finding_held kind source detail hc, s.finding_not_held kind source detail hc⟩
  rw [show t = _ from State.finding_ignored kind source detail h]
  rfl

/-- A SCALER_WINDOW in range is taken and its context's windows are emptied (R310; log entry 103). -/
theorem exec_scalerWindowWrite_spec {s : State} {path ctx v : Nat} (hp : path < 18) (hc : ctx < 64)
    (ha : s.access path (intIdx ctx) = 0) (h1 : 1 ≤ v) (h2 : v ≤ 32) : ∃ t, exec (.scalerWindowWrite path ctx v) s = .next t
      ∧ t = { s with objs := t.objs, scaler := t.scaler } ∧ t.obj (okey (intIdx ctx) 0x0A) = v
      ∧ (∀ l, l < 2048 → Tab.get {} t.scaler (scalerKey ctx l)
        = s.windowEmptied ctx l (Tab.get {} s.scaler (scalerKey ctx l)))
      ∧ (∀ k, k / 2048 ≠ ctx → Tab.get {} t.scaler k = Tab.get {} s.scaler k) := by
  refine ⟨_, exec_scalerWindowWrite hp hc ha h1 h2, ?_, ?_, fun l hl => s.scaler_windowEmptied ctx v hl,
    fun k hk => State.scaler_updSlots_elsewhere _ (fun _ => State.scalerSlots_lt) _ hk⟩ <;>
    obtain ⟨x, hx⟩ := State.updSlots_frame ctx (fun e => s.windowEmptied ctx e.1) (s.scalerSlots ctx)
      (s.setObj (okey (intIdx ctx) 0x0A) v) <;>
    rw [hx]
  · rfl
  · exact State.obj_setObj_same s _ v

/-- Settles O47: a record's findings are counted and act one by one; the choice is read off the loop's invariant and the
highest filled bin; the window's write and the import change each slot of the context once. -/
theorem theScalerFindsAndChooses : Obligations.TheScalerFindsAndChooses := by
  unfold Obligations.TheScalerFindsAndChooses
  refine ⟨fun s => ⟨fun h => congrArg Host.Outcome.next (scalerRecord_idle h),
      fun r rest hq hr => congrArg Host.Outcome.next (scalerRecord_takes hq hr)⟩,
    fun s ctx n kind source detail hc hn => s.finding_spec kind source detail hc hn, scalerChoice_spec,
    fun s path ctx v hp hc hv ha => ⟨exec_scalerWindowWrite_refused hp hc ha hv,
      exec_scalerWindowWrite_spec hp hc ha, fun hb hx => ?_, fun hb hx => ?_, fun hb => ⟨fun h => ?_, fun h => ?_⟩⟩⟩
  · exact (exec_scalerExport hp hc ha hb).trans (congrArg _ (if_neg (by rw [hx]; decide)))
  · exact (exec_scalerExport hp hc ha hb).trans (congrArg _ (if_pos hx))
  · exact (need_ok (atOk_of_lt hp hc) _).trans (congrArg _ ((scalerImport_eq ha hb).1 h))
  · exact ⟨_, (need_ok (atOk_of_lt hp hc) _).trans (congrArg _ ((scalerImport_eq ha hb).2 h)), s.imported_frame ctx _,
      s.obj_imported ctx _, fun l z => s.scaler_imported_found ctx _ h, fun l => s.scaler_imported_missing ctx _,
      fun k => s.scaler_imported_elsewhere ctx _, s.missing_imported ctx _⟩

end Sys2Proof.Machine

/-!
PROOF. Links: what a link reads after a change, what the sending and resending of frames change, FRAME_SEND and
RETRANSMIT_TIMEOUT.
-/

namespace Sys2Proof.Machine

/-! ### Links read back -/

@[simp] theorem State.link_updLink_same (s : State) (n : Nat) (f : Link → Link) :
    (s.updLink n f).link n = f (s.link n) := by
  simp [State.link, State.updLink, Tab.get_update_same]

@[simp] theorem State.obj_updLink (s : State) (n : Nat) (f : Link → Link) (k : Nat) :
    (s.updLink n f).obj k = s.obj k := rfl

@[simp] theorem State.link_setObj (s : State) (k v n : Nat) : (s.setObj k v).link n = s.link n := rfl

@[simp] theorem State.link_addObj (s : State) (k w v n : Nat) : (s.addObj k w v).link n = s.link n := rfl

/-- A link reads the same in states with the same links. -/
theorem State.link_congr {s t : State} (h : s.links = t.links) (n : Nat) : s.link n = t.link n :=
  congrArg (fun l => Tab.get ({} : Link) l n) h

theorem Link.not_live {l : Link} (h : l.st = .disabled ∨ l.st = .fault) : l.live = false := by
  rcases h with h | h <;> simp [Link.live, h]

theorem Link.st_of_live {l : Link} (h : l.live = true) : l.st = .up ∨ l.st = .degraded := by
  simpa [Link.live] using h

/-! ### A frame that starts (R180, R185, R186, R187) -/

/-- What a state that differs by the start of a frame reads (R180, R185 to R187, R214). -/
structure State.Started (s : State) (n : Nat) (f : Frame) (i : Option Nat) (t : State) : Prop where
  frame : t = { s with links := t.links, objs := t.objs, out := t.out, work := t.work }
  out : t.out = s.out ++ [.frame n (f.withLseq (s.link n).txSeq)]
  other : ∀ k, k ≠ n → t.link k = s.link k
  same : t.link n = { s.link n with
    txSeq := ((s.link n).txSeq + 1) % 4096
    used0 := if f.type = 1 then (s.link n).used0 + f.units else (s.link n).used0
    used1 := if f.type = 1 then (s.link n).used1 else (s.link n).used1 + f.units
    buf := (s.link n).buf
      ++ [{ lseq := (s.link n).txSeq, frame := f.withLseq (s.link n).txSeq, flight := i, sends := 1 }]
    tx := (s.link n).tx ++ wireOf (f.withLseq (s.link n).txSeq) }
  count : t.obj (okey (linkIndex n) 3) = (s.obj (okey (linkIndex n) 3) + 1) % 2 ^ 64
  objs : ∀ k, k ≠ okey (linkIndex n) 3 → t.obj k = s.obj k

theorem State.startFrame_started (s : State) (n : Nat) (f : Frame) (i : Option Nat) :
    s.Started n f i (s.startFrame n f i) where
  frame := rfl
  out := rfl
  other k h := by
    simp only [State.startFrame, State.link, State.addObj, State.setObj, State.updLink, Tab.get_update_other _ _ _ h]
  same := by simp only [State.startFrame, State.link, State.addObj, State.setObj, State.updLink, Tab.get_update_same]
  count := State.obj_addObj_same _ _ _ _
  objs _ h := State.obj_addObj_other _ _ _ h

/-- The retransmission buffer holds one more frame where it has room (R186). -/
theorem Link.buf_length_of_room {l : Link} {f : Frame} (h : l.room f = true) : l.buf.length < 2048 := by
  simp only [Link.room, Bool.and_eq_true, decide_eq_true_eq] at h
  exact h.1

/-! ### The turn of the contexts (R277) -/

theorem mem_turnOrder {last i : Nat} : i ∈ turnOrder last ↔ i < 64 := by
  simp only [turnOrder, List.mem_map, List.mem_range]
  refine ⟨?_, fun h => ⟨(i + 64 - last % 64) % 64, by omega, by omega⟩⟩
  rintro ⟨k, _, rfl⟩
  exact Nat.mod_lt _ (by decide)

theorem State.mem_of_frameTurn {s : State} {c : Nat} {es : List (CollStep × OutEntry)} {e : CollStep × OutEntry}
    (h : s.frameTurn c es = some e) : e ∈ es := by
  obtain ⟨i, _, hi⟩ := List.exists_of_findSome?_eq_some h
  exact List.mem_of_find?_eq_some hi

theorem State.frameTurn_eq_none (s : State) (c : Nat) (es : List (CollStep × OutEntry)) :
    s.frameTurn c es = none ↔ ∀ e ∈ es, 64 ≤ e.1.ctx := by
  simp only [State.frameTurn, List.findSome?_eq_none_iff, List.find?_eq_none, mem_turnOrder, decide_eq_true_eq]
  exact ⟨fun h e he => not_lt.1 fun hc => h e.1.ctx hc e he rfl, fun h i hi e he hc => by have := h e he; omega⟩

theorem State.frameTurn_nil (s : State) (c : Nat) : s.frameTurn c [] = none := (s.frameTurn_eq_none c []).2 (by simp)

/-! ### FRAME_SEND (R187, R225, R277) -/

/-- Whether a link takes a frame now: its credits and its retransmission buffer allow it (R186, R187). -/
def Link.ready (l : Link) (f : Frame) : Bool := l.fits f && l.room f

/-- The entries of open steps that a link takes now: the ENDs, which go first, or the DATA frames. -/
def State.readyEntries (s : State) (n : Nat) (last : Bool) : List (CollStep × OutEntry) :=
  (Claims.sendSteps s n).filter (fun e => (if last then e.2.last else !e.2.last) && (s.link n).ready e.2.frame)

theorem State.readyEntries_eq_nil {s : State} {n : Nat}
    (h : ∀ e ∈ Claims.sendSteps s n, (s.link n).ready e.2.frame = false) (last : Bool) :
    s.readyEntries n last = [] := by
  rw [State.readyEntries, List.filter_eq_nil_iff]
  intro e he
  simp [h e he]

/-- A Planer link's next DATA frame, where the link takes it (R225). -/
def State.sendWaiting (s : State) (n : Nat) : State :=
  match (s.link n).vc0 with
  | o :: t => if (s.link n).ready o.frame
      then (s.updLink n (fun x => { x with vc0 := t })).startFrame n o.frame o.flight else s
  | [] => s

theorem frameSend_stopped {s : State} {n : Nat} (h : (s.link n).live = false ∨ s.dieRuns = false) :
    frameSend s n = s := by
  rcases h with h | h <;> simp [frameSend, h]

section
variable {s : State} {n : Nat} (hl : (s.link n).live = true) (hd : s.dieRuns = true)
include hl hd

theorem frameSend_control {o : OutFrame} {rest : List OutFrame} (hv : (s.link n).vc1 = o :: rest) :
    frameSend s n = if (s.link n).ready o.frame
      then (s.updLink n (fun x => { x with vc1 := rest })).startFrame n o.frame o.flight else s := by
  simp [frameSend, Link.ready, hl, hd, hv]

/-- Without a control frame the turn decides, an END before DATA, and then a transfer's frame goes. -/
theorem frameSend_data (hv : (s.link n).vc1 = []) : frameSend s n =
    ((s.frameTurn (n / 2) (s.readyEntries n true)).or (s.frameTurn (n / 2) (s.readyEntries n false))).elim
      (s.sendWaiting n) (fun e => s.sendTurn n e.1 e.2) := by
  simp only [frameSend, hl, hd, hv, Bool.not_true, Bool.or_self, Bool.false_eq_true, if_false]
  change (match s.frameTurn (n / 2) (s.readyEntries n true) with
    | some e => s.sendTurn n e.1 e.2
    | none => match s.frameTurn (n / 2) (s.readyEntries n false) with
      | some e => s.sendTurn n e.1 e.2
      | none => s.sendWaiting n) = _
  cases s.frameTurn (n / 2) (s.readyEntries n true) <;> cases s.frameTurn (n / 2) (s.readyEntries n false) <;> rfl

end

theorem exec_frameSend (s : State) {n : Nat} (hn : n < 20) : exec (.frameSend n) s = .next (frameSend s n) :=
  need_ok (decide_eq_true hn) _

/-! ### Codewords that are sent (R177, R180) -/

theorem State.sendCodewords_down {s : State} {n : Nat} (h : (s.link n).st = .disabled ∨ (s.link n).st = .fault) :
    s.sendCodewords n = s := by
  rcases h with h | h <;> simp [State.sendCodewords, h]

/-- The lanes on which a live link sends codewords. -/
def State.sendLanes (s : State) (n : Nat) : List Nat :=
  (List.range (linkLanes n)).filter (fun k => bit (s.link n).lanes k)

/-- The lanes of a live link take 640 bytes of its stream each; the codewords follow what has left the module before. -/
theorem State.sendCodewords_live {s : State} {n : Nat} (h : (s.link n).live = true) : ∃ f ws,
    s.sendCodewords n = { s.updLink n f with out := s.out ++ ws } ∧ ws.length = (s.sendLanes n).length
    ∧ (f (s.link n)).tx = (s.link n).tx.drop (640 * (s.sendLanes n).length)
    ∧ (f (s.link n)).cw = ((s.link n).cw + 1) % 2 ^ 32 ∧ (f (s.link n)).buf = (s.link n).buf := by
  have hst : ((s.link n).st = .disabled || (s.link n).st = .fault) = false := by
    rcases Link.st_of_live h with h | h <;> simp [h]
  have hoff : (s.link n).offered n = (s.link n).lanes := by simp [Link.offered, h]
  refine ⟨_, _, by simp only [State.sendCodewords, hst, Bool.false_eq_true, if_false]; rfl, ?_, ?_, rfl, rfl⟩
  · simp [hoff, State.sendLanes]
  · simp [h, hoff, State.sendLanes, List.drop_eq_drop_iff]

/-! ### Resending (R186, R191) -/

/-- What a state that differs by the resending of a link's outstanding frames reads (R186, R191). -/
structure State.Resent (s : State) (n : Nat) (counted : Bool) (t : State) : Prop where
  frame : t = { s with links := t.links, objs := t.objs, out := t.out }
  out : t.out = s.out ++ (s.link n).buf.map (fun x => Output.frame n x.frame)
  other : ∀ k, k ≠ n → t.link k = s.link k
  same : t.link n = { s.link n with
    buf := (s.link n).buf.map (fun x => { x with sends := if counted then x.sends + 1 else x.sends })
    tx := (s.link n).tx ++ (s.link n).buf.flatMap (fun x => wireOf x.frame) }
  count : t.obj (okey (linkIndex n) 5) = (s.obj (okey (linkIndex n) 5) + (s.link n).buf.length) % 2 ^ 32
  objs : ∀ k, k ≠ okey (linkIndex n) 5 → t.obj k = s.obj k

theorem State.resendAll_resent (s : State) (n : Nat) (counted : Bool) : s.Resent n counted (s.resendAll n counted) where
  frame := rfl
  out := rfl
  other k h := by
    simp only [State.resendAll, State.link, State.addObj, State.setObj, State.updLink, Tab.get_update_other _ _ _ h]
  same := by simp only [State.resendAll, State.link, State.addObj, State.setObj, State.updLink, Tab.get_update_same]
  count := State.obj_addObj_same _ _ _ _
  objs _ h := State.obj_addObj_other _ _ _ h

/-! ### RETRANSMIT_TIMEOUT (R186) -/

theorem exec_retransmitTimeout (s : State) {n : Nat} (hn : n < 20) :
    exec (.retransmitTimeout n) s = .next (retransmitTimeout s n) := need_ok (decide_eq_true hn) _

theorem retransmitTimeout_idle {s : State} {n : Nat} (h : (s.link n).live = false ∨ (s.link n).buf = []) :
    retransmitTimeout s n = s := by
  rcases h with h | h <;> simp [retransmitTimeout, State.recoverLink, h]

theorem retransmitTimeout_live {s : State} {n : Nat} (hl : (s.link n).live = true) (hb : (s.link n).buf ≠ []) :
    retransmitTimeout s n = if (s.link n).exhausted
      then (s.addObj (okey (linkIndex n) 6) 16 1).faultLink n 0x1004 4 else s.resendAll n true := by
  simp [retransmitTimeout, State.recoverLink, hl, hb]

theorem Link.exhausted_iff (l : Link) : l.exhausted = true ↔ ∃ t ∈ l.buf, 4 ≤ t.sends := by
  simp [Link.exhausted]

/-! ### The statement -/

/-- Settles O31: FRAME_SEND by the channel whose frame goes, RETRANSMIT_TIMEOUT by whether a frame is exhausted. -/
theorem framesAreSentUnderCreditAndResent : Obligations.FramesAreSentUnderCreditAndResent := by
  refine ⟨?send, fun s c es => ⟨fun e he => State.mem_of_frameTurn he, s.frameTurn_eq_none c es⟩,
    fun s n => ⟨State.sendCodewords_down, fun hl => ?codewords⟩, ?timeout⟩
  case send =>
    intro s n hn l ready steps
    rw [exec_frameSend s hn]
    refine ⟨fun h => congrArg _ (frameSend_stopped h), fun o rest hl hd hv => ⟨fun hr => ?waits, fun hr => ?goes⟩,
      fun e hl hd hv he => ?endFrame, fun e hl hd hv hn he => ?dataFrame, fun o rest hl hd hv hs h0 => ?transfer,
      fun hl hv h0 hs => ?nothing⟩
    case waits =>
      have hnot : ¬ (s.link n).ready o.frame = true := Bool.eq_false_iff.1 hr
      rw [frameSend_control hl hd hv, if_neg hnot]
    case goes =>
      have hready : (s.link n).ready o.frame = true := hr
      have hroom := Link.buf_length_of_room (Bool.and_eq_true_iff.1 hr).2
      have hst := (s.updLink n (fun x => { x with vc1 := rest })).startFrame_started n o.frame o.flight
      rw [frameSend_control hl hd hv, if_pos hready]
      generalize (s.updLink n (fun x => { x with vc1 := rest })).startFrame n o.frame o.flight = t at hst ⊢
      obtain ⟨hframe, hout, hother, hsame, hcount, hobjs⟩ := hst
      rw [State.link_updLink_same] at hout hsame
      refine ⟨t, rfl, hframe, hout, fun k hk => (hother k hk).trans (s.link_updLink_other _ hk), hsame, ?_, hcount,
        hobjs⟩
      rw [hsame, List.length_append]
      exact hroom
    case endFrame =>
      rw [frameSend_data hl hd hv, show s.frameTurn (n / 2) (s.readyEntries n true) = some e from he]; rfl
    case dataFrame =>
      rw [frameSend_data hl hd hv, show s.frameTurn (n / 2) (s.readyEntries n true) = none from hn,
        show s.frameTurn (n / 2) (s.readyEntries n false) = some e from he]; rfl
    case transfer =>
      rw [frameSend_data hl hd hv, State.readyEntries_eq_nil hs, State.readyEntries_eq_nil hs, State.frameTurn_nil]
      exact congrArg _ (by rw [Option.or_none, Option.elim_none, State.sendWaiting, h0]; rfl)
    case nothing =>
      by_cases hd : s.dieRuns = true
      · rw [frameSend_data hl hd hv, State.readyEntries_eq_nil hs, State.readyEntries_eq_nil hs, State.frameTurn_nil]
        exact congrArg _ (by rw [Option.or_none, Option.elim_none, State.sendWaiting, h0])
      · exact congrArg _ (frameSend_stopped (.inr (Bool.eq_false_iff.2 hd)))
  case codewords =>
    intro ks t
    obtain ⟨f, ws, ht, hw, htx, hcw, hbuf⟩ := State.sendCodewords_live hl
    have hlink : t.link n = f (s.link n) :=
      (State.link_congr (congrArg State.links ht) n).trans (State.link_updLink_same s n f)
    refine ⟨?_, ?_, ?_, ?_, ?_, ?_, fun j hj => ?_⟩
    · rw [show t = _ from ht]; rfl
    · rw [hlink, htx]; rfl
    · rw [hlink, hcw]
    · rw [hlink, hbuf]
    · exact ⟨ws, (congrArg State.out ht).symm⟩
    · rw [show t.out = _ from congrArg State.out ht, List.length_append, hw]; rfl
    · exact (State.link_congr (congrArg State.links ht) j).trans (State.link_updLink_other s f hj)
  case timeout =>
    intro s n hn l
    rw [exec_retransmitTimeout s hn]
    refine ⟨fun h => congrArg _ (retransmitTimeout_idle h), fun hl hb hx => ?exhausted, fun hl hb hx => ?resent⟩
    case exhausted => rw [retransmitTimeout_live hl hb, if_pos ((Link.exhausted_iff _).2 hx)]
    case resent =>
      have hfresh : ¬ l.exhausted = true := fun h => by
        obtain ⟨t, ht, h4⟩ := (Link.exhausted_iff l).1 h
        exact absurd (hx t ht) (not_lt.2 h4)
      rw [retransmitTimeout_live hl hb, if_neg hfresh]
      have hre := s.resendAll_resent n true
      exact ⟨_, rfl, hre.frame, hre.out, hre.other, hre.same, hre.count, hre.objs⟩

end Sys2Proof.Machine

/-!
PROOF. Training and width of links: what changes a link alone, the three link commands, completions and timeouts, lanes
that fail.
-/

namespace Sys2Proof.Machine

/-! ### Changes of one link (R189, R214) -/

/-- A state that differs in one link, which reads `l`, and in objects. -/
structure State.Relinked (s : State) (n : Nat) (l : Link) (t : State) : Prop where
  frame : t = { s with links := t.links, objs := t.objs }
  same : t.link n = l
  other : ∀ k, k ≠ n → t.link k = s.link k

theorem State.updLink_relinked (s : State) (n : Nat) (f : Link → Link) : s.Relinked n (f (s.link n)) (s.updLink n f) :=
  ⟨rfl, s.link_updLink_same n f, fun _ hk => s.link_updLink_other f hk⟩

theorem State.Relinked.objs {s t u : State} {n : Nat} {l : Link} (h : s.Relinked n l t)
    (hu : ∃ b, u = { t with objs := b }) : s.Relinked n l u := by
  obtain ⟨hf, hs, ho⟩ := h
  obtain ⟨b, rfl⟩ := hu
  exact ⟨by rw [hf], hs, ho⟩

theorem State.Relinked.setObj {s t : State} {n : Nat} {l : Link} (h : s.Relinked n l t) (k v : Nat) :
    s.Relinked n l (t.setObj k v) := h.objs ⟨_, rfl⟩

/-- Steps, contexts and dispatched commands are no part of such a change. -/
theorem State.Relinked.kept {s t : State} {n : Nat} {l : Link} (h : s.Relinked n l t) :
    t.colls = s.colls ∧ t.ctxs = s.ctxs ∧ t.flights = s.flights := by
  rw [h.frame]
  exact ⟨rfl, rfl, rfl⟩

theorem State.showLanes_frame (s : State) (n : Nat) : ∃ b, s.showLanes n = { s with objs := b } :=
  List.foldlRecOn (motive := fun t : State => ∃ b, t = { s with objs := b }) _ _ ⟨_, rfl⟩
    (fun t ht _ _ => by obtain ⟨b, rfl⟩ := ht; exact ⟨_, rfl⟩)

theorem State.endLinkCmd_frame (s : State) (n v : Nat) : ∃ b, s.endLinkCmd n v = { s with objs := b } := by
  unfold State.endLinkCmd
  dsimp only
  split <;> exact ⟨_, rfl⟩

theorem State.setLink_relinked (s : State) (n : Nat) (st : LinkSt) (lanes : Nat) :
    s.Relinked n { s.link n with st := st, lanes := lanes } (s.setLink n st lanes) :=
  (s.updLink_relinked n (fun l => { l with st := st, lanes := lanes })).objs (State.showLanes_frame _ n)

/-- Retraining keeps the sequence numbers, credits and the buffer of a link (R191). -/
theorem State.startRetrain_relinked (s : State) (n cut : Nat) : s.Relinked n { s.link n with
    st := .retraining, cut := cut, tx := [], units := [], rx := [], rxNext := none, sync := true }
    (s.startRetrain n cut) :=
  (s.updLink_relinked n (fun l => { l with
    st := .retraining, cut := cut, tx := [], units := [], rx := [], rxNext := none, sync := true })).objs
    (State.showLanes_frame _ n)

/-- A link that is trained anew begins afresh (R177, R189). -/
theorem State.freshLink_relinked (s : State) (n : Nat) (st : LinkSt) :
    s.Relinked n (freshLink n st) ((s.updLink n (fun _ => freshLink n st)).showLanes n) :=
  (s.updLink_relinked n (fun _ => freshLink n st)).objs (State.showLanes_frame _ n)

/-! ### The link commands (R189, R191) -/

section
variable {s : State} {path n : Nat}

theorem linkAt {path n : Nat} (hp : path < 18) (hn : n < 20) : (pathOk path && decide (n < 20)) = true := by
  simp [pathOk, hp, hn]

theorem exec_linkTrain (hp : path < 18) (hn : n < 20) : exec (.linkTrain path n) s = .next (linkTrain s path n) :=
  need_ok (linkAt hp hn) _

theorem exec_linkDisable (hp : path < 18) (hn : n < 20) : exec (.linkDisable path n) s = .next (linkDisable s path n) :=
  need_ok (linkAt hp hn) _

theorem exec_linkRetrain (hp : path < 18) (hn : n < 20) : exec (.linkRetrain path n) s = .next (linkRetrain s path n) :=
  need_ok (linkAt hp hn) _

variable (ha : s.access path (linkIndex n) = 0)
include ha

theorem linkTrain_trains (h : (s.link n).st = .disabled ∨ (s.link n).st = .fault) : linkTrain s path n
    = ((s.updLink n (fun _ => freshLink n .training)).showLanes n).setObj (okey (linkIndex n) 2) 1 := by
  unfold linkTrain
  rw [if_pos (by simpa using h)]
  exact State.onWrite_at (by decide) _ ha

theorem linkTrain_refused (h : (s.link n).st ≠ .disabled) (h' : (s.link n).st ≠ .fault) :
    linkTrain s path n = s.dictRefuse path (okey (linkIndex n) 2) 8 := by
  unfold linkTrain
  rw [if_neg (by simp [h, h'])]
  exact State.onWrite_refused _ (by rwa [okey_div _ (by decide)])

theorem linkRetrain_retrains (h : (s.link n).live = true) :
    linkRetrain s path n = (s.startRetrain n 0).setObj (okey (linkIndex n) 2) 1 := by
  unfold linkRetrain
  rw [if_pos h]
  exact State.onWrite_at (by decide) _ ha

theorem linkRetrain_refused (h : (s.link n).live = false) :
    linkRetrain s path n = s.dictRefuse path (okey (linkIndex n) 2) 8 := by
  unfold linkRetrain
  rw [if_neg (by simp [h])]
  exact State.onWrite_refused _ (by rwa [okey_div _ (by decide)])

/-- A plane aborts stands where it was up, or retrained, before it is disabled (R189, R212). -/
theorem linkDisable_served : linkDisable s path n =
    if n < 16 ∧ ((s.link n).live = true ∨ (s.link n).st = .retraining)
    then ((((s.updLink n (fun _ => freshLink n .disabled)).showLanes n).setObj (okey (linkIndex n) 2) 2).abortPlane n 5)
    else ((s.updLink n (fun _ => freshLink n .disabled)).showLanes n).setObj (okey (linkIndex n) 2) 2 := by
  simp [linkDisable, ha, Link.live]

end

/-! ### Training and retraining that end (R189, R191) -/

section
variable {s : State} {n lanes : Nat}

theorem exec_linkEnds (s : State) (hn : n < 20) (hm : lanes < 2 ^ 12) :
    exec (.trainingComplete n lanes) s = .next (trainingComplete s n lanes)
    ∧ exec (.retrainComplete n lanes) s = .next (retrainComplete s n lanes)
    ∧ exec (.trainingTimeout n) s = .next (trainingTimeout s n)
    ∧ exec (.retrainTimeout n) s = .next (retrainTimeout s n) :=
  have hlanes : (decide (n < 20) && decide (lanes < 2 ^ 12)) = true := by simp only [hn, hm, decide_true, Bool.and_self]
  ⟨need_ok hlanes _, need_ok hlanes _, need_ok (decide_eq_true hn) _, need_ok (decide_eq_true hn) _⟩

/-- A link that comes up carries frames, with every lane or with fewer (R189). -/
theorem live_upState {l : Link} (h : l.st = upState n lanes) : l.live = true := by
  unfold Link.live
  rw [h, upState]
  split <;> rfl

/-- The lanes on which a training that completed brings a link up. -/
def Link.trained (l : Link) (n lanes : Nat) : Nat := l.both (lanes % 2 ^ linkLanes n)

/-- The lanes on which a retraining does: excluded ones are left out. -/
def Link.retrained (l : Link) (n lanes : Nat) : Nat :=
  l.both ((lanes % 2 ^ linkLanes n) &&& (2 ^ linkLanes n - 1 - l.cut))

theorem trainingComplete_ends (h : (s.link n).st = .training)
    (hw : s.minWidth n ≤ popCount ((s.link n).trained n lanes) 12) :
    s.Relinked n { s.link n with
      st := upState n ((s.link n).trained n lanes), lanes := (s.link n).trained n lanes }
      (trainingComplete s n lanes) := by
  have htrain : trainingComplete s n lanes
      = (s.setLink n (upState n ((s.link n).trained n lanes)) ((s.link n).trained n lanes)).endLinkCmd n 2 :=
    if_pos (by simp only [h, decide_true, Bool.true_and]; exact decide_eq_true hw)
  rw [htrain]
  exact (s.setLink_relinked n _ _).objs (State.endLinkCmd_frame _ n 2)

theorem trainingComplete_waits
    (h : (s.link n).st ≠ .training ∨ popCount ((s.link n).trained n lanes) 12 < s.minWidth n) :
    trainingComplete s n lanes = s :=
  if_neg fun hc => by
    obtain ⟨hst, hw⟩ := Bool.and_eq_true_iff.1 hc
    exact h.elim (fun h => h (of_decide_eq_true hst)) (fun h => absurd (of_decide_eq_true hw) (not_le.2 h))

theorem retrainComplete_ends (h : (s.link n).st = .retraining)
    (hw : s.minWidth n ≤ popCount ((s.link n).retrained n lanes) 12) : ∃ u, s.Relinked n { s.link n with
      st := upState n ((s.link n).retrained n lanes), lanes := (s.link n).retrained n lanes } u
    ∧ u.Resent n false (retrainComplete s n lanes) := by
  have hre : retrainComplete s n lanes = ((s.setLink n (upState n ((s.link n).retrained n lanes))
      ((s.link n).retrained n lanes)).endLinkCmd n 2).resendAll n false :=
    if_pos (by simp only [h, decide_true, Bool.true_and]; exact decide_eq_true hw)
  rw [hre]
  exact ⟨_, (s.setLink_relinked n _ _).objs (State.endLinkCmd_frame _ n 2), State.resendAll_resent _ n false⟩

theorem retrainComplete_waits
    (h : (s.link n).st ≠ .retraining ∨ popCount ((s.link n).retrained n lanes) 12 < s.minWidth n) :
    retrainComplete s n lanes = s :=
  if_neg fun hc => by
    obtain ⟨hst, hw⟩ := Bool.and_eq_true_iff.1 hc
    exact h.elim (fun h => h (of_decide_eq_true hst)) (fun h => absurd (of_decide_eq_true hw) (not_le.2 h))

end

/-! ### A lane that fails (R190) -/

theorem exec_laneRows {lane : Nat} (s : State) (h : lane < 176) :
    ∀ i ∈ ([.laneLossOfLock lane, .laneErrorThreshold lane] : List Instr), exec i s = .next (s.laneDown lane) := by
  intro i hi
  simp only [List.mem_cons, List.not_mem_nil, or_false] at hi
  rcases hi with rfl | rfl <;> exact need_ok (decide_eq_true h) _

theorem lane_eq (lane : Nat) (h : lane < 176) : lane = linkLane0 (laneLink lane) + laneBit lane := by
  unfold linkLane0 laneLink laneBit
  split <;> split <;> omega

section
variable {s : State} {lane : Nat}

theorem State.laneDown_idle
    (h : (s.link (laneLink lane)).live = false ∨ bit (s.link (laneLink lane)).lanes (laneBit lane) = false) :
    s.laneDown lane = s := by
  rcases h with h | h <;> simp [State.laneDown, h]

variable (hl : (s.link (laneLink lane)).live = true) (hb : bit (s.link (laneLink lane)).lanes (laneBit lane) = true)
include hl hb

theorem State.laneDown_degrades (he : s.obj (okey 0x4000 3) = 1)
    (hw : s.minWidth (laneLink lane) ≤ (s.link (laneLink lane)).width - 1) : s.laneDown lane
      = ((s.updLink (laneLink lane) (fun x => { x with lanes := x.lanes - 2 ^ laneBit lane })).startRetrain
        (laneLink lane) ((s.link (laneLink lane)).cut + 2 ^ laneBit lane)).report 0x1001 3 lane none 0 false false := by
  simp [State.laneDown, hl, hb, he, hw]

theorem State.laneDown_faults
    (h : s.obj (okey 0x4000 3) ≠ 1 ∨ (s.link (laneLink lane)).width - 1 < s.minWidth (laneLink lane)) :
    s.laneDown lane = s.faultLink (laneLink lane) (downCode (laneLink lane)) 5 := by
  rcases h with h | h <;> simp [State.laneDown, hl, hb, h]

end

/-! ### The statement -/

/-- Settles O32: each command, completion and failure by its guard, as a change of the one link beside objects. -/
theorem linksTrainNarrowAndRetrain : Obligations.LinksTrainNarrowAndRetrain := by
  refine ⟨?commands, ?completions, ?timeouts, ?lanes⟩
  case commands =>
    intro s path n hp hn ha k l
    rw [exec_linkTrain hp hn, exec_linkDisable hp hn, exec_linkRetrain hp hn]
    refine ⟨fun h => ?train, fun h h' => congrArg _ (linkTrain_refused ha h h'), fun h => ?disable, fun h16 h => ?abort,
      fun h => ?retrain, fun h => congrArg _ (linkRetrain_refused ha h)⟩
    case train =>
      rw [linkTrain_trains ha h]
      have hr := (s.freshLink_relinked n .training).setObj k 1
      exact ⟨_, rfl, hr.frame, hr.same, State.obj_setObj_same _ k 1, hr.other⟩
    case disable =>
      have hnot : ¬ (n < 16 ∧ (l.live = true ∨ l.st = .retraining)) := by
        rintro ⟨h16, h'⟩
        rcases h with h | h | h | h
        · omega
        all_goals simp [Link.live, h] at h'
      rw [linkDisable_served ha, if_neg hnot]
      have hr := (s.freshLink_relinked n .disabled).setObj k 2
      exact ⟨_, rfl, hr.frame, hr.same, State.obj_setObj_same _ k 2, hr.other⟩
    case abort => rw [linkDisable_served ha, if_pos ⟨h16, h⟩]
    case retrain =>
      rw [linkRetrain_retrains ha h]
      have hr := (s.startRetrain_relinked n 0).setObj k 1
      exact ⟨_, rfl, hr.frame, hr.same, State.obj_setObj_same _ k 1, hr.other⟩
  case completions =>
    intro s n lanes hn hm l m r
    obtain ⟨htrain, hretrain, -, -⟩ := exec_linkEnds s hn hm
    rw [htrain, hretrain]
    refine ⟨fun h hw => ?up, fun h => congrArg _ (trainingComplete_waits h), fun h hw => ?again,
      fun h => congrArg _ (retrainComplete_waits h)⟩
    case up =>
      have hr := trainingComplete_ends h hw
      exact ⟨_, rfl, hr.frame, hr.same, live_upState (congrArg Link.st hr.same), hr.other⟩
    case again =>
      obtain ⟨u, hu, ht⟩ := retrainComplete_ends h hw
      generalize retrainComplete s n lanes = t at ht
      have hbuf : (u.link n).buf = l.buf := by rw [hu.same]
      have hout : u.out = s.out := by rw [hu.frame]
      refine ⟨t, rfl, ?_, ?_, ?_, fun k hk => (ht.other k hk).trans (hu.other k hk)⟩
      · rw [ht.frame, hu.frame]
      · rw [ht.same, hu.same]
        simp only [Bool.false_eq_true, if_false, List.map_id']
        rfl
      · rw [ht.out, hout, hbuf]
  case timeouts =>
    intro s n hn
    obtain ⟨-, -, htrain, hretrain⟩ := exec_linkEnds (lanes := 0) s hn (by decide)
    rw [htrain, hretrain]
    exact ⟨fun h => congrArg _ (if_pos h), fun h => congrArg _ (if_neg h), fun h => congrArg _ (if_pos h),
      fun h => congrArg _ (if_neg h)⟩
  case lanes =>
    intro s lane hlane i hi n k l
    rw [exec_laneRows s hlane i hi]
    refine ⟨lane_eq lane hlane, fun h => congrArg _ (State.laneDown_idle h), fun hl hb he hw => ?degrades,
      fun hl hb h => congrArg _ (State.laneDown_faults hl hb h)⟩
    case degrades =>
      rw [State.laneDown_degrades hl hb he hw]
      have hre := (s.updLink n (fun x => { x with lanes := x.lanes - 2 ^ k })).startRetrain_relinked n (l.cut + 2 ^ k)
      generalize (s.updLink n (fun x => { x with lanes := x.lanes - 2 ^ k })).startRetrain n (l.cut + 2 ^ k) = u
        at hre ⊢
      obtain ⟨hcolls, hctxs, hflights⟩ := hre.kept
      have hsame := hre.same
      rw [State.link_updLink_same] at hsame
      obtain ⟨b, f, o, p, ht⟩ := u.report_frame 0x1001 3 lane none 0 false false
      rw [ht]
      exact ⟨_, rfl, hsame, fun j hj => (hre.other j hj).trans (s.link_updLink_other _ hj),
        hcolls, hctxs, hflights⟩

end Sys2Proof.Machine

/-!
PROOF. The checks of received frames: what each check answers, how the seven frame rows take the answer.
-/

namespace Sys2Proof.Machine

/-! ### The five checks in their order (R195) -/

section
variable {s : State} {plane : Nat} {f : Frame}

theorem State.checkStand_misrouted (h : bits f.header 43 24 ≠ s.obj (okey 0x4000 1)) :
    s.checkStand plane f = .error (s.addObj (okey 0x4000 7) 32 1) := if_pos h

variable (hfid : bits f.header 43 24 = s.obj (okey 0x4000 1))
include hfid

theorem State.checkStand_otherEpoch (h : ¬ (s.epoch (rxCtx f) ≠ 0 ∧ bits f.header 95 64 = s.epoch (rxCtx f))) :
    s.checkStand plane f = .error (s.dropCount (rxCtx f) 0x0B) := by
  have hold : (s.epoch (rxCtx f) = 0 || bits f.header 95 64 ≠ s.epoch (rxCtx f)) = true := by
    by_cases h0 : s.epoch (rxCtx f) = 0
    · simp [h0]
    · simpa [h0] using h
  exact (if_neg (not_not_intro hfid)).trans (if_pos hold)

variable (hepoch : s.epoch (rxCtx f) ≠ 0 ∧ bits f.header 95 64 = s.epoch (rxCtx f))
include hepoch

theorem State.checkStand_otherIncarnation (h : bits f.header 127 112 ≠ s.incarnation) :
    s.checkStand plane f = .error (s.dropCount (rxCtx f) 0x0C) := by
  simp [State.checkStand, hfid, hepoch.1, hepoch.2, h]

variable (hinc : bits f.header 127 112 = s.incarnation)
include hinc

theorem State.checkStand_noSource (h : s.sourceOf f = none) :
    s.checkStand plane f = .error (s.dropCount (rxCtx f) 0x0D) := by
  simp [State.checkStand, hfid, hepoch.1, hepoch.2, hinc, h]

variable {m : Nat × Nat} (hm : s.sourceOf f = some m)
include hm

theorem State.checkStand_otherSource (h : bits f.header 111 96 ≠ bits m.2 27 12) :
    s.checkStand plane f = .error ((s.colls.find? (fun x => x.ctx = rxCtx f && s.awaits x m.1)).elim
      (s.dropCount (rxCtx f) 0x0C) (fun x =>
        (s.dropCount (rxCtx f) 0x0C).abortStand (rxCtx f) 2 m.1 (s.collOf x).coll x.yarder none)) := by
  simp only [State.checkStand, hfid, hepoch.1, hepoch.2, hinc, hm, ne_eq, not_true_eq_false, if_false, decide_false,
    Bool.false_or, h, not_false_eq_true, if_true, Bool.false_eq_true]
  cases s.colls.find? (fun x => x.ctx = rxCtx f && s.awaits x m.1) <;> rfl

theorem State.checkStand_ok (hp : plane < 16) (h : bits f.header 111 96 = bits m.2 27 12) :
    s.checkStand plane f = .ok (rxCtx f, m.1) := by
  simp [State.checkStand, hfid, hepoch.1, hepoch.2, hinc, hm, h, hp]

end

/-! ### The frame rows (R195) -/

section
variable {s : State} {plane : Nat}

/-- Each row is the handling of its type. -/
theorem exec_frameRows (s : State) (hp : plane < 16) :
    exec (.dataFrame plane) s = .next (dataReceived s plane) ∧ exec (.endFrame plane) s = .next (endReceived s plane)
    ∧ exec (.ecredFrame plane) s = .next (ecredReceived s plane)
    ∧ exec (.beatFrame plane) s = .next (beatReceived s plane)
    ∧ exec (.abortFrame plane) s = .next (abortReceived s plane)
    ∧ exec (.commitFrame plane) s = .next (commitFrame s plane)
    ∧ exec (.creditFrame plane) s = .next (creditReceived s plane) :=
  have hplane : decide (plane < 16) = true := decide_eq_true hp
  ⟨need_ok hplane _, need_ok hplane _, need_ok hplane _, need_ok hplane _, need_ok hplane _, need_ok hplane _,
    need_ok hplane _⟩

/-- What holds of the seven rows holds of each. -/
theorem forall_frameRows {P : Instr × Nat → Prop} (h1 : P (.dataFrame plane, 1)) (h2 : P (.endFrame plane, 2))
    (h3 : P (.ecredFrame plane, 3)) (h4 : P (.beatFrame plane, 4)) (h5 : P (.abortFrame plane, 5))
    (h6 : P (.commitFrame plane, 6)) (h7 : P (.creditFrame plane, 7)) : ∀ r ∈ Claims.frameRows plane, P r := by
  simp only [Claims.frameRows, List.forall_mem_cons, List.not_mem_nil, false_implies, implies_true, and_true]
  exact ⟨h1, h2, h3, h4, h5, h6, h7⟩

theorem exec_frameRow_empty (hp : plane < 16) :
    ∀ r ∈ Claims.frameRows plane, s.inboxHead plane r.2 = none → exec r.1 s = .next s := by
  obtain ⟨e1, e2, e3, e4, e5, e6, e7⟩ := exec_frameRows s hp
  refine forall_frameRows ?_ ?_ ?_ ?_ ?_ ?_ ?_ <;> intro h
  · simp only [e1, dataReceived, h]
  · simp only [e2, endReceived, h]
  · simp only [e3, ecredReceived, h]
  · simp only [e4, beatReceived, h]
  · simp only [e5, abortReceived, h]
  · simp only [e6, commitFrame, h]
  · simp only [e7, creditReceived, h]

theorem State.checkData_of_error {f : Frame} {t : State} (h : s.checkStand plane f = .error t) :
    s.checkData plane f = .error t := by
  simp only [State.checkData, h]

/-- A frame that a check stops leaves what the check leaves. -/
theorem exec_frameRow_dropped (hp : plane < 16) {f : Frame} {t : State}
    (ht : (s.popInbox plane).checkStand plane f = .error t) :
    ∀ r ∈ Claims.frameRows plane, s.inboxHead plane r.2 = some f → exec r.1 s = .next t := by
  obtain ⟨e1, e2, e3, e4, e5, e6, e7⟩ := exec_frameRows s hp
  refine forall_frameRows ?_ ?_ ?_ ?_ ?_ ?_ ?_ <;> intro h
  · simp only [e1, dataReceived, h, State.checkData_of_error ht]
  · simp only [e2, endReceived, h, State.checkData_of_error ht]
  · simp only [e3, ecredReceived, h, ht]
  · simp only [e4, beatReceived, h, ht]
  · simp only [e5, abortReceived, h, ht]
  · simp only [e6, commitFrame, h, ht]
  · simp only [e7, creditReceived, h, ht]

theorem State.awaits_popInbox (s : State) (plane : Nat) (x : CollStep) (m : Nat) :
    (s.popInbox plane).awaits x m = s.awaits x m := rfl

end

/-! ### The statement -/

/-- Settles O33: the first check that fails decides what the frame counts in. -/
theorem framesOfAStandAreChecked : Obligations.FramesOfAStandAreChecked := by
  intro s plane hp r hr
  refine ⟨exec_frameRow_empty hp r hr, fun f hf => ?_⟩
  intro s0 ctx fid epoch inc
  have hdrop : ∀ {t}, s0.checkStand plane f = .error t → exec r.1 s = .next t :=
    fun ht => exec_frameRow_dropped hp ht r hr hf
  refine ⟨fun h => hdrop (State.checkStand_misrouted h), fun hfid h => hdrop (State.checkStand_otherEpoch hfid h),
    fun hfid he h => hdrop (State.checkStand_otherIncarnation hfid he h), fun hfid he hi h => ?noSource,
    fun m hfid he hi hm h => ?otherSource⟩
  case noSource =>
    have hnone : s0.sourceOf f = none := List.find?_eq_none.2 fun m hm => by simpa using h m hm
    exact hdrop (State.checkStand_noSource hfid he hi hnone)
  case otherSource =>
    have hs0 := hdrop (State.checkStand_otherSource hfid he hi (s := s0) hm h)
    refine ⟨fun hx => ?_, fun x hx => ?_⟩
    · have hnone : s0.colls.find? (fun x => x.ctx = ctx && s0.awaits x m.1) = none :=
        List.find?_eq_none.2 fun x hx' hc => by
          obtain ⟨hctx, haw⟩ := Bool.and_eq_true_iff.1 hc
          exact absurd ((hx x hx' (of_decide_eq_true hctx)).symm.trans haw) (by decide)
      rw [hnone] at hs0
      exact hs0
    · have hsome : s0.colls.find? (fun x => x.ctx = ctx && s0.awaits x m.1) = some x := hx
      rw [hsome] at hs0
      exact hs0

end Sys2Proof.Machine

/-!
PROOF. Accepted frames: what each type does beyond the checks of R195, the checks of DATA and END, what DATA leaves.
-/

namespace Sys2Proof.Machine

/-! ### Accepted frames of the control types (R183, R203, R204, R210, R211, R212) -/

/-- The open step of a frame's COLL on the Yarder of its plane (R195). -/
def State.heardStep (s : State) (plane : Nat) (f : Frame) : Option CollStep :=
  (s.openSteps (rxCtx f) (plane / 2)).find? (fun x => (s.collOf x).coll = bits f.header 183 168)

section
variable {s : State} {plane : Nat} {f : Frame} {m : Nat × Nat}

theorem State.checkStand_accepted {type : Nat} (hp : plane < 16) (h : Claims.accepted s plane type f m) :
    (s.popInbox plane).checkStand plane f = .ok (rxCtx f, m.1) := by
  obtain ⟨_, hfid, h0, hepoch, hinc, hm, hsrc⟩ := h
  exact State.checkStand_ok (s := s.popInbox plane) hfid ⟨h0, hepoch⟩ hinc hm hp hsrc

variable (hp : plane < 16)
include hp

theorem beatReceived_accepted (h : Claims.accepted s plane 4 f m) :
    beatReceived s plane = (s.popInbox plane).yarderWork plane (rxCtx f) := by
  simp only [beatReceived, h.1, State.checkStand_accepted hp h]

theorem abortReceived_accepted (h : Claims.accepted s plane 5 f m) : abortReceived s plane
    = ((s.popInbox plane).yarderWork plane (rxCtx f)).abortStand (rxCtx f) 7 (bits f.header 247 234) 0 (plane / 2)
      (some (bits f.header 255 192)) := by
  simp only [abortReceived, h.1, State.checkStand_accepted hp h]

theorem ecredReceived_early (h : Claims.accepted s plane 3 f m) (hn : s.heardStep plane f = none) :
    ecredReceived s plane = ((s.popInbox plane).yarderWork plane (rxCtx f)).updCtx (rxCtx f) (fun y =>
      let k := earlyKey (bits f.header 183 168) plane m.1
      { y with early := Tab.put 0 y.early k (max (Tab.get 0 y.early k) (bits f.header 255 224)) }) := by
  simp only [ecredReceived, h.1, State.checkStand_accepted hp h]
  split
  · rfl
  · next x hx => cases hn.symm.trans hx

theorem ecredReceived_step (h : Claims.accepted s plane 3 f m) {x : CollStep} (hx : s.heardStep plane f = some x) :
    ecredReceived s plane = ((s.popInbox plane).yarderWork plane (rxCtx f)).updColl x.id (fun y =>
      let k := pkeyOf ((s.collGroup x).idxOf m.1) plane
      { y with grant := Tab.put 0 y.grant k (max (Tab.get 0 y.grant k) (bits f.header 255 224)) }) := by
  simp only [ecredReceived, h.1, State.checkStand_accepted hp h]
  split
  · next hn => cases hx.symm.trans hn
  · next y hy => cases hx.symm.trans hy; rfl

theorem commitFrame_accepted (h : Claims.accepted s plane 6 f m) : commitFrame s plane =
    let s1 := (s.popInbox plane).yarderWork plane (rxCtx f)
    let n := bits f.header 159 128
    if n ≠ s.yarderStep (rxCtx f) (plane / 2)
      then s1.abortStand (rxCtx f) 6 m.1 (bits f.header 183 168) (plane / 2) none
    else if s.commits.contains (rxCtx f, n, m.1) then s1
    else { s1 with
      commits := (rxCtx f, n, m.1) :: s.commits
      colls := s.colls.map (fun x =>
        if x.ctx = rxCtx f && (s.collOf x).op = 0xA7 && s.yarderStep (rxCtx f) x.yarder = n
          && (s.collGroup x).contains m.1
        then { x with commits := (s.collGroup x).idxOf m.1 :: x.commits } else x) } := by
  simp only [commitFrame, h.1, State.checkStand_accepted hp h]
  rfl

end

/-! ### CREDIT (R37, R204) -/

theorem State.collOf_congr {s : State} {x y : CollStep} (h : y.id = x.id) : s.collOf y = s.collOf x := by
  simp only [State.collOf, h]

/-- Only RING steps wait on RCRED (R210). -/
theorem State.ringSend_other {s : State} {x : CollStep} (h : (s.collOf x).op ≠ 0xA6) : s.ringSend x.id = s := by
  unfold State.ringSend
  split
  · rfl
  · next y hy =>
    have hid : y.id = x.id := of_decide_eq_true (List.find?_some (p := fun z : CollStep => decide (z.id = x.id)) hy)
    rw [State.collOf_congr hid]
    exact if_pos (by simp [h])

theorem State.foldl_ringSend_other {s : State} {xs : List CollStep} (h : ∀ x ∈ xs, (s.collOf x).op ≠ 0xA6) :
    xs.foldl (fun t x => t.ringSend x.id) s = s :=
  List.foldlRecOn (motive := fun t : State => t = s) _ _ rfl fun _ ht x hx => by
    rw [ht, State.ringSend_other (h x hx)]

/-- The binding of a Yarder's credit counter to a member of a plan's group (R23). -/
def State.boundTo (s : State) (ctx owner k member : Nat) : Option BindEntry :=
  (imgBindsOf (s.ctx ctx).image owner k true).find? (fun b =>
    b.party = 3 && ((imgGroup (s.ctx ctx).image b.group).getD []).getD b.position 16384 = member)

section
variable {s : State} {plane : Nat} {f : Frame} {m : Nat × Nat} (hp : plane < 16) (h : Claims.accepted s plane 7 f m)
include hp h

theorem creditReceived_unloaded (hl : s.loaded (rxCtx f) = false) :
    creditReceived s plane = (s.popInbox plane).yarderWork plane (rxCtx f) := by
  simp only [creditReceived, h.1, State.checkStand_accepted hp h]
  exact if_pos (congrArg not hl)

variable (hl : s.loaded (rxCtx f) = true)
include hl

theorem creditReceived_unbound
    (hb : s.boundTo (rxCtx f) (0x88 + plane / 2) (bits f.header 255 250) m.1 = none) : creditReceived s plane
      = ((s.popInbox plane).yarderWork plane (rxCtx f)).holdShell 0x5004 (0x88 + plane / 2) (rxCtx f) 0 := by
  simp only [creditReceived, h.1, State.checkStand_accepted hp h]
  refine (if_neg (Bool.eq_false_iff.1 (congrArg not hl))).trans ?_
  split
  · rfl
  · next b hb' => cases hb.symm.trans hb'

theorem creditReceived_bound {b : BindEntry}
    (hb : s.boundTo (rxCtx f) (0x88 + plane / 2) (bits f.header 255 250) m.1 = some b) : creditReceived s plane =
      let s1 := (s.popInbox plane).yarderWork plane (rxCtx f)
      let owner := 0x88 + plane / 2
      let k := bits f.header 255 250
      let v := s.credits (rxCtx f) owner k + bits f.header 249 234
      if b.capacity < v then s1.holdShell 0x5005 owner (rxCtx f) 0
      else (s.openSteps (rxCtx f) (plane / 2)).foldl (fun t x => t.ringSend x.id)
        { s1 with cred := Tab.put 0 s.cred (ckey (rxCtx f) owner k) (BitVec.ofNat 16 v) } := by
  simp only [creditReceived, h.1, State.checkStand_accepted hp h]
  refine (if_neg (Bool.eq_false_iff.1 (congrArg not hl))).trans ?_
  split
  · next hb' => cases hb.symm.trans hb'
  · next b' hb' => cases hb.symm.trans hb'; rfl

end

/-! ### The checks of DATA and END (R195) -/

/-- Whether a member may send to a step on a plane: it is in the group, one of the step's senders, and the plane is the
step's (R195). -/
def State.sendsTo (s : State) (x : CollStep) (plane member : Nat) : Bool :=
  (s.collGroup x).contains member
    && ((s.collOf x).senders (s.collGroup x).length (s.collPos x)).contains ((s.collGroup x).idxOf member)
    && ((s.collOf x).planeList (plane / 2)).contains plane

/-- Whether a DATA frame has a format and a place that its step can take (R195; log entry 27). -/
def State.dataFits (s : State) (x : CollStep) (pos plane : Nat) (f : Frame) : Prop :=
  rxFmt f ≠ 0 ∧ rxFmt f ≤ 9 ∧ ((rxFmt f = 2 ∨ rxFmt f = 3) → rxTsc f ≠ 0xFF) ∧ s.inPiece x pos plane f = true

theorem State.dataFits_iff (s : State) (x : CollStep) (pos plane : Nat) (f : Frame) : s.dataFits x pos plane f ↔
    (rxFmt f = 0 || 9 < rxFmt f || ((rxFmt f = 2 || rxFmt f = 3) && rxTsc f = 0xFF)
      || !s.inPiece x pos plane f) = false := by
  simp only [State.dataFits, Bool.or_eq_false_iff, Bool.and_eq_false_imp, Bool.or_eq_true, decide_eq_true_eq,
    decide_eq_false_iff_not, Bool.not_eq_false', not_lt, and_assoc, ne_eq]

section
variable {s : State} {plane : Nat} {f : Frame} {ctx member : Nat} (hs : s.checkStand plane f = .ok (ctx, member))
include hs

theorem State.checkData_noStep
    (hn : (s.openSteps ctx (plane / 2)).find? (fun x => (s.collOf x).coll = bits f.header 183 168) = none) :
    s.checkData plane f = .error (s.dropCount ctx 0x0E) := by
  simp only [State.checkData, hs, hn]

variable {x : CollStep}
    (hx : (s.openSteps ctx (plane / 2)).find? (fun x => (s.collOf x).coll = bits f.header 183 168) = some x)
include hx

theorem State.checkData_noSender (h : s.sendsTo x plane member = false) : s.checkData plane f
    = .error ((s.dropCount ctx 0x0D).abortStand ctx 3 member (bits f.header 183 168) (plane / 2) none) := by
  simp only [State.checkData, hs, hx]
  exact if_pos (congrArg not h)

variable (h : s.sendsTo x plane member = true)
include h

theorem State.checkData_otherStep (hst : bits f.header 159 128 ≠ s.yarderStep ctx (plane / 2)) :
    s.checkData plane f = .error (s.abortStand ctx 6 member (bits f.header 183 168) (plane / 2) none) := by
  simp only [State.checkData, hs, hx]
  exact (if_neg (Bool.eq_false_iff.1 (congrArg not h))).trans (if_pos hst)

variable (hst : bits f.header 159 128 = s.yarderStep ctx (plane / 2))
include hst

theorem State.checkData_unfit (ht : f.type = 1) (hf : ¬ s.dataFits x ((s.collGroup x).idxOf member) plane f) :
    s.checkData plane f = .error (s.abortStand ctx 3 member (bits f.header 183 168) (plane / 2) none) := by
  have hbad := Bool.eq_true_of_not_eq_false (mt (State.dataFits_iff s x _ plane f).2 hf)
  simp only [State.checkData, hs, hx]
  refine (if_neg (Bool.eq_false_iff.1 (congrArg not h))).trans ((if_neg (not_not_intro hst)).trans (if_pos ?_))
  exact Bool.and_eq_true_iff.2 ⟨decide_eq_true ht, hbad⟩

theorem State.checkData_ok (hf : f.type = 1 → s.dataFits x ((s.collGroup x).idxOf member) plane f) :
    s.checkData plane f = .ok { ctx := ctx, pos := (s.collGroup x).idxOf member, step := some x } := by
  simp only [State.checkData, hs, hx]
  refine (if_neg (Bool.eq_false_iff.1 (congrArg not h))).trans ((if_neg (not_not_intro hst)).trans (if_neg ?_))
  rintro hbad
  obtain ⟨ht, hbad⟩ := Bool.and_eq_true_iff.1 hbad
  exact Bool.eq_false_iff.1 ((State.dataFits_iff s x _ plane f).1 (hf (of_decide_eq_true ht))) hbad

end

/-! ### What accepted DATA and END leave (R203, R206, R209) -/

/-- A step that has kept a DATA frame: it is listed, counted, and run through its stripe's CRC-64 (R206, R209). -/
def CollStep.kept (x y : CollStep) (pos plane : Nat) (f : Frame) : CollStep :=
  { y with
    rx := y.rx ++ [{ pos := pos, phase := y.endsOf pos plane, frame := f }]
    cnt := Tab.put 0 y.cnt (pkeyOf pos plane) (Tab.get 0 x.cnt (pkeyOf pos plane) + 1)
    crc := Tab.put 0 y.crc (pkeyOf pos plane)
      (crc64Run (Tab.get 0 y.crc (pkeyOf pos plane) ^^^ 0xFFFFFFFFFFFFFFFF) f.payload ^^^ 0xFFFFFFFFFFFFFFFF) }

/-- The state in which a DATA frame is kept and its bytes are counted, those of a parked one twice (R206, R214). -/
def State.dataKept (s : State) (x : CollStep) (pos plane : Nat) (f : Frame) : State :=
  let t := (s.updColl x.id (fun y => x.kept y pos plane f)).addObj (okey (0x4200 + x.yarder) 7) 64 (64 * f.len)
  if s.isParked x pos plane then t.addObj (okey (0x4200 + x.yarder) 8) 64 (64 * f.len) else t

/-- A control frame reads of the state the member's entry, the module's numbers and the epoch. -/
theorem State.ctlTo_congr {s t : State} {ctx : Nat} (hm : t.members = s.members)
    (ho : ∀ k, k = okey 0x4000 1 ∨ k = okey 0x4000 2 ∨ k = okey (0x4100 + ctx) 1 → t.obj k = s.obj k)
    (pos type arg coll step : Nat) : t.ctlTo ctx pos type arg coll step = s.ctlTo ctx pos type arg coll step := by
  simp only [State.ctlTo, State.headerTo, State.member, State.incarnation, State.epoch, hm, ho _ (.inl rfl),
    ho _ (.inr (.inl rfl)), ho _ (.inr (.inr rfl))]

section
variable (s : State) (x : CollStep) (pos plane : Nat) (f : Frame)

theorem State.dataKept_frame : s.dataKept x pos plane f = { s with
    objs := (s.dataKept x pos plane f).objs
    colls := s.colls.map (fun y => if y.id = x.id then x.kept y pos plane f else y) } := by
  unfold State.dataKept
  dsimp only
  split <;> rfl

theorem State.obj_dataKept_same : (s.dataKept x pos plane f).obj (okey (0x4200 + x.yarder) 7)
    = (s.obj (okey (0x4200 + x.yarder) 7) + 64 * f.len) % 2 ^ 64 := by
  unfold State.dataKept
  dsimp only
  split
  · rw [State.obj_addObj_other _ _ _ (by unfold okey; omega), State.obj_addObj_same]
    rfl
  · rw [State.obj_addObj_same]
    rfl

theorem State.obj_dataKept_other {i j : Nat} (hj : j < 256) (h : i ≠ 0x4200 + x.yarder) :
    (s.dataKept x pos plane f).obj (okey i j) = s.obj (okey i j) := by
  unfold State.dataKept
  dsimp only
  split
  · rw [State.obj_addObj_other _ _ _ (by unfold okey; omega), State.obj_addObj_other _ _ _ (by unfold okey; omega)]
    rfl
  · rw [State.obj_addObj_other _ _ _ (by unfold okey; omega)]
    rfl

/-- After every 16th frame of a sender and plane a new grant waits for sending (R203). -/
theorem State.takeData_eq (hc : x.ctx < 64) (hy : x.yarder < 8) : s.takeData x pos plane f =
    if (Tab.get 0 x.cnt (pkeyOf pos plane) + 1) % 16 = 0 then
      (s.dataKept x pos plane f).sendCtl plane (s.ctlTo x.ctx ((s.collGroup x).getD pos 0) 3
        ((s.obj (okey 0x4000 6) + (Tab.get 0 x.cnt (pkeyOf pos plane) + 1)) * 2 ^ 32) (s.collOf x).coll
        (s.yarderStep x.ctx x.yarder)) (some x.id)
    else s.dataKept x pos plane f := by
  have hgrant := fun pos' arg coll step => State.ctlTo_congr (s := s) (t := s.dataKept x pos plane f) (ctx := x.ctx)
    (by rw [s.dataKept_frame x pos plane f]) (fun k hk => by
      rcases hk with rfl | rfl | rfl
      all_goals exact s.obj_dataKept_other x pos plane f (by decide) (by omega)) pos' 3 arg coll step
  have hstep : (s.dataKept x pos plane f).yarderStep x.ctx x.yarder = s.yarderStep x.ctx x.yarder := by
    rw [s.dataKept_frame x pos plane f]
    rfl
  rw [← hstep, ← hgrant]
  rfl

end

/-! ### DATA and END rows (R195, R206, R209) -/

theorem State.type_of_inboxHead {s : State} {plane type : Nat} {f : Frame} (h : s.inboxHead plane type = some f) :
    f.type = type := by
  unfold State.inboxHead at h
  split at h
  · split at h
    · cases h
    · split at h
      · next ht => cases h; exact ht
      · cases h
  · cases h

theorem State.heardStep_place {s : State} {plane : Nat} {f : Frame} {x : CollStep} (h : s.heardStep plane f = some x) :
    x.ctx = rxCtx f ∧ x.yarder = plane / 2 := by
  have hmem := (List.mem_filter.1 (List.mem_of_find?_eq_some h)).2
  simpa using hmem

theorem rxCtx_lt (f : Frame) : rxCtx f < 64 := Nat.mod_lt _ (by decide)

section
variable {s : State} {plane : Nat} {f : Frame}

theorem exec_dataRow_dropped (hp : plane < 16) {t : State} (ht : (s.popInbox plane).checkData plane f = .error t) :
    ∀ r ∈ ([(.dataFrame plane, 1), (.endFrame plane, 2)] : List (Instr × Nat)), s.inboxHead plane r.2 = some f →
      exec r.1 s = .next t := by
  obtain ⟨e1, e2, -⟩ := exec_frameRows s hp
  simp only [List.forall_mem_cons, List.not_mem_nil, false_implies, implies_true, and_true]
  exact ⟨fun h => by simp only [e1, dataReceived, h, ht], fun h => by simp only [e2, endReceived, h, ht]⟩

theorem dataReceived_accepted {a : Accepted} {x : CollStep} (h : s.inboxHead plane 1 = some f)
    (ha : (s.popInbox plane).checkData plane f = .ok a) (hx : a.step = some x) :
    dataReceived s plane = ((s.popInbox plane).yarderWork plane x.ctx).takeData x a.pos plane f := by
  simp only [dataReceived, h, ha, hx]

/-- An END is the check of its stripe's CRC-64 (R209). -/
theorem endReceived_accepted {a : Accepted} {x : CollStep} (h : s.inboxHead plane 2 = some f)
    (ha : (s.popInbox plane).checkData plane f = .ok a) (hx : a.step = some x) : endReceived s plane =
      if Tab.get 0 x.crc (pkeyOf a.pos plane) ≠ bits f.header 255 192 then
        (s.popInbox plane).abortStand a.ctx 3 ((s.collGroup x).getD a.pos 0) (s.collOf x).coll x.yarder none
      else (((s.popInbox plane).yarderWork plane x.ctx).updColl x.id (fun y => { y with
        crc := Tab.put 0 y.crc (pkeyOf a.pos plane) 0
        ends := Tab.put 0 y.ends (pkeyOf a.pos plane) (y.endsOf a.pos plane + 1) })).advance x.id := by
  simp only [endReceived, h, ha, hx]

/-- What DATA leaves of the state that it found: its step keeps it, the Yarder's counters and the link change (R203,
R206, R209). -/
theorem State.takeData_heard {x : CollStep} (s : State) (plane pos : Nat) (f : Frame) (hc : x.ctx < 64)
    (hy : x.yarder < 8) :
    let n := Tab.get 0 x.cnt (pkeyOf pos plane) + 1
    let s1 := (s.popInbox plane).yarderWork plane x.ctx
    ∃ t, s1.takeData x pos plane f = t
      ∧ t = { s with links := t.links, objs := t.objs, colls := t.colls, work := s1.work }
      ∧ t.colls = s.colls.map (fun y => if y.id = x.id then x.kept y pos plane f else y)
      ∧ t.obj (okey (0x4200 + x.yarder) 7) = (s.obj (okey (0x4200 + x.yarder) 7) + 64 * f.len) % 2 ^ 64
      ∧ (∀ j, j ≠ plane → t.link j = s.link j)
      ∧ (t.link plane).inbox = (s.link plane).inbox.drop 1
      ∧ (n % 16 ≠ 0 → (t.link plane).vc1 = (s.link plane).vc1)
      ∧ (n % 16 = 0 → ∃ o, (t.link plane).vc1 = (s.link plane).vc1 ++ [o] ∧ o.flight = some x.id
          ∧ o.frame = s.ctlTo x.ctx ((s.collGroup x).getD pos 0) 3 ((s.obj (okey 0x4000 6) + n) * 2 ^ 32)
              (s.collOf x).coll (s.yarderStep x.ctx x.yarder)) := by
  intro n s1
  have hs1 : s1 = { s with links := s1.links, work := s1.work } := rfl
  have hbox : s1.link plane = { s.link plane with inbox := (s.link plane).inbox.drop 1 } :=
    s.link_updLink_same plane (fun l => { l with inbox := l.inbox.drop 1 })
  have hrest : ∀ j, j ≠ plane → s1.link j = s.link j := fun j hj =>
    s.link_updLink_other (fun l => { l with inbox := l.inbox.drop 1 }) hj
  clear_value s1
  have hframe := s1.dataKept_frame x pos plane f
  have hcount := s1.obj_dataKept_same x pos plane f
  have hcolls : s1.colls = s.colls := by rw [hs1]
  have hobj : ∀ k, s1.obj k = s.obj k := fun k => by rw [hs1]; rfl
  have hctl : ∀ d arg coll step, s1.ctlTo x.ctx d 3 arg coll step = s.ctlTo x.ctx d 3 arg coll step :=
    fun _ _ _ _ => State.ctlTo_congr (by rw [hs1]) (fun k _ => hobj k) ..
  have hstep : s1.yarderStep x.ctx x.yarder = s.yarderStep x.ctx x.yarder := by rw [hs1]; rfl
  have hgroup : s1.collGroup x = s.collGroup x := by rw [hs1]; rfl
  have hcoll : s1.collOf x = s.collOf x := by rw [hs1]; rfl
  rw [s1.takeData_eq x pos plane f hc hy, hctl, hobj, hstep, hgroup, hcoll]
  rw [hobj] at hcount
  rw [hcolls] at hframe
  generalize s1.dataKept x pos plane f = v at hframe hcount ⊢
  have hkept : v.colls = s.colls.map (fun y => if y.id = x.id then x.kept y pos plane f else y) := by rw [hframe]
  have hlinks : ∀ j, v.link j = s1.link j := State.link_congr (by rw [hframe])
  have hv : v = { s with links := v.links, objs := v.objs, colls := v.colls, work := s1.work } := by rw [hframe, hs1]
  split
  · next hn =>
    refine ⟨_, rfl, ?_, hkept, hcount, fun j hj => ?_, ?_, fun h => absurd hn h,
      fun _ => ⟨{ frame := _, flight := _ }, ?_, rfl, rfl⟩⟩
    · exact congrArg (fun u : State => u.updLink plane _) hv
    · exact (v.link_updLink_other _ hj).trans ((hlinks j).trans (hrest j hj))
    · rw [State.sendCtl, State.link_updLink_same, hlinks, hbox]
    · rw [State.sendCtl, State.link_updLink_same, hlinks, hbox]
      rfl
  · next hn =>
    exact ⟨v, rfl, hv, hkept, hcount, fun j hj => (hlinks j).trans (hrest j hj), by rw [hlinks, hbox],
      fun _ => by rw [hlinks, hbox], fun h => absurd h hn⟩

end

/-! ### The statement -/

/-- Settles O34: the control types by their equations, DATA and END by the checks in their order. -/
theorem acceptedFramesReachTheirSteps : Obligations.AcceptedFramesReachTheirSteps := by
  intro s plane f m hp s0 ctx c s1 coll step found
  obtain ⟨edata, eend, eecred, ebeat, eabort, ecommit, ecredit⟩ := exec_frameRows s hp
  have hstand : ∀ {type}, Claims.accepted s plane type f m → s0.checkStand plane f = .ok (ctx, m.1) :=
    State.checkStand_accepted hp
  refine ⟨fun h => ?beat, fun h => ?abort, fun h => ⟨fun hn => ?early, fun x hx => ?raised⟩,
    fun h => ⟨fun hs => ?commitOther, fun hs hc => ?commitAgain, fun hs hc => ?commitFirst⟩,
    fun h => ?credit, fun r hr h => ⟨fun hn => ?noStep, fun x hx => ?dropped⟩, fun x h hx hs => ?data,
    fun x h hx hs => ?endFrame⟩
  case beat => exact ebeat.trans (congrArg _ (beatReceived_accepted hp h))
  case abort => exact eabort.trans (congrArg _ (abortReceived_accepted hp h))
  case early => exact eecred.trans (congrArg _ (ecredReceived_early hp h hn))
  case raised => exact eecred.trans (congrArg _ (ecredReceived_step hp h hx))
  case commitOther => exact ecommit.trans (congrArg _ ((commitFrame_accepted hp h).trans (if_pos hs)))
  case commitAgain =>
    exact ecommit.trans (congrArg _ ((commitFrame_accepted hp h).trans ((if_neg (not_not_intro hs)).trans (if_pos hc))))
  case commitFirst =>
    exact ecommit.trans (congrArg _ ((commitFrame_accepted hp h).trans ((if_neg (not_not_intro hs)).trans
      (if_neg (Bool.eq_false_iff.1 hc)))))
  case credit =>
    intro owner k bound v
    rw [ecredit]
    refine ⟨fun hl => congrArg _ (creditReceived_unloaded hp h hl),
      fun hl hb => congrArg _ (creditReceived_unbound hp h hl hb), fun b hl hb hv => ?_, fun b hl hb hv hr => ?_⟩
    · exact congrArg _ ((creditReceived_bound hp h hl hb).trans (if_pos hv))
    · exact congrArg _ ((creditReceived_bound hp h hl hb).trans ((if_neg (not_lt.2 hv)).trans
        (State.foldl_ringSend_other hr)))
  case noStep => exact exec_dataRow_dropped hp (State.checkData_noStep (hstand h) hn) r hr h.1
  case dropped =>
    intro g pos b sender
    exact ⟨fun hsend => exec_dataRow_dropped hp (State.checkData_noSender (hstand h) hx hsend) r hr h.1,
      fun hsend hs => exec_dataRow_dropped hp (State.checkData_otherStep (hstand h) hx hsend hs) r hr h.1⟩
  case data =>
    intro g pos b k n hg hsnd hpl fmtOk
    have hsend : s0.sendsTo x plane m.1 = true := Bool.and_eq_true_iff.2 ⟨Bool.and_eq_true_iff.2 ⟨hg, hsnd⟩, hpl⟩
    refine ⟨fun hf => ?unfit, fun hf => ?taken⟩
    case unfit =>
      have hunfit := State.checkData_unfit (hstand h) hx hsend hs (State.type_of_inboxHead h.1) hf
      exact exec_dataRow_dropped hp hunfit (.dataFrame plane, 1) List.mem_cons_self h.1
    case taken =>
      have htake := dataReceived_accepted h.1 (State.checkData_ok (hstand h) hx hsend hs fun _ => hf) rfl
      obtain ⟨hctx, hyarder⟩ := State.heardStep_place hx
      have hy : x.yarder < 8 := by omega
      obtain ⟨t, ht, hframe, hcolls, hcount, hother, hbox, hquiet, hgrant⟩ :=
        s.takeData_heard plane pos f (hctx ▸ rxCtx_lt f) hy
      rw [hctx] at hframe
      refine ⟨t, edata.trans (congrArg _ (htake.trans ht)), hframe, hcolls, hcount, hother, hbox, hquiet,
        fun hn => ?_⟩
      obtain ⟨o, hvc1, hflight, ho⟩ := hgrant hn
      exact ⟨o, hvc1, hflight, by rw [ho, hctx, hyarder]⟩
  case endFrame =>
    intro g pos b k hg hsnd hpl
    have hsend : s0.sendsTo x plane m.1 = true := Bool.and_eq_true_iff.2 ⟨Bool.and_eq_true_iff.2 ⟨hg, hsnd⟩, hpl⟩
    have hnot : f.type = 1 → s0.dataFits x pos plane f := fun h1 => by
      rw [State.type_of_inboxHead h.1] at h1
      exact absurd h1 (by decide)
    have htake := endReceived_accepted h.1 (State.checkData_ok (hstand h) hx hsend hs hnot) rfl
    rw [eend, htake, (State.heardStep_place hx).1]
    exact ⟨fun hcrc => congrArg _ (if_pos hcrc), fun hcrc => congrArg _ (if_neg (not_not_intro hcrc))⟩

end Sys2Proof.Machine

/-!
PROOF. Stands: control frames queued on a plane, EPOCH_CMD with its reasons, MEMBER_ENTRY and SELF, BEAT_TIMER,
NO_PROGRESS.
-/

namespace Sys2Proof.Machine

/-! ### Control frames queued on one plane (R182, R183) -/

/-- A state that differs in the control frames that a link has been given after those it had. -/
structure State.Queued (s : State) (p : Nat) (os : List OutFrame) (t : State) : Prop where
  frame : t = { s with links := t.links }
  other : ∀ j, j ≠ p → t.link j = s.link j
  same : t.link p = { s.link p with vc1 := (s.link p).vc1 ++ os }

theorem State.Queued.refl (s : State) (p : Nat) : s.Queued p [] s := ⟨rfl, fun _ _ => rfl, by rw [List.append_nil]⟩

theorem State.Queued.send {s t : State} {p : Nat} {os : List OutFrame} (h : s.Queued p os t) (f : Frame)
    (i : Option Nat) :
    s.Queued p (os ++ [{ frame := f, flight := i }]) (t.sendCtl p f i) where
  frame := by rw [h.frame]; rfl
  other j hj := (t.link_updLink_other _ hj).trans (h.other j hj)
  same := by rw [State.sendCtl, State.link_updLink_same, h.same, List.append_assoc]

/-- Queueing reads nothing of the links: every frame is the one that the state before would queue. -/
theorem State.Queued.foldl {α : Type} {s : State} {p : Nat} {keep : α → Bool} {out : α → OutFrame}
    {act : State → α → State}
    (hact : ∀ l a, act { s with links := l } a = if keep a
      then ({ s with links := l } : State).sendCtl p (out a).frame (out a).flight else { s with links := l })
    (xs : List α) :
    s.Queued p ((xs.filter keep).map out) (xs.foldl act s) := by
  suffices hgen : ∀ (os : List OutFrame) (t : State), s.Queued p os t →
      s.Queued p (os ++ (xs.filter keep).map out) (xs.foldl act t) from hgen [] s (.refl s p)
  induction xs with
  | nil => intro os t h; simpa using h
  | cons a xs ih =>
    intro os t h
    have ha : act t a = if keep a then t.sendCtl p (out a).frame (out a).flight else t := by
      have ha' := hact t.links a
      rwa [← h.frame] at ha'
    rw [List.foldl_cons, ha, List.filter_cons]
    split
    · rw [List.map_cons, List.append_cons]
      exact ih _ _ (h.send _ _)
    · exact ih _ _ h

/-- A broadcast on one live plane reaches every other VALID member (R176, R182). -/
theorem State.broadcast_queued {s : State} {p : Nat} (hp : (s.link p).live = true) (ctx type arg coll : Nat)
    (i : Option Nat) : s.Queued p (((s.validMembers ctx).filter (fun m => m.1 ≠ s.self ctx)).map (fun m =>
      { frame := s.ctlTo ctx m.1 type arg coll (s.yarderStep ctx (p / 2)), flight := i }))
      (s.broadcast ctx type arg coll [p] i) := by
  have hone : s.broadcast ctx type arg coll [p] i = (s.validMembers ctx).foldl (fun u m =>
      if m.1 = u.self ctx then u
      else u.sendCtl p (u.ctlTo ctx m.1 type arg coll (u.yarderStep ctx (p / 2))) i) s := if_pos hp
  rw [hone]
  refine State.Queued.foldl (fun l m => ?_) _
  by_cases hm : m.1 = s.self ctx
  · simp only [hm, ne_eq, not_true_eq_false, decide_false, Bool.false_eq_true, if_false]
    exact if_pos rfl
  · simp only [hm, ne_eq, not_false_eq_true, decide_true, if_true]
    exact if_neg hm

/-! ### EPOCH_CMD (R196, R237, R245, R296) -/

theorem State.scalerDiscard_frame (s : State) (ctx : Nat) : ∃ z, s.scalerDiscard ctx = { s with scaler := z } :=
  List.foldlRecOn (motive := fun t : State => ∃ z, t = { s with scaler := z }) _ _ ⟨_, rfl⟩
    (fun t ht _ _ => by obtain ⟨z, rfl⟩ := ht; exact ⟨_, rfl⟩)

/-- The stand's objects of an accepted EPOCH_CMD, with the prepared counts begun anew. -/
def State.epochSet (s : State) (path ctx : Nat) : State :=
  ((((((s.setObj (okey (standIdx ctx) 0x13) 0).setObj (okey (standIdx ctx) 1)
    (s.pobj path (okey (standIdx ctx) 4))).setObj
    (okey (standIdx ctx) 2) 0).bumpFence ctx).setObj (okey (0x32C0 + ctx) 8) 0).restartDone ctx)

@[simp] theorem State.obj_restartDone (s : State) (ctx k : Nat) : (s.restartDone ctx).obj k = s.obj k := rfl

section
variable {s : State} {path ctx : Nat}

theorem State.obj_epochSet {j : Nat} (hj : j < 256) : (s.epochSet path ctx).obj (okey (standIdx ctx) j)
    = if j = 3 then (s.obj (okey (standIdx ctx) 3) + 1) % 2 ^ 16 else if j = 2 then 0
      else if j = 1 then s.pobj path (okey (standIdx ctx) 4) else if j = 0x13 then 0
      else s.obj (okey (standIdx ctx) j) := by
  have hlatch : okey (standIdx ctx) j ≠ okey (0x32C0 + ctx) 8 := by unfold okey standIdx; omega
  rw [State.epochSet, State.obj_restartDone, State.obj_setObj_other _ _ hlatch]
  simp only [State.bumpFence, State.addObj, State.obj_setObj, okey_same_index]
  rfl

theorem State.obj_epochSet_skew : (s.epochSet path ctx).obj (okey (0x32C0 + ctx) 8) = 0 := by
  rw [State.epochSet, State.obj_restartDone, State.obj_setObj_same]

/-- What an EPOCH_CMD whose epoch is taken leaves (R196, R237, R245, R296). -/
def State.epochTaken (s : State) (path ctx : Nat) : State :=
  (onEpoch (s.epochSet path ctx) ctx).setObj (okey (standIdx ctx) 6) 2

theorem State.epochTaken_eq (s : State) (path ctx : Nat) : ∃ z, s.epochTaken path ctx = { s with
    objs := ((s.epochSet path ctx).setObj (okey (standIdx ctx) 6) 2).objs
    slots := (s.restartDone ctx).slots, scaler := z, commits := s.commits.filter (fun e => e.1 ≠ ctx)
    ctxs := (s.updCtx ctx (fun y => { y with early := [] })).ctxs } := by
  obtain ⟨z, hz⟩ := State.scalerDiscard_frame (s.epochSet path ctx) ctx
  rw [State.epochTaken, onEpoch, hz]
  exact ⟨z, rfl⟩

theorem State.obj_epochTaken (k : Nat) :
    (s.epochTaken path ctx).obj k = if k = okey (standIdx ctx) 6 then 2 else (s.epochSet path ctx).obj k := by
  obtain ⟨z, hz⟩ := s.epochTaken_eq path ctx
  rw [hz]
  exact State.obj_setObj _ _ _ _

/-- The objects of the stand after an EPOCH_CMD whose epoch is taken. -/
theorem State.obj_epochTaken_stand {j : Nat} (hj : j < 256) (h6 : j ≠ 6) :
    (s.epochTaken path ctx).obj (okey (standIdx ctx) j)
    = if j = 3 then (s.obj (okey (standIdx ctx) 3) + 1) % 2 ^ 16 else if j = 2 then 0
      else if j = 1 then s.pobj path (okey (standIdx ctx) 4) else if j = 0x13 then 0
      else s.obj (okey (standIdx ctx) j) := by
  rw [State.obj_epochTaken, if_neg (mt (okey_same_index _ _ _).1 h6), State.obj_epochSet hj]

theorem State.obj_epochTaken_skew : (s.epochTaken path ctx).obj (okey (0x32C0 + ctx) 8) = 0 := by
  rw [State.obj_epochTaken, if_neg (by unfold okey standIdx; omega), State.obj_epochSet_skew]

theorem State.epochReason_zero (ht : s.pobj path (okey (standIdx ctx) 5) = s.fenceToken ctx)
    (hnew : s.epoch ctx < s.pobj path (okey (standIdx ctx) 4)) (ho : s.anyOpen ctx = false)
    (hm : memberValid (s.member ctx (s.self ctx)) = true) : s.epochReason path ctx = 0 := by
  simp only [State.epochReason, ht, not_le.2 hnew, ho, hm, ne_eq, not_true_eq_false, if_false, Bool.false_eq_true,
    Bool.not_true]

variable (ha : s.access path (standIdx ctx) = 0) (hb : s.obj (okey (standIdx ctx) 6) ≠ 1)
include ha hb

theorem epochCmd_refused (hr : s.epochReason path ctx ≠ 0) : epochCmd onEpoch s path ctx
    = (s.setObj (okey (standIdx ctx) 0x13) (s.epochReason path ctx)).setObj (okey (standIdx ctx) 6) 3 := by
  unfold epochCmd
  exact (State.onCmd_at (by decide) _ ha hb).trans (if_pos hr)

theorem epochCmd_taken (hr : s.epochReason path ctx = 0) : epochCmd onEpoch s path ctx = s.epochTaken path ctx := by
  unfold epochCmd
  refine (State.onCmd_at (by decide) _ ha hb).trans ((if_neg (not_not_intro hr)).trans ?_)
  rw [hr]
  rfl

end

/-! ### MEMBER_ENTRY and SELF (R196, R214, R336) -/

section
variable {s : State} {path ctx v : Nat} (ha : s.access path (standIdx ctx) = 0)
include ha

theorem memberEntryWrite_refused {r : Nat} (hr : s.entryReason ctx (s.pobj path (okey (standIdx ctx) 8)) v = some r) :
    memberEntryWrite s path ctx v = (s.setObj (okey (standIdx ctx) 0x13) r).dictRefuse path (okey (standIdx ctx) 9)
      (if r = 6 then 4 else 8) := by
  simp only [memberEntryWrite, hr]
  exact State.onWrite_at (by decide) _ ha

theorem memberEntryWrite_taken (hr : s.entryReason ctx (s.pobj path (okey (standIdx ctx) 8)) v = none) :
    memberEntryWrite s path ctx v = ({ s with
      members := Tab.put 0 s.members (ctx * 16384 + s.pobj path (okey (standIdx ctx) 8)) v } : State).showMembers
        ctx := by
  simp only [memberEntryWrite, hr]
  exact State.onWrite_at (by decide) _ ha

theorem selfWrite_open (ho : s.anyOpen ctx = true) : selfWrite s path ctx v
    = (s.setObj (okey (standIdx ctx) 0x13) 3).dictRefuse path (okey (standIdx ctx) 7) 8 := by
  unfold selfWrite
  exact (if_pos ho).trans (State.onWrite_at (by decide) _ ha)

theorem selfWrite_range (ho : s.anyOpen ctx = false) (hv : 16383 < v) :
    selfWrite s path ctx v = s.dictRefuse path (okey (standIdx ctx) 7) 3 := by
  unfold selfWrite
  refine (if_neg (Bool.eq_false_iff.1 ho)).trans ((if_pos hv).trans (State.onWrite_refused _ ?_))
  rwa [okey_div _ (by decide)]

theorem selfWrite_taken (ho : s.anyOpen ctx = false) (hv : v ≤ 16383) :
    selfWrite s path ctx v = s.setObj (okey (standIdx ctx) 7) v := by
  unfold selfWrite
  exact (if_neg (Bool.eq_false_iff.1 ho)).trans ((if_neg (not_lt.2 hv)).trans (State.onWrite_at (by decide) _ ha))

end

section
variable {s : State} {path ctx v : Nat}

theorem exec_standRows (s : State) (hp : path < 18) (hc : ctx < 64) :
    exec (.epochCmd path ctx) s = .next (epochCmd onEpoch s path ctx)
    ∧ (v < 2 ^ 64 → exec (.memberEntryWrite path ctx v) s = .next (memberEntryWrite s path ctx v))
    ∧ (v < 2 ^ 32 → exec (.selfWrite path ctx v) s = .next (selfWrite s path ctx v)) :=
  ⟨need_ok (atOk_of_lt hp hc) _, fun hv => need_ok (Bool.and_eq_true_iff.2 ⟨atOk_of_lt hp hc, decide_eq_true hv⟩) _,
    fun hv => need_ok (Bool.and_eq_true_iff.2 ⟨atOk_of_lt hp hc, decide_eq_true hv⟩) _⟩

end

/-! ### BEAT_TIMER and NO_PROGRESS (R211, R212) -/

/-- The planes that carry frames. -/
def State.livePlanes (s : State) : List Nat := (List.range 16).filter (fun p => (s.link p).live)

/-- The plane whose turn it is. -/
def State.beatPlane (s : State) (ctx : Nat) : Nat :=
  s.livePlanes.getD (Tab.get 0 s.beatTurn ctx % s.livePlanes.length) 0

theorem State.beatPlane_live {s : State} (h : s.livePlanes ≠ []) (ctx : Nat) :
    (s.link (s.beatPlane ctx)).live = true := by
  have hlt : Tab.get 0 s.beatTurn ctx % s.livePlanes.length < s.livePlanes.length :=
    Nat.mod_lt _ (List.length_pos_of_ne_nil h)
  have hmem : s.beatPlane ctx ∈ s.livePlanes := by
    rw [State.beatPlane, List.getD_eq_getElem _ _ hlt]
    exact List.getElem_mem hlt
  exact (List.mem_filter.1 hmem).2

/-- What keeps a context from beating (R211). -/
def State.noBeat (s : State) (ctx : Nat) : Prop :=
  s.dieRuns = false ∨ s.loaded ctx = false ∨ (s.ctx ctx).held = true ∨ s.epoch ctx = 0 ∨ s.fenced ctx = true
    ∨ s.livePlanes = []

theorem State.noBeat_iff (s : State) (ctx : Nat) : s.noBeat ctx ↔ (!s.dieRuns || !s.loaded ctx || (s.ctx ctx).held
    || s.epoch ctx = 0 || s.fenced ctx || s.livePlanes = []) = true := by
  simp only [State.noBeat, Bool.or_eq_true, Bool.not_eq_true', decide_eq_true_eq, or_assoc]

theorem beatTimer_silent {s : State} {ctx : Nat} (h : s.noBeat ctx) : beatTimer s ctx = s :=
  if_pos ((s.noBeat_iff ctx).1 h)

theorem beatTimer_beats {s : State} {ctx : Nat} (h : ¬ s.noBeat ctx) : ∃ arg, beatTimer s ctx
    = ({ s with beatTurn := Tab.put 0 s.beatTurn ctx (Tab.get 0 s.beatTurn ctx + 1) } : State).broadcast ctx 4
      (arg * 2 ^ 48) 0 [s.beatPlane ctx] none :=
  ⟨_, if_neg (mt (s.noBeat_iff ctx).2 h)⟩

/-- Whether an open step of a context awaits a member: the first that does (R195, R212). -/
def State.awaiting (s : State) (ctx member : Nat) : Option CollStep :=
  s.colls.find? (fun x => x.ctx = ctx && s.awaits x member)

theorem State.awaiting_none {s : State} {ctx member : Nat}
    (h : ∀ x ∈ s.colls, x.ctx = ctx → s.awaits x member = false) :
    s.awaiting ctx member = none :=
  List.find?_eq_none.2 fun x hx hc => by
    obtain ⟨hctx, haw⟩ := Bool.and_eq_true_iff.1 hc
    exact absurd ((h x hx (of_decide_eq_true hctx)).symm.trans haw) (by decide)

theorem noProgress_off {s : State} (h : s.dieRuns = false) (ctx member : Nat) : noProgress s ctx member = s :=
  if_pos (congrArg not h)

theorem noProgress_on {s : State} (h : s.dieRuns = true) (ctx member : Nat) : noProgress s ctx member
    = (s.awaiting ctx member).elim s (fun x => s.abortStand ctx 1 member (s.collOf x).coll x.yarder none) := by
  refine (if_neg (Bool.eq_false_iff.1 (congrArg not h))).trans ?_
  change _ = Option.elim (s.colls.find? (fun x => x.ctx = ctx && s.awaits x member)) _ _
  cases s.colls.find? (fun x => x.ctx = ctx && s.awaits x member) <;> rfl

/-! ### The statement -/

/-- Settles O35: each command by its first reason or its change, the beats as frames queued on one plane. -/
theorem standsAreSetByTheHost : Obligations.StandsAreSetByTheHost := by
  refine ⟨?stand, ?beats, ?noProgress⟩
  case stand =>
    intro s path ctx hp hc ha i new
    have hrows := fun v => exec_standRows (v := v) s hp hc
    refine ⟨fun hb ht hnew ho hm => ?taken, fun r hb hr h0 => ?refused, fun v hv => ?member, fun v hv => ?self⟩
    case taken =>
      rw [(hrows 0).1, epochCmd_taken ha hb (State.epochReason_zero ht hnew ho hm)]
      have hobj := fun {j : Nat} => State.obj_epochTaken_stand (s := s) (path := path) (ctx := ctx) (j := j)
      have hskew := State.obj_epochTaken_skew (s := s) (path := path) (ctx := ctx)
      have hdone := State.obj_epochTaken (s := s) (path := path) (ctx := ctx) (okey i 6)
      obtain ⟨z, hz⟩ := s.epochTaken_eq path ctx
      generalize s.epochTaken path ctx = t at hobj hskew hdone hz ⊢
      refine ⟨t, rfl, hobj (by decide) (by decide), ?_, hobj (by decide) (by decide), hskew,
        hobj (by decide) (by decide), hdone.trans (if_pos rfl), by rw [hz], by rw [hz], ?_, by rw [hz]⟩
      · have hfence : t.obj (okey i 2) = 0 := hobj (by decide) (by decide)
        exact decide_eq_false (by rw [hfence]; decide)
      · rw [hz]
        exact congrArg Ctx.early (State.ctx_updCtx_same s ctx (fun y => { y with early := [] }))
    case refused =>
      have hreason : r = s.epochReason path ctx := hr
      rw [(hrows 0).1, hreason, epochCmd_refused ha hb (hreason ▸ h0)]
    case member =>
      intro sel used reserved
      rw [(hrows v).2.1 hv]
      refine ⟨fun ho => congrArg _ (memberEntryWrite_refused ha (if_pos ho)), fun ho hu => ?used,
        fun ho hu hr => ?reserved, fun ho hu hr => ?entered⟩
      case used => exact congrArg _ (memberEntryWrite_refused ha ((if_neg (Bool.eq_false_iff.1 ho)).trans (if_pos hu)))
      case reserved =>
        have hbits : (bits v 62 54 ≠ 0 || bits v 11 0 ≠ 0) = true := by simpa using hr
        exact congrArg _ (memberEntryWrite_refused ha ((if_neg (Bool.eq_false_iff.1 ho)).trans
          ((if_neg (Bool.eq_false_iff.1 hu)).trans (if_pos hbits))))
      case entered =>
        have hbits : ¬ (bits v 62 54 ≠ 0 || bits v 11 0 ≠ 0) = true := fun h => hr (by simpa using h)
        have hnone : s.entryReason ctx sel v = none :=
          (if_neg (Bool.eq_false_iff.1 ho)).trans ((if_neg (Bool.eq_false_iff.1 hu)).trans (if_neg hbits))
        rw [memberEntryWrite_taken ha hnone]
        exact ⟨_, rfl, rfl, Tab.get_put_same _ _ _ _, fun c p hcp => Tab.get_put_other _ _ hcp,
          State.obj_setObj_same _ _ _⟩
    case self =>
      rw [(hrows v).2.2 hv]
      exact ⟨fun ho => congrArg _ (selfWrite_open ha ho), fun ho hv => congrArg _ (selfWrite_range ha ho hv),
        fun ho hv => congrArg _ (selfWrite_taken ha ho hv)⟩
  case beats =>
    intro s ctx hc planes turn p
    have hexec : exec (.beatTimer ctx) s = .next (beatTimer s ctx) := need_ok (decide_eq_true hc) _
    rw [hexec]
    refine ⟨fun h => congrArg _ (beatTimer_silent h), fun hd hl hh he hf hpl => ?_⟩
    have hbeat : ¬ s.noBeat ctx := by
      rintro (h | h | h | h | h | h)
      exacts [Bool.eq_false_iff.1 h hd, Bool.eq_false_iff.1 h hl, Bool.eq_false_iff.1 hh h, he h,
        Bool.eq_false_iff.1 hf h, hpl h]
    obtain ⟨arg, harg⟩ := beatTimer_beats hbeat
    have hq := State.broadcast_queued (s := { s with beatTurn := Tab.put 0 s.beatTurn ctx (turn + 1) })
      (State.beatPlane_live hpl ctx) ctx 4 (arg * 2 ^ 48) 0 none
    refine ⟨_, arg, congrArg _ harg, hq.frame, hq.other, ?_⟩
    rw [show p = s.beatPlane ctx from rfl, hq.same]
    rfl
  case noProgress =>
    intro s ctx member hc hm
    have hexec : exec (.noProgress ctx member) s = .next (noProgress s ctx member) :=
      need_ok (Bool.and_eq_true_iff.2 ⟨decide_eq_true hc, decide_eq_true hm⟩) _
    rw [hexec]
    refine ⟨fun h => congrArg _ ?_, fun x hd hx => congrArg _ ?_⟩
    · by_cases hd : s.dieRuns = true
      · have hw := h.resolve_left (Bool.eq_false_iff.not.2 (not_not_intro hd))
        rw [noProgress_on hd, State.awaiting_none hw]; rfl
      · exact noProgress_off (Bool.eq_false_iff.2 hd) ctx member
    · rw [noProgress_on hd, show s.awaiting ctx member = some x from hx]; rfl

end Sys2Proof.Machine

/-!
PROOF. Collective steps under way: start, completion, the commit round, and the fixed order of a reduction.
-/

namespace Sys2Proof.Machine

/-! ### The start of a step that carries data (R135, R150, R205, R210, R361) -/

/-- Each row starts as its opcode; a RECV reads no source. -/
theorem exec_collStart (s : State) (id : Nat) (err : Option Nat) : ∀ r ∈ Claims.collRows (.start id err),
    exec r.1 s = .next (s.startColl id r.2 (if r.2 = 0xA4 then none else err)) := by
  intro r hr
  unfold Claims.collRows at hr
  fin_cases hr <;> rfl

section
variable {s : State} {id op : Nat} {f : Flight} {x : CollStep} {err : Option Nat}
    (hf : s.startableStep id op = some f) (hx : s.collStep id = some x)
include hf hx

theorem State.startColl_blocked {a : Nat} (hb : s.sourceBlocked x = some a) :
    s.startColl id op err = (s.closeColl id).c6Fault f a := by
  simp only [State.startColl, hf, hx, hb]

variable (hb : s.sourceBlocked x = none)
include hb

theorem State.startColl_fails {a : Nat} (he : (err.bind (s.readAddr x)).or (s.readDown x) = some a) :
    s.startColl id op err = (s.closeColl id).memFault f a := by
  simp only [State.startColl, hf, hx, hb, he]

variable (he : (err.bind (s.readAddr x)).or (s.readDown x) = none)
include he

theorem State.startColl_badCount (hp : s.firstPieces x = none) : s.startColl id op err
    = ((s.countReads x).updFlight id (fun g => { g with phase := .running })).holdShell 0x5010 f.owner f.ctx 0 := by
  simp only [State.startColl, hf, hx, hb, he, hp]

/-- The source of a step with SCAL is counted where its descriptor is held (R296). -/
theorem State.startColl_runs {e : List RVal × List OutEntry} (hp : s.firstPieces x = some e) : s.startColl id op err =
    let b := s.collOf x
    let s1 := (((s.countReads x).updFlight id (fun g => { g with phase := .running })).updColl id (fun y =>
      { y with started := true, own := e.1 })).queueOut id e.2
    ((s.collDesc x b.sdesc).elim s1 (fun d =>
      if b.scal then s1.countSource x b (s.linVals x.ctx d b.sstart b.count) else s1)).advance id := by
  simp only [State.startColl, hf, hx, hb, he, hp]
  cases s.collDesc x (s.collOf x).sdesc <;> rfl

end

/-! ### COLLECTIVE_COMPLETE (R202, R208, R210) -/

/-- When a step that carries data may complete: started, everything sent and acknowledged, every stripe checked, RING's
rounds or AR's gather done (R202, R210). -/
def State.collReady (s : State) (x : CollStep) : Prop :=
  (s.collOf x).op ≠ 0xA7 ∧ x.started = true ∧ s.sentAll x = true
    ∧ s.stripesDone x ((s.collOf x).stripes x.format) = true
    ∧ ((s.collOf x).op = 0xA6 → x.rounds = (s.collOf x).rounds ∧ x.phase = (s.collOf x).rounds)
    ∧ ((s.collOf x).op = 0xA2 → (s.collOf x).oneshot x.format = true ∨ x.phase = 1)

theorem State.collReady_iff (s : State) (x : CollStep) : s.collReady x ↔ ((s.collOf x).op ≠ 0xA7 && x.started
    && s.sentAll x && s.stripesDone x ((s.collOf x).stripes x.format)
    && ((s.collOf x).op ≠ 0xA6 || (x.rounds = (s.collOf x).rounds && x.phase = (s.collOf x).rounds))
    && ((s.collOf x).op ≠ 0xA2 || (s.collOf x).oneshot x.format || x.phase = 1)) = true := by
  simp only [State.collReady, imp_iff_not_or, Bool.and_eq_true, Bool.or_eq_true, decide_eq_true_eq, and_assoc, or_assoc,
    ne_eq]

section
variable {s : State} {id : Nat}

theorem collectiveComplete_closed (h : s.collStep id = none) : collectiveComplete s id = s := by
  simp only [collectiveComplete, h]

theorem commitComplete_closed (h : s.collStep id = none) : commitComplete s id = s := by
  simp only [commitComplete, h]

variable {x : CollStep} {f : Flight} (hx : s.collStep id = some x) (hf : s.flight id = some f)
include hx hf

theorem collectiveComplete_waits (h : ¬ (s.collReady x ∧ s.dieRuns = true ∧ s.unitDown f.owner = false)) :
    collectiveComplete s id = s := by
  simp only [collectiveComplete, hx, hf]
  refine if_pos ?_
  by_contra hgo
  simp only [Bool.or_eq_true, Bool.not_eq_true', not_or, Bool.not_eq_false, Bool.not_eq_true] at hgo
  exact h ⟨(s.collReady_iff x).2 hgo.1.1, hgo.1.2, hgo.2⟩

theorem collectiveComplete_ends (h : s.collReady x) (hd : s.dieRuns = true) (hu : s.unitDown f.owner = false) :
    collectiveComplete s id = (s.writeOutput x).2.elim (((s.writeOutput x).1.closeColl id).complete f) (fun a =>
      ((s.writeOutput x).1.closeColl id).accFault f a.1 a.2) := by
  have hready := (s.collReady_iff x).1 h
  simp only [collectiveComplete, hx, hf]
  refine (if_neg ?_).trans ?_
  · rw [hready, hd, hu]; decide
  · cases (s.writeOutput x).2 <;> rfl

end

/-! ### COMMIT (R210, R237, R242, R296) -/

/-- A state that differs in the control frames that each of some links has been given after those it had. -/
structure State.QueuedOn (s : State) (ps : List Nat) (os : List OutFrame) (t : State) : Prop where
  frame : t = { s with links := t.links }
  vc1 : ∀ p, (t.link p).vc1 = (s.link p).vc1 ++ if p ∈ ps then os else []

/-- Frames queued on each of some links, no link twice, are on each of them. -/
theorem State.QueuedOn.foldl {s : State} {os : List OutFrame} {act : State → Nat → State}
    (hact : ∀ l p, State.Queued { s with links := l } p os (act { s with links := l } p))
    {ps : List Nat} (hps : ps.Nodup) :
    s.QueuedOn ps os (ps.foldl act s) := by
  suffices hgen : ∀ l, State.QueuedOn { s with links := l } ps os (ps.foldl act { s with links := l }) from hgen s.links
  induction ps with
  | nil => intro l; exact ⟨rfl, fun p => by simp⟩
  | cons q ps ih =>
    intro l
    obtain ⟨hq, hps⟩ := List.nodup_cons.1 hps
    have hone := hact l q
    have hrest := ih hps (act { s with links := l } q).links
    rw [← hone.frame] at hrest
    refine ⟨by rw [List.foldl_cons, hrest.frame, hone.frame], fun p => ?_⟩
    rw [List.foldl_cons, hrest.vc1 p]
    by_cases hp : p = q
    · rw [hp, hone.same, if_neg hq, if_pos List.mem_cons_self, List.append_nil]
    · rw [hone.other p hp]
      simp only [List.mem_cons, hp, false_or]

theorem CollBody.planeList_nodup (b : CollBody) (c : Nat) : (b.planeList c).Nodup := by
  unfold CollBody.planeList
  split <;> split <;> simp

/-- COMMIT goes to every other member of its group on each of its planes that carries frames (R210). -/
theorem State.startCommit_sends {s : State} {id : Nat} {f : Flight} {x : CollStep}
    (hf : s.startableStep id 0xA7 = some f) (hx : s.collStep id = some x) : State.QueuedOn
      ((s.updFlight f.id (fun g => { g with phase := .running })).updColl id (fun y => { y with started := true }))
      (((s.collOf x).planeList x.yarder).filter (fun p => (s.link p).live))
      (((s.collGroup x).filter (fun m => m ≠ s.self x.ctx)).map (fun m =>
        { frame := s.ctlTo x.ctx m 6 0 (s.collOf x).coll (s.yarderStep x.ctx x.yarder), flight := some id }))
      (s.startCommit id) := by
  simp only [State.startCommit, hf, hx]
  refine State.QueuedOn.foldl (fun l p => ?_) ((CollBody.planeList_nodup _ _).filter _)
  have hall := State.Queued.foldl
    (s := { ((s.updFlight f.id (fun g => { g with phase := .running })).updColl id (fun y =>
      { y with started := true })) with links := l }) (p := p) (keep := fun _ => true)
    (out := fun m =>
      { frame := s.ctlTo x.ctx m 6 0 (s.collOf x).coll (s.yarderStep x.ctx x.yarder), flight := some id })
    (act := fun u m => u.sendCtl p (u.ctlTo x.ctx m 6 0 (s.collOf x).coll (s.yarderStep x.ctx x.yarder)) (some id))
    (fun _ _ => rfl) ((s.collGroup x).filter (fun m => m ≠ s.self x.ctx))
  rwa [List.filter_true] at hall

/-- When COMMIT may complete: started, its frames acknowledged, every other member's COMMIT accepted (R210). -/
def State.commitReady (s : State) (f : Flight) (x : CollStep) : Prop :=
  f.op = 0xA7 ∧ x.started = true ∧ s.sentAll x = true
    ∧ (∀ p, p < (s.collGroup x).length → p ≠ s.collPos x → p ∈ x.commits)
    ∧ s.dieRuns = true ∧ s.unitDown f.owner = false

theorem State.commitReady_iff (s : State) (f : Flight) (x : CollStep) : s.commitReady f x ↔ (f.op = 0xA7 && x.started
    && s.sentAll x && ((List.range (s.collGroup x).length).filter (fun p => p ≠ s.collPos x)).all (fun p =>
      x.commits.contains p) && s.dieRuns && !s.unitDown f.owner) = true := by
  simp only [State.commitReady, Bool.and_eq_true, decide_eq_true_eq, and_assoc, ne_eq, List.all_eq_true,
    List.mem_filter, List.mem_range, List.contains_iff_mem, and_imp, Bool.not_eq_true']

section
variable {s : State} {id : Nat} {x : CollStep} {f : Flight} (hx : s.collStep id = some x) (hf : s.flight id = some f)
include hx hf

theorem commitComplete_waits (h : ¬ s.commitReady f x) : commitComplete s id = s := by
  simp only [commitComplete, hx, hf]
  exact if_pos (congrArg not (Bool.eq_false_iff.2 (mt (s.commitReady_iff f x).2 h)))

theorem commitComplete_ends (h : s.commitReady f x) : commitComplete s id =
    let n := s.yarderStep x.ctx x.yarder
    let s1 := (List.range 4).foldl (fun u q => u.dieXfer q (mkXfer 9 0 x.ctx 0 0 0 0 n 0 0 0 0 false []))
      (s.setObj (okey (0x32C0 + x.ctx) 1) n)
    let s2 := (s1.scalerCommit x.ctx n).restartDone x.ctx
    let s3 : State := { s2 with commits := s2.commits.filter (fun e => !(e.1 = x.ctx && e.2.1 ≤ n)) }
    (s3.closeColl id).complete f := by
  simp only [commitComplete, hx, hf]
  exact if_neg (Bool.eq_false_iff.1 (congrArg not ((s.commitReady_iff f x).1 h)))

end

/-! ### The fixed order of a reduction (R206, R207) -/

/-- The reduced chunk reads of the frames that came no more than what came from each position (R206). -/
theorem State.reduced_congr (s : State) (x : CollStep) (rx : List RxFrame) (hfix : s.fixedOrder x = true)
    (h : ∀ p, (rx.filter (fun r => r.phase = 0)).filter (fun r => r.pos = p)
      = (x.rx.filter (fun r => r.phase = 0)).filter (fun r => r.pos = p)) :
    s.reduced { x with rx := rx } = s.reduced x := by
  have hfix' : s.fixedOrder { x with rx := rx } = true := hfix
  unfold State.reduced
  simp only [hfix, hfix', if_true, h]
  rfl

/-! ### The statement -/

/-- Settles O37: the start by what bars it, the completions by when they may, COMMIT's frames plane by plane. -/
theorem collectiveStepsStartAndComplete : Obligations.CollectiveStepsStartAndComplete := by
  refine ⟨?start, ?complete,
    fun s id h => ⟨congrArg _ (collectiveComplete_closed h), congrArg _ (commitComplete_closed h)⟩,
    ?commit, State.reduced_congr⟩
  case start =>
    intro s id f x err r hr hf hx fails s0
    rw [exec_collStart s id err r hr]
    exact ⟨fun a hb => congrArg _ (State.startColl_blocked hf hx hb),
      fun a hb he => congrArg _ (State.startColl_fails hf hx hb he),
      fun hb he hp => congrArg _ (State.startColl_badCount hf hx hb he hp),
      fun e hb he hp => congrArg _ (State.startColl_runs hf hx hb he hp)⟩
  case complete =>
    intro s id f x hx hf b ready free r
    have hexec : exec (.collectiveComplete id) s = .next (collectiveComplete s id) := rfl
    rw [hexec]
    refine ⟨fun hr hfree h => congrArg _ ?_, fun a hr hfree h => congrArg _ ?_,
      fun h => congrArg _ (collectiveComplete_waits hx hf h)⟩
    all_goals
      rw [collectiveComplete_ends hx hf hr hfree.1 hfree.2, show (s.writeOutput x).2 = _ from h]
      rfl
  case commit =>
    intro s id f x hx b n
    refine ⟨fun hf => ?starts, fun hf => ?completes⟩
    case starts =>
      have hexec : exec (.commitStep (.start id)) s = .next (s.startCommit id) := rfl
      obtain ⟨hframe, hvc1⟩ := State.startCommit_sends hf hx
      have hid : f.id = id := State.flight_id (State.startableStep_flight hf)
      rw [hexec]
      generalize s.startCommit id = t at hframe hvc1 ⊢
      rw [hid] at hframe hvc1
      refine ⟨t, rfl, ?_, ?_, ?_, fun p => ?_⟩
      · rw [hframe]; rfl
      · rw [hframe]; rfl
      · rw [hframe]; rfl
      · rw [hvc1 p]
        simp only [List.mem_filter, Bool.and_eq_true, List.contains_iff_mem]
        rfl
    case completes =>
      intro ready
      have hexec : exec (.commitComplete id) s = .next (commitComplete s id) := rfl
      rw [hexec]
      exact ⟨fun h => congrArg _ (commitComplete_waits hx hf h), fun h => congrArg _ (commitComplete_ends hx hf h)⟩

end Sys2Proof.Machine

/-!
PROOF. STOP_STEP: a write takes effect at once and reads back, and a STEPMARK above it stays at the head of its stream.
-/

namespace Sys2Proof.Machine

/-- Beside RESTING and REST_STEP no object changes in the rest check, of the same index or another (R220). -/
theorem State.obj_restCheck_of_ne (s : State) (ctx : Nat) {k : Nat} (h : k ≠ okey (0x2100 + ctx) 0x0A)
    (h' : k ≠ okey (0x2100 + ctx) 0x0B) : (s.restCheck ctx).obj k = s.obj k := by
  unfold State.restCheck
  dsimp only
  split
  · rw [State.obj_noteReplay, State.obj_setObj_other _ _ h', State.obj_setObj_other _ _ h]
    split
    · rfl
    · exact s.obj_signal _ k
  · rw [State.obj_setObj_other _ _ h', State.obj_setObj_other _ _ h]

/-- A STEPMARK whose number lies above STOP_STEP is stopped (R219). -/
theorem State.stopped_of_lt {s : State} {ctx : Nat} {w : W128} (hop : fld w 127 120 = 0x02)
    (hn : s.obj (okey (0x2100 + ctx) 9) < fld w 31 0) : s.stopped ctx w = true :=
  Bool.and_eq_true_iff.2 ⟨decide_eq_true hop, decide_eq_true hn⟩

/-- Settles O9: the served write is its one change and the rest check, which leaves STOP_STEP; a stopped STEPMARK is the
first reason for which the dispatch leaves the state. -/
theorem stopStepHoldsStepmarks : Obligations.StopStepHoldsStepmarks := by
  refine ⟨?write, ?held⟩
  case write =>
    intro s path ctx v hp hc hv ha
    refine ⟨?_, ?_⟩
    · refine (need_ok (Bool.and_eq_true_iff.2 ⟨atOk_of_lt hp hc, decide_eq_true hv⟩) _).trans
        (congrArg _ ?_)
      unfold stopStepWrite
      exact State.onWrite_at (by decide) _ ha
    · rw [State.obj_restCheck_of_ne _ _ (mt (okey_same_index _ _ _).1 (by decide))
        (mt (okey_same_index _ _ _).1 (by decide)), State.obj_setObj_same]
  case held =>
    intro s sh h hw hr hn
    obtain ⟨-, hop, -⟩ := State.readyHead_head hr
    exact (need_ok hw _).trans (congrArg _ (State.dispatchNow_stop hr (if_pos (State.stopped_of_lt hop hn))))

end Sys2Proof.Machine

/-!
PROOF. STEP_CMD: the steps of a context and what SET_STEP leaves, what a snapshot, a restore and an emission change, and
the action that runs until STEP_ACTION_COMPLETE.
-/

namespace Sys2Proof.Machine

/-! ### How an action ends (R247) -/

section
variable (s : State) (ctx r : Nat)

theorem State.obj_stepEnd_result : (s.stepEnd ctx r).obj (okey (0x32C0 + ctx) 4) = r := by
  rw [State.stepEnd, State.obj_setObj_other _ _ (mt (okey_same_index _ _ _).1 (by decide)), State.obj_setObj_same]

theorem State.obj_stepEnd_cmd : (s.stepEnd ctx r).obj (okey (0x32C0 + ctx) 3) = if r = 0 then 2 else 3 :=
  State.obj_setObj_same _ _ _

theorem State.obj_stepEnd_other {k : Nat} (h3 : k ≠ okey (0x32C0 + ctx) 3) (h4 : k ≠ okey (0x32C0 + ctx) 4) :
    (s.stepEnd ctx r).obj k = s.obj k :=
  (State.obj_setObj_other _ _ h3).trans (State.obj_setObj_other _ _ h4)

/-- STEP_CMD and its result are neither a counter of a Planer nor COMMITTED_STEP. -/
theorem State.stepCtr_stepEnd {q c : Nat} (hq : q < 4) (hc : c < 64) :
    (s.stepEnd ctx r).stepCtr q c = s.stepCtr q c :=
  s.obj_stepEnd_other ctx r (okey_ne (by omega) (by decide) (.inl (by omega)))
    (okey_ne (by omega) (by decide) (.inl (by omega)))

theorem State.committed_stepEnd (c : Nat) : (s.stepEnd ctx r).committed c = s.committed c :=
  s.obj_stepEnd_other ctx r (okey_ne (by decide) (by decide) (.inr (by decide)))
    (okey_ne (by decide) (by decide) (.inr (by decide)))

theorem State.snapStep_stepEnd : (s.stepEnd ctx r).snapStep ctx = s.snapStep ctx :=
  s.obj_stepEnd_other ctx r (mt (okey_same_index _ _ _).1 (by decide)) (mt (okey_same_index _ _ _).1 (by decide))

end

/-! ### The steps of a context (R236, R245) -/

/-- One value written to each object of a list. -/
theorem State.obj_foldl_setObj (key : Nat → Nat) (v k : Nat) (l : List Nat) (s : State) :
    (l.foldl (fun t q => t.setObj (key q) v) s).obj k = if ∃ q ∈ l, k = key q then v else s.obj k := by
  induction l generalizing s with
  | nil => simp
  | cons q l ih =>
    rw [List.foldl_cons, ih, State.obj_setObj]
    by_cases hl : ∃ q ∈ l, k = key q <;> by_cases hq : k = key q <;> simp [hl, hq]

section
variable (s : State) (ctx v : Nat)

theorem State.setSteps_frame : ∃ b, s.setSteps ctx v = { s with objs := b } := ⟨_, rfl⟩

theorem State.committed_setSteps : (s.setSteps ctx v).committed ctx = v := State.obj_setObj_same _ _ _

theorem State.stepCtr_setSteps {q : Nat} (hq : q < 4) (hc : ctx < 64) : (s.setSteps ctx v).stepCtr q ctx = v := by
  have hne : okey (0x3280 + q) (0x40 + ctx) ≠ okey (0x32C0 + ctx) 1 :=
    okey_ne (by omega) (by decide) (.inl (by omega))
  rw [State.stepCtr, State.setSteps, State.obj_setObj_other _ _ hne,
    State.obj_foldl_setObj (fun q => okey (0x3280 + q) (0x40 + ctx))]
  exact if_pos ⟨q, List.mem_range.2 hq, rfl⟩

/-- A context's steps are its own four counters and its COMMITTED_STEP. -/
theorem State.obj_setSteps_other {k : Nat} (h : k ≠ okey (0x32C0 + ctx) 1)
    (hq : ∀ q, q < 4 → k ≠ okey (0x3280 + q) (0x40 + ctx)) : (s.setSteps ctx v).obj k = s.obj k := by
  rw [State.setSteps, State.obj_setObj_other _ _ h, State.obj_foldl_setObj (fun q => okey (0x3280 + q) (0x40 + ctx))]
  exact if_neg fun ⟨q, hmem, he⟩ => hq q (List.mem_range.1 hmem) he

end

/-! ### What SET_STEP does (R245, R295, R296) -/

theorem State.scalerEmpty_frame (s : State) (ctx : Nat) : ∃ z, s.scalerEmpty ctx = { s with scaler := z } :=
  List.foldlRecOn (motive := fun t : State => ∃ z, t = { s with scaler := z }) _ _ ⟨_, rfl⟩
    (fun t ht _ _ => by obtain ⟨z, rfl⟩ := ht; exact ⟨_, rfl⟩)

theorem State.scalerSetStep_frame (s : State) (ctx : Nat) :
    ∃ z c, s.scalerSetStep ctx = { s with scaler := z, scalerC := c } := by
  obtain ⟨y, hy⟩ := s.scalerDiscard_frame ctx
  obtain ⟨z, hz⟩ := State.scalerEmpty_frame { s with scaler := y } ctx
  rw [State.scalerSetStep, hy, hz]
  exact ⟨z, _, rfl⟩

/-- The slots, with APPLIED of every granule of the context's own set to a step and nothing of them TORN (R231, R245). -/
def State.slotsAt (s : State) (ctx v : Nat) : Tab Slot :=
  s.slots.map (fun e => (e.1, if e.2.owner = some ctx then { e.2 with base := v, grans := [] } else e.2))

/-- The objects that SET_STEP writes: the steps, SKEW_LATCH and COMMIT_HOLD with its reasons (R245, R295). -/
def State.stepObjs (s : State) (ctx v : Nat) : State :=
  ((s.setSteps ctx v).setObj (okey (0x32C0 + ctx) 8) 0).clearCommitHold ctx

section
variable (s : State) (ctx v : Nat)

theorem State.doSetStep_eq : ∃ z c, s.doSetStep ctx v
    = { s with objs := (s.stepObjs ctx v).objs, slots := s.slotsAt ctx v, scaler := z, scalerC := c } := by
  obtain ⟨b, hb⟩ := s.setSteps_frame ctx v
  unfold State.doSetStep State.stepObjs
  rw [hb]
  obtain ⟨z, c, h⟩ := State.scalerSetStep_frame (State.clearCommitHold
    { ({ s with objs := b } : State).setObj (okey (0x32C0 + ctx) 8) 0 with slots := s.slotsAt ctx v } ctx) ctx
  exact ⟨z, c, h⟩

/-- Outside the integrity objects SET_STEP writes the steps and clears SKEW_LATCH. -/
theorem State.obj_doSetStep {i j : Nat} (hj : j < 256) (h : i ≠ intIdx ctx) : (s.doSetStep ctx v).obj (okey i j)
    = if okey i j = okey (0x32C0 + ctx) 8 then 0 else (s.setSteps ctx v).obj (okey i j) := by
  obtain ⟨z, c, hset⟩ := s.doSetStep_eq ctx v
  obtain ⟨-, -, hother⟩ := ((s.setSteps ctx v).setObj (okey (0x32C0 + ctx) 8) 0).obj_clearCommitHold ctx
  rw [hset]
  exact (hother _ (okey_ne hj (by decide) (.inl h)) (okey_ne hj (by decide) (.inl h))).trans (State.obj_setObj ..)

theorem State.skewLatch_doSetStep (_ : ctx < 64) : (s.doSetStep ctx v).obj (okey (0x32C0 + ctx) 8) = 0 := by
  rw [State.obj_doSetStep _ _ _ (by decide) (by unfold intIdx; omega), if_pos rfl]

theorem State.committed_doSetStep {c : Nat} (hc : c < 64) :
    (s.doSetStep ctx v).committed c = (s.setSteps ctx v).committed c := by
  rw [State.committed, State.obj_doSetStep _ _ _ (by decide) (by unfold intIdx; omega),
    if_neg (okey_ne (by decide) (by decide) (.inr (by decide)))]
  rfl

theorem State.stepCtr_doSetStep {q c : Nat} (hq : q < 4) (hc : c < 64) :
    (s.doSetStep ctx v).stepCtr q c = (s.setSteps ctx v).stepCtr q c := by
  rw [State.stepCtr, State.obj_doSetStep _ _ _ (by omega) (by unfold intIdx; omega),
    if_neg (okey_ne (by omega) (by decide) (.inl (by omega)))]
  rfl

/-- The steps of every other context stand. -/
theorem State.setSteps_other {q c : Nat} (hq : q < 4) (hc : c < 64) (hctx : ctx < 64) (h : c ≠ ctx) :
    (s.setSteps ctx v).stepCtr q c = s.stepCtr q c ∧ (s.setSteps ctx v).committed c = s.committed c :=
  ⟨s.obj_setSteps_other ctx v (okey_ne (by omega) (by decide) (.inl (by omega)))
      (fun p _ => okey_ne (by omega) (by omega) (.inr (by omega))),
    s.obj_setSteps_other ctx v (okey_ne (by decide) (by decide) (.inl (by omega)))
      (fun p _ => okey_ne (by decide) (by omega) (.inr (by omega)))⟩

end

/-! ### The commands (R245) -/

/-- A row of STEP_CMD that is served and not busy is its action. -/
theorem stepRow_served {s : State} {path ctx : Nat} (hp : path < 18) (hc : ctx < 64)
    (ha : s.access path (0x32C0 + ctx) = 0) (hb : s.obj (okey (0x32C0 + ctx) 3) ≠ 1) (act : State → State) :
    need (atOk path ctx) (s.onCmd path (okey (0x32C0 + ctx) 3) act) = .next (act s) :=
  (need_ok (atOk_of_lt hp hc) _).trans (congrArg _ (State.onCmd_at (by decide) act ha hb))

section
variable {s : State} {path ctx : Nat} (hp : path < 18) (hc : ctx < 64) (ha : s.access path (0x32C0 + ctx) = 0)
  (hb : s.obj (okey (0x32C0 + ctx) 3) ≠ 1)
include hp hc ha hb

/-- While the context is not quiet every action is refused with NOT_QUIET (R245). -/
theorem exec_stepRow_unquiet (hq : s.quiet ctx = false) {c : Instr} (h : c ∈ Claims.stepRows path ctx) :
    exec c s = .next (s.stepEnd ctx 1) := by
  have hstop : (!s.quiet ctx) = true := by rw [hq]; rfl
  simp only [Claims.stepRows, List.mem_cons, List.not_mem_nil, or_false] at h
  rcases h with rfl | rfl | rfl | rfl | rfl
  all_goals exact (stepRow_served hp hc ha hb _).trans (congrArg _ (if_pos hstop))

variable (hq : s.quiet ctx = true)
include hq

theorem exec_setStep_quiet : exec (.setStep path ctx) s
    = .next ((s.doSetStep ctx (s.pobj path (okey (0x32C0 + ctx) 2))).stepEnd ctx 0) :=
  (stepRow_served hp hc ha hb _).trans (congrArg _ (if_neg (by simp [hq])))

theorem exec_rollForward_quiet : exec (.rollForward path ctx) s = .next (
    if ∃ q, q < 4 ∧ s.stepCtr q ctx ≠ s.committed ctx then s.stepEnd ctx 6
    else if ∃ e ∈ s.ownGrans ctx, (e.2.1.gran e.2.2.1).torn = true then s.stepEnd ctx 3
    else if ∃ e ∈ s.ownGrans ctx, e.2.1.appliedStep e.2.2.1 ≠ s.committed ctx + 1 then s.stepEnd ctx 2
    else (s.setSteps ctx ((s.committed ctx + 1) % 2 ^ 32)).stepEnd ctx 0) := by
  refine (stepRow_served hp hc ha hb _).trans (congrArg _ ((if_neg (by simp [hq])).trans ?_))
  simp only [List.any_eq_true, List.mem_range, decide_eq_true_eq]

theorem exec_emitStep_quiet : exec (.emitStep path ctx) s
    = .next (if s.emitPlaced ctx then s.stepBegin ctx 3 else s.stepEnd ctx 4) := by
  refine (stepRow_served hp hc ha hb _).trans (congrArg _ ((if_neg (by simp [hq])).trans ?_))
  cases s.emitPlaced ctx <;> rfl

theorem exec_snapshot_quiet : exec (.snapshot path ctx) s = .next (
    if ∃ e ∈ s.ownGrans ctx, s.stepCtr (e.2.2.1 % 4) ctx < e.2.1.appliedStep e.2.2.1 then s.stepEnd ctx 2
    else if s.snapPlaced ctx then s.stepBegin ctx 4 else s.stepEnd ctx 4) := by
  refine (stepRow_served hp hc ha hb _).trans (congrArg _ ((if_neg (by simp [hq])).trans ?_))
  simp only [List.any_eq_true, decide_eq_true_eq]
  cases s.snapPlaced ctx <;> rfl

theorem exec_restoreStep_quiet : exec (.restoreStep path ctx) s = .next (
    if s.snapStep ctx = 0xFFFFFFFF ∨ Tab.get [] s.snaps ctx ≠ s.slotImages ctx then s.stepEnd ctx 5
    else s.stepBegin ctx 5) := by
  refine (stepRow_served hp hc ha hb _).trans (congrArg _ ((if_neg (by simp [hq])).trans ?_))
  simp only [Bool.or_eq_true, decide_eq_true_eq]

end

/-! ### What an action moves (R245) -/

theorem State.homeCopy_frame (s : State) (src dst n k : Nat) : ∃ d, s.homeCopy src dst n k = { s with ddr := d } := by
  induction k generalizing s src dst n with
  | zero => exact ⟨s.ddr, rfl⟩
  | succ k ih =>
    unfold State.homeCopy
    dsimp only
    split
    · exact ⟨s.ddr, rfl⟩
    · split
      · obtain ⟨d, h⟩ := ih _ _ _ _
        exact ⟨d, h⟩
      · exact ih ..

/-- Copies of runs of bytes change the Planers' DDR alone. -/
theorem State.foldl_homeCopy_frame (src dst n : Nat × Nat × Nat → Nat) (l : List (Nat × Nat × Nat)) (s : State) :
    ∃ d, l.foldl (fun t e => t.homeCopy (src e) (dst e) (n e) 8) s = { s with ddr := d } :=
  List.foldlRecOn (motive := fun t : State => ∃ d, t = { s with ddr := d }) _ _ ⟨_, rfl⟩ (fun t ht e _ => by
    obtain ⟨d, rfl⟩ := ht
    obtain ⟨d', h⟩ := State.homeCopy_frame { s with ddr := d } (src e) (dst e) (n e) 8
    exact ⟨d', h⟩)

/-- An emission is a run of writes to tier space. -/
theorem State.emitAll_tierWritten (s : State) (ctx : Nat) : s.TierWritten (s.emitAll ctx) :=
  .foldl (fun t _ => t.tierWriteBytes_tierWritten _ _) _ s

theorem State.TierWritten.stepRun {s t : State} (h : s.TierWritten t) : t.stepRun = s.stepRun := by
  obtain ⟨_, _, _, _, _, rfl⟩ := h.frame
  rfl

theorem State.TierWritten.committed {s t : State} (h : s.TierWritten t) (ctx : Nat) :
    t.committed ctx = s.committed ctx :=
  congrArg (fun b => Tab.get (objDefault (okey (0x32C0 + ctx) 1)) b (okey (0x32C0 + ctx) 1)) h.objs

/-! ### STEP_ACTION_COMPLETE (R247) -/

/-- No action of the context runs any more. -/
def State.stepStopped (s : State) (ctx : Nat) : State := { s with stepRun := Tab.put 0 s.stepRun ctx 0 }

/-- The records of the context as they lie in the snapshot area (R245). -/
def State.recordsSaved (s : State) (ctx : Nat) : State :=
  (s.snapPlan ctx).foldl (fun t e => t.homeCopy e.1 e.2.1 e.2.2 8) s

/-- The records of the context out of the snapshot area (R245). -/
def State.recordsRead (s : State) (ctx : Nat) : State :=
  (s.snapPlan ctx).foldl (fun t e => t.homeCopy e.2.1 e.1 e.2.2 8) s

section
variable (s : State) (ctx : Nat)

theorem State.recordsSaved_frame : ∃ d, s.recordsSaved ctx = { s with ddr := d } :=
  State.foldl_homeCopy_frame Prod.fst (·.2.1) (·.2.2) (s.snapPlan ctx) s

theorem State.recordsRead_frame : ∃ d, s.recordsRead ctx = { s with ddr := d } :=
  State.foldl_homeCopy_frame (·.2.1) Prod.fst (·.2.2) (s.snapPlan ctx) s

/-- The context's snapshot, with the images of its slots and COMMITTED_STEP as SNAP_STEP (R245, R247). -/
def State.snapTaken : State :=
  let t := s.recordsSaved ctx
  { t with snaps := Tab.put [] t.snaps ctx (t.slotImages ctx) }.setObj (okey (0x32C0 + ctx) 0x0A) (t.committed ctx)

/-- The snapshot's records in place, at the snapshot's step (R245). -/
def State.snapRead : State := (s.recordsRead ctx).doSetStep ctx (s.snapStep ctx)

end

section
variable {s : State} (ctx : Nat)

/-- A snapshot takes COMMITTED_STEP and the images of the slots; the copies touch neither (R245, R247). -/
theorem State.snapTaken_spec : (s.snapTaken ctx).stepRun = s.stepRun ∧ (s.snapTaken ctx).snapStep ctx = s.committed ctx
    ∧ Tab.get [] (s.snapTaken ctx).snaps ctx = s.slotImages ctx := by
  obtain ⟨d, h⟩ := s.recordsSaved_frame ctx
  unfold State.snapTaken
  rw [h]
  exact ⟨rfl, State.obj_setObj_same _ _ _, Tab.get_put_same _ _ _ _⟩

/-- A restore commits the snapshot's step (R245). -/
theorem State.snapRead_spec (hc : ctx < 64) :
    (s.snapRead ctx).stepRun = s.stepRun ∧ (s.snapRead ctx).committed ctx = s.snapStep ctx := by
  constructor
  · obtain ⟨d, h⟩ := s.recordsRead_frame ctx
    obtain ⟨z, c, hset⟩ := (s.recordsRead ctx).doSetStep_eq ctx (s.snapStep ctx)
    rw [State.snapRead, hset, h]
  · rw [State.snapRead, State.committed_doSetStep _ _ _ hc, State.committed_setSteps]

end

section
variable {s : State} {ctx : Nat}

theorem stepActionComplete_idle
    (h : s.dieRuns = false
      ∨ (Tab.get 0 s.stepRun ctx ≠ 3 ∧ Tab.get 0 s.stepRun ctx ≠ 4 ∧ Tab.get 0 s.stepRun ctx ≠ 5)) :
    stepActionComplete s ctx = s := by
  unfold stepActionComplete
  rcases h with hd | ⟨h3, h4, h5⟩
  · exact if_pos (by simp [hd])
  · dsimp only
    split
    · rfl
    · split
      · next hk => exact absurd hk h3
      · next hk => exact absurd hk h4
      · next hk => exact absurd hk h5
      · rfl

variable (hd : s.dieRuns = true)
include hd

theorem stepActionComplete_emit (hk : Tab.get 0 s.stepRun ctx = 3) : ∃ u : State,
    stepActionComplete s ctx = u.stepEnd ctx 0 ∧ u.stepRun = Tab.put 0 s.stepRun ctx 0
      ∧ u.committed ctx = s.committed ctx := by
  have hw := (s.stepStopped ctx).emitAll_tierWritten ctx
  refine ⟨(s.stepStopped ctx).emitAll ctx, ?_, hw.stepRun, hw.committed ctx⟩
  simp only [stepActionComplete, hd, hk]
  rfl

theorem stepActionComplete_snapshot (hk : Tab.get 0 s.stepRun ctx = 4) : ∃ u : State,
    stepActionComplete s ctx = u.stepEnd ctx 0 ∧ u.stepRun = Tab.put 0 s.stepRun ctx 0
      ∧ u.snapStep ctx = s.committed ctx ∧ Tab.get [] u.snaps ctx = s.slotImages ctx := by
  refine ⟨(s.stepStopped ctx).snapTaken ctx, ?_, State.snapTaken_spec ctx⟩
  simp only [stepActionComplete, hd, hk]
  rfl

/-- The restore commits the snapshot's step, whether or not its emission has a place (log entry 41). -/
theorem stepActionComplete_restore (hc : ctx < 64) (hk : Tab.get 0 s.stepRun ctx = 5) : ∃ (u : State) (r : Nat),
    stepActionComplete s ctx = u.stepEnd ctx r ∧ (r = 0 ∨ r = 4) ∧ u.stepRun = Tab.put 0 s.stepRun ctx 0
      ∧ u.committed ctx = s.snapStep ctx := by
  obtain ⟨hrun, hstep⟩ := State.snapRead_spec (s := s.stepStopped ctx) ctx hc
  have heq : stepActionComplete s ctx = if ((s.stepStopped ctx).snapRead ctx).emitPlaced ctx
      then (((s.stepStopped ctx).snapRead ctx).emitAll ctx).stepEnd ctx 0
      else ((s.stepStopped ctx).snapRead ctx).stepEnd ctx 4 := by
    simp only [stepActionComplete, hd, hk, Bool.not_true, Bool.false_eq_true, if_false]
    rfl
  rw [heq]
  generalize (s.stepStopped ctx).snapRead ctx = t at hrun hstep ⊢
  have hw := t.emitAll_tierWritten ctx
  split
  · exact ⟨_, 0, rfl, .inl rfl, hw.stepRun.trans hrun, (hw.committed ctx).trans hstep⟩
  · exact ⟨t, 4, rfl, .inr rfl, hrun, hstep⟩

end

/-! ### The statement -/

/-- Settles O40: every row's action by its equation on a quiet context, and the completion of those that run. -/
theorem stepActionsMoveTheCommittedStep : Obligations.StepActionsMoveTheCommittedStep := by
  refine ⟨?rows, ?complete⟩
  case rows =>
    intro s path ctx hp hc ha hb i refused begun v grans counters
    refine ⟨fun hq c h => exec_stepRow_unquiet hp hc ha hb hq h, fun hq => ?_⟩
    rw [exec_rollForward_quiet hp hc ha hb hq, exec_emitStep_quiet hp hc ha hb hq, exec_snapshot_quiet hp hc ha hb hq,
      exec_restoreStep_quiet hp hc ha hb hq]
    have hcount : (¬ ∃ q, q < 4 ∧ s.stepCtr q ctx ≠ s.committed ctx) ↔ counters := by
      simp only [not_exists, not_and, not_not]; rfl
    refine ⟨?set, ?behind, ?torn, ?ahead, ?rolled, ?unplaced, ?emits, ?early, ?snaps, ?none, ?restores⟩
    case set =>
      set u := s.doSetStep ctx (s.pobj path (okey i 2)) with hu
      obtain ⟨z, c, hset⟩ := s.doSetStep_eq ctx (s.pobj path (okey i 2))
      refine ⟨u.stepEnd ctx 0, exec_setStep_quiet hp hc ha hb hq, ?_, fun q hq => ?_, fun q c hq hc' hne => ?_, ?_,
        u.obj_stepEnd_result ctx 0, u.obj_stepEnd_cmd ctx 0, ?_, ?_, ?_, ?_⟩
      · rw [State.committed_stepEnd, State.committed_doSetStep _ _ _ hc, State.committed_setSteps]
      · rw [State.stepCtr_stepEnd _ _ _ hq hc, State.stepCtr_doSetStep _ _ _ hq hc, State.stepCtr_setSteps _ _ _ hq hc]
      · rw [State.stepCtr_stepEnd _ _ _ hq hc', State.committed_stepEnd, State.stepCtr_doSetStep _ _ _ hq hc',
          State.committed_doSetStep _ _ _ hc']
        exact s.setSteps_other ctx _ hq hc' hc hne
      · rw [u.obj_stepEnd_other ctx 0 (mt (okey_same_index _ _ _).1 (by decide))
          (mt (okey_same_index _ _ _).1 (by decide))]
        exact s.skewLatch_doSetStep ctx _ hc
      all_goals
        rw [hu, hset]
        rfl
    case behind => exact fun h => congrArg _ (if_pos (not_not.1 (mt hcount.1 h)))
    case torn => exact fun h ht => congrArg _ ((if_neg (hcount.2 h)).trans (if_pos ht))
    case ahead =>
      intro h ht ha
      have hwhole : ¬ ∃ e ∈ s.ownGrans ctx, (e.2.1.gran e.2.2.1).torn = true := by simpa using ht
      exact congrArg _ ((if_neg (hcount.2 h)).trans ((if_neg hwhole).trans (if_pos ha)))
    case rolled =>
      intro h hall
      have hwhole : ¬ ∃ e ∈ s.ownGrans ctx, (e.2.1.gran e.2.2.1).torn = true := by
        simpa using fun e he => (hall e he).1
      have hahead : ¬ ∃ e ∈ s.ownGrans ctx, e.2.1.appliedStep e.2.2.1 ≠ s.committed ctx + 1 := by
        simpa using fun e he => (hall e he).2
      obtain ⟨b, hb⟩ := s.setSteps_frame ctx ((v + 1) % 2 ^ 32)
      set u := s.setSteps ctx ((v + 1) % 2 ^ 32) with hu
      refine ⟨u.stepEnd ctx 0, congrArg _ ((if_neg (hcount.2 h)).trans ((if_neg hwhole).trans (if_neg hahead))), ?_, ?_,
        fun q hq => ?_, u.obj_stepEnd_result ctx 0, u.obj_stepEnd_cmd ctx 0⟩
      · rw [hb]
        rfl
      · rw [State.committed_stepEnd, hu, State.committed_setSteps]
      · rw [State.stepCtr_stepEnd _ _ _ hq hc, hu, State.stepCtr_setSteps _ _ _ hq hc]
    case unplaced => exact fun h => by rw [h]; rfl
    case emits => exact fun h => by rw [h]; rfl
    case early => exact fun h => congrArg _ (if_pos h)
    case snaps =>
      intro h
      rw [if_neg (by simpa using h)]
      cases s.snapPlaced ctx <;> rfl
    case none => exact fun h => congrArg _ (if_pos h)
    case restores => exact fun h h' => congrArg _ (if_neg (by simp [h, h']))
  case complete =>
    intro s ctx hc k
    have hexec : exec (.stepActionComplete ctx) s = .next (stepActionComplete s ctx) := need_ok (decide_eq_true hc) _
    rw [hexec]
    refine ⟨fun h => congrArg _ (stepActionComplete_idle h), fun hd hk => ?_⟩
    have hother : ∀ {n : Nat} {P : Prop}, k = n → ∀ m, n ≠ m → k = m → P :=
      fun hn m hne hm => absurd (hn.symm.trans hm) hne
    rcases hk with hk | hk | hk
    · obtain ⟨u, hu, hrun, hstep⟩ := stepActionComplete_emit hd hk
      exact ⟨_, congrArg _ hu, hrun, .inl ⟨u.obj_stepEnd_result ctx 0, u.obj_stepEnd_cmd ctx 0⟩,
        hother hk 4 (by decide), fun _ => (u.committed_stepEnd ctx 0 ctx).trans hstep, hother hk 5 (by decide)⟩
    · obtain ⟨u, hu, hrun, hstep, hsnaps⟩ := stepActionComplete_snapshot hd hk
      exact ⟨_, congrArg _ hu, hrun, .inl ⟨u.obj_stepEnd_result ctx 0, u.obj_stepEnd_cmd ctx 0⟩,
        fun _ => ⟨(u.snapStep_stepEnd ctx 0).trans hstep, hsnaps⟩, hother hk 3 (by decide), hother hk 5 (by decide)⟩
    · obtain ⟨u, r, hu, hr, hrun, hstep⟩ := stepActionComplete_restore hd hc hk
      refine ⟨_, congrArg _ hu, hrun, ?_, hother hk 4 (by decide), hother hk 3 (by decide),
        fun _ => (u.committed_stepEnd ctx r ctx).trans hstep⟩
      rcases hr with rfl | rfl
      · exact .inl ⟨u.obj_stepEnd_result ctx 0, u.obj_stepEnd_cmd ctx 0⟩
      · exact .inr ⟨hk, u.obj_stepEnd_result ctx 4, u.obj_stepEnd_cmd ctx 4⟩

end Sys2Proof.Machine

/-!
PROOF. Transfers of a Planer link: which rows act, what a request of the tier asks and when it fails or waits, and the
answer to one that is served.
-/

namespace Sys2Proof.Machine

/-! ### Which rows act (R225, R226) -/

section
variable {s : State} {q : Nat} {x : Xfer} {err : Bool} (hq : q < 4) (hx : x.shape = true)
include hq hx

theorem need_transfer (t : State) : need (decide (q < 4) && x.shape) t = .next t :=
  need_ok (Bool.and_eq_true_iff.2 ⟨decide_eq_true hq, hx⟩) t

/-- A row changes nothing while its Planer does not work or KIND is another's. -/
theorem exec_xferRow_idle : ∀ r ∈ Claims.xferRows q x err, (s.planerUp q = false ∨ x.kind ≠ r.2) →
    exec r.1 s = .next s := by
  have hidle : ∀ n, (s.planerUp q = false ∨ x.kind ≠ n) → (!s.planerUp q || decide (x.kind ≠ n)) = true :=
    fun n h => by simpa using h
  simp only [Claims.xferRows, List.forall_mem_cons, List.not_mem_nil, false_implies, implies_true, and_true]
  refine ⟨?rdReq, ?rdData, ?wrData, ?wrAck, ?grad, ?emit, ?granDone, ?err, ?stepset⟩
  all_goals refine fun h => (need_transfer hq hx _).trans (congrArg _ ?_)
  case grad => exact if_pos (by simp only [hidle 5 h, Bool.true_or])
  case granDone => exact if_pos (by simp only [hidle 7 h, Bool.true_or])
  case emit =>
    unfold emitTransfer
    split
    · rfl
    · exact if_pos (by simp only [hidle 6 h, Bool.true_or])
  all_goals exact if_pos (hidle _ h)

end

section
variable {s : State} {q : Nat} {x : Xfer} (hq : q < 4) (hx : x.shape = true) (hup : s.planerUp q = true)
include hup

/-- The guard of a row lets a working Planer with the row's own KIND pass. -/
theorem State.passes_guard {n : Nat} (hk : x.kind = n) : ¬ (!s.planerUp q || decide (x.kind ≠ n)) = true := by
  simp [hup, hk]

include hq hx

/-- What a row does past its guard. -/
theorem need_past_guard {n : Nat} (hk : x.kind = n) (t : State) :
    need (decide (q < 4) && x.shape) (if !s.planerUp q || decide (x.kind ≠ n) then s else t) = .next t :=
  (need_transfer hq hx _).trans (congrArg _ (if_neg (State.passes_guard hup hk)))

/-- A request that reaches its Planer is taken; only a read can fail as its bytes are read (R150, R227). -/
theorem exec_request (err : Bool) :
    ∀ r ∈ ([(.rdReq q ⟨x, err⟩, 1), (.wrData q x, 3)] : List (Instr × Nat)), x.kind = r.2 →
      exec r.1 s = .next (s.takeReq q x (if x.kind = 1 then err else false)) := by
  simp only [List.forall_mem_cons, List.not_mem_nil, false_implies, implies_true, and_true]
  refine ⟨fun (hk : x.kind = 1) => ?_, fun (hk : x.kind = 3) => ?_⟩
  · rw [if_pos hk]
    exact need_past_guard hq hx hup hk _
  · rw [if_neg (by omega)]
    exact need_past_guard hq hx hup hk _

end

/-! ### What a request asks, and when it fails (R150, R227) -/

section
variable (s : State) (q : Nat) (x : Xfer) (err : Bool)

theorem xferSpan_eq : xferSpan x = (x.addr, if x.kind = 1 then max 1 x.len else max 1 x.data.length) := by
  unfold xferSpan
  split <;> rfl

/-- Where the first byte of a request has its home. -/
def State.reqLoc : Loc := s.homeLoc (s.region (x.addr / 2 ^ 26)) (x.addr % 2 ^ 26)

/-- A request has come and is outstanding (R227). -/
def State.requested (tag : Nat) : State := { s with nextId := s.nextId + 1, reqs := s.reqs ++ [(q, tag)] }

theorem State.countUncorr_frame (l : Loc) : ∃ b, s.countUncorr l = { s with objs := b } := by
  cases l <;> exact ⟨_, rfl⟩

end

theorem State.obj_addObj (s : State) (k w n k' : Nat) :
    (s.addObj k w n).obj k' = if k' = k then (s.obj k' + n) % 2 ^ w else s.obj k' := by
  split
  · next h => rw [h, State.obj_addObj_same]
  · next h => exact State.obj_addObj_other _ _ _ h

section
variable (s : State) (q : Nat) (ddr : Prop) [Decidable ddr] (n : Nat)

/-- The bytes that a read takes from its Planer's DDR are counted there (R174). -/
def State.readCounted : State := if ddr then s.addObj (okey (0x3300 + q) 3) 64 n else s

/-- The bytes of a write are counted in its Planer's DDR, or as written and programmed in its flash (R174). -/
def State.writeCounted : State :=
  if ddr then s.addObj (okey (0x3300 + q) 3) 64 n
  else (s.addObj (okey (0x3400 + q) 2) 64 n).addObj (okey (0x3400 + q) 3) 64 n

theorem State.readCounted_frame : ∃ b, s.readCounted q ddr n = { s with objs := b } := by
  unfold State.readCounted
  split <;> exact ⟨_, rfl⟩

theorem State.writeCounted_frame : ∃ b, s.writeCounted q ddr n = { s with objs := b } := by
  unfold State.writeCounted
  split <;> exact ⟨_, rfl⟩

theorem State.obj_readCounted (k : Nat) : (s.readCounted q ddr n).obj k
    = if ddr ∧ k = okey (0x3300 + q) 3 then (s.obj k + n) % 2 ^ 64 else s.obj k := by
  unfold State.readCounted
  split
  · next h => simp only [State.obj_addObj, h, true_and]
  · next h => simp only [h, false_and, if_false]

theorem State.obj_writeCounted (k : Nat) : (s.writeCounted q ddr n).obj k
    = if (ddr ∧ k = okey (0x3300 + q) 3) ∨ (¬ ddr ∧ (k = okey (0x3400 + q) 2 ∨ k = okey (0x3400 + q) 3))
      then (s.obj k + n) % 2 ^ 64 else s.obj k := by
  unfold State.writeCounted
  split
  · next h => simp only [State.obj_addObj, h, true_and, not_true, false_and, or_false]
  · next h =>
    have hne : okey (0x3400 + q) 3 ≠ okey (0x3400 + q) 2 := mt (okey_same_index _ _ _).1 (by decide)
    by_cases h3 : k = okey (0x3400 + q) 3
    · simp [State.obj_addObj, h, h3, hne]
    · simp [State.obj_addObj, h, h3]

end

section
variable {s : State} {q : Nat} {x : Xfer} {err : Bool}

theorem State.takeReq_blocked (h : s.reqBlocked s.nextId q (xferSpan x) = true) : s.takeReq q x err
    = { s with nextId := s.nextId + 1, tierQ := s.tierQ ++ [{ id := s.nextId, q := q, x := x, err := err }] } :=
  if_pos h

section
variable (h : s.reqBlocked s.nextId q (xferSpan x) = false)
include h

theorem State.takeReq_free : s.takeReq q x err = { s with nextId := s.nextId + 1 }.serve q x err :=
  if_neg (by simp [h])

/-- A failed request is answered with ERR; beside the answer it can count as an uncorrectable access (R150, R227). -/
theorem State.takeReq_fails {code : Nat} (hc : s.reqCode q x err = some code) : ∃ b, s.takeReq q x err
    = { s.requested q x.tag with objs := b }.sendXfer q (mkXfer 8 x.tag x.ctx 0 0 0 0 0 0 0 x.addr code false []) := by
  have hc' : { s with nextId := s.nextId + 1 }.reqCode q x err = some code := hc
  rw [State.takeReq_free h, State.serve, hc']
  dsimp only
  split
  · obtain ⟨b, hb⟩ := (s.requested q x.tag).countUncorr_frame (s.reqLoc x)
    exact ⟨b, congrArg (State.sendXfer · q _) hb⟩
  · exact ⟨s.objs, rfl⟩

variable (hc : s.reqCode q x err = none)
include hc

theorem State.takeReq_reads (hk : x.kind = 1) : s.takeReq q x err
    = ((s.requested q x.tag).readCounted q ((s.region (x.addr / 2 ^ 26)).home = .ddr) x.len).sendXfer q
        (mkXfer 2 x.tag x.ctx 0 0 0 0 0 0 0 x.addr 0 false
          ((List.range x.len).map (fun k => s.homeRead (x.addr + k)))) := by
  have hc' : { s with nextId := s.nextId + 1 }.reqCode q x err = none := hc
  rw [State.takeReq_free h, State.serve, hc']
  exact if_pos hk

theorem State.takeReq_writes (hk : x.kind ≠ 1) : s.takeReq q x err
    = (((s.requested q x.tag).homeWrite x.addr x.data).writeCounted q ((s.region (x.addr / 2 ^ 26)).home = .ddr)
        x.data.length).sendXfer q (mkXfer 4 x.tag x.ctx 0 0 0 0 0 0 0 x.addr 0 false []) := by
  have hc' : { s with nextId := s.nextId + 1 }.reqCode q x err = none := hc
  rw [State.takeReq_free h, State.serve, hc']
  exact if_neg hk

end
end

/-- A request fails for the first of three reasons (R150, R227; log entry 44). -/
theorem State.reqCode_eq (s : State) (q : Nat) (x : Xfer) (err : Bool) : s.reqCode q x err =
    if (spanRegions x.addr (xferSpan x).2).any (fun r => (s.region r).lost) = true then some 0x2005
    else if (!s.onPlaner q x.addr (xferSpan x).2) = true then some 0x500A
    else if (err || s.phyDown (s.reqLoc x)) = true then some (s.reqLoc x).uncorrCode else none := rfl

/-! ### Bytes written at their home (R228) -/

section
variable (s : State)

theorem State.locWrite_frame (l : Loc) (b : Nat) : ∃ y d f h,
    s.locWrite l b = { s with landing := y, ddr := d, flash := f, host := h } := by
  cases l with
  | landing a =>
    unfold State.locWrite
    dsimp only
    split <;> exact ⟨_, _, _, _, rfl⟩
  | _ => exact ⟨_, _, _, _, rfl⟩

/-- Bytes written at their home change the memories alone. -/
theorem State.homeWrite_frame (a : Nat) (bs : List Nat) : ∃ y d f h,
    s.homeWrite a bs = { s with landing := y, ddr := d, flash := f, host := h } := by
  induction bs generalizing s a with
  | nil => exact ⟨_, _, _, _, rfl⟩
  | cons b bs ih =>
    obtain ⟨y, d, f, h, hw⟩ := s.locWrite_frame (s.homeLoc (s.region (a / 2 ^ 26)) (a % 2 ^ 26)) b
    obtain ⟨y', d', f', h', hrest⟩ := ih { s with landing := y, ddr := d, flash := f, host := h } (a + 1)
    rw [State.homeWrite, hw, hrest]
    exact ⟨y', d', f', h', rfl⟩

variable (q tag : Nat)

theorem State.locWrite_requested (l : Loc) (b : Nat) :
    (s.requested q tag).locWrite l b = (s.locWrite l b).requested q tag := by
  cases l with
  | landing a =>
    simp only [State.locWrite]
    rw [apply_ite (State.requested · q tag)]
    rfl
  | _ => rfl

/-- Where the bytes go does not depend on the requests that stand. -/
theorem State.homeWrite_requested (a : Nat) (bs : List Nat) :
    (s.requested q tag).homeWrite a bs = (s.homeWrite a bs).requested q tag := by
  induction bs generalizing s a with
  | nil => rfl
  | cons b bs ih =>
    rw [State.homeWrite, State.homeWrite, State.locWrite_requested, ih]
    rfl

end

/-! ### The statement -/

/-- Settles O38: every row by its guard; a request by `takeReq`, which blocks, fails, reads or writes. -/
theorem transfersAreServedByTheirPlaner : Obligations.TransfersAreServedByTheirPlaner := by
  intro s q x err hq hx s1 ddr span blocked l lost e
  refine ⟨exec_xferRow_idle hq hx, fun hup => ?_⟩
  have hspan : xferSpan x = (x.addr, span) := xferSpan_eq x
  have hblocked : s.reqBlocked s.nextId q (xferSpan x) = blocked := by rw [hspan]
  have hreq := exec_request hq hx hup err
  refine ⟨fun r hr hk => ?taken, ?served, ?rdData, ?wrAck, ?errKept, ?errTold, ?stepset⟩
  case taken =>
    rw [hreq r hr hk]
    refine ⟨fun hb => congrArg _ (State.takeReq_blocked (hblocked.trans hb)), fun code hb hwhy => ?_⟩
    have hcode : s.reqCode q x e = some code := by
      rw [State.reqCode_eq, hspan]
      rcases hwhy with ⟨hl, rfl⟩ | ⟨hl, ho, rfl⟩ | ⟨hl, ho, hu, rfl⟩
      · exact if_pos hl
      · exact (if_neg (ne_true_of_eq_false hl)).trans (if_pos (by rw [ho]; rfl))
      · exact (if_neg (ne_true_of_eq_false hl)).trans ((if_neg (by rw [ho]; decide)).trans (if_pos hu))
    obtain ⟨b, ht⟩ := State.takeReq_fails (hblocked.trans hb) hcode
    exact ⟨_, congrArg _ ht, rfl, rfl, rfl, rfl⟩
  case served =>
    intro hb hl ho hu
    have hcode : s.reqCode q x e = none := by
      rw [State.reqCode_eq, hspan]
      exact (if_neg (ne_true_of_eq_false hl)).trans
        ((if_neg (by rw [ho]; decide)).trans (if_neg (ne_true_of_eq_false hu)))
    refine ⟨fun hk => ?read, fun hk => ?write⟩
    case read =>
      have hobj := (s.requested q x.tag).obj_readCounted q ddr x.len
      obtain ⟨b, hread⟩ := (s.requested q x.tag).readCounted_frame q ddr x.len
      refine ⟨_, (hreq (.rdReq q ⟨x, err⟩, 1) (by simp) hk).trans
        (congrArg _ (State.takeReq_reads (hblocked.trans hb) hcode hk)), ?_, ?_, ?_, ?_⟩
      · rw [hread]; rfl
      · rw [hread]; exact ⟨rfl, rfl, rfl⟩
      · refine (hobj _).trans ?_
        simp only [and_true]
        rfl
      · exact fun k h => (hobj k).trans (if_neg fun hc => h hc.2)
    case write =>
      have hobj := ((s.requested q x.tag).homeWrite x.addr x.data).obj_writeCounted q ddr x.data.length
      obtain ⟨b, hwritten⟩ := ((s.requested q x.tag).homeWrite x.addr x.data).writeCounted_frame q ddr x.data.length
      obtain ⟨y, d, f, h, hw⟩ := s.homeWrite_frame x.addr x.data
      refine ⟨_, (hreq (.wrData q x, 3) (by simp) hk).trans
        (congrArg _ (State.takeReq_writes (hblocked.trans hb) hcode (by omega))), ?_, ?_, ?_⟩
      · rw [hwritten, State.homeWrite_requested]; rfl
      · rw [hwritten, State.homeWrite_requested, hw]; exact ⟨rfl, rfl, rfl⟩
      · rw [State.homeWrite_requested, hw] at hobj
        rw [State.homeWrite_requested, hw]
        exact hobj
  case rdData => exact fun hk => need_past_guard hq hx hup hk _
  case wrAck => exact fun hk => need_past_guard hq hx hup hk _
  case errKept =>
    intro hk hc
    exact (need_past_guard hq hx hup hk _).trans (congrArg _ (if_pos (by simpa [or_assoc] using hc)))
  case errTold =>
    intro hk h1 h2 h3 h4
    exact (need_past_guard hq hx hup hk _).trans (congrArg _ (if_neg (by simp [h1, h2, h3, h4])))
  case stepset =>
    intro hk
    exact ⟨_, need_past_guard hq hx hup hk _, rfl, State.obj_setObj_same _ _ _,
      fun k h => State.obj_setObj_other _ _ h⟩

end Sys2Proof.Machine

/-!
PROOF. Granules: the hand-over at a Planer port, the checks at reception and again before the update, the emission with
its acknowledgement, and the end that is counted towards the slot.
-/

namespace Sys2Proof.Machine

/-! ### A granule that is not applied (R227, R236) -/

/-- SKEW_LATCH and the step found, for a granule of a wrong step (R236). -/
def State.skewNoted (s : State) (g : Granule) (code : Nat) : State :=
  if code = 0x4002 then
    (if s.obj (okey (0x32C0 + g.ctx) 8) = 1 then s
      else (s.setObj (okey (0x32C0 + g.ctx) 8) 1).setObj (okey (0x32C0 + g.ctx) 9) g.step)
  else s

@[simp] theorem State.obj_sendXfer (s : State) (q : Nat) (x : Xfer) (k : Nat) : (s.sendXfer q x).obj k = s.obj k := rfl

@[simp] theorem State.ctx_sendXfer (s : State) (q : Nat) (x : Xfer) (c : Nat) : (s.sendXfer q x).ctx c = s.ctx c := rfl

theorem State.sendXfer_out (s : State) (q : Nat) (x : Xfer) : (s.sendXfer q x).out = s.out ++ [.xfer q x] := rfl

section
variable (s : State) (g : Granule) (code : Nat)

theorem State.granFails_eq : s.granFails g code
    = (((s.skewNoted g code).report code 5 g.q (some g.ctx) g.gran true false).hold g.ctx code).sendXfer g.q
        (g.message 8 code) := rfl

theorem State.skewNoted_frame : ∃ b, s.skewNoted g code = { s with objs := b } := by
  unfold State.skewNoted
  split
  · split <;> exact ⟨_, rfl⟩
  · exact ⟨_, rfl⟩

theorem State.obj_skewNoted : (s.skewNoted g 0x4002).obj (okey (0x32C0 + g.ctx) 8) = 1 := by
  rw [State.skewNoted, if_pos rfl]
  split
  · next h => exact h
  · rw [State.obj_setObj_other _ _ (mt (okey_same_index _ _ _).1 (by decide)), State.obj_setObj_same]

/-- A granule that fails changes no slot, no buffer and no memory. -/
theorem State.granFails_keeps : (s.granFails g code).slots = s.slots ∧ (s.granFails g code).rxBuf = s.rxBuf
    ∧ (s.granFails g code).ddr = s.ddr ∧ (s.granFails g code).frames = s.frames := by
  obtain ⟨b, hb⟩ := s.skewNoted_frame g code
  rw [State.granFails_eq, hb]
  obtain ⟨b', f, o, p, hr⟩ := State.report_frame { s with objs := b } code 5 g.q (some g.ctx) g.gran true false
  rw [hr]
  obtain ⟨x, n, o', p', hh⟩ :=
    State.hold_frame { s with objs := b', faults := f, out := o, msixPend := p } g.ctx code
  rw [hh]
  exact ⟨rfl, rfl, rfl, rfl⟩

/-- A granule that fails for its step latches the skew (R236). -/
theorem State.skewLatch_granFails (hc : g.ctx < 64) : (s.granFails g 0x4002).obj (okey (0x32C0 + g.ctx) 8) = 1 := by
  rw [State.granFails_eq, State.obj_sendXfer, State.obj_hold, State.report,
    State.obj_reportV_other _ _ _ _ _ _ _ _ _ (by decide) (by omega) (by omega), State.obj_skewNoted]

theorem State.held_granFails : ((s.granFails g code).ctx g.ctx).held = true := by
  rw [State.granFails_eq, State.ctx_sendXfer]
  exact (State.held_hold _ _ _).1

/-- The ERR message is the last thing that leaves. -/
theorem State.getLast?_out_granFails : (s.granFails g code).out.getLast? = some (.xfer g.q (g.message 8 code)) := by
  rw [State.granFails_eq, State.sendXfer_out, List.getLast?_concat]

theorem State.handoffFault_told (h : g.told = true ∧ (s.ctx g.ctx).held = true) : s.handoffFault g = s :=
  if_pos (Bool.and_eq_true_iff.2 h)

/-- The fault of a hand-over marks the granule and holds its context (R237). -/
theorem State.handoffFault_holds (h : g.told = false ∨ (s.ctx g.ctx).held = false) :
    ((s.handoffFault g).ctx g.ctx).held = true
      ∧ (s.handoffFault g).portQ = s.portQ.map (fun r => if r.id = g.id then { r with told := true } else r) := by
  have hnot : ¬ (g.told && (s.ctx g.ctx).held) = true := by rcases h with h | h <;> simp [h]
  have heq : s.handoffFault g
      = State.holdShell { s with portQ := s.portQ.map (fun r => if r.id = g.id then { r with told := true } else r) }
          0x5011 (0x90 + g.q) g.ctx g.gran := if_neg hnot
  obtain ⟨b, f, x, n, o, p, hs⟩ := State.holdShell_frame
    { s with portQ := s.portQ.map (fun r => if r.id = g.id then { r with told := true } else r) }
    0x5011 (0x90 + g.q) g.ctx g.gran
  rw [heq]
  exact ⟨(State.held_hold _ _ _).1, by rw [hs]⟩

end

/-! ### The hand-over (R237) -/

theorem State.live_of_planerUp {s : State} {q : Nat} (h : s.planerUp q = true) : (s.link (16 + q)).live = true := by
  simp only [State.planerUp, Bool.and_eq_true] at h
  obtain ⟨⟨-, hlive⟩, -⟩ := h
  exact hlive

/-- The frames of a transfer to a Planer wait on its link, which carries frames; no other link changes (R225). -/
theorem State.dieXfer_live {s : State} {q : Nat} (x : Xfer) (hl : (s.link (16 + q)).live = true) :
    let t := s.dieXfer q x
    t = { s with out := s.out ++ [.xfer q x], links := t.links }
      ∧ (t.link (16 + q)).vc0 = (s.link (16 + q)).vc0
          ++ (xferFrames x s.incarnation).map (fun f => { frame := f, flight := none })
      ∧ ∀ j, j ≠ 16 + q → t.link j = s.link j := by
  intro t
  refine ⟨rfl, ?_, fun j hj => State.link_updLink_other _ _ hj⟩
  have hsame : t.link (16 + q) = _ := State.link_updLink_same (s.sendXfer q x) (16 + q) _
  rw [hsame]
  exact congrArg Link.vc0 (if_pos hl)

/-- A granule leaves its port as one GRAD transfer, its port at work (R237, R311). -/
theorem State.handOver_spec {s : State} {g : Granule} (hl : (s.link (16 + g.q)).live = true) :
    let z := (s.slot g.slot).image
    let x := mkXfer 5 0 g.ctx g.fmt g.tsc g.slot (slotStream z) g.step g.epoch g.gran (emitAddr z g.gran g.step) 0
      true g.data
    let t := s.handOver g
    t = { s with
        portQ := s.portQ.filter (fun r => r.id ≠ g.id), out := s.out ++ [.xfer g.q x], links := t.links
        work := (s.noteWork (nodeId 6 g.q) g.ctx).work }
      ∧ (t.link (16 + g.q)).vc0 = (s.link (16 + g.q)).vc0
          ++ (xferFrames x s.incarnation).map (fun f => { frame := f, flight := none })
      ∧ ∀ j, j ≠ 16 + g.q → t.link j = s.link j :=
  State.dieXfer_live (s := State.portWork { s with portQ := s.portQ.filter (fun r => r.id ≠ g.id) } g.q g.ctx) _ hl

section
variable {s : State} {id : Nat}

theorem exec_granuleHandoff : exec (.granuleHandoff id) s = .next (granuleHandoff s id) := need_ok rfl _

theorem granuleHandoff_none (hg : s.portQ.find? (fun g => g.id = id) = none) : granuleHandoff s id = s := by
  rw [granuleHandoff, hg]

variable {g : Granule} (hg : s.portQ.find? (fun g => g.id = id) = some g)
include hg

theorem granuleHandoff_idle (h : ¬ (s.planerUp g.q = true ∧ (s.rxBuf.filter (fun r => r.q = g.q)).length < 32)) :
    granuleHandoff s id = s := by
  rw [granuleHandoff, hg]
  exact if_pos (by simpa [Nat.not_lt, imp_iff_not_or] using h)

variable (h : s.planerUp g.q = true ∧ (s.rxBuf.filter (fun r => r.q = g.q)).length < 32)
include h

theorem granuleHandoff_streamless (hu : s.streamOf (s.slot g.slot) = none) :
    granuleHandoff s id = s.handoffFault g := by
  rw [granuleHandoff, hg]
  refine (if_neg (by simp [h])).trans ?_
  rw [hu]

/-- With a stream and room at its Planer a granule is handed over as it is placed. -/
theorem granuleHandoff_placed {u : UStream} (hu : s.streamOf (s.slot g.slot) = some u) :
    granuleHandoff s id = s.handoffAt g (s.granStuck g.ctx (s.slot g.slot).image u.nstate g.gran)
      (s.granPlace g.ctx (s.slot g.slot).image u.nstate g.gran g.step) := by
  rw [granuleHandoff, hg]
  refine (if_neg (by simp [h])).trans ?_
  rw [hu]

end

/-! ### The checks (R236) -/

section
variable {s : State} {g : Granule}

theorem State.granCheck_step (h : ¬ g.step = (s.stepCtr g.q g.ctx + 1) % 2 ^ 32) : s.granCheck g = .fails 0x4002 :=
  if_pos h

variable (h : g.step = (s.stepCtr g.q g.ctx + 1) % 2 ^ 32)
include h

theorem State.granCheck_applied (hd : (s.slot g.slot).appliedStep g.gran = g.step) : s.granCheck g
    = if ((s.slot g.slot).gran g.gran).epoch = g.epoch then .fails 0x4004 else .replay :=
  (if_neg (not_not.2 h)).trans (if_pos hd)

theorem State.granCheck_unapplied (hd : ¬ (s.slot g.slot).appliedStep g.gran = g.step) : s.granCheck g
    = if ((s.slot g.slot).gran g.gran).torn then .fails 0x2008 else .apply :=
  (if_neg (not_not.2 h)).trans (if_neg hd)

end

/-! ### Reception (R236) -/

/-- The granule that a GRAD transfer carries. -/
def State.granOf (s : State) (q : Nat) (x : Xfer) : Granule :=
  { id := s.nextId, q := q, ctx := x.ctx, slot := x.lslot, gran := x.granule, step := x.step, epoch := x.epoch
    fmt := x.fmt, tsc := x.tsc, data := x.data, phase := .waiting, tag := x.tag }

/-- Planer q has counted the bytes of a gradient (R174). -/
def State.gradCounted (s : State) (q : Nat) (x : Xfer) : State := s.addObj (okey (0x3280 + q) 4) 64 x.data.length

/-- What becomes of a gradient by the finding of its check: a fault, or a place in the receive buffer (R236). -/
def State.gradChecked (s : State) (q : Nat) (x : Xfer) : GranCheck → State
  | .fails code => (s.gradCounted q x).granFails (s.granOf q x) code
  | _ => { s.gradCounted q x with rxBuf := s.rxBuf ++ [s.granOf q x], nextId := s.nextId + 1 }

/-- Whether Planer q has room for a gradient of a slot of the context and is the granule's (R228, R236). -/
def State.takesGrad (s : State) (q : Nat) (x : Xfer) : Prop :=
  (s.rxBuf.filter (fun r => r.q = q)).length < 32 ∧ (s.slot x.lslot).owner = some x.ctx ∧ x.granule % 4 = q

section
variable {s : State} {q : Nat} {x : Xfer}

/-- The count of the bytes is no step counter. -/
theorem State.granCheck_gradCounted : (s.gradCounted q x).granCheck (s.granOf q x) = s.granCheck (s.granOf q x) := by
  have hctr : (s.gradCounted q x).stepCtr q x.ctx = s.stepCtr q x.ctx :=
    State.obj_addObj_other _ _ _ (mt (okey_same_index _ _ _).1 (by omega))
  simp only [State.granCheck]
  rw [show (s.gradCounted q x).stepCtr (s.granOf q x).q (s.granOf q x).ctx = s.stepCtr q x.ctx from hctr]
  rfl

theorem gradReceived_refused (h : ¬ s.takesGrad q x) : gradReceived s q x = s := by
  refine if_pos ?_
  by_contra hno
  simp only [Bool.or_eq_true, decide_eq_true_eq, not_or, not_le, not_not] at hno
  obtain ⟨⟨⟨-, hlen⟩, howner⟩, hq⟩ := hno
  exact h ⟨hlen, howner, hq⟩

variable (hup : s.planerUp q = true) (hk : x.kind = 5) (h : s.takesGrad q x)
include hup hk h

theorem State.takesGrad_passes : ¬ (!s.planerUp q || x.kind ≠ 5 || 32 ≤ (s.rxBuf.filter (fun r => r.q = q)).length
    || (s.slot x.lslot).owner ≠ some x.ctx || x.granule % 4 ≠ q) = true := by
  obtain ⟨hlen, howner, hgran⟩ := h
  simp [hup, hk, hlen, howner, hgran]

theorem gradReceived_badCrc (hcrc : crc64 x.data ≠ x.crc64) :
    gradReceived s q x = (s.gradCounted q x).granFails (s.granOf q x) 0x4003 :=
  (if_neg (State.takesGrad_passes hup hk h)).trans (if_pos hcrc)

/-- A gradient whose CRC is good goes the way of its first check. -/
theorem gradReceived_checked (hcrc : crc64 x.data = x.crc64) :
    gradReceived s q x = s.gradChecked q x (s.granCheck (s.granOf q x)) := by
  refine (if_neg (State.takesGrad_passes hup hk h)).trans ((if_neg (not_not.2 hcrc)).trans ?_)
  rw [← State.granCheck_gradCounted]
  rfl

theorem gradReceived_fails (hcrc : crc64 x.data = x.crc64) {code : Nat}
    (hc : s.granCheck (s.granOf q x) = .fails code) :
    gradReceived s q x = (s.gradCounted q x).granFails (s.granOf q x) code := by
  rw [gradReceived_checked hup hk h hcrc, hc, State.gradChecked]

/-- A gradient to be applied or re-emitted waits in the receive buffer. -/
theorem gradReceived_waits (hcrc : crc64 x.data = x.crc64)
    (hc : s.granCheck (s.granOf q x) = .replay ∨ s.granCheck (s.granOf q x) = .apply) : gradReceived s q x
      = { s.gradCounted q x with rxBuf := s.rxBuf ++ [s.granOf q x], nextId := s.nextId + 1 } := by
  rw [gradReceived_checked hup hk h hcrc]
  rcases hc with hc | hc <;> rw [hc] <;> rfl

end

/-! ### Granules and slots read back -/

section
variable (s : State) (n k : Nat) (f : Slot → Slot) (h : GranState → GranState)

@[simp] theorem State.slot_updSlot_same : (s.updSlot n f).slot n = f (s.slot n) := Tab.get_update_same ..

theorem State.slot_updSlot_other {m : Nat} (hm : m ≠ n) : (s.updSlot n f).slot m = s.slot m :=
  Tab.get_update_other _ _ _ hm

@[simp] theorem State.gran_updGran_same : ((s.updGran n k h).slot n).gran k = h ((s.slot n).gran k) := by
  rw [State.updGran, State.slot_updSlot_same]
  exact Tab.get_update_same ..

theorem State.gran_updGran_other {m j : Nat} (hmj : m ≠ n ∨ j ≠ k) :
    ((s.updGran n k h).slot m).gran j = (s.slot m).gran j := by
  by_cases hm : m = n
  · subst hm
    rw [State.updGran, State.slot_updSlot_same]
    exact Tab.get_update_other _ _ _ (hmj.resolve_left (not_not.2 rfl))
  · rw [State.updGran, State.slot_updSlot_other _ _ _ hm]

end

/-! ### The update (R234, R237, R240) -/

/-- Granule i of a Planer's buffer is that Planer's. -/
theorem State.rxGran_planer {s : State} {q i : Nat} {g : Granule} (h : s.rxGran q i = some g) : g.q = q :=
  of_decide_eq_true (List.mem_filter.1 (List.mem_of_getElem? h)).2

theorem State.writeRecord_frame (s : State) (a : Nat) (arrays : List (List F32)) : ∃ y d f h,
    s.writeRecord a arrays = { s with landing := y, ddr := d, flash := f, host := h } :=
  List.foldlRecOn (motive := fun t : State => ∃ y d f h, t = { s with landing := y, ddr := d, flash := f, host := h })
    _ _ ⟨_, _, _, _, rfl⟩ (fun t ht e _ => by
      obtain ⟨y, d, f, h, rfl⟩ := ht
      obtain ⟨y', d', f', h', hw⟩ :=
        State.homeWrite_frame { s with landing := y, ddr := d, flash := f, host := h } e.1 e.2
      exact ⟨y', d', f', h', hw⟩)

theorem State.writeRecord_keeps (s : State) (a : Nat) (arrays : List (List F32)) :
    (s.writeRecord a arrays).rxBuf = s.rxBuf ∧ (s.writeRecord a arrays).out = s.out
      ∧ (s.writeRecord a arrays).slots = s.slots := by
  obtain ⟨y, d, f, h, hw⟩ := s.writeRecord_frame a arrays
  rw [hw]
  exact ⟨rfl, rfl, rfl⟩

section
variable {s : State} {q i : Nat}

theorem exec_granuleApply (hq : q < 4) (h : s.granTouchesNone q i = false) :
    exec (.granuleApply q i) s = .next (granuleApply s q i) :=
  (if_neg (by simp [h])).trans (need_ok (decide_eq_true hq) _)

theorem exec_granuleApply_unmapped (h : s.granTouchesNone q i = true) :
    exec (.granuleApply q i) s = .fault .unmapped := if_pos h

theorem exec_granuleComplete (hq : q < 4) : exec (.granuleComplete q i) s = .next (granuleComplete s q i) :=
  need_ok (decide_eq_true hq) _

theorem granuleApply_none (h : s.rxGran q i = none) : granuleApply s q i = s := by
  rw [granuleApply, h]

theorem granuleComplete_none (h : s.rxGran q i = none) : granuleComplete s q i = s := by
  rw [granuleComplete, h]

theorem granuleApply_down (h : s.planerUp q = false) : granuleApply s q i = s := by
  unfold granuleApply
  split
  · rfl
  · exact if_pos (by simp [h])

theorem granuleComplete_down (h : s.planerUp q = false) : granuleComplete s q i = s := by
  unfold granuleComplete
  split
  · rfl
  · exact if_pos (by simp [h])

end

section
variable {s : State} {q i : Nat} {g : Granule} (hg : s.rxGran q i = some g)
include hg

theorem granuleApply_held (h : g.phase ≠ .waiting ∨ (s.slot g.slot).pin (g.step % 2) ≠ 0
    ∨ s.reqBlocked g.id q (s.granSpan g) = true ∨ s.streamOf (s.slot g.slot) = none) : granuleApply s q i = s := by
  rw [granuleApply, hg]
  dsimp only
  split
  · rfl
  · next hpass =>
    rw [Bool.or_eq_true, Bool.or_eq_true, Bool.or_eq_true, decide_eq_true_eq, decide_eq_true_eq] at hpass
    have hu : s.streamOf (s.slot g.slot) = none := by tauto
    rw [hu]

variable (hup : s.planerUp q = true) (hw : g.phase = .waiting) (hpin : (s.slot g.slot).pin (g.step % 2) = 0)
  (hb : s.reqBlocked g.id q (s.granSpan g) = false) {u : UStream} (hu : s.streamOf (s.slot g.slot) = some u)
include hup hw hpin hb hu

/-- Past its pins and what came before it, a granule goes the way of its second check (R236; log entry 40). -/
theorem granuleApply_checked : ∃ t : State, granuleApply s q i = t.serveReqs t.tierQ
    ∧ (∀ code, s.granCheck g = .fails code → t = (s.dropRx g.id).granFails g code)
    ∧ (s.granCheck g = .replay → t = s.reemitGranule u g (s.slot g.slot).image)
    ∧ (s.granCheck g = .apply → t = s.applyGranule u g (s.slot g.slot).image) := by
  have hpass : (!s.planerUp q || g.phase ≠ .waiting || (s.slot g.slot).pin (g.step % 2) ≠ 0
      || s.reqBlocked g.id q (s.granSpan g)) = false := by simp [hup, hw, hpin, hb]
  rw [granuleApply, hg]
  dsimp only
  rw [hpass, if_neg (by decide), hu]
  refine ⟨_, rfl, ?_⟩
  cases hc : s.granCheck g <;> simp

end

section
variable {s : State} {q i : Nat} {g : Granule} (hg : s.rxGran q i = some g) (hup : s.planerUp q = true)
include hg hup

theorem granuleComplete_applied (h : g.phase = .applying true) : granuleComplete s q i
    = (((s.dropRx g.id).updGran g.slot g.gran (fun _ => { applied := some g.step, epoch := g.epoch, torn := false }))
        |>.addObj (okey (0x3280 + q) 1) 64 1).sendXfer q (g.message 7 0) := by
  rw [granuleComplete, hg]
  refine (if_neg (by simp [hup])).trans ?_
  rw [h]

theorem granuleComplete_reemitted (h : g.phase = .reemit true) : granuleComplete s q i
    = ((s.dropRx g.id).addObj (okey (0x3280 + q) 2) 64 1).sendXfer q (g.message 7 1) := by
  rw [granuleComplete, hg]
  refine (if_neg (by simp [hup])).trans ?_
  rw [h]

/-- Before its emission is acknowledged a granule does not end. -/
theorem granuleComplete_early (ha : g.phase ≠ .applying true) (hr : g.phase ≠ .reemit true) :
    granuleComplete s q i = s := by
  rw [granuleComplete, hg]
  refine (if_neg (by simp [hup])).trans ?_
  split
  · next h => exact absurd h ha
  · next h => exact absurd h hr
  · rfl

end

/-- What an update leaves beside the record: the counts, the statuses, the phase and the emission (R234, R237). -/
def State.updateNoted (w : State) (u : UStream) (g : Granule) (x : Nat) (decode : List Stat)
    (em : List Nat × List Stat) : State :=
  let n := granLen x g.gran
  let w1 := w.addObj (okey (0x3200 + slotStream x) 3) 64 (ceilDiv n 128)
  let w2 : State := { w1 with scalerQ := w1.scalerQ ++ g.statRecords decode ++ g.statRecords em.2 }
  ((w2.addObj (okey (0x3300 + g.q) 3) 64 (8 * n * u.nstate)).updRx g.id (fun y => { y with phase := .applying false }))
    |>.sendXfer g.q (g.emission x em.1)

theorem State.updateNoted_spec (w : State) (u : UStream) (g : Granule) (x : Nat) (decode : List Stat)
    (em : List Nat × List Stat) : let t := w.updateNoted u g x decode em
    t = { w with objs := t.objs, scalerQ := t.scalerQ, rxBuf := t.rxBuf, out := t.out }
      ∧ t.rxBuf = w.rxBuf.map (fun y => if y.id = g.id then { y with phase := .applying false } else y)
      ∧ t.out = w.out ++ [.xfer g.q (g.emission x em.1)] ∧ t.slots = w.slots := ⟨rfl, rfl, rfl, rfl⟩

theorem State.applyGranule_eq (s : State) (u : UStream) (g : Granule) (x : Nat) : ∃ decode, s.applyGranule u g x
    = (s.writeRecord (recAddr x u.nstate g.gran) (s.updated u g x)).updateNoted u g x decode
        (emitCodes ((s.updated u g x).headD [])) := ⟨_, rfl⟩

/-- What an application leaves: the record written at its home, the phase, the emission; slots stand (R234, R237). -/
theorem State.applyGranule_spec (s : State) (u : UStream) (g : Granule) (x : Nat) : let t := s.applyGranule u g x
    t = { s.writeRecord (recAddr x u.nstate g.gran) (s.updated u g x) with
        objs := t.objs, scalerQ := t.scalerQ, rxBuf := t.rxBuf, out := t.out }
      ∧ t.rxBuf = s.rxBuf.map (fun y => if y.id = g.id then { y with phase := .applying false } else y)
      ∧ t.out = s.out ++ [.xfer g.q (g.emission x (emitCodes ((s.updated u g x).headD [])).1)]
      ∧ t.slots = s.slots := by
  obtain ⟨hrx, hout, hslots⟩ := s.writeRecord_keeps (recAddr x u.nstate g.gran) (s.updated u g x)
  obtain ⟨decode, heq⟩ := s.applyGranule_eq u g x
  rw [heq, ← hrx, ← hout, ← hslots]
  exact State.updateNoted_spec ..

/-- What a replay leaves: the phase and the emission of the weights as they stand (R236). -/
theorem State.reemitGranule_spec (s : State) (u : UStream) (g : Granule) (x : Nat) : let t := s.reemitGranule u g x
    t = { s with objs := t.objs, scalerQ := t.scalerQ, rxBuf := t.rxBuf, out := t.out }
      ∧ t.rxBuf = s.rxBuf.map (fun y => if y.id = g.id then { y with phase := .reemit false } else y)
      ∧ t.out = s.out ++ [.xfer g.q (g.emission x
          (emitCodes (s.stateArray (recAddr x u.nstate g.gran) 0 (granLen x g.gran))).1)] := ⟨rfl, rfl, rfl⟩

/-! ### The emission and the count of the slot (R237) -/

section
variable {s : State} {q : Nat} {x : Xfer}

theorem emitTransfer_badCrc {g : Granule} (hg : s.rxBuf.find? (fun g => g.emits q x) = some g)
    (hcrc : crc64 x.data ≠ x.crc64) : emitTransfer s q x = s := by
  rw [emitTransfer, hg]
  exact if_pos (by simp [hcrc])

theorem emitTransfer_written {g : Granule} (hg : s.rxBuf.find? (fun g => g.emits q x) = some g)
    (hup : s.planerUp q = true) (hk : x.kind = 6) (hcrc : crc64 x.data = x.crc64) : emitTransfer s q x
      = (((s.noteWork (nodeId 6 q) g.ctx).tierWriteBytes x.addr x.data).countAccess 3 x.addr x.data.length).updRx g.id
          (fun y => { y with phase := y.phase.ack }) := by
  have hpass : (!s.planerUp q || x.kind ≠ 6 || crc64 x.data ≠ x.crc64) = false := by simp [hup, hk, hcrc]
  rw [emitTransfer, hg, ← State.portWork]
  dsimp only
  rw [hpass, if_neg (by decide)]

/-- Whether GRAN_DONE counts a granule towards its slot: the slot is the context's, the epoch the current one, the
granule one of the slot's and not yet counted (R237). -/
def State.countsGran (s : State) (x : Xfer) : Prop :=
  (s.slot x.lslot).owner = some x.ctx ∧ x.epoch = s.epoch x.ctx ∧ x.granule ∉ (s.slot x.lslot).done
    ∧ x.granule < slotGrans (s.slot x.lslot).image

theorem granDone_ignored (h : ¬ s.countsGran x) : granDone s q x = s := by
  refine if_pos ?_
  by_contra hno
  simp only [Bool.or_eq_true, decide_eq_true_eq, not_or, not_le, not_not, List.contains_iff_mem] at hno
  obtain ⟨⟨⟨⟨-, howner⟩, hepoch⟩, hdone⟩, hlt⟩ := hno
  exact h ⟨howner, hepoch, hdone, hlt⟩

/-- A granule is counted, and the last one of a slot that posts adds the token's post. -/
theorem granDone_counted (hup : s.planerUp q = true) (hk : x.kind = 7) (h : s.countsGran x) : granDone s q x
    = (let z := s.slot x.lslot
      { (s.noteWork (nodeId 6 q) x.ctx).updSlot x.lslot (fun y => { y with done := x.granule :: y.done }) with
        posts := s.posts ++ (if slotPostEn z.image = true ∧ z.done.length + 1 = slotGrans z.image then
          [{ ctx := x.ctx, producer := 0x90, target := s.unitOwner (slotPostUnit z.image)
             counter := slotPostCtr z.image, amount := 1, credit := false }] else []) }) := by
  obtain ⟨howner, hepoch, hdone, hlt⟩ := h
  refine (if_neg (by simp [hup, hk, howner, hepoch, hdone, hlt])).trans ?_
  dsimp only
  by_cases hpost : slotPostEn (s.slot x.lslot).image = true
      ∧ (s.slot x.lslot).done.length + 1 = slotGrans (s.slot x.lslot).image
  · rw [if_pos hpost]
    exact if_pos (by simpa using hpost)
  · rw [if_neg hpost, List.append_nil]
    exact if_neg (by simpa using hpost)

end

/-! ### The statement -/

/-- Settles O39: each moment of a granule by its lemma: hand-over, reception, update, emission, end, count. -/
theorem granulesAreCheckedAndAppliedOnce : Obligations.GranulesAreCheckedAndAppliedOnce := by
  refine ⟨?handoff, ?handoffFault, ?grad, ?fails, ?stays, ?apply, ?emit, ?complete, ?done⟩
  case handoff =>
    intro s id
    rw [exec_granuleHandoff]
    refine ⟨fun hg => congrArg _ (granuleHandoff_none hg), ?_⟩
    intro g hg z may
    refine ⟨fun h => congrArg _ (granuleHandoff_idle hg h),
      fun h hu => congrArg _ (granuleHandoff_streamless hg h hu), ?_⟩
    intro u h hu at_
    rw [granuleHandoff_placed hg h hu]
    refine ⟨fun ha => congrArg _ (congrArg _ ha), fun ha => congrArg _ (congrArg _ ha),
      fun ha => ⟨s.handOver g, congrArg _ (congrArg _ ha), ?_⟩⟩
    have hid : g.id = id := by simpa using List.find?_some hg
    rw [← hid]
    exact State.handOver_spec (State.live_of_planerUp h.1)
  case handoffFault => exact fun s g _ => ⟨s.handoffFault_told g, s.handoffFault_holds g⟩
  case grad =>
    intro s q x hq hx hup hk z takes g s1 next done
    rw [show exec (.grad q x) s = .next (gradReceived s q x) from need_transfer hq hx _]
    refine ⟨fun h => congrArg _ (gradReceived_refused h),
      fun h hcrc => congrArg _ (gradReceived_badCrc hup hk h hcrc),
      fun h hcrc hn => congrArg _ (gradReceived_fails hup hk h hcrc (State.granCheck_step hn)),
      fun h hcrc hn hd he => congrArg _ (gradReceived_fails hup hk h hcrc ?_),
      fun h hcrc hn hd ht => congrArg _ (gradReceived_fails hup hk h hcrc ?_),
      fun h hcrc hn hok => congrArg _ (gradReceived_waits hup hk h hcrc ?_)⟩
    · exact (State.granCheck_applied hn hd).trans (if_pos he)
    · exact (State.granCheck_unapplied hn hd).trans (if_pos ht)
    · rcases hok with ⟨hd, he⟩ | ⟨hd, ht⟩
      · exact .inl ((State.granCheck_applied hn hd).trans (if_neg he))
      · exact .inr ((State.granCheck_unapplied hn hd).trans (if_neg (ne_true_of_eq_false ht)))
  case fails =>
    intro s g code hc t
    obtain ⟨hslots, hrx, hddr, hframes⟩ := s.granFails_keeps g code
    refine ⟨s.held_granFails g code, hslots, hrx, hddr, hframes, ?_, s.getLast?_out_granFails g code⟩
    rintro rfl
    exact s.skewLatch_granFails g hc
  case stays =>
    intro s q i hq
    rw [exec_granuleComplete hq]
    refine ⟨fun h => ⟨?_, congrArg _ (granuleComplete_none h)⟩,
      fun h => ⟨congrArg _ (granuleComplete_down h), fun ht => ?_⟩, exec_granuleApply_unmapped⟩
    · rw [exec_granuleApply hq (by rw [State.granTouchesNone, h]), granuleApply_none h]
    · rw [exec_granuleApply hq ht, granuleApply_down h]
  case apply =>
    intro s q i g hq hg hup ht z
    rw [exec_granuleApply hq ht]
    refine ⟨fun h => congrArg _ (granuleApply_held hg h), fun u hw hpin hb hu => ?_⟩
    obtain ⟨t, happly, hfails, hreplay, hdone⟩ := granuleApply_checked hg hup hw hpin hb hu
    rw [happly, ← State.rxGran_planer hg]
    refine ⟨fun code hc => ?_, fun hc => ⟨t, rfl, ?_⟩, fun hc => ⟨t, rfl, ?_⟩⟩
    · rw [hfails code hc]
    · rw [hreplay hc]
      exact s.reemitGranule_spec u g z.image
    · rw [hdone hc]
      exact s.applyGranule_spec u g z.image
  case emit =>
    intro s q x g hq hx hup hk hg
    rw [show exec (.emitTransfer q x) s = .next (emitTransfer s q x) from need_transfer hq hx _]
    exact ⟨fun h => congrArg _ (emitTransfer_badCrc hg h), fun h => congrArg _ (emitTransfer_written hg hup hk h)⟩
  case complete =>
    intro s q i g hq hg hup
    rw [exec_granuleComplete hq]
    refine ⟨fun h => ⟨_, congrArg _ (granuleComplete_applied hg hup h), ?_⟩,
      fun h => ⟨_, congrArg _ (granuleComplete_reemitted hg hup h), ?_⟩,
      fun ha hr => congrArg _ (granuleComplete_early hg hup ha hr)⟩
    · exact ⟨rfl, rfl, State.gran_updGran_same .., fun n k h => State.gran_updGran_other _ _ _ _ h,
        State.obj_addObj_same .., rfl⟩
    · exact ⟨rfl, rfl, State.obj_addObj_same .., rfl⟩
  case done =>
    intro s q x hq hx hup hk z counts
    rw [show exec (.granDone q x) s = .next (granDone s q x) from need_transfer hq hx _]
    exact ⟨fun h => congrArg _ (granDone_ignored h), fun h => congrArg _ (granDone_counted hup hk h)⟩

end Sys2Proof.Machine

/-!
PROOF. The weights of a serving context: WLOAD_CMD with its reasons, and the slots of a load that fill and become READY.
-/

namespace Sys2Proof.Machine

/-! ### The sequencer and its objects read back -/

@[simp] theorem State.serv_updServ_same (s : State) (ctx : Nat) (f : Serving → Serving) :
    (s.updServ ctx f).serv ctx = f (s.serv ctx) := Tab.get_update_same ..

theorem State.serv_seqPost (s : State) (ctx u k c : Nat) : (s.seqPost ctx u k).serv c = s.serv c := rfl

/-- Two objects of a serving context (R268) are one only where their sub-index is. -/
theorem servObj_ne {ctx j j' : Nat} (h : j ≠ j') : okey (servIdx ctx) j ≠ okey (servIdx ctx) j' :=
  mt (okey_same_index _ _ _).1 h

/-- A CMD row of a serving context that is served and not busy is its action (R252, R257). -/
theorem servRow_served {s : State} {path ctx j : Nat} (hj : j < 256) (hp : path < 18) (hc : ctx < 64)
    (ha : s.access path (servIdx ctx) = 0) (hb : s.obj (okey (servIdx ctx) j) ≠ 1) (act : State → State) :
    need (atOk path ctx) (s.onCmd path (okey (servIdx ctx) j) act) = .next (act s) :=
  (need_ok (atOk_of_lt hp hc) _).trans (congrArg _ (State.onCmd_at hj act ha hb))

section
variable (s : State) (ctx r : Nat)

theorem State.obj_wloadEnd_result : (s.wloadEnd ctx r).obj (okey (servIdx ctx) 5) = r := by
  rw [State.wloadEnd, State.obj_setObj_other _ _ (servObj_ne (by decide)), State.obj_setObj_same]

theorem State.obj_wloadEnd_cmd : (s.wloadEnd ctx r).obj (okey (servIdx ctx) 4) = if r = 0 then 2 else 3 :=
  State.obj_setObj_same _ _ _

theorem State.obj_wloadEnd_other {k : Nat} (h4 : k ≠ okey (servIdx ctx) 4) (h5 : k ≠ okey (servIdx ctx) 5) :
    (s.wloadEnd ctx r).obj k = s.obj k :=
  (State.obj_setObj_other _ _ h4).trans (State.obj_setObj_other _ _ h5)

theorem State.wver_wloadEnd : (s.wloadEnd ctx r).wver ctx = s.wver ctx :=
  s.obj_wloadEnd_other ctx r (servObj_ne (by decide)) (servObj_ne (by decide))

theorem State.serv_wloadEnd : (s.wloadEnd ctx r).serv ctx = s.serv ctx := rfl

end

/-! ### WLOAD_CMD (R252) -/

/-- A load is FILLING while a slot has yet to begin or is FILLING still (R252, R253). -/
theorem State.filling_iff (s : State) (ctx : Nat) : s.filling ctx = true ↔
    s.wloadVer ctx ≠ 0 ∧ ((s.serv ctx).started < (s.servSlots ctx).length
      ∨ ∃ l ∈ s.servSlots ctx, (s.serv ctx).buf l (s.wloadVer ctx % 2) = .filling) := by
  simp [State.filling]

/-- An accepted LOAD: WLOAD_VER, and the first slot as the next to fill. -/
def State.beginLoad (s : State) (ctx : Nat) : State :=
  (s.setObj (okey (servIdx ctx) 3) ((s.wver ctx + 1) % 2 ^ 32)).updServ ctx (fun v => { v with started := 0 })

/-- An accepted SWITCH or REVERT: WVER_NEXT, and the pending switch. -/
def State.beginSwitch (s : State) (ctx w : Nat) : State :=
  (s.setObj (okey (servIdx ctx) 2) w).updServ ctx (fun v => { v with switch := true })

theorem State.beginLoad_spec (s : State) (ctx : Nat) : let t := (s.beginLoad ctx).wloadEnd ctx 0
    t = { s with objs := t.objs, serving := t.serving } ∧ t.wloadVer ctx = (s.wver ctx + 1) % 2 ^ 32
    ∧ t.wver ctx = s.wver ctx ∧ t.serv ctx = { s.serv ctx with started := 0 } ∧ t.obj (okey (servIdx ctx) 5) = 0
    ∧ t.obj (okey (servIdx ctx) 4) = 2 := by
  refine ⟨rfl, ?_, ?_, ?_, State.obj_wloadEnd_result .., State.obj_wloadEnd_cmd ..⟩
  · exact (State.obj_wloadEnd_other _ _ _ (servObj_ne (by decide)) (servObj_ne (by decide))).trans
      (State.obj_setObj_same ..)
  · exact (State.wver_wloadEnd ..).trans (State.obj_setObj_other _ _ (servObj_ne (by decide)))
  · exact (State.serv_wloadEnd ..).trans (State.serv_updServ_same ..)

theorem State.beginSwitch_spec (s : State) (ctx w : Nat) : let t := (s.beginSwitch ctx w).wloadEnd ctx 0
    t = { s with objs := t.objs, serving := t.serving } ∧ t.obj (okey (servIdx ctx) 2) = w
    ∧ t.wver ctx = s.wver ctx ∧ t.serv ctx = { s.serv ctx with switch := true } ∧ t.obj (okey (servIdx ctx) 5) = 0
    ∧ t.obj (okey (servIdx ctx) 4) = 2 := by
  refine ⟨rfl, ?_, ?_, ?_, State.obj_wloadEnd_result .., State.obj_wloadEnd_cmd ..⟩
  · exact (State.obj_wloadEnd_other _ _ _ (servObj_ne (by decide)) (servObj_ne (by decide))).trans
      (State.obj_setObj_same ..)
  · exact (State.wver_wloadEnd ..).trans (State.obj_setObj_other _ _ (servObj_ne (by decide)))
  · exact (State.serv_wloadEnd ..).trans (State.serv_updServ_same ..)

section
variable {s : State} {path ctx : Nat} (hp : path < 18) (hc : ctx < 64) (ha : s.access path (servIdx ctx) = 0)
  (hb : s.obj (okey (servIdx ctx) 4) ≠ 1)
include hp hc ha hb

theorem exec_weightRow_off (hon : (s.serv ctx).on = false) {c : Instr}
    (h : c ∈ ([.weightLoad path ctx, .weightSwitch path ctx, .revert path ctx] : List Instr)) :
    exec c s = .next (s.wloadEnd ctx 1) := by
  have hoff : (!(s.serv ctx).on) = true := by rw [hon]; rfl
  simp only [List.mem_cons, List.not_mem_nil, or_false] at h
  rcases h with rfl | rfl | rfl
  all_goals exact (servRow_served (by decide) hp hc ha hb _).trans (congrArg _ (if_pos hoff))

variable (hon : (s.serv ctx).on = true)
include hon

theorem exec_weightLoad_serving : exec (.weightLoad path ctx) s = .next (
    if s.filling ctx then s.wloadEnd ctx 2 else if (s.serv ctx).switch then s.wloadEnd ctx 3
    else (s.beginLoad ctx).wloadEnd ctx 0) :=
  (servRow_served (by decide) hp hc ha hb _).trans (congrArg _ (if_neg (by simp [hon])))

theorem exec_weightSwitch_serving : exec (.weightSwitch path ctx) s = .next (
    if (s.serv ctx).switch then s.wloadEnd ctx 3
    else if s.wloadVer ctx ≠ (s.wver ctx + 1) % 2 ^ 32 then s.wloadEnd ctx 4
    else (s.beginSwitch ctx (s.wloadVer ctx)).wloadEnd ctx 0) :=
  (servRow_served (by decide) hp hc ha hb _).trans (congrArg _ (if_neg (by simp [hon])))

theorem exec_revert_serving : exec (.revert path ctx) s = .next (
    if s.filling ctx then s.wloadEnd ctx 2 else if (s.serv ctx).switch then s.wloadEnd ctx 3
    else if ∃ l ∈ s.servSlots ctx, (s.serv ctx).buf l ((s.wver ctx + 1) % 2) ≠ .ready then s.wloadEnd ctx 5
    else (s.beginSwitch ctx ((s.serv ctx).ver ((s.servSlots ctx).headD 0) ((s.wver ctx + 1) % 2))).wloadEnd ctx 0) := by
  refine (servRow_served (by decide) hp hc ha hb _).trans (congrArg _ ((if_neg (by simp [hon])).trans ?_))
  simp only [List.any_eq_true, decide_eq_true_eq]
  rfl

end

/-! ### Buffers (R251) -/

theorem bufKey_ne {l l' b b' : Nat} (hb : b < 2) (hb' : b' < 2) (h : l' ≠ l ∨ b' ≠ b) : 2 * l' + b' ≠ 2 * l + b := by
  omega

/-- A slot begins to fill: its buffer of the version is FILLING in that version, and the next slot follows (R253). -/
def Serving.fill (v : Serving) (l w : Nat) : Serving :=
  { v with
    started := v.started + 1
    bufs := Tab.put .empty v.bufs (2 * l + w % 2) .filling
    vers := Tab.put 0 v.vers (2 * l + w % 2) w }

/-- A buffer becomes READY (R253). -/
def Serving.markReady (v : Serving) (l b : Nat) : Serving :=
  { v with bufs := Tab.put .empty v.bufs (2 * l + b) .ready }

section
variable (v : Serving) (l w b : Nat)

theorem Serving.buf_fill_same : (v.fill l w).buf l (w % 2) = .filling := by
  simp only [Serving.buf, Serving.fill, Tab.get_put_same]

theorem Serving.ver_fill_same : (v.fill l w).ver l (w % 2) = w := Tab.get_put_same ..

theorem Serving.fill_other {l' b' : Nat} (hb' : b' < 2) (h : l' ≠ l ∨ b' ≠ w % 2) :
    (v.fill l w).buf l' b' = v.buf l' b' ∧ (v.fill l w).ver l' b' = v.ver l' b' := by
  have hkey := bufKey_ne (Nat.mod_lt w (by decide)) hb' h
  simp only [Serving.buf, Serving.ver, Serving.fill, Tab.get_put_other _ _ hkey, and_self]

theorem Serving.buf_markReady_same : (v.markReady l b).buf l b = .ready := by
  simp only [Serving.buf, Serving.markReady, Tab.get_put_same]

theorem Serving.buf_markReady_other {l' b' : Nat} (hb : b < 2) (hb' : b' < 2) (h : l' ≠ l ∨ b' ≠ b) :
    (v.markReady l b).buf l' b' = v.buf l' b' := by
  simp only [Serving.buf, Serving.markReady, Tab.get_put_other _ _ (bufKey_ne hb hb' h)]

end

/-! ### SLOT_FILL_START and SLOT_READY (R253) -/

section
variable {s : State} {ctx : Nat}

theorem slotFillStart_idle (h : (s.serv ctx).on = false ∨ s.filling ctx = false ∨ s.dieRuns = false
    ∨ (s.servSlots ctx)[(s.serv ctx).started]? = none) : slotFillStart s ctx = s := by
  unfold slotFillStart
  rcases h with h | h | h | h
  · exact if_pos (by simp [h])
  · exact if_pos (by simp [h])
  · exact if_pos (by simp [h])
  · simp only [h]
    exact ite_self _

theorem slotFillStart_pinned {l : Nat} (hl : (s.servSlots ctx)[(s.serv ctx).started]? = some l)
    (hpin : (s.slot l).pin (s.wloadVer ctx % 2) ≠ 0) : slotFillStart s ctx = s := by
  unfold slotFillStart
  dsimp only
  split
  · rfl
  · simp only [hl]
    exact if_pos hpin

theorem slotFillStart_begins {l : Nat} (hon : (s.serv ctx).on = true) (hf : s.filling ctx = true)
    (hd : s.dieRuns = true) (hl : (s.servSlots ctx)[(s.serv ctx).started]? = some l)
    (hpin : (s.slot l).pin (s.wloadVer ctx % 2) = 0) :
    slotFillStart s ctx = (s.updServ ctx (·.fill l (s.wloadVer ctx))).seqPost ctx (servLgoUnit (s.serv ctx).record)
      (servLgoCtr (s.serv ctx).record) := by
  unfold slotFillStart
  simp only [hon, hf, hd, hl, hpin, ne_eq, not_true_eq_false, if_false]
  rfl

theorem slotReady_idle (h : (s.serv ctx).on = false ∨ s.avail ctx 0x94 (servLdoneCtr (s.serv ctx).record) = 0
    ∨ s.dieRuns = false) : slotReady s ctx = s := by
  refine if_pos ?_
  rcases h with h | h | h <;> simp [h]

section
variable (hon : (s.serv ctx).on = true) (ht : s.avail ctx 0x94 (servLdoneCtr (s.serv ctx).record) ≠ 0)
  (hd : s.dieRuns = true)
include hon ht hd

/-- With no slot FILLING the token is discarded and the context held. -/
theorem slotReady_discards (hnone : ∀ l ∈ s.servSlots ctx, (s.serv ctx).buf l (s.wloadVer ctx % 2) ≠ .filling) :
    slotReady s ctx = (s.seqAcquire ctx (servLdoneCtr (s.serv ctx).record) 1).holdShell 0x5004 0x94 ctx 0 := by
  have hfind : (s.servSlots ctx).find? (fun l => (s.serv ctx).buf l (s.wloadVer ctx % 2) = .filling) = none :=
    List.find?_eq_none.2 (by simpa using hnone)
  refine (if_neg (by simp [hon, ht, hd])).trans ?_
  simp only [hfind]

theorem slotReady_marks {l : Nat}
    (hl : (s.servSlots ctx).find? (fun l => (s.serv ctx).buf l (s.wloadVer ctx % 2) = .filling) = some l) :
    slotReady s ctx = (s.seqAcquire ctx (servLdoneCtr (s.serv ctx).record) 1).updServ ctx
      (·.markReady l (s.wloadVer ctx % 2)) := by
  refine (if_neg (by simp [hon, ht, hd])).trans ?_
  simp only [hl]
  rfl

end

end

/-! ### The statement -/

/-- Settles O41: every row of WLOAD_CMD by its equation on a serving context, and the two halves of a fill by what they
do to the buffers. -/
theorem weightsLoadAndSwitchByVersion : Obligations.WeightsLoadAndSwitchByVersion := by
  refine ⟨?rows, ?slots⟩
  case rows =>
    intro s path ctx hp hc ha hb i v w fills otherReady refused
    have hfills : s.filling ctx = true ↔ fills := s.filling_iff ctx
    refine ⟨fun hon c h => exec_weightRow_off hp hc ha hb hon h, fun hon => ?_⟩
    have hready : (¬ ∃ l ∈ s.servSlots ctx, (s.serv ctx).buf l ((s.wver ctx + 1) % 2) ≠ .ready) ↔ otherReady := by
      simp only [not_exists, not_and, not_not]; rfl
    rw [exec_weightLoad_serving hp hc ha hb hon, exec_weightSwitch_serving hp hc ha hb hon,
      exec_revert_serving hp hc ha hb hon]
    have hfree : v.switch = false → ¬ (s.serv ctx).switch = true := fun h => Bool.eq_false_iff.1 h
    refine ⟨?filling, ?pending, ?twice, ?absent, ?unready, ?load, ?switch, ?revert⟩
    case filling =>
      intro hf
      have hf := hfills.2 hf
      exact ⟨congrArg _ (if_pos hf), congrArg _ (if_pos hf)⟩
    case pending =>
      intro hf hs
      have hf := mt hfills.1 hf
      exact ⟨congrArg _ ((if_neg hf).trans (if_pos hs)), congrArg _ ((if_neg hf).trans (if_pos hs))⟩
    case twice => exact fun hs => congrArg _ (if_pos hs)
    case absent => exact fun hs hw => congrArg _ ((if_neg (hfree hs)).trans (if_pos hw))
    case unready =>
      intro hf hs hr
      exact congrArg _ ((if_neg (mt hfills.1 hf)).trans ((if_neg (hfree hs)).trans (if_pos (not_not.1 (mt hready.1 hr)))))
    case load =>
      intro hf hs
      exact ⟨_, congrArg _ ((if_neg (mt hfills.1 hf)).trans (if_neg (hfree hs))), s.beginLoad_spec ctx⟩
    case switch =>
      intro hs hw
      rw [if_neg (hfree hs), if_neg (not_not.2 hw), hw]
      exact ⟨_, rfl, s.beginSwitch_spec ctx w⟩
    case revert =>
      intro hf hs hr
      obtain ⟨hframe, hnext, hwver, hrest⟩ :=
        s.beginSwitch_spec ctx (v.ver ((s.servSlots ctx).headD 0) ((s.wver ctx + 1) % 2))
      exact ⟨_, congrArg _ ((if_neg (mt hfills.1 hf)).trans ((if_neg (hfree hs)).trans (if_neg (hready.2 hr)))), hframe,
        hwver, hnext, hrest⟩
  case slots =>
    intro s ctx hc v w b k acquired
    have hb : b < 2 := Nat.mod_lt _ (by decide)
    have hstart : exec (.slotFillStart ctx) s = .next (slotFillStart s ctx) := need_ok (decide_eq_true hc) _
    have hdone : exec (.slotReady ctx) s = .next (slotReady s ctx) := need_ok (decide_eq_true hc) _
    rw [hstart, hdone]
    refine ⟨fun h => congrArg _ (slotFillStart_idle h), fun l hl hpin => congrArg _ (slotFillStart_pinned hl hpin),
      fun l hon hf hd hl hpin => ⟨_, congrArg _ (slotFillStart_begins hon hf hd hl hpin), rfl, ?_⟩,
      fun h => congrArg _ (slotReady_idle h), fun hon ht hd => ?_⟩
    · have hserv : (((s.updServ ctx (·.fill l w)).seqPost ctx (servLgoUnit v.record) (servLgoCtr v.record)).serv ctx)
          = v.fill l w := (State.serv_seqPost ..).trans (s.serv_updServ_same ctx _)
      rw [hserv]
      exact ⟨v.buf_fill_same l w, v.ver_fill_same l w, rfl, fun l' b' hb' h => v.fill_other l w hb' h⟩
    · refine ⟨fun hnone => congrArg _ (slotReady_discards hon ht hd hnone), fun l hl =>
        ⟨_, congrArg _ (slotReady_marks hon ht hd hl), rfl, ?_⟩⟩
      have hserv : (acquired.updServ ctx (·.markReady l b)).serv ctx = v.markReady l b := State.serv_updServ_same ..
      rw [hserv]
      exact ⟨v.buf_markReady_same l b, fun l' b' hb' h => v.buf_markReady_other l b hb hb' h⟩

end Sys2Proof.Machine

/-!
PROOF. Batches: submission, what joins and the batch table change, admission under a pinned version, slot tokens,
completion, and the acknowledgement of results.
-/

namespace Sys2Proof.Machine

/-! ### The sequencer, its objects and its posts read back (R266, R268) -/

/-- An object of a result is none of a serving context. -/
theorem servObj_ne_result {ctx r i j : Nat} (hc : ctx < 64) (hi : i < 256) (hj : j < 256) :
    okey (servIdx ctx) j ≠ okey (0x2400 + r) i :=
  okey_ne hj hi (.inl (by unfold servIdx; omega))

@[simp] theorem State.serv_setObj (s : State) (k v ctx : Nat) : (s.setObj k v).serv ctx = s.serv ctx := rfl

theorem State.serv_addObj (s : State) (k w n ctx : Nat) : (s.addObj k w n).serv ctx = s.serv ctx := rfl

theorem State.obj_seqPost (s : State) (ctx u c k : Nat) : (s.seqPost ctx u c).obj k = s.obj k := rfl

theorem State.obj_updServ (s : State) (ctx : Nat) (f : Serving → Serving) (k : Nat) :
    (s.updServ ctx f).obj k = s.obj k := rfl

theorem State.slots_updServ (s : State) (ctx : Nat) (f : Serving → Serving) : (s.updServ ctx f).slots = s.slots := rfl

theorem State.posts_seqPost (s : State) (ctx u k : Nat) : (s.seqPost ctx u k).posts = s.posts
    ++ [{ ctx := ctx, producer := 0x94, target := s.unitOwner u, counter := k, amount := 1, credit := false }] := rfl

/-- Who holds a unit depends on the cores alone. -/
theorem State.unitOwner_congr {s t : State} (h : t.cores = s.cores) (u : Nat) : t.unitOwner u = s.unitOwner u := by
  unfold State.unitOwner State.core
  rw [h]

/-! ### Pins (R240, R258) -/

section
variable (s : State) (ls : List Nat) (b : Nat) (f : Nat → Nat)

/-- Pin counters depend on the slots alone. -/
theorem State.slots_pinSlots : (s.pinSlots ls b f).slots
    = ls.foldl (fun z l => Tab.update {} z l (fun y => y.setPin b (f (y.pin b)))) s.slots :=
  (List.foldl_hom State.slots fun _ _ => rfl).symm

theorem State.serv_pinSlots (ctx : Nat) : (s.pinSlots ls b f).serv ctx = s.serv ctx := by
  refine State.foldl_unchanged (State.serv · ctx) (fun _ _ => ?_) _ s
  rfl

theorem State.pinSlots_frame : ∃ z, s.pinSlots ls b f = { s with slots := z } :=
  List.foldlRecOn (motive := fun t : State => ∃ z, t = { s with slots := z }) ls _ ⟨_, rfl⟩
    fun t ht l _ => by obtain ⟨z, rfl⟩ := ht; exact ⟨_, rfl⟩

end

/-! ### BATCH_CMD (R257) -/

/-- A batch as it is accepted. -/
def Serving.accept (v : Serving) (x : Nat) : Serving :=
  { v with
    lastSeq := some (batchSeq x)
    batches := v.batches ++ [{ image := x, result := batchResult v.record x }] }

/-- A batch is refused with reason 2 while two are accepted. -/
theorem State.batches_lt_of_batchReason {s : State} {ctx x : Nat} (h : s.batchReason ctx x = 0) :
    (s.serv ctx).batches.length < 2 := by
  by_contra hfull
  have hfull : 2 ≤ (s.serv ctx).batches.length := not_lt.1 hfull
  unfold State.batchReason at h
  simp only [hfull, if_true] at h
  split at h <;> exact absurd h (by decide)

section
variable {s : State} {path ctx : Nat} (hp : path < 18) (hc : ctx < 64) (ha : s.access path (servIdx ctx) = 0)
  (hb : s.obj (okey (servIdx ctx) 8) ≠ 1)
include hp hc ha hb

theorem exec_batchSubmit_refused (hr : s.batchReason ctx (s.pobj path (okey (servIdx ctx) 7)) ≠ 0) :
    exec (.batchSubmit path ctx) s = .next ((s.setObj (okey (servIdx ctx) 9)
      (s.batchReason ctx (s.pobj path (okey (servIdx ctx) 7)))).setObj (okey (servIdx ctx) 8) 3) :=
  (servRow_served (by decide) hp hc ha hb _).trans (congrArg _ (if_pos hr))

theorem exec_batchSubmit_accepted (hr : s.batchReason ctx (s.pobj path (okey (servIdx ctx) 7)) = 0) :
    exec (.batchSubmit path ctx) s = .next (((s.setObj (okey (servIdx ctx) 9) 0).updServ ctx
      (·.accept (s.pobj path (okey (servIdx ctx) 7)))).setObj (okey (servIdx ctx) 8) 2) := by
  refine (servRow_served (by decide) hp hc ha hb _).trans (congrArg _ ((if_neg (not_not.2 hr)).trans ?_))
  rw [hr]
  rfl

end

/-! ### Joins (R260) -/

/-- From `s` to `t` joins of a context have been processed, of which n were deferred: reservations have been added and tier
space written, and each deferral has counted. -/
structure State.Joined (s : State) (ctx n : Nat) (t : State) : Prop where
  frame : ∃ o v f m l d x h,
    t = { s with objs := o, serving := v, frames := f, tmap := m, landing := l, ddr := d, flash := x, host := h }
  serv : ∃ kv, t.serv ctx = { s.serv ctx with kv := kv }
  deferrals : t.obj (okey (servIdx ctx) 0x0E)
    = if n = 0 then s.obj (okey (servIdx ctx) 0x0E) else (s.obj (okey (servIdx ctx) 0x0E) + n) % 2 ^ 32
  objs : ∀ k, k ≠ okey (servIdx ctx) 0x0E → t.obj k = s.obj k

theorem State.Joined.refl (s : State) (ctx : Nat) : s.Joined ctx 0 s :=
  ⟨⟨_, _, _, _, _, _, _, _, rfl⟩, ⟨_, rfl⟩, rfl, fun _ _ => rfl⟩

theorem State.Joined.trans {s t u : State} {ctx n m : Nat} (h : s.Joined ctx n t) (h' : t.Joined ctx m u) :
    s.Joined ctx (m + n) u where
  frame := by
    obtain ⟨_, _, _, _, _, _, _, _, rfl⟩ := h.frame
    obtain ⟨o, v, f, w, l, d, x, y, rfl⟩ := h'.frame
    exact ⟨o, v, f, w, l, d, x, y, rfl⟩
  serv := by
    obtain ⟨_, hs⟩ := h.serv
    obtain ⟨kv, ht⟩ := h'.serv
    exact ⟨kv, by rw [ht, hs]⟩
  deferrals := by
    rw [h'.deferrals, h.deferrals]
    rcases Nat.eq_zero_or_pos m with rfl | hm
    · rw [if_pos rfl, Nat.zero_add]
    · have hsum : m + n ≠ 0 := by omega
      rw [if_neg hm.ne', if_neg hsum]
      split
      · next hn => rw [hn, Nat.add_zero]
      · rw [Nat.mod_add_mod, Nat.add_assoc, Nat.add_comm n m]
  objs k hk := (h'.objs k hk).trans (h.objs k hk)

section
variable {s t : State} {ctx n : Nat} (h : s.Joined ctx n t)
include h

theorem State.Joined.posts : t.posts = s.posts := by
  obtain ⟨_, _, _, _, _, _, _, _, rfl⟩ := h.frame
  rfl

theorem State.Joined.cores : t.cores = s.cores := by
  obtain ⟨_, _, _, _, _, _, _, _, rfl⟩ := h.frame
  rfl

theorem State.Joined.slots : t.slots = s.slots := by
  obtain ⟨_, _, _, _, _, _, _, _, rfl⟩ := h.frame
  rfl

end

/-- Writes to tier space are no part of the sequencer. -/
theorem State.TierWritten.joined {s t : State} (h : s.TierWritten t) (ctx : Nat) : s.Joined ctx 0 t := by
  obtain ⟨m, l, d, x, y, rfl⟩ := h.frame
  exact ⟨⟨_, _, _, _, _, _, _, _, rfl⟩, ⟨_, rfl⟩, rfl, fun _ _ => rfl⟩

theorem State.Joined.write {s t u : State} {ctx n : Nat} (h : s.Joined ctx n t) (h' : t.TierWritten u) :
    s.Joined ctx n u := Nat.zero_add n ▸ h.trans (h'.joined ctx)

theorem State.joined_deferral (s : State) (ctx : Nat) : s.Joined ctx 1 (s.addObj (okey (servIdx ctx) 0x0E) 32 1) :=
  ⟨⟨_, _, _, _, _, _, _, _, rfl⟩, ⟨_, rfl⟩, State.obj_addObj_same .., fun _ hk => State.obj_addObj_other _ _ _ hk⟩

theorem State.stageJoin_frame (s : State) (ctx : Nat) (pairs : List (Nat × Nat)) :
    ∃ m f, s.stageJoin ctx pairs = { s with tmap := m, frames := f } :=
  List.foldlRecOn (motive := fun t : State => ∃ m f, t = { s with tmap := m, frames := f }) pairs _ ⟨_, _, rfl⟩
    fun t ht e _ => by obtain ⟨m, f, rfl⟩ := ht; exact ⟨_, _, rfl⟩

theorem State.joined_reservation (s : State) (ctx q : Nat) (pairs : List (Nat × Nat)) :
    s.Joined ctx 0 ((s.stageJoin ctx pairs).updServ ctx (fun v => { v with kv := v.kv ++ [(q, pairs)] })) := by
  obtain ⟨m, f, h⟩ := s.stageJoin_frame ctx pairs
  rw [h]
  exact ⟨⟨_, _, _, _, _, _, _, _, rfl⟩, ⟨_, State.serv_updServ_same ..⟩, rfl, fun _ _ => rfl⟩

/-- Each slot that joins takes its frames or is deferred. -/
theorem State.joins_joined (s : State) (ctx record x : Nat) (order qs : List Nat) :
    s.Joined ctx (s.joins ctx record x order qs).2.length (s.joins ctx record x order qs).1 := by
  induction qs generalizing s with
  | nil => exact .refl s ctx
  | cons q qs ih =>
    rw [State.joins]
    dsimp only
    split
    · exact (s.joined_deferral ctx).trans (ih _)
    · exact (s.joined_reservation ctx q _).trans (ih _)

/-! ### BATCH_ADMIT (R258) -/

/-- The weight version that a batch admitted now takes (R258). -/
def State.nextVersion (s : State) (ctx : Nat) : Nat :=
  if (s.serv ctx).switch then s.obj (okey (servIdx ctx) 2) else s.wver ctx

/-- The version of a batch becomes WVER, a pending switch is done, and the serving slots' buffers of it are pinned (R258). -/
def State.takeVersion (s : State) (ctx w : Nat) : State :=
  (((s.setObj (okey (servIdx ctx) 1) w).setObj (okey (servIdx ctx) 2) w).updServ ctx (fun v =>
    { v with switch := false })).pinSlots (s.servSlots ctx) (w % 2) (· + 1)

/-- A result that reads NOT_READY, with its counts clear (R258, R266). -/
def State.clearResult (s : State) (r : Nat) : State :=
  (List.range 5).foldl (fun t k => t.setObj (okey (0x2400 + r) (k + 1)) 0) s

section
variable (s : State) (ctx w r : Nat)

theorem State.takeVersion_frame : ∃ o v z, s.takeVersion ctx w = { s with objs := o, serving := v, slots := z } := by
  obtain ⟨z, h⟩ := State.pinSlots_frame (((s.setObj (okey (servIdx ctx) 1) w).setObj
    (okey (servIdx ctx) 2) w).updServ ctx (fun v => { v with switch := false })) (s.servSlots ctx) (w % 2) (· + 1)
  exact ⟨_, _, z, h⟩

theorem State.posts_takeVersion : (s.takeVersion ctx w).posts = s.posts := by
  obtain ⟨_, _, _, h⟩ := s.takeVersion_frame ctx w
  rw [h]

theorem State.cores_takeVersion : (s.takeVersion ctx w).cores = s.cores := by
  obtain ⟨_, _, _, h⟩ := s.takeVersion_frame ctx w
  rw [h]

theorem State.slots_takeVersion :
    (s.takeVersion ctx w).slots = (s.pinSlots (s.servSlots ctx) (w % 2) (· + 1)).slots :=
  (State.slots_pinSlots ..).trans (s.slots_pinSlots ..).symm

theorem State.serv_takeVersion : (s.takeVersion ctx w).serv ctx = { s.serv ctx with switch := false } :=
  (State.serv_pinSlots ..).trans (State.serv_updServ_same ..)

theorem State.wver_takeVersion : (s.takeVersion ctx w).wver ctx = w :=
  (State.obj_pinSlots ..).trans ((State.obj_setObj_other _ _ (servObj_ne (by decide))).trans (State.obj_setObj_same ..))

theorem State.obj_takeVersion_other {k : Nat} (h1 : k ≠ okey (servIdx ctx) 1) (h2 : k ≠ okey (servIdx ctx) 2) :
    (s.takeVersion ctx w).obj k = s.obj k :=
  (State.obj_pinSlots ..).trans ((State.obj_setObj_other _ _ h2).trans (State.obj_setObj_other _ _ h1))

theorem State.serv_clearResult (c : Nat) : (s.clearResult r).serv c = s.serv c := rfl

theorem State.obj_clearResult {k : Nat} (h1 : 1 ≤ k) (h5 : k ≤ 5) : (s.clearResult r).obj (okey (0x2400 + r) k) = 0 := by
  rw [State.clearResult, State.obj_foldl_setObj (fun k => okey (0x2400 + r) (k + 1))]
  exact if_pos ⟨k - 1, List.mem_range.2 (by omega), by rw [Nat.sub_add_cancel h1]⟩

theorem State.obj_clearResult_serv {j : Nat} (hc : ctx < 64) (hj : j < 256) :
    (s.clearResult r).obj (okey (servIdx ctx) j) = s.obj (okey (servIdx ctx) j) := by
  rw [State.clearResult, State.obj_foldl_setObj (fun k => okey (0x2400 + r) (k + 1))]
  refine if_neg fun ⟨q, hq, he⟩ => ?_
  have hq : q < 5 := List.mem_range.1 hq
  exact servObj_ne_result hc (by omega) hj he

end

/-- The bitmap of the sequence slots that an admission defers (R260, R266). -/
def deferredMap (deferred : List Nat) : Nat := (deferred.map (fun q => 2 ^ q)).foldl (· + ·) 0

/-- A batch as it is admitted with its version, its pins, its count of reservations and the slots deferred (R258, R260). -/
def Batch.admittedAs (b : Batch) (version : Nat) (pins : List Nat) (active : Nat) (deferred : List Nat) : Batch :=
  { b with
    admitted := true, version := version, pins := pins, active := active, deferred := deferred.length
    defMap := deferredMap deferred }

section
variable {s : State} {ctx : Nat} (order : List Nat)

theorem batchRows_empty (h : (s.serv ctx).batches = []) :
    batchAdmit s ctx order = s ∧ slotTokenPost s ctx = s ∧ batchComplete s ctx = s := by
  unfold batchAdmit slotTokenPost batchComplete
  simp only [h, and_self]

variable {b : Batch} {rest : List Batch} (hb : (s.serv ctx).batches = b :: rest)
include hb

theorem batchAdmit_idle (h : (s.serv ctx).on = false ∨ b.admitted = true ∨ s.dieRuns = false) :
    batchAdmit s ctx order = s := by
  unfold batchAdmit
  simp only [hb]
  refine if_pos ?_
  rcases h with h | h | h <;> simp [h]

/-- The oldest batch takes its version, its joins and the table, then its result, and BSTART follows. -/
theorem batchAdmit_admits (hon : (s.serv ctx).on = true) (hadm : b.admitted = false) (hd : s.dieRuns = true) :
    ∃ (u : State) (ds : List Nat), (s.takeVersion ctx (s.nextVersion ctx)).Joined ctx ds.length u
      ∧ batchAdmit s ctx order = ((u.clearResult b.result).updServ ctx (fun v => { v with
          batches := b.admittedAs (s.nextVersion ctx) (s.servSlots ctx) (u.serv ctx).kv.length ds :: v.batches.drop 1 })).seqPost
        ctx (servBstartUnit (s.serv ctx).record) (servBstartCtr (s.serv ctx).record) := by
  set s1 := s.takeVersion ctx (s.nextVersion ctx)
  set j := s1.joins ctx (s.serv ctx).record b.image order ((List.range 256).filter (batchJoin b.image))
  set table := (List.range (servMaxSeq (s.serv ctx).record)).flatMap (fun q => (j.1.serv ctx).tableEntry b.image q j.2)
  have hjoin : s1.Joined ctx j.2.length j.1 := s1.joins_joined ..
  have hwrite := j.1.tierWriteBytes_tierWritten (64 * servBtable (s.serv ctx).record) table
  have hkv : (j.1.tierWriteBytes (64 * servBtable (s.serv ctx).record) table).serv ctx = j.1.serv ctx := by
    obtain ⟨_, _, _, _, _, h⟩ := hwrite.frame
    rw [h]
    rfl
  refine ⟨_, j.2, hjoin.write hwrite, ?_⟩
  rw [hkv]
  unfold batchAdmit
  simp only [hb, hon, hadm, hd]
  rfl

end

/-! ### SLOT_TOKEN_POST (R259) -/

section
variable {s : State} {ctx : Nat} {b : Batch} {rest : List Batch} (hb : (s.serv ctx).batches = b :: rest)
include hb

theorem slotTokenPost_idle (h : b.admitted = false ∨ s.dieRuns = false ∨ b.pins.length ≤ b.posted
    ∨ (s.serv ctx).holds (b.pins.getD b.posted 0) b.version = false) : slotTokenPost s ctx = s := by
  unfold slotTokenPost
  simp only [hb]
  split
  · rfl
  · next l hl =>
    obtain ⟨hlt, -⟩ := List.getElem?_eq_some_iff.1 hl
    have hget : b.pins.getD b.posted 0 = l := by rw [List.getD_eq_getElem?_getD, hl]; rfl
    rw [hget] at h
    refine if_pos ?_
    rcases h with h | h | h | h
    · simp [h]
    · simp [h]
    · omega
    · simp [h]

theorem slotTokenPost_posts (hadm : b.admitted = true) (hd : s.dieRuns = true) (hlt : b.posted < b.pins.length)
    (hold : (s.serv ctx).holds (b.pins.getD b.posted 0) b.version = true) :
    slotTokenPost s ctx = (s.updServ ctx (fun v => { v with
        batches := { b with posted := b.posted + 1 } :: rest })).seqPost ctx
      (slotPostUnit (s.slot (b.pins.getD b.posted 0)).image) (slotPostCtr (s.slot (b.pins.getD b.posted 0)).image) := by
  have hl : b.pins[b.posted]? = some (b.pins.getD b.posted 0) := by
    rw [List.getD_eq_getElem?_getD, List.getElem?_eq_getElem hlt]; rfl
  unfold slotTokenPost
  simp only [hb, hl, hadm, hd, hold]
  rfl

end

/-! ### BATCH_COMPLETE (R262) -/

theorem State.dropKv_frame (s : State) (ctx q : Nat) : ∃ m f, s.dropKv ctx q
    = State.updServ { s with tmap := m, frames := f } ctx (fun v => { v with kv := v.kv.filter (fun e => e.1 ≠ q) }) := by
  suffices h : ∀ pairs : List (Nat × Nat), ∃ m f, pairs.foldl (fun t e => (t.updRegion e.1 (fun g =>
      { g with staged := false, dirty := false, pages := [], frame := 0 })).setFrame e.2 (.pool ctx false)) s
      = { s with tmap := m, frames := f } by
    obtain ⟨m, f, h⟩ := h _
    exact ⟨m, f, congrArg (State.updServ · ctx _) h⟩
  intro pairs
  exact List.foldlRecOn (motive := fun t : State => ∃ m f, t = { s with tmap := m, frames := f }) pairs _ ⟨_, _, rfl⟩
    fun t ht e _ => by obtain ⟨m, f, rfl⟩ := ht; exact ⟨_, _, rfl⟩

/-- The reservations of several sequence slots go: the Tier Map, the frames and the context's reservations change. -/
theorem State.foldl_dropKv_spec (s : State) (ctx : Nat) (qs : List Nat) :
    ∃ m f v, qs.foldl (fun u q => u.dropKv ctx q) s = { s with tmap := m, frames := f, serving := v }
      ∧ (qs.foldl (fun u q => u.dropKv ctx q) s).serv ctx
        = { s.serv ctx with kv := (s.serv ctx).kv.filter (fun e => !qs.contains e.1) } := by
  induction qs generalizing s with
  | nil => exact ⟨_, _, _, rfl, by simp⟩
  | cons q qs ih =>
    obtain ⟨m, f, hq⟩ := s.dropKv_frame ctx q
    have hserv : (s.dropKv ctx q).serv ctx
        = { s.serv ctx with kv := (s.serv ctx).kv.filter (fun e => e.1 ≠ q) } := by
      rw [hq]
      exact State.serv_updServ_same ..
    obtain ⟨m', f', v, hrest, hkv⟩ := ih (s.dropKv ctx q)
    refine ⟨m', f', v, ?_, ?_⟩
    · rw [List.foldl_cons, hrest, hq]
      rfl
    · rw [List.foldl_cons, hkv, hserv]
      simp [List.filter_filter, Bool.and_comm]

/-- RES_WORD of a completed batch: READY with its counts and the low bits of its number (R266). -/
def Batch.word (b : Batch) : Nat := 2 ^ 30 + b.active * 2 ^ 21 + b.deferred * 2 ^ 12 + batchSeq b.image % 4096

/-- A batch's result is written (R262, R266). -/
def State.putResult (s : State) (b : Batch) : State :=
  (((s.setObj (okey (0x2400 + b.result) 1) b.word).setObj (okey (0x2400 + b.result) 2) (batchSeq b.image)).setObj
    (okey (0x2400 + b.result) 3) b.version).setObj (okey (0x2400 + b.result) 4) b.defMap

theorem State.serv_putResult (s : State) (b : Batch) (ctx : Nat) : (s.putResult b).serv ctx = s.serv ctx := by
  rw [State.putResult, State.serv_setObj, State.serv_setObj, State.serv_setObj, State.serv_setObj]

theorem State.slots_putResult (s : State) (b : Batch) : (s.putResult b).slots = s.slots := by
  rw [State.putResult, State.setObj_slots, State.setObj_slots, State.setObj_slots, State.setObj_slots]

theorem State.obj_putResult (s : State) (b : Batch) : let t := s.putResult b
    t.obj (okey (0x2400 + b.result) 1) = b.word ∧ t.obj (okey (0x2400 + b.result) 2) = batchSeq b.image
    ∧ t.obj (okey (0x2400 + b.result) 3) = b.version ∧ t.obj (okey (0x2400 + b.result) 4) = b.defMap := by
  simp [State.putResult, State.obj_setObj, okey_same_index]

theorem State.obj_putResult_serv (s : State) (b : Batch) {ctx j : Nat} (hc : ctx < 64) (hj : j < 256) :
    (s.putResult b).obj (okey (servIdx ctx) j) = s.obj (okey (servIdx ctx) j) := by
  have hne : ∀ i, i < 256 → okey (servIdx ctx) j ≠ okey (0x2400 + b.result) i := fun i hi => servObj_ne_result hc hi hj
  rw [State.putResult, State.obj_setObj_other _ _ (hne 4 (by decide)), State.obj_setObj_other _ _ (hne 3 (by decide)),
    State.obj_setObj_other _ _ (hne 2 (by decide)), State.obj_setObj_other _ _ (hne 1 (by decide))]

/-- A completed batch lets its pins and the leaving reservations go (R262). -/
def State.releaseBatch (s : State) (ctx : Nat) (b : Batch) : State :=
  ((List.range 256).filter (batchLeave b.image)).foldl (fun u q => u.dropKv ctx q)
    (s.pinSlots b.pins (b.version % 2) (· - 1))

section
variable (s : State) (ctx : Nat) (b : Batch)

theorem State.obj_releaseBatch (k : Nat) : (s.releaseBatch ctx b).obj k = s.obj k :=
  (State.foldl_unchanged (State.obj · k) (fun t q => t.obj_dropKv ctx q k) _ _).trans (s.obj_pinSlots ..)

theorem State.slots_releaseBatch :
    (s.releaseBatch ctx b).slots = (s.pinSlots b.pins (b.version % 2) (· - 1)).slots := by
  obtain ⟨_, _, _, h, -⟩ := (s.pinSlots b.pins (b.version % 2) (· - 1)).foldl_dropKv_spec ctx
    ((List.range 256).filter (batchLeave b.image))
  rw [State.releaseBatch, h]

theorem State.serv_releaseBatch : (s.releaseBatch ctx b).serv ctx = { s.serv ctx with
    kv := (s.serv ctx).kv.filter (fun e => !(e.1 < 256 && batchLeave b.image e.1)) } := by
  obtain ⟨_, _, _, -, h⟩ := (s.pinSlots b.pins (b.version % 2) (· - 1)).foldl_dropKv_spec ctx
    ((List.range 256).filter (batchLeave b.image))
  have hleave : ∀ q, ((List.range 256).filter (batchLeave b.image)).contains q
      = (decide (q < 256) && batchLeave b.image q) := fun q => by
    rw [Bool.eq_iff_iff]
    simp
  rw [State.releaseBatch, h, State.serv_pinSlots]
  simp only [hleave]

end

/-- The interrupt of a completed batch (R262). -/
def State.signalResult (s : State) (record : Nat) : State :=
  if servMsixEn record then s.signal (servMsixVec record) else s

theorem State.signalResult_frame (s : State) (record : Nat) :
    ∃ o p, s.signalResult record = { s with out := o, msixPend := p } := by
  unfold State.signalResult
  split
  · exact s.signal_frame _
  · exact ⟨_, _, rfl⟩

section
variable (s : State) (record : Nat)

theorem State.obj_signalResult (k : Nat) : (s.signalResult record).obj k = s.obj k := by
  obtain ⟨_, _, h⟩ := s.signalResult_frame record
  rw [h]; rfl

theorem State.serv_signalResult (ctx : Nat) : (s.signalResult record).serv ctx = s.serv ctx := by
  obtain ⟨_, _, h⟩ := s.signalResult_frame record
  rw [h]; rfl

theorem State.slots_signalResult : (s.signalResult record).slots = s.slots := by
  obtain ⟨_, _, h⟩ := s.signalResult_frame record
  rw [h]

end

/-- The running batch completes: what it held is released, its result written and signalled, and it is counted
(R262, R268). -/
def State.completeBatch (s : State) (ctx : Nat) (b : Batch) (rest : List Batch) : State :=
  ((((s.releaseBatch ctx b).putResult b).signalResult (s.serv ctx).record).updServ ctx (fun v =>
    { v with batches := rest })).addObj (okey (servIdx ctx) 0x0F) 64 1

section
variable (s : State) {ctx : Nat} (b : Batch) (rest : List Batch)

theorem State.serv_completeBatch : (s.completeBatch ctx b rest).serv ctx = { s.serv ctx with
    batches := rest, kv := (s.serv ctx).kv.filter (fun e => !(e.1 < 256 && batchLeave b.image e.1)) } := by
  rw [State.completeBatch, State.serv_addObj, State.serv_updServ_same, State.serv_signalResult, State.serv_putResult,
    State.serv_releaseBatch]

theorem State.slots_completeBatch :
    (s.completeBatch ctx b rest).slots = (s.pinSlots b.pins (b.version % 2) (· - 1)).slots := by
  rw [State.completeBatch, State.addObj_slots, State.slots_updServ, State.slots_signalResult, State.slots_putResult,
    State.slots_releaseBatch]

theorem State.obj_completeBatch_result (hc : ctx < 64) {k : Nat} (hk : k < 256) :
    (s.completeBatch ctx b rest).obj (okey (0x2400 + b.result) k)
      = ((s.releaseBatch ctx b).putResult b).obj (okey (0x2400 + b.result) k) := by
  rw [State.completeBatch, State.obj_addObj_other _ _ _ (servObj_ne_result hc hk (by decide)).symm, State.obj_updServ,
    State.obj_signalResult]

theorem State.obj_completeBatch_count (hc : ctx < 64) : (s.completeBatch ctx b rest).obj (okey (servIdx ctx) 0x0F)
    = (s.obj (okey (servIdx ctx) 0x0F) + 1) % 2 ^ 64 := by
  rw [State.completeBatch, State.obj_addObj_same, State.obj_updServ, State.obj_signalResult,
    State.obj_putResult_serv _ _ hc (by decide), State.obj_releaseBatch]

end

section
variable {s : State} {ctx : Nat} {b : Batch} {rest : List Batch} (hb : (s.serv ctx).batches = b :: rest)
include hb

theorem batchComplete_idle (h : b.admitted = false ∨ b.bdone ≠ servBdoneN (s.serv ctx).record
    ∨ (s.ctx ctx).held = true ∨ s.dieRuns = false) : batchComplete s ctx = s := by
  unfold batchComplete
  simp only [hb]
  refine if_pos ?_
  rcases h with h | h | h | h <;> simp [h]

theorem batchComplete_completes (hadm : b.admitted = true) (hn : b.bdone = servBdoneN (s.serv ctx).record)
    (hh : (s.ctx ctx).held = false) (hd : s.dieRuns = true) :
    batchComplete s ctx = s.completeBatch ctx b rest := by
  unfold batchComplete
  simp only [hb, hadm, hn, hh, hd, ne_eq, not_true_eq_false]
  rfl

end

/-! ### RES_ACK and RES_WORD (R267) -/

section
variable {s : State} {path r : Nat} (hp : path < 18) (hr : r < 1024) (ha : s.access path (0x2400 + r) = 0)
include hp hr ha

theorem exec_resAck_served {v : Nat} (hv : v < 2 ^ 32) : exec (.resAck path r v) s = .next (
    if (s.resState r = 1 ∨ s.resState r = 2) ∧ s.obj (okey (0x2400 + r) 2) = v then
      s.setObj (okey (0x2400 + r) 1) (2 ^ 31 + s.obj (okey (0x2400 + r) 1) % 2 ^ 30)
    else (s.dictRefuse path (okey (0x2400 + r) 6) 8).refuse 0x5014 none 0) := by
  have hw : wellFormed (.resAck path r v) = true := by
    simpa [wellFormed, pathOk, u32, hp, hr] using hv
  refine (need_ok hw _).trans (congrArg _ ((if_neg (not_not.2 ha)).trans ?_))
  simp only [Bool.and_eq_true, Bool.or_eq_true, decide_eq_true_eq]
  rfl

theorem exec_resWordRead_served : exec (.resWordRead path r) s = .next (
    if s.resState r = 1 ∨ s.resState r = 2 then
      s.setObj (okey (0x2400 + r) 5) (min 65535 (s.obj (okey (0x2400 + r) 5) + 1))
    else s) := by
  have hw : wellFormed (.resWordRead path r) = true := by simp [wellFormed, pathOk, hp, hr]
  refine (need_ok hw _).trans (congrArg _ ((if_neg (not_not.2 ha)).trans ?_))
  simp only [Bool.or_eq_true, decide_eq_true_eq]

end

/-! ### The statement -/

/-- Settles O42: submission by its two equations, the rows of the running batch by what each does to the sequencer, its
objects, slots and posts, and RES_ACK and RES_WORD by their equations. -/
theorem batchesAreAdmittedAndReported : Obligations.BatchesAreAdmittedAndReported := by
  refine ⟨?submit, ?run, ?results⟩
  case submit =>
    intro s path ctx hp hc ha hb i x r
    refine ⟨exec_batchSubmit_refused hp hc ha hb, fun hr =>
      ⟨_, exec_batchSubmit_accepted hp hc ha hb hr, rfl, ?_, State.obj_setObj_same .., ?_⟩⟩
    · exact (State.obj_setObj_other _ _ (servObj_ne (by decide))).trans (State.obj_setObj_same ..)
    · have hlen := State.batches_lt_of_batchReason hr
      rw [State.serv_setObj, State.serv_updServ_same, State.serv_setObj]
      refine ⟨rfl, ?_⟩
      rw [Serving.accept, List.length_append]
      exact Nat.succ_le_of_lt hlen
  case run =>
    intro s ctx order hc v w
    have hadmit : exec (.batchAdmit ctx order) s = .next (batchAdmit s ctx order) := need_ok (decide_eq_true hc) _
    have hpost : exec (.slotTokenPost ctx) s = .next (slotTokenPost s ctx) := need_ok (decide_eq_true hc) _
    have hdone : exec (.batchComplete ctx) s = .next (batchComplete s ctx) := need_ok (decide_eq_true hc) _
    rw [hadmit, hpost, hdone]
    refine ⟨fun h => ?_, fun b rest hb => ?_⟩
    · obtain ⟨hadmit, hpost, hdone⟩ := batchRows_empty order h
      rw [hadmit, hpost, hdone]
      exact ⟨rfl, rfl, rfl⟩
    intro i x
    refine ⟨fun h => congrArg _ (batchAdmit_idle order hb h), fun hon hadm hd => ?admits,
      fun h => congrArg _ (slotTokenPost_idle hb h),
      fun hadm hd hlt hold => congrArg _ (slotTokenPost_posts hb hadm hd hlt hold),
      fun h => congrArg _ (batchComplete_idle hb h), fun hadm hn hh hd => ?completes⟩
    case admits =>
      obtain ⟨u, ds, hj, he⟩ := batchAdmit_admits order hb hon hadm hd
      obtain ⟨kv, hserv⟩ := hj.serv
      rw [State.serv_takeVersion] at hserv
      refine ⟨_, (u.serv ctx).kv.length, ds.length, deferredMap ds, congrArg _ he, ?_⟩
      rw [State.serv_seqPost, State.serv_updServ_same, State.serv_clearResult]
      refine ⟨?wver, congrArg Serving.switch hserv, ?batches, rfl, ?deferred, ?slots, fun k h1 h5 => ?result, ?posts⟩
      case wver =>
        rw [State.wver, State.obj_seqPost, State.obj_updServ, u.obj_clearResult_serv ctx b.result hc (by decide),
          hj.objs _ (servObj_ne (by decide))]
        exact s.wver_takeVersion ctx w
      case batches => rw [hserv, hb]; rfl
      case deferred =>
        rw [State.obj_seqPost, State.obj_updServ, u.obj_clearResult_serv ctx b.result hc (by decide), hj.deferrals,
          State.obj_takeVersion_other _ _ _ (servObj_ne (by decide)) (servObj_ne (by decide))]
      case slots => exact hj.slots.trans (s.slots_takeVersion ctx w)
      case result =>
        rw [State.obj_seqPost, State.obj_updServ]
        exact u.obj_clearResult b.result h1 h5
      case posts =>
        have hcores : u.cores = s.cores := hj.cores.trans (s.cores_takeVersion ctx w)
        refine (State.posts_seqPost ..).trans ?_
        rw [State.unitOwner_congr (t := (u.clearResult b.result).updServ ctx _) hcores]
        exact congrArg (· ++ _) (hj.posts.trans (s.posts_takeVersion ctx w))
    case completes =>
      obtain ⟨hword, hseq, hversion, hmap⟩ := (s.releaseBatch ctx b).obj_putResult b
      refine ⟨_, congrArg _ (batchComplete_completes hb hadm hn hh hd), ?_⟩
      rw [State.serv_completeBatch, State.slots_completeBatch, State.obj_completeBatch_count _ _ _ hc,
        s.obj_completeBatch_result b rest hc (by decide), s.obj_completeBatch_result b rest hc (by decide),
        s.obj_completeBatch_result b rest hc (by decide), s.obj_completeBatch_result b rest hc (by decide)]
      exact ⟨rfl, rfl, rfl, hword, hseq, hversion, hmap, rfl⟩
  case results =>
    intro s path r v hp hr hv ha k shown reads
    rw [exec_resAck_served hp hr ha hv, exec_resWordRead_served hp hr ha]
    refine ⟨fun hs hn => congrArg _ (if_pos ⟨hs, hn⟩), fun h => congrArg _ (if_neg ?_), fun hs => congrArg _ (if_pos hs),
      fun hs => congrArg _ (if_neg hs)⟩
    exact fun ⟨hs, hn⟩ => h.elim (· hs) (· hn)

end Sys2Proof.Machine
